-- ==== Sys2Proof/Word.lean ====
section
/-!
DEFINITION. The words of the module: 64-bit register words, bytes, and the 32-bit origin tag (R11, R10, R23).
-/
namespace Sys2Proof

/-- A control register, a record word (R10, R11). -/
abbrev Word := BitVec 64

/-- One byte. -/
abbrev Byte := BitVec 8

end Sys2Proof
end

