-- ==== Sys2Proof/Types.lean ====
section
/-!
DEFINITION. The operand types of the commands: what reaches the module from outside (TLPs, frames, readings) and what a command
names (units, agents, operand forms). The table's rows give no bits, so the operands are the model's own reading of each row.
-/
namespace Sys2Proof

/-- An origin tag (R23): FID [3:0], PT [9:4], FN [22:10], ENG [26:23], PRIV [28:27]. -/
abbrev Origin := BitVec 32

/-- Kinds of PCI Express TLPs the clear path routes (R24, R224). -/
inductive TlpKind where
  | memRd | memWr | atomic | io | cfg | msgToRoot | msgFromRoot | msgById | msgLocal | cpl
  deriving DecidableEq, Repr

/-- Completion status values (R24, R32, R235). -/
inductive CplStatus where
  | sc | ur | crs | ca
  deriving DecidableEq, Repr

/-- A TLP as its header and payload give it. `len` is the length of the whole TLP in bytes (R6, R42); `count` is the number of
bytes a memory request asks for or carries; `rid` and `tag` name the request; `dest` is the ID of an ID-routed TLP;
`translated` is the address-type field of ACS Translation Blocking (R227); `ep` marks poisoned data; `type1` tells a configuration
request of Type 1 from one of Type 0 (R224); `ro` is the Relaxed Ordering attribute (R73). -/
structure Tlp where
  kind : TlpKind
  addr : Nat
  rid : Nat
  tag : Nat
  dest : Nat
  cls : Fin 8
  len : Nat
  count : Nat
  status : CplStatus
  translated : Bool
  ep : Bool
  data : List Byte
  type1 : Bool
  ro : Bool
  deriving DecidableEq, Repr

/-- Transaction types of the transmit staging (R229). -/
inductive PType where
  | posted | nonPosted | completion
  deriving DecidableEq, Repr

/-- PCI Express errors a port detects (R360), with the bit position in the bridge's AER status register (R468). -/
inductive PcieErr where
  | corr (bit : Fin 32)
  | uncorr (bit : Fin 32)
  | fatal (bit : Fin 32)
  deriving DecidableEq, Repr

/-- An error a crucible read finds (R56): in word `word` of gob `gob` with `bits` wrong bits, in the link entry of that gob's
cell, or in the packet record. -/
inductive CellErr where
  | data (gob : Nat) (word : Fin 32) (bits : Nat)
  | link (gob : Nat)
  | record
  deriving DecidableEq, Repr

/-- 64-bit atomic operations of the gather-store controller (R124, R173). -/
inductive AtomOp where
  | fadd | swap | cas | and | or | xor | umin | umax
  deriving DecidableEq, Repr

/-- An access to the gather store: a read of `n` bytes, a write, or an atomic of `size` bytes with its operand and compare value
(R111 to R113, R124). -/
inductive GstAcc where
  | read (n : Nat)
  | write (data : List Byte)
  | atomic (op : AtomOp) (size : Nat) (operand compare : Word)
  deriving DecidableEq, Repr

/-- Who waits for admission to the crucible (R45): a receive buffer of a port, a class of the endpoint port, or a delivery. -/
inductive Waiter where
  | port (p : Fin 256) (c : Fin 8)
  | endpoint (c : Fin 8)
  | delivery (d : Nat)
  deriving DecidableEq, Repr

/-- A unit that faults and holds name (R358). -/
inductive Party where
  | module
  | port (p : Fin 256)
  | partition (pt : Fin 64)
  | queue (q : Fin 65536)
  | function (f : Fin 4097)
  | fabric (f : Fin 16)
  | core (c : Fin 32)
  | slot (k : Fin 32)
  | feed (x : Fin 2)
  | monitor (i : Fin 80)
  deriving DecidableEq, Repr

/-- Who executes an instruction (R162): a logical Gaffer core, or the Jack lane of a request. -/
inductive Agent where
  | core (c : Fin 32)
  | lane (l : Fin 256)
  deriving DecidableEq, Repr

/-- An issuer of an instruction, and the bits that its syllable has set in reserved fields and in fields the instruction does not name
(R165). -/
structure By (α : Type) where
  who : α
  rsv : BitVec 40
  deriving DecidableEq, Repr

/-- What training found of the lanes of a PCI Express port: lanes of inverted polarity, the coefficients the partner asks of each lane, and
the directions in L0s. -/
structure PcieLanes where
  invert : BitVec 16
  eq : List (Fin 64 × Fin 64 × Fin 64)
  l0sTx : Bool
  l0sRx : Bool
  deriving DecidableEq, Repr

/-- A logical lane of a link. -/
structure LinkLane where
  port : Fin 256
  lane : Fin 16
  deriving DecidableEq, Repr

/-- How a host's request is answered: its requester ID, its tag and its traffic class. -/
structure Txn where
  rid : BitVec 16
  tag : BitVec 10
  cls : Fin 8
  deriving DecidableEq, Repr

/-- Who writes or reads a register: the host through a BAR of a function, or a Gaffer core (R11, R13). -/
inductive Master where
  | host (o : Origin) (x : Txn)
  | core (c : Fin 32)
  deriving DecidableEq, Repr

/-- The window through which a register is reached (R11, R60, R252, R253): BAR0, with the control-register path of a core; BAR4; or the
expansion ROM. -/
inductive BarRef where
  | bar0 | bar4 | rom
  deriving DecidableEq, Repr

/-- A record of an epoch domain, as a direct write names it (R211, R212). The first four have two words. -/
inductive DirectRec where
  | mirror (i : Fin 4)
  | profile (i : Fin 4096)
  | table (t : Fin 256)
  | peer (pt : Fin 64) (w : Fin 16)
  | slot (j : Fin 4096)
  | mirrorPort (p : Fin 256)
  | role (p : Fin 256)
  | partition (pt : Fin 64)
  | node (n : Fin 18944)
  | queue (q : Fin 65536)
  deriving DecidableEq, Repr

/-- A bridge of a partition (R222). -/
inductive BridgeRef where
  | up
  | ep
  | down (p : Fin 256)
  deriving DecidableEq, Repr

/-- What a host writes in a bridge: the routing fields of R223, and the other fields that rules of the manual read: Max_Payload_Size
(R73), Secondary Bus Reset (R234), DPC Trigger Enable (R236), Power Controller Control and the events of Slot Status that a write
clears (R232). -/
inductive BridgeField where
  | bus (pri sec sub : BitVec 8)
  | mem (base limit : BitVec 64)
  | pref (base limit : BitVec 64)
  | command (mse bme : Bool)
  | acs (v : BitVec 16)
  | linkCtl (v : BitVec 16)
  | mps (code : Fin 8)
  | sbr (v : Bool)
  | dpcEn (v : Bool)
  | power (off : Bool)
  | slotClear (fault changed : Bool)
  deriving DecidableEq, Repr

/-- Target of a configuration request (R222, R241): the ID it names, or a bridge of the partition. -/
inductive CfgTarget where
  | id (dest : BitVec 16)
  | bridge (b : BridgeRef)
  deriving DecidableEq, Repr

/-- What arrives in one frame slot of a cane link (R283, R285): the 272 bytes of a frame, or a marker with the logical lanes whose
alignment word carries a number other than their own. -/
inductive CaneSlot where
  | frame (bytes : List Byte)
  | marker (bad : List (Fin 16))
  deriving DecidableEq, Repr

/-- A training word as a receiver finds it after enough good words in a row (R299): `lane` is the offset of the physical lane in the
port, 16 and 17 its spares. -/
structure TrainWord where
  lane : Fin 18
  inverted : Bool
  num : Fin 32
  fid : Fin 16
  port : Fin 256
  width : Fin 32
  maxRate : Fin 4
  ack : Bool
  spareOk : Bool
  rxFail : BitVec 16
  pre : Fin 64
  main : Fin 64
  post : Fin 64
  eqDone : Bool
  eq : Bool
  deriving DecidableEq, Repr

/-- A lease (R30): the lock of a queue, a region lock entry, the claim of the firmware or host end of a mailbox, the atomic sequence on
a 64-byte line, or the reservation of a command slot. -/
inductive LeaseRef where
  | queue (q : Fin 65536)
  | region (i : Fin 256)
  | mailbox (m : Fin 512) (host : Bool)
  | line (l : BitVec 31)
  | slot (k : Fin 16)
  deriving DecidableEq, Repr

/-- What a trim copy gives (R1, R414): the option bits, the identity of the part, and the voltage limits of monitors 24 to 63. -/
structure Trim where
  speed : Bool
  half : Bool
  rev : BitVec 8
  subsys : BitVec 16
  dsn : BitVec 64
  volts : List (Fin 40 × BitVec 16 × BitVec 16)
  deriving DecidableEq, Repr

/-- A breaker (R423): of a feed, or of a slot channel. -/
inductive Breaker where
  | feed (x : Fin 2)
  | slot (k : Fin 32)
  deriving DecidableEq, Repr

/-- A counter of TAL (R377, R382): a general counter, or fixed counter k of port p, with 256 the endpoint port. -/
inductive TallyRef where
  | general (i : Fin 512)
  | port (p : Fin 257) (k : Fin 6)
  deriving DecidableEq, Repr

end Sys2Proof
end

