-- ==== Sys2Proof/Syntax.lean ====
section
/-!
DEFINITION. The commands of the block: one constructor for each row of spec/opcode_table.json, in the table's order. A row
carries no operand bits, so the operands are what the rule of the row makes the command depend on: who sends it, which unit it
names, and the readings and contents that come from outside. An instruction is a row with its decoded fields; its issuer `By`
comes with the bits its syllable has set in reserved fields and in fields that the instruction does not name (R165).
-/
namespace Sys2Proof

/-- The commands, one per row of the table. -/
inductive Instr where
  /-- REG_WRITE (R11): A write to a control register that has no row of its own is applied by its width, field class and access codes. A write of `len` bytes at offset `a` of a window; `v`: their value, little-endian. -/
  | regWrite (m : Master) (bar : BarRef) (a : BitVec 26) (len : Fin 4097) (v : BitVec 64)
  /-- DEVICE_STORE_ACK (R134): The target block applies a device store and acknowledges it, which releases any fence waiting on it. -/
  | deviceStoreAck (c : Fin 32)
  /-- STORE_PERFORMED (R137): A buffered normal store is accepted at its target and becomes visible to all masters. Entry `i` of the store buffer, 0 the oldest. -/
  | storePerformed (c : Fin 32) (i : Fin 16)
  /-- LEASE_EXPIRED (R30): A lease deadline passes without renewal; the fault is logged and an event is raised, and the lease stays held. -/
  | leaseExpired (l : LeaseRef)
  /-- TLP_RECEIVE (R24): A TLP header reaches an ingress port; the TLP binds its forwarding epoch, is routed, and is admitted to the crucible or cut through. `credit`: the egress port holds link credit for the whole TLP; `err`: an error the port detects in it. -/
  | tlpReceive (p : Fin 256) (t : Tlp) (credit : Bool) (err : Option PcieErr)
  /-- ADMISSION_RETRY (R45): A TLP or train held for a lossless output queue retries its admission in a later beat. -/
  | admissionRetry (w : Waiter)
  /-- HOLD_TIMEOUT (R46): A hold reaches HOLD_TO; the held TLP or train is dropped and non-posted requests receive Completer Abort. -/
  | holdTimeout (p : Fin 256) (c : Fin 8)
  /-- CUT_THROUGH_ABORT (R49): A TLP that is cutting through fails at ingress; its transmission ends nullified and its cells are freed. `p`, `c`: the ingress receive buffer. -/
  | cutThroughAbort (p : Fin 256) (c : Fin 8)
  /-- EGRESS_STAGE (R229): A port moves the head packet of one class output queue into the transmit staging of that class. Port 256 is the endpoint port; bit c of `room`: the staging of class c has room. -/
  | egressStage (p : Fin 257) (room : BitVec 8)
  /-- EGRESS_TRANSMIT (R230): A transmitter chooses a class by strict priority and deficit weights and sends a staged packet, reading its cells. `lack`: types without link credit; `errs`: what the reads of the cells find. -/
  | egressTransmit (p : Fin 257) (lack : List (Fin 8 × PType)) (errs : List CellErr)
  /-- LINK_ACK (R38): The egress link layer acknowledges a packet; reference counts fall and free cells return to the free list. -/
  | linkAck (p : Fin 257)
  /-- CRU_COMMIT (R44): The reserves written since the last commit are applied as one change, or refused if S would fall below MIN_SHARED. -/
  | cruCommit (go : Bool)
  /-- CRU_RETADD (R57): Firmware retires a named cell. -/
  | cruRetadd (cell : Fin 786432) (go : Bool)
  /-- DOORBELL_WRITE (R64): A doorbell write reaches the endpoint and is dropped, refused with a status, or accepted into a submission slot. `o`: the tag of the write; `q`, `start`: the doorbell slot and the offset in it; `full`: one posted write with its bytes enabled in full. -/
  | doorbellWrite (o : Origin) (q : Fin 65536) (start : Fin 128) (data : List Byte) (full : Bool)
  /-- PAYLOAD_FETCH_START (R65): The oldest accepted descriptor of a queue obtains payload-buffer gobs; its fetch reads are issued or its inline payload copied. -/
  | payloadFetchStart (q : Fin 65536)
  /-- FETCH_READ_COMPLETION (R66): A completion for a payload fetch read arrives and its data is written to the payload buffer. `d`, `r`: the descriptor and its read. -/
  | fetchReadCompletion (q : Fin 65536) (d : Nat) (r : Nat) (status : CplStatus) (data : List Byte) (poison : Bool)
  /-- FETCH_TIMEOUT (R66): A fetch read reaches its completion timeout and ends the fetch with FETCH_ERR. -/
  | fetchTimeout (q : Fin 65536) (d : Nat) (r : Nat)
  /-- ENQUEUE_REQUEST_DISPATCH (R68): A whole payload's enqueue request is dispatched in order to a free Jack lane and binds the action epoch. -/
  | enqueueRequestDispatch (q : Fin 65536)
  /-- DEQUEUE_DECISION (R91): A scheduler pipeline starts a decision for a port node, selects service, subscriber and queue, and applies its charges. `pl`: the decision pipeline. -/
  | dequeueDecision (pl : Fin 32)
  /-- DEQUEUE_NAME (R95): A decision names its packet four beats after it started, or undoes its charges if the packet is held or dropped. -/
  | dequeueName (pl : Fin 32)
  /-- DELIVERY_READ (R73): A delivery engine's gather-store read of the payload completes and its payload writes are issued toward the ring. `flips`: wrong bits that have arisen in words of the payload buffer. -/
  | deliveryRead (d : Nat) (flips : List (Nat × Nat))
  /-- RX_HEADER_ISSUE (R73): Once every payload write of a delivery is transmitted or lost, the receive header write is issued. -/
  | rxHeaderIssue (d : Nat)
  /-- MOD_TIME_EXPIRY (R77): MOD_TIME passes since the first unreported entry and an MSI-X message is sent. -/
  | modTimeExpiry (q : Fin 65536) (rx : Bool)
  /-- QUEUE_ENABLE (R82): A QUE_STATECMD ENABLE makes a queue ACTIVE. -/
  | queueEnable (o : Origin) (q : Fin 65536) (set : Bool)
  /-- QUEUE_FREEZE (R82): A QUE_STATECMD FREEZE makes an active queue FROZEN. -/
  | queueFreeze (o : Origin) (q : Fin 65536) (set : Bool)
  /-- QUEUE_DRAIN (R82): A QUE_STATECMD DRAIN makes a queue DRAINING. -/
  | queueDrain (o : Origin) (q : Fin 65536) (set : Bool)
  /-- QUEUE_DISABLE (R82): A QUE_STATECMD DISABLE makes a drained queue DISABLED. -/
  | queueDisable (o : Origin) (q : Fin 65536) (set : Bool)
  /-- QUEUE_FLUSH (R82): A QUE_STATECMD FLUSH ends the queue's held descriptors and drops its linked packets with QUEUE_FLUSHED. -/
  | queueFlush (o : Origin) (q : Fin 65536) (set : Bool)
  /-- QUEUE_DRAINED (R81): A DRAINING queue with nothing held, in flight or linked passes to DRAINED on its own. -/
  | queueDrained (q : Fin 65536)
  /-- CTX_READ (R59): QUE_CTXCMD OP 1 copies a queue context record into QUE_CTXDATA. -/
  | ctxRead (o : Origin)
  /-- CTX_WRITE (R59): QUE_CTXCMD OP 2 writes words 0 to 2 of a disabled queue's context as one change, or is refused. -/
  | ctxWrite (o : Origin)
  /-- QUEUE_LOCK_ACQUIRE (R85): ACQUIRE grants a free queue lock to the writer's origin tag with a deadline. -/
  | queueLockAcquire (o : Origin) (q : Fin 65536) (deadline : BitVec 16)
  /-- QUEUE_LOCK_RENEW (R85): RENEW from the holder reloads the queue lock's deadline. -/
  | queueLockRenew (o : Origin) (q : Fin 65536) (deadline : BitVec 16)
  /-- QUEUE_LOCK_RELEASE (R85): RELEASE from the holder frees the queue lock. -/
  | queueLockRelease (o : Origin) (q : Fin 65536)
  /-- QUE_LOCKFORCE (R86): Every queue lock whose holder matches ORIGIN under MASK is released. -/
  | queLockforce (origin : BitVec 32) (mask : BitVec 32)
  /-- REFILL_TICK (R96): At every sixteenth beat every shaper bucket is refilled and pending SCH_SHAPE writes take effect. -/
  | refillTick
  /-- FLOW_CACHE_FILL (R105): A flow record fill from the gather store completes and the waiting meter proceeds. `flips`: wrong bits that have arisen in words of the store. -/
  | flowCacheFill (f : BitVec 20) (flips : List (Nat × Nat))
  /-- FLOW_READ (R106): POL_FLOWCMD OP 1 copies a flow record coherently into POL_FLOWDATA. -/
  | flowRead (o : Origin)
  /-- FLOW_WRITE (R106): POL_FLOWCMD OP 2 writes POL_FLOWDATA to a flow record as one change. -/
  | flowWrite (o : Origin)
  /-- FLOW_WRITEBACK (R106): POL_FLOWCMD OP 3 writes back every dirty cached flow record. -/
  | flowWriteback (o : Origin)
  /-- POOL_ACCESS (R122): A host BAR2 access is translated through the pool map and checked by its channel group's gate. `o`: the tag of the request; `flips`: wrong bits that have arisen in words of the store. -/
  | poolAccess (o : Origin) (rid : BitVec 16) (tag : BitVec 10) (cls : Fin 8) (off : BitVec 48) (acc : GstAcc) (flips : List (Nat × Nat))
  /-- GST_ACCESS (R111): The gather-store controller performs a read, write or atomic, decodes each word and reports by error weight. `remapUe`: the access meets an uncorrectable remap entry. -/
  | gstAccess (o : Origin) (a : BitVec 37) (acc : GstAcc) (flips : List (Nat × Nat)) (remapUe : Option (Fin 12288))
  /-- GST_INIT_DONE (R109): Cold-start initialisation of every page and spare block ends and INIT_DONE sets. -/
  | gstInitDone
  /-- SCRUB_STEP (R114): Every STEP beats a channel group scrubs one gob, writing back corrected or poisoned words. -/
  | scrubStep (cg : Fin 16) (flips : List (Nat × Nat))
  /-- TRACKER_WINDOW_CLOSE (R116): A block tracker entry closes WINDOW units after it opened. -/
  | trackerWindowClose (block : BitVec 25)
  /-- REMAP_COPY_DONE (R118): A retirement copy ends; the block enters the remap table and waiting accesses go to the spare. -/
  | remapCopyDone (block : BitVec 25) (flips : List (Nat × Nat))
  /-- GST_RETADD (R117): Firmware names a block to retire. -/
  | gstRetadd (block : BitVec 25) (go : Bool)
  /-- REGION_LOCK_ACQUIRE (R126): GST_LOCKCMD ACQUIRE grants a lock table entry over an aligned range if it is free and overlaps nothing. -/
  | regionLockAcquire (o : Origin) (lock : Fin 256) (base : BitVec 31) (sizeLog2 : Fin 16) (deadline : BitVec 16)
  /-- REGION_LOCK_RENEW (R127): GST_LOCKCMD RENEW from the holder reloads the region lock deadline. -/
  | regionLockRenew (o : Origin) (lock : Fin 256) (deadline : BitVec 16)
  /-- REGION_LOCK_RELEASE (R127): GST_LOCKCMD RELEASE from the holder frees the lock entry. -/
  | regionLockRelease (o : Origin) (lock : Fin 256)
  /-- GST_FORCE (R128): Every region lock and atomic sequence whose holder matches ORIGIN under MASK is released. -/
  | gstForce (origin : BitVec 32) (mask : BitVec 32)
  /-- SELF_REFRESH_ENTRY (R392): With SR_REQ set and no request in flight, the DRAM enters self-refresh. -/
  | selfRefreshEntry
  /-- SELF_REFRESH_EXIT (R392): The DRAM leaves self-refresh after its wake latency and serves requests again. -/
  | selfRefreshExit
  /-- GATE_DRAINED (R157): The last access bound to a gate's previous bank ends; DRAINED sets and the shadow copy starts. -/
  | gateDrained (g : Fin 32)
  /-- GATE_COPY_DONE (R157): The gate's shadow copy ends and COMMIT_PEND clears. -/
  | gateCopyDone (g : Fin 32)
  /-- GATE_REGION_DIRECT_WRITE (R159): In direct-write mode, word B of a region record applies the record to both banks or keeps the old one. -/
  | gateRegionDirectWrite (g : Fin 32) (i : Fin 64) (v : BitVec 64)
  /-- GAF_COMMIT (R208): One write commits any set of epoch domains and gates, each of which swaps or is refused. -/
  | gafCommit (fwd act sch all : Bool) (gates : BitVec 32)
  /-- EPOCH_DRAINED (R210): The last request bound to a domain's old bank ends; DRAINED sets and the copy starts. Domain: 0 forwarding, 1 action, 2 scheduling. -/
  | epochDrained (d : Fin 3)
  /-- EPOCH_COPY_DONE (R210): The written blocks are copied into the new shadow bank, COMMIT_PEND clears and event bit 42 is set. -/
  | epochCopyDone (d : Fin 3)
  /-- DIRECT_MODE_WRITE (R211): A keyed write to GAF_DEBUG puts domains or gates into or out of direct-write mode. -/
  | directModeWrite (direct : BitVec 3) (gdir : Bool) (key : BitVec 16)
  /-- DIRECT_RECORD_WRITE (R212): In direct-write mode, the highest word of a record applies it to both banks after its pair checks. The highest word of the record. -/
  | directRecordWrite (item : DirectRec) (v : BitVec 64)
  /-- FIRMWARE_SWAP (R213): GAF_CORECMD SWAP starts a hitless swap to the other program bank. -/
  | firmwareSwap (bank : Bool)
  /-- GAF_SWAP_FORCED (R213): A core that has not switched within SWAP_TO is stopped and restarted at swap resume of the new bank. -/
  | gafSwapForced (c : Fin 32)
  /-- CORE_TAKEOVER (R214): GAF_CORECMD TAKEOVER starts a spare-core takeover of a logical core. -/
  | coreTakeover (c : Fin 32)
  /-- GAF_STALL (R214): A core retires no instruction for STALL_TO and is taken over. -/
  | gafStall (c : Fin 32)
  /-- GAF_CORE_UE (R214): An uncorrectable error in a core's registers or store buffer starts a takeover. -/
  | gafCoreUe (c : Fin 32)
  /-- SPARE_START (R214): A spare core starts at the takeover entry with the failed core's events. -/
  | spareStart (c : Fin 32)
  /-- TBL_READ (R207): JCK_TBLCMD READ copies a shadow-bank table entry into JCK_TBLDATA. `o`: the tag of the writer. -/
  | tblRead (o : Origin)
  /-- TBL_WRITE (R207): JCK_TBLCMD WRITE inserts or replaces a shadow-bank entry, or fails FULL. -/
  | tblWrite (o : Origin)
  /-- TBL_DELETE (R207): JCK_TBLCMD DELETE removes a shadow-bank entry. -/
  | tblDelete (o : Origin)
  /-- ADD (R167): ALU ADD. The agent issues it at its PC. -/
  | iAdd (ag : By Agent) (rd ra rb : Fin 32)
  /-- SUB (R167): ALU SUB. The agent issues it at its PC. -/
  | iSub (ag : By Agent) (rd ra rb : Fin 32)
  /-- ALU_AND (R167): ALU AND. The agent issues it at its PC. -/
  | aluAnd (ag : By Agent) (rd ra rb : Fin 32)
  /-- ALU_OR (R167): ALU OR. The agent issues it at its PC. -/
  | aluOr (ag : By Agent) (rd ra rb : Fin 32)
  /-- ALU_XOR (R167): ALU XOR. The agent issues it at its PC. -/
  | aluXor (ag : By Agent) (rd ra rb : Fin 32)
  /-- ANDN (R167): ALU ANDN. The agent issues it at its PC. -/
  | andn (ag : By Agent) (rd ra rb : Fin 32)
  /-- SLL (R167): ALU shift left. The agent issues it at its PC. -/
  | sll (ag : By Agent) (rd ra rb : Fin 32)
  /-- SRL (R167): ALU logical shift right. The agent issues it at its PC. -/
  | srl (ag : By Agent) (rd ra rb : Fin 32)
  /-- SRA (R167): ALU arithmetic shift right. The agent issues it at its PC. -/
  | sra (ag : By Agent) (rd ra rb : Fin 32)
  /-- MUL (R167): Low 64 bits of a product. The agent issues it at its PC. -/
  | mul (ag : By Agent) (rd ra rb : Fin 32)
  /-- MULHU (R167): High 64 bits of an unsigned product. The agent issues it at its PC. -/
  | mulhu (ag : By Agent) (rd ra rb : Fin 32)
  /-- MIN (R167): Signed minimum. The agent issues it at its PC. -/
  | iMin (ag : By Agent) (rd ra rb : Fin 32)
  /-- MAX (R167): Signed maximum. The agent issues it at its PC. -/
  | iMax (ag : By Agent) (rd ra rb : Fin 32)
  /-- MINU (R167): Unsigned minimum. The agent issues it at its PC. -/
  | minu (ag : By Agent) (rd ra rb : Fin 32)
  /-- MAXU (R167): Unsigned maximum. The agent issues it at its PC. -/
  | maxu (ag : By Agent) (rd ra rb : Fin 32)
  /-- ADDI (R167): Add immediate. The agent issues it at its PC. -/
  | addi (ag : By Agent) (rd ra : Fin 32) (imm : BitVec 20)
  /-- ANDI (R167): AND immediate. The agent issues it at its PC. -/
  | andi (ag : By Agent) (rd ra : Fin 32) (imm : BitVec 20)
  /-- ORI (R167): OR immediate. The agent issues it at its PC. -/
  | ori (ag : By Agent) (rd ra : Fin 32) (imm : BitVec 20)
  /-- XORI (R167): XOR immediate. The agent issues it at its PC. -/
  | xori (ag : By Agent) (rd ra : Fin 32) (imm : BitVec 20)
  /-- SLLI (R167): Shift left by immediate. The agent issues it at its PC. -/
  | slli (ag : By Agent) (rd ra : Fin 32) (imm : BitVec 20)
  /-- SRLI (R167): Logical shift right by immediate. The agent issues it at its PC. -/
  | srli (ag : By Agent) (rd ra : Fin 32) (imm : BitVec 20)
  /-- SRAI (R167): Arithmetic shift right by immediate. The agent issues it at its PC. -/
  | srai (ag : By Agent) (rd ra : Fin 32) (imm : BitVec 20)
  /-- MULI (R167): Multiply by immediate, low 64 bits. The agent issues it at its PC. -/
  | muli (ag : By Agent) (rd ra : Fin 32) (imm : BitVec 20)
  /-- MOVI (R168): Places a 16-bit immediate at a chosen position, keeping or clearing other bits. The agent issues it at its PC. -/
  | movi (ag : By Agent) (rd : Fin 32) (sh : Fin 4) (keep : Bool) (imm : BitVec 16)
  /-- EXTU (R168): Extracts a bit field with zero fill. The agent issues it at its PC. -/
  | extu (ag : By Agent) (rd ra : Fin 32) (pos wm1 : Fin 64)
  /-- EXTS (R168): Extracts a bit field with sign fill. The agent issues it at its PC. -/
  | exts (ag : By Agent) (rd ra : Fin 32) (pos wm1 : Fin 64)
  /-- INS (R168): Inserts a bit field into a register. The agent issues it at its PC. -/
  | ins (ag : By Agent) (rd ra : Fin 32) (pos wm1 : Fin 64)
  /-- CMP (R169): Sets a predicate from a register comparison. The agent issues it at its PC. -/
  | cmp (ag : By Agent) (pd : Fin 8) (cc : Fin 16) (ra rb : Fin 32)
  /-- CMPI (R169): Sets a predicate from a comparison with an immediate. The agent issues it at its PC. -/
  | cmpi (ag : By Agent) (pd : Fin 8) (cc : Fin 16) (ra : Fin 32) (imm : BitVec 20)
  /-- PLOG_AND (R169): Predicate AND. The agent issues it at its PC. -/
  | plogAnd (ag : By Agent) (pd pa pb : Fin 8)
  /-- PLOG_OR (R169): Predicate OR. The agent issues it at its PC. -/
  | plogOr (ag : By Agent) (pd pa pb : Fin 8)
  /-- PLOG_XOR (R169): Predicate XOR. The agent issues it at its PC. -/
  | plogXor (ag : By Agent) (pd pa pb : Fin 8)
  /-- PLOG_ANDN (R169): Predicate AND NOT. The agent issues it at its PC. -/
  | plogAndn (ag : By Agent) (pd pa pb : Fin 8)
  /-- PLOG_MOV (R169): Predicate move. The agent issues it at its PC. -/
  | plogMov (ag : By Agent) (pd pa pb : Fin 8)
  /-- PLOG_NOT (R169): Predicate NOT. The agent issues it at its PC. -/
  | plogNot (ag : By Agent) (pd pa pb : Fin 8)
  /-- KMOV (R170): Loads a gob counter from a register, saturating. The agent issues it at its PC. -/
  | kmov (ag : By Agent) (d : Fin 32) (ra : Fin 32)
  /-- KBYT (R170): Converts bytes to token units into a gob counter. The agent issues it at its PC. -/
  | kbyt (ag : By Agent) (d : Fin 32) (ra : Fin 32)
  /-- KGOB (R170): Converts bytes to whole gobs in token units. The agent issues it at its PC. -/
  | kgob (ag : By Agent) (d : Fin 32) (ra : Fin 32)
  /-- KADD (R170): Saturating add of gob counters. The agent issues it at its PC. -/
  | kadd (ag : By Agent) (d : Fin 32) (ka kb : Fin 8)
  /-- KSUB (R170): Saturating subtract of gob counters. The agent issues it at its PC. -/
  | ksub (ag : By Agent) (d : Fin 32) (ka kb : Fin 8)
  /-- GMOV (R170): Moves a gob counter into a general register. The agent issues it at its PC. -/
  | gmov (ag : By Agent) (rd : Fin 32) (ka : Fin 8)
  /-- LD (R172): Loads 1 to 8 bytes from a space, raising ALIGN or BUS_ERR on failure. -/
  | ld (ag : By Agent) (rd ra : Fin 32) (sz : Fin 4) (sx ta : Bool) (disp : BitVec 20)
  /-- ST (R172): Stores 1 to 8 bytes into the store buffer. RD is the source. -/
  | st (ag : By Agent) (rd ra : Fin 32) (sz : Fin 4) (ta : Bool) (disp : BitVec 20)
  /-- STORE_ERR (R190): A store or non-returning atomic fails after the core went on; SERR registers and event bit 63 record it. Entry `i` of the store buffer, 0 the oldest. -/
  | storeErr (c : Fin 32) (i : Fin 16)
  /-- ATOM_FADD (R173): Atomic fetch-and-add. -/
  | atomFadd (ag : By Agent) (rd ra rb : Fin 32) (nr opn cls : Bool)
  /-- ATOM_SWAP (R173): Atomic swap. -/
  | atomSwap (ag : By Agent) (rd ra rb : Fin 32) (nr opn cls : Bool)
  /-- ATOM_CAS (R173): Atomic compare and swap. -/
  | atomCas (ag : By Agent) (rd ra rb : Fin 32) (nr opn cls : Bool)
  /-- ATOM_AND (R173): Atomic AND. -/
  | atomAnd (ag : By Agent) (rd ra rb : Fin 32) (nr opn cls : Bool)
  /-- ATOM_OR (R173): Atomic OR. -/
  | atomOr (ag : By Agent) (rd ra rb : Fin 32) (nr opn cls : Bool)
  /-- ATOM_XOR (R173): Atomic XOR. -/
  | atomXor (ag : By Agent) (rd ra rb : Fin 32) (nr opn cls : Bool)
  /-- ATOM_UMIN (R173): Atomic unsigned minimum. -/
  | atomUmin (ag : By Agent) (rd ra rb : Fin 32) (nr opn cls : Bool)
  /-- ATOM_UMAX (R173): Atomic unsigned maximum. -/
  | atomUmax (ag : By Agent) (rd ra rb : Fin 32) (nr opn cls : Bool)
  /-- FENCE_N (R139): Orders normal accesses against each other. -/
  | fenceN (ag : By Agent)
  /-- FENCE_D (R139): Orders device accesses against accesses of both types. -/
  | fenceD (ag : By Agent)
  /-- FENCE_ALL (R139): Orders every access and empties the store buffer. -/
  | fenceAll (ag : By Agent)
  /-- LKP_IX (R176): Indexed table lookup. -/
  | lkpIx (ag : By Agent) (rd ra : Fin 32) (tb : Fin 256) (pd : Fin 8)
  /-- LKP_EM (R176): Exact-match table lookup. -/
  | lkpEm (ag : By Agent) (rd ra rb : Fin 32) (tb : Fin 256) (pd : Fin 8)
  /-- LKP_LPM (R176): Longest-prefix-match table lookup. -/
  | lkpLpm (ag : By Agent) (rd ra : Fin 32) (tb : Fin 256) (pd : Fin 8)
  /-- TKN_FILL (R177): Refills a token bucket record. -/
  | tknFill (ag : By Agent) (ra : Fin 32)
  /-- TKN_PEEK (R177): Returns a bucket's refilled level without changing it. -/
  | tknPeek (ag : By Agent) (rd ra : Fin 32)
  /-- TKN_TAKE (R177): Refills a bucket and takes tokens if enough are present. -/
  | tknTake (ag : By Agent) (ra : Fin 32) (debt : Bool) (kb pd : Fin 8)
  /-- TKN_TAKE_METER (R103): Meters a flow record with the two-rate three-colour marker and returns the colour. -/
  | tknTakeMeter (ag : By Agent) (rd ra rb rc : Fin 32) (pd : Fin 8)
  /-- PUSH_T (R179): Appends an element at a list's tail. -/
  | pushT (ag : By Agent) (ra rb : Fin 32)
  /-- PUSH_H (R179): Inserts an element at a list's head. -/
  | pushH (ag : By Agent) (ra rb : Fin 32)
  /-- POP (R179): Removes the head element of a list. -/
  | pop (ag : By Agent) (rd ra : Fin 32) (pd : Fin 8)
  /-- ENQ (R70): A Jack program enqueues its packet to a destination queue, checked against that queue's state. -/
  | enq (l : By (Fin 256)) (ra rb : Fin 32)
  /-- DROP (R69): A Jack program drops its packet with a reason. -/
  | drop (l : By (Fin 256)) (reason : BitVec 8)
  /-- MARK_C (R180): Sets the colour mark of the packet's receive header. -/
  | markC (ag : By Agent) (ra rc : Fin 32)
  /-- MARK_M (R180): Requests a flow mirror copy to a skim session. -/
  | markM (ag : By Agent) (ra rc : Fin 32)
  /-- DEQ (R181): Firmware unlinks the head packet of a queue and holds it by handle. -/
  | deq (c : By (Fin 32)) (rd rb ra : Fin 32)
  /-- FW_ENQ (R181): Firmware links a held packet to a queue. -/
  | fwEnq (c : By (Fin 32)) (rd ra rb rc : Fin 32)
  /-- FW_DROP (R181): Firmware frees a held packet. -/
  | fwDrop (c : By (Fin 32)) (rc : Fin 32) (reason : BitVec 8)
  /-- SIGNAL (R183): Sets an event bit on a logical core. -/
  | signal (ag : By Agent) (ra rb : Fin 32)
  /-- WAIT (R183): Returns and clears masked event bits or sleeps until one is set or the timeout passes. -/
  | wait (ag : By Agent) (rd ra rb : Fin 32)
  /-- WAIT_TIMEOUT (R183): A sleeping WAIT reaches its timeout and returns 0. -/
  | waitTimeout (c : Fin 32)
  /-- WAKE (R184): Starts a stopped logical core. -/
  | wake (ag : By Agent) (ra : Fin 32)
  /-- CRR (R185): Reads a core control register. -/
  | crr (ag : By Agent) (rd : Fin 32) (csr : BitVec 12)
  /-- CRW (R185): Writes a core control register. -/
  | crw (ag : By Agent) (ra : Fin 32) (csr : BitVec 12)
  /-- CRX (R185): Swaps a core control register. -/
  | crx (ag : By Agent) (rd ra : Fin 32) (csr : BitVec 12)
  /-- BR (R186): Relative branch with link. -/
  | br (ag : By Agent) (rd : Fin 32) (off : BitVec 29)
  /-- JR (R186): Register jump with link. -/
  | jr (ag : By Agent) (rd ra : Fin 32)
  /-- ECALL (R186): Raises the ECALL exception. -/
  | ecall (ag : By Agent)
  /-- ERET (R186): Returns from an exception, switching program bank if a swap is pending. -/
  | eret (ag : By Agent)
  /-- PRED (R187): Predicates the next one to four instructions. -/
  | pred (ag : By Agent) (n : Fin 4) (s0 s1 s2 s3 : Fin 16)
  /-- EVENT_INTERRUPT (R189): An enabled pending event is taken as an EVENT exception between instructions. -/
  | eventInterrupt (c : Fin 32)
  /-- PORT_RETRAIN (R267): PRT_CTL RETRAIN starts a retrain of the port's link. -/
  | portRetrain (p : Fin 256)
  /-- PCIE_TRAINING (R267): A PCI Express link passes a training state under the standard. `rate` and `width` are what both ends can work at. -/
  | pcieTraining (p : Fin 256) (state : Fin 12) (rate : Fin 6) (width l0p : Fin 17) (flit reversed : Bool) (lanes : PcieLanes)
  /-- PTN_FUND_ASSERT (R233): A FUND_ASSERT command puts a partition into fundamental reset. -/
  | ptnFundAssert (pt : Fin 64)
  /-- PTN_FUND_RELEASE (R233): A FUND_RELEASE command ends the command's fundamental reset of a partition. -/
  | ptnFundRelease (pt : Fin 64)
  /-- PTN_HOT (R234): A HOT command applies a hot reset to a partition. -/
  | ptnHot (pt : Fin 64)
  /-- PERST_ASSERT (R233): A selected PERST_N pin is recognised low and its partition enters fundamental reset. -/
  | perstAssert (i : Fin 16)
  /-- PERST_RELEASE (R233): A PERST_N pin is recognised high and its partition may be released. -/
  | perstRelease (i : Fin 16)
  /-- HOT_RESET_RECEIVED (R234): Hot Reset in training sets on an upstream port hot-resets the partition. -/
  | hotResetReceived (p : Fin 256)
  /-- BRIDGE_CONFIG_WRITE (R223): A host writes a routing field of its bridges, applied as a forwarding update before completion. -/
  | bridgeConfigWrite (pt : Fin 64) (rid : BitVec 16) (tag : BitVec 10) (b : BridgeRef) (f : BridgeField)
  /-- CONFIG_REQUEST (R245): A configuration request reaches a function's header or is answered with retry status. The write, if it is one, with its byte enables. -/
  | configRequest (pt : Fin 64) (rid : BitVec 16) (tag : BitVec 10) (target : CfgTarget) (dw : Fin 1024) (w : Option (BitVec 32 × BitVec 4))
  /-- PORT_DPC (R236): A DPC trigger in a downstream bridge holds its port. -/
  | portDpc (p : Fin 256) (reason : Fin 3)
  /-- PORT_DOWN (R236): A downstream or cane port's link goes down and the port is held. -/
  | portDown (p : Fin 256)
  /-- PTN_UPLINK (R236): An upstream link goes down; the partition is held and hot-reset. -/
  | ptnUplink (p : Fin 256)
  /-- DPC_CLEAR (R238): A host clear of DPC Trigger Status clears the port's record and lifts the hold if the cause is gone. -/
  | dpcClear (p : Fin 256)
  /-- FLR_INITIATE (R255): Initiate FLR starts the function-level reset steps of flushing, releasing and resetting. -/
  | flrInitiate (f : Fin 4097)
  /-- FLR_END (R255): The function-level reset steps end and FLR_ACTIVE clears. -/
  | flrEnd (f : Fin 4097)
  /-- VF_ENABLE_SET (R251): Setting VF Enable creates the VFs up to NumVFs, or sets ARI_ERR. -/
  | vfEnableSet
  /-- VF_ENABLE_CLEAR (R251): Clearing VF Enable resets every existing VF and removes them. -/
  | vfEnableClear
  /-- VF_ATTACH (R243): QEP_VFCMD ATTACH attaches a VF to a partition or is refused. -/
  | vfAttach (v : Fin 4097) (pt : Fin 64) (busoff : BitVec 4) (fnum : BitVec 8) (bar2Log2 : BitVec 6)
  /-- VF_DETACH (R243): QEP_VFCMD DETACH resets and detaches a VF or is refused. -/
  | vfDetach (v : Fin 4097)
  /-- NODEOWN_WRITE (R258): A write to QEP_NODEOWN is accepted only for an inactive disabled node. -/
  | nodeownWrite (n : Fin 18432) (fn : BitVec 13)
  /-- RETRIM_START (R276): LNE_RETRIM START begins a re-trim of a cane lane's receive direction or is refused. -/
  | retrimStart (n : Fin 64) (m : Fin 8)
  /-- RETRIM_ABORT (R276): LNE_RETRIM ABORT ends the running re-trim as ABORTED. -/
  | retrimAbort (n : Fin 64)
  /-- RETRIM_STAGE_DONE (R276): A re-trim stage ends and the run moves to its next stage or final state. -/
  | retrimStageDone (n : Fin 64) (ok : Bool)
  /-- MARGIN_RUN (R280): LNE_MARGCMD RUN starts a margin run at an offset, or is refused as BUSY. The offsets and the dwell shape only the count that MARGIN_RUN_DONE brings. -/
  | marginRun (n : Fin 64) (i : Fin 9)
  /-- MARGIN_ABORT (R279): LNE_MARGCMD ABORT ends a margin run early. -/
  | marginAbort (n : Fin 64) (i : Fin 9)
  /-- MARGIN_RUN_DONE (R280): A margin run counts its symbols and records its errors. -/
  | marginRunDone (n : Fin 64) (i : Fin 9) (errors : BitVec 40)
  /-- LANE_MARGIN_COMMAND (R279): A standard Lane Margining command takes a lane's error slicer, aborting other users. -/
  | laneMarginCommand (n : Fin 64) (i : Fin 9) (release : Bool)
  /-- LOCK_LOSS (R273): A lane's clock recovery loses lock for more than 16 beats. -/
  | lockLoss (n : Fin 64) (i : Fin 9)
  /-- FAIL_WINDOW_END (R273): A FAIL_WIN window ends and the lane fails if its monitor count rose above FAIL_THRESH. -/
  | failWindowEnd (n : Fin 64) (i : Fin 9) (count : Nat)
  /-- LANE_POWER_REQUEST (R272): A request to enter or leave a power state reaches a lane direction. -/
  | lanePowerRequest (n : Fin 64) (i : Fin 9) (tx leave : Bool) (enter : Option (Fin 4))
  /-- LANE_POWER_EXIT_DONE (R270): A lane direction completes its exit to ACTIVE. -/
  | lanePowerExitDone (n : Fin 64) (i : Fin 9) (tx : Bool)
  /-- ADAPTATION_DONE (R264): A receiver's equaliser and DFE adaptation ends. -/
  | adaptationDone (n : Fin 64) (i : Fin 9) (heights : List Nat) (taps : BitVec 64)
  /-- SPARE_READAPT (R271): A warm spare is re-adapted every 64 Mbeats. -/
  | spareReadapt (n : Fin 64) (heights : List Nat) (taps : BitVec 64)
  /-- FRAME_SEND (R286): A cane transmitter fills a frame slot with a replayed, new, link-message, idle or marker content. -/
  | frameSend (p : Fin 256) (marker : Bool) (errs : List CellErr)
  /-- FRAME_RECEIVE (R288): A cane receiver checks a frame slot and accepts, discards or NAKs it, taking its ACK, credit and HOLD. -/
  | frameReceive (p : Fin 256) (slot : CaneSlot)
  /-- CHECK_WINDOW_END (R297): A check window of 2^WIN_LOG2 slots ends and the failure count restarts. -/
  | checkWindowEnd (p : Fin 256)
  /-- REPLAY_TIMEOUT (R287): A stalled acknowledgement for REPLAY_TO starts a replay from A. -/
  | replayTimeout (p : Fin 256)
  /-- RETRAIN_REQ (R293): An accepted RETRAIN_REQ message is answered, ignored or made to wait, by the crossing rule. -/
  | retrainReq (p : Fin 256)
  /-- RETRAIN_ACK (R303): An accepted RETRAIN_ACK starts the retrain at the leader. -/
  | retrainAck (p : Fin 256)
  /-- SUB_REQ (R295): An accepted SUB_REQ makes the transmitter copy lane m onto its spare. -/
  | subReq (p : Fin 256)
  /-- SUB_DONE (R295): An accepted SUB_DONE confirms the switch frame of a substitution. -/
  | subDone (p : Fin 256)
  /-- SUB_END (R295): An accepted SUB_END lets the transmitter stop the spare copy. -/
  | subEnd (p : Fin 256)
  /-- STANDBY (R296): An accepted STANDBY lets the receive direction follow into STANDBY. -/
  | standby (p : Fin 256)
  /-- DOWN (R297): An accepted DOWN message takes the link down with PARTNER_DOWN. -/
  | down (p : Fin 256)
  /-- SUB_SWITCH (R295): The receiver takes lane m from its adapted spare at a switch frame and sends SUB_DONE. -/
  | subSwitch (l : LinkLane)
  /-- SUB_TIMEOUT (R297): A receive hold longer than SUB_TO takes the link down. -/
  | subTimeout (p : Fin 256)
  /-- STANDBY_ENTRY (R296): After LP_IDLE of idle frames a transmit direction sends STANDBY and enters STANDBY. -/
  | standbyEntry (p : Fin 256)
  /-- CANE_RETRAIN (R303): CAN_CMD RETRAIN sends a RETRAIN_REQ with new width, rate or equalisation. -/
  | caneRetrain (p : Fin 256) (width : Fin 32) (rate : Fin 4) (eq : Bool)
  /-- RETRAIN_FAIL (R297): CN_RETRAIN lasts longer than RETRAIN_TO and the link goes down. -/
  | retrainFail (p : Fin 256)
  /-- TW_IDENTIFY (R301): Type 1 training words drive lock, polarity, lane order, spare wiring and width agreement. -/
  | twIdentify (p : Fin 256) (ws : List TrainWord) (peerNoLock : BitVec 16)
  /-- TW_RATE (R300): Type 2 training words agree the rate and change it. -/
  | twRate (p : Fin 256) (ws : List TrainWord)
  /-- TW_EQUALISE (R302): Type 3 training words request and echo transmitter presets for equalisation. -/
  | twEqualise (p : Fin 256) (ws : List TrainWord)
  /-- TW_ENTER_ACTIVE (R300): Type 4 training words bring the port into CN_ACTIVE. -/
  | twEnterActive (p : Fin 256)
  /-- TW_RETRAIN (R303): Type 5 training words carry a retrain through to rate, equalisation or active. -/
  | twRetrain (p : Fin 256) (ws : List TrainWord)
  /-- TW_DOWN (R297): Type 6 training words take the link down with PARTNER_DOWN. -/
  | twDown (p : Fin 256)
  /-- TW_COPY_PREAMBLE (R295): Type 7 words on the spare precede the copy of lane m. -/
  | twCopyPreamble (p : Fin 256) (m : Fin 16)
  /-- CANE_TRAIN_TIMEOUT (R300): A training state times out and the port returns to CN_DETECT. -/
  | caneTrainTimeout (p : Fin 256)
  /-- FABRIC_SEND (R308): A named fabric-queue packet is built into a parison train and sent with a pending record. `d` names the delivery; `flips` are word errors of its payload. -/
  | fabricSend (d : Nat) (flips : List (Nat × Nat))
  /-- TRANSIT_FORWARD (R317): A train for another module is forwarded with HOPS raised, or dropped at the third transit. `p`, `c` name the receive buffer. -/
  | transitForward (p : Fin 256) (c : Fin 8)
  /-- PARISON_PACKET (R313): An accepted PACKET train is copied to the payload buffer, enqueued to its local queue, and reported. -/
  | parisonPacket (c : Fin 8) (errs : List CellErr)
  /-- PARISON_REPORT (R315): A REPORT train ends the pending records its entries cover. -/
  | parisonReport (c : Fin 8) (errs : List CellErr)
  /-- PARISON_REPL (R321): An accepted REPL train writes replicated data into the partner's gather store. -/
  | parisonRepl (c : Fin 8) (errs : List CellErr)
  /-- PARISON_PROBE (R312): A PROBE updates the pair sequence, reports gaps and may set OVER. -/
  | parisonProbe (c : Fin 8) (errs : List CellErr)
  /-- PROBE_SEND (R312): Every PROBE_INT a PROBE is sent to each member. -/
  | probeSend
  /-- FAB_MEMBER_LOST (R319): A member not heard for DEAD_TO becomes LOST and may fail over. -/
  | fabMemberLost (f : Fin 16)
  /-- PEND_TIMEOUT (R315): A pending record without a report for PEND_TO ends with LINK_DOWN. -/
  | pendTimeout (f : Fin 16) (seq : BitVec 32)
  /-- REPORT_SEND (R314): A REPORT leaves when it is full or REPORT_TO after its oldest entry. -/
  | reportSend (f : Fin 16)
  /-- FTX_APPLY (R306): FTX_CMD APPLY applies a member's map and route, or is refused. -/
  | ftxApply (f : Fin 16)
  /-- FTX_REHOME (R318): FTX_CMD REHOME re-chooses a member's active route port. -/
  | ftxRehome (f : Fin 16)
  /-- ROUTE_CHANGE_EFFECT (R318): A pending route change takes effect once no train stands on the old port. -/
  | routeChangeEffect (f : Fin 16)
  /-- FABRIC_TAKEOVER (R320): FTX_CMD TAKEOVER makes the module send PROBEs that take over a member. -/
  | fabricTakeover (f : Fin 16)
  /-- FABRIC_RESTORE (R320): FTX_CMD RESTORE clears OVER for a member. -/
  | fabricRestore (f : Fin 16)
  /-- FTX_ENABLE (R323): A rise of FTX_CTL ENABLE issues a new GEN and restarts every sequence. -/
  | ftxEnable
  /-- SIDE_READ (R331): A side-bridge read takes a tag and enters its chip-select or bus queue. A read of 2^`log2` bytes, naturally aligned (R325). -/
  | sideRead (m : Master) (a : BitVec 32) (log2 : Fin 4)
  /-- SIDE_WRITE (R332): A side-bridge write receives a WSN and enters its queue in posted or non-posted mode. A write of 2^`log2` bytes, naturally aligned (R325). -/
  | sideWrite (m : Master) (a : BitVec 32) (log2 : Fin 4) (v : BitVec 64)
  /-- LATH_TRANSFER (R327): A lath chip-select queue's turn starts a transfer on the lath bus. -/
  | lathTransfer
  /-- SIDE_BUS_TRANSFER (R329): A side bus starts an SMBus or I3C transaction for its queue's next access. -/
  | sideBusTransfer (b : Fin 8)
  /-- SIDE_TRANSFER_DONE (R328): A transfer ends with a status returned to its requester or entered in the late-error log. `q`: a chip select 0 to 3, or 4 + bus; `data`: the bytes a read returned. -/
  | sideTransferDone (q : Fin 12) (status : Fin 8) (data : BitVec 64)
  /-- POLL_READ (R336): A poll entry reads its source each period and may set PEND and send MSI-X. -/
  | pollRead (e : Fin 16)
  /-- PREFETCH_EXPIRY (R335): A prefetch buffer is discarded 256 kbeats after it was filled. `word`: side address divided by 8. -/
  | prefetchExpiry (word : BitVec 29)
  /-- LTH_RGN_WRITE (R326): A lath region record write is applied or refused if it would overlap. -/
  | lthRgnWrite (r : Fin 16) (v : BitVec 64)
  /-- MBX_SEND (R342): SEND delivers a message in its direction, replacing one that waits. From the host end or the firmware end. -/
  | mbxSend (o : Origin) (m : Fin 512) (host : Bool) (type : BitVec 16)
  /-- MBX_ACK (R343): ACK of the waiting SEQ empties the direction and notifies the sender. -/
  | mbxAck (o : Origin) (m : Fin 512) (host : Bool) (seq rcode : BitVec 16)
  /-- MBX_CLAIM (R340): CLAIM grants or renews an end's claim. -/
  | mbxClaim (o : Origin) (m : Fin 512) (host : Bool) (deadline : BitVec 16)
  /-- MBX_RELEASE (R340): RELEASE from the holder frees an end's claim. -/
  | mbxRelease (o : Origin) (m : Fin 512) (host : Bool)
  /-- MBX_RESET (R344): RESET declares an end reset, emptying both directions with ABORTED acknowledgements. -/
  | mbxReset (o : Origin) (m : Fin 512) (host : Bool)
  /-- MBX_FORCE (R341): Every matching mailbox claim is revoked and its end reset. -/
  | mbxForce (origin mask : BitVec 32)
  /-- MBX_DISABLE (R344): Clearing EN of MBX_CFG resets both ends without notice. -/
  | mbxDisable (m : Fin 512)
  /-- CMD_ALLOC (R346): A read of CMD_ALLOC reserves the lowest free slot and returns its handle. -/
  | cmdAlloc (m : Master)
  /-- CMD_ARG_WRITE (R349): A write of a command argument is accepted only from the holder of a reserved slot. -/
  | cmdArgWrite (o : Origin) (k : Fin 16) (i : Fin 4) (v : BitVec 64)
  /-- FW_UPDATE (R355): ISSUE of FW_UPDATE checks a staged image and programs it into a NAND image area. -/
  | fwUpdate (o : Origin) (k : Fin 16) (gen : BitVec 12) (notify : Bool) (vec : BitVec 11)
  /-- IMG_SWAP (R355): ISSUE of IMG_SWAP loads an image into the inactive bank and starts the swap. -/
  | imgSwap (o : Origin) (k : Fin 16) (gen : BitVec 12) (notify : Bool) (vec : BitVec 11)
  /-- SCRUB (R355): ISSUE of SCRUB scrubs a range of pages. -/
  | scrub (o : Origin) (k : Fin 16) (gen : BitVec 12) (notify : Bool) (vec : BitVec 11)
  /-- MOVE (R355): ISSUE of MOVE waits for readiness and moves a queue set, pool pages or a scheduler node. -/
  | move (o : Origin) (k : Fin 16) (gen : BitVec 12) (notify : Bool) (vec : BitVec 11)
  /-- RETRIM (R355): ISSUE of RETRIM runs a lane re-trim and follows it. -/
  | retrim (o : Origin) (k : Fin 16) (gen : BitVec 12) (notify : Bool) (vec : BitVec 11)
  /-- MEMTEST (R355): ISSUE of MEMTEST pattern-tests pages and may retire failing blocks. -/
  | memtest (o : Origin) (k : Fin 16) (gen : BitVec 12) (notify : Bool) (vec : BitVec 11)
  /-- KEEP_SAVE (R355): ISSUE of KEEP_SAVE saves a snapshot of the keep region to a NAND keep area. -/
  | keepSave (o : Origin) (k : Fin 16) (gen : BitVec 12) (notify : Bool) (vec : BitVec 11)
  /-- CMD_SUSPEND (R350): SUSPEND suspends a queued or running command. -/
  | cmdSuspend (o : Origin) (k : Fin 16) (gen : BitVec 12)
  /-- CMD_RESUME (R350): RESUME returns a suspended command to the queue or running. -/
  | cmdResume (o : Origin) (k : Fin 16) (gen : BitVec 12)
  /-- CMD_CANCEL (R350): CANCEL cancels a command at once or at its next safe point. -/
  | cmdCancel (o : Origin) (k : Fin 16) (gen : BitVec 12)
  /-- CMD_RETIRE (R350): RETIRE frees a finished or reserved slot and raises its generation. -/
  | cmdRetire (o : Origin) (k : Fin 16) (gen : BitVec 12)
  /-- CMD_START (R352): A queued command starts once no earlier command holds a resource it needs. -/
  | cmdStart (k : Fin 16)
  /-- CMD_UNIT_DONE (R354): A command finishes a unit of work, reaching a safe point or its end. `flips`: wrong bits that arise in words; `nandFail`: the NAND program fails; `bad`: words that fail a memory test; `late`: the wait of a MOVE has run out. -/
  | cmdUnitDone (k : Fin 16) (flips : List (Nat × Nat)) (nandFail : Bool) (bad : List Nat) (late : Bool)
  /-- CMD_FORCE (R348): Every matching slot reservation lease is revoked. -/
  | cmdForce (origin mask : BitVec 32)
  /-- FAULT_RECORD (R361): A reported fault opens or merges into a record, or is counted without one. -/
  | faultRecord
  /-- UNIT_HOLD (R365): A contained fault holds its unit and revokes its leases. -/
  | unitHold (r : Fin 64)
  /-- FATAL_RESET (R367): FATAL_DELAY after a device-fatal fault, a warm reset is asserted. -/
  | fatalReset
  /-- FLT_CLEAR (R370): FLT_CMD CLEAR closes a record and lifts its hold, or re-latches. -/
  | fltClear (r : Fin 64)
  /-- FLT_LIFT (R371): FLT_CMD LIFT lifts a hold that has no record. -/
  | fltLift (kind : BitVec 4) (index : BitVec 16)
  /-- FLT_HOLD (R368): FLT_CMD HOLD holds a unit under FW_HOLD. -/
  | fltHold (o : Origin) (kind : BitVec 4) (index : BitVec 16)
  /-- FLT_FATAL (R368): FLT_CMD FATAL declares FW_FATAL. -/
  | fltFatal (o : Origin)
  /-- FLT_RESET (R367): FLT_CMD RESET requests the warm reset after a fatal fault while FATAL_WAIT is set. -/
  | fltReset
  /-- FLT_CODECFG_WRITE (R368): A write to FLT_CODECFG raises a code's class or sets MUTE, NOEVT and REVOKE, or is refused. -/
  | fltCodecfgWrite (c : Fin 64) (v : BitVec 64)
  /-- MONITOR_CONVERSION (R374): The converter converts the next monitor and evaluates its alarms. `v`: what the converter reads. -/
  | monitorConversion (v : BitVec 16)
  /-- TALLY_READ (R381): A counter read is served from TAL's queue with the value of its sample beat. -/
  | tallyRead (m : Master) (c : TallyRef)
  /-- SAMPLE_RD_WRITE (R385): A write of the sample buffer's RD pointer is applied or refused beyond WR. -/
  | sampleRdWrite (v : BitVec 13)
  /-- XTAL_OK (R387): The ember oscillator has run 65,536 stable cycles. -/
  | xtalOk
  /-- PLL_LOCK (R389): The core PLL locks and the beat counter starts. -/
  | pllLock
  /-- REFCLK_LOSS (R390): REFCLK stops and every lane loses lock. -/
  | refclkLoss
  /-- TILE_GATE (R393): A tile idle for TILE_IDLE gates its clock. -/
  | tileGate (k : Fin 16)
  /-- TILE_WAKE (R392): A gated tile runs again 64 beats after its wake source. -/
  | tileWake (k : Fin 16)
  /-- JACK_GROUP_GATE (R394): A Jack group idle for JACK_IDLE gates. -/
  | jackGroupGate (g : Fin 8)
  /-- JACK_GROUP_WAKE (R394): A woken Jack group runs after 16 beats and takes the waiting request. -/
  | jackGroupWake
  /-- CORE_START (R395): A stopped core started by WAKE, a routed event or takeover issues its first instruction. -/
  | coreStart (c : Fin 32)
  /-- WATCHDOG_KICK (R397): A write of EMB_WDKICK with the key reloads REMAIN. -/
  | watchdogKick (key : BitVec 16)
  /-- WATCHDOG_EXPIRY (R397): REMAIN reaches 0 and the watchdog asserts its reset source. -/
  | watchdogExpiry
  /-- POWER_ON (R399): The ember supply becomes valid and a power-on Cold reset starts. -/
  | powerOn
  /-- COLD_N_ASSERT (R402): COLD_N is recognised low and a Cold reset is asserted. -/
  | coldNAssert
  /-- COLD_N_RELEASE (R404): COLD_N is recognised high and the strap read restarts once no source holds. -/
  | coldNRelease
  /-- WARM_N_ASSERT (R403): WARM_N is recognised low and a warm entry starts. -/
  | warmNAssert
  /-- WARM_N_RELEASE (R404): WARM_N is recognised high and the lehr sequence starts once no source holds. -/
  | warmNRelease
  /-- RST_WARM (R399): RST_CMD WARM with the key requests a warm reset. -/
  | rstWarm (key : BitVec 16)
  /-- START_CORE0 (R416): RST_CMD START_CORE0 starts core 0 after a host-written image. -/
  | startCore0 (key : BitVec 16)
  /-- WARM_DRAIN_DONE (R403): The warm-entry drain ends and reset is asserted in the Warm domains. -/
  | warmDrainDone
  /-- DRAIN_TIMEOUT (R403): The drain has not ended after DRAIN_TO; reset asserts and DRAIN_LATE sets. -/
  | drainTimeout
  /-- PULSE_SOURCE_END (R404): A pulse reset source releases 16 ember cycles after its warm entry ends. -/
  | pulseSourceEnd
  /-- LEHR_STEP_RELEASE (R407): The next lehr step is released after its gap and wait condition. -/
  | lehrStepRelease
  /-- STRAP_READ (R411): The TEMPER strap read accepts a stable code or ends as code 1. `adc`: the readings in order. -/
  | strapRead (adc : List (BitVec 12))
  /-- TRIM_LOAD (R414): A trim copy is read and applied whole, or the load retries or fails. `copy`: the copy that passes, if any; `t`: its content; `startOk`: the start record can be read. -/
  | trimLoad (copy : Option (Fin 2)) (t : Trim) (startOk : Bool)
  /-- IMAGE_LOAD (R415): The selected or alternate firmware image is checked and loaded into bank 0. -/
  | imageLoad
  /-- OPTION_IMAGE_LOAD (R253): The host option image is read from NAND and OPT_DONE sets. -/
  | optionImageLoad
  /-- KEEP_CHECK (R465): The keep areas are checked and the newest valid image is staged, then KEEP_DONE sets. -/
  | keepCheck
  /-- SYSTEM_READY_WRITE (R401): A write of SYSTEM_READY sets it unless trim is invalid or test mode is set. -/
  | systemReadyWrite
  /-- START_CIRCUIT (R419): Before ember runs, the start circuit qualifies a feed and brings VBUS up. `a` and `b`: the voltages of the feeds in 10 mV. -/
  | startCircuit (a b : BitVec 12)
  /-- FEED_WINDOW_ENTER (R420): A waiting feed comes within its window and qualification starts. `vin` in 10 mV. -/
  | feedWindowEnter (x : Fin 2) (vin : BitVec 12)
  /-- FEED_WINDOW_EXIT (R420): A feed leaves its window; its gate opens and a switchover or quench follows. `vin` in 10 mV. -/
  | feedWindowExit (x : Fin 2) (vin : BitVec 12)
  /-- QUAL_DONE (R420): INS_DELAY passes with the window held; the feed is READY and may be selected. `both`: the other feed ends its qualification in the same beat. -/
  | qualDone (x : Fin 2) (both : Bool)
  /-- FEED_PRECHG_DONE (R420): VBUS reaches 90 % of VIN and the feed gate goes ON. `vbus` in 10 mV. -/
  | feedPrechgDone (x : Fin 2) (vbus : BitVec 12)
  /-- FEED_PRECHG_TIMEOUT (R420): Pre-charge does not finish in time; the feed enters RETRY with FEED_ILIM. -/
  | feedPrechgTimeout (x : Fin 2)
  /-- FEED_RETRY_DONE (R420): The RETRY time passes and the feed returns to WAIT. -/
  | feedRetryDone (x : Fin 2)
  /-- REVERT_TIMER (R421): A preferred feed READY for REVERT_DLY causes a switchover to it. `x`: the preferred feed. -/
  | revertTimer (x : Fin 2)
  /-- BBM_GAP_END (R422): The dead time ends and the new feed goes to PRECHG or ON. -/
  | bbmGapEnd
  /-- MAKE_TIMEOUT (R422): The new feed fails to reach ON within 100 µs and the quench starts. -/
  | makeTimeout
  /-- BREAKER_LIMIT (R423): A feed or channel current reaches ILIM; the gate regulates and the fault timer starts. `amps`: the current, in the unit of IIN or IOUT. -/
  | breakerLimit (b : Breaker) (amps : BitVec 10)
  /-- BREAKER_TIMEOUT (R423): The fault timer runs out and the gate turns OFF into RETRY. -/
  | breakerTimeout (b : Breaker)
  /-- LOWV_SET (R424): VBUS below 9.60 V for 100 µs sets LOWV. `vbus` in 10 mV. -/
  | lowvSet (vbus : BitVec 12)
  /-- LOWV_CLEAR (R424): VBUS at or above 9.90 V for 10 ms clears LOWV. `vbus` in 10 mV. -/
  | lowvClear (vbus : BitVec 12)
  /-- PMOD_AVERAGE (R425): At the end of each power average the module may shed one octet. `p`: the average in 0.5 W; with it what the other measurements now read. -/
  | pmodAverage (p vbus : BitVec 12) (iin : BitVec 10) (iout : List (Fin 32 × BitVec 10)) (vres : BitVec 12)
  /-- SHED_RESTORE (R425): Clearing a bit of SHED restores an octet, refused while LOWV is set. -/
  | shedRestore (m : BitVec 64)
  /-- PRESENCE_ASSERT (R427): Filtered presence stays low for PRSNT_DEB and counts as asserted. -/
  | presenceAssert (k : Fin 32)
  /-- PRESENCE_LOST (R427): Filtered presence goes high and counts as lost. -/
  | presenceLost (k : Fin 32)
  /-- SLOT_REQUEST_CHANGE (R427): A slot channel's request is given or withdrawn by firmware or the host. `host`: written as Power Controller Control; `on`: the request given. -/
  | slotRequestChange (k : Fin 32) (host on : Bool)
  /-- SLOT_WINDOW_EXIT (R428): VBUS leaves a channel's window and the channel turns OFF. `vbus` in 10 mV. -/
  | slotWindowExit (k : Fin 32) (vbus : BitVec 12)
  /-- SLOT_INSERT_DONE (R428): INS_DELAY passes with request, presence and window held; pre-charge starts. -/
  | slotInsertDone (k : Fin 32)
  /-- SLOT_PRECHG_DONE (R428): The output reaches 90 % and the main gate ramps. `iout` in 0.02 A. -/
  | slotPrechgDone (k : Fin 32) (iout : BitVec 10)
  /-- SLOT_PRECHG_TIMEOUT (R428): Pre-charge does not finish in time and the channel enters RETRY. -/
  | slotPrechgTimeout (k : Fin 32)
  /-- SLOT_RAMP_DONE (R428): The main gate is fully on and the channel is ON. -/
  | slotRampDone (k : Fin 32)
  /-- SLOT_RAMP_TIMEOUT (R428): The gate is not fully on at 2 ms and the channel enters RETRY. -/
  | slotRampTimeout (k : Fin 32)
  /-- SLOT_RETRY_DONE (R428): The retry time passes; the channel goes to INSERT, OFF or LATCHED. -/
  | slotRetryDone (k : Fin 32)
  /-- SLOT_UNLATCH (R428): SLT_CTL UNLATCH takes a channel out of LATCHED. -/
  | slotUnlatch (k : Fin 32)
  /-- CAP_MEASURED (R432): Charging from 30 V to 35 V measures the reservoir capacity. `t`: µs of charging from 30 V to 35 V. -/
  | capMeasured (t : BitVec 32)
  /-- HLD_LOW (R432): HLD_OK is 0 CHG_TO after the lehr sequence and the fault is reported. `vres` in 10 mV. -/
  | hldLow (vres : BitVec 12)
  /-- HOLDUP_STOP (R433): The reservoir falls to 12.0 V and the holdup converter stops. -/
  | holdupStop
  /-- QUENCH_STOP (R435): Four µs into the quench, ports stop and the drain begins. -/
  | quenchStop
  /-- QUENCH_DRAIN_DONE (R435): The quench drain ends and the keep region save to NAND begins. -/
  | quenchDrainDone
  /-- QUENCH_SAVE_DONE (R435): The keep save ends, or is abandoned, and power is removed. -/
  | quenchSaveDone
  /-- REG_READ (R15): A read of a control register returns its value and, for RC fields and read-ordering, has effects of its own: the field clears, exactly one of two racing reads sees it, and the read completes only after earlier posted writes are acknowledged. A read of `len` bytes at offset `a` of a window. -/
  | regRead (m : Master) (bar : BarRef) (a : BitVec 26) (len : Fin 4097)
  /-- CLOCK_RECOVERY_LOCK (R300): A lane's clock recovery gains lock on the incoming stream, which the training states and LNE_STAT LOCK depend on. -/
  | clockRecoveryLock (n : Fin 64) (i : Fin 9)
  /-- REFCLK_LOCK (R390): The lane PLLs lock to REFCLK and REFCLK_OK sets, so lanes can train again. -/
  | refclkLock
  /-- GPIO_INPUT_CHANGE (R459): A GPIO input level that has stood for 2 ember cycles is seen in LTH_GPIOIN. `v`: the levels of the 64 pins. -/
  | gpioInputChange (v : BitVec 64)
  /-- RAIL_COLLAPSE (R448): VBUS stays below 3.80 V for 10 µs and every rail collapses, so the next start is a power-on. -/
  | railCollapse
  /-- FAULT_TIMER_CLEAR (R423): A regulating breaker's current falls below 95 % of ILIM before its fault timer runs out, and the timer stops and is cleared. `amps`: the current, in the unit of IIN or IOUT. -/
  | faultTimerClear (b : Breaker) (amps : BitVec 10)
  /-- SLOT_WINDOW_ENTER (R428): VBUS comes back within a slot channel's UV to OV window, which lets an OFF channel with its request and presence standing pass to INSERT. `vbus` in 10 mV. -/
  | slotWindowEnter (k : Fin 32) (vbus : BitVec 12)
  deriving DecidableEq, Repr

end Sys2Proof
end

