-- ==== Sys2Proof/Decode.lean ====
section
/-!
DEFINITION. Commands from words: no row of spec/opcode_table.json gives bits, so no word spells a command (log entry 10).
-/
namespace Sys2Proof

/-- The command a word spells by the table's bits: none, since no row of the table gives any. -/
def decodeTableWord (_nbits _w : Nat) : Option Instr := none

end Sys2Proof
end

