-- ==== Sys2Proof/Config.lean ====
section
/-!
DEFINITION. What the manual leaves open, as constants without a body: nothing in Lean can evaluate them, so a claim holds
whatever they are. `free` is applied to the plain counter `freeCtr` of State, which the step advances at each use (log entry 1).
-/
namespace Sys2Proof.Config

/-- The free value of the `n`-th open choice of a run. -/
opaque free : Nat → Nat

/-- The two hash functions of EM tables (R206), which the manual does not give: number of the function, then the key. -/
opaque hash : Nat → Nat → Nat

/-- What the cycle counter of physical core `ph` showed at beat zero (R185), which the manual does not give (log entry 124). -/
opaque cycleStart (ph : Nat) : Nat

end Sys2Proof.Config
end

