-- ==== Sys2Proof/Machine/SMap.lean ====
section
/-!
DEFINITION. Sparse tables as plain data: a list of (key, value) pairs in one canonical form, keys strictly rising and no entry
equal to what an unlisted key reads as. Every register file, memory and indexed table of State is one of these, so equal
tables are equal data.
-/
namespace Sys2Proof.Machine

/-- A sparse table: what an unlisted key reads as is the `d` of `SMap.get` and `SMap.set`. -/
abbrev SMap (β : Type) := List (Nat × β)

namespace SMap
variable {β : Type}

/-- The value at `k`; an unlisted key reads as `d`. -/
def get : SMap β → β → Nat → β
  | [], d, _ => d
  | (k', v) :: t, d, k => if k' = k then v else get t d k

/-- Insert a key that is not listed before the first greater key. -/
def ins : SMap β → Nat → β → SMap β
  | [], k, v => [(k, v)]
  | e :: t, k, v => if k < e.1 then (k, v) :: e :: t else e :: ins t k v

/-- Drop the entry of `k`. -/
def del : SMap β → Nat → SMap β
  | [], _ => []
  | e :: t, k => if e.1 = k then del t k else e :: del t k

/-- The table with `k` reading as `v`; writing the default removes the entry. -/
def set [DecidableEq β] (m : SMap β) (d : β) (k : Nat) (v : β) : SMap β :=
  if v = d then del m k else ins (del m k) k v

/-- Keep the entries whose key satisfies `p` (the others read as the default again). -/
def keep (m : SMap β) (p : Nat → Bool) : SMap β := m.filter (fun e => p e.1)

/-- Every key listed is at least `lo`, keys rise strictly and no entry is the default. -/
def wfFrom [DecidableEq β] (d : β) : Nat → SMap β → Bool
  | _, [] => true
  | lo, (k, v) :: t => decide (lo ≤ k) && !decide (v = d) && wfFrom d (k + 1) t

/-- The canonical form. -/
def wf [DecidableEq β] (d : β) (m : SMap β) : Bool := wfFrom d 0 m

end SMap
end Sys2Proof.Machine
end

