-- ==== Sys2Proof/Machine/Data.lean ====
section
/-!
DEFINITION. The records that State's tables, queues and buffers hold: packets and holds of the crucible, descriptors, queued packets
and deliveries of the queue path, bridges and functions. Plain data throughout.
-/
namespace Sys2Proof.Machine

/-! ### Crucible -/

/-- What a packet record in the crucible stands for (R22, R43, R74). -/
inductive Role where
  | clear                       -- a clear-path TLP or a request to the endpoint
  | train                       -- a cane gob train: a parison packet
  | endpoint                    -- other traffic the endpoint port sends (completions, fetch reads)
  | synthetic                   -- a synthetic completion (R32)
  | payload (d : Nat)           -- a payload write of delivery `d` (R73)
  | header (d : Nat)            -- the receive header write of delivery `d` (R73)
  | cqEntry (q : Nat)           -- a completion entry write of source queue `q` (R74)
  | msix (fn vec : Nat)         -- an MSI-X message (R254)
  | mirror (sess : Nat)         -- a mirror copy (R51)
  deriving DecidableEq, Repr

/-- What a packet carries: a TLP, or the bytes of a gob train, parison header first (R310). -/
inductive Body where
  | tlp (t : Tlp)
  | par (bytes : List Byte)
  deriving DecidableEq, Repr

/-- A packet with its packet record (R37, R38). `bytes` is its whole length, `inPort`/`inCls` the receive buffer it came
through (256: the endpoint port or an engine), `pt` the partition it is routed in, `epoch` the forwarding epoch it bound (R28), `recNo`
the number of its packet record once it is charged (R56), and `pre` the bytes at the start of its data that lie in no cell: the mirror
header and the TLP header of a copy that shares its original's cells (R53). -/
structure Pkt where
  id : Nat
  role : Role
  body : Body
  bytes : Nat
  origin : Nat
  inPort : Nat
  inCls : Nat
  pt : Nat
  epoch : Nat
  coq : Nat
  cells : List Nat
  copies : Nat
  cutting : Bool
  recNo : Nat
  pre : Nat
  deriving DecidableEq, Repr

/-- Gobs of a packet (R6). -/
def Pkt.gobs (p : Pkt) : Nat := (p.bytes + 255) / 256

/-- A packet held in an ingress receive buffer (R45, R46): its buffer, its packet with its destination COQ, whether a refusal has begun
a hold, the crossing it waits to make while it has no peer tag (R226: destination partition, translated address, requester ID), and when
its hold began. -/
structure Hold where
  port : Nat
  cls : Nat
  pkt : Pkt
  refused : Bool
  peer : Option (Nat × Nat × Nat)
  since : Nat
  deriving DecidableEq, Repr

/-- It waits for a peer tag. -/
def Hold.peerWait (h : Hold) : Bool := h.peer.isSome

/-- The partition in which its destination lies. -/
def Hold.dpt (h : Hold) : Nat := match h.peer with | some (d, _) => d | none => h.pkt.pt

/-- A request that crossed into a partition under a peer tag (R226): the partition, the requester ID and tag it carries there, who made
it under which ID and tag, and the bytes its completions still owe. -/
structure PeerReq where
  destPt : Nat
  asRid : Nat
  tag : Nat
  srcPt : Nat
  rid : Nat
  origTag : Nat
  left : Nat
  deriving DecidableEq, Repr

/-- A non-posted request that went out of a port and whose completion is still due (R32, R47): who is answered if it cannot be, the bytes
still owed, and whether it is a configuration request, which no hold covers (R237). -/
structure Pending where
  port : Nat
  pt : Nat
  rid : Nat
  tag : Nat
  cls : Nat
  origin : Nat
  left : Nat
  cfg : Bool
  deriving DecidableEq, Repr

/-! ### Bridges and functions -/

/-- The fields of a bridge that routing, containment and hosts use (R222, R223, R227, R236). `devStat` holds the error bits of Device Status,
and `raw` the other bits that the standard lets a host write, by dword offset, as they differ from their reset value. -/
structure Bridge where
  pri : Nat := 0
  sec : Nat := 0
  sub : Nat := 0
  memBase : Nat := 1
  memLimit : Nat := 0
  prefBase : Nat := 1
  prefLimit : Nat := 0
  mse : Bool := false
  bme : Bool := false
  acs : Nat := 0
  linkCtl : Nat := 0
  mps : Nat := 0
  sbr : Bool := false
  dpcEn : Bool := false
  dpcTrig : Bool := false
  dpcReason : Nat := 0
  pwrOff : Bool := false
  aerUnc : Nat := 0
  aerCor : Nat := 0
  pwrFault : Bool := false
  presChange : Bool := false
  devStat : Nat := 0
  raw : SMap Nat := []
  deriving DecidableEq, Repr

/-- The configuration fields of a function (R245 to R251, R254). `status` and `devStat` hold the error bits of Status and of Device Status, `devCtl` the bits of Device Control without an effect
here; the masks and severities of AER
have the standard's reset values (PRESUMED, log entry 30); the fields from `numVfs` on, and the size of the SR-IOV VFs' BAR2, belong to
the PF's SR-IOV capability. -/
structure FnCfg where
  mse : Bool := false
  bme : Bool := false
  perr : Bool := false
  serr : Bool := false
  cacheLine : Nat := 0
  intLine : Nat := 0
  bar0 : Nat := 0
  bar2 : Nat := 0
  bar4 : Nat := 0
  rom : Nat := 0
  romEn : Bool := false
  bar2Log2 : Nat := 21
  d3 : Bool := false
  msixEn : Bool := false
  fmask : Bool := false
  mps : Nat := 0
  mrrs : Nat := 2
  ctoVal : Nat := 0
  ctoDis : Bool := false
  aerUnc : Nat := 0
  aerCor : Nat := 0
  aerMask : Nat := 0x00400000
  aerSev : Nat := 0x00462030
  aerCorMask : Nat := 0x00002000
  status : Nat := 0
  devStat : Nat := 0
  devCtl : Nat := 0
  vf2Log2 : Nat := 21
  numVfs : Nat := 0
  vfEn : Bool := false
  vfMse : Bool := false
  ari : Bool := false
  vfBar0 : Nat := 0
  vfBar2 : Nat := 0
  vfBar4 : Nat := 0
  deriving DecidableEq, Repr

/-! ### Queue path -/

/-- How far the payload of an accepted descriptor has come (R65, R66). -/
inductive DescPhase where
  | waiting       -- no payload buffer yet
  | fetching      -- fetch reads outstanding or still to issue
  | whole         -- payload whole in the payload buffer
  deriving DecidableEq, Repr

/-- A fetch read of a descriptor: its number, its offset and length in the payload, whether it has been issued and is done. -/
structure FetchRead where
  no : Nat
  off : Nat
  len : Nat
  issued : Bool
  deriving DecidableEq, Repr

/-- An accepted descriptor in its submission slot (R62, R64). -/
structure Desc where
  id : Nat
  q : Nat
  inl : Bool
  cmpl : Bool
  len : Nat
  tag : Nat
  addr : Nat
  mdat : Nat
  fkey : Nat
  inlData : List Byte
  phase : DescPhase
  gobs : List Nat
  reads : List FetchRead
  deriving DecidableEq, Repr

/-- A packet on the queue path: whole payload in the payload buffer, from an enqueue request or from the fabric (R68 to R70).
`src` and `dq` are global queue numbers (R59). -/
structure QPkt where
  id : Nat
  src : Nat
  tag : Nat
  cmpl : Bool
  len : Nat
  mdat : Nat
  fkey : Nat
  colour : Nat
  dq : Nat
  origin : Nat
  gobs : List Nat
  mirror : Option Nat
  remote : Bool
  gen : Nat
  seq : Nat
  deriving DecidableEq, Repr

/-- State of a Jack lane's request (R68, R69): the packet it works on and the action epoch it bound. -/
structure JackReq where
  lane : Nat
  pkt : QPkt
  epoch : Nat
  deriving DecidableEq, Repr

/-- A dequeue decision between its start and the naming of its packet (R90, R91, R94): its pipeline, the nodes it chose, the
queue, the selected packet and its length, the token units it charged to each shaped node, and the scheduling epoch it bound. -/
structure Decision where
  pipe : Nat
  pnode : Nat
  svc : Nat
  sub : Nat
  queue : Nat
  pktId : Nat
  len : Nat
  charged : List (Nat × Nat)
  epoch : Nat
  deriving DecidableEq, Repr

/-- A flow record in the flow cache (R101, R105): its number, its eight words, and whether it is dirty. -/
structure FlowLine where
  idx : Nat
  words : List Nat
  dirty : Bool
  deriving DecidableEq, Repr

/-- A meter that waits for the fill of its record (R105): the record, the agent it holds, its operands, its result registers, its
syllable, and the beat in which the lane began to be held. -/
structure MeterWait where
  idx : Nat
  lane : Nat
  len : Nat
  cin : Nat
  rd : Nat
  pd : Nat
  insn : Nat
  since : Nat
  deriving DecidableEq, Repr

/-- A POL_FLOWCMD that is being applied (R106): its operation, its record, the tag of the master that wrote it, the meters of the record that
were issued before it, and the words it writes. -/
structure FlowCmd where
  op : Nat
  idx : Nat
  origin : Nat
  ahead : Nat
  words : List Nat
  deriving DecidableEq, Repr

/-- Stage of a delivery (R73). -/
inductive DelPhase where
  | reading | writing | header | headerSent
  deriving DecidableEq, Repr

/-- A delivery in progress (R71, R73): its number in the order of dequeue decisions, its engine, ring, packet, first slot, slots, phase bit,
payload writes still to be admitted (host address, bytes) and still to be transmitted, and whether it is abandoned. -/
structure Delivery where
  id : Nat
  eng : Nat
  q : Nat
  pkt : QPkt
  slot : Nat
  slots : Nat
  phaseBit : Bool
  phase : DelPhase
  toAdmit : List (Nat × List Byte)
  inFlight : Nat
  err : Bool
  pnode : Nat
  charge : Nat
  deriving DecidableEq, Repr

/-- The lease of a queue lock, a region lock, a mailbox claim or an atomic sequence (R30): its holder's tag, its deadline in
kbeats as last loaded, and whether that passed. -/
structure Lease where
  holder : Nat
  deadline : Nat
  expired : Bool
  deriving DecidableEq, Repr

/-! ### Cane links and fabric -/

/-- How a gob train being received stands (R45, R286): waiting in the receive buffer, admitted to its COQ, or being discarded. -/
inductive RxMode where
  | held | admitted | dropping
  deriving DecidableEq, Repr

/-- A gob train in reassembly or held (R286, R290): its packet, with the cells it has, its bytes so far, the gobs received, the gobs
that still occupy the receive buffer, whether a refusal has begun a hold and when, whether its EOP has come, and whether the link it
came by has gone down since (its gobs then no longer count in the credit). -/
structure RxTrain where
  pkt : Pkt
  data : List Byte
  got : Nat
  inBuf : Nat
  mode : RxMode
  refused : Bool
  since : Nat
  done : Bool
  old : Bool
  deriving DecidableEq, Repr

/-- An entry of the cullet store (R287): its number, and either the whole message of an LMSG or the header fields of a DATA frame
with the cell of its gob (none when it was void before it was sent) and the packet it belongs to. -/
structure Cullet where
  seq : Nat
  lmsg : Option Nat
  pri : Nat
  sop : Bool
  eop : Bool
  bad : Bool
  vlen : Nat
  cell : Option Nat
  pktId : Nat
  deriving DecidableEq, Repr

/-- A substitution of the spare at one end (R275, R295): the lane, the spare's octet, whether the exchange is past
SUB_DONE, and whether the type 7 words of the copy have come. -/
structure SubRun where
  lane : Nat
  octet : Nat
  done : Bool
  heard : Bool
  deriving DecidableEq, Repr

/-- What a cane port holds beside its registers (R287 to R303). -/
structure Cane where
  cullets : List Cullet := []                 -- oldest first
  live : List Pkt := []                       -- packets with a gob sent and not yet acknowledged whole
  tx : List (Nat × Nat × Nat) := []           -- train in transmission of a priority: (priority, packet, next gob)
  chk : Nat := 0                              -- C (R288)
  replay : Option (Nat × Bool) := none        -- next entry to resend; a REPLAY frame is due first (R287)
  replayFrom : Option (Nat × Nat) := none     -- start of the last replay, and its beat
  stalled : Nat := 0                          -- replays since A moved
  crdPri : Nat := 0                           -- priority whose limit the next header carries (R289)
  outbox : List Nat := []                     -- link messages still to be sent, oldest first
  inbox : List Nat := []                      -- link messages accepted and not yet acted on, oldest first
  ownRetrain : Option Nat := none             -- own RETRAIN_REQ without an answer (R293)
  waitRetrain : Option Nat := none            -- RETRAIN_REQ that waits for a substitution (R294)
  subRx : List SubRun := []                   -- substitutions this end asked for, one for each spare (R262, R295)
  subTx : List SubRun := []                   -- copies this end sends (R295)
  stbySeq : Option Nat := none                -- STANDBY sent under this number (R296)
  peerStby : Bool := false                    -- STANDBY accepted: the receive direction may follow
  peerWords : Bool := false                   -- the partner's first training word of a retrain has come (R303)
  newWidth : Nat := 0                         -- width agreed in training, or asked for by a retrain
  newRate : Nat := 0                          -- rate, likewise
  newEq : Bool := false                       -- equalise again
  step : Nat := 0                             -- type of training word a retrain is sending, or 4 once CN_EQ is done
  sentAck : Nat := 0                          -- ACK of the last header sent
  sentLim : SMap Nat := []                    -- limit of a priority as last sent, plus one
  heights : List (Nat × Nat × Nat) := []      -- (physical lane, preset, eye height) kept in CN_EQ, latest last (R302)
  deriving DecidableEq, Repr

/-- An open pending record of fabric transport (R308, R315). -/
structure PendRec where
  dst : Nat
  seq : Nat
  pkt : QPkt
  pnode : Nat
  gobs : Nat
  pktId : Nat
  deriving DecidableEq, Repr

/-! ### Commands -/

/-- An issued command of a slot (R351, R352): the issuing master's tag, its NOTIFY and VEC, its place in the order of ISSUE, whether
it has started, whether it is in its indivisible step, and the words, pages or areas its work has chosen. -/
structure Job where
  issuer : Nat
  notify : Bool
  vec : Nat
  order : Nat
  started : Bool
  indivisible : Bool
  aux : Nat
  deriving DecidableEq, Repr

/-! ### Cores and lanes -/

/-- Whether a core issues instructions (R183, R184, R214): running; asleep in WAIT for a mask, result due in a register; clock
stopped, by reset or by WAIT with mask 0 (then a result is due); starting after a wake; being taken over by a spare; failed, with no
physical core; held for a result that is not there yet (R194), due in a register; or about to take BUS_ERR for a load at an address that
has failed, while its store buffer drains (R147, R188). -/
inductive RunSt where
  | running
  | waiting (mask rd : Nat) (limited : Bool)
  | stopped (rd : Nat)
  | starting (rd : Nat)
  | taking
  | failed
  | held (rd : Nat)
  | faulting (addr : Nat)
  deriving DecidableEq, Repr

/-- A store of a core that is not yet performed (R136): its 64-bit address, its bytes, whether it is device-ordered, the atomic it
stands for if it is one without a result (R173) with its operand and its OPEN and CLOSE bits, the origin tag it carries, and whether
a FENCE.D that waits for it has been executed since (R139). -/
structure StoreEnt where
  addr : Nat
  data : List Byte
  device : Bool
  atom : Option AtomOp
  operand : Nat
  openSeq : Bool
  closeSeq : Bool
  origin : Nat
  fenced : Bool
  sent : Nat := 0                 -- 1 + number of the side-bridge request this store has become (R332)
  deriving DecidableEq, Repr

/-! ### Side bridge -/

/-- The transaction of a side bus that the access length selects (R329); with the write flag each is a read or a write. -/
inductive SideTran where
  | byte
  | word
  | block (n : Nat)
  | i3c (n : Nat)
  deriving DecidableEq, Repr

/-- Who made a side-bridge access (R330): the host, with how it is answered, a store of a core, a load of a core with its destination, sign extension,
syllable and effective address, an access of a core outside its instruction stream, a poll entry, or a requester that a reset has removed. -/
inductive SideWho where
  | host (x : Txn)
  | store (c : Nat)
  | load (c rd : Nat) (sx : Bool) (insn ea : Nat)
  | core (c : Nat)
  | poll (e : Nat)
  | gone
  deriving DecidableEq, Repr

/-- An accepted access of the side bridge (R330, R331): its number, direction, side address, bytes, write data, origin tag, requester,
queue (a chip select 0 to 3, or 4 + bus), the region record or bus register as it stood at acceptance, and for a region its number plus
one, whether it is a posted write, its WSN, whether its transfer runs, and whether a
commit of its gate has come since it was bound. -/
structure SideReq where
  id : Nat
  write : Bool
  addr : Nat
  size : Nat
  data : Nat
  origin : Nat
  who : SideWho
  q : Nat
  cfg : Nat
  rgn : Nat
  posted : Bool
  wsn : Nat
  running : Bool
  old : Bool := false             -- bound to the previous bank of GATE19 (R157)
  deriving DecidableEq, Repr

/-- An access that a gate has let through and that waits at its target (R156): the gate, the first byte, the bytes, its kind, its origin
tag, who waits, and whether a commit of the gate has come since (R157). -/
structure GateBound where
  gate : Nat
  addr : Nat
  len : Nat
  kind : Nat
  origin : Nat
  who : Nat
  old : Bool
  deriving DecidableEq, Repr

/-- A filled prefetch buffer (R335): its region, the address of its 8-byte word, its bytes, and a mask of the bytes already served. -/
structure PrefBuf where
  rgn : Nat
  word : Nat
  data : Nat
  served : Nat
  deriving DecidableEq, Repr

/-- The state a Gaffer core or a Jack lane holds (R162), its control registers (R185), its place in a predicated range (R187) and
its store buffer (R136). -/
structure Core where
  g : SMap Nat := []
  k : SMap Nat := []
  p : Nat := 0
  pc : Nat := 0
  csr : SMap Nat := []
  run : RunSt := .stopped 0
  ran : Bool := false             -- has run since the last reset (R213)
  switched : Bool := false        -- stopped, and switched to a new bank meanwhile (R213)
  slots : List Nat := []          -- predicate slots of the covered instructions still to come (R187)
  predPc : Nat := 0               -- PC of the PRED that covers them
  predDone : Nat := 0             -- covered instructions already completed
  skip : Nat := 0                 -- covered instructions the next PRED skips after ERET (R188)
  sb : List StoreEnt := []        -- store buffer, oldest first (R136)
  colour : Nat := 0               -- MARK.C of the request (R180)
  mirror : Option Nat := none     -- MARK.M of the request (R180)
  deriving DecidableEq, Repr

end Sys2Proof.Machine
end

