-- ==== Sys2Proof/Machine/Bits.lean ====
section
/-!
DEFINITION. Bit-field, sign and byte-order helpers on natural numbers: bit 0 is the least significant bit and a range includes
both ends (R10); multi-byte values are little-endian (R10).
-/
namespace Sys2Proof.Machine

/-- The `w` bits of `v` from bit `lo` up. -/
def fieldOf (v lo w : Nat) : Nat := v / 2 ^ lo % 2 ^ w

/-- `v` with the `w` bits from bit `lo` up replaced by the low `w` bits of `x`. -/
def putField (v lo w x : Nat) : Nat := v - fieldOf v lo w * 2 ^ lo + x % 2 ^ w * 2 ^ lo

/-- Bit `i` of `v`. -/
def bitOf (v i : Nat) : Bool := v / 2 ^ i % 2 == 1

/-- 1 for true, 0 for false. -/
def bit01 (b : Bool) : Nat := if b then 1 else 0

/-- Smallest whole number of units of size `u` that holds `n`. -/
def ceilDiv (n u : Nat) : Nat := (n + (u - 1)) / u

/-- Gobs of a packet of `b` bytes (R6). -/
def gobsOf (b : Nat) : Nat := ceilDiv b 256

/-- Two's-complement reading of the low `w` bits of `v`. -/
def signedOf (v w : Nat) : Int :=
  let u := v % 2 ^ w
  if 2 ^ w ≤ 2 * u then (u : Int) - (2 ^ w : Nat) else (u : Int)

/-- The `w`-bit two's-complement pattern of an integer. -/
def patternOf (x : Int) (w : Nat) : Nat := (x % (2 ^ w : Nat)).toNat

/-- The `n` bytes of `v`, the byte holding bits [7:0] first (R10). -/
def bytesOf (v : Nat) : Nat → List Nat
  | 0 => []
  | n + 1 => v % 256 :: bytesOf (v / 256) n

/-- The value of a little-endian run of bytes (R10). -/
def leValue : List Nat → Nat
  | [] => 0
  | b :: bs => b % 256 + 256 * leValue bs

/-- Number of one bits among the low `n` bits of `v`. -/
def popCount (v : Nat) : Nat → Nat
  | 0 => 0
  | n + 1 => v % 2 + popCount (v / 2) n

/-- The lowest set bit among bits `from` to `from + n - 1` of `v`. -/
def firstSet (v start : Nat) : Nat → Option Nat
  | 0 => none
  | n + 1 => if bitOf v start then some start else firstSet v (start + 1) n

/-- Addition that stops at `cap` (a counter that saturates). -/
def satAdd (a b cap : Nat) : Nat := if cap ≤ a + b then cap else a + b

end Sys2Proof.Machine
end

