-- ==== Sys2Proof/Machine/Card.lean ====
section
/-!
DEFINITION. The shape of a register card: the header row (offset, stride, reset class, commit mark, epoch domain) and the field
table (bits, access code, reset value, field class), as R11 to R19 use them.
-/
namespace Sys2Proof.Machine

/-- Access codes of R15 that occur; a bit of no listed field is RSV. -/
inductive Acc where
  | ro | rw | rw1c | rw1s | rw1cs | wo | rc
  deriving DecidableEq, Repr

/-- Field classes (R17). -/
inductive FClass where
  | live | shadow | quiesce
  deriving DecidableEq, Repr

/-- Reset classes (R16). -/
inductive RClass where
  | powerOn | cold | warm | partition | function
  deriving DecidableEq, Repr

/-- Epoch domains (R28), and the other points a shadowed register can wait for (R17). -/
inductive Dom where
  | none | forwarding | action | scheduling | gating | named
  deriving DecidableEq, Repr

/-- A bit field of a register or record. -/
structure Fld where
  lo : Nat
  w : Nat
  deriving DecidableEq, Repr

/-- One row of a card's field table. -/
structure FieldRow where
  f : Fld
  acc : Acc
  cls : FClass
  deriving DecidableEq, Repr

/-- A register: its address (BAR0 offset, or the model's base for BAR4 control blocks and records) and its reset value. -/
structure RegRef where
  addr : Nat
  rst : Nat
  deriving DecidableEq, Repr

/-- One index of a card: its stride, its first and its last value. -/
structure Dim where
  stride : Nat
  first : Nat
  last : Nat
  deriving DecidableEq, Repr

end Sys2Proof.Machine
end

