-- ==== Sys2Proof/Machine/RegMap.lean ====
section
/-!
DEFINITION. Every register card of the manual: the address and reset value of each register (`R`), the place of each field (`F`),
and the table `cardTable` that R11 to R19 are applied from. Offsets are BAR0 offsets; the queue control blocks of BAR4 stand at
0x1_0000_0000 + 0x80 × queue, the firmware frame of a mailbox at 0x261_0000 + 0x100 × m (the model's own placing, log entry 3).
Reset values the manual leaves to straps, trim and latches stand as 0 here (log entry 4).
-/
namespace Sys2Proof.Machine

/-- One constructor per register card. -/
inductive Reg where
  | CRU_CTL
  | CRU_STATUS
  | CRU_POOLSTAT
  | CRU_ALLOCSTAT
  | CRU_MINSHARED
  | CRU_HOLDTO
  | CRU_COMMIT
  | CRU_DTHRESH
  | CRU_ECCSTAT
  | CRU_ECCLOG
  | CRU_RETCFG
  | CRU_RETADD
  | CRU_CTEN
  | CRU_MIRSESS
  | CRU_MIRBASE
  | CRU_MIRSTAT
  | CRU_MIRPORT
  | CRU_COQCFG
  | CRU_COQSTAT
  | CRU_COQDROP
  | CRU_RETLIST
  | QUE_CTL
  | QUE_STATUS
  | QUE_PBUF
  | QUE_PBUFSTAT
  | QUE_SQSTAT
  | QUE_FETCH
  | QUE_REQSTAT
  | QUE_ERRLOG
  | QUE_CTXSEL
  | QUE_CTXCMD
  | QUE_STATECMD
  | QUE_LOCKCMD
  | QUE_LOCKSTAT
  | QUE_LOCKFORCE
  | QUE_CTXDATA
  | QUE_CQCFG
  | QUE_CQHEAD
  | QUE_RXCFG
  | QUE_RXHEAD
  | QUE_IRQCFG
  | QUE_QINFO
  | QUE_CQTAIL
  | QUE_QLOCK
  | SCH_CTL
  | SCH_STATUS
  | SCH_ERRLOG
  | SCH_DECSTAT
  | SCH_NODECFG
  | SCH_SHAPE
  | SCH_BUCKET
  | SCH_PORTCR
  | SCH_QATT
  | POL_CTL
  | POL_STATUS
  | POL_FLOWBASE
  | POL_CACHESTAT
  | POL_FLOWSEL
  | POL_FLOWCMD
  | POL_FLOWDATA
  | POL_PROFA
  | POL_PROFB
  | GST_CTL
  | GST_STATUS
  | GST_ARB
  | GST_ECCSTAT
  | GST_ECCLOG
  | GST_ECCORG
  | GST_SCRUB
  | GST_SCRUBSTAT
  | GST_RETCFG
  | GST_RETADD
  | GST_RETSTAT
  | GST_KEEP
  | GST_KEEPSTAT
  | GST_LOCKCMD
  | GST_LOCKSTAT
  | GST_FORCE
  | GST_SEQCFG
  | GST_LOCKA
  | GST_LOCKB
  | GST_REMAP
  | GST_FNPOOL
  | GST_POOLMAP
  | GAT_CTL
  | GAT_STATUS
  | GAT_XCFG
  | GAT_GSTAT
  | GAT_EPOCH
  | GAT_VLOGA
  | GAT_VLOGB
  | GAT_MSET
  | GAT_RGNA
  | GAT_RGNB
  | GAF_CTL
  | GAF_STATUS
  | GAF_COMMIT
  | GAF_EPSTAT
  | GAF_DEBUG
  | GAF_CORECMD
  | GAF_CORE
  | GAF_EVROUTE
  | JCK_STATUS
  | JCK_TBLSEL
  | JCK_TBLCMD
  | JCK_TBLDATA
  | JCK_SLOT
  | JCK_TBLA
  | JCK_TBLB
  | PRT_CTL
  | PRT_STATUS
  | PRT_ROLE
  | PRT_LINKCFG
  | PRT_LINKSTAT
  | PRT_ARB
  | PRT_SLOT
  | PRT_OCTCFG
  | PTN_MGMT
  | PTN_STATUS
  | PTN_RSTCMD
  | PTN_CFG
  | PTN_STATE
  | PTN_PEERA
  | PTN_PEERB
  | QEP_CTL
  | QEP_STATUS
  | QEP_ID
  | QEP_DSN
  | QEP_VFBAR
  | QEP_VFCMD
  | QEP_VFMAP
  | QEP_FNSTAT
  | QEP_NODEOWN
  | LNE_OCTCTL
  | LNE_OCTSTAT
  | LNE_FAILCFG
  | LNE_RETRIM
  | LNE_RETRIMSTAT
  | LNE_MARGINCFG
  | LNE_FAILED
  | LNE_CTL
  | LNE_STAT
  | LNE_DFE
  | LNE_TXEQ
  | LNE_ERRCNT
  | LNE_MARGCMD
  | LNE_MARGRES
  | CAN_CTL
  | CAN_STATUS
  | CAN_LINKCFG
  | CAN_TRAINCFG
  | CAN_CMD
  | CAN_TXSEQ
  | CAN_RXSEQ
  | CAN_ERRCNT
  | CAN_REPCNT
  | CAN_EVCNT
  | CAN_CRDCFG
  | CAN_CRDSTAT
  | FTX_CTL
  | FTX_STATUS
  | FTX_TIMERS
  | FTX_CMD
  | FTX_ERRCNT
  | FTX_RPTCNT
  | FTX_GEN
  | FTX_FIDMAP
  | FTX_ROUTE
  | FTX_FIDSTAT
  | FTX_FIDSEQ
  | FTX_REPL
  | FTX_LEP
  | LTH_CTL
  | LTH_STATUS
  | LTH_WIN
  | LTH_PREFDISC
  | LTH_POLLSTAT
  | LTH_GPIOIN
  | LTH_GPIOOE
  | LTH_GPIOOUT
  | LTH_RGN
  | LTH_SBCFG
  | LTH_LELOGA
  | LTH_LELOGB
  | LTH_POLL
  | LTH_POLLMASK
  | LTH_POLLVAL
  | MBX_CTL
  | MBX_STATUS
  | MBX_FORCE
  | MBX_CFG
  | MBX_TXMSG
  | MBX_RXMSG
  | MBX_CMD
  | MBX_ESTAT
  | CMD_CTL
  | CMD_STATUS
  | CMD_ALLOC
  | CMD_CFG
  | CMD_FORCE
  | CMD_SLOT
  | CMD_ARG
  | CMD_OP
  | CMD_RESA
  | CMD_RESB
  | CMD_RESC
  | FLT_CTL
  | FLT_STATUS
  | FLT_CNT
  | FLT_CMD
  | FLT_OPENMAP
  | FLT_CODECFG
  | FLT_RECA
  | FLT_RECB
  | FLT_RECC
  | FLT_RECD
  | FLT_RECE
  | MON_STATUS
  | MON_VAL
  | MON_THR
  | TAL_CTL
  | TAL_STATUS
  | TAL_UACC
  | TAL_SMPCFG
  | TAL_SMPPTR
  | TAL_SMPSTAT
  | TAL_WRAP
  | TAL_SEL
  | TAL_MATCH
  | TAL_ALO
  | TAL_AHI
  | TAL_CNT
  | TAL_PORT
  | EMB_STATUS
  | EMB_BEAT
  | EMB_CLKPOL
  | EMB_CLKFORCE
  | EMB_CLKSTAT
  | EMB_WAKEMASK
  | EMB_WDCFG
  | EMB_WDKICK
  | EMB_WDSTAT
  | RST_STATUS
  | RST_CTL
  | RST_CAUSE
  | RST_STRAP
  | RST_LEHR
  | RST_CMD
  | RST_TRIMSTAT
  | RST_DOMAIN
  | PWR_CTL
  | PWR_STATUS
  | PWR_FEEDCFG
  | PWR_FEEDAUX
  | PWR_FEEDSTAT
  | PWR_SHED
  | PWR_SHEDSTAT
  | SLT_CFG
  | SLT_AUX
  | SLT_CTL
  | SLT_STAT
  | HLD_CFG
  | HLD_STATUS
  deriving DecidableEq, Repr

/-! Fields, as `F.<register>_<field>`. -/
/-! CRU_CTL (02_crucible.md) -/
def F.CRU_CTL_ENABLE : Fld := ⟨0, 1⟩
def F.CRU_CTL_CT_GLOBAL : Fld := ⟨1, 1⟩
/-! CRU_STATUS (02_crucible.md) -/
def F.CRU_STATUS_IDLE : Fld := ⟨0, 1⟩
def F.CRU_STATUS_CFG_REFUSED : Fld := ⟨1, 1⟩
def F.CRU_STATUS_COMMIT_BAD : Fld := ⟨2, 1⟩
def F.CRU_STATUS_COMMIT_PEND : Fld := ⟨3, 1⟩
def F.CRU_STATUS_TRIM_WAIT : Fld := ⟨4, 1⟩
/-! CRU_POOLSTAT (02_crucible.md) -/
def F.CRU_POOLSTAT_SHARED_FREE : Fld := ⟨0, 20⟩
def F.CRU_POOLSTAT_RESV_SUM : Fld := ⟨20, 20⟩
def F.CRU_POOLSTAT_SHARED_SIZE : Fld := ⟨40, 20⟩
/-! CRU_ALLOCSTAT (02_crucible.md) -/
def F.CRU_ALLOCSTAT_PKTREC_FREE : Fld := ⟨0, 19⟩
def F.CRU_ALLOCSTAT_RETIRED : Fld := ⟨32, 11⟩
/-! CRU_MINSHARED (02_crucible.md) -/
def F.CRU_MINSHARED_MIN_SHARED : Fld := ⟨0, 20⟩
/-! CRU_HOLDTO (02_crucible.md) -/
def F.CRU_HOLDTO_HOLD_TO : Fld := ⟨0, 24⟩
/-! CRU_COMMIT (02_crucible.md) -/
def F.CRU_COMMIT_GO : Fld := ⟨0, 1⟩
/-! CRU_DTHRESH (02_crucible.md) -/
def F.CRU_DTHRESH_ALPHA_C0 : Fld := ⟨0, 4⟩
def F.CRU_DTHRESH_ALPHA_C1 : Fld := ⟨4, 4⟩
def F.CRU_DTHRESH_ALPHA_C2 : Fld := ⟨8, 4⟩
def F.CRU_DTHRESH_ALPHA_C3 : Fld := ⟨12, 4⟩
def F.CRU_DTHRESH_ALPHA_C4 : Fld := ⟨16, 4⟩
def F.CRU_DTHRESH_ALPHA_C5 : Fld := ⟨20, 4⟩
def F.CRU_DTHRESH_ALPHA_C6 : Fld := ⟨24, 4⟩
def F.CRU_DTHRESH_ALPHA_C7 : Fld := ⟨28, 4⟩
def F.CRU_DTHRESH_ALPHA_SKIM : Fld := ⟨32, 4⟩
/-! CRU_ECCSTAT (02_crucible.md) -/
def F.CRU_ECCSTAT_CE1 : Fld := ⟨0, 32⟩
def F.CRU_ECCSTAT_CE2 : Fld := ⟨32, 16⟩
def F.CRU_ECCSTAT_UE : Fld := ⟨48, 16⟩
/-! CRU_ECCLOG (02_crucible.md) -/
def F.CRU_ECCLOG_CELL : Fld := ⟨0, 20⟩
def F.CRU_ECCLOG_WORD : Fld := ⟨20, 5⟩
def F.CRU_ECCLOG_WEIGHT : Fld := ⟨25, 2⟩
def F.CRU_ECCLOG_LINKMEM : Fld := ⟨27, 1⟩
def F.CRU_ECCLOG_VALID : Fld := ⟨28, 1⟩
def F.CRU_ECCLOG_OVF : Fld := ⟨29, 1⟩
def F.CRU_ECCLOG_RECORD : Fld := ⟨30, 1⟩
/-! CRU_RETCFG (02_crucible.md) -/
def F.CRU_RETCFG_RET_EN : Fld := ⟨0, 1⟩
def F.CRU_RETCFG_RET_UE : Fld := ⟨1, 1⟩
/-! CRU_RETADD (02_crucible.md) -/
def F.CRU_RETADD_CELL : Fld := ⟨0, 20⟩
def F.CRU_RETADD_GO : Fld := ⟨63, 1⟩
/-! CRU_CTEN (02_crucible.md) -/
def F.CRU_CTEN_CT_EN : Fld := ⟨0, 64⟩
/-! CRU_MIRSESS (02_crucible.md) -/
def F.CRU_MIRSESS_DPORT : Fld := ⟨0, 8⟩
def F.CRU_MIRSESS_EN : Fld := ⟨8, 1⟩
def F.CRU_MIRSESS_TRUNC : Fld := ⟨9, 12⟩
def F.CRU_MIRSESS_REQID : Fld := ⟨32, 16⟩
def F.CRU_MIRSESS_WIN_LOG2 : Fld := ⟨48, 4⟩
def F.CRU_MIRSESS_SAMPLE_LOG2 : Fld := ⟨52, 4⟩
/-! CRU_MIRBASE (02_crucible.md) -/
def F.CRU_MIRBASE_BASE : Fld := ⟨16, 48⟩
/-! CRU_MIRSTAT (02_crucible.md) -/
def F.CRU_MIRSTAT_SEQ : Fld := ⟨0, 32⟩
def F.CRU_MIRSTAT_DROPS : Fld := ⟨32, 32⟩
/-! CRU_MIRPORT (02_crucible.md) -/
def F.CRU_MIRPORT_ING_EN : Fld := ⟨0, 1⟩
def F.CRU_MIRPORT_ING_SESS : Fld := ⟨1, 2⟩
def F.CRU_MIRPORT_EGR_EN : Fld := ⟨3, 1⟩
def F.CRU_MIRPORT_EGR_SESS : Fld := ⟨4, 2⟩
/-! CRU_COQCFG (02_crucible.md) -/
def F.CRU_COQCFG_RESV : Fld := ⟨0, 20⟩
def F.CRU_COQCFG_ALPHA : Fld := ⟨20, 4⟩
def F.CRU_COQCFG_ALPHA_OVR : Fld := ⟨24, 1⟩
def F.CRU_COQCFG_MODE : Fld := ⟨25, 1⟩
def F.CRU_COQCFG_MAXOCC : Fld := ⟨32, 20⟩
/-! CRU_COQSTAT (02_crucible.md) -/
def F.CRU_COQSTAT_OCC : Fld := ⟨0, 20⟩
def F.CRU_COQSTAT_PEAK : Fld := ⟨20, 20⟩
def F.CRU_COQSTAT_PKTS : Fld := ⟨40, 19⟩
def F.CRU_COQSTAT_HELD : Fld := ⟨59, 1⟩
/-! CRU_COQDROP (02_crucible.md) -/
def F.CRU_COQDROP_DROP_PKTS : Fld := ⟨0, 32⟩
def F.CRU_COQDROP_HOLD_EVENTS : Fld := ⟨32, 32⟩
/-! CRU_RETLIST (02_crucible.md) -/
def F.CRU_RETLIST_CELL : Fld := ⟨0, 20⟩
def F.CRU_RETLIST_VALID : Fld := ⟨20, 1⟩
/-! QUE_CTL (03_queue_path.md) -/
def F.QUE_CTL_ENABLE : Fld := ⟨0, 1⟩
/-! QUE_STATUS (03_queue_path.md) -/
def F.QUE_STATUS_IDLE : Fld := ⟨0, 1⟩
def F.QUE_STATUS_CFG_REFUSED : Fld := ⟨1, 1⟩
def F.QUE_STATUS_BADCMD : Fld := ⟨2, 1⟩
def F.QUE_STATUS_CMD_BUSY : Fld := ⟨3, 1⟩
def F.QUE_STATUS_TRIM_WAIT : Fld := ⟨4, 1⟩
/-! QUE_PBUF (03_queue_path.md) -/
def F.QUE_PBUF_BASE_PAGE : Fld := ⟨0, 16⟩
def F.QUE_PBUF_PAGES : Fld := ⟨16, 16⟩
/-! QUE_PBUFSTAT (03_queue_path.md) -/
def F.QUE_PBUFSTAT_FREE : Fld := ⟨0, 29⟩
def F.QUE_PBUFSTAT_LOW : Fld := ⟨32, 29⟩
/-! QUE_SQSTAT (03_queue_path.md) -/
def F.QUE_SQSTAT_FREE : Fld := ⟨0, 17⟩
def F.QUE_SQSTAT_OVERFLOWS : Fld := ⟨32, 32⟩
/-! QUE_FETCH (03_queue_path.md) -/
def F.QUE_FETCH_MAXRD : Fld := ⟨0, 4⟩
/-! QUE_REQSTAT (03_queue_path.md) -/
def F.QUE_REQSTAT_DISPATCHED : Fld := ⟨0, 48⟩
def F.QUE_REQSTAT_LANE_WAIT : Fld := ⟨48, 16⟩
/-! QUE_ERRLOG (03_queue_path.md) -/
def F.QUE_ERRLOG_QUEUE : Fld := ⟨0, 16⟩
def F.QUE_ERRLOG_KIND : Fld := ⟨16, 3⟩
def F.QUE_ERRLOG_FN : Fld := ⟨19, 13⟩
def F.QUE_ERRLOG_PT : Fld := ⟨32, 6⟩
def F.QUE_ERRLOG_VALID : Fld := ⟨38, 1⟩
def F.QUE_ERRLOG_OVF : Fld := ⟨39, 1⟩
def F.QUE_ERRLOG_BADWR : Fld := ⟨40, 24⟩
/-! QUE_CTXSEL (03_queue_path.md) -/
def F.QUE_CTXSEL_QUEUE : Fld := ⟨0, 16⟩
/-! QUE_CTXCMD (03_queue_path.md) -/
def F.QUE_CTXCMD_OP : Fld := ⟨0, 2⟩
/-! QUE_STATECMD (03_queue_path.md) -/
def F.QUE_STATECMD_QUEUE : Fld := ⟨0, 16⟩
def F.QUE_STATECMD_OP : Fld := ⟨16, 3⟩
def F.QUE_STATECMD_SET : Fld := ⟨19, 1⟩
/-! QUE_LOCKCMD (03_queue_path.md) -/
def F.QUE_LOCKCMD_OP : Fld := ⟨0, 2⟩
def F.QUE_LOCKCMD_QUEUE : Fld := ⟨16, 16⟩
def F.QUE_LOCKCMD_DEADLINE : Fld := ⟨32, 16⟩
/-! QUE_LOCKSTAT (03_queue_path.md) -/
def F.QUE_LOCKSTAT_HELD : Fld := ⟨0, 1⟩
def F.QUE_LOCKSTAT_EXPIRED : Fld := ⟨1, 1⟩
def F.QUE_LOCKSTAT_DEADLINE : Fld := ⟨16, 16⟩
def F.QUE_LOCKSTAT_HOLDER : Fld := ⟨32, 32⟩
/-! QUE_LOCKFORCE (03_queue_path.md) -/
def F.QUE_LOCKFORCE_ORIGIN : Fld := ⟨0, 32⟩
def F.QUE_LOCKFORCE_MASK : Fld := ⟨32, 32⟩
/-! QUE_CTXDATA (03_queue_path.md) -/
def F.QUE_CTXDATA_DATA : Fld := ⟨0, 64⟩
/-! QUE_CQCFG (03_queue_path.md) -/
def F.QUE_CQCFG_CQ_LOG2 : Fld := ⟨0, 4⟩
def F.QUE_CQCFG_CQ_EN : Fld := ⟨4, 1⟩
def F.QUE_CQCFG_CQ_BASE : Fld := ⟨12, 52⟩
/-! QUE_CQHEAD (03_queue_path.md) -/
def F.QUE_CQHEAD_CQ_HEAD : Fld := ⟨0, 21⟩
/-! QUE_RXCFG (03_queue_path.md) -/
def F.QUE_RXCFG_RX_LOG2 : Fld := ⟨0, 4⟩
def F.QUE_RXCFG_SLOT_LOG2 : Fld := ⟨4, 3⟩
def F.QUE_RXCFG_RX_EN : Fld := ⟨7, 1⟩
def F.QUE_RXCFG_RX_BASE : Fld := ⟨12, 52⟩
/-! QUE_RXHEAD (03_queue_path.md) -/
def F.QUE_RXHEAD_RX_HEAD : Fld := ⟨0, 21⟩
/-! QUE_IRQCFG (03_queue_path.md) -/
def F.QUE_IRQCFG_CQ_VEC : Fld := ⟨0, 11⟩
def F.QUE_IRQCFG_RX_VEC : Fld := ⟨16, 11⟩
def F.QUE_IRQCFG_MOD_CNT : Fld := ⟨32, 8⟩
def F.QUE_IRQCFG_MOD_TIME : Fld := ⟨40, 16⟩
/-! QUE_QINFO (03_queue_path.md) -/
def F.QUE_QINFO_STATE : Fld := ⟨0, 3⟩
def F.QUE_QINFO_CQ_OVF : Fld := ⟨3, 1⟩
def F.QUE_QINFO_REFUSED : Fld := ⟨4, 1⟩
def F.QUE_QINFO_SQ_FREE : Fld := ⟨16, 13⟩
def F.QUE_QINFO_RX_TAIL : Fld := ⟨32, 21⟩
/-! QUE_CQTAIL (03_queue_path.md) -/
def F.QUE_CQTAIL_CQ_TAIL : Fld := ⟨0, 21⟩
/-! QUE_QLOCK (03_queue_path.md) -/
def F.QUE_QLOCK_OP : Fld := ⟨0, 2⟩
def F.QUE_QLOCK_HELD : Fld := ⟨2, 1⟩
def F.QUE_QLOCK_MINE : Fld := ⟨3, 1⟩
def F.QUE_QLOCK_EXPIRED : Fld := ⟨4, 1⟩
def F.QUE_QLOCK_DEADLINE : Fld := ⟨16, 16⟩
/-! SCH_CTL (04_scheduling_shaping_policing.md) -/
def F.SCH_CTL_ENABLE : Fld := ⟨0, 1⟩
/-! SCH_STATUS (04_scheduling_shaping_policing.md) -/
def F.SCH_STATUS_IDLE : Fld := ⟨0, 1⟩
def F.SCH_STATUS_CFG_REFUSED : Fld := ⟨1, 1⟩
def F.SCH_STATUS_COMMIT_PEND : Fld := ⟨2, 1⟩
def F.SCH_STATUS_TRIM_WAIT : Fld := ⟨3, 1⟩
/-! SCH_ERRLOG (04_scheduling_shaping_policing.md) -/
def F.SCH_ERRLOG_QUEUE : Fld := ⟨0, 16⟩
def F.SCH_ERRLOG_PNODE : Fld := ⟨16, 9⟩
def F.SCH_ERRLOG_VALID : Fld := ⟨25, 1⟩
def F.SCH_ERRLOG_OVF : Fld := ⟨26, 1⟩
def F.SCH_ERRLOG_COUNT : Fld := ⟨32, 32⟩
/-! SCH_DECSTAT (04_scheduling_shaping_policing.md) -/
def F.SCH_DECSTAT_DECISIONS : Fld := ⟨0, 48⟩
def F.SCH_DECSTAT_DEQDROPS : Fld := ⟨48, 16⟩
/-! SCH_NODECFG (04_scheduling_shaping_policing.md) -/
def F.SCH_NODECFG_PARENT : Fld := ⟨0, 11⟩
def F.SCH_NODECFG_EN : Fld := ⟨11, 1⟩
def F.SCH_NODECFG_PRIO : Fld := ⟨12, 3⟩
def F.SCH_NODECFG_SHAPE_EN : Fld := ⟨15, 1⟩
def F.SCH_NODECFG_WEIGHT : Fld := ⟨16, 12⟩
def F.SCH_NODECFG_LEN_ADJ : Fld := ⟨28, 8⟩
def F.SCH_NODECFG_CREDIT_INIT : Fld := ⟨36, 16⟩
/-! SCH_SHAPE (04_scheduling_shaping_policing.md) -/
def F.SCH_SHAPE_RATE : Fld := ⟨0, 24⟩
def F.SCH_SHAPE_BURST : Fld := ⟨32, 32⟩
/-! SCH_BUCKET (04_scheduling_shaping_policing.md) -/
def F.SCH_BUCKET_B : Fld := ⟨0, 40⟩
/-! SCH_PORTCR (04_scheduling_shaping_policing.md) -/
def F.SCH_PORTCR_CR : Fld := ⟨0, 18⟩
/-! SCH_QATT (04_scheduling_shaping_policing.md) -/
def F.SCH_QATT_PRIO : Fld := ⟨0, 3⟩
def F.SCH_QATT_WEIGHT : Fld := ⟨4, 12⟩
/-! POL_CTL (04_scheduling_shaping_policing.md) -/
def F.POL_CTL_ENABLE : Fld := ⟨0, 1⟩
/-! POL_STATUS (04_scheduling_shaping_policing.md) -/
def F.POL_STATUS_IDLE : Fld := ⟨0, 1⟩
def F.POL_STATUS_CFG_REFUSED : Fld := ⟨1, 1⟩
def F.POL_STATUS_CMD_BUSY : Fld := ⟨2, 1⟩
def F.POL_STATUS_TRIM_WAIT : Fld := ⟨3, 1⟩
def F.POL_STATUS_BADREC : Fld := ⟨32, 32⟩
/-! POL_FLOWBASE (04_scheduling_shaping_policing.md) -/
def F.POL_FLOWBASE_BASE_PAGE : Fld := ⟨0, 16⟩
def F.POL_FLOWBASE_FLOWS_LOG2 : Fld := ⟨16, 3⟩
/-! POL_CACHESTAT (04_scheduling_shaping_policing.md) -/
def F.POL_CACHESTAT_HITS : Fld := ⟨0, 32⟩
def F.POL_CACHESTAT_MISSES : Fld := ⟨32, 32⟩
/-! POL_FLOWSEL (04_scheduling_shaping_policing.md) -/
def F.POL_FLOWSEL_RECORD : Fld := ⟨0, 20⟩
/-! POL_FLOWCMD (04_scheduling_shaping_policing.md) -/
def F.POL_FLOWCMD_OP : Fld := ⟨0, 2⟩
/-! POL_FLOWDATA (04_scheduling_shaping_policing.md) -/
def F.POL_FLOWDATA_DATA : Fld := ⟨0, 64⟩
/-! POL_PROFA (04_scheduling_shaping_policing.md) -/
def F.POL_PROFA_CIR : Fld := ⟨0, 24⟩
def F.POL_PROFA_PIR : Fld := ⟨24, 24⟩
def F.POL_PROFA_LEN_ADJ : Fld := ⟨48, 8⟩
def F.POL_PROFA_AWARE : Fld := ⟨56, 1⟩
/-! POL_PROFB (04_scheduling_shaping_policing.md) -/
def F.POL_PROFB_CBS : Fld := ⟨0, 32⟩
def F.POL_PROFB_PBS : Fld := ⟨32, 32⟩
/-! GST_CTL (05_gather_store_pool.md) -/
def F.GST_CTL_ENABLE : Fld := ⟨0, 1⟩
def F.GST_CTL_SCRUB_EN : Fld := ⟨1, 1⟩
def F.GST_CTL_SR_REQ : Fld := ⟨2, 1⟩
/-! GST_STATUS (05_gather_store_pool.md) -/
def F.GST_STATUS_IDLE : Fld := ⟨0, 1⟩
def F.GST_STATUS_CFG_REFUSED : Fld := ⟨1, 1⟩
def F.GST_STATUS_INIT_DONE : Fld := ⟨2, 1⟩
def F.GST_STATUS_SELFREF : Fld := ⟨3, 1⟩
def F.GST_STATUS_TRIM_WAIT : Fld := ⟨4, 1⟩
def F.GST_STATUS_KEEP_BUSY : Fld := ⟨5, 1⟩
def F.GST_STATUS_REMAP_BUSY : Fld := ⟨6, 1⟩
/-! GST_ARB (05_gather_store_pool.md) -/
def F.GST_ARB_WF : Fld := ⟨0, 4⟩
def F.GST_ARB_WQ : Fld := ⟨4, 4⟩
def F.GST_ARB_WP : Fld := ⟨8, 4⟩
def F.GST_ARB_WC : Fld := ⟨12, 4⟩
/-! GST_ECCSTAT (05_gather_store_pool.md) -/
def F.GST_ECCSTAT_CE1 : Fld := ⟨0, 32⟩
def F.GST_ECCSTAT_CE2 : Fld := ⟨32, 16⟩
def F.GST_ECCSTAT_UE : Fld := ⟨48, 16⟩
/-! GST_ECCLOG (05_gather_store_pool.md) -/
def F.GST_ECCLOG_ADDR : Fld := ⟨3, 34⟩
def F.GST_ECCLOG_WEIGHT : Fld := ⟨37, 2⟩
def F.GST_ECCLOG_POISON : Fld := ⟨39, 1⟩
def F.GST_ECCLOG_SCRUB : Fld := ⟨40, 1⟩
def F.GST_ECCLOG_VALID : Fld := ⟨41, 1⟩
def F.GST_ECCLOG_OVF : Fld := ⟨42, 1⟩
/-! GST_ECCORG (05_gather_store_pool.md) -/
def F.GST_ECCORG_ORIGIN : Fld := ⟨0, 32⟩
/-! GST_SCRUB (05_gather_store_pool.md) -/
def F.GST_SCRUB_STEP : Fld := ⟨0, 24⟩
/-! GST_SCRUBSTAT (05_gather_store_pool.md) -/
def F.GST_SCRUBSTAT_PASSES : Fld := ⟨0, 32⟩
def F.GST_SCRUBSTAT_FOUND : Fld := ⟨32, 32⟩
/-! GST_RETCFG (05_gather_store_pool.md) -/
def F.GST_RETCFG_CE_LIMIT : Fld := ⟨0, 8⟩
def F.GST_RETCFG_WINDOW : Fld := ⟨8, 24⟩
def F.GST_RETCFG_RET_CE2 : Fld := ⟨32, 1⟩
def F.GST_RETCFG_RET_UE : Fld := ⟨33, 1⟩
/-! GST_RETADD (05_gather_store_pool.md) -/
def F.GST_RETADD_BLOCK : Fld := ⟨0, 25⟩
def F.GST_RETADD_GO : Fld := ⟨63, 1⟩
/-! GST_RETSTAT (05_gather_store_pool.md) -/
def F.GST_RETSTAT_RETIRED : Fld := ⟨0, 14⟩
def F.GST_RETSTAT_SPAREOUT : Fld := ⟨32, 16⟩
/-! GST_KEEP (05_gather_store_pool.md) -/
def F.GST_KEEP_BASE_PAGE : Fld := ⟨0, 16⟩
def F.GST_KEEP_PAGES : Fld := ⟨16, 4⟩
/-! GST_KEEPSTAT (05_gather_store_pool.md) -/
def F.GST_KEEPSTAT_IMG_VALID : Fld := ⟨0, 1⟩
def F.GST_KEEPSTAT_IMG_PAGES : Fld := ⟨1, 4⟩
def F.GST_KEEPSTAT_IMG_SEQ : Fld := ⟨32, 32⟩
/-! GST_LOCKCMD (05_gather_store_pool.md) -/
def F.GST_LOCKCMD_OP : Fld := ⟨0, 3⟩
def F.GST_LOCKCMD_SIZE_LOG2 : Fld := ⟨3, 4⟩
def F.GST_LOCKCMD_BASE : Fld := ⟨7, 31⟩
def F.GST_LOCKCMD_DEADLINE : Fld := ⟨38, 16⟩
def F.GST_LOCKCMD_LOCK : Fld := ⟨54, 8⟩
/-! GST_LOCKSTAT (05_gather_store_pool.md) -/
def F.GST_LOCKSTAT_BADCMD : Fld := ⟨0, 32⟩
def F.GST_LOCKSTAT_DROPS : Fld := ⟨32, 32⟩
/-! GST_FORCE (05_gather_store_pool.md) -/
def F.GST_FORCE_ORIGIN : Fld := ⟨0, 32⟩
def F.GST_FORCE_MASK : Fld := ⟨32, 32⟩
/-! GST_SEQCFG (05_gather_store_pool.md) -/
def F.GST_SEQCFG_SEQ_TO : Fld := ⟨0, 16⟩
/-! GST_LOCKA (05_gather_store_pool.md) -/
def F.GST_LOCKA_SIZE_LOG2 : Fld := ⟨0, 4⟩
def F.GST_LOCKA_VALID : Fld := ⟨4, 1⟩
def F.GST_LOCKA_EXPIRED : Fld := ⟨5, 1⟩
def F.GST_LOCKA_BASE : Fld := ⟨6, 31⟩
def F.GST_LOCKA_DEADLINE : Fld := ⟨37, 16⟩
/-! GST_LOCKB (05_gather_store_pool.md) -/
def F.GST_LOCKB_HOLDER : Fld := ⟨0, 32⟩
/-! GST_REMAP (05_gather_store_pool.md) -/
def F.GST_REMAP_BLOCK : Fld := ⟨0, 25⟩
def F.GST_REMAP_VALID : Fld := ⟨25, 1⟩
/-! GST_FNPOOL (05_gather_store_pool.md) -/
def F.GST_FNPOOL_MAP_BASE : Fld := ⟨0, 16⟩
def F.GST_FNPOOL_PAGES : Fld := ⟨16, 16⟩
/-! GST_POOLMAP (05_gather_store_pool.md) -/
def F.GST_POOLMAP_PAGE : Fld := ⟨0, 16⟩
def F.GST_POOLMAP_VALID : Fld := ⟨16, 1⟩
/-! GAT_CTL (07_access_gates.md) -/
def F.GAT_CTL_VIOL_HOLD : Fld := ⟨0, 1⟩
/-! GAT_STATUS (07_access_gates.md) -/
def F.GAT_STATUS_CFG_REFUSED : Fld := ⟨0, 1⟩
def F.GAT_STATUS_CFG_PAIRERR : Fld := ⟨1, 1⟩
/-! GAT_XCFG (07_access_gates.md) -/
def F.GAT_XCFG_HOST : Fld := ⟨0, 5⟩
def F.GAT_XCFG_EN : Fld := ⟨5, 1⟩
/-! GAT_GSTAT (07_access_gates.md) -/
def F.GAT_GSTAT_BOOT : Fld := ⟨0, 1⟩
def F.GAT_GSTAT_COMMIT_PEND : Fld := ⟨1, 1⟩
def F.GAT_GSTAT_COMMIT_BAD : Fld := ⟨2, 1⟩
def F.GAT_GSTAT_BAD_WHY : Fld := ⟨3, 2⟩
def F.GAT_GSTAT_BAD_RGN_A : Fld := ⟨5, 6⟩
def F.GAT_GSTAT_BAD_GATE_A : Fld := ⟨11, 5⟩
def F.GAT_GSTAT_BAD_RGN_B : Fld := ⟨16, 6⟩
def F.GAT_GSTAT_BAD_GATE_B : Fld := ⟨22, 5⟩
def F.GAT_GSTAT_VIOLATIONS : Fld := ⟨32, 32⟩
/-! GAT_EPOCH (07_access_gates.md) -/
def F.GAT_EPOCH_EPOCH : Fld := ⟨0, 16⟩
def F.GAT_EPOCH_DRAINED : Fld := ⟨16, 1⟩
def F.GAT_EPOCH_OLD_INFLIGHT : Fld := ⟨32, 16⟩
/-! GAT_VLOGA (07_access_gates.md) -/
def F.GAT_VLOGA_ADDR : Fld := ⟨0, 48⟩
def F.GAT_VLOGA_KIND : Fld := ⟨48, 2⟩
def F.GAT_VLOGA_NORGN : Fld := ⟨50, 1⟩
def F.GAT_VLOGA_RGN : Fld := ⟨51, 6⟩
def F.GAT_VLOGA_RGN_GATE : Fld := ⟨57, 5⟩
def F.GAT_VLOGA_VALID : Fld := ⟨62, 1⟩
def F.GAT_VLOGA_OVF : Fld := ⟨63, 1⟩
/-! GAT_VLOGB (07_access_gates.md) -/
def F.GAT_VLOGB_ORIGIN : Fld := ⟨0, 32⟩
def F.GAT_VLOGB_LEN : Fld := ⟨32, 13⟩
def F.GAT_VLOGB_EPOCH : Fld := ⟨45, 16⟩
/-! GAT_MSET (07_access_gates.md) -/
def F.GAT_MSET_MATCH : Fld := ⟨0, 32⟩
def F.GAT_MSET_MASK : Fld := ⟨32, 32⟩
/-! GAT_RGNA (07_access_gates.md) -/
def F.GAT_RGNA_VALID : Fld := ⟨0, 1⟩
def F.GAT_RGNA_SIZE_LOG2 : Fld := ⟨1, 6⟩
def F.GAT_RGNA_BASE : Fld := ⟨8, 45⟩
/-! GAT_RGNB (07_access_gates.md) -/
def F.GAT_RGNB_PERM : Fld := ⟨0, 48⟩
/-! GAF_CTL (09_programming_and_epochs.md) -/
def F.GAF_CTL_AUTO_TK : Fld := ⟨0, 1⟩
def F.GAF_CTL_STALL_TO : Fld := ⟨16, 16⟩
def F.GAF_CTL_SWAP_TO : Fld := ⟨32, 16⟩
/-! GAF_STATUS (09_programming_and_epochs.md) -/
def F.GAF_STATUS_ACTIVE_BANK : Fld := ⟨0, 1⟩
def F.GAF_STATUS_SWAP_BUSY : Fld := ⟨1, 1⟩
def F.GAF_STATUS_CFG_REFUSED : Fld := ⟨2, 1⟩
def F.GAF_STATUS_ALL_REFUSED : Fld := ⟨3, 1⟩
def F.GAF_STATUS_SPARES : Fld := ⟨4, 2⟩
def F.GAF_STATUS_FAILED_MASK : Fld := ⟨8, 34⟩
/-! GAF_COMMIT (09_programming_and_epochs.md) -/
def F.GAF_COMMIT_FWD : Fld := ⟨0, 1⟩
def F.GAF_COMMIT_ACT : Fld := ⟨1, 1⟩
def F.GAF_COMMIT_SCH : Fld := ⟨2, 1⟩
def F.GAF_COMMIT_ALL : Fld := ⟨3, 1⟩
def F.GAF_COMMIT_GATES : Fld := ⟨32, 32⟩
/-! GAF_EPSTAT (09_programming_and_epochs.md) -/
def F.GAF_EPSTAT_EPOCH : Fld := ⟨0, 16⟩
def F.GAF_EPSTAT_DRAINED : Fld := ⟨16, 1⟩
def F.GAF_EPSTAT_COMMIT_PEND : Fld := ⟨17, 1⟩
def F.GAF_EPSTAT_COMMIT_BAD : Fld := ⟨18, 1⟩
def F.GAF_EPSTAT_CFG_PAIRERR : Fld := ⟨19, 1⟩
def F.GAF_EPSTAT_BAD_WHY : Fld := ⟨20, 4⟩
def F.GAF_EPSTAT_BAD_ITEM : Fld := ⟨24, 16⟩
def F.GAF_EPSTAT_OLD_INFLIGHT : Fld := ⟨40, 16⟩
/-! GAF_DEBUG (09_programming_and_epochs.md) -/
def F.GAF_DEBUG_DIRECT : Fld := ⟨0, 3⟩
def F.GAF_DEBUG_GDIR : Fld := ⟨3, 1⟩
def F.GAF_DEBUG_KEY : Fld := ⟨16, 16⟩
/-! GAF_CORECMD (09_programming_and_epochs.md) -/
def F.GAF_CORECMD_OP : Fld := ⟨0, 2⟩
def F.GAF_CORECMD_BANK : Fld := ⟨2, 1⟩
def F.GAF_CORECMD_CORE : Fld := ⟨8, 5⟩
/-! GAF_CORE (09_programming_and_epochs.md) -/
def F.GAF_CORE_PHYS : Fld := ⟨0, 6⟩
def F.GAF_CORE_RUN : Fld := ⟨6, 1⟩
def F.GAF_CORE_BANK : Fld := ⟨7, 1⟩
def F.GAF_CORE_SWAP_PEND : Fld := ⟨8, 1⟩
/-! GAF_EVROUTE (09_programming_and_epochs.md) -/
def F.GAF_EVROUTE_MASK : Fld := ⟨0, 32⟩
/-! JCK_STATUS (09_programming_and_epochs.md) -/
def F.JCK_STATUS_CFG_REFUSED : Fld := ⟨0, 1⟩
def F.JCK_STATUS_TRIM_WAIT : Fld := ⟨1, 1⟩
def F.JCK_STATUS_LANES_BUSY : Fld := ⟨2, 9⟩
/-! JCK_TBLSEL (09_programming_and_epochs.md) -/
def F.JCK_TBLSEL_TABLE : Fld := ⟨0, 8⟩
def F.JCK_TBLSEL_INDEX : Fld := ⟨8, 20⟩
def F.JCK_TBLSEL_RESULT : Fld := ⟨32, 2⟩
def F.JCK_TBLSEL_BUSY : Fld := ⟨34, 1⟩
/-! JCK_TBLCMD (09_programming_and_epochs.md) -/
def F.JCK_TBLCMD_OP : Fld := ⟨0, 2⟩
/-! JCK_TBLDATA (09_programming_and_epochs.md) -/
def F.JCK_TBLDATA_DATA : Fld := ⟨0, 64⟩
/-! JCK_SLOT (09_programming_and_epochs.md) -/
def F.JCK_SLOT_LEN : Fld := ⟨0, 6⟩
def F.JCK_SLOT_VALID : Fld := ⟨6, 1⟩
/-! JCK_TBLA (09_programming_and_epochs.md) -/
def F.JCK_TBLA_TYPE : Fld := ⟨0, 2⟩
def F.JCK_TBLA_KEYW : Fld := ⟨2, 7⟩
def F.JCK_TBLA_PLACE : Fld := ⟨9, 1⟩
def F.JCK_TBLA_CAP_LOG2 : Fld := ⟨10, 5⟩
def F.JCK_TBLA_BASE : Fld := ⟨16, 16⟩
/-! JCK_TBLB (09_programming_and_epochs.md) -/
def F.JCK_TBLB_DEFAULT : Fld := ⟨0, 64⟩
/-! PRT_CTL (10_ports_partitions.md) -/
def F.PRT_CTL_ENABLE : Fld := ⟨0, 1⟩
def F.PRT_CTL_HOST_LIFT : Fld := ⟨1, 1⟩
def F.PRT_CTL_RETRAIN : Fld := ⟨2, 1⟩
/-! PRT_STATUS (10_ports_partitions.md) -/
def F.PRT_STATUS_IDLE : Fld := ⟨0, 1⟩
def F.PRT_STATUS_CFG_REFUSED : Fld := ⟨1, 1⟩
def F.PRT_STATUS_LINK_UP : Fld := ⟨2, 1⟩
def F.PRT_STATUS_HELD : Fld := ⟨3, 1⟩
def F.PRT_STATUS_HOLD_SRC : Fld := ⟨4, 2⟩
def F.PRT_STATUS_TRIM_WAIT : Fld := ⟨6, 1⟩
/-! PRT_ROLE (10_ports_partitions.md) -/
def F.PRT_ROLE_ROLE : Fld := ⟨0, 2⟩
def F.PRT_ROLE_PT : Fld := ⟨2, 6⟩
/-! PRT_LINKCFG (10_ports_partitions.md) -/
def F.PRT_LINKCFG_MAX_RATE : Fld := ⟨0, 3⟩
def F.PRT_LINKCFG_FLIT_REQ : Fld := ⟨3, 1⟩
def F.PRT_LINKCFG_L0P_EN : Fld := ⟨4, 1⟩
def F.PRT_LINKCFG_L0S_EN : Fld := ⟨5, 1⟩
/-! PRT_LINKSTAT (10_ports_partitions.md) -/
def F.PRT_LINKSTAT_RATE : Fld := ⟨0, 3⟩
def F.PRT_LINKSTAT_WIDTH : Fld := ⟨3, 5⟩
def F.PRT_LINKSTAT_L0P_WIDTH : Fld := ⟨8, 5⟩
def F.PRT_LINKSTAT_FLIT : Fld := ⟨13, 1⟩
def F.PRT_LINKSTAT_STATE : Fld := ⟨14, 6⟩
def F.PRT_LINKSTAT_DOWNS : Fld := ⟨32, 32⟩
/-! PRT_ARB (10_ports_partitions.md) -/
def F.PRT_ARB_WEIGHT_C0 : Fld := ⟨0, 7⟩
def F.PRT_ARB_WEIGHT_C1 : Fld := ⟨7, 7⟩
def F.PRT_ARB_WEIGHT_C2 : Fld := ⟨14, 7⟩
def F.PRT_ARB_WEIGHT_C3 : Fld := ⟨21, 7⟩
def F.PRT_ARB_WEIGHT_C4 : Fld := ⟨28, 7⟩
def F.PRT_ARB_WEIGHT_C5 : Fld := ⟨35, 7⟩
def F.PRT_ARB_WEIGHT_C6 : Fld := ⟨42, 7⟩
def F.PRT_ARB_WEIGHT_C7 : Fld := ⟨49, 7⟩
def F.PRT_ARB_STRICT : Fld := ⟨56, 8⟩
/-! PRT_SLOT (10_ports_partitions.md) -/
def F.PRT_SLOT_SLOT_EN : Fld := ⟨0, 1⟩
def F.PRT_SLOT_CHAN : Fld := ⟨1, 5⟩
def F.PRT_SLOT_HOSTPWR : Fld := ⟨6, 1⟩
/-! PRT_OCTCFG (10_ports_partitions.md) -/
def F.PRT_OCTCFG_MODE : Fld := ⟨0, 1⟩
def F.PRT_OCTCFG_SPLIT : Fld := ⟨1, 3⟩
/-! PTN_MGMT (10_ports_partitions.md) -/
def F.PTN_MGMT_MGMT_PT : Fld := ⟨0, 6⟩
def F.PTN_MGMT_MGMT_PORT : Fld := ⟨8, 8⟩
/-! PTN_STATUS (10_ports_partitions.md) -/
def F.PTN_STATUS_CFG_REFUSED : Fld := ⟨0, 1⟩
def F.PTN_STATUS_BADCMD : Fld := ⟨1, 1⟩
def F.PTN_STATUS_TRIM_WAIT : Fld := ⟨2, 1⟩
/-! PTN_RSTCMD (10_ports_partitions.md) -/
def F.PTN_RSTCMD_PT : Fld := ⟨0, 6⟩
def F.PTN_RSTCMD_OP : Fld := ⟨8, 2⟩
/-! PTN_CFG (10_ports_partitions.md) -/
def F.PTN_CFG_EN : Fld := ⟨0, 1⟩
def F.PTN_CFG_P2P_OUT : Fld := ⟨1, 1⟩
def F.PTN_CFG_P2P_IN : Fld := ⟨2, 1⟩
def F.PTN_CFG_ACS_FORCE : Fld := ⟨3, 1⟩
def F.PTN_CFG_PERST_SEL : Fld := ⟨4, 5⟩
/-! PTN_STATE (10_ports_partitions.md) -/
def F.PTN_STATE_IN_RESET : Fld := ⟨0, 1⟩
def F.PTN_STATE_RST_SRC : Fld := ⟨1, 3⟩
def F.PTN_STATE_HELD : Fld := ⟨4, 1⟩
def F.PTN_STATE_UPLINK : Fld := ⟨5, 1⟩
def F.PTN_STATE_DSPORTS : Fld := ⟨6, 5⟩
def F.PTN_STATE_PEER_TAGS : Fld := ⟨32, 11⟩
/-! PTN_PEERA (10_ports_partitions.md) -/
def F.PTN_PEERA_VALID : Fld := ⟨0, 1⟩
def F.PTN_PEERA_SIZE_LOG2 : Fld := ⟨1, 6⟩
def F.PTN_PEERA_BASE : Fld := ⟨12, 52⟩
/-! PTN_PEERB (10_ports_partitions.md) -/
def F.PTN_PEERB_DEST_PT : Fld := ⟨0, 6⟩
def F.PTN_PEERB_DBASE : Fld := ⟨12, 52⟩
/-! QEP_CTL (11_queue_endpoint.md) -/
def F.QEP_CTL_PF2_LOG2 : Fld := ⟨0, 6⟩
/-! QEP_STATUS (11_queue_endpoint.md) -/
def F.QEP_STATUS_CFG_REFUSED : Fld := ⟨0, 1⟩
def F.QEP_STATUS_BADCMD : Fld := ⟨1, 1⟩
def F.QEP_STATUS_CMD_BUSY : Fld := ⟨2, 1⟩
def F.QEP_STATUS_ARI_ERR : Fld := ⟨3, 1⟩
def F.QEP_STATUS_TRIM_WAIT : Fld := ⟨4, 1⟩
/-! QEP_ID (11_queue_endpoint.md) -/
def F.QEP_ID_REV : Fld := ⟨0, 8⟩
def F.QEP_ID_SUBSYS : Fld := ⟨8, 16⟩
def F.QEP_ID_ROM_PRESENT : Fld := ⟨24, 1⟩
/-! QEP_DSN (11_queue_endpoint.md) -/
def F.QEP_DSN_DSN : Fld := ⟨0, 64⟩
/-! QEP_VFBAR (11_queue_endpoint.md) -/
def F.QEP_VFBAR_VF2_LOG2 : Fld := ⟨0, 6⟩
/-! QEP_VFCMD (11_queue_endpoint.md) -/
def F.QEP_VFCMD_OP : Fld := ⟨0, 2⟩
def F.QEP_VFCMD_VF : Fld := ⟨2, 13⟩
def F.QEP_VFCMD_PT : Fld := ⟨15, 6⟩
def F.QEP_VFCMD_BUSOFF : Fld := ⟨21, 4⟩
def F.QEP_VFCMD_FNUM : Fld := ⟨25, 8⟩
def F.QEP_VFCMD_BAR2_LOG2 : Fld := ⟨33, 6⟩
/-! QEP_VFMAP (11_queue_endpoint.md) -/
def F.QEP_VFMAP_ATTACHED : Fld := ⟨0, 1⟩
def F.QEP_VFMAP_EXISTS : Fld := ⟨1, 1⟩
def F.QEP_VFMAP_PT : Fld := ⟨2, 6⟩
def F.QEP_VFMAP_BUSOFF : Fld := ⟨8, 4⟩
def F.QEP_VFMAP_FNUM : Fld := ⟨12, 8⟩
def F.QEP_VFMAP_BAR2_LOG2 : Fld := ⟨20, 6⟩
/-! QEP_FNSTAT (11_queue_endpoint.md) -/
def F.QEP_FNSTAT_FLR_ACTIVE : Fld := ⟨0, 1⟩
def F.QEP_FNSTAT_MSE : Fld := ⟨1, 1⟩
def F.QEP_FNSTAT_BME : Fld := ⟨2, 1⟩
def F.QEP_FNSTAT_D3 : Fld := ⟨3, 1⟩
def F.QEP_FNSTAT_MSIX_EN : Fld := ⟨4, 1⟩
def F.QEP_FNSTAT_FMASK : Fld := ⟨5, 1⟩
def F.QEP_FNSTAT_HELD : Fld := ⟨6, 1⟩
def F.QEP_FNSTAT_OUTRD : Fld := ⟨8, 10⟩
def F.QEP_FNSTAT_BADWR : Fld := ⟨18, 14⟩
def F.QEP_FNSTAT_VEC_ERR : Fld := ⟨32, 16⟩
def F.QEP_FNSTAT_FLRS : Fld := ⟨48, 16⟩
/-! QEP_NODEOWN (11_queue_endpoint.md) -/
def F.QEP_NODEOWN_OWNER_FN : Fld := ⟨0, 13⟩
/-! LNE_OCTCTL (12_lanes.md) -/
def F.LNE_OCTCTL_SPARE_EN : Fld := ⟨0, 1⟩
def F.LNE_OCTCTL_SPARE_PORT : Fld := ⟨1, 2⟩
def F.LNE_OCTCTL_SPARE_WARM : Fld := ⟨3, 1⟩
def F.LNE_OCTCTL_AUTO_SUB : Fld := ⟨4, 1⟩
/-! LNE_OCTSTAT (12_lanes.md) -/
def F.LNE_OCTSTAT_CFG_REFUSED : Fld := ⟨0, 1⟩
def F.LNE_OCTSTAT_BADCMD : Fld := ⟨1, 1⟩
def F.LNE_OCTSTAT_TRIM_WAIT : Fld := ⟨2, 1⟩
def F.LNE_OCTSTAT_SPARE_MAPERR : Fld := ⟨3, 1⟩
def F.LNE_OCTSTAT_RX_SUB : Fld := ⟨4, 4⟩
def F.LNE_OCTSTAT_TX_SUB : Fld := ⟨8, 4⟩
/-! LNE_FAILCFG (12_lanes.md) -/
def F.LNE_FAILCFG_FAIL_THRESH : Fld := ⟨0, 24⟩
def F.LNE_FAILCFG_FAIL_WIN : Fld := ⟨24, 16⟩
def F.LNE_FAILCFG_GUARD : Fld := ⟨40, 7⟩
/-! LNE_RETRIM (12_lanes.md) -/
def F.LNE_RETRIM_OP : Fld := ⟨0, 2⟩
def F.LNE_RETRIM_LANE : Fld := ⟨2, 3⟩
/-! LNE_RETRIMSTAT (12_lanes.md) -/
def F.LNE_RETRIMSTAT_STATE : Fld := ⟨0, 4⟩
def F.LNE_RETRIMSTAT_LANE : Fld := ⟨4, 3⟩
/-! LNE_MARGINCFG (12_lanes.md) -/
def F.LNE_MARGINCFG_MIN_EW : Fld := ⟨0, 6⟩
def F.LNE_MARGINCFG_MIN_EH : Fld := ⟨6, 7⟩
/-! LNE_FAILED (12_lanes.md) -/
def F.LNE_FAILED_FAILED : Fld := ⟨0, 8⟩
/-! LNE_CTL (12_lanes.md) -/
def F.LNE_CTL_POL_OVR : Fld := ⟨0, 1⟩
def F.LNE_CTL_POL_SET : Fld := ⟨1, 1⟩
def F.LNE_CTL_CTLE_OVR : Fld := ⟨2, 1⟩
def F.LNE_CTL_CTLE_STEP : Fld := ⟨3, 4⟩
def F.LNE_CTL_DFE_FREEZE : Fld := ⟨7, 1⟩
def F.LNE_CTL_TXEQ_OVR : Fld := ⟨8, 1⟩
/-! LNE_STAT (12_lanes.md) -/
def F.LNE_STAT_TX_PWR : Fld := ⟨0, 2⟩
def F.LNE_STAT_RX_PWR : Fld := ⟨2, 2⟩
def F.LNE_STAT_LOCK : Fld := ⟨4, 1⟩
def F.LNE_STAT_POL_INV : Fld := ⟨5, 1⟩
def F.LNE_STAT_CTLE_USED : Fld := ⟨6, 4⟩
def F.LNE_STAT_LOGICAL : Fld := ⟨10, 4⟩
/-! LNE_DFE (12_lanes.md) -/
def F.LNE_DFE_TAP_0 : Fld := ⟨0, 8⟩
def F.LNE_DFE_TAP_1 : Fld := ⟨8, 8⟩
def F.LNE_DFE_TAP_2 : Fld := ⟨16, 8⟩
def F.LNE_DFE_TAP_3 : Fld := ⟨24, 8⟩
def F.LNE_DFE_TAP_4 : Fld := ⟨32, 8⟩
def F.LNE_DFE_TAP_5 : Fld := ⟨40, 8⟩
def F.LNE_DFE_TAP_6 : Fld := ⟨48, 8⟩
def F.LNE_DFE_TAP_7 : Fld := ⟨56, 8⟩
/-! LNE_TXEQ (12_lanes.md) -/
def F.LNE_TXEQ_PRE : Fld := ⟨0, 6⟩
def F.LNE_TXEQ_MAIN : Fld := ⟨6, 6⟩
def F.LNE_TXEQ_POST : Fld := ⟨12, 6⟩
def F.LNE_TXEQ_PRE_CUR : Fld := ⟨32, 6⟩
def F.LNE_TXEQ_MAIN_CUR : Fld := ⟨38, 6⟩
def F.LNE_TXEQ_POST_CUR : Fld := ⟨44, 6⟩
/-! LNE_ERRCNT (12_lanes.md) -/
def F.LNE_ERRCNT_LOWMARGIN : Fld := ⟨0, 32⟩
def F.LNE_ERRCNT_LOCKLOSS : Fld := ⟨32, 16⟩
def F.LNE_ERRCNT_FAILS : Fld := ⟨48, 16⟩
/-! LNE_MARGCMD (12_lanes.md) -/
def F.LNE_MARGCMD_OP : Fld := ⟨0, 2⟩
def F.LNE_MARGCMD_EYE : Fld := ⟨2, 2⟩
def F.LNE_MARGCMD_TOFF : Fld := ⟨4, 7⟩
def F.LNE_MARGCMD_VOFF : Fld := ⟨11, 8⟩
def F.LNE_MARGCMD_DWELL_LOG2 : Fld := ⟨19, 4⟩
/-! LNE_MARGRES (12_lanes.md) -/
def F.LNE_MARGRES_ERRORS : Fld := ⟨0, 40⟩
def F.LNE_MARGRES_DONE : Fld := ⟨40, 1⟩
def F.LNE_MARGRES_ABORTED : Fld := ⟨41, 1⟩
def F.LNE_MARGRES_BUSY : Fld := ⟨42, 1⟩
def F.LNE_MARGRES_ACTIVE : Fld := ⟨43, 1⟩
/-! CAN_CTL (13_cane_links.md) -/
def F.CAN_CTL_LP_EN : Fld := ⟨0, 1⟩
def F.CAN_CTL_AUTO_NARROW : Fld := ⟨1, 1⟩
def F.CAN_CTL_LP_IDLE : Fld := ⟨8, 8⟩
def F.CAN_CTL_WAKE_LEN : Fld := ⟨16, 12⟩
/-! CAN_STATUS (13_cane_links.md) -/
def F.CAN_STATUS_CFG_REFUSED : Fld := ⟨0, 1⟩
def F.CAN_STATUS_BADCMD : Fld := ⟨1, 1⟩
def F.CAN_STATUS_CMD_BUSY : Fld := ⟨2, 1⟩
def F.CAN_STATUS_TRIM_WAIT : Fld := ⟨3, 1⟩
def F.CAN_STATUS_RX_HOLD : Fld := ⟨4, 1⟩
def F.CAN_STATUS_REPLAY_WAIT : Fld := ⟨5, 1⟩
def F.CAN_STATUS_PEER_HOLD : Fld := ⟨6, 1⟩
def F.CAN_STATUS_TX_STBY : Fld := ⟨7, 1⟩
def F.CAN_STATUS_PEER_FID : Fld := ⟨8, 4⟩
def F.CAN_STATUS_PEER_PORT : Fld := ⟨12, 8⟩
def F.CAN_STATUS_DOWN_CAUSE : Fld := ⟨20, 4⟩
def F.CAN_STATUS_CMD_RESULT : Fld := ⟨24, 2⟩
/-! CAN_LINKCFG (13_cane_links.md) -/
def F.CAN_LINKCFG_WIN_LOG2 : Fld := ⟨0, 5⟩
def F.CAN_LINKCFG_CHK_LIMIT : Fld := ⟨5, 16⟩
def F.CAN_LINKCFG_REPLAY_TO : Fld := ⟨21, 12⟩
def F.CAN_LINKCFG_REPLAY_MAX : Fld := ⟨33, 3⟩
def F.CAN_LINKCFG_SUB_TO : Fld := ⟨36, 12⟩
/-! CAN_TRAINCFG (13_cane_links.md) -/
def F.CAN_TRAINCFG_MIN_WIDTH : Fld := ⟨0, 3⟩
def F.CAN_TRAINCFG_EQ_PRESETS : Fld := ⟨3, 3⟩
def F.CAN_TRAINCFG_RETRAIN_TO : Fld := ⟨6, 12⟩
/-! CAN_CMD (13_cane_links.md) -/
def F.CAN_CMD_OP : Fld := ⟨0, 2⟩
def F.CAN_CMD_WIDTH : Fld := ⟨2, 5⟩
def F.CAN_CMD_RATE : Fld := ⟨7, 2⟩
def F.CAN_CMD_EQ : Fld := ⟨9, 1⟩
/-! CAN_TXSEQ (13_cane_links.md) -/
def F.CAN_TXSEQ_TX_NEXT : Fld := ⟨0, 32⟩
def F.CAN_TXSEQ_TX_ACKED : Fld := ⟨32, 32⟩
/-! CAN_RXSEQ (13_cane_links.md) -/
def F.CAN_RXSEQ_RX_EXPECT : Fld := ⟨0, 32⟩
def F.CAN_RXSEQ_CULLET_USED : Fld := ⟨32, 12⟩
/-! CAN_ERRCNT (13_cane_links.md) -/
def F.CAN_ERRCNT_WIN_FAILS : Fld := ⟨0, 16⟩
def F.CAN_ERRCNT_WIN_PEAK : Fld := ⟨16, 16⟩
def F.CAN_ERRCNT_TRAINERR : Fld := ⟨32, 16⟩
def F.CAN_ERRCNT_CHKFAIL : Fld := ⟨48, 16⟩
/-! CAN_REPCNT (13_cane_links.md) -/
def F.CAN_REPCNT_REPLAYS : Fld := ⟨0, 32⟩
def F.CAN_REPCNT_DUPS : Fld := ⟨32, 32⟩
/-! CAN_EVCNT (13_cane_links.md) -/
def F.CAN_EVCNT_RETRAINS : Fld := ⟨0, 16⟩
def F.CAN_EVCNT_WITHDRAWN : Fld := ⟨16, 16⟩
def F.CAN_EVCNT_TRAIN_FAILS : Fld := ⟨32, 16⟩
def F.CAN_EVCNT_SUBS : Fld := ⟨48, 16⟩
/-! CAN_CRDCFG (13_cane_links.md) -/
def F.CAN_CRDCFG_INIT : Fld := ⟨0, 13⟩
/-! CAN_CRDSTAT (13_cane_links.md) -/
def F.CAN_CRDSTAT_TX_LIM : Fld := ⟨0, 20⟩
def F.CAN_CRDSTAT_TX_SENT : Fld := ⟨20, 20⟩
def F.CAN_CRDSTAT_RX_RET : Fld := ⟨40, 20⟩
/-! FTX_CTL (14_fabric_mode.md) -/
def F.FTX_CTL_ENABLE : Fld := ⟨0, 1⟩
def F.FTX_CTL_FID : Fld := ⟨1, 4⟩
def F.FTX_CTL_PAIR_EN : Fld := ⟨5, 1⟩
def F.FTX_CTL_PARTNER : Fld := ⟨6, 4⟩
def F.FTX_CTL_AUTO_OVER : Fld := ⟨10, 1⟩
def F.FTX_CTL_REPL_PRI : Fld := ⟨11, 3⟩
/-! FTX_STATUS (14_fabric_mode.md) -/
def F.FTX_STATUS_IDLE : Fld := ⟨0, 1⟩
def F.FTX_STATUS_CFG_REFUSED : Fld := ⟨1, 1⟩
def F.FTX_STATUS_BADCMD : Fld := ⟨2, 1⟩
def F.FTX_STATUS_CMD_BUSY : Fld := ⟨3, 1⟩
def F.FTX_STATUS_TRIM_WAIT : Fld := ⟨4, 1⟩
def F.FTX_STATUS_PEND_FREE : Fld := ⟨16, 18⟩
/-! FTX_TIMERS (14_fabric_mode.md) -/
def F.FTX_TIMERS_PROBE_INT : Fld := ⟨0, 16⟩
def F.FTX_TIMERS_DEAD_TO : Fld := ⟨16, 16⟩
def F.FTX_TIMERS_PEND_TO : Fld := ⟨32, 16⟩
def F.FTX_TIMERS_REPORT_TO : Fld := ⟨48, 12⟩
/-! FTX_CMD (14_fabric_mode.md) -/
def F.FTX_CMD_OP : Fld := ⟨0, 3⟩
def F.FTX_CMD_FID : Fld := ⟨4, 4⟩
/-! FTX_ERRCNT (14_fabric_mode.md) -/
def F.FTX_ERRCNT_E2E_CRC : Fld := ⟨0, 16⟩
def F.FTX_ERRCNT_GAPS : Fld := ⟨16, 16⟩
def F.FTX_ERRCNT_LATE : Fld := ⟨32, 16⟩
def F.FTX_ERRCNT_HOPDROP : Fld := ⟨48, 16⟩
/-! FTX_RPTCNT (14_fabric_mode.md) -/
def F.FTX_RPTCNT_STALE_RPT : Fld := ⟨0, 32⟩
def F.FTX_RPTCNT_REPL_DROP : Fld := ⟨32, 32⟩
/-! FTX_GEN (14_fabric_mode.md) -/
def F.FTX_GEN_GEN : Fld := ⟨0, 8⟩
/-! FTX_FIDMAP (14_fabric_mode.md) -/
def F.FTX_FIDMAP_MEMBER : Fld := ⟨0, 1⟩
def F.FTX_FIDMAP_ALT_EN : Fld := ⟨1, 1⟩
def F.FTX_FIDMAP_ALT_FID : Fld := ⟨2, 4⟩
def F.FTX_FIDMAP_FQ_LOG2 : Fld := ⟨6, 4⟩
def F.FTX_FIDMAP_FQBASE : Fld := ⟨16, 16⟩
/-! FTX_ROUTE (14_fabric_mode.md) -/
def F.FTX_ROUTE_PORT_0 : Fld := ⟨0, 8⟩
def F.FTX_ROUTE_PORT_1 : Fld := ⟨8, 8⟩
def F.FTX_ROUTE_PORT_2 : Fld := ⟨16, 8⟩
def F.FTX_ROUTE_PORT_3 : Fld := ⟨24, 8⟩
def F.FTX_ROUTE_VALID : Fld := ⟨32, 4⟩
/-! FTX_FIDSTAT (14_fabric_mode.md) -/
def F.FTX_FIDSTAT_STATE : Fld := ⟨0, 2⟩
def F.FTX_FIDSTAT_OVER : Fld := ⟨2, 1⟩
def F.FTX_FIDSTAT_ACTIVE : Fld := ⟨3, 2⟩
def F.FTX_FIDSTAT_ROUTABLE : Fld := ⟨5, 1⟩
def F.FTX_FIDSTAT_GEN_RX : Fld := ⟨8, 8⟩
def F.FTX_FIDSTAT_PEND : Fld := ⟨16, 18⟩
/-! FTX_FIDSEQ (14_fabric_mode.md) -/
def F.FTX_FIDSEQ_TX_NEXT : Fld := ⟨0, 32⟩
def F.FTX_FIDSEQ_RX_EXPECT : Fld := ⟨32, 32⟩
/-! FTX_REPL (14_fabric_mode.md) -/
def F.FTX_REPL_EN : Fld := ⟨0, 1⟩
def F.FTX_REPL_BASE_PAGE : Fld := ⟨16, 16⟩
def F.FTX_REPL_PAGES : Fld := ⟨32, 16⟩
/-! FTX_LEP (14_fabric_mode.md) -/
def F.FTX_LEP_DEST_FID : Fld := ⟨0, 4⟩
/-! LTH_CTL (15_side_bridge.md) -/
def F.LTH_CTL_ENABLE : Fld := ⟨0, 1⟩
/-! LTH_STATUS (15_side_bridge.md) -/
def F.LTH_STATUS_IDLE : Fld := ⟨0, 1⟩
def F.LTH_STATUS_CFG_REFUSED : Fld := ⟨1, 1⟩
def F.LTH_STATUS_TRIM_WAIT : Fld := ⟨2, 1⟩
def F.LTH_STATUS_LE_OVF : Fld := ⟨3, 1⟩
def F.LTH_STATUS_TAGS_FREE : Fld := ⟨4, 6⟩
def F.LTH_STATUS_NEXT_WSN : Fld := ⟨16, 16⟩
/-! LTH_WIN (15_side_bridge.md) -/
def F.LTH_WIN_BASE : Fld := ⟨0, 11⟩
/-! LTH_PREFDISC (15_side_bridge.md) -/
def F.LTH_PREFDISC_DISCARDS : Fld := ⟨0, 32⟩
def F.LTH_PREFDISC_HITS : Fld := ⟨32, 32⟩
/-! LTH_POLLSTAT (15_side_bridge.md) -/
def F.LTH_POLLSTAT_PEND : Fld := ⟨0, 16⟩
def F.LTH_POLLSTAT_ERR : Fld := ⟨16, 16⟩
/-! LTH_GPIOIN (15_side_bridge.md) -/
def F.LTH_GPIOIN_IN : Fld := ⟨0, 64⟩
/-! LTH_GPIOOE (15_side_bridge.md) -/
def F.LTH_GPIOOE_OE : Fld := ⟨0, 64⟩
/-! LTH_GPIOOUT (15_side_bridge.md) -/
def F.LTH_GPIOOUT_OUT : Fld := ⟨0, 64⟩
/-! LTH_RGN (15_side_bridge.md) -/
def F.LTH_RGN_EN : Fld := ⟨0, 1⟩
def F.LTH_RGN_CS : Fld := ⟨1, 2⟩
def F.LTH_RGN_SIZE_LOG2 : Fld := ⟨3, 5⟩
def F.LTH_RGN_BASE : Fld := ⟨8, 24⟩
def F.LTH_RGN_WAIT : Fld := ⟨32, 8⟩
def F.LTH_RGN_POSTED : Fld := ⟨40, 1⟩
def F.LTH_RGN_PREF : Fld := ⟨41, 1⟩
def F.LTH_RGN_LE_VEC : Fld := ⟨42, 11⟩
/-! LTH_SBCFG (15_side_bridge.md) -/
def F.LTH_SBCFG_EN : Fld := ⟨0, 1⟩
def F.LTH_SBCFG_MODE : Fld := ⟨1, 2⟩
def F.LTH_SBCFG_PEC_EN : Fld := ⟨3, 1⟩
def F.LTH_SBCFG_POSTED : Fld := ⟨4, 1⟩
def F.LTH_SBCFG_LE_VEC : Fld := ⟨5, 11⟩
def F.LTH_SBCFG_TIMEOUT : Fld := ⟨16, 8⟩
/-! LTH_LELOGA (15_side_bridge.md) -/
def F.LTH_LELOGA_ADDR : Fld := ⟨0, 32⟩
def F.LTH_LELOGA_STATUS : Fld := ⟨32, 4⟩
def F.LTH_LELOGA_VALID : Fld := ⟨62, 1⟩
/-! LTH_LELOGB (15_side_bridge.md) -/
def F.LTH_LELOGB_PT : Fld := ⟨0, 6⟩
def F.LTH_LELOGB_FN : Fld := ⟨6, 13⟩
def F.LTH_LELOGB_TAG : Fld := ⟨19, 16⟩
def F.LTH_LELOGB_ENG : Fld := ⟨35, 4⟩
/-! LTH_POLL (15_side_bridge.md) -/
def F.LTH_POLL_ADDR : Fld := ⟨0, 32⟩
def F.LTH_POLL_SIZE : Fld := ⟨32, 2⟩
def F.LTH_POLL_SRC : Fld := ⟨34, 1⟩
def F.LTH_POLL_MODE : Fld := ⟨35, 1⟩
def F.LTH_POLL_EN : Fld := ⟨36, 1⟩
def F.LTH_POLL_PERIOD : Fld := ⟨37, 8⟩
def F.LTH_POLL_VEC : Fld := ⟨45, 11⟩
/-! LTH_POLLMASK (15_side_bridge.md) -/
def F.LTH_POLLMASK_MASK : Fld := ⟨0, 64⟩
/-! LTH_POLLVAL (15_side_bridge.md) -/
def F.LTH_POLLVAL_VALUE : Fld := ⟨0, 64⟩
/-! MBX_CTL (16_mailboxes.md) -/
def F.MBX_CTL_ENABLE : Fld := ⟨0, 1⟩
/-! MBX_STATUS (16_mailboxes.md) -/
def F.MBX_STATUS_CFG_REFUSED : Fld := ⟨0, 1⟩
def F.MBX_STATUS_TRIM_WAIT : Fld := ⟨1, 1⟩
def F.MBX_STATUS_COLLISIONS : Fld := ⟨32, 16⟩
def F.MBX_STATUS_ABORTS : Fld := ⟨48, 16⟩
/-! MBX_FORCE (16_mailboxes.md) -/
def F.MBX_FORCE_ORIGIN : Fld := ⟨0, 32⟩
def F.MBX_FORCE_MASK : Fld := ⟨32, 32⟩
/-! MBX_CFG (16_mailboxes.md) -/
def F.MBX_CFG_EN : Fld := ⟨0, 1⟩
def F.MBX_CFG_PT : Fld := ⟨1, 6⟩
def F.MBX_CFG_FN : Fld := ⟨7, 13⟩
def F.MBX_CFG_SLOT : Fld := ⟨20, 4⟩
def F.MBX_CFG_VEC : Fld := ⟨24, 11⟩
/-! MBX_TXMSG (16_mailboxes.md) -/
def F.MBX_TXMSG_DATA : Fld := ⟨0, 64⟩
/-! MBX_RXMSG (16_mailboxes.md) -/
def F.MBX_RXMSG_DATA : Fld := ⟨0, 64⟩
/-! MBX_CMD (16_mailboxes.md) -/
def F.MBX_CMD_OP : Fld := ⟨0, 3⟩
def F.MBX_CMD_ARG : Fld := ⟨16, 16⟩
def F.MBX_CMD_SEQ : Fld := ⟨32, 16⟩
def F.MBX_CMD_DEADLINE : Fld := ⟨48, 16⟩
/-! MBX_ESTAT (16_mailboxes.md) -/
def F.MBX_ESTAT_CLAIMED : Fld := ⟨0, 1⟩
def F.MBX_ESTAT_EXPIRED : Fld := ⟨1, 1⟩
def F.MBX_ESTAT_RX_FULL : Fld := ⟨2, 1⟩
def F.MBX_ESTAT_TX_FULL : Fld := ⟨3, 1⟩
def F.MBX_ESTAT_ACKED : Fld := ⟨4, 1⟩
def F.MBX_ESTAT_COLLISION : Fld := ⟨5, 1⟩
def F.MBX_ESTAT_BADCMD : Fld := ⟨6, 1⟩
def F.MBX_ESTAT_RCODE : Fld := ⟨16, 16⟩
def F.MBX_ESTAT_ACK_SEQ : Fld := ⟨32, 16⟩
def F.MBX_ESTAT_TX_SEQ : Fld := ⟨48, 16⟩
/-! CMD_CTL (17_commands.md) -/
def F.CMD_CTL_ENABLE : Fld := ⟨0, 1⟩
/-! CMD_STATUS (17_commands.md) -/
def F.CMD_STATUS_IDLE : Fld := ⟨0, 1⟩
def F.CMD_STATUS_CFG_REFUSED : Fld := ⟨1, 1⟩
def F.CMD_STATUS_BADCMD : Fld := ⟨2, 1⟩
def F.CMD_STATUS_TRIM_WAIT : Fld := ⟨3, 1⟩
def F.CMD_STATUS_FREE_SLOTS : Fld := ⟨4, 5⟩
/-! CMD_ALLOC (17_commands.md) -/
def F.CMD_ALLOC_HANDLE : Fld := ⟨0, 17⟩
/-! CMD_CFG (17_commands.md) -/
def F.CMD_CFG_RSV_TO : Fld := ⟨0, 16⟩
/-! CMD_FORCE (17_commands.md) -/
def F.CMD_FORCE_ORIGIN : Fld := ⟨0, 32⟩
def F.CMD_FORCE_MASK : Fld := ⟨32, 32⟩
/-! CMD_SLOT (17_commands.md) -/
def F.CMD_SLOT_STATE : Fld := ⟨0, 4⟩
def F.CMD_SLOT_GEN : Fld := ⟨4, 12⟩
def F.CMD_SLOT_OPC : Fld := ⟨16, 8⟩
def F.CMD_SLOT_NOHOLDER : Fld := ⟨24, 1⟩
def F.CMD_SLOT_EXPIRED : Fld := ⟨25, 1⟩
def F.CMD_SLOT_HOLDER : Fld := ⟨32, 32⟩
/-! CMD_ARG (17_commands.md) -/
def F.CMD_ARG_ARG : Fld := ⟨0, 64⟩
/-! CMD_OP (17_commands.md) -/
def F.CMD_OP_HANDLE : Fld := ⟨0, 17⟩
def F.CMD_OP_OP : Fld := ⟨17, 3⟩
def F.CMD_OP_OPC : Fld := ⟨20, 8⟩
def F.CMD_OP_NOTIFY : Fld := ⟨28, 1⟩
def F.CMD_OP_VEC : Fld := ⟨29, 11⟩
/-! CMD_RESA (17_commands.md) -/
def F.CMD_RESA_STATUS : Fld := ⟨0, 8⟩
def F.CMD_RESA_DETAIL : Fld := ⟨8, 8⟩
def F.CMD_RESA_PROGRESS : Fld := ⟨32, 32⟩
/-! CMD_RESB (17_commands.md) -/
def F.CMD_RESB_TOTAL : Fld := ⟨0, 32⟩
def F.CMD_RESB_ERRORS : Fld := ⟨32, 32⟩
/-! CMD_RESC (17_commands.md) -/
def F.CMD_RESC_ADDR : Fld := ⟨0, 48⟩
/-! FLT_CTL (18_faults.md) -/
def F.FLT_CTL_PIN_CE : Fld := ⟨0, 1⟩
def F.FLT_CTL_PIN_CT : Fld := ⟨1, 1⟩
def F.FLT_CTL_PIN_DF : Fld := ⟨2, 1⟩
def F.FLT_CTL_FATAL_WAIT : Fld := ⟨3, 1⟩
def F.FLT_CTL_FATAL_DELAY : Fld := ⟨8, 16⟩
def F.FLT_CTL_RESV : Fld := ⟨24, 6⟩
/-! FLT_STATUS (18_faults.md) -/
def F.FLT_STATUS_CFG_REFUSED : Fld := ⟨0, 1⟩
def F.FLT_STATUS_BADCMD : Fld := ⟨1, 1⟩
def F.FLT_STATUS_FATAL : Fld := ⟨2, 1⟩
def F.FLT_STATUS_PIN : Fld := ⟨3, 1⟩
def F.FLT_STATUS_FREE : Fld := ⟨4, 6⟩
def F.FLT_STATUS_OPEN_CE : Fld := ⟨16, 6⟩
def F.FLT_STATUS_OPEN_CT : Fld := ⟨22, 6⟩
def F.FLT_STATUS_NOREC_HELD : Fld := ⟨28, 16⟩
/-! FLT_CNT (18_faults.md) -/
def F.FLT_CNT_CE_LOST : Fld := ⟨0, 32⟩
def F.FLT_CNT_CT_NOREC : Fld := ⟨32, 16⟩
def F.FLT_CNT_RELATCH : Fld := ⟨48, 16⟩
/-! FLT_CMD (18_faults.md) -/
def F.FLT_CMD_OP : Fld := ⟨0, 3⟩
def F.FLT_CMD_REC : Fld := ⟨8, 6⟩
def F.FLT_CMD_KIND : Fld := ⟨16, 4⟩
def F.FLT_CMD_INDEX : Fld := ⟨20, 16⟩
/-! FLT_OPENMAP (18_faults.md) -/
def F.FLT_OPENMAP_OPEN : Fld := ⟨0, 64⟩
/-! FLT_CODECFG (18_faults.md) -/
def F.FLT_CODECFG_CLASS_OVR : Fld := ⟨0, 2⟩
def F.FLT_CODECFG_MUTE : Fld := ⟨2, 1⟩
def F.FLT_CODECFG_NOEVT : Fld := ⟨3, 1⟩
def F.FLT_CODECFG_REVOKE : Fld := ⟨4, 1⟩
/-! FLT_RECA (18_faults.md) -/
def F.FLT_RECA_CODE : Fld := ⟨0, 6⟩
def F.FLT_RECA_CLASS : Fld := ⟨6, 2⟩
def F.FLT_RECA_OPEN : Fld := ⟨8, 1⟩
def F.FLT_RECA_ACTIVE : Fld := ⟨9, 1⟩
def F.FLT_RECA_HELD : Fld := ⟨10, 1⟩
def F.FLT_RECA_KIND : Fld := ⟨12, 4⟩
def F.FLT_RECA_INDEX : Fld := ⟨16, 16⟩
def F.FLT_RECA_COUNT : Fld := ⟨32, 16⟩
def F.FLT_RECA_RELATCH : Fld := ⟨48, 8⟩
/-! FLT_RECB (18_faults.md) -/
def F.FLT_RECB_MERGED : Fld := ⟨0, 64⟩
/-! FLT_RECC (18_faults.md) -/
def F.FLT_RECC_FIRST : Fld := ⟨0, 32⟩
def F.FLT_RECC_LAST : Fld := ⟨32, 32⟩
/-! FLT_RECD (18_faults.md) -/
def F.FLT_RECD_ORIGIN : Fld := ⟨0, 32⟩
def F.FLT_RECD_DETAIL : Fld := ⟨32, 16⟩
/-! FLT_RECE (18_faults.md) -/
def F.FLT_RECE_ADDR : Fld := ⟨0, 48⟩
/-! MON_STATUS (19_monitors_tally.md) -/
def F.MON_STATUS_THERM_TRIP : Fld := ⟨0, 1⟩
def F.MON_STATUS_TRIP_MON : Fld := ⟨1, 7⟩
/-! MON_VAL (19_monitors_tally.md) -/
def F.MON_VAL_VALUE : Fld := ⟨0, 16⟩
def F.MON_VAL_PEAK : Fld := ⟨16, 16⟩
def F.MON_VAL_LOW : Fld := ⟨32, 16⟩
def F.MON_VAL_ALARM_A : Fld := ⟨48, 1⟩
def F.MON_VAL_ALARM_B : Fld := ⟨49, 1⟩
/-! MON_THR (19_monitors_tally.md) -/
def F.MON_THR_LIM_A : Fld := ⟨0, 16⟩
def F.MON_THR_LIM_B : Fld := ⟨16, 16⟩
def F.MON_THR_HYST : Fld := ⟨32, 8⟩
def F.MON_THR_EN_A : Fld := ⟨40, 1⟩
def F.MON_THR_EN_B : Fld := ⟨41, 1⟩
/-! TAL_CTL (19_monitors_tally.md) -/
def F.TAL_CTL_FREEZE : Fld := ⟨0, 1⟩
def F.TAL_CTL_PORT_EN : Fld := ⟨1, 1⟩
/-! TAL_STATUS (19_monitors_tally.md) -/
def F.TAL_STATUS_CFG_REFUSED : Fld := ⟨0, 1⟩
def F.TAL_STATUS_SMP_BAD : Fld := ⟨1, 1⟩
def F.TAL_STATUS_TRIM_WAIT : Fld := ⟨2, 1⟩
/-! TAL_UACC (19_monitors_tally.md) -/
def F.TAL_UACC_UACC : Fld := ⟨0, 64⟩
/-! TAL_SMPCFG (19_monitors_tally.md) -/
def F.TAL_SMPCFG_EN : Fld := ⟨0, 1⟩
def F.TAL_SMPCFG_MODE : Fld := ⟨1, 1⟩
def F.TAL_SMPCFG_CNT : Fld := ⟨2, 9⟩
def F.TAL_SMPCFG_PERIOD_LOG2 : Fld := ⟨11, 5⟩
def F.TAL_SMPCFG_THRESH : Fld := ⟨16, 13⟩
/-! TAL_SMPPTR (19_monitors_tally.md) -/
def F.TAL_SMPPTR_WR : Fld := ⟨0, 13⟩
def F.TAL_SMPPTR_RD : Fld := ⟨16, 13⟩
def F.TAL_SMPPTR_COUNT : Fld := ⟨32, 13⟩
/-! TAL_SMPSTAT (19_monitors_tally.md) -/
def F.TAL_SMPSTAT_DROPS : Fld := ⟨0, 32⟩
def F.TAL_SMPSTAT_LOST : Fld := ⟨32, 32⟩
/-! TAL_WRAP (19_monitors_tally.md) -/
def F.TAL_WRAP_WRAP : Fld := ⟨0, 64⟩
/-! TAL_SEL (19_monitors_tally.md) -/
def F.TAL_SEL_EN : Fld := ⟨0, 1⟩
def F.TAL_SEL_CLASS : Fld := ⟨1, 8⟩
def F.TAL_SEL_PRIVM : Fld := ⟨9, 3⟩
def F.TAL_SEL_AEN : Fld := ⟨12, 1⟩
def F.TAL_SEL_SPACE : Fld := ⟨16, 16⟩
/-! TAL_MATCH (19_monitors_tally.md) -/
def F.TAL_MATCH_MATCH : Fld := ⟨0, 32⟩
def F.TAL_MATCH_MASK : Fld := ⟨32, 32⟩
/-! TAL_ALO (19_monitors_tally.md) -/
def F.TAL_ALO_ADDR : Fld := ⟨0, 48⟩
/-! TAL_AHI (19_monitors_tally.md) -/
def F.TAL_AHI_ADDR : Fld := ⟨0, 48⟩
/-! TAL_CNT (19_monitors_tally.md) -/
def F.TAL_CNT_COUNT : Fld := ⟨0, 64⟩
/-! TAL_PORT (19_monitors_tally.md) -/
def F.TAL_PORT_COUNT : Fld := ⟨0, 64⟩
/-! EMB_STATUS (20_clocks_ember.md) -/
def F.EMB_STATUS_XTAL_OK : Fld := ⟨0, 1⟩
def F.EMB_STATUS_PLL_LOCK : Fld := ⟨1, 1⟩
def F.EMB_STATUS_REFCLK_OK : Fld := ⟨2, 1⟩
def F.EMB_STATUS_CFG_REFUSED : Fld := ⟨3, 1⟩
/-! EMB_BEAT (20_clocks_ember.md) -/
def F.EMB_BEAT_BEAT : Fld := ⟨0, 64⟩
/-! EMB_CLKPOL (20_clocks_ember.md) -/
def F.EMB_CLKPOL_TILE_AUTO : Fld := ⟨0, 1⟩
def F.EMB_CLKPOL_JACK_AUTO : Fld := ⟨1, 1⟩
def F.EMB_CLKPOL_JACK_MIN : Fld := ⟨2, 4⟩
def F.EMB_CLKPOL_TILE_IDLE : Fld := ⟨16, 16⟩
def F.EMB_CLKPOL_JACK_IDLE : Fld := ⟨32, 16⟩
/-! EMB_CLKFORCE (20_clocks_ember.md) -/
def F.EMB_CLKFORCE_TILE_ON : Fld := ⟨0, 16⟩
def F.EMB_CLKFORCE_JACK_ON : Fld := ⟨16, 8⟩
/-! EMB_CLKSTAT (20_clocks_ember.md) -/
def F.EMB_CLKSTAT_TILE_RUN : Fld := ⟨0, 16⟩
def F.EMB_CLKSTAT_JACK_RUN : Fld := ⟨16, 8⟩
def F.EMB_CLKSTAT_TILE_WAKES : Fld := ⟨32, 16⟩
def F.EMB_CLKSTAT_JACK_WAKES : Fld := ⟨48, 16⟩
/-! EMB_WAKEMASK (20_clocks_ember.md) -/
def F.EMB_WAKEMASK_EV32 : Fld := ⟨32, 1⟩
def F.EMB_WAKEMASK_EVWAKE : Fld := ⟨33, 10⟩
/-! EMB_WDCFG (20_clocks_ember.md) -/
def F.EMB_WDCFG_EN : Fld := ⟨0, 1⟩
def F.EMB_WDCFG_LOCK : Fld := ⟨1, 1⟩
def F.EMB_WDCFG_PERIOD : Fld := ⟨8, 24⟩
/-! EMB_WDKICK (20_clocks_ember.md) -/
def F.EMB_WDKICK_KEY : Fld := ⟨0, 16⟩
/-! EMB_WDSTAT (20_clocks_ember.md) -/
def F.EMB_WDSTAT_REMAIN : Fld := ⟨0, 24⟩
def F.EMB_WDSTAT_EXPIRIES : Fld := ⟨32, 16⟩
def F.EMB_WDSTAT_BADKICK : Fld := ⟨48, 16⟩
/-! RST_STATUS (21_reset.md) -/
def F.RST_STATUS_TRIM_VALID : Fld := ⟨0, 1⟩
def F.RST_STATUS_TRIM_FAIL : Fld := ⟨1, 1⟩
def F.RST_STATUS_LOAD_PHASE : Fld := ⟨2, 3⟩
def F.RST_STATUS_IMG_SRC : Fld := ⟨5, 2⟩
def F.RST_STATUS_IMG_ALT : Fld := ⟨7, 1⟩
def F.RST_STATUS_NO_IMAGE : Fld := ⟨8, 1⟩
def F.RST_STATUS_RECOVERY : Fld := ⟨9, 1⟩
def F.RST_STATUS_TEST : Fld := ⟨10, 1⟩
def F.RST_STATUS_LEHR_STEP : Fld := ⟨11, 4⟩
def F.RST_STATUS_DRAIN_LATE : Fld := ⟨15, 1⟩
def F.RST_STATUS_CFG_REFUSED : Fld := ⟨16, 1⟩
def F.RST_STATUS_BADCMD : Fld := ⟨17, 1⟩
def F.RST_STATUS_WARM_ENTRY : Fld := ⟨18, 1⟩
/-! RST_CTL (21_reset.md) -/
def F.RST_CTL_SYSTEM_READY : Fld := ⟨0, 1⟩
def F.RST_CTL_DRAIN_TO : Fld := ⟨16, 16⟩
/-! RST_CAUSE (21_reset.md) -/
def F.RST_CAUSE_POWER_ON : Fld := ⟨0, 1⟩
def F.RST_CAUSE_COLD_PIN : Fld := ⟨1, 1⟩
def F.RST_CAUSE_WARM_PIN : Fld := ⟨2, 1⟩
def F.RST_CAUSE_WATCHDOG : Fld := ⟨3, 1⟩
def F.RST_CAUSE_FATAL : Fld := ⟨4, 1⟩
def F.RST_CAUSE_CMD_WARM : Fld := ⟨5, 1⟩
def F.RST_CAUSE_PERST : Fld := ⟨6, 1⟩
def F.RST_CAUSE_PTN_FUND : Fld := ⟨7, 1⟩
def F.RST_CAUSE_PTN_HOT : Fld := ⟨8, 1⟩
def F.RST_CAUSE_FLR : Fld := ⟨9, 1⟩
def F.RST_CAUSE_AS_COLD : Fld := ⟨10, 1⟩
def F.RST_CAUSE_LAST_REACH : Fld := ⟨11, 2⟩
/-! RST_STRAP (21_reset.md) -/
def F.RST_STRAP_CODE : Fld := ⟨0, 4⟩
def F.RST_STRAP_ADC : Fld := ⟨4, 12⟩
def F.RST_STRAP_STRAP_BAD : Fld := ⟨16, 1⟩
def F.RST_STRAP_IMAGE : Fld := ⟨17, 1⟩
def F.RST_STRAP_MGMT_PT : Fld := ⟨18, 6⟩
def F.RST_STRAP_MGMT_PORT : Fld := ⟨24, 8⟩
def F.RST_STRAP_OCT_CANE : Fld := ⟨32, 1⟩
def F.RST_STRAP_MODE : Fld := ⟨33, 2⟩
/-! RST_LEHR (21_reset.md) -/
def F.RST_LEHR_GAP_1 : Fld := ⟨0, 7⟩
def F.RST_LEHR_GAP_2 : Fld := ⟨7, 7⟩
def F.RST_LEHR_GAP_3 : Fld := ⟨14, 7⟩
def F.RST_LEHR_GAP_4 : Fld := ⟨21, 7⟩
def F.RST_LEHR_GAP_5 : Fld := ⟨28, 7⟩
def F.RST_LEHR_GAP_6 : Fld := ⟨35, 7⟩
def F.RST_LEHR_GAP_7 : Fld := ⟨42, 7⟩
def F.RST_LEHR_GAP_8 : Fld := ⟨49, 7⟩
def F.RST_LEHR_GAP_9 : Fld := ⟨56, 7⟩
/-! RST_CMD (21_reset.md) -/
def F.RST_CMD_OP : Fld := ⟨0, 2⟩
def F.RST_CMD_KEY : Fld := ⟨16, 16⟩
/-! RST_TRIMSTAT (21_reset.md) -/
def F.RST_TRIMSTAT_COPY : Fld := ⟨0, 1⟩
def F.RST_TRIMSTAT_PASSES : Fld := ⟨1, 2⟩
def F.RST_TRIMSTAT_SPEED : Fld := ⟨3, 1⟩
def F.RST_TRIMSTAT_HALF : Fld := ⟨4, 1⟩
def F.RST_TRIMSTAT_OPT_DONE : Fld := ⟨5, 1⟩
def F.RST_TRIMSTAT_KEEP_DONE : Fld := ⟨6, 1⟩
/-! RST_DOMAIN (21_reset.md) -/
def F.RST_DOMAIN_IN_RESET : Fld := ⟨0, 10⟩
/-! PWR_CTL (22_power_entry.md) -/
def F.PWR_CTL_PRIO : Fld := ⟨0, 2⟩
def F.PWR_CTL_REVERT : Fld := ⟨2, 1⟩
def F.PWR_CTL_BBM_GAP : Fld := ⟨3, 7⟩
def F.PWR_CTL_SHED_AUTO : Fld := ⟨10, 1⟩
def F.PWR_CTL_CAP_LO : Fld := ⟨11, 9⟩
def F.PWR_CTL_REVERT_DLY : Fld := ⟨20, 16⟩
/-! PWR_STATUS (22_power_entry.md) -/
def F.PWR_STATUS_SEL : Fld := ⟨0, 2⟩
def F.PWR_STATUS_LOWV : Fld := ⟨2, 1⟩
def F.PWR_STATUS_BREAK : Fld := ⟨3, 1⟩
def F.PWR_STATUS_CFG_REFUSED : Fld := ⟨4, 1⟩
def F.PWR_STATUS_VBUS : Fld := ⟨16, 12⟩
def F.PWR_STATUS_P_MOD : Fld := ⟨28, 12⟩
def F.PWR_STATUS_BREAKS : Fld := ⟨40, 16⟩
/-! PWR_FEEDCFG (22_power_entry.md) -/
def F.PWR_FEEDCFG_EN : Fld := ⟨0, 1⟩
def F.PWR_FEEDCFG_UV : Fld := ⟨1, 12⟩
def F.PWR_FEEDCFG_OV : Fld := ⟨13, 12⟩
def F.PWR_FEEDCFG_HYST : Fld := ⟨25, 6⟩
def F.PWR_FEEDCFG_INS_DELAY : Fld := ⟨31, 10⟩
def F.PWR_FEEDCFG_PRECHG_TO : Fld := ⟨41, 6⟩
def F.PWR_FEEDCFG_ILIM : Fld := ⟨47, 7⟩
def F.PWR_FEEDCFG_FTIMER : Fld := ⟨54, 8⟩
/-! PWR_FEEDAUX (22_power_entry.md) -/
def F.PWR_FEEDAUX_RSHUNT : Fld := ⟨0, 11⟩
def F.PWR_FEEDAUX_RETRY : Fld := ⟨11, 16⟩
/-! PWR_FEEDSTAT (22_power_entry.md) -/
def F.PWR_FEEDSTAT_STATE : Fld := ⟨0, 3⟩
def F.PWR_FEEDSTAT_VIN : Fld := ⟨3, 12⟩
def F.PWR_FEEDSTAT_IIN : Fld := ⟨15, 10⟩
def F.PWR_FEEDSTAT_TRIPS : Fld := ⟨32, 16⟩
/-! PWR_SHED (22_power_entry.md) -/
def F.PWR_SHED_ELIG : Fld := ⟨0, 64⟩
/-! PWR_SHEDSTAT (22_power_entry.md) -/
def F.PWR_SHEDSTAT_SHED : Fld := ⟨0, 64⟩
/-! SLT_CFG (22_power_entry.md) -/
def F.SLT_CFG_UV : Fld := ⟨0, 12⟩
def F.SLT_CFG_OV : Fld := ⟨12, 12⟩
def F.SLT_CFG_INS_DELAY : Fld := ⟨24, 10⟩
def F.SLT_CFG_PRECHG_TO : Fld := ⟨34, 6⟩
def F.SLT_CFG_ILIM : Fld := ⟨40, 7⟩
def F.SLT_CFG_FTIMER : Fld := ⟨47, 8⟩
def F.SLT_CFG_PRSNT_DEB : Fld := ⟨55, 8⟩
/-! SLT_AUX (22_power_entry.md) -/
def F.SLT_AUX_RSHUNT : Fld := ⟨0, 14⟩
def F.SLT_AUX_RPRE : Fld := ⟨14, 12⟩
def F.SLT_AUX_RETRY : Fld := ⟨26, 10⟩
def F.SLT_AUX_RETRY_MAX : Fld := ⟨36, 4⟩
/-! SLT_CTL (22_power_entry.md) -/
def F.SLT_CTL_ON : Fld := ⟨0, 1⟩
def F.SLT_CTL_UNLATCH : Fld := ⟨1, 1⟩
/-! SLT_STAT (22_power_entry.md) -/
def F.SLT_STAT_STATE : Fld := ⟨0, 3⟩
def F.SLT_STAT_PRSNT : Fld := ⟨3, 1⟩
def F.SLT_STAT_REQ : Fld := ⟨4, 1⟩
def F.SLT_STAT_CFG_REFUSED : Fld := ⟨5, 1⟩
def F.SLT_STAT_IOUT : Fld := ⟨8, 10⟩
def F.SLT_STAT_FAILS : Fld := ⟨20, 4⟩
def F.SLT_STAT_BOUNCES : Fld := ⟨24, 16⟩
def F.SLT_STAT_TRIPS : Fld := ⟨40, 16⟩
def F.SLT_STAT_LAST : Fld := ⟨56, 3⟩
/-! HLD_CFG (22_power_entry.md) -/
def F.HLD_CFG_CHG_EN : Fld := ⟨0, 1⟩
def F.HLD_CFG_ICHG : Fld := ⟨1, 4⟩
def F.HLD_CFG_CMIN : Fld := ⟨5, 16⟩
def F.HLD_CFG_HOLD_PCT : Fld := ⟨21, 7⟩
def F.HLD_CFG_CHG_TO : Fld := ⟨28, 16⟩
/-! HLD_STATUS (22_power_entry.md) -/
def F.HLD_STATUS_VRES : Fld := ⟨0, 12⟩
def F.HLD_STATUS_HLD_OK : Fld := ⟨12, 1⟩
def F.HLD_STATUS_CHARGING : Fld := ⟨13, 1⟩
def F.HLD_STATUS_CAP_VALID : Fld := ⟨14, 1⟩
def F.HLD_STATUS_HOLDING : Fld := ⟨15, 1⟩
def F.HLD_STATUS_CAP : Fld := ⟨16, 16⟩
def F.HLD_STATUS_HOLDS : Fld := ⟨32, 16⟩

/-! Registers, as `R.<register>` with the indices of the card. -/
/-- CRU_CTL, offset 0x100_0000. -/
def R.CRU_CTL : RegRef := ⟨0x1000000, 0x2⟩
/-- CRU_STATUS, offset 0x100_0008. -/
def R.CRU_STATUS : RegRef := ⟨0x1000008, 0x11⟩
/-- CRU_POOLSTAT, offset 0x100_0010. -/
def R.CRU_POOLSTAT : RegRef := ⟨0x1000010, 0xAFE0010200AFE00⟩
/-- CRU_ALLOCSTAT, offset 0x100_0018. -/
def R.CRU_ALLOCSTAT : RegRef := ⟨0x1000018, 0x40000⟩
/-- CRU_MINSHARED, offset 0x100_0020. -/
def R.CRU_MINSHARED : RegRef := ⟨0x1000020, 0x10000⟩
/-- CRU_HOLDTO, offset 0x100_0028. -/
def R.CRU_HOLDTO : RegRef := ⟨0x1000028, 0x4000⟩
/-- CRU_COMMIT, offset 0x100_0030. -/
def R.CRU_COMMIT : RegRef := ⟨0x1000030, 0x0⟩
/-- CRU_DTHRESH, offset 0x100_0040. -/
def R.CRU_DTHRESH : RegRef := ⟨0x1000040, 0x488888888⟩
/-- CRU_ECCSTAT, offset 0x100_0048. -/
def R.CRU_ECCSTAT : RegRef := ⟨0x1000048, 0x0⟩
/-- CRU_ECCLOG, offset 0x100_0050. -/
def R.CRU_ECCLOG : RegRef := ⟨0x1000050, 0x0⟩
/-- CRU_RETCFG, offset 0x100_0058. -/
def R.CRU_RETCFG : RegRef := ⟨0x1000058, 0x3⟩
/-- CRU_RETADD, offset 0x100_0060. -/
def R.CRU_RETADD : RegRef := ⟨0x1000060, 0x0⟩
/-- CRU_CTEN, offset 0x100_0080 + 8 × i, i = 0–3. -/
def R.CRU_CTEN (i : Nat) : RegRef := ⟨0x1000080 + 8 * i, 0xFFFFFFFFFFFFFFFF⟩
/-- CRU_MIRSESS, offset 0x100_0100 + 0x20 × s, s = 0–3. -/
def R.CRU_MIRSESS (i : Nat) : RegRef := ⟨0x1000100 + 32 * i, 0x0⟩
/-- CRU_MIRBASE, offset 0x100_0108 + 0x20 × s, s = 0–3. -/
def R.CRU_MIRBASE (i : Nat) : RegRef := ⟨0x1000108 + 32 * i, 0x0⟩
/-- CRU_MIRSTAT, offset 0x100_0110 + 0x20 × s, s = 0–3. -/
def R.CRU_MIRSTAT (i : Nat) : RegRef := ⟨0x1000110 + 32 * i, 0x0⟩
/-- CRU_MIRPORT, offset 0x100_1000 + 8 × p, p = 0–255. -/
def R.CRU_MIRPORT (i : Nat) : RegRef := ⟨0x1001000 + 8 * i, 0x0⟩
/-- CRU_COQCFG, offset 0x101_0000 + 8 × q, q = 0–2063. -/
def R.CRU_COQCFG (i : Nat) : RegRef := ⟨0x1010000 + 8 * i, 0x800020⟩
/-- CRU_COQSTAT, offset 0x102_0000 + 8 × q, q = 0–2063. -/
def R.CRU_COQSTAT (i : Nat) : RegRef := ⟨0x1020000 + 8 * i, 0x0⟩
/-- CRU_COQDROP, offset 0x103_0000 + 8 × q, q = 0–2063. -/
def R.CRU_COQDROP (i : Nat) : RegRef := ⟨0x1030000 + 8 * i, 0x0⟩
/-- CRU_RETLIST, offset 0x104_0000 + 8 × i, i = 0–1023. -/
def R.CRU_RETLIST (i : Nat) : RegRef := ⟨0x1040000 + 8 * i, 0x0⟩
/-- QUE_CTL, offset 0x140_0000. -/
def R.QUE_CTL : RegRef := ⟨0x1400000, 0x0⟩
/-- QUE_STATUS, offset 0x140_0008. -/
def R.QUE_STATUS : RegRef := ⟨0x1400008, 0x11⟩
/-- QUE_PBUF, offset 0x140_0010. -/
def R.QUE_PBUF : RegRef := ⟨0x1400010, 0x0⟩
/-- QUE_PBUFSTAT, offset 0x140_0018. -/
def R.QUE_PBUFSTAT : RegRef := ⟨0x1400018, 0x0⟩
/-- QUE_SQSTAT, offset 0x140_0020. -/
def R.QUE_SQSTAT : RegRef := ⟨0x1400020, 0x10000⟩
/-- QUE_FETCH, offset 0x140_0028. -/
def R.QUE_FETCH : RegRef := ⟨0x1400028, 0x8⟩
/-- QUE_REQSTAT, offset 0x140_0030. -/
def R.QUE_REQSTAT : RegRef := ⟨0x1400030, 0x0⟩
/-- QUE_ERRLOG, offset 0x140_0038. -/
def R.QUE_ERRLOG : RegRef := ⟨0x1400038, 0x0⟩
/-- QUE_CTXSEL, offset 0x140_0040. -/
def R.QUE_CTXSEL : RegRef := ⟨0x1400040, 0x0⟩
/-- QUE_CTXCMD, offset 0x140_0048. -/
def R.QUE_CTXCMD : RegRef := ⟨0x1400048, 0x0⟩
/-- QUE_STATECMD, offset 0x140_0050. -/
def R.QUE_STATECMD : RegRef := ⟨0x1400050, 0x0⟩
/-- QUE_LOCKCMD, offset 0x140_0058. -/
def R.QUE_LOCKCMD : RegRef := ⟨0x1400058, 0x0⟩
/-- QUE_LOCKSTAT, offset 0x140_0060. -/
def R.QUE_LOCKSTAT : RegRef := ⟨0x1400060, 0x0⟩
/-- QUE_LOCKFORCE, offset 0x140_0068. -/
def R.QUE_LOCKFORCE : RegRef := ⟨0x1400068, 0x0⟩
/-- QUE_CTXDATA, offset 0x140_0080 + 8 × i, i = 0–7. -/
def R.QUE_CTXDATA (i : Nat) : RegRef := ⟨0x1400080 + 8 * i, 0x0⟩
/-- QUE_CQCFG, offset +0x00. -/
def R.QUE_CQCFG (i : Nat) : RegRef := ⟨0x100000000 + 128 * i, 0x0⟩
/-- QUE_CQHEAD, offset +0x08. -/
def R.QUE_CQHEAD (i : Nat) : RegRef := ⟨0x100000008 + 128 * i, 0x0⟩
/-- QUE_RXCFG, offset +0x10. -/
def R.QUE_RXCFG (i : Nat) : RegRef := ⟨0x100000010 + 128 * i, 0x0⟩
/-- QUE_RXHEAD, offset +0x18. -/
def R.QUE_RXHEAD (i : Nat) : RegRef := ⟨0x100000018 + 128 * i, 0x0⟩
/-- QUE_IRQCFG, offset +0x20. -/
def R.QUE_IRQCFG (i : Nat) : RegRef := ⟨0x100000020 + 128 * i, 0x0⟩
/-- QUE_QINFO, offset +0x28. -/
def R.QUE_QINFO (i : Nat) : RegRef := ⟨0x100000028 + 128 * i, 0x0⟩
/-- QUE_CQTAIL, offset +0x30. -/
def R.QUE_CQTAIL (i : Nat) : RegRef := ⟨0x100000030 + 128 * i, 0x0⟩
/-- QUE_QLOCK, offset +0x38. -/
def R.QUE_QLOCK (i : Nat) : RegRef := ⟨0x100000038 + 128 * i, 0x0⟩
/-- SCH_CTL, offset 0x180_0000. -/
def R.SCH_CTL : RegRef := ⟨0x1800000, 0x0⟩
/-- SCH_STATUS, offset 0x180_0008. -/
def R.SCH_STATUS : RegRef := ⟨0x1800008, 0x9⟩
/-- SCH_ERRLOG, offset 0x180_0010. -/
def R.SCH_ERRLOG : RegRef := ⟨0x1800010, 0x0⟩
/-- SCH_DECSTAT, offset 0x180_0018. -/
def R.SCH_DECSTAT : RegRef := ⟨0x1800018, 0x0⟩
/-- SCH_NODECFG, offset 0x181_0000 + 8 × n, n = 0–18,943. -/
def R.SCH_NODECFG (i : Nat) : RegRef := ⟨0x1810000 + 8 * i, 0x0⟩
/-- SCH_SHAPE, offset 0x184_0000 + 8 × n, n = 0–18,943. -/
def R.SCH_SHAPE (i : Nat) : RegRef := ⟨0x1840000 + 8 * i, 0x0⟩
/-- SCH_BUCKET, offset 0x187_0000 + 8 × n, n = 0–18,943. -/
def R.SCH_BUCKET (i : Nat) : RegRef := ⟨0x1870000 + 8 * i, 0x0⟩
/-- SCH_PORTCR, offset 0x18A_0000 + 8 × p, p = 0–511. -/
def R.SCH_PORTCR (i : Nat) : RegRef := ⟨0x18A0000 + 8 * i, 0x0⟩
/-- SCH_QATT, offset 0x190_0000 + 8 × q, q = 0–65535. -/
def R.SCH_QATT (i : Nat) : RegRef := ⟨0x1900000 + 8 * i, 0x0⟩
/-- POL_CTL, offset 0x1C0_0000. -/
def R.POL_CTL : RegRef := ⟨0x1C00000, 0x0⟩
/-- POL_STATUS, offset 0x1C0_0008. -/
def R.POL_STATUS : RegRef := ⟨0x1C00008, 0x9⟩
/-- POL_FLOWBASE, offset 0x1C0_0010. -/
def R.POL_FLOWBASE : RegRef := ⟨0x1C00010, 0x0⟩
/-- POL_CACHESTAT, offset 0x1C0_0018. -/
def R.POL_CACHESTAT : RegRef := ⟨0x1C00018, 0x0⟩
/-- POL_FLOWSEL, offset 0x1C0_0020. -/
def R.POL_FLOWSEL : RegRef := ⟨0x1C00020, 0x0⟩
/-- POL_FLOWCMD, offset 0x1C0_0028. -/
def R.POL_FLOWCMD : RegRef := ⟨0x1C00028, 0x0⟩
/-- POL_FLOWDATA, offset 0x1C0_0040 + 8 × i, i = 0–7. -/
def R.POL_FLOWDATA (i : Nat) : RegRef := ⟨0x1C00040 + 8 * i, 0x0⟩
/-- POL_PROFA, offset 0x1C1_0000 + 16 × i, i = 0–4095. -/
def R.POL_PROFA (i : Nat) : RegRef := ⟨0x1C10000 + 16 * i, 0x0⟩
/-- POL_PROFB, offset 0x1C1_0008 + 16 × i, i = 0–4095. -/
def R.POL_PROFB (i : Nat) : RegRef := ⟨0x1C10008 + 16 * i, 0x0⟩
/-- GST_CTL, offset 0x200_0000. -/
def R.GST_CTL : RegRef := ⟨0x2000000, 0x2⟩
/-- GST_STATUS, offset 0x200_0008. -/
def R.GST_STATUS : RegRef := ⟨0x2000008, 0x11⟩
/-- GST_ARB, offset 0x200_0010. -/
def R.GST_ARB : RegRef := ⟨0x2000010, 0x1482⟩
/-- GST_ECCSTAT, offset 0x200_0018. -/
def R.GST_ECCSTAT : RegRef := ⟨0x2000018, 0x0⟩
/-- GST_ECCLOG, offset 0x200_0020. -/
def R.GST_ECCLOG : RegRef := ⟨0x2000020, 0x0⟩
/-- GST_ECCORG, offset 0x200_0028. -/
def R.GST_ECCORG : RegRef := ⟨0x2000028, 0x0⟩
/-- GST_SCRUB, offset 0x200_0030. -/
def R.GST_SCRUB : RegRef := ⟨0x2000030, 0x4000⟩
/-- GST_SCRUBSTAT, offset 0x200_0038. -/
def R.GST_SCRUBSTAT : RegRef := ⟨0x2000038, 0x0⟩
/-- GST_RETCFG, offset 0x200_0040. -/
def R.GST_RETCFG : RegRef := ⟨0x2000040, 0x310000008⟩
/-- GST_RETADD, offset 0x200_0048. -/
def R.GST_RETADD : RegRef := ⟨0x2000048, 0x0⟩
/-- GST_RETSTAT, offset 0x200_0050. -/
def R.GST_RETSTAT : RegRef := ⟨0x2000050, 0x0⟩
/-- GST_KEEP, offset 0x200_0058. -/
def R.GST_KEEP : RegRef := ⟨0x2000058, 0x0⟩
/-- GST_KEEPSTAT, offset 0x200_0060. -/
def R.GST_KEEPSTAT : RegRef := ⟨0x2000060, 0x0⟩
/-- GST_LOCKCMD, offset 0x200_0080. -/
def R.GST_LOCKCMD : RegRef := ⟨0x2000080, 0x0⟩
/-- GST_LOCKSTAT, offset 0x200_0088. -/
def R.GST_LOCKSTAT : RegRef := ⟨0x2000088, 0x0⟩
/-- GST_FORCE, offset 0x200_0090. -/
def R.GST_FORCE : RegRef := ⟨0x2000090, 0x0⟩
/-- GST_SEQCFG, offset 0x200_0098. -/
def R.GST_SEQCFG : RegRef := ⟨0x2000098, 0x40⟩
/-- GST_LOCKA, offset 0x200_1000 + 16 × i, i = 0–255. -/
def R.GST_LOCKA (i : Nat) : RegRef := ⟨0x2001000 + 16 * i, 0x0⟩
/-- GST_LOCKB, offset 0x200_1008 + 16 × i, i = 0–255. -/
def R.GST_LOCKB (i : Nat) : RegRef := ⟨0x2001008 + 16 * i, 0x0⟩
/-- GST_REMAP, offset 0x201_0000 + 8 × e, e = 0–12,287. -/
def R.GST_REMAP (i : Nat) : RegRef := ⟨0x2010000 + 8 * i, 0x0⟩
/-- GST_FNPOOL, offset 0x204_0000 + 8 × f, f = 0–4096. -/
def R.GST_FNPOOL (i : Nat) : RegRef := ⟨0x2040000 + 8 * i, 0x0⟩
/-- GST_POOLMAP, offset 0x208_0000 + 8 × i, i = 0–65535. -/
def R.GST_POOLMAP (i : Nat) : RegRef := ⟨0x2080000 + 8 * i, 0x0⟩
/-- GAT_CTL, offset 0x240_0000. -/
def R.GAT_CTL : RegRef := ⟨0x2400000, 0x0⟩
/-- GAT_STATUS, offset 0x240_0008. -/
def R.GAT_STATUS : RegRef := ⟨0x2400008, 0x0⟩
/-- GAT_XCFG, offset 0x240_0100 + 8 × j, j = 0–7. -/
def R.GAT_XCFG (i : Nat) : RegRef := ⟨0x2400100 + 8 * i, 0x0⟩
/-- GAT_GSTAT, offset 0x240_0200 + 8 × g, g = 0–31. -/
def R.GAT_GSTAT (i : Nat) : RegRef := ⟨0x2400200 + 8 * i, 0x1⟩
/-- GAT_EPOCH, offset 0x240_0300 + 8 × g, g = 0–31. -/
def R.GAT_EPOCH (i : Nat) : RegRef := ⟨0x2400300 + 8 * i, 0x10000⟩
/-- GAT_VLOGA, offset 0x240_0400 + 16 × g, g = 0–31. -/
def R.GAT_VLOGA (i : Nat) : RegRef := ⟨0x2400400 + 16 * i, 0x0⟩
/-- GAT_VLOGB, offset 0x240_0408 + 16 × g, g = 0–31. -/
def R.GAT_VLOGB (i : Nat) : RegRef := ⟨0x2400408 + 16 * i, 0x0⟩
/-- GAT_MSET, offset 0x241_0000 + 0x80 × g + 8 × k, g = 0–31, k = 0–15. -/
def R.GAT_MSET (i j : Nat) : RegRef := ⟨0x2410000 + 128 * i + 8 * j, 0x0⟩
/-- GAT_RGNA, offset 0x242_0000 + 0x400 × g + 16 × r, g = 0–31, r = 0–63. -/
def R.GAT_RGNA (i j : Nat) : RegRef := ⟨0x2420000 + 1024 * i + 16 * j, 0x0⟩
/-- GAT_RGNB, offset 0x242_0008 + 0x400 × g + 16 × r, g = 0–31, r = 0–63. -/
def R.GAT_RGNB (i j : Nat) : RegRef := ⟨0x2420008 + 1024 * i + 16 * j, 0x0⟩
/-- GAF_CTL, offset 0x300_0000. -/
def R.GAF_CTL : RegRef := ⟨0x3000000, 0x400004000001⟩
/-- GAF_STATUS, offset 0x300_0008. -/
def R.GAF_STATUS : RegRef := ⟨0x3000008, 0x20⟩
/-- GAF_COMMIT, offset 0x300_0010. -/
def R.GAF_COMMIT : RegRef := ⟨0x3000010, 0x0⟩
/-- GAF_EPSTAT, offset 0x300_0020 + 8 × d, d = 0 forwarding, 1 action, 2 scheduling. -/
def R.GAF_EPSTAT (i : Nat) : RegRef := ⟨0x3000020 + 8 * i, 0x10000⟩
/-- GAF_DEBUG, offset 0x300_0040. -/
def R.GAF_DEBUG : RegRef := ⟨0x3000040, 0x0⟩
/-- GAF_CORECMD, offset 0x300_0048. -/
def R.GAF_CORECMD : RegRef := ⟨0x3000048, 0x0⟩
/-- GAF_CORE, offset 0x300_0100 + 8 × c, c = 0–31. -/
def R.GAF_CORE (i : Nat) : RegRef := ⟨0x3000100 + 8 * i, 0x0 + i * 2 ^ 0⟩
/-- GAF_EVROUTE, offset 0x300_0200 + 8 × (b − 32), b = 32–35, 38–42. -/
def R.GAF_EVROUTE (i : Nat) : RegRef := ⟨0x3000200 + 8 * i, 0x1⟩
/-- JCK_STATUS, offset 0x308_0000. -/
def R.JCK_STATUS : RegRef := ⟨0x3080000, 0x2⟩
/-- JCK_TBLSEL, offset 0x308_0010. -/
def R.JCK_TBLSEL : RegRef := ⟨0x3080010, 0x0⟩
/-- JCK_TBLCMD, offset 0x308_0018. -/
def R.JCK_TBLCMD : RegRef := ⟨0x3080018, 0x0⟩
/-- JCK_TBLDATA, offset 0x308_0020 + 8 × i, i = 0–3. -/
def R.JCK_TBLDATA (i : Nat) : RegRef := ⟨0x3080020 + 8 * i, 0x0⟩
/-- JCK_SLOT, offset 0x308_1000 + 8 × j, j = 0–4095. -/
def R.JCK_SLOT (i : Nat) : RegRef := ⟨0x3081000 + 8 * i, 0x0⟩
/-- JCK_TBLA, offset 0x308_9000 + 16 × t, t = 0–255. -/
def R.JCK_TBLA (i : Nat) : RegRef := ⟨0x3089000 + 16 * i, 0x0⟩
/-- JCK_TBLB, offset 0x308_9008 + 16 × t, t = 0–255. -/
def R.JCK_TBLB (i : Nat) : RegRef := ⟨0x3089008 + 16 * i, 0x0⟩
/-- PRT_CTL, offset +0x000. -/
def R.PRT_CTL (i : Nat) : RegRef := ⟨0x800000 + 4096 * i, 0x2⟩
/-- PRT_STATUS, offset +0x008. -/
def R.PRT_STATUS (i : Nat) : RegRef := ⟨0x800008 + 4096 * i, 0x41⟩
/-- PRT_ROLE, offset +0x010. -/
def R.PRT_ROLE (i : Nat) : RegRef := ⟨0x800010 + 4096 * i, 0x0⟩
/-- PRT_LINKCFG, offset +0x018. -/
def R.PRT_LINKCFG (i : Nat) : RegRef := ⟨0x800018 + 4096 * i, 0x35⟩
/-- PRT_LINKSTAT, offset +0x020. -/
def R.PRT_LINKSTAT (i : Nat) : RegRef := ⟨0x800020 + 4096 * i, 0x0⟩
/-- PRT_ARB, offset +0x028. -/
def R.PRT_ARB (i : Nat) : RegRef := ⟨0x800028 + 4096 * i, 0x8002040810204081⟩
/-- PRT_SLOT, offset +0x030. -/
def R.PRT_SLOT (i : Nat) : RegRef := ⟨0x800030 + 4096 * i, 0x40⟩
/-- PRT_OCTCFG, offset 0x090_0000 + 8 × n, n = 0–63. -/
def R.PRT_OCTCFG (i : Nat) : RegRef := ⟨0x900000 + 8 * i, 0x0 + (if i % 2 = 0 then 6 else 0) * 2 ^ 1⟩
/-- PTN_MGMT, offset 0x0C0_0000. -/
def R.PTN_MGMT : RegRef := ⟨0xC00000, 0x0⟩
/-- PTN_STATUS, offset 0x0C0_0008. -/
def R.PTN_STATUS : RegRef := ⟨0xC00008, 0x4⟩
/-- PTN_RSTCMD, offset 0x0C0_0010. -/
def R.PTN_RSTCMD : RegRef := ⟨0xC00010, 0x0⟩
/-- PTN_CFG, offset 0x0C0_1000 + 8 × pt, pt = 0–63. -/
def R.PTN_CFG (i : Nat) : RegRef := ⟨0xC01000 + 8 * i, 0x0 + (if i < 16 then i else 31) * 2 ^ 4⟩
/-- PTN_STATE, offset 0x0C0_1400 + 8 × pt, pt = 0–63. -/
def R.PTN_STATE (i : Nat) : RegRef := ⟨0xC01400 + 8 * i, 0x40000000000⟩
/-- PTN_PEERA, offset 0x0C1_0000 + 0x100 × pt + 16 × w, w = 0–15. -/
def R.PTN_PEERA (i j : Nat) : RegRef := ⟨0xC10000 + 256 * i + 16 * j, 0x0⟩
/-- PTN_PEERB, offset 0x0C1_0008 + 0x100 × pt + 16 × w, w = 0–15. -/
def R.PTN_PEERB (i j : Nat) : RegRef := ⟨0xC10008 + 256 * i + 16 * j, 0x0⟩
/-- QEP_CTL, offset 0x0D0_0000. -/
def R.QEP_CTL : RegRef := ⟨0xD00000, 0x1E⟩
/-- QEP_STATUS, offset 0x0D0_0008. -/
def R.QEP_STATUS : RegRef := ⟨0xD00008, 0x10⟩
/-- QEP_ID, offset 0x0D0_0010. -/
def R.QEP_ID : RegRef := ⟨0xD00010, 0x0⟩
/-- QEP_DSN, offset 0x0D0_0018. -/
def R.QEP_DSN : RegRef := ⟨0xD00018, 0x0⟩
/-- QEP_VFBAR, offset 0x0D0_0020. -/
def R.QEP_VFBAR : RegRef := ⟨0xD00020, 0x15⟩
/-- QEP_VFCMD, offset 0x0D0_0028. -/
def R.QEP_VFCMD : RegRef := ⟨0xD00028, 0x0⟩
/-- QEP_VFMAP, offset 0x0D1_0000 + 8 × v, v = 1–4096. -/
def R.QEP_VFMAP (i : Nat) : RegRef := ⟨0xD10000 + 8 * i, 0x0⟩
/-- QEP_FNSTAT, offset 0x0D2_0000 + 8 × f, f = 0–4096. -/
def R.QEP_FNSTAT (i : Nat) : RegRef := ⟨0xD20000 + 8 * i, 0x0⟩
/-- QEP_NODEOWN, offset 0x0D4_0000 + 8 × n, n = 0–18,431. -/
def R.QEP_NODEOWN (i : Nat) : RegRef := ⟨0xD40000 + 8 * i, 0x0⟩
/-- LNE_OCTCTL, offset +0x000. -/
def R.LNE_OCTCTL (i : Nat) : RegRef := ⟨0x400000 + 16384 * i, 0x11⟩
/-- LNE_OCTSTAT, offset +0x008. -/
def R.LNE_OCTSTAT (i : Nat) : RegRef := ⟨0x400008 + 16384 * i, 0xFF4⟩
/-- LNE_FAILCFG, offset +0x010. -/
def R.LNE_FAILCFG (i : Nat) : RegRef := ⟨0x400010 + 16384 * i, 0x60400010000⟩
/-- LNE_RETRIM, offset +0x018. -/
def R.LNE_RETRIM (i : Nat) : RegRef := ⟨0x400018 + 16384 * i, 0x0⟩
/-- LNE_RETRIMSTAT, offset +0x020. -/
def R.LNE_RETRIMSTAT (i : Nat) : RegRef := ⟨0x400020 + 16384 * i, 0x0⟩
/-- LNE_MARGINCFG, offset +0x028. -/
def R.LNE_MARGINCFG (i : Nat) : RegRef := ⟨0x400028 + 16384 * i, 0x20A⟩
/-- LNE_FAILED, offset +0x030. -/
def R.LNE_FAILED (i : Nat) : RegRef := ⟨0x400030 + 16384 * i, 0x0⟩
/-- LNE_CTL, offset +0x1000 + 0x200 × i. -/
def R.LNE_CTL (i j : Nat) : RegRef := ⟨0x401000 + 16384 * i + 512 * j, 0x0⟩
/-- LNE_STAT, offset +0x1008 + 0x200 × i. -/
def R.LNE_STAT (i j : Nat) : RegRef := ⟨0x401008 + 16384 * i + 512 * j, 0xF⟩
/-- LNE_DFE, offset +0x1010 + 0x200 × i. -/
def R.LNE_DFE (i j : Nat) : RegRef := ⟨0x401010 + 16384 * i + 512 * j, 0x0⟩
/-- LNE_TXEQ, offset +0x1018 + 0x200 × i. -/
def R.LNE_TXEQ (i j : Nat) : RegRef := ⟨0x401018 + 16384 * i + 512 * j, 0x10C00⟩
/-- LNE_ERRCNT, offset +0x1020 + 0x200 × i. -/
def R.LNE_ERRCNT (i j : Nat) : RegRef := ⟨0x401020 + 16384 * i + 512 * j, 0x0⟩
/-- LNE_MARGCMD, offset +0x1028 + 0x200 × i. -/
def R.LNE_MARGCMD (i j : Nat) : RegRef := ⟨0x401028 + 16384 * i + 512 * j, 0x0⟩
/-- LNE_MARGRES, offset +0x1030 + 0x200 × i. -/
def R.LNE_MARGRES (i j : Nat) : RegRef := ⟨0x401030 + 16384 * i + 512 * j, 0x0⟩
/-- CAN_CTL, offset +0x000. -/
def R.CAN_CTL (i : Nat) : RegRef := ⟨0x3C00000 + 4096 * i, 0x1201003⟩
/-- CAN_STATUS, offset +0x008. -/
def R.CAN_STATUS (i : Nat) : RegRef := ⟨0x3C00008 + 4096 * i, 0x8⟩
/-- CAN_LINKCFG, offset +0x010. -/
def R.CAN_LINKCFG (i : Nat) : RegRef := ⟨0x3C00010 + 4096 * i, 0x400810000818⟩
/-- CAN_TRAINCFG, offset +0x018. -/
def R.CAN_TRAINCFG (i : Nat) : RegRef := ⟨0x3C00018 + 4096 * i, 0x10011⟩
/-- CAN_CMD, offset +0x020. -/
def R.CAN_CMD (i : Nat) : RegRef := ⟨0x3C00020 + 4096 * i, 0x180⟩
/-- CAN_TXSEQ, offset +0x028. -/
def R.CAN_TXSEQ (i : Nat) : RegRef := ⟨0x3C00028 + 4096 * i, 0x0⟩
/-- CAN_RXSEQ, offset +0x030. -/
def R.CAN_RXSEQ (i : Nat) : RegRef := ⟨0x3C00030 + 4096 * i, 0x0⟩
/-- CAN_ERRCNT, offset +0x038. -/
def R.CAN_ERRCNT (i : Nat) : RegRef := ⟨0x3C00038 + 4096 * i, 0x0⟩
/-- CAN_REPCNT, offset +0x040. -/
def R.CAN_REPCNT (i : Nat) : RegRef := ⟨0x3C00040 + 4096 * i, 0x0⟩
/-- CAN_EVCNT, offset +0x048. -/
def R.CAN_EVCNT (i : Nat) : RegRef := ⟨0x3C00048 + 4096 * i, 0x0⟩
/-- CAN_CRDCFG, offset +0x080 + 8 × c, c = 0–7. -/
def R.CAN_CRDCFG (i j : Nat) : RegRef := ⟨0x3C00080 + 4096 * i + 8 * j, 0x0⟩
/-- CAN_CRDSTAT, offset +0x0C0 + 8 × c, c = 0–7. -/
def R.CAN_CRDSTAT (i j : Nat) : RegRef := ⟨0x3C000C0 + 4096 * i + 8 * j, 0x0⟩
/-- FTX_CTL, offset 0x3D0_0000. -/
def R.FTX_CTL : RegRef := ⟨0x3D00000, 0x3C00⟩
/-- FTX_STATUS, offset 0x3D0_0008. -/
def R.FTX_STATUS : RegRef := ⟨0x3D00008, 0x200000011⟩
/-- FTX_TIMERS, offset 0x3D0_0010. -/
def R.FTX_TIMERS : RegRef := ⟨0x3D00010, 0x100100001000040⟩
/-- FTX_CMD, offset 0x3D0_0018. -/
def R.FTX_CMD : RegRef := ⟨0x3D00018, 0x0⟩
/-- FTX_ERRCNT, offset 0x3D0_0020. -/
def R.FTX_ERRCNT : RegRef := ⟨0x3D00020, 0x0⟩
/-- FTX_RPTCNT, offset 0x3D0_0028. -/
def R.FTX_RPTCNT : RegRef := ⟨0x3D00028, 0x0⟩
/-- FTX_GEN, offset 0x3D0_0030. -/
def R.FTX_GEN : RegRef := ⟨0x3D00030, 0x0⟩
/-- FTX_FIDMAP, offset 0x3D0_0100 + 8 × f, f = 0–15. -/
def R.FTX_FIDMAP (i : Nat) : RegRef := ⟨0x3D00100 + 8 * i, 0x0⟩
/-- FTX_ROUTE, offset 0x3D0_0180 + 8 × f, f = 0–15. -/
def R.FTX_ROUTE (i : Nat) : RegRef := ⟨0x3D00180 + 8 * i, 0x0⟩
/-- FTX_FIDSTAT, offset 0x3D0_0200 + 8 × f, f = 0–15. -/
def R.FTX_FIDSTAT (i : Nat) : RegRef := ⟨0x3D00200 + 8 * i, 0x0⟩
/-- FTX_FIDSEQ, offset 0x3D0_0280 + 8 × f, f = 0–15. -/
def R.FTX_FIDSEQ (i : Nat) : RegRef := ⟨0x3D00280 + 8 * i, 0x0⟩
/-- FTX_REPL, offset 0x3D0_0300 + 8 × r, r = 0–7. -/
def R.FTX_REPL (i : Nat) : RegRef := ⟨0x3D00300 + 8 * i, 0x0⟩
/-- FTX_LEP, offset 0x3D0_1000 + 8 × e, e = 0–255. -/
def R.FTX_LEP (i : Nat) : RegRef := ⟨0x3D01000 + 8 * i, 0x0⟩
/-- LTH_CTL, offset 0x380_0000. -/
def R.LTH_CTL : RegRef := ⟨0x3800000, 0x0⟩
/-- LTH_STATUS, offset 0x380_0008. -/
def R.LTH_STATUS : RegRef := ⟨0x3800008, 0x205⟩
/-- LTH_WIN, offset 0x380_0010. -/
def R.LTH_WIN : RegRef := ⟨0x3800010, 0x0⟩
/-- LTH_PREFDISC, offset 0x380_0018. -/
def R.LTH_PREFDISC : RegRef := ⟨0x3800018, 0x0⟩
/-- LTH_POLLSTAT, offset 0x380_0020. -/
def R.LTH_POLLSTAT : RegRef := ⟨0x3800020, 0x0⟩
/-- LTH_GPIOIN, offset 0x380_0030. -/
def R.LTH_GPIOIN : RegRef := ⟨0x3800030, 0x0⟩
/-- LTH_GPIOOE, offset 0x380_0038. -/
def R.LTH_GPIOOE : RegRef := ⟨0x3800038, 0x0⟩
/-- LTH_GPIOOUT, offset 0x380_0040. -/
def R.LTH_GPIOOUT : RegRef := ⟨0x3800040, 0x0⟩
/-- LTH_RGN, offset 0x380_0100 + 8 × r, r = 0–15. -/
def R.LTH_RGN (i : Nat) : RegRef := ⟨0x3800100 + 8 * i, 0x400000040⟩
/-- LTH_SBCFG, offset 0x380_0200 + 8 × b, b = 0–7. -/
def R.LTH_SBCFG (i : Nat) : RegRef := ⟨0x3800200 + 8 * i, 0x190002⟩
/-- LTH_LELOGA, offset 0x380_0400 + 16 × i, i = 0–15. -/
def R.LTH_LELOGA (i : Nat) : RegRef := ⟨0x3800400 + 16 * i, 0x0⟩
/-- LTH_LELOGB, offset 0x380_0408 + 16 × i, i = 0–15. -/
def R.LTH_LELOGB (i : Nat) : RegRef := ⟨0x3800408 + 16 * i, 0x0⟩
/-- LTH_POLL, offset 0x380_0600 + 16 × e, e = 0–15. -/
def R.LTH_POLL (i : Nat) : RegRef := ⟨0x3800600 + 16 * i, 0xC6000000000⟩
/-- LTH_POLLMASK, offset 0x380_0608 + 16 × e, e = 0–15. -/
def R.LTH_POLLMASK (i : Nat) : RegRef := ⟨0x3800608 + 16 * i, 0x0⟩
/-- LTH_POLLVAL, offset 0x380_0800 + 8 × e, e = 0–15. -/
def R.LTH_POLLVAL (i : Nat) : RegRef := ⟨0x3800800 + 8 * i, 0x0⟩
/-- MBX_CTL, offset 0x260_0000. -/
def R.MBX_CTL : RegRef := ⟨0x2600000, 0x0⟩
/-- MBX_STATUS, offset 0x260_0008. -/
def R.MBX_STATUS : RegRef := ⟨0x2600008, 0x2⟩
/-- MBX_FORCE, offset 0x260_0010. -/
def R.MBX_FORCE : RegRef := ⟨0x2600010, 0x0⟩
/-- MBX_CFG, offset 0x260_1000 + 8 × m, m = 0–511. -/
def R.MBX_CFG (i : Nat) : RegRef := ⟨0x2601000 + 8 * i, 0x0⟩
/-- MBX_TXMSG, offset +0x08 × i, i = 1–7. -/
def R.MBX_TXMSG (i j : Nat) : RegRef := ⟨0x2610000 + 256 * i + 8 * j, 0x0⟩
/-- MBX_RXMSG, offset +0x40 + 8 × i, i = 0–7. -/
def R.MBX_RXMSG (i j : Nat) : RegRef := ⟨0x2610040 + 256 * i + 8 * j, 0x0⟩
/-- MBX_CMD, offset +0x80. -/
def R.MBX_CMD (i : Nat) : RegRef := ⟨0x2610080 + 256 * i, 0x0⟩
/-- MBX_ESTAT, offset +0x88. -/
def R.MBX_ESTAT (i : Nat) : RegRef := ⟨0x2610088 + 256 * i, 0x0⟩
/-- CMD_CTL, offset 0x280_0000. -/
def R.CMD_CTL : RegRef := ⟨0x2800000, 0x0⟩
/-- CMD_STATUS, offset 0x280_0008. -/
def R.CMD_STATUS : RegRef := ⟨0x2800008, 0x109⟩
/-- CMD_ALLOC, offset 0x280_0010. -/
def R.CMD_ALLOC : RegRef := ⟨0x2800010, 0x0⟩
/-- CMD_CFG, offset 0x280_0018. -/
def R.CMD_CFG : RegRef := ⟨0x2800018, 0x400⟩
/-- CMD_FORCE, offset 0x280_0020. -/
def R.CMD_FORCE : RegRef := ⟨0x2800020, 0x0⟩
/-- CMD_SLOT, offset 0x280_0100 + 0x80 × s, s = 0–15. -/
def R.CMD_SLOT (i : Nat) : RegRef := ⟨0x2800100 + 128 * i, 0x0⟩
/-- CMD_ARG, offset 0x280_0108 + 0x80 × s + 8 × i, i = 0–3. -/
def R.CMD_ARG (i j : Nat) : RegRef := ⟨0x2800108 + 128 * i + 8 * j, 0x0⟩
/-- CMD_OP, offset 0x280_0130 + 0x80 × s. -/
def R.CMD_OP (i : Nat) : RegRef := ⟨0x2800130 + 128 * i, 0x0⟩
/-- CMD_RESA, offset 0x280_0140 + 0x80 × s. -/
def R.CMD_RESA (i : Nat) : RegRef := ⟨0x2800140 + 128 * i, 0x0⟩
/-- CMD_RESB, offset 0x280_0148 + 0x80 × s. -/
def R.CMD_RESB (i : Nat) : RegRef := ⟨0x2800148 + 128 * i, 0x0⟩
/-- CMD_RESC, offset 0x280_0150 + 0x80 × s. -/
def R.CMD_RESC (i : Nat) : RegRef := ⟨0x2800150 + 128 * i, 0x0⟩
/-- FLT_CTL, offset 0x2A0_0000. -/
def R.FLT_CTL : RegRef := ⟨0x2A00000, 0x8040006⟩
/-- FLT_STATUS, offset 0x2A0_0008. -/
def R.FLT_STATUS : RegRef := ⟨0x2A00008, 0x3F0⟩
/-- FLT_CNT, offset 0x2A0_0010. -/
def R.FLT_CNT : RegRef := ⟨0x2A00010, 0x0⟩
/-- FLT_CMD, offset 0x2A0_0018. -/
def R.FLT_CMD : RegRef := ⟨0x2A00018, 0x0⟩
/-- FLT_OPENMAP, offset 0x2A0_0020. -/
def R.FLT_OPENMAP : RegRef := ⟨0x2A00020, 0x0⟩
/-- FLT_CODECFG, offset 0x2A0_0400 + 8 × c, c = 0–63. -/
def R.FLT_CODECFG (i : Nat) : RegRef := ⟨0x2A00400 + 8 * i, 0x10⟩
/-- FLT_RECA, offset 0x2A0_1000 + 0x40 × r, r = 0–63. -/
def R.FLT_RECA (i : Nat) : RegRef := ⟨0x2A01000 + 64 * i, 0x0⟩
/-- FLT_RECB, offset 0x2A0_1008 + 0x40 × r, r = 0–63. -/
def R.FLT_RECB (i : Nat) : RegRef := ⟨0x2A01008 + 64 * i, 0x0⟩
/-- FLT_RECC, offset 0x2A0_1010 + 0x40 × r, r = 0–63. -/
def R.FLT_RECC (i : Nat) : RegRef := ⟨0x2A01010 + 64 * i, 0x0⟩
/-- FLT_RECD, offset 0x2A0_1018 + 0x40 × r, r = 0–63. -/
def R.FLT_RECD (i : Nat) : RegRef := ⟨0x2A01018 + 64 * i, 0x0⟩
/-- FLT_RECE, offset 0x2A0_1020 + 0x40 × r, r = 0–63. -/
def R.FLT_RECE (i : Nat) : RegRef := ⟨0x2A01020 + 64 * i, 0x0⟩
/-- MON_STATUS, offset 0x2C0_0000. -/
def R.MON_STATUS : RegRef := ⟨0x2C00000, 0x0⟩
/-- MON_VAL, offset 0x2C0_1000 + 8 × i, i = 0–79. -/
def R.MON_VAL (i : Nat) : RegRef := ⟨0x2C01000 + 8 * i, 0x0 + (if i < 24 then 0x8000 else 0) * 2 ^ 16 + (if i < 24 then 0x7FFF else 0xFFFF) * 2 ^ 32⟩
/-- MON_THR, offset 0x2C0_1400 + 8 × i, i = 0–63. -/
def R.MON_THR (i : Nat) : RegRef := ⟨0x2C01400 + 8 * i, 0x30000000000 + (if i < 24 then 0x0348 else 0) * 2 ^ 0 + (if i < 24 then 0x0398 else 0) * 2 ^ 16 + (if i < 24 then 16 else 8) * 2 ^ 32⟩
/-- TAL_CTL, offset 0x2C0_8000. -/
def R.TAL_CTL : RegRef := ⟨0x2C08000, 0x0⟩
/-- TAL_STATUS, offset 0x2C0_8008. -/
def R.TAL_STATUS : RegRef := ⟨0x2C08008, 0x4⟩
/-- TAL_UACC, offset 0x2C0_8010. -/
def R.TAL_UACC : RegRef := ⟨0x2C08010, 0x0⟩
/-- TAL_SMPCFG, offset 0x2C0_8018. -/
def R.TAL_SMPCFG : RegRef := ⟨0x2C08018, 0x8000000⟩
/-- TAL_SMPPTR, offset 0x2C0_8020. -/
def R.TAL_SMPPTR : RegRef := ⟨0x2C08020, 0x0⟩
/-- TAL_SMPSTAT, offset 0x2C0_8028. -/
def R.TAL_SMPSTAT : RegRef := ⟨0x2C08028, 0x0⟩
/-- TAL_WRAP, offset 0x2C0_8100 + 8 × g, g = 0–7. -/
def R.TAL_WRAP (i : Nat) : RegRef := ⟨0x2C08100 + 8 * i, 0x0⟩
/-- TAL_SEL, offset 0x2C2_0000 + 32 × i, i = 0–511. -/
def R.TAL_SEL (i : Nat) : RegRef := ⟨0x2C20000 + 32 * i, 0xE00⟩
/-- TAL_MATCH, offset 0x2C2_0008 + 32 × i. -/
def R.TAL_MATCH (i : Nat) : RegRef := ⟨0x2C20008 + 32 * i, 0x0⟩
/-- TAL_ALO, offset 0x2C2_0010 + 32 × i. -/
def R.TAL_ALO (i : Nat) : RegRef := ⟨0x2C20010 + 32 * i, 0x0⟩
/-- TAL_AHI, offset 0x2C2_0018 + 32 × i. -/
def R.TAL_AHI (i : Nat) : RegRef := ⟨0x2C20018 + 32 * i, 0x0⟩
/-- TAL_CNT, offset 0x2C4_0000 + 8 × i, i = 0–511. -/
def R.TAL_CNT (i : Nat) : RegRef := ⟨0x2C40000 + 8 * i, 0x0⟩
/-- TAL_PORT, offset 0x2C5_0000 + 0x40 × p + 8 × k, p = 0–256, k = 0–5. -/
def R.TAL_PORT (i j : Nat) : RegRef := ⟨0x2C50000 + 64 * i + 8 * j, 0x0⟩
/-- EMB_STATUS, offset 0x010_0000. -/
def R.EMB_STATUS : RegRef := ⟨0x100000, 0x0⟩
/-- EMB_BEAT, offset 0x010_0008. -/
def R.EMB_BEAT : RegRef := ⟨0x100008, 0x0⟩
/-- EMB_CLKPOL, offset 0x010_0010. -/
def R.EMB_CLKPOL : RegRef := ⟨0x100010, 0x400400000B⟩
/-- EMB_CLKFORCE, offset 0x010_0018. -/
def R.EMB_CLKFORCE : RegRef := ⟨0x100018, 0x0⟩
/-- EMB_CLKSTAT, offset 0x010_0020. -/
def R.EMB_CLKSTAT : RegRef := ⟨0x100020, 0xFFFFFF⟩
/-- EMB_WAKEMASK, offset 0x010_0028. -/
def R.EMB_WAKEMASK : RegRef := ⟨0x100028, 0x7FF00000000⟩
/-- EMB_WDCFG, offset 0x010_0030. -/
def R.EMB_WDCFG : RegRef := ⟨0x100030, 0x10000000⟩
/-- EMB_WDKICK, offset 0x010_0038. -/
def R.EMB_WDKICK : RegRef := ⟨0x100038, 0x0⟩
/-- EMB_WDSTAT, offset 0x010_0040. -/
def R.EMB_WDSTAT : RegRef := ⟨0x100040, 0x0⟩
/-- RST_STATUS, offset 0x010_1000. -/
def R.RST_STATUS : RegRef := ⟨0x101000, 0x4⟩
/-- RST_CTL, offset 0x010_1008. -/
def R.RST_CTL : RegRef := ⟨0x101008, 0x400000⟩
/-- RST_CAUSE, offset 0x010_1010. -/
def R.RST_CAUSE : RegRef := ⟨0x101010, 0x1⟩
/-- RST_STRAP, offset 0x010_1018. -/
def R.RST_STRAP : RegRef := ⟨0x101018, 0x0⟩
/-- RST_LEHR, offset 0x010_1020. -/
def R.RST_LEHR : RegRef := ⟨0x101020, 0x1020408108040204⟩
/-- RST_CMD, offset 0x010_1028. -/
def R.RST_CMD : RegRef := ⟨0x101028, 0x0⟩
/-- RST_TRIMSTAT, offset 0x010_1030. -/
def R.RST_TRIMSTAT : RegRef := ⟨0x101030, 0x0⟩
/-- RST_DOMAIN, offset 0x010_1038. -/
def R.RST_DOMAIN : RegRef := ⟨0x101038, 0x3FF⟩
/-- PWR_CTL, offset 0x020_0000. -/
def R.PWR_CTL : RegRef := ⟨0x200000, 0x3E8BE4A0⟩
/-- PWR_STATUS, offset 0x020_0008. -/
def R.PWR_STATUS : RegRef := ⟨0x200008, 0x0⟩
/-- PWR_FEEDCFG, offset 0x020_0010 + 8 × x, x = 0 A, 1 B. -/
def R.PWR_FEEDCFG (i : Nat) : RegRef := ⟨0x200010 + 8 * i, 0x29E1E3214E4C371⟩
/-- PWR_FEEDAUX, offset 0x020_0020 + 8 × x. -/
def R.PWR_FEEDAUX (i : Nat) : RegRef := ⟨0x200020 + 8 * i, 0x1F40FA⟩
/-- PWR_FEEDSTAT, offset 0x020_0030 + 8 × x. -/
def R.PWR_FEEDSTAT (i : Nat) : RegRef := ⟨0x200030 + 8 * i, 0x0⟩
/-- PWR_SHED, offset 0x020_0040. -/
def R.PWR_SHED : RegRef := ⟨0x200040, 0xFFFFFFFFFFFFFFFF⟩
/-- PWR_SHEDSTAT, offset 0x020_0048. -/
def R.PWR_SHEDSTAT : RegRef := ⟨0x200048, 0x0⟩
/-- SLT_CFG, offset +0x00. -/
def R.SLT_CFG (i : Nat) : RegRef := ⟨0x210000 + 64 * i, 0x5053C3C64726190⟩
/-- SLT_AUX, offset +0x08. -/
def R.SLT_AUX (i : Nat) : RegRef := ⟨0x210008 + 64 * i, 0x41901907D0⟩
/-- SLT_CTL, offset +0x10. -/
def R.SLT_CTL (i : Nat) : RegRef := ⟨0x210010 + 64 * i, 0x0⟩
/-- SLT_STAT, offset +0x18. -/
def R.SLT_STAT (i : Nat) : RegRef := ⟨0x210018 + 64 * i, 0x0⟩
/-- HLD_CFG, offset 0x022_0000. -/
def R.HLD_CFG : RegRef := ⟨0x220000, 0x7D0BE24B8B⟩
/-- HLD_STATUS, offset 0x022_0008. -/
def R.HLD_STATUS : RegRef := ⟨0x220008, 0x0⟩

/-- A card: which register, where its instances stand, its reset class, whether it is a commit register, the epoch domain
it is banked by, and its fields. -/
structure Card where
  reg : Reg
  base : Nat
  dims : List Dim
  rcls : RClass
  commit : Bool
  dom : Dom
  fields : List FieldRow
  rst : Nat → Nat → Nat

def Card.CRU_CTL : Card := ⟨.CRU_CTL, 0x1000000, [], .warm, false, .none,
  [⟨F.CRU_CTL_ENABLE, .rw, .live⟩,
   ⟨F.CRU_CTL_CT_GLOBAL, .rw, .live⟩],
  fun _ _ => R.CRU_CTL.rst⟩
def Card.CRU_STATUS : Card := ⟨.CRU_STATUS, 0x1000008, [], .warm, false, .none,
  [⟨F.CRU_STATUS_IDLE, .ro, .live⟩,
   ⟨F.CRU_STATUS_CFG_REFUSED, .rw1c, .live⟩,
   ⟨F.CRU_STATUS_COMMIT_BAD, .rw1c, .live⟩,
   ⟨F.CRU_STATUS_COMMIT_PEND, .ro, .live⟩,
   ⟨F.CRU_STATUS_TRIM_WAIT, .ro, .live⟩],
  fun _ _ => R.CRU_STATUS.rst⟩
def Card.CRU_POOLSTAT : Card := ⟨.CRU_POOLSTAT, 0x1000010, [], .warm, false, .none,
  [⟨F.CRU_POOLSTAT_SHARED_FREE, .ro, .live⟩,
   ⟨F.CRU_POOLSTAT_RESV_SUM, .ro, .live⟩,
   ⟨F.CRU_POOLSTAT_SHARED_SIZE, .ro, .live⟩],
  fun _ _ => R.CRU_POOLSTAT.rst⟩
def Card.CRU_ALLOCSTAT : Card := ⟨.CRU_ALLOCSTAT, 0x1000018, [], .warm, false, .none,
  [⟨F.CRU_ALLOCSTAT_PKTREC_FREE, .ro, .live⟩,
   ⟨F.CRU_ALLOCSTAT_RETIRED, .ro, .live⟩],
  fun _ _ => R.CRU_ALLOCSTAT.rst⟩
def Card.CRU_MINSHARED : Card := ⟨.CRU_MINSHARED, 0x1000020, [], .warm, false, .none,
  [⟨F.CRU_MINSHARED_MIN_SHARED, .rw, .quiesce⟩],
  fun _ _ => R.CRU_MINSHARED.rst⟩
def Card.CRU_HOLDTO : Card := ⟨.CRU_HOLDTO, 0x1000028, [], .warm, false, .none,
  [⟨F.CRU_HOLDTO_HOLD_TO, .rw, .live⟩],
  fun _ _ => R.CRU_HOLDTO.rst⟩
def Card.CRU_COMMIT : Card := ⟨.CRU_COMMIT, 0x1000030, [], .warm, true, .none,
  [⟨F.CRU_COMMIT_GO, .wo, .live⟩],
  fun _ _ => R.CRU_COMMIT.rst⟩
def Card.CRU_DTHRESH : Card := ⟨.CRU_DTHRESH, 0x1000040, [], .warm, false, .named,
  [⟨F.CRU_DTHRESH_ALPHA_C0, .rw, .shadow⟩,
   ⟨F.CRU_DTHRESH_ALPHA_C1, .rw, .shadow⟩,
   ⟨F.CRU_DTHRESH_ALPHA_C2, .rw, .shadow⟩,
   ⟨F.CRU_DTHRESH_ALPHA_C3, .rw, .shadow⟩,
   ⟨F.CRU_DTHRESH_ALPHA_C4, .rw, .shadow⟩,
   ⟨F.CRU_DTHRESH_ALPHA_C5, .rw, .shadow⟩,
   ⟨F.CRU_DTHRESH_ALPHA_C6, .rw, .shadow⟩,
   ⟨F.CRU_DTHRESH_ALPHA_C7, .rw, .shadow⟩,
   ⟨F.CRU_DTHRESH_ALPHA_SKIM, .rw, .shadow⟩],
  fun _ _ => R.CRU_DTHRESH.rst⟩
def Card.CRU_ECCSTAT : Card := ⟨.CRU_ECCSTAT, 0x1000048, [], .warm, false, .none,
  [⟨F.CRU_ECCSTAT_CE1, .rc, .live⟩,
   ⟨F.CRU_ECCSTAT_CE2, .rc, .live⟩,
   ⟨F.CRU_ECCSTAT_UE, .rc, .live⟩],
  fun _ _ => R.CRU_ECCSTAT.rst⟩
def Card.CRU_ECCLOG : Card := ⟨.CRU_ECCLOG, 0x1000050, [], .warm, false, .none,
  [⟨F.CRU_ECCLOG_CELL, .ro, .live⟩,
   ⟨F.CRU_ECCLOG_WORD, .ro, .live⟩,
   ⟨F.CRU_ECCLOG_WEIGHT, .ro, .live⟩,
   ⟨F.CRU_ECCLOG_LINKMEM, .ro, .live⟩,
   ⟨F.CRU_ECCLOG_VALID, .rw1c, .live⟩,
   ⟨F.CRU_ECCLOG_OVF, .rw1c, .live⟩,
   ⟨F.CRU_ECCLOG_RECORD, .ro, .live⟩],
  fun _ _ => R.CRU_ECCLOG.rst⟩
def Card.CRU_RETCFG : Card := ⟨.CRU_RETCFG, 0x1000058, [], .warm, false, .none,
  [⟨F.CRU_RETCFG_RET_EN, .rw, .live⟩,
   ⟨F.CRU_RETCFG_RET_UE, .rw, .live⟩],
  fun _ _ => R.CRU_RETCFG.rst⟩
def Card.CRU_RETADD : Card := ⟨.CRU_RETADD, 0x1000060, [], .warm, false, .none,
  [⟨F.CRU_RETADD_CELL, .wo, .live⟩,
   ⟨F.CRU_RETADD_GO, .wo, .live⟩],
  fun _ _ => R.CRU_RETADD.rst⟩
def Card.CRU_CTEN : Card := ⟨.CRU_CTEN, 0x1000080, [⟨8, 0, 3⟩], .warm, false, .none,
  [⟨F.CRU_CTEN_CT_EN, .rw, .live⟩],
  fun i _ => (R.CRU_CTEN i).rst⟩
def Card.CRU_MIRSESS : Card := ⟨.CRU_MIRSESS, 0x1000100, [⟨32, 0, 3⟩], .warm, false, .action,
  [⟨F.CRU_MIRSESS_DPORT, .rw, .shadow⟩,
   ⟨F.CRU_MIRSESS_EN, .rw, .shadow⟩,
   ⟨F.CRU_MIRSESS_TRUNC, .rw, .shadow⟩,
   ⟨F.CRU_MIRSESS_REQID, .rw, .shadow⟩,
   ⟨F.CRU_MIRSESS_WIN_LOG2, .rw, .shadow⟩,
   ⟨F.CRU_MIRSESS_SAMPLE_LOG2, .rw, .shadow⟩],
  fun i _ => (R.CRU_MIRSESS i).rst⟩
def Card.CRU_MIRBASE : Card := ⟨.CRU_MIRBASE, 0x1000108, [⟨32, 0, 3⟩], .warm, false, .action,
  [⟨F.CRU_MIRBASE_BASE, .rw, .shadow⟩],
  fun i _ => (R.CRU_MIRBASE i).rst⟩
def Card.CRU_MIRSTAT : Card := ⟨.CRU_MIRSTAT, 0x1000110, [⟨32, 0, 3⟩], .warm, false, .none,
  [⟨F.CRU_MIRSTAT_SEQ, .ro, .live⟩,
   ⟨F.CRU_MIRSTAT_DROPS, .rc, .live⟩],
  fun i _ => (R.CRU_MIRSTAT i).rst⟩
def Card.CRU_MIRPORT : Card := ⟨.CRU_MIRPORT, 0x1001000, [⟨8, 0, 255⟩], .warm, false, .forwarding,
  [⟨F.CRU_MIRPORT_ING_EN, .rw, .shadow⟩,
   ⟨F.CRU_MIRPORT_ING_SESS, .rw, .shadow⟩,
   ⟨F.CRU_MIRPORT_EGR_EN, .rw, .shadow⟩,
   ⟨F.CRU_MIRPORT_EGR_SESS, .rw, .shadow⟩],
  fun i _ => (R.CRU_MIRPORT i).rst⟩
def Card.CRU_COQCFG : Card := ⟨.CRU_COQCFG, 0x1010000, [⟨8, 0, 2063⟩], .warm, false, .named,
  [⟨F.CRU_COQCFG_RESV, .rw, .shadow⟩,
   ⟨F.CRU_COQCFG_ALPHA, .rw, .shadow⟩,
   ⟨F.CRU_COQCFG_ALPHA_OVR, .rw, .shadow⟩,
   ⟨F.CRU_COQCFG_MODE, .rw, .shadow⟩,
   ⟨F.CRU_COQCFG_MAXOCC, .rw, .shadow⟩],
  fun i _ => (R.CRU_COQCFG i).rst⟩
def Card.CRU_COQSTAT : Card := ⟨.CRU_COQSTAT, 0x1020000, [⟨8, 0, 2063⟩], .warm, false, .none,
  [⟨F.CRU_COQSTAT_OCC, .ro, .live⟩,
   ⟨F.CRU_COQSTAT_PEAK, .rc, .live⟩,
   ⟨F.CRU_COQSTAT_PKTS, .ro, .live⟩,
   ⟨F.CRU_COQSTAT_HELD, .ro, .live⟩],
  fun i _ => (R.CRU_COQSTAT i).rst⟩
def Card.CRU_COQDROP : Card := ⟨.CRU_COQDROP, 0x1030000, [⟨8, 0, 2063⟩], .warm, false, .none,
  [⟨F.CRU_COQDROP_DROP_PKTS, .rc, .live⟩,
   ⟨F.CRU_COQDROP_HOLD_EVENTS, .rc, .live⟩],
  fun i _ => (R.CRU_COQDROP i).rst⟩
def Card.CRU_RETLIST : Card := ⟨.CRU_RETLIST, 0x1040000, [⟨8, 0, 1023⟩], .cold, false, .none,
  [⟨F.CRU_RETLIST_CELL, .ro, .live⟩,
   ⟨F.CRU_RETLIST_VALID, .ro, .live⟩],
  fun i _ => (R.CRU_RETLIST i).rst⟩
def Card.QUE_CTL : Card := ⟨.QUE_CTL, 0x1400000, [], .warm, false, .none,
  [⟨F.QUE_CTL_ENABLE, .rw, .live⟩],
  fun _ _ => R.QUE_CTL.rst⟩
def Card.QUE_STATUS : Card := ⟨.QUE_STATUS, 0x1400008, [], .warm, false, .none,
  [⟨F.QUE_STATUS_IDLE, .ro, .live⟩,
   ⟨F.QUE_STATUS_CFG_REFUSED, .rw1c, .live⟩,
   ⟨F.QUE_STATUS_BADCMD, .rw1c, .live⟩,
   ⟨F.QUE_STATUS_CMD_BUSY, .ro, .live⟩,
   ⟨F.QUE_STATUS_TRIM_WAIT, .ro, .live⟩],
  fun _ _ => R.QUE_STATUS.rst⟩
def Card.QUE_PBUF : Card := ⟨.QUE_PBUF, 0x1400010, [], .warm, false, .none,
  [⟨F.QUE_PBUF_BASE_PAGE, .rw, .quiesce⟩,
   ⟨F.QUE_PBUF_PAGES, .rw, .quiesce⟩],
  fun _ _ => R.QUE_PBUF.rst⟩
def Card.QUE_PBUFSTAT : Card := ⟨.QUE_PBUFSTAT, 0x1400018, [], .warm, false, .none,
  [⟨F.QUE_PBUFSTAT_FREE, .ro, .live⟩,
   ⟨F.QUE_PBUFSTAT_LOW, .rc, .live⟩],
  fun _ _ => R.QUE_PBUFSTAT.rst⟩
def Card.QUE_SQSTAT : Card := ⟨.QUE_SQSTAT, 0x1400020, [], .warm, false, .none,
  [⟨F.QUE_SQSTAT_FREE, .ro, .live⟩,
   ⟨F.QUE_SQSTAT_OVERFLOWS, .rc, .live⟩],
  fun _ _ => R.QUE_SQSTAT.rst⟩
def Card.QUE_FETCH : Card := ⟨.QUE_FETCH, 0x1400028, [], .warm, false, .none,
  [⟨F.QUE_FETCH_MAXRD, .rw, .live⟩],
  fun _ _ => R.QUE_FETCH.rst⟩
def Card.QUE_REQSTAT : Card := ⟨.QUE_REQSTAT, 0x1400030, [], .warm, false, .none,
  [⟨F.QUE_REQSTAT_DISPATCHED, .rc, .live⟩,
   ⟨F.QUE_REQSTAT_LANE_WAIT, .rc, .live⟩],
  fun _ _ => R.QUE_REQSTAT.rst⟩
def Card.QUE_ERRLOG : Card := ⟨.QUE_ERRLOG, 0x1400038, [], .warm, false, .none,
  [⟨F.QUE_ERRLOG_QUEUE, .ro, .live⟩,
   ⟨F.QUE_ERRLOG_KIND, .ro, .live⟩,
   ⟨F.QUE_ERRLOG_FN, .ro, .live⟩,
   ⟨F.QUE_ERRLOG_PT, .ro, .live⟩,
   ⟨F.QUE_ERRLOG_VALID, .rw1c, .live⟩,
   ⟨F.QUE_ERRLOG_OVF, .rw1c, .live⟩,
   ⟨F.QUE_ERRLOG_BADWR, .rc, .live⟩],
  fun _ _ => R.QUE_ERRLOG.rst⟩
def Card.QUE_CTXSEL : Card := ⟨.QUE_CTXSEL, 0x1400040, [], .warm, false, .none,
  [⟨F.QUE_CTXSEL_QUEUE, .rw, .live⟩],
  fun _ _ => R.QUE_CTXSEL.rst⟩
def Card.QUE_CTXCMD : Card := ⟨.QUE_CTXCMD, 0x1400048, [], .warm, true, .none,
  [⟨F.QUE_CTXCMD_OP, .wo, .live⟩],
  fun _ _ => R.QUE_CTXCMD.rst⟩
def Card.QUE_STATECMD : Card := ⟨.QUE_STATECMD, 0x1400050, [], .warm, true, .none,
  [⟨F.QUE_STATECMD_QUEUE, .wo, .live⟩,
   ⟨F.QUE_STATECMD_OP, .wo, .live⟩,
   ⟨F.QUE_STATECMD_SET, .wo, .live⟩],
  fun _ _ => R.QUE_STATECMD.rst⟩
def Card.QUE_LOCKCMD : Card := ⟨.QUE_LOCKCMD, 0x1400058, [], .warm, true, .none,
  [⟨F.QUE_LOCKCMD_OP, .wo, .live⟩,
   ⟨F.QUE_LOCKCMD_QUEUE, .wo, .live⟩,
   ⟨F.QUE_LOCKCMD_DEADLINE, .wo, .live⟩],
  fun _ _ => R.QUE_LOCKCMD.rst⟩
def Card.QUE_LOCKSTAT : Card := ⟨.QUE_LOCKSTAT, 0x1400060, [], .warm, false, .none,
  [⟨F.QUE_LOCKSTAT_HELD, .ro, .live⟩,
   ⟨F.QUE_LOCKSTAT_EXPIRED, .ro, .live⟩,
   ⟨F.QUE_LOCKSTAT_DEADLINE, .ro, .live⟩,
   ⟨F.QUE_LOCKSTAT_HOLDER, .ro, .live⟩],
  fun _ _ => R.QUE_LOCKSTAT.rst⟩
def Card.QUE_LOCKFORCE : Card := ⟨.QUE_LOCKFORCE, 0x1400068, [], .warm, true, .none,
  [⟨F.QUE_LOCKFORCE_ORIGIN, .wo, .live⟩,
   ⟨F.QUE_LOCKFORCE_MASK, .wo, .live⟩],
  fun _ _ => R.QUE_LOCKFORCE.rst⟩
def Card.QUE_CTXDATA : Card := ⟨.QUE_CTXDATA, 0x1400080, [⟨8, 0, 7⟩], .warm, false, .none,
  [⟨F.QUE_CTXDATA_DATA, .rw, .live⟩],
  fun i _ => (R.QUE_CTXDATA i).rst⟩
def Card.QUE_CQCFG : Card := ⟨.QUE_CQCFG, 0x100000000, [⟨128, 0, 65535⟩], .function, false, .none,
  [⟨F.QUE_CQCFG_CQ_LOG2, .rw, .quiesce⟩,
   ⟨F.QUE_CQCFG_CQ_EN, .rw, .live⟩,
   ⟨F.QUE_CQCFG_CQ_BASE, .rw, .quiesce⟩],
  fun i _ => (R.QUE_CQCFG i).rst⟩
def Card.QUE_CQHEAD : Card := ⟨.QUE_CQHEAD, 0x100000008, [⟨128, 0, 65535⟩], .function, false, .none,
  [⟨F.QUE_CQHEAD_CQ_HEAD, .rw, .live⟩],
  fun i _ => (R.QUE_CQHEAD i).rst⟩
def Card.QUE_RXCFG : Card := ⟨.QUE_RXCFG, 0x100000010, [⟨128, 0, 65535⟩], .function, false, .none,
  [⟨F.QUE_RXCFG_RX_LOG2, .rw, .quiesce⟩,
   ⟨F.QUE_RXCFG_SLOT_LOG2, .rw, .quiesce⟩,
   ⟨F.QUE_RXCFG_RX_EN, .rw, .live⟩,
   ⟨F.QUE_RXCFG_RX_BASE, .rw, .quiesce⟩],
  fun i _ => (R.QUE_RXCFG i).rst⟩
def Card.QUE_RXHEAD : Card := ⟨.QUE_RXHEAD, 0x100000018, [⟨128, 0, 65535⟩], .function, false, .none,
  [⟨F.QUE_RXHEAD_RX_HEAD, .rw, .live⟩],
  fun i _ => (R.QUE_RXHEAD i).rst⟩
def Card.QUE_IRQCFG : Card := ⟨.QUE_IRQCFG, 0x100000020, [⟨128, 0, 65535⟩], .function, false, .named,
  [⟨F.QUE_IRQCFG_CQ_VEC, .rw, .shadow⟩,
   ⟨F.QUE_IRQCFG_RX_VEC, .rw, .shadow⟩,
   ⟨F.QUE_IRQCFG_MOD_CNT, .rw, .shadow⟩,
   ⟨F.QUE_IRQCFG_MOD_TIME, .rw, .shadow⟩],
  fun i _ => (R.QUE_IRQCFG i).rst⟩
def Card.QUE_QINFO : Card := ⟨.QUE_QINFO, 0x100000028, [⟨128, 0, 65535⟩], .function, false, .none,
  [⟨F.QUE_QINFO_STATE, .ro, .live⟩,
   ⟨F.QUE_QINFO_CQ_OVF, .rw1c, .live⟩,
   ⟨F.QUE_QINFO_REFUSED, .rw1c, .live⟩,
   ⟨F.QUE_QINFO_SQ_FREE, .ro, .live⟩,
   ⟨F.QUE_QINFO_RX_TAIL, .ro, .live⟩],
  fun i _ => (R.QUE_QINFO i).rst⟩
def Card.QUE_CQTAIL : Card := ⟨.QUE_CQTAIL, 0x100000030, [⟨128, 0, 65535⟩], .function, false, .none,
  [⟨F.QUE_CQTAIL_CQ_TAIL, .ro, .live⟩],
  fun i _ => (R.QUE_CQTAIL i).rst⟩
def Card.QUE_QLOCK : Card := ⟨.QUE_QLOCK, 0x100000038, [⟨128, 0, 65535⟩], .function, true, .none,
  [⟨F.QUE_QLOCK_OP, .wo, .live⟩,
   ⟨F.QUE_QLOCK_HELD, .ro, .live⟩,
   ⟨F.QUE_QLOCK_MINE, .ro, .live⟩,
   ⟨F.QUE_QLOCK_EXPIRED, .ro, .live⟩,
   ⟨F.QUE_QLOCK_DEADLINE, .wo, .live⟩],
  fun i _ => (R.QUE_QLOCK i).rst⟩
def Card.SCH_CTL : Card := ⟨.SCH_CTL, 0x1800000, [], .warm, false, .none,
  [⟨F.SCH_CTL_ENABLE, .rw, .live⟩],
  fun _ _ => R.SCH_CTL.rst⟩
def Card.SCH_STATUS : Card := ⟨.SCH_STATUS, 0x1800008, [], .warm, false, .none,
  [⟨F.SCH_STATUS_IDLE, .ro, .live⟩,
   ⟨F.SCH_STATUS_CFG_REFUSED, .rw1c, .live⟩,
   ⟨F.SCH_STATUS_COMMIT_PEND, .ro, .live⟩,
   ⟨F.SCH_STATUS_TRIM_WAIT, .ro, .live⟩],
  fun _ _ => R.SCH_STATUS.rst⟩
def Card.SCH_ERRLOG : Card := ⟨.SCH_ERRLOG, 0x1800010, [], .warm, false, .none,
  [⟨F.SCH_ERRLOG_QUEUE, .ro, .live⟩,
   ⟨F.SCH_ERRLOG_PNODE, .ro, .live⟩,
   ⟨F.SCH_ERRLOG_VALID, .rw1c, .live⟩,
   ⟨F.SCH_ERRLOG_OVF, .rw1c, .live⟩,
   ⟨F.SCH_ERRLOG_COUNT, .rc, .live⟩],
  fun _ _ => R.SCH_ERRLOG.rst⟩
def Card.SCH_DECSTAT : Card := ⟨.SCH_DECSTAT, 0x1800018, [], .warm, false, .none,
  [⟨F.SCH_DECSTAT_DECISIONS, .rc, .live⟩,
   ⟨F.SCH_DECSTAT_DEQDROPS, .rc, .live⟩],
  fun _ _ => R.SCH_DECSTAT.rst⟩
def Card.SCH_NODECFG : Card := ⟨.SCH_NODECFG, 0x1810000, [⟨8, 0, 18943⟩], .warm, false, .scheduling,
  [⟨F.SCH_NODECFG_PARENT, .rw, .shadow⟩,
   ⟨F.SCH_NODECFG_EN, .rw, .shadow⟩,
   ⟨F.SCH_NODECFG_PRIO, .rw, .shadow⟩,
   ⟨F.SCH_NODECFG_SHAPE_EN, .rw, .shadow⟩,
   ⟨F.SCH_NODECFG_WEIGHT, .rw, .shadow⟩,
   ⟨F.SCH_NODECFG_LEN_ADJ, .rw, .shadow⟩,
   ⟨F.SCH_NODECFG_CREDIT_INIT, .rw, .shadow⟩],
  fun i _ => (R.SCH_NODECFG i).rst⟩
def Card.SCH_SHAPE : Card := ⟨.SCH_SHAPE, 0x1840000, [⟨8, 0, 18943⟩], .warm, false, .named,
  [⟨F.SCH_SHAPE_RATE, .rw, .shadow⟩,
   ⟨F.SCH_SHAPE_BURST, .rw, .shadow⟩],
  fun i _ => (R.SCH_SHAPE i).rst⟩
def Card.SCH_BUCKET : Card := ⟨.SCH_BUCKET, 0x1870000, [⟨8, 0, 18943⟩], .warm, false, .none,
  [⟨F.SCH_BUCKET_B, .ro, .live⟩],
  fun i _ => (R.SCH_BUCKET i).rst⟩
def Card.SCH_PORTCR : Card := ⟨.SCH_PORTCR, 0x18A0000, [⟨8, 0, 511⟩], .warm, false, .none,
  [⟨F.SCH_PORTCR_CR, .ro, .live⟩],
  fun i _ => (R.SCH_PORTCR i).rst⟩
def Card.SCH_QATT : Card := ⟨.SCH_QATT, 0x1900000, [⟨8, 0, 65535⟩], .warm, false, .scheduling,
  [⟨F.SCH_QATT_PRIO, .rw, .shadow⟩,
   ⟨F.SCH_QATT_WEIGHT, .rw, .shadow⟩],
  fun i _ => (R.SCH_QATT i).rst⟩
def Card.POL_CTL : Card := ⟨.POL_CTL, 0x1C00000, [], .warm, false, .none,
  [⟨F.POL_CTL_ENABLE, .rw, .live⟩],
  fun _ _ => R.POL_CTL.rst⟩
def Card.POL_STATUS : Card := ⟨.POL_STATUS, 0x1C00008, [], .warm, false, .none,
  [⟨F.POL_STATUS_IDLE, .ro, .live⟩,
   ⟨F.POL_STATUS_CFG_REFUSED, .rw1c, .live⟩,
   ⟨F.POL_STATUS_CMD_BUSY, .ro, .live⟩,
   ⟨F.POL_STATUS_TRIM_WAIT, .ro, .live⟩,
   ⟨F.POL_STATUS_BADREC, .rc, .live⟩],
  fun _ _ => R.POL_STATUS.rst⟩
def Card.POL_FLOWBASE : Card := ⟨.POL_FLOWBASE, 0x1C00010, [], .warm, false, .none,
  [⟨F.POL_FLOWBASE_BASE_PAGE, .rw, .quiesce⟩,
   ⟨F.POL_FLOWBASE_FLOWS_LOG2, .rw, .quiesce⟩],
  fun _ _ => R.POL_FLOWBASE.rst⟩
def Card.POL_CACHESTAT : Card := ⟨.POL_CACHESTAT, 0x1C00018, [], .warm, false, .none,
  [⟨F.POL_CACHESTAT_HITS, .rc, .live⟩,
   ⟨F.POL_CACHESTAT_MISSES, .rc, .live⟩],
  fun _ _ => R.POL_CACHESTAT.rst⟩
def Card.POL_FLOWSEL : Card := ⟨.POL_FLOWSEL, 0x1C00020, [], .warm, false, .none,
  [⟨F.POL_FLOWSEL_RECORD, .rw, .live⟩],
  fun _ _ => R.POL_FLOWSEL.rst⟩
def Card.POL_FLOWCMD : Card := ⟨.POL_FLOWCMD, 0x1C00028, [], .warm, true, .none,
  [⟨F.POL_FLOWCMD_OP, .wo, .live⟩],
  fun _ _ => R.POL_FLOWCMD.rst⟩
def Card.POL_FLOWDATA : Card := ⟨.POL_FLOWDATA, 0x1C00040, [⟨8, 0, 7⟩], .warm, false, .none,
  [⟨F.POL_FLOWDATA_DATA, .rw, .live⟩],
  fun i _ => (R.POL_FLOWDATA i).rst⟩
def Card.POL_PROFA : Card := ⟨.POL_PROFA, 0x1C10000, [⟨16, 0, 4095⟩], .warm, false, .action,
  [⟨F.POL_PROFA_CIR, .rw, .shadow⟩,
   ⟨F.POL_PROFA_PIR, .rw, .shadow⟩,
   ⟨F.POL_PROFA_LEN_ADJ, .rw, .shadow⟩,
   ⟨F.POL_PROFA_AWARE, .rw, .shadow⟩],
  fun i _ => (R.POL_PROFA i).rst⟩
def Card.POL_PROFB : Card := ⟨.POL_PROFB, 0x1C10008, [⟨16, 0, 4095⟩], .warm, false, .action,
  [⟨F.POL_PROFB_CBS, .rw, .shadow⟩,
   ⟨F.POL_PROFB_PBS, .rw, .shadow⟩],
  fun i _ => (R.POL_PROFB i).rst⟩
def Card.GST_CTL : Card := ⟨.GST_CTL, 0x2000000, [], .cold, false, .none,
  [⟨F.GST_CTL_ENABLE, .rw, .live⟩,
   ⟨F.GST_CTL_SCRUB_EN, .rw, .live⟩,
   ⟨F.GST_CTL_SR_REQ, .rw, .live⟩],
  fun _ _ => R.GST_CTL.rst⟩
def Card.GST_STATUS : Card := ⟨.GST_STATUS, 0x2000008, [], .cold, false, .none,
  [⟨F.GST_STATUS_IDLE, .ro, .live⟩,
   ⟨F.GST_STATUS_CFG_REFUSED, .rw1c, .live⟩,
   ⟨F.GST_STATUS_INIT_DONE, .ro, .live⟩,
   ⟨F.GST_STATUS_SELFREF, .ro, .live⟩,
   ⟨F.GST_STATUS_TRIM_WAIT, .ro, .live⟩,
   ⟨F.GST_STATUS_KEEP_BUSY, .ro, .live⟩,
   ⟨F.GST_STATUS_REMAP_BUSY, .ro, .live⟩],
  fun _ _ => R.GST_STATUS.rst⟩
def Card.GST_ARB : Card := ⟨.GST_ARB, 0x2000010, [], .cold, false, .none,
  [⟨F.GST_ARB_WF, .rw, .live⟩,
   ⟨F.GST_ARB_WQ, .rw, .live⟩,
   ⟨F.GST_ARB_WP, .rw, .live⟩,
   ⟨F.GST_ARB_WC, .rw, .live⟩],
  fun _ _ => R.GST_ARB.rst⟩
def Card.GST_ECCSTAT : Card := ⟨.GST_ECCSTAT, 0x2000018, [], .cold, false, .none,
  [⟨F.GST_ECCSTAT_CE1, .rc, .live⟩,
   ⟨F.GST_ECCSTAT_CE2, .rc, .live⟩,
   ⟨F.GST_ECCSTAT_UE, .rc, .live⟩],
  fun _ _ => R.GST_ECCSTAT.rst⟩
def Card.GST_ECCLOG : Card := ⟨.GST_ECCLOG, 0x2000020, [], .cold, false, .none,
  [⟨F.GST_ECCLOG_ADDR, .ro, .live⟩,
   ⟨F.GST_ECCLOG_WEIGHT, .ro, .live⟩,
   ⟨F.GST_ECCLOG_POISON, .ro, .live⟩,
   ⟨F.GST_ECCLOG_SCRUB, .ro, .live⟩,
   ⟨F.GST_ECCLOG_VALID, .rw1c, .live⟩,
   ⟨F.GST_ECCLOG_OVF, .rw1c, .live⟩],
  fun _ _ => R.GST_ECCLOG.rst⟩
def Card.GST_ECCORG : Card := ⟨.GST_ECCORG, 0x2000028, [], .cold, false, .none,
  [⟨F.GST_ECCORG_ORIGIN, .ro, .live⟩],
  fun _ _ => R.GST_ECCORG.rst⟩
def Card.GST_SCRUB : Card := ⟨.GST_SCRUB, 0x2000030, [], .cold, false, .none,
  [⟨F.GST_SCRUB_STEP, .rw, .live⟩],
  fun _ _ => R.GST_SCRUB.rst⟩
def Card.GST_SCRUBSTAT : Card := ⟨.GST_SCRUBSTAT, 0x2000038, [], .cold, false, .none,
  [⟨F.GST_SCRUBSTAT_PASSES, .ro, .live⟩,
   ⟨F.GST_SCRUBSTAT_FOUND, .rc, .live⟩],
  fun _ _ => R.GST_SCRUBSTAT.rst⟩
def Card.GST_RETCFG : Card := ⟨.GST_RETCFG, 0x2000040, [], .cold, false, .none,
  [⟨F.GST_RETCFG_CE_LIMIT, .rw, .live⟩,
   ⟨F.GST_RETCFG_WINDOW, .rw, .live⟩,
   ⟨F.GST_RETCFG_RET_CE2, .rw, .live⟩,
   ⟨F.GST_RETCFG_RET_UE, .rw, .live⟩],
  fun _ _ => R.GST_RETCFG.rst⟩
def Card.GST_RETADD : Card := ⟨.GST_RETADD, 0x2000048, [], .cold, false, .none,
  [⟨F.GST_RETADD_BLOCK, .wo, .live⟩,
   ⟨F.GST_RETADD_GO, .wo, .live⟩],
  fun _ _ => R.GST_RETADD.rst⟩
def Card.GST_RETSTAT : Card := ⟨.GST_RETSTAT, 0x2000050, [], .cold, false, .none,
  [⟨F.GST_RETSTAT_RETIRED, .ro, .live⟩,
   ⟨F.GST_RETSTAT_SPAREOUT, .rc, .live⟩],
  fun _ _ => R.GST_RETSTAT.rst⟩
def Card.GST_KEEP : Card := ⟨.GST_KEEP, 0x2000058, [], .cold, false, .none,
  [⟨F.GST_KEEP_BASE_PAGE, .rw, .quiesce⟩,
   ⟨F.GST_KEEP_PAGES, .rw, .quiesce⟩],
  fun _ _ => R.GST_KEEP.rst⟩
def Card.GST_KEEPSTAT : Card := ⟨.GST_KEEPSTAT, 0x2000060, [], .cold, false, .none,
  [⟨F.GST_KEEPSTAT_IMG_VALID, .ro, .live⟩,
   ⟨F.GST_KEEPSTAT_IMG_PAGES, .ro, .live⟩,
   ⟨F.GST_KEEPSTAT_IMG_SEQ, .ro, .live⟩],
  fun _ _ => R.GST_KEEPSTAT.rst⟩
def Card.GST_LOCKCMD : Card := ⟨.GST_LOCKCMD, 0x2000080, [], .warm, true, .none,
  [⟨F.GST_LOCKCMD_OP, .wo, .live⟩,
   ⟨F.GST_LOCKCMD_SIZE_LOG2, .wo, .live⟩,
   ⟨F.GST_LOCKCMD_BASE, .wo, .live⟩,
   ⟨F.GST_LOCKCMD_DEADLINE, .wo, .live⟩,
   ⟨F.GST_LOCKCMD_LOCK, .wo, .live⟩],
  fun _ _ => R.GST_LOCKCMD.rst⟩
def Card.GST_LOCKSTAT : Card := ⟨.GST_LOCKSTAT, 0x2000088, [], .warm, false, .none,
  [⟨F.GST_LOCKSTAT_BADCMD, .rc, .live⟩,
   ⟨F.GST_LOCKSTAT_DROPS, .rc, .live⟩],
  fun _ _ => R.GST_LOCKSTAT.rst⟩
def Card.GST_FORCE : Card := ⟨.GST_FORCE, 0x2000090, [], .warm, true, .none,
  [⟨F.GST_FORCE_ORIGIN, .wo, .live⟩,
   ⟨F.GST_FORCE_MASK, .wo, .live⟩],
  fun _ _ => R.GST_FORCE.rst⟩
def Card.GST_SEQCFG : Card := ⟨.GST_SEQCFG, 0x2000098, [], .warm, false, .none,
  [⟨F.GST_SEQCFG_SEQ_TO, .rw, .live⟩],
  fun _ _ => R.GST_SEQCFG.rst⟩
def Card.GST_LOCKA : Card := ⟨.GST_LOCKA, 0x2001000, [⟨16, 0, 255⟩], .warm, false, .none,
  [⟨F.GST_LOCKA_SIZE_LOG2, .ro, .live⟩,
   ⟨F.GST_LOCKA_VALID, .ro, .live⟩,
   ⟨F.GST_LOCKA_EXPIRED, .ro, .live⟩,
   ⟨F.GST_LOCKA_BASE, .ro, .live⟩,
   ⟨F.GST_LOCKA_DEADLINE, .ro, .live⟩],
  fun i _ => (R.GST_LOCKA i).rst⟩
def Card.GST_LOCKB : Card := ⟨.GST_LOCKB, 0x2001008, [⟨16, 0, 255⟩], .warm, false, .none,
  [⟨F.GST_LOCKB_HOLDER, .ro, .live⟩],
  fun i _ => (R.GST_LOCKB i).rst⟩
def Card.GST_REMAP : Card := ⟨.GST_REMAP, 0x2010000, [⟨8, 0, 12287⟩], .cold, false, .none,
  [⟨F.GST_REMAP_BLOCK, .ro, .live⟩,
   ⟨F.GST_REMAP_VALID, .ro, .live⟩],
  fun i _ => (R.GST_REMAP i).rst⟩
def Card.GST_FNPOOL : Card := ⟨.GST_FNPOOL, 0x2040000, [⟨8, 0, 4096⟩], .cold, false, .none,
  [⟨F.GST_FNPOOL_MAP_BASE, .rw, .live⟩,
   ⟨F.GST_FNPOOL_PAGES, .rw, .live⟩],
  fun i _ => (R.GST_FNPOOL i).rst⟩
def Card.GST_POOLMAP : Card := ⟨.GST_POOLMAP, 0x2080000, [⟨8, 0, 65535⟩], .cold, false, .none,
  [⟨F.GST_POOLMAP_PAGE, .rw, .live⟩,
   ⟨F.GST_POOLMAP_VALID, .rw, .live⟩],
  fun i _ => (R.GST_POOLMAP i).rst⟩
def Card.GAT_CTL : Card := ⟨.GAT_CTL, 0x2400000, [], .warm, false, .none,
  [⟨F.GAT_CTL_VIOL_HOLD, .rw, .live⟩],
  fun _ _ => R.GAT_CTL.rst⟩
def Card.GAT_STATUS : Card := ⟨.GAT_STATUS, 0x2400008, [], .warm, false, .none,
  [⟨F.GAT_STATUS_CFG_REFUSED, .rw1c, .live⟩,
   ⟨F.GAT_STATUS_CFG_PAIRERR, .rw1c, .live⟩],
  fun _ _ => R.GAT_STATUS.rst⟩
def Card.GAT_XCFG : Card := ⟨.GAT_XCFG, 0x2400100, [⟨8, 0, 7⟩], .cold, false, .gating,
  [⟨F.GAT_XCFG_HOST, .rw, .shadow⟩,
   ⟨F.GAT_XCFG_EN, .rw, .shadow⟩],
  fun i _ => (R.GAT_XCFG i).rst⟩
def Card.GAT_GSTAT : Card := ⟨.GAT_GSTAT, 0x2400200, [⟨8, 0, 31⟩], .cold, false, .none,
  [⟨F.GAT_GSTAT_BOOT, .ro, .live⟩,
   ⟨F.GAT_GSTAT_COMMIT_PEND, .ro, .live⟩,
   ⟨F.GAT_GSTAT_COMMIT_BAD, .rw1c, .live⟩,
   ⟨F.GAT_GSTAT_BAD_WHY, .ro, .live⟩,
   ⟨F.GAT_GSTAT_BAD_RGN_A, .ro, .live⟩,
   ⟨F.GAT_GSTAT_BAD_GATE_A, .ro, .live⟩,
   ⟨F.GAT_GSTAT_BAD_RGN_B, .ro, .live⟩,
   ⟨F.GAT_GSTAT_BAD_GATE_B, .ro, .live⟩,
   ⟨F.GAT_GSTAT_VIOLATIONS, .rc, .live⟩],
  fun i _ => (R.GAT_GSTAT i).rst⟩
def Card.GAT_EPOCH : Card := ⟨.GAT_EPOCH, 0x2400300, [⟨8, 0, 31⟩], .cold, false, .none,
  [⟨F.GAT_EPOCH_EPOCH, .ro, .live⟩,
   ⟨F.GAT_EPOCH_DRAINED, .ro, .live⟩,
   ⟨F.GAT_EPOCH_OLD_INFLIGHT, .ro, .live⟩],
  fun i _ => (R.GAT_EPOCH i).rst⟩
def Card.GAT_VLOGA : Card := ⟨.GAT_VLOGA, 0x2400400, [⟨16, 0, 31⟩], .warm, false, .none,
  [⟨F.GAT_VLOGA_ADDR, .ro, .live⟩,
   ⟨F.GAT_VLOGA_KIND, .ro, .live⟩,
   ⟨F.GAT_VLOGA_NORGN, .ro, .live⟩,
   ⟨F.GAT_VLOGA_RGN, .ro, .live⟩,
   ⟨F.GAT_VLOGA_RGN_GATE, .ro, .live⟩,
   ⟨F.GAT_VLOGA_VALID, .rw1c, .live⟩,
   ⟨F.GAT_VLOGA_OVF, .rw1c, .live⟩],
  fun i _ => (R.GAT_VLOGA i).rst⟩
def Card.GAT_VLOGB : Card := ⟨.GAT_VLOGB, 0x2400408, [⟨16, 0, 31⟩], .warm, false, .none,
  [⟨F.GAT_VLOGB_ORIGIN, .ro, .live⟩,
   ⟨F.GAT_VLOGB_LEN, .ro, .live⟩,
   ⟨F.GAT_VLOGB_EPOCH, .ro, .live⟩],
  fun i _ => (R.GAT_VLOGB i).rst⟩
def Card.GAT_MSET : Card := ⟨.GAT_MSET, 0x2410000, [⟨128, 0, 31⟩, ⟨8, 0, 15⟩], .cold, false, .gating,
  [⟨F.GAT_MSET_MATCH, .rw, .shadow⟩,
   ⟨F.GAT_MSET_MASK, .rw, .shadow⟩],
  fun i j => (R.GAT_MSET i j).rst⟩
def Card.GAT_RGNA : Card := ⟨.GAT_RGNA, 0x2420000, [⟨1024, 0, 31⟩, ⟨16, 0, 63⟩], .cold, false, .gating,
  [⟨F.GAT_RGNA_VALID, .rw, .shadow⟩,
   ⟨F.GAT_RGNA_SIZE_LOG2, .rw, .shadow⟩,
   ⟨F.GAT_RGNA_BASE, .rw, .shadow⟩],
  fun i j => (R.GAT_RGNA i j).rst⟩
def Card.GAT_RGNB : Card := ⟨.GAT_RGNB, 0x2420008, [⟨1024, 0, 31⟩, ⟨16, 0, 63⟩], .cold, false, .gating,
  [⟨F.GAT_RGNB_PERM, .rw, .shadow⟩],
  fun i j => (R.GAT_RGNB i j).rst⟩
def Card.GAF_CTL : Card := ⟨.GAF_CTL, 0x3000000, [], .warm, false, .none,
  [⟨F.GAF_CTL_AUTO_TK, .rw, .live⟩,
   ⟨F.GAF_CTL_STALL_TO, .rw, .live⟩,
   ⟨F.GAF_CTL_SWAP_TO, .rw, .live⟩],
  fun _ _ => R.GAF_CTL.rst⟩
def Card.GAF_STATUS : Card := ⟨.GAF_STATUS, 0x3000008, [], .cold, false, .none,
  [⟨F.GAF_STATUS_ACTIVE_BANK, .ro, .live⟩,
   ⟨F.GAF_STATUS_SWAP_BUSY, .ro, .live⟩,
   ⟨F.GAF_STATUS_CFG_REFUSED, .rw1c, .live⟩,
   ⟨F.GAF_STATUS_ALL_REFUSED, .rw1c, .live⟩,
   ⟨F.GAF_STATUS_SPARES, .ro, .live⟩,
   ⟨F.GAF_STATUS_FAILED_MASK, .ro, .live⟩],
  fun _ _ => R.GAF_STATUS.rst⟩
def Card.GAF_COMMIT : Card := ⟨.GAF_COMMIT, 0x3000010, [], .warm, true, .none,
  [⟨F.GAF_COMMIT_FWD, .wo, .live⟩,
   ⟨F.GAF_COMMIT_ACT, .wo, .live⟩,
   ⟨F.GAF_COMMIT_SCH, .wo, .live⟩,
   ⟨F.GAF_COMMIT_ALL, .wo, .live⟩,
   ⟨F.GAF_COMMIT_GATES, .wo, .live⟩],
  fun _ _ => R.GAF_COMMIT.rst⟩
def Card.GAF_EPSTAT : Card := ⟨.GAF_EPSTAT, 0x3000020, [⟨8, 0, 2⟩], .warm, false, .none,
  [⟨F.GAF_EPSTAT_EPOCH, .ro, .live⟩,
   ⟨F.GAF_EPSTAT_DRAINED, .ro, .live⟩,
   ⟨F.GAF_EPSTAT_COMMIT_PEND, .ro, .live⟩,
   ⟨F.GAF_EPSTAT_COMMIT_BAD, .rw1c, .live⟩,
   ⟨F.GAF_EPSTAT_CFG_PAIRERR, .rw1c, .live⟩,
   ⟨F.GAF_EPSTAT_BAD_WHY, .ro, .live⟩,
   ⟨F.GAF_EPSTAT_BAD_ITEM, .ro, .live⟩,
   ⟨F.GAF_EPSTAT_OLD_INFLIGHT, .ro, .live⟩],
  fun i _ => (R.GAF_EPSTAT i).rst⟩
def Card.GAF_DEBUG : Card := ⟨.GAF_DEBUG, 0x3000040, [], .warm, false, .none,
  [⟨F.GAF_DEBUG_DIRECT, .rw, .live⟩,
   ⟨F.GAF_DEBUG_GDIR, .rw, .live⟩,
   ⟨F.GAF_DEBUG_KEY, .wo, .live⟩],
  fun _ _ => R.GAF_DEBUG.rst⟩
def Card.GAF_CORECMD : Card := ⟨.GAF_CORECMD, 0x3000048, [], .warm, true, .none,
  [⟨F.GAF_CORECMD_OP, .wo, .live⟩,
   ⟨F.GAF_CORECMD_BANK, .wo, .live⟩,
   ⟨F.GAF_CORECMD_CORE, .wo, .live⟩],
  fun _ _ => R.GAF_CORECMD.rst⟩
def Card.GAF_CORE : Card := ⟨.GAF_CORE, 0x3000100, [⟨8, 0, 31⟩], .cold, false, .none,
  [⟨F.GAF_CORE_PHYS, .ro, .live⟩,
   ⟨F.GAF_CORE_RUN, .ro, .live⟩,
   ⟨F.GAF_CORE_BANK, .ro, .live⟩,
   ⟨F.GAF_CORE_SWAP_PEND, .ro, .live⟩],
  fun i _ => (R.GAF_CORE i).rst⟩
def Card.GAF_EVROUTE : Card := ⟨.GAF_EVROUTE, 0x3000200, [⟨8, 0, 10⟩], .warm, false, .none,
  [⟨F.GAF_EVROUTE_MASK, .rw, .live⟩],
  fun i _ => (R.GAF_EVROUTE i).rst⟩
def Card.JCK_STATUS : Card := ⟨.JCK_STATUS, 0x3080000, [], .warm, false, .none,
  [⟨F.JCK_STATUS_CFG_REFUSED, .rw1c, .live⟩,
   ⟨F.JCK_STATUS_TRIM_WAIT, .ro, .live⟩,
   ⟨F.JCK_STATUS_LANES_BUSY, .ro, .live⟩],
  fun _ _ => R.JCK_STATUS.rst⟩
def Card.JCK_TBLSEL : Card := ⟨.JCK_TBLSEL, 0x3080010, [], .warm, false, .none,
  [⟨F.JCK_TBLSEL_TABLE, .rw, .live⟩,
   ⟨F.JCK_TBLSEL_INDEX, .rw, .live⟩,
   ⟨F.JCK_TBLSEL_RESULT, .ro, .live⟩,
   ⟨F.JCK_TBLSEL_BUSY, .ro, .live⟩],
  fun _ _ => R.JCK_TBLSEL.rst⟩
def Card.JCK_TBLCMD : Card := ⟨.JCK_TBLCMD, 0x3080018, [], .warm, true, .none,
  [⟨F.JCK_TBLCMD_OP, .wo, .live⟩],
  fun _ _ => R.JCK_TBLCMD.rst⟩
def Card.JCK_TBLDATA : Card := ⟨.JCK_TBLDATA, 0x3080020, [⟨8, 0, 3⟩], .warm, false, .none,
  [⟨F.JCK_TBLDATA_DATA, .rw, .live⟩],
  fun i _ => (R.JCK_TBLDATA i).rst⟩
def Card.JCK_SLOT : Card := ⟨.JCK_SLOT, 0x3081000, [⟨8, 0, 4095⟩], .warm, false, .action,
  [⟨F.JCK_SLOT_LEN, .rw, .shadow⟩,
   ⟨F.JCK_SLOT_VALID, .rw, .shadow⟩],
  fun i _ => (R.JCK_SLOT i).rst⟩
def Card.JCK_TBLA : Card := ⟨.JCK_TBLA, 0x3089000, [⟨16, 0, 255⟩], .warm, false, .action,
  [⟨F.JCK_TBLA_TYPE, .rw, .shadow⟩,
   ⟨F.JCK_TBLA_KEYW, .rw, .shadow⟩,
   ⟨F.JCK_TBLA_PLACE, .rw, .shadow⟩,
   ⟨F.JCK_TBLA_CAP_LOG2, .rw, .shadow⟩,
   ⟨F.JCK_TBLA_BASE, .rw, .shadow⟩],
  fun i _ => (R.JCK_TBLA i).rst⟩
def Card.JCK_TBLB : Card := ⟨.JCK_TBLB, 0x3089008, [⟨16, 0, 255⟩], .warm, false, .action,
  [⟨F.JCK_TBLB_DEFAULT, .rw, .shadow⟩],
  fun i _ => (R.JCK_TBLB i).rst⟩
def Card.PRT_CTL : Card := ⟨.PRT_CTL, 0x800000, [⟨4096, 0, 255⟩], .warm, false, .none,
  [⟨F.PRT_CTL_ENABLE, .rw, .live⟩,
   ⟨F.PRT_CTL_HOST_LIFT, .rw, .live⟩,
   ⟨F.PRT_CTL_RETRAIN, .rw1s, .live⟩],
  fun i _ => (R.PRT_CTL i).rst⟩
def Card.PRT_STATUS : Card := ⟨.PRT_STATUS, 0x800008, [⟨4096, 0, 255⟩], .warm, false, .none,
  [⟨F.PRT_STATUS_IDLE, .ro, .live⟩,
   ⟨F.PRT_STATUS_CFG_REFUSED, .rw1c, .live⟩,
   ⟨F.PRT_STATUS_LINK_UP, .ro, .live⟩,
   ⟨F.PRT_STATUS_HELD, .ro, .live⟩,
   ⟨F.PRT_STATUS_HOLD_SRC, .ro, .live⟩,
   ⟨F.PRT_STATUS_TRIM_WAIT, .ro, .live⟩],
  fun i _ => (R.PRT_STATUS i).rst⟩
def Card.PRT_ROLE : Card := ⟨.PRT_ROLE, 0x800010, [⟨4096, 0, 255⟩], .warm, false, .forwarding,
  [⟨F.PRT_ROLE_ROLE, .rw, .shadow⟩,
   ⟨F.PRT_ROLE_PT, .rw, .shadow⟩],
  fun i _ => (R.PRT_ROLE i).rst⟩
def Card.PRT_LINKCFG : Card := ⟨.PRT_LINKCFG, 0x800018, [⟨4096, 0, 255⟩], .warm, false, .none,
  [⟨F.PRT_LINKCFG_MAX_RATE, .rw, .quiesce⟩,
   ⟨F.PRT_LINKCFG_FLIT_REQ, .rw, .quiesce⟩,
   ⟨F.PRT_LINKCFG_L0P_EN, .rw, .quiesce⟩,
   ⟨F.PRT_LINKCFG_L0S_EN, .rw, .quiesce⟩],
  fun i _ => (R.PRT_LINKCFG i).rst⟩
def Card.PRT_LINKSTAT : Card := ⟨.PRT_LINKSTAT, 0x800020, [⟨4096, 0, 255⟩], .warm, false, .none,
  [⟨F.PRT_LINKSTAT_RATE, .ro, .live⟩,
   ⟨F.PRT_LINKSTAT_WIDTH, .ro, .live⟩,
   ⟨F.PRT_LINKSTAT_L0P_WIDTH, .ro, .live⟩,
   ⟨F.PRT_LINKSTAT_FLIT, .ro, .live⟩,
   ⟨F.PRT_LINKSTAT_STATE, .ro, .live⟩,
   ⟨F.PRT_LINKSTAT_DOWNS, .rc, .live⟩],
  fun i _ => (R.PRT_LINKSTAT i).rst⟩
def Card.PRT_ARB : Card := ⟨.PRT_ARB, 0x800028, [⟨4096, 0, 255⟩], .warm, false, .named,
  [⟨F.PRT_ARB_WEIGHT_C0, .rw, .shadow⟩,
   ⟨F.PRT_ARB_WEIGHT_C1, .rw, .shadow⟩,
   ⟨F.PRT_ARB_WEIGHT_C2, .rw, .shadow⟩,
   ⟨F.PRT_ARB_WEIGHT_C3, .rw, .shadow⟩,
   ⟨F.PRT_ARB_WEIGHT_C4, .rw, .shadow⟩,
   ⟨F.PRT_ARB_WEIGHT_C5, .rw, .shadow⟩,
   ⟨F.PRT_ARB_WEIGHT_C6, .rw, .shadow⟩,
   ⟨F.PRT_ARB_WEIGHT_C7, .rw, .shadow⟩,
   ⟨F.PRT_ARB_STRICT, .rw, .shadow⟩],
  fun i _ => (R.PRT_ARB i).rst⟩
def Card.PRT_SLOT : Card := ⟨.PRT_SLOT, 0x800030, [⟨4096, 0, 255⟩], .warm, false, .none,
  [⟨F.PRT_SLOT_SLOT_EN, .rw, .quiesce⟩,
   ⟨F.PRT_SLOT_CHAN, .rw, .quiesce⟩,
   ⟨F.PRT_SLOT_HOSTPWR, .rw, .quiesce⟩],
  fun i _ => (R.PRT_SLOT i).rst⟩
def Card.PRT_OCTCFG : Card := ⟨.PRT_OCTCFG, 0x900000, [⟨8, 0, 63⟩], .warm, false, .none,
  [⟨F.PRT_OCTCFG_MODE, .rw, .quiesce⟩,
   ⟨F.PRT_OCTCFG_SPLIT, .rw, .quiesce⟩],
  fun i _ => (R.PRT_OCTCFG i).rst⟩
def Card.PTN_MGMT : Card := ⟨.PTN_MGMT, 0xC00000, [], .cold, false, .none,
  [⟨F.PTN_MGMT_MGMT_PT, .ro, .live⟩,
   ⟨F.PTN_MGMT_MGMT_PORT, .ro, .live⟩],
  fun _ _ => R.PTN_MGMT.rst⟩
def Card.PTN_STATUS : Card := ⟨.PTN_STATUS, 0xC00008, [], .warm, false, .none,
  [⟨F.PTN_STATUS_CFG_REFUSED, .rw1c, .live⟩,
   ⟨F.PTN_STATUS_BADCMD, .rw1c, .live⟩,
   ⟨F.PTN_STATUS_TRIM_WAIT, .ro, .live⟩],
  fun _ _ => R.PTN_STATUS.rst⟩
def Card.PTN_RSTCMD : Card := ⟨.PTN_RSTCMD, 0xC00010, [], .warm, true, .none,
  [⟨F.PTN_RSTCMD_PT, .wo, .live⟩,
   ⟨F.PTN_RSTCMD_OP, .wo, .live⟩],
  fun _ _ => R.PTN_RSTCMD.rst⟩
def Card.PTN_CFG : Card := ⟨.PTN_CFG, 0xC01000, [⟨8, 0, 63⟩], .warm, false, .forwarding,
  [⟨F.PTN_CFG_EN, .rw, .shadow⟩,
   ⟨F.PTN_CFG_P2P_OUT, .rw, .shadow⟩,
   ⟨F.PTN_CFG_P2P_IN, .rw, .shadow⟩,
   ⟨F.PTN_CFG_ACS_FORCE, .rw, .shadow⟩,
   ⟨F.PTN_CFG_PERST_SEL, .rw, .live⟩],
  fun i _ => (R.PTN_CFG i).rst⟩
def Card.PTN_STATE : Card := ⟨.PTN_STATE, 0xC01400, [⟨8, 0, 63⟩], .warm, false, .none,
  [⟨F.PTN_STATE_IN_RESET, .ro, .live⟩,
   ⟨F.PTN_STATE_RST_SRC, .ro, .live⟩,
   ⟨F.PTN_STATE_HELD, .ro, .live⟩,
   ⟨F.PTN_STATE_UPLINK, .ro, .live⟩,
   ⟨F.PTN_STATE_DSPORTS, .ro, .live⟩,
   ⟨F.PTN_STATE_PEER_TAGS, .ro, .live⟩],
  fun i _ => (R.PTN_STATE i).rst⟩
def Card.PTN_PEERA : Card := ⟨.PTN_PEERA, 0xC10000, [⟨256, 0, 63⟩, ⟨16, 0, 15⟩], .warm, false, .forwarding,
  [⟨F.PTN_PEERA_VALID, .rw, .shadow⟩,
   ⟨F.PTN_PEERA_SIZE_LOG2, .rw, .shadow⟩,
   ⟨F.PTN_PEERA_BASE, .rw, .shadow⟩],
  fun i j => (R.PTN_PEERA i j).rst⟩
def Card.PTN_PEERB : Card := ⟨.PTN_PEERB, 0xC10008, [⟨256, 0, 63⟩, ⟨16, 0, 15⟩], .warm, false, .forwarding,
  [⟨F.PTN_PEERB_DEST_PT, .rw, .shadow⟩,
   ⟨F.PTN_PEERB_DBASE, .rw, .shadow⟩],
  fun i j => (R.PTN_PEERB i j).rst⟩
def Card.QEP_CTL : Card := ⟨.QEP_CTL, 0xD00000, [], .warm, false, .named,
  [⟨F.QEP_CTL_PF2_LOG2, .rw, .shadow⟩],
  fun _ _ => R.QEP_CTL.rst⟩
def Card.QEP_STATUS : Card := ⟨.QEP_STATUS, 0xD00008, [], .warm, false, .none,
  [⟨F.QEP_STATUS_CFG_REFUSED, .rw1c, .live⟩,
   ⟨F.QEP_STATUS_BADCMD, .rw1c, .live⟩,
   ⟨F.QEP_STATUS_CMD_BUSY, .ro, .live⟩,
   ⟨F.QEP_STATUS_ARI_ERR, .rw1c, .live⟩,
   ⟨F.QEP_STATUS_TRIM_WAIT, .ro, .live⟩],
  fun _ _ => R.QEP_STATUS.rst⟩
def Card.QEP_ID : Card := ⟨.QEP_ID, 0xD00010, [], .cold, false, .none,
  [⟨F.QEP_ID_REV, .ro, .live⟩,
   ⟨F.QEP_ID_SUBSYS, .ro, .live⟩,
   ⟨F.QEP_ID_ROM_PRESENT, .ro, .live⟩],
  fun _ _ => R.QEP_ID.rst⟩
def Card.QEP_DSN : Card := ⟨.QEP_DSN, 0xD00018, [], .cold, false, .none,
  [⟨F.QEP_DSN_DSN, .ro, .live⟩],
  fun _ _ => R.QEP_DSN.rst⟩
def Card.QEP_VFBAR : Card := ⟨.QEP_VFBAR, 0xD00020, [], .warm, false, .none,
  [⟨F.QEP_VFBAR_VF2_LOG2, .rw, .quiesce⟩],
  fun _ _ => R.QEP_VFBAR.rst⟩
def Card.QEP_VFCMD : Card := ⟨.QEP_VFCMD, 0xD00028, [], .warm, true, .none,
  [⟨F.QEP_VFCMD_OP, .wo, .live⟩,
   ⟨F.QEP_VFCMD_VF, .wo, .live⟩,
   ⟨F.QEP_VFCMD_PT, .wo, .live⟩,
   ⟨F.QEP_VFCMD_BUSOFF, .wo, .live⟩,
   ⟨F.QEP_VFCMD_FNUM, .wo, .live⟩,
   ⟨F.QEP_VFCMD_BAR2_LOG2, .wo, .live⟩],
  fun _ _ => R.QEP_VFCMD.rst⟩
def Card.QEP_VFMAP : Card := ⟨.QEP_VFMAP, 0xD10000, [⟨8, 1, 4096⟩], .warm, false, .none,
  [⟨F.QEP_VFMAP_ATTACHED, .ro, .live⟩,
   ⟨F.QEP_VFMAP_EXISTS, .ro, .live⟩,
   ⟨F.QEP_VFMAP_PT, .ro, .live⟩,
   ⟨F.QEP_VFMAP_BUSOFF, .ro, .live⟩,
   ⟨F.QEP_VFMAP_FNUM, .ro, .live⟩,
   ⟨F.QEP_VFMAP_BAR2_LOG2, .ro, .live⟩],
  fun i _ => (R.QEP_VFMAP i).rst⟩
def Card.QEP_FNSTAT : Card := ⟨.QEP_FNSTAT, 0xD20000, [⟨8, 0, 4096⟩], .warm, false, .none,
  [⟨F.QEP_FNSTAT_FLR_ACTIVE, .ro, .live⟩,
   ⟨F.QEP_FNSTAT_MSE, .ro, .live⟩,
   ⟨F.QEP_FNSTAT_BME, .ro, .live⟩,
   ⟨F.QEP_FNSTAT_D3, .ro, .live⟩,
   ⟨F.QEP_FNSTAT_MSIX_EN, .ro, .live⟩,
   ⟨F.QEP_FNSTAT_FMASK, .ro, .live⟩,
   ⟨F.QEP_FNSTAT_HELD, .ro, .live⟩,
   ⟨F.QEP_FNSTAT_OUTRD, .ro, .live⟩,
   ⟨F.QEP_FNSTAT_BADWR, .rc, .live⟩,
   ⟨F.QEP_FNSTAT_VEC_ERR, .rc, .live⟩,
   ⟨F.QEP_FNSTAT_FLRS, .rc, .live⟩],
  fun i _ => (R.QEP_FNSTAT i).rst⟩
def Card.QEP_NODEOWN : Card := ⟨.QEP_NODEOWN, 0xD40000, [⟨8, 0, 18431⟩], .warm, false, .none,
  [⟨F.QEP_NODEOWN_OWNER_FN, .rw, .live⟩],
  fun i _ => (R.QEP_NODEOWN i).rst⟩
def Card.LNE_OCTCTL : Card := ⟨.LNE_OCTCTL, 0x400000, [⟨16384, 0, 63⟩], .warm, false, .none,
  [⟨F.LNE_OCTCTL_SPARE_EN, .rw, .quiesce⟩,
   ⟨F.LNE_OCTCTL_SPARE_PORT, .rw, .quiesce⟩,
   ⟨F.LNE_OCTCTL_SPARE_WARM, .rw, .live⟩,
   ⟨F.LNE_OCTCTL_AUTO_SUB, .rw, .live⟩],
  fun i _ => (R.LNE_OCTCTL i).rst⟩
def Card.LNE_OCTSTAT : Card := ⟨.LNE_OCTSTAT, 0x400008, [⟨16384, 0, 63⟩], .warm, false, .none,
  [⟨F.LNE_OCTSTAT_CFG_REFUSED, .rw1c, .live⟩,
   ⟨F.LNE_OCTSTAT_BADCMD, .rw1c, .live⟩,
   ⟨F.LNE_OCTSTAT_TRIM_WAIT, .ro, .live⟩,
   ⟨F.LNE_OCTSTAT_SPARE_MAPERR, .ro, .live⟩,
   ⟨F.LNE_OCTSTAT_RX_SUB, .ro, .live⟩,
   ⟨F.LNE_OCTSTAT_TX_SUB, .ro, .live⟩],
  fun i _ => (R.LNE_OCTSTAT i).rst⟩
def Card.LNE_FAILCFG : Card := ⟨.LNE_FAILCFG, 0x400010, [⟨16384, 0, 63⟩], .warm, false, .none,
  [⟨F.LNE_FAILCFG_FAIL_THRESH, .rw, .live⟩,
   ⟨F.LNE_FAILCFG_FAIL_WIN, .rw, .live⟩,
   ⟨F.LNE_FAILCFG_GUARD, .rw, .live⟩],
  fun i _ => (R.LNE_FAILCFG i).rst⟩
def Card.LNE_RETRIM : Card := ⟨.LNE_RETRIM, 0x400018, [⟨16384, 0, 63⟩], .warm, true, .none,
  [⟨F.LNE_RETRIM_OP, .wo, .live⟩,
   ⟨F.LNE_RETRIM_LANE, .wo, .live⟩],
  fun i _ => (R.LNE_RETRIM i).rst⟩
def Card.LNE_RETRIMSTAT : Card := ⟨.LNE_RETRIMSTAT, 0x400020, [⟨16384, 0, 63⟩], .warm, false, .none,
  [⟨F.LNE_RETRIMSTAT_STATE, .ro, .live⟩,
   ⟨F.LNE_RETRIMSTAT_LANE, .ro, .live⟩],
  fun i _ => (R.LNE_RETRIMSTAT i).rst⟩
def Card.LNE_MARGINCFG : Card := ⟨.LNE_MARGINCFG, 0x400028, [⟨16384, 0, 63⟩], .warm, false, .none,
  [⟨F.LNE_MARGINCFG_MIN_EW, .rw, .live⟩,
   ⟨F.LNE_MARGINCFG_MIN_EH, .rw, .live⟩],
  fun i _ => (R.LNE_MARGINCFG i).rst⟩
def Card.LNE_FAILED : Card := ⟨.LNE_FAILED, 0x400030, [⟨16384, 0, 63⟩], .cold, false, .none,
  [⟨F.LNE_FAILED_FAILED, .rw1cs, .live⟩],
  fun i _ => (R.LNE_FAILED i).rst⟩
def Card.LNE_CTL : Card := ⟨.LNE_CTL, 0x401000, [⟨16384, 0, 63⟩, ⟨512, 0, 8⟩], .warm, false, .named,
  [⟨F.LNE_CTL_POL_OVR, .rw, .shadow⟩,
   ⟨F.LNE_CTL_POL_SET, .rw, .shadow⟩,
   ⟨F.LNE_CTL_CTLE_OVR, .rw, .shadow⟩,
   ⟨F.LNE_CTL_CTLE_STEP, .rw, .shadow⟩,
   ⟨F.LNE_CTL_DFE_FREEZE, .rw, .live⟩,
   ⟨F.LNE_CTL_TXEQ_OVR, .rw, .shadow⟩],
  fun i j => (R.LNE_CTL i j).rst⟩
def Card.LNE_STAT : Card := ⟨.LNE_STAT, 0x401008, [⟨16384, 0, 63⟩, ⟨512, 0, 8⟩], .warm, false, .none,
  [⟨F.LNE_STAT_TX_PWR, .ro, .live⟩,
   ⟨F.LNE_STAT_RX_PWR, .ro, .live⟩,
   ⟨F.LNE_STAT_LOCK, .ro, .live⟩,
   ⟨F.LNE_STAT_POL_INV, .ro, .live⟩,
   ⟨F.LNE_STAT_CTLE_USED, .ro, .live⟩,
   ⟨F.LNE_STAT_LOGICAL, .ro, .live⟩],
  fun i j => (R.LNE_STAT i j).rst⟩
def Card.LNE_DFE : Card := ⟨.LNE_DFE, 0x401010, [⟨16384, 0, 63⟩, ⟨512, 0, 8⟩], .warm, false, .none,
  [⟨F.LNE_DFE_TAP_0, .ro, .live⟩,
   ⟨F.LNE_DFE_TAP_1, .ro, .live⟩,
   ⟨F.LNE_DFE_TAP_2, .ro, .live⟩,
   ⟨F.LNE_DFE_TAP_3, .ro, .live⟩,
   ⟨F.LNE_DFE_TAP_4, .ro, .live⟩,
   ⟨F.LNE_DFE_TAP_5, .ro, .live⟩,
   ⟨F.LNE_DFE_TAP_6, .ro, .live⟩,
   ⟨F.LNE_DFE_TAP_7, .ro, .live⟩],
  fun i j => (R.LNE_DFE i j).rst⟩
def Card.LNE_TXEQ : Card := ⟨.LNE_TXEQ, 0x401018, [⟨16384, 0, 63⟩, ⟨512, 0, 8⟩], .warm, false, .named,
  [⟨F.LNE_TXEQ_PRE, .rw, .shadow⟩,
   ⟨F.LNE_TXEQ_MAIN, .rw, .shadow⟩,
   ⟨F.LNE_TXEQ_POST, .rw, .shadow⟩,
   ⟨F.LNE_TXEQ_PRE_CUR, .ro, .shadow⟩,
   ⟨F.LNE_TXEQ_MAIN_CUR, .ro, .shadow⟩,
   ⟨F.LNE_TXEQ_POST_CUR, .ro, .shadow⟩],
  fun i j => (R.LNE_TXEQ i j).rst⟩
def Card.LNE_ERRCNT : Card := ⟨.LNE_ERRCNT, 0x401020, [⟨16384, 0, 63⟩, ⟨512, 0, 8⟩], .warm, false, .none,
  [⟨F.LNE_ERRCNT_LOWMARGIN, .rc, .live⟩,
   ⟨F.LNE_ERRCNT_LOCKLOSS, .rc, .live⟩,
   ⟨F.LNE_ERRCNT_FAILS, .rc, .live⟩],
  fun i j => (R.LNE_ERRCNT i j).rst⟩
def Card.LNE_MARGCMD : Card := ⟨.LNE_MARGCMD, 0x401028, [⟨16384, 0, 63⟩, ⟨512, 0, 8⟩], .warm, true, .none,
  [⟨F.LNE_MARGCMD_OP, .wo, .live⟩,
   ⟨F.LNE_MARGCMD_EYE, .wo, .live⟩,
   ⟨F.LNE_MARGCMD_TOFF, .wo, .live⟩,
   ⟨F.LNE_MARGCMD_VOFF, .wo, .live⟩,
   ⟨F.LNE_MARGCMD_DWELL_LOG2, .wo, .live⟩],
  fun i j => (R.LNE_MARGCMD i j).rst⟩
def Card.LNE_MARGRES : Card := ⟨.LNE_MARGRES, 0x401030, [⟨16384, 0, 63⟩, ⟨512, 0, 8⟩], .warm, false, .none,
  [⟨F.LNE_MARGRES_ERRORS, .ro, .live⟩,
   ⟨F.LNE_MARGRES_DONE, .ro, .live⟩,
   ⟨F.LNE_MARGRES_ABORTED, .ro, .live⟩,
   ⟨F.LNE_MARGRES_BUSY, .ro, .live⟩,
   ⟨F.LNE_MARGRES_ACTIVE, .ro, .live⟩],
  fun i j => (R.LNE_MARGRES i j).rst⟩
def Card.CAN_CTL : Card := ⟨.CAN_CTL, 0x3C00000, [⟨4096, 0, 255⟩], .warm, false, .none,
  [⟨F.CAN_CTL_LP_EN, .rw, .live⟩,
   ⟨F.CAN_CTL_AUTO_NARROW, .rw, .live⟩,
   ⟨F.CAN_CTL_LP_IDLE, .rw, .live⟩,
   ⟨F.CAN_CTL_WAKE_LEN, .rw, .live⟩],
  fun i _ => (R.CAN_CTL i).rst⟩
def Card.CAN_STATUS : Card := ⟨.CAN_STATUS, 0x3C00008, [⟨4096, 0, 255⟩], .warm, false, .none,
  [⟨F.CAN_STATUS_CFG_REFUSED, .rw1c, .live⟩,
   ⟨F.CAN_STATUS_BADCMD, .rw1c, .live⟩,
   ⟨F.CAN_STATUS_CMD_BUSY, .ro, .live⟩,
   ⟨F.CAN_STATUS_TRIM_WAIT, .ro, .live⟩,
   ⟨F.CAN_STATUS_RX_HOLD, .ro, .live⟩,
   ⟨F.CAN_STATUS_REPLAY_WAIT, .ro, .live⟩,
   ⟨F.CAN_STATUS_PEER_HOLD, .ro, .live⟩,
   ⟨F.CAN_STATUS_TX_STBY, .ro, .live⟩,
   ⟨F.CAN_STATUS_PEER_FID, .ro, .live⟩,
   ⟨F.CAN_STATUS_PEER_PORT, .ro, .live⟩,
   ⟨F.CAN_STATUS_DOWN_CAUSE, .ro, .live⟩,
   ⟨F.CAN_STATUS_CMD_RESULT, .ro, .live⟩],
  fun i _ => (R.CAN_STATUS i).rst⟩
def Card.CAN_LINKCFG : Card := ⟨.CAN_LINKCFG, 0x3C00010, [⟨4096, 0, 255⟩], .warm, false, .none,
  [⟨F.CAN_LINKCFG_WIN_LOG2, .rw, .quiesce⟩,
   ⟨F.CAN_LINKCFG_CHK_LIMIT, .rw, .quiesce⟩,
   ⟨F.CAN_LINKCFG_REPLAY_TO, .rw, .quiesce⟩,
   ⟨F.CAN_LINKCFG_REPLAY_MAX, .rw, .quiesce⟩,
   ⟨F.CAN_LINKCFG_SUB_TO, .rw, .quiesce⟩],
  fun i _ => (R.CAN_LINKCFG i).rst⟩
def Card.CAN_TRAINCFG : Card := ⟨.CAN_TRAINCFG, 0x3C00018, [⟨4096, 0, 255⟩], .warm, false, .named,
  [⟨F.CAN_TRAINCFG_MIN_WIDTH, .rw, .shadow⟩,
   ⟨F.CAN_TRAINCFG_EQ_PRESETS, .rw, .shadow⟩,
   ⟨F.CAN_TRAINCFG_RETRAIN_TO, .rw, .shadow⟩],
  fun i _ => (R.CAN_TRAINCFG i).rst⟩
def Card.CAN_CMD : Card := ⟨.CAN_CMD, 0x3C00020, [⟨4096, 0, 255⟩], .warm, true, .none,
  [⟨F.CAN_CMD_OP, .wo, .live⟩,
   ⟨F.CAN_CMD_WIDTH, .wo, .live⟩,
   ⟨F.CAN_CMD_RATE, .wo, .live⟩,
   ⟨F.CAN_CMD_EQ, .wo, .live⟩],
  fun i _ => (R.CAN_CMD i).rst⟩
def Card.CAN_TXSEQ : Card := ⟨.CAN_TXSEQ, 0x3C00028, [⟨4096, 0, 255⟩], .warm, false, .none,
  [⟨F.CAN_TXSEQ_TX_NEXT, .ro, .live⟩,
   ⟨F.CAN_TXSEQ_TX_ACKED, .ro, .live⟩],
  fun i _ => (R.CAN_TXSEQ i).rst⟩
def Card.CAN_RXSEQ : Card := ⟨.CAN_RXSEQ, 0x3C00030, [⟨4096, 0, 255⟩], .warm, false, .none,
  [⟨F.CAN_RXSEQ_RX_EXPECT, .ro, .live⟩,
   ⟨F.CAN_RXSEQ_CULLET_USED, .ro, .live⟩],
  fun i _ => (R.CAN_RXSEQ i).rst⟩
def Card.CAN_ERRCNT : Card := ⟨.CAN_ERRCNT, 0x3C00038, [⟨4096, 0, 255⟩], .warm, false, .none,
  [⟨F.CAN_ERRCNT_WIN_FAILS, .ro, .live⟩,
   ⟨F.CAN_ERRCNT_WIN_PEAK, .rc, .live⟩,
   ⟨F.CAN_ERRCNT_TRAINERR, .rc, .live⟩,
   ⟨F.CAN_ERRCNT_CHKFAIL, .rc, .live⟩],
  fun i _ => (R.CAN_ERRCNT i).rst⟩
def Card.CAN_REPCNT : Card := ⟨.CAN_REPCNT, 0x3C00040, [⟨4096, 0, 255⟩], .warm, false, .none,
  [⟨F.CAN_REPCNT_REPLAYS, .rc, .live⟩,
   ⟨F.CAN_REPCNT_DUPS, .rc, .live⟩],
  fun i _ => (R.CAN_REPCNT i).rst⟩
def Card.CAN_EVCNT : Card := ⟨.CAN_EVCNT, 0x3C00048, [⟨4096, 0, 255⟩], .warm, false, .none,
  [⟨F.CAN_EVCNT_RETRAINS, .rc, .live⟩,
   ⟨F.CAN_EVCNT_WITHDRAWN, .rc, .live⟩,
   ⟨F.CAN_EVCNT_TRAIN_FAILS, .rc, .live⟩,
   ⟨F.CAN_EVCNT_SUBS, .rc, .live⟩],
  fun i _ => (R.CAN_EVCNT i).rst⟩
def Card.CAN_CRDCFG : Card := ⟨.CAN_CRDCFG, 0x3C00080, [⟨4096, 0, 255⟩, ⟨8, 0, 7⟩], .warm, false, .none,
  [⟨F.CAN_CRDCFG_INIT, .rw, .quiesce⟩],
  fun i j => (R.CAN_CRDCFG i j).rst⟩
def Card.CAN_CRDSTAT : Card := ⟨.CAN_CRDSTAT, 0x3C000C0, [⟨4096, 0, 255⟩, ⟨8, 0, 7⟩], .warm, false, .none,
  [⟨F.CAN_CRDSTAT_TX_LIM, .ro, .live⟩,
   ⟨F.CAN_CRDSTAT_TX_SENT, .ro, .live⟩,
   ⟨F.CAN_CRDSTAT_RX_RET, .ro, .live⟩],
  fun i j => (R.CAN_CRDSTAT i j).rst⟩
def Card.FTX_CTL : Card := ⟨.FTX_CTL, 0x3D00000, [], .warm, false, .none,
  [⟨F.FTX_CTL_ENABLE, .rw, .live⟩,
   ⟨F.FTX_CTL_FID, .rw, .quiesce⟩,
   ⟨F.FTX_CTL_PAIR_EN, .rw, .live⟩,
   ⟨F.FTX_CTL_PARTNER, .rw, .live⟩,
   ⟨F.FTX_CTL_AUTO_OVER, .rw, .live⟩,
   ⟨F.FTX_CTL_REPL_PRI, .rw, .live⟩],
  fun _ _ => R.FTX_CTL.rst⟩
def Card.FTX_STATUS : Card := ⟨.FTX_STATUS, 0x3D00008, [], .warm, false, .none,
  [⟨F.FTX_STATUS_IDLE, .ro, .live⟩,
   ⟨F.FTX_STATUS_CFG_REFUSED, .rw1c, .live⟩,
   ⟨F.FTX_STATUS_BADCMD, .rw1c, .live⟩,
   ⟨F.FTX_STATUS_CMD_BUSY, .ro, .live⟩,
   ⟨F.FTX_STATUS_TRIM_WAIT, .ro, .live⟩,
   ⟨F.FTX_STATUS_PEND_FREE, .ro, .live⟩],
  fun _ _ => R.FTX_STATUS.rst⟩
def Card.FTX_TIMERS : Card := ⟨.FTX_TIMERS, 0x3D00010, [], .warm, false, .none,
  [⟨F.FTX_TIMERS_PROBE_INT, .rw, .live⟩,
   ⟨F.FTX_TIMERS_DEAD_TO, .rw, .live⟩,
   ⟨F.FTX_TIMERS_PEND_TO, .rw, .live⟩,
   ⟨F.FTX_TIMERS_REPORT_TO, .rw, .live⟩],
  fun _ _ => R.FTX_TIMERS.rst⟩
def Card.FTX_CMD : Card := ⟨.FTX_CMD, 0x3D00018, [], .warm, true, .none,
  [⟨F.FTX_CMD_OP, .wo, .live⟩,
   ⟨F.FTX_CMD_FID, .wo, .live⟩],
  fun _ _ => R.FTX_CMD.rst⟩
def Card.FTX_ERRCNT : Card := ⟨.FTX_ERRCNT, 0x3D00020, [], .warm, false, .none,
  [⟨F.FTX_ERRCNT_E2E_CRC, .rc, .live⟩,
   ⟨F.FTX_ERRCNT_GAPS, .rc, .live⟩,
   ⟨F.FTX_ERRCNT_LATE, .rc, .live⟩,
   ⟨F.FTX_ERRCNT_HOPDROP, .rc, .live⟩],
  fun _ _ => R.FTX_ERRCNT.rst⟩
def Card.FTX_RPTCNT : Card := ⟨.FTX_RPTCNT, 0x3D00028, [], .warm, false, .none,
  [⟨F.FTX_RPTCNT_STALE_RPT, .rc, .live⟩,
   ⟨F.FTX_RPTCNT_REPL_DROP, .rc, .live⟩],
  fun _ _ => R.FTX_RPTCNT.rst⟩
def Card.FTX_GEN : Card := ⟨.FTX_GEN, 0x3D00030, [], .cold, false, .none,
  [⟨F.FTX_GEN_GEN, .ro, .live⟩],
  fun _ _ => R.FTX_GEN.rst⟩
def Card.FTX_FIDMAP : Card := ⟨.FTX_FIDMAP, 0x3D00100, [⟨8, 0, 15⟩], .warm, false, .named,
  [⟨F.FTX_FIDMAP_MEMBER, .rw, .shadow⟩,
   ⟨F.FTX_FIDMAP_ALT_EN, .rw, .shadow⟩,
   ⟨F.FTX_FIDMAP_ALT_FID, .rw, .shadow⟩,
   ⟨F.FTX_FIDMAP_FQ_LOG2, .rw, .shadow⟩,
   ⟨F.FTX_FIDMAP_FQBASE, .rw, .shadow⟩],
  fun i _ => (R.FTX_FIDMAP i).rst⟩
def Card.FTX_ROUTE : Card := ⟨.FTX_ROUTE, 0x3D00180, [⟨8, 0, 15⟩], .warm, false, .named,
  [⟨F.FTX_ROUTE_PORT_0, .rw, .shadow⟩,
   ⟨F.FTX_ROUTE_PORT_1, .rw, .shadow⟩,
   ⟨F.FTX_ROUTE_PORT_2, .rw, .shadow⟩,
   ⟨F.FTX_ROUTE_PORT_3, .rw, .shadow⟩,
   ⟨F.FTX_ROUTE_VALID, .rw, .shadow⟩],
  fun i _ => (R.FTX_ROUTE i).rst⟩
def Card.FTX_FIDSTAT : Card := ⟨.FTX_FIDSTAT, 0x3D00200, [⟨8, 0, 15⟩], .warm, false, .none,
  [⟨F.FTX_FIDSTAT_STATE, .ro, .live⟩,
   ⟨F.FTX_FIDSTAT_OVER, .ro, .live⟩,
   ⟨F.FTX_FIDSTAT_ACTIVE, .ro, .live⟩,
   ⟨F.FTX_FIDSTAT_ROUTABLE, .ro, .live⟩,
   ⟨F.FTX_FIDSTAT_GEN_RX, .ro, .live⟩,
   ⟨F.FTX_FIDSTAT_PEND, .ro, .live⟩],
  fun i _ => (R.FTX_FIDSTAT i).rst⟩
def Card.FTX_FIDSEQ : Card := ⟨.FTX_FIDSEQ, 0x3D00280, [⟨8, 0, 15⟩], .warm, false, .none,
  [⟨F.FTX_FIDSEQ_TX_NEXT, .ro, .live⟩,
   ⟨F.FTX_FIDSEQ_RX_EXPECT, .ro, .live⟩],
  fun i _ => (R.FTX_FIDSEQ i).rst⟩
def Card.FTX_REPL : Card := ⟨.FTX_REPL, 0x3D00300, [⟨8, 0, 7⟩], .warm, false, .none,
  [⟨F.FTX_REPL_EN, .rw, .live⟩,
   ⟨F.FTX_REPL_BASE_PAGE, .rw, .live⟩,
   ⟨F.FTX_REPL_PAGES, .rw, .live⟩],
  fun i _ => (R.FTX_REPL i).rst⟩
def Card.FTX_LEP : Card := ⟨.FTX_LEP, 0x3D01000, [⟨8, 0, 255⟩], .warm, false, .none,
  [⟨F.FTX_LEP_DEST_FID, .rw, .quiesce⟩],
  fun i _ => (R.FTX_LEP i).rst⟩
def Card.LTH_CTL : Card := ⟨.LTH_CTL, 0x3800000, [], .warm, false, .none,
  [⟨F.LTH_CTL_ENABLE, .rw, .live⟩],
  fun _ _ => R.LTH_CTL.rst⟩
def Card.LTH_STATUS : Card := ⟨.LTH_STATUS, 0x3800008, [], .warm, false, .none,
  [⟨F.LTH_STATUS_IDLE, .ro, .live⟩,
   ⟨F.LTH_STATUS_CFG_REFUSED, .rw1c, .live⟩,
   ⟨F.LTH_STATUS_TRIM_WAIT, .ro, .live⟩,
   ⟨F.LTH_STATUS_LE_OVF, .rw1c, .live⟩,
   ⟨F.LTH_STATUS_TAGS_FREE, .ro, .live⟩,
   ⟨F.LTH_STATUS_NEXT_WSN, .ro, .live⟩],
  fun _ _ => R.LTH_STATUS.rst⟩
def Card.LTH_WIN : Card := ⟨.LTH_WIN, 0x3800010, [], .warm, false, .none,
  [⟨F.LTH_WIN_BASE, .rw, .live⟩],
  fun _ _ => R.LTH_WIN.rst⟩
def Card.LTH_PREFDISC : Card := ⟨.LTH_PREFDISC, 0x3800018, [], .warm, false, .none,
  [⟨F.LTH_PREFDISC_DISCARDS, .rc, .live⟩,
   ⟨F.LTH_PREFDISC_HITS, .rc, .live⟩],
  fun _ _ => R.LTH_PREFDISC.rst⟩
def Card.LTH_POLLSTAT : Card := ⟨.LTH_POLLSTAT, 0x3800020, [], .warm, false, .none,
  [⟨F.LTH_POLLSTAT_PEND, .rw1c, .live⟩,
   ⟨F.LTH_POLLSTAT_ERR, .rw1c, .live⟩],
  fun _ _ => R.LTH_POLLSTAT.rst⟩
def Card.LTH_GPIOIN : Card := ⟨.LTH_GPIOIN, 0x3800030, [], .warm, false, .none,
  [⟨F.LTH_GPIOIN_IN, .ro, .live⟩],
  fun _ _ => R.LTH_GPIOIN.rst⟩
def Card.LTH_GPIOOE : Card := ⟨.LTH_GPIOOE, 0x3800038, [], .warm, false, .none,
  [⟨F.LTH_GPIOOE_OE, .rw, .live⟩],
  fun _ _ => R.LTH_GPIOOE.rst⟩
def Card.LTH_GPIOOUT : Card := ⟨.LTH_GPIOOUT, 0x3800040, [], .warm, false, .none,
  [⟨F.LTH_GPIOOUT_OUT, .rw, .live⟩],
  fun _ _ => R.LTH_GPIOOUT.rst⟩
def Card.LTH_RGN : Card := ⟨.LTH_RGN, 0x3800100, [⟨8, 0, 15⟩], .warm, false, .named,
  [⟨F.LTH_RGN_EN, .rw, .shadow⟩,
   ⟨F.LTH_RGN_CS, .rw, .shadow⟩,
   ⟨F.LTH_RGN_SIZE_LOG2, .rw, .shadow⟩,
   ⟨F.LTH_RGN_BASE, .rw, .shadow⟩,
   ⟨F.LTH_RGN_WAIT, .rw, .shadow⟩,
   ⟨F.LTH_RGN_POSTED, .rw, .shadow⟩,
   ⟨F.LTH_RGN_PREF, .rw, .shadow⟩,
   ⟨F.LTH_RGN_LE_VEC, .rw, .shadow⟩],
  fun i _ => (R.LTH_RGN i).rst⟩
def Card.LTH_SBCFG : Card := ⟨.LTH_SBCFG, 0x3800200, [⟨8, 0, 7⟩], .warm, false, .none,
  [⟨F.LTH_SBCFG_EN, .rw, .live⟩,
   ⟨F.LTH_SBCFG_MODE, .rw, .quiesce⟩,
   ⟨F.LTH_SBCFG_PEC_EN, .rw, .quiesce⟩,
   ⟨F.LTH_SBCFG_POSTED, .rw, .quiesce⟩,
   ⟨F.LTH_SBCFG_LE_VEC, .rw, .quiesce⟩,
   ⟨F.LTH_SBCFG_TIMEOUT, .rw, .quiesce⟩],
  fun i _ => (R.LTH_SBCFG i).rst⟩
def Card.LTH_LELOGA : Card := ⟨.LTH_LELOGA, 0x3800400, [⟨16, 0, 15⟩], .warm, false, .none,
  [⟨F.LTH_LELOGA_ADDR, .ro, .live⟩,
   ⟨F.LTH_LELOGA_STATUS, .ro, .live⟩,
   ⟨F.LTH_LELOGA_VALID, .rw1c, .live⟩],
  fun i _ => (R.LTH_LELOGA i).rst⟩
def Card.LTH_LELOGB : Card := ⟨.LTH_LELOGB, 0x3800408, [⟨16, 0, 15⟩], .warm, false, .none,
  [⟨F.LTH_LELOGB_PT, .ro, .live⟩,
   ⟨F.LTH_LELOGB_FN, .ro, .live⟩,
   ⟨F.LTH_LELOGB_TAG, .ro, .live⟩,
   ⟨F.LTH_LELOGB_ENG, .ro, .live⟩],
  fun i _ => (R.LTH_LELOGB i).rst⟩
def Card.LTH_POLL : Card := ⟨.LTH_POLL, 0x3800600, [⟨16, 0, 15⟩], .warm, false, .named,
  [⟨F.LTH_POLL_ADDR, .rw, .shadow⟩,
   ⟨F.LTH_POLL_SIZE, .rw, .shadow⟩,
   ⟨F.LTH_POLL_SRC, .rw, .shadow⟩,
   ⟨F.LTH_POLL_MODE, .rw, .shadow⟩,
   ⟨F.LTH_POLL_EN, .rw, .shadow⟩,
   ⟨F.LTH_POLL_PERIOD, .rw, .shadow⟩,
   ⟨F.LTH_POLL_VEC, .rw, .shadow⟩],
  fun i _ => (R.LTH_POLL i).rst⟩
def Card.LTH_POLLMASK : Card := ⟨.LTH_POLLMASK, 0x3800608, [⟨16, 0, 15⟩], .warm, false, .named,
  [⟨F.LTH_POLLMASK_MASK, .rw, .shadow⟩],
  fun i _ => (R.LTH_POLLMASK i).rst⟩
def Card.LTH_POLLVAL : Card := ⟨.LTH_POLLVAL, 0x3800800, [⟨8, 0, 15⟩], .warm, false, .none,
  [⟨F.LTH_POLLVAL_VALUE, .ro, .live⟩],
  fun i _ => (R.LTH_POLLVAL i).rst⟩
def Card.MBX_CTL : Card := ⟨.MBX_CTL, 0x2600000, [], .warm, false, .none,
  [⟨F.MBX_CTL_ENABLE, .rw, .live⟩],
  fun _ _ => R.MBX_CTL.rst⟩
def Card.MBX_STATUS : Card := ⟨.MBX_STATUS, 0x2600008, [], .warm, false, .none,
  [⟨F.MBX_STATUS_CFG_REFUSED, .rw1c, .live⟩,
   ⟨F.MBX_STATUS_TRIM_WAIT, .ro, .live⟩,
   ⟨F.MBX_STATUS_COLLISIONS, .rc, .live⟩,
   ⟨F.MBX_STATUS_ABORTS, .rc, .live⟩],
  fun _ _ => R.MBX_STATUS.rst⟩
def Card.MBX_FORCE : Card := ⟨.MBX_FORCE, 0x2600010, [], .warm, true, .none,
  [⟨F.MBX_FORCE_ORIGIN, .wo, .live⟩,
   ⟨F.MBX_FORCE_MASK, .wo, .live⟩],
  fun _ _ => R.MBX_FORCE.rst⟩
def Card.MBX_CFG : Card := ⟨.MBX_CFG, 0x2601000, [⟨8, 0, 511⟩], .warm, false, .none,
  [⟨F.MBX_CFG_EN, .rw, .live⟩,
   ⟨F.MBX_CFG_PT, .rw, .quiesce⟩,
   ⟨F.MBX_CFG_FN, .rw, .quiesce⟩,
   ⟨F.MBX_CFG_SLOT, .rw, .quiesce⟩,
   ⟨F.MBX_CFG_VEC, .rw, .quiesce⟩],
  fun i _ => (R.MBX_CFG i).rst⟩
def Card.MBX_TXMSG : Card := ⟨.MBX_TXMSG, 0x2610000, [⟨256, 0, 511⟩, ⟨8, 1, 7⟩], .warm, false, .none,
  [⟨F.MBX_TXMSG_DATA, .rw, .live⟩],
  fun i j => (R.MBX_TXMSG i j).rst⟩
def Card.MBX_RXMSG : Card := ⟨.MBX_RXMSG, 0x2610040, [⟨256, 0, 511⟩, ⟨8, 0, 7⟩], .warm, false, .none,
  [⟨F.MBX_RXMSG_DATA, .ro, .live⟩],
  fun i j => (R.MBX_RXMSG i j).rst⟩
def Card.MBX_CMD : Card := ⟨.MBX_CMD, 0x2610080, [⟨256, 0, 511⟩], .warm, true, .none,
  [⟨F.MBX_CMD_OP, .wo, .live⟩,
   ⟨F.MBX_CMD_ARG, .wo, .live⟩,
   ⟨F.MBX_CMD_SEQ, .wo, .live⟩,
   ⟨F.MBX_CMD_DEADLINE, .wo, .live⟩],
  fun i _ => (R.MBX_CMD i).rst⟩
def Card.MBX_ESTAT : Card := ⟨.MBX_ESTAT, 0x2610088, [⟨256, 0, 511⟩], .warm, false, .none,
  [⟨F.MBX_ESTAT_CLAIMED, .ro, .live⟩,
   ⟨F.MBX_ESTAT_EXPIRED, .ro, .live⟩,
   ⟨F.MBX_ESTAT_RX_FULL, .ro, .live⟩,
   ⟨F.MBX_ESTAT_TX_FULL, .ro, .live⟩,
   ⟨F.MBX_ESTAT_ACKED, .rw1c, .live⟩,
   ⟨F.MBX_ESTAT_COLLISION, .rw1c, .live⟩,
   ⟨F.MBX_ESTAT_BADCMD, .rw1c, .live⟩,
   ⟨F.MBX_ESTAT_RCODE, .ro, .live⟩,
   ⟨F.MBX_ESTAT_ACK_SEQ, .ro, .live⟩,
   ⟨F.MBX_ESTAT_TX_SEQ, .ro, .live⟩],
  fun i _ => (R.MBX_ESTAT i).rst⟩
def Card.CMD_CTL : Card := ⟨.CMD_CTL, 0x2800000, [], .warm, false, .none,
  [⟨F.CMD_CTL_ENABLE, .rw, .live⟩],
  fun _ _ => R.CMD_CTL.rst⟩
def Card.CMD_STATUS : Card := ⟨.CMD_STATUS, 0x2800008, [], .warm, false, .none,
  [⟨F.CMD_STATUS_IDLE, .ro, .live⟩,
   ⟨F.CMD_STATUS_CFG_REFUSED, .rw1c, .live⟩,
   ⟨F.CMD_STATUS_BADCMD, .rw1c, .live⟩,
   ⟨F.CMD_STATUS_TRIM_WAIT, .ro, .live⟩,
   ⟨F.CMD_STATUS_FREE_SLOTS, .ro, .live⟩],
  fun _ _ => R.CMD_STATUS.rst⟩
def Card.CMD_ALLOC : Card := ⟨.CMD_ALLOC, 0x2800010, [], .warm, false, .none,
  [⟨F.CMD_ALLOC_HANDLE, .rc, .live⟩],
  fun _ _ => R.CMD_ALLOC.rst⟩
def Card.CMD_CFG : Card := ⟨.CMD_CFG, 0x2800018, [], .warm, false, .none,
  [⟨F.CMD_CFG_RSV_TO, .rw, .live⟩],
  fun _ _ => R.CMD_CFG.rst⟩
def Card.CMD_FORCE : Card := ⟨.CMD_FORCE, 0x2800020, [], .warm, true, .none,
  [⟨F.CMD_FORCE_ORIGIN, .wo, .live⟩,
   ⟨F.CMD_FORCE_MASK, .wo, .live⟩],
  fun _ _ => R.CMD_FORCE.rst⟩
def Card.CMD_SLOT : Card := ⟨.CMD_SLOT, 0x2800100, [⟨128, 0, 15⟩], .warm, false, .none,
  [⟨F.CMD_SLOT_STATE, .ro, .live⟩,
   ⟨F.CMD_SLOT_GEN, .ro, .live⟩,
   ⟨F.CMD_SLOT_OPC, .ro, .live⟩,
   ⟨F.CMD_SLOT_NOHOLDER, .ro, .live⟩,
   ⟨F.CMD_SLOT_EXPIRED, .ro, .live⟩,
   ⟨F.CMD_SLOT_HOLDER, .ro, .live⟩],
  fun i _ => (R.CMD_SLOT i).rst⟩
def Card.CMD_ARG : Card := ⟨.CMD_ARG, 0x2800108, [⟨128, 0, 15⟩, ⟨8, 0, 3⟩], .warm, false, .none,
  [⟨F.CMD_ARG_ARG, .rw, .live⟩],
  fun i j => (R.CMD_ARG i j).rst⟩
def Card.CMD_OP : Card := ⟨.CMD_OP, 0x2800130, [⟨128, 0, 15⟩], .warm, true, .none,
  [⟨F.CMD_OP_HANDLE, .wo, .live⟩,
   ⟨F.CMD_OP_OP, .wo, .live⟩,
   ⟨F.CMD_OP_OPC, .wo, .live⟩,
   ⟨F.CMD_OP_NOTIFY, .wo, .live⟩,
   ⟨F.CMD_OP_VEC, .wo, .live⟩],
  fun i _ => (R.CMD_OP i).rst⟩
def Card.CMD_RESA : Card := ⟨.CMD_RESA, 0x2800140, [⟨128, 0, 15⟩], .warm, false, .none,
  [⟨F.CMD_RESA_STATUS, .ro, .live⟩,
   ⟨F.CMD_RESA_DETAIL, .ro, .live⟩,
   ⟨F.CMD_RESA_PROGRESS, .ro, .live⟩],
  fun i _ => (R.CMD_RESA i).rst⟩
def Card.CMD_RESB : Card := ⟨.CMD_RESB, 0x2800148, [⟨128, 0, 15⟩], .warm, false, .none,
  [⟨F.CMD_RESB_TOTAL, .ro, .live⟩,
   ⟨F.CMD_RESB_ERRORS, .ro, .live⟩],
  fun i _ => (R.CMD_RESB i).rst⟩
def Card.CMD_RESC : Card := ⟨.CMD_RESC, 0x2800150, [⟨128, 0, 15⟩], .warm, false, .none,
  [⟨F.CMD_RESC_ADDR, .ro, .live⟩],
  fun i _ => (R.CMD_RESC i).rst⟩
def Card.FLT_CTL : Card := ⟨.FLT_CTL, 0x2A00000, [], .cold, false, .none,
  [⟨F.FLT_CTL_PIN_CE, .rw, .live⟩,
   ⟨F.FLT_CTL_PIN_CT, .rw, .live⟩,
   ⟨F.FLT_CTL_PIN_DF, .ro, .live⟩,
   ⟨F.FLT_CTL_FATAL_WAIT, .rw, .live⟩,
   ⟨F.FLT_CTL_FATAL_DELAY, .rw, .live⟩,
   ⟨F.FLT_CTL_RESV, .rw, .live⟩],
  fun _ _ => R.FLT_CTL.rst⟩
def Card.FLT_STATUS : Card := ⟨.FLT_STATUS, 0x2A00008, [], .cold, false, .none,
  [⟨F.FLT_STATUS_CFG_REFUSED, .rw1c, .live⟩,
   ⟨F.FLT_STATUS_BADCMD, .rw1c, .live⟩,
   ⟨F.FLT_STATUS_FATAL, .ro, .live⟩,
   ⟨F.FLT_STATUS_PIN, .ro, .live⟩,
   ⟨F.FLT_STATUS_FREE, .ro, .live⟩,
   ⟨F.FLT_STATUS_OPEN_CE, .ro, .live⟩,
   ⟨F.FLT_STATUS_OPEN_CT, .ro, .live⟩,
   ⟨F.FLT_STATUS_NOREC_HELD, .ro, .live⟩],
  fun _ _ => R.FLT_STATUS.rst⟩
def Card.FLT_CNT : Card := ⟨.FLT_CNT, 0x2A00010, [], .cold, false, .none,
  [⟨F.FLT_CNT_CE_LOST, .rc, .live⟩,
   ⟨F.FLT_CNT_CT_NOREC, .rc, .live⟩,
   ⟨F.FLT_CNT_RELATCH, .rc, .live⟩],
  fun _ _ => R.FLT_CNT.rst⟩
def Card.FLT_CMD : Card := ⟨.FLT_CMD, 0x2A00018, [], .warm, true, .none,
  [⟨F.FLT_CMD_OP, .wo, .live⟩,
   ⟨F.FLT_CMD_REC, .wo, .live⟩,
   ⟨F.FLT_CMD_KIND, .wo, .live⟩,
   ⟨F.FLT_CMD_INDEX, .wo, .live⟩],
  fun _ _ => R.FLT_CMD.rst⟩
def Card.FLT_OPENMAP : Card := ⟨.FLT_OPENMAP, 0x2A00020, [], .cold, false, .none,
  [⟨F.FLT_OPENMAP_OPEN, .ro, .live⟩],
  fun _ _ => R.FLT_OPENMAP.rst⟩
def Card.FLT_CODECFG : Card := ⟨.FLT_CODECFG, 0x2A00400, [⟨8, 0, 63⟩], .cold, false, .none,
  [⟨F.FLT_CODECFG_CLASS_OVR, .rw, .live⟩,
   ⟨F.FLT_CODECFG_MUTE, .rw, .live⟩,
   ⟨F.FLT_CODECFG_NOEVT, .rw, .live⟩,
   ⟨F.FLT_CODECFG_REVOKE, .rw, .live⟩],
  fun i _ => (R.FLT_CODECFG i).rst⟩
def Card.FLT_RECA : Card := ⟨.FLT_RECA, 0x2A01000, [⟨64, 0, 63⟩], .cold, false, .none,
  [⟨F.FLT_RECA_CODE, .ro, .live⟩,
   ⟨F.FLT_RECA_CLASS, .ro, .live⟩,
   ⟨F.FLT_RECA_OPEN, .ro, .live⟩,
   ⟨F.FLT_RECA_ACTIVE, .ro, .live⟩,
   ⟨F.FLT_RECA_HELD, .ro, .live⟩,
   ⟨F.FLT_RECA_KIND, .ro, .live⟩,
   ⟨F.FLT_RECA_INDEX, .ro, .live⟩,
   ⟨F.FLT_RECA_COUNT, .ro, .live⟩,
   ⟨F.FLT_RECA_RELATCH, .ro, .live⟩],
  fun i _ => (R.FLT_RECA i).rst⟩
def Card.FLT_RECB : Card := ⟨.FLT_RECB, 0x2A01008, [⟨64, 0, 63⟩], .cold, false, .none,
  [⟨F.FLT_RECB_MERGED, .ro, .live⟩],
  fun i _ => (R.FLT_RECB i).rst⟩
def Card.FLT_RECC : Card := ⟨.FLT_RECC, 0x2A01010, [⟨64, 0, 63⟩], .cold, false, .none,
  [⟨F.FLT_RECC_FIRST, .ro, .live⟩,
   ⟨F.FLT_RECC_LAST, .ro, .live⟩],
  fun i _ => (R.FLT_RECC i).rst⟩
def Card.FLT_RECD : Card := ⟨.FLT_RECD, 0x2A01018, [⟨64, 0, 63⟩], .cold, false, .none,
  [⟨F.FLT_RECD_ORIGIN, .ro, .live⟩,
   ⟨F.FLT_RECD_DETAIL, .ro, .live⟩],
  fun i _ => (R.FLT_RECD i).rst⟩
def Card.FLT_RECE : Card := ⟨.FLT_RECE, 0x2A01020, [⟨64, 0, 63⟩], .cold, false, .none,
  [⟨F.FLT_RECE_ADDR, .ro, .live⟩],
  fun i _ => (R.FLT_RECE i).rst⟩
def Card.MON_STATUS : Card := ⟨.MON_STATUS, 0x2C00000, [], .powerOn, false, .none,
  [⟨F.MON_STATUS_THERM_TRIP, .ro, .live⟩,
   ⟨F.MON_STATUS_TRIP_MON, .ro, .live⟩],
  fun _ _ => R.MON_STATUS.rst⟩
def Card.MON_VAL : Card := ⟨.MON_VAL, 0x2C01000, [⟨8, 0, 79⟩], .cold, false, .none,
  [⟨F.MON_VAL_VALUE, .ro, .live⟩,
   ⟨F.MON_VAL_PEAK, .rc, .live⟩,
   ⟨F.MON_VAL_LOW, .rc, .live⟩,
   ⟨F.MON_VAL_ALARM_A, .ro, .live⟩,
   ⟨F.MON_VAL_ALARM_B, .ro, .live⟩],
  fun i _ => (R.MON_VAL i).rst⟩
def Card.MON_THR : Card := ⟨.MON_THR, 0x2C01400, [⟨8, 0, 63⟩], .cold, false, .none,
  [⟨F.MON_THR_LIM_A, .rw, .live⟩,
   ⟨F.MON_THR_LIM_B, .rw, .live⟩,
   ⟨F.MON_THR_HYST, .rw, .live⟩,
   ⟨F.MON_THR_EN_A, .rw, .live⟩,
   ⟨F.MON_THR_EN_B, .rw, .live⟩],
  fun i _ => (R.MON_THR i).rst⟩
def Card.TAL_CTL : Card := ⟨.TAL_CTL, 0x2C08000, [], .warm, false, .none,
  [⟨F.TAL_CTL_FREEZE, .rw, .live⟩,
   ⟨F.TAL_CTL_PORT_EN, .rw, .live⟩],
  fun _ _ => R.TAL_CTL.rst⟩
def Card.TAL_STATUS : Card := ⟨.TAL_STATUS, 0x2C08008, [], .warm, false, .none,
  [⟨F.TAL_STATUS_CFG_REFUSED, .rw1c, .live⟩,
   ⟨F.TAL_STATUS_SMP_BAD, .rw1c, .live⟩,
   ⟨F.TAL_STATUS_TRIM_WAIT, .ro, .live⟩],
  fun _ _ => R.TAL_STATUS.rst⟩
def Card.TAL_UACC : Card := ⟨.TAL_UACC, 0x2C08010, [], .warm, false, .none,
  [⟨F.TAL_UACC_UACC, .rw, .live⟩],
  fun _ _ => R.TAL_UACC.rst⟩
def Card.TAL_SMPCFG : Card := ⟨.TAL_SMPCFG, 0x2C08018, [], .warm, false, .none,
  [⟨F.TAL_SMPCFG_EN, .rw, .live⟩,
   ⟨F.TAL_SMPCFG_MODE, .rw, .quiesce⟩,
   ⟨F.TAL_SMPCFG_CNT, .rw, .quiesce⟩,
   ⟨F.TAL_SMPCFG_PERIOD_LOG2, .rw, .quiesce⟩,
   ⟨F.TAL_SMPCFG_THRESH, .rw, .quiesce⟩],
  fun _ _ => R.TAL_SMPCFG.rst⟩
def Card.TAL_SMPPTR : Card := ⟨.TAL_SMPPTR, 0x2C08020, [], .warm, false, .none,
  [⟨F.TAL_SMPPTR_WR, .ro, .live⟩,
   ⟨F.TAL_SMPPTR_RD, .rw, .live⟩,
   ⟨F.TAL_SMPPTR_COUNT, .ro, .live⟩],
  fun _ _ => R.TAL_SMPPTR.rst⟩
def Card.TAL_SMPSTAT : Card := ⟨.TAL_SMPSTAT, 0x2C08028, [], .warm, false, .none,
  [⟨F.TAL_SMPSTAT_DROPS, .rc, .live⟩,
   ⟨F.TAL_SMPSTAT_LOST, .rc, .live⟩],
  fun _ _ => R.TAL_SMPSTAT.rst⟩
def Card.TAL_WRAP : Card := ⟨.TAL_WRAP, 0x2C08100, [⟨8, 0, 7⟩], .warm, false, .none,
  [⟨F.TAL_WRAP_WRAP, .rw1c, .live⟩],
  fun i _ => (R.TAL_WRAP i).rst⟩
def Card.TAL_SEL : Card := ⟨.TAL_SEL, 0x2C20000, [⟨32, 0, 511⟩], .warm, false, .none,
  [⟨F.TAL_SEL_EN, .rw, .live⟩,
   ⟨F.TAL_SEL_CLASS, .rw, .quiesce⟩,
   ⟨F.TAL_SEL_PRIVM, .rw, .quiesce⟩,
   ⟨F.TAL_SEL_AEN, .rw, .quiesce⟩,
   ⟨F.TAL_SEL_SPACE, .rw, .quiesce⟩],
  fun i _ => (R.TAL_SEL i).rst⟩
def Card.TAL_MATCH : Card := ⟨.TAL_MATCH, 0x2C20008, [⟨32, 0, 511⟩], .warm, false, .none,
  [⟨F.TAL_MATCH_MATCH, .rw, .quiesce⟩,
   ⟨F.TAL_MATCH_MASK, .rw, .quiesce⟩],
  fun i _ => (R.TAL_MATCH i).rst⟩
def Card.TAL_ALO : Card := ⟨.TAL_ALO, 0x2C20010, [⟨32, 0, 511⟩], .warm, false, .none,
  [⟨F.TAL_ALO_ADDR, .rw, .quiesce⟩],
  fun i _ => (R.TAL_ALO i).rst⟩
def Card.TAL_AHI : Card := ⟨.TAL_AHI, 0x2C20018, [⟨32, 0, 511⟩], .warm, false, .none,
  [⟨F.TAL_AHI_ADDR, .rw, .quiesce⟩],
  fun i _ => (R.TAL_AHI i).rst⟩
def Card.TAL_CNT : Card := ⟨.TAL_CNT, 0x2C40000, [⟨8, 0, 511⟩], .warm, false, .none,
  [⟨F.TAL_CNT_COUNT, .rw, .live⟩],
  fun i _ => (R.TAL_CNT i).rst⟩
def Card.TAL_PORT : Card := ⟨.TAL_PORT, 0x2C50000, [⟨64, 0, 256⟩, ⟨8, 0, 5⟩], .warm, false, .none,
  [⟨F.TAL_PORT_COUNT, .ro, .live⟩],
  fun i j => (R.TAL_PORT i j).rst⟩
def Card.EMB_STATUS : Card := ⟨.EMB_STATUS, 0x100000, [], .cold, false, .none,
  [⟨F.EMB_STATUS_XTAL_OK, .ro, .live⟩,
   ⟨F.EMB_STATUS_PLL_LOCK, .ro, .live⟩,
   ⟨F.EMB_STATUS_REFCLK_OK, .ro, .live⟩,
   ⟨F.EMB_STATUS_CFG_REFUSED, .rw1c, .live⟩],
  fun _ _ => R.EMB_STATUS.rst⟩
def Card.EMB_BEAT : Card := ⟨.EMB_BEAT, 0x100008, [], .cold, false, .none,
  [⟨F.EMB_BEAT_BEAT, .ro, .live⟩],
  fun _ _ => R.EMB_BEAT.rst⟩
def Card.EMB_CLKPOL : Card := ⟨.EMB_CLKPOL, 0x100010, [], .warm, false, .none,
  [⟨F.EMB_CLKPOL_TILE_AUTO, .rw, .live⟩,
   ⟨F.EMB_CLKPOL_JACK_AUTO, .rw, .live⟩,
   ⟨F.EMB_CLKPOL_JACK_MIN, .rw, .live⟩,
   ⟨F.EMB_CLKPOL_TILE_IDLE, .rw, .live⟩,
   ⟨F.EMB_CLKPOL_JACK_IDLE, .rw, .live⟩],
  fun _ _ => R.EMB_CLKPOL.rst⟩
def Card.EMB_CLKFORCE : Card := ⟨.EMB_CLKFORCE, 0x100018, [], .warm, false, .none,
  [⟨F.EMB_CLKFORCE_TILE_ON, .rw, .live⟩,
   ⟨F.EMB_CLKFORCE_JACK_ON, .rw, .live⟩],
  fun _ _ => R.EMB_CLKFORCE.rst⟩
def Card.EMB_CLKSTAT : Card := ⟨.EMB_CLKSTAT, 0x100020, [], .warm, false, .none,
  [⟨F.EMB_CLKSTAT_TILE_RUN, .ro, .live⟩,
   ⟨F.EMB_CLKSTAT_JACK_RUN, .ro, .live⟩,
   ⟨F.EMB_CLKSTAT_TILE_WAKES, .rc, .live⟩,
   ⟨F.EMB_CLKSTAT_JACK_WAKES, .rc, .live⟩],
  fun _ _ => R.EMB_CLKSTAT.rst⟩
def Card.EMB_WAKEMASK : Card := ⟨.EMB_WAKEMASK, 0x100028, [], .warm, false, .none,
  [⟨F.EMB_WAKEMASK_EV32, .ro, .live⟩,
   ⟨F.EMB_WAKEMASK_EVWAKE, .rw, .live⟩],
  fun _ _ => R.EMB_WAKEMASK.rst⟩
def Card.EMB_WDCFG : Card := ⟨.EMB_WDCFG, 0x100030, [], .cold, false, .none,
  [⟨F.EMB_WDCFG_EN, .rw, .live⟩,
   ⟨F.EMB_WDCFG_LOCK, .rw1s, .live⟩,
   ⟨F.EMB_WDCFG_PERIOD, .rw, .live⟩],
  fun _ _ => R.EMB_WDCFG.rst⟩
def Card.EMB_WDKICK : Card := ⟨.EMB_WDKICK, 0x100038, [], .cold, true, .none,
  [⟨F.EMB_WDKICK_KEY, .wo, .live⟩],
  fun _ _ => R.EMB_WDKICK.rst⟩
def Card.EMB_WDSTAT : Card := ⟨.EMB_WDSTAT, 0x100040, [], .cold, false, .none,
  [⟨F.EMB_WDSTAT_REMAIN, .ro, .live⟩,
   ⟨F.EMB_WDSTAT_EXPIRIES, .ro, .live⟩,
   ⟨F.EMB_WDSTAT_BADKICK, .rc, .live⟩],
  fun _ _ => R.EMB_WDSTAT.rst⟩
def Card.RST_STATUS : Card := ⟨.RST_STATUS, 0x101000, [], .cold, false, .none,
  [⟨F.RST_STATUS_TRIM_VALID, .ro, .live⟩,
   ⟨F.RST_STATUS_TRIM_FAIL, .ro, .live⟩,
   ⟨F.RST_STATUS_LOAD_PHASE, .ro, .live⟩,
   ⟨F.RST_STATUS_IMG_SRC, .ro, .live⟩,
   ⟨F.RST_STATUS_IMG_ALT, .ro, .live⟩,
   ⟨F.RST_STATUS_NO_IMAGE, .ro, .live⟩,
   ⟨F.RST_STATUS_RECOVERY, .ro, .live⟩,
   ⟨F.RST_STATUS_TEST, .ro, .live⟩,
   ⟨F.RST_STATUS_LEHR_STEP, .ro, .live⟩,
   ⟨F.RST_STATUS_DRAIN_LATE, .rw1c, .live⟩,
   ⟨F.RST_STATUS_CFG_REFUSED, .rw1c, .live⟩,
   ⟨F.RST_STATUS_BADCMD, .rw1c, .live⟩,
   ⟨F.RST_STATUS_WARM_ENTRY, .ro, .live⟩],
  fun _ _ => R.RST_STATUS.rst⟩
def Card.RST_CTL : Card := ⟨.RST_CTL, 0x101008, [], .cold, false, .none,
  [⟨F.RST_CTL_SYSTEM_READY, .rw1s, .live⟩,
   ⟨F.RST_CTL_DRAIN_TO, .rw, .live⟩],
  fun _ _ => R.RST_CTL.rst⟩
def Card.RST_CAUSE : Card := ⟨.RST_CAUSE, 0x101010, [], .powerOn, false, .none,
  [⟨F.RST_CAUSE_POWER_ON, .rw1cs, .live⟩,
   ⟨F.RST_CAUSE_COLD_PIN, .rw1cs, .live⟩,
   ⟨F.RST_CAUSE_WARM_PIN, .rw1cs, .live⟩,
   ⟨F.RST_CAUSE_WATCHDOG, .rw1cs, .live⟩,
   ⟨F.RST_CAUSE_FATAL, .rw1cs, .live⟩,
   ⟨F.RST_CAUSE_CMD_WARM, .rw1cs, .live⟩,
   ⟨F.RST_CAUSE_PERST, .rw1cs, .live⟩,
   ⟨F.RST_CAUSE_PTN_FUND, .rw1cs, .live⟩,
   ⟨F.RST_CAUSE_PTN_HOT, .rw1cs, .live⟩,
   ⟨F.RST_CAUSE_FLR, .rw1cs, .live⟩,
   ⟨F.RST_CAUSE_AS_COLD, .rw1cs, .live⟩,
   ⟨F.RST_CAUSE_LAST_REACH, .ro, .live⟩],
  fun _ _ => R.RST_CAUSE.rst⟩
def Card.RST_STRAP : Card := ⟨.RST_STRAP, 0x101018, [], .cold, false, .none,
  [⟨F.RST_STRAP_CODE, .ro, .live⟩,
   ⟨F.RST_STRAP_ADC, .ro, .live⟩,
   ⟨F.RST_STRAP_STRAP_BAD, .ro, .live⟩,
   ⟨F.RST_STRAP_IMAGE, .ro, .live⟩,
   ⟨F.RST_STRAP_MGMT_PT, .ro, .live⟩,
   ⟨F.RST_STRAP_MGMT_PORT, .ro, .live⟩,
   ⟨F.RST_STRAP_OCT_CANE, .ro, .live⟩,
   ⟨F.RST_STRAP_MODE, .ro, .live⟩],
  fun _ _ => R.RST_STRAP.rst⟩
def Card.RST_LEHR : Card := ⟨.RST_LEHR, 0x101020, [], .cold, false, .named,
  [⟨F.RST_LEHR_GAP_1, .rw, .shadow⟩,
   ⟨F.RST_LEHR_GAP_2, .rw, .shadow⟩,
   ⟨F.RST_LEHR_GAP_3, .rw, .shadow⟩,
   ⟨F.RST_LEHR_GAP_4, .rw, .shadow⟩,
   ⟨F.RST_LEHR_GAP_5, .rw, .shadow⟩,
   ⟨F.RST_LEHR_GAP_6, .rw, .shadow⟩,
   ⟨F.RST_LEHR_GAP_7, .rw, .shadow⟩,
   ⟨F.RST_LEHR_GAP_8, .rw, .shadow⟩,
   ⟨F.RST_LEHR_GAP_9, .rw, .shadow⟩],
  fun _ _ => R.RST_LEHR.rst⟩
def Card.RST_CMD : Card := ⟨.RST_CMD, 0x101028, [], .cold, true, .none,
  [⟨F.RST_CMD_OP, .wo, .live⟩,
   ⟨F.RST_CMD_KEY, .wo, .live⟩],
  fun _ _ => R.RST_CMD.rst⟩
def Card.RST_TRIMSTAT : Card := ⟨.RST_TRIMSTAT, 0x101030, [], .cold, false, .none,
  [⟨F.RST_TRIMSTAT_COPY, .ro, .live⟩,
   ⟨F.RST_TRIMSTAT_PASSES, .ro, .live⟩,
   ⟨F.RST_TRIMSTAT_SPEED, .ro, .live⟩,
   ⟨F.RST_TRIMSTAT_HALF, .ro, .live⟩,
   ⟨F.RST_TRIMSTAT_OPT_DONE, .ro, .live⟩,
   ⟨F.RST_TRIMSTAT_KEEP_DONE, .ro, .live⟩],
  fun _ _ => R.RST_TRIMSTAT.rst⟩
def Card.RST_DOMAIN : Card := ⟨.RST_DOMAIN, 0x101038, [], .cold, false, .none,
  [⟨F.RST_DOMAIN_IN_RESET, .ro, .live⟩],
  fun _ _ => R.RST_DOMAIN.rst⟩
def Card.PWR_CTL : Card := ⟨.PWR_CTL, 0x200000, [], .powerOn, false, .none,
  [⟨F.PWR_CTL_PRIO, .rw, .live⟩,
   ⟨F.PWR_CTL_REVERT, .rw, .live⟩,
   ⟨F.PWR_CTL_BBM_GAP, .rw, .live⟩,
   ⟨F.PWR_CTL_SHED_AUTO, .rw, .live⟩,
   ⟨F.PWR_CTL_CAP_LO, .rw, .live⟩,
   ⟨F.PWR_CTL_REVERT_DLY, .rw, .live⟩],
  fun _ _ => R.PWR_CTL.rst⟩
def Card.PWR_STATUS : Card := ⟨.PWR_STATUS, 0x200008, [], .cold, false, .none,
  [⟨F.PWR_STATUS_SEL, .ro, .live⟩,
   ⟨F.PWR_STATUS_LOWV, .ro, .live⟩,
   ⟨F.PWR_STATUS_BREAK, .ro, .live⟩,
   ⟨F.PWR_STATUS_CFG_REFUSED, .rw1c, .live⟩,
   ⟨F.PWR_STATUS_VBUS, .ro, .live⟩,
   ⟨F.PWR_STATUS_P_MOD, .ro, .live⟩,
   ⟨F.PWR_STATUS_BREAKS, .rc, .live⟩],
  fun _ _ => R.PWR_STATUS.rst⟩
def Card.PWR_FEEDCFG : Card := ⟨.PWR_FEEDCFG, 0x200010, [⟨8, 0, 1⟩], .powerOn, false, .named,
  [⟨F.PWR_FEEDCFG_EN, .rw, .live⟩,
   ⟨F.PWR_FEEDCFG_UV, .rw, .shadow⟩,
   ⟨F.PWR_FEEDCFG_OV, .rw, .shadow⟩,
   ⟨F.PWR_FEEDCFG_HYST, .rw, .shadow⟩,
   ⟨F.PWR_FEEDCFG_INS_DELAY, .rw, .shadow⟩,
   ⟨F.PWR_FEEDCFG_PRECHG_TO, .rw, .shadow⟩,
   ⟨F.PWR_FEEDCFG_ILIM, .rw, .live⟩,
   ⟨F.PWR_FEEDCFG_FTIMER, .rw, .live⟩],
  fun i _ => (R.PWR_FEEDCFG i).rst⟩
def Card.PWR_FEEDAUX : Card := ⟨.PWR_FEEDAUX, 0x200020, [⟨8, 0, 1⟩], .powerOn, false, .none,
  [⟨F.PWR_FEEDAUX_RSHUNT, .rw, .live⟩,
   ⟨F.PWR_FEEDAUX_RETRY, .rw, .live⟩],
  fun i _ => (R.PWR_FEEDAUX i).rst⟩
def Card.PWR_FEEDSTAT : Card := ⟨.PWR_FEEDSTAT, 0x200030, [⟨8, 0, 1⟩], .cold, false, .none,
  [⟨F.PWR_FEEDSTAT_STATE, .ro, .live⟩,
   ⟨F.PWR_FEEDSTAT_VIN, .ro, .live⟩,
   ⟨F.PWR_FEEDSTAT_IIN, .ro, .live⟩,
   ⟨F.PWR_FEEDSTAT_TRIPS, .rc, .live⟩],
  fun i _ => (R.PWR_FEEDSTAT i).rst⟩
def Card.PWR_SHED : Card := ⟨.PWR_SHED, 0x200040, [], .cold, false, .none,
  [⟨F.PWR_SHED_ELIG, .rw, .live⟩],
  fun _ _ => R.PWR_SHED.rst⟩
def Card.PWR_SHEDSTAT : Card := ⟨.PWR_SHEDSTAT, 0x200048, [], .cold, false, .none,
  [⟨F.PWR_SHEDSTAT_SHED, .rw1c, .live⟩],
  fun _ _ => R.PWR_SHEDSTAT.rst⟩
def Card.SLT_CFG : Card := ⟨.SLT_CFG, 0x210000, [⟨64, 0, 31⟩], .cold, false, .none,
  [⟨F.SLT_CFG_UV, .rw, .quiesce⟩,
   ⟨F.SLT_CFG_OV, .rw, .quiesce⟩,
   ⟨F.SLT_CFG_INS_DELAY, .rw, .quiesce⟩,
   ⟨F.SLT_CFG_PRECHG_TO, .rw, .quiesce⟩,
   ⟨F.SLT_CFG_ILIM, .rw, .live⟩,
   ⟨F.SLT_CFG_FTIMER, .rw, .live⟩,
   ⟨F.SLT_CFG_PRSNT_DEB, .rw, .quiesce⟩],
  fun i _ => (R.SLT_CFG i).rst⟩
def Card.SLT_AUX : Card := ⟨.SLT_AUX, 0x210008, [⟨64, 0, 31⟩], .cold, false, .none,
  [⟨F.SLT_AUX_RSHUNT, .rw, .quiesce⟩,
   ⟨F.SLT_AUX_RPRE, .rw, .quiesce⟩,
   ⟨F.SLT_AUX_RETRY, .rw, .quiesce⟩,
   ⟨F.SLT_AUX_RETRY_MAX, .rw, .quiesce⟩],
  fun i _ => (R.SLT_AUX i).rst⟩
def Card.SLT_CTL : Card := ⟨.SLT_CTL, 0x210010, [⟨64, 0, 31⟩], .cold, false, .none,
  [⟨F.SLT_CTL_ON, .rw, .live⟩,
   ⟨F.SLT_CTL_UNLATCH, .wo, .live⟩],
  fun i _ => (R.SLT_CTL i).rst⟩
def Card.SLT_STAT : Card := ⟨.SLT_STAT, 0x210018, [⟨64, 0, 31⟩], .cold, false, .none,
  [⟨F.SLT_STAT_STATE, .ro, .live⟩,
   ⟨F.SLT_STAT_PRSNT, .ro, .live⟩,
   ⟨F.SLT_STAT_REQ, .ro, .live⟩,
   ⟨F.SLT_STAT_CFG_REFUSED, .rw1c, .live⟩,
   ⟨F.SLT_STAT_IOUT, .ro, .live⟩,
   ⟨F.SLT_STAT_FAILS, .ro, .live⟩,
   ⟨F.SLT_STAT_BOUNCES, .rc, .live⟩,
   ⟨F.SLT_STAT_TRIPS, .rc, .live⟩,
   ⟨F.SLT_STAT_LAST, .ro, .live⟩],
  fun i _ => (R.SLT_STAT i).rst⟩
def Card.HLD_CFG : Card := ⟨.HLD_CFG, 0x220000, [], .powerOn, false, .none,
  [⟨F.HLD_CFG_CHG_EN, .rw, .live⟩,
   ⟨F.HLD_CFG_ICHG, .rw, .live⟩,
   ⟨F.HLD_CFG_CMIN, .rw, .live⟩,
   ⟨F.HLD_CFG_HOLD_PCT, .rw, .live⟩,
   ⟨F.HLD_CFG_CHG_TO, .rw, .live⟩],
  fun _ _ => R.HLD_CFG.rst⟩
def Card.HLD_STATUS : Card := ⟨.HLD_STATUS, 0x220008, [], .cold, false, .none,
  [⟨F.HLD_STATUS_VRES, .ro, .live⟩,
   ⟨F.HLD_STATUS_HLD_OK, .ro, .live⟩,
   ⟨F.HLD_STATUS_CHARGING, .ro, .live⟩,
   ⟨F.HLD_STATUS_CAP_VALID, .ro, .live⟩,
   ⟨F.HLD_STATUS_HOLDING, .ro, .live⟩,
   ⟨F.HLD_STATUS_CAP, .ro, .live⟩,
   ⟨F.HLD_STATUS_HOLDS, .rc, .live⟩],
  fun _ _ => R.HLD_STATUS.rst⟩

/-! The table of all cards, block by block. -/
def cardsOfCRU : List Card := [Card.CRU_CTL, Card.CRU_STATUS, Card.CRU_POOLSTAT, Card.CRU_ALLOCSTAT, Card.CRU_MINSHARED, Card.CRU_HOLDTO, Card.CRU_COMMIT, Card.CRU_DTHRESH, Card.CRU_ECCSTAT, Card.CRU_ECCLOG, Card.CRU_RETCFG, Card.CRU_RETADD, Card.CRU_CTEN, Card.CRU_MIRSESS, Card.CRU_MIRBASE, Card.CRU_MIRSTAT, Card.CRU_MIRPORT, Card.CRU_COQCFG, Card.CRU_COQSTAT, Card.CRU_COQDROP, Card.CRU_RETLIST]
def cardsOfQUE : List Card := [Card.QUE_CTL, Card.QUE_STATUS, Card.QUE_PBUF, Card.QUE_PBUFSTAT, Card.QUE_SQSTAT, Card.QUE_FETCH, Card.QUE_REQSTAT, Card.QUE_ERRLOG, Card.QUE_CTXSEL, Card.QUE_CTXCMD, Card.QUE_STATECMD, Card.QUE_LOCKCMD, Card.QUE_LOCKSTAT, Card.QUE_LOCKFORCE, Card.QUE_CTXDATA, Card.QUE_CQCFG, Card.QUE_CQHEAD, Card.QUE_RXCFG, Card.QUE_RXHEAD, Card.QUE_IRQCFG, Card.QUE_QINFO, Card.QUE_CQTAIL, Card.QUE_QLOCK]
def cardsOfSCH : List Card := [Card.SCH_CTL, Card.SCH_STATUS, Card.SCH_ERRLOG, Card.SCH_DECSTAT, Card.SCH_NODECFG, Card.SCH_SHAPE, Card.SCH_BUCKET, Card.SCH_PORTCR, Card.SCH_QATT]
def cardsOfPOL : List Card := [Card.POL_CTL, Card.POL_STATUS, Card.POL_FLOWBASE, Card.POL_CACHESTAT, Card.POL_FLOWSEL, Card.POL_FLOWCMD, Card.POL_FLOWDATA, Card.POL_PROFA, Card.POL_PROFB]
def cardsOfGST : List Card := [Card.GST_CTL, Card.GST_STATUS, Card.GST_ARB, Card.GST_ECCSTAT, Card.GST_ECCLOG, Card.GST_ECCORG, Card.GST_SCRUB, Card.GST_SCRUBSTAT, Card.GST_RETCFG, Card.GST_RETADD, Card.GST_RETSTAT, Card.GST_KEEP, Card.GST_KEEPSTAT, Card.GST_LOCKCMD, Card.GST_LOCKSTAT, Card.GST_FORCE, Card.GST_SEQCFG, Card.GST_LOCKA, Card.GST_LOCKB, Card.GST_REMAP, Card.GST_FNPOOL, Card.GST_POOLMAP]
def cardsOfGAT : List Card := [Card.GAT_CTL, Card.GAT_STATUS, Card.GAT_XCFG, Card.GAT_GSTAT, Card.GAT_EPOCH, Card.GAT_VLOGA, Card.GAT_VLOGB, Card.GAT_MSET, Card.GAT_RGNA, Card.GAT_RGNB]
def cardsOfGAF : List Card := [Card.GAF_CTL, Card.GAF_STATUS, Card.GAF_COMMIT, Card.GAF_EPSTAT, Card.GAF_DEBUG, Card.GAF_CORECMD, Card.GAF_CORE, Card.GAF_EVROUTE]
def cardsOfJCK : List Card := [Card.JCK_STATUS, Card.JCK_TBLSEL, Card.JCK_TBLCMD, Card.JCK_TBLDATA, Card.JCK_SLOT, Card.JCK_TBLA, Card.JCK_TBLB]
def cardsOfPRT : List Card := [Card.PRT_CTL, Card.PRT_STATUS, Card.PRT_ROLE, Card.PRT_LINKCFG, Card.PRT_LINKSTAT, Card.PRT_ARB, Card.PRT_SLOT, Card.PRT_OCTCFG]
def cardsOfPTN : List Card := [Card.PTN_MGMT, Card.PTN_STATUS, Card.PTN_RSTCMD, Card.PTN_CFG, Card.PTN_STATE, Card.PTN_PEERA, Card.PTN_PEERB]
def cardsOfQEP : List Card := [Card.QEP_CTL, Card.QEP_STATUS, Card.QEP_ID, Card.QEP_DSN, Card.QEP_VFBAR, Card.QEP_VFCMD, Card.QEP_VFMAP, Card.QEP_FNSTAT, Card.QEP_NODEOWN]
def cardsOfLNE : List Card := [Card.LNE_OCTCTL, Card.LNE_OCTSTAT, Card.LNE_FAILCFG, Card.LNE_RETRIM, Card.LNE_RETRIMSTAT, Card.LNE_MARGINCFG, Card.LNE_FAILED, Card.LNE_CTL, Card.LNE_STAT, Card.LNE_DFE, Card.LNE_TXEQ, Card.LNE_ERRCNT, Card.LNE_MARGCMD, Card.LNE_MARGRES]
def cardsOfCAN : List Card := [Card.CAN_CTL, Card.CAN_STATUS, Card.CAN_LINKCFG, Card.CAN_TRAINCFG, Card.CAN_CMD, Card.CAN_TXSEQ, Card.CAN_RXSEQ, Card.CAN_ERRCNT, Card.CAN_REPCNT, Card.CAN_EVCNT, Card.CAN_CRDCFG, Card.CAN_CRDSTAT]
def cardsOfFTX : List Card := [Card.FTX_CTL, Card.FTX_STATUS, Card.FTX_TIMERS, Card.FTX_CMD, Card.FTX_ERRCNT, Card.FTX_RPTCNT, Card.FTX_GEN, Card.FTX_FIDMAP, Card.FTX_ROUTE, Card.FTX_FIDSTAT, Card.FTX_FIDSEQ, Card.FTX_REPL, Card.FTX_LEP]
def cardsOfLTH : List Card := [Card.LTH_CTL, Card.LTH_STATUS, Card.LTH_WIN, Card.LTH_PREFDISC, Card.LTH_POLLSTAT, Card.LTH_GPIOIN, Card.LTH_GPIOOE, Card.LTH_GPIOOUT, Card.LTH_RGN, Card.LTH_SBCFG, Card.LTH_LELOGA, Card.LTH_LELOGB, Card.LTH_POLL, Card.LTH_POLLMASK, Card.LTH_POLLVAL]
def cardsOfMBX : List Card := [Card.MBX_CTL, Card.MBX_STATUS, Card.MBX_FORCE, Card.MBX_CFG, Card.MBX_TXMSG, Card.MBX_RXMSG, Card.MBX_CMD, Card.MBX_ESTAT]
def cardsOfCMD : List Card := [Card.CMD_CTL, Card.CMD_STATUS, Card.CMD_ALLOC, Card.CMD_CFG, Card.CMD_FORCE, Card.CMD_SLOT, Card.CMD_ARG, Card.CMD_OP, Card.CMD_RESA, Card.CMD_RESB, Card.CMD_RESC]
def cardsOfFLT : List Card := [Card.FLT_CTL, Card.FLT_STATUS, Card.FLT_CNT, Card.FLT_CMD, Card.FLT_OPENMAP, Card.FLT_CODECFG, Card.FLT_RECA, Card.FLT_RECB, Card.FLT_RECC, Card.FLT_RECD, Card.FLT_RECE]
def cardsOfMON : List Card := [Card.MON_STATUS, Card.MON_VAL, Card.MON_THR]
def cardsOfTAL : List Card := [Card.TAL_CTL, Card.TAL_STATUS, Card.TAL_UACC, Card.TAL_SMPCFG, Card.TAL_SMPPTR, Card.TAL_SMPSTAT, Card.TAL_WRAP, Card.TAL_SEL, Card.TAL_MATCH, Card.TAL_ALO, Card.TAL_AHI, Card.TAL_CNT, Card.TAL_PORT]
def cardsOfEMB : List Card := [Card.EMB_STATUS, Card.EMB_BEAT, Card.EMB_CLKPOL, Card.EMB_CLKFORCE, Card.EMB_CLKSTAT, Card.EMB_WAKEMASK, Card.EMB_WDCFG, Card.EMB_WDKICK, Card.EMB_WDSTAT]
def cardsOfRST : List Card := [Card.RST_STATUS, Card.RST_CTL, Card.RST_CAUSE, Card.RST_STRAP, Card.RST_LEHR, Card.RST_CMD, Card.RST_TRIMSTAT, Card.RST_DOMAIN]
def cardsOfPWR : List Card := [Card.PWR_CTL, Card.PWR_STATUS, Card.PWR_FEEDCFG, Card.PWR_FEEDAUX, Card.PWR_FEEDSTAT, Card.PWR_SHED, Card.PWR_SHEDSTAT]
def cardsOfSLT : List Card := [Card.SLT_CFG, Card.SLT_AUX, Card.SLT_CTL, Card.SLT_STAT]
def cardsOfHLD : List Card := [Card.HLD_CFG, Card.HLD_STATUS]

/-- Every card of the manual. -/
def cardTable : List Card :=
  cardsOfCRU ++ cardsOfQUE ++ cardsOfSCH ++ cardsOfPOL ++ cardsOfGST ++ cardsOfGAT ++ cardsOfGAF ++ cardsOfJCK ++ cardsOfPRT ++ cardsOfPTN ++ cardsOfQEP ++ cardsOfLNE ++ cardsOfCAN ++ cardsOfFTX ++ cardsOfLTH ++ cardsOfMBX ++ cardsOfCMD ++ cardsOfFLT ++ cardsOfMON ++ cardsOfTAL ++ cardsOfEMB ++ cardsOfRST ++ cardsOfPWR ++ cardsOfSLT ++ cardsOfHLD

end Sys2Proof.Machine
end

