-- ==== Sys2Proof/Machine/State.lean ====
section
/-!
DEFINITION. The state of the block as plain data, the ways a step can stop, and the state right after power-on reset.
A register has one home: `regs` (what a read returns), `act` (the value in force, for shadowed and banked registers), or a field
named here whose register view is computed when it is read. Tables hold the difference from the reset value, so an absent entry
reads as the card's Reset column.
-/
namespace Sys2Proof.Machine

/-- Why a step stops with a fault. -/
inductive Fault where
  /-- Raised by the power commands (FEED_WINDOW_ENTER and others that carry VIN, VBUS or VRES) when the reading lies beyond the ratings of R446, where the manual calls the outcome undefined. Safe: the model stops. -/
  | outsideRatings
  deriving DecidableEq, Repr

/-- Why a step has no meaning. -/
inductive Refusal where
  /-- Raised by the dispatch for a command without a meaning yet. Safe: the model stops. -/
  | notModelled (mnemonic : String)
  deriving DecidableEq, Repr

/-- A fault reported by a block and not yet placed by FLT (R361): code, unit, origin, detail, address, beat, and the class the
detecting rule gives when it is not the table's (R160). -/
structure Report where
  code : Nat
  kind : Nat
  index : Nat
  origin : Nat
  detail : Nat
  addr : Nat
  beat : Nat
  ct : Bool
  deriving DecidableEq, Repr

/-- What leaves the module or answers an access. -/
inductive Out where
  | readData (v : Nat)                          -- data of a register or buffer read
  | accessError                                 -- Completer Abort or bus error (R13)
  | unsupported                                 -- Unsupported Request (R324)
  | writeDone                                   -- acknowledgement of a register write
  | completion (pt rid tag : Nat) (st : CplStatus) (data : List Byte)
  | tlp (port : Nat) (t : Tlp)                  -- a TLP transmitted good by a port
  | nullified (port : Nat) (pktId : Nat)        -- a transmission ended as nullified
  | toEndpoint (t : Tlp) (origin : Nat)         -- a request handed to the queue endpoint
  | frame (port : Nat) (words : List Nat)       -- a cane frame or training word sent
  | message (port : Nat) (what : Nat)           -- PCI Express message by number
  | lath (cs wait : Nat) (words : List Nat) (bytes : List Byte)  -- a transfer of the lath bus: command and address words, data written (R327)
  | sideBus (bus mode : Nat) (pec write : Bool) (tran : SideTran) (target code : Nat) (bytes : List Byte)  -- a transaction of a side bus (R329)
  | margin (lane : Nat) (report : List Nat)     -- what a lane reports for Lane Margining at the Receiver (R280)
  | link (port : Nat) (what : Nat)              -- what a port directs its link to do
  | mail (m : Nat) (toHost : Bool)
  deriving DecidableEq, Repr

/-- Crucible (R35 to R57). -/
structure Cru where
  coqs : SMap (List Pkt) := []         -- linked packets of each COQ, head first (R37)
  staged : SMap (List Pkt) := []       -- transmit staging of port p, class c at 8p + c (R229)
  unacked : SMap (List Pkt) := []      -- transmitted and not yet acknowledged, by port (R38)
  lastStage : SMap Nat := []           -- class last moved to staging, plus one, by port (R229)
  deficit : SMap Int := []             -- def[c] of port p at 8p + c (R230)
  arbPtr : SMap Nat := []              -- ptr of R230, by port
  occ : SMap Nat := []                 -- Occ(q) (R40)
  resv : SMap Nat := []                -- Res(q) in force where it is not 32 (R40)
  refs : SMap Nat := []                -- reference count of a cell (R38)
  due : List Nat := []                 -- cells in use that are retired when freed (R57)
  recs : Nat := 0                      -- packet records in use (R38)
  recNos : List Nat := []              -- their numbers (R56)
  reads : SMap (List (Nat × Nat × Nat)) := []  -- waiting reads of a quad: beat served, beat arrived, tile order in that beat (R36)
  holds : List Hold := []              -- ingress receive buffers, oldest first (R45, R46)
  epHeld : List Pkt := []              -- held at the endpoint port, oldest first (R45)
  nextPkt : Nat := 0                   -- the model's own packet numbers
  mirCand : SMap Nat := []             -- candidates since EN was set, by session (R53)
  mirWr : SMap Nat := []               -- next slot of the capture window, by session (R53)
  deriving DecidableEq, Repr

/-- Ports, partitions and the queue endpoint. -/
structure Prt where
  bridges : SMap Bridge := []          -- pt × 1024 + 0 upstream, + 1 endpoint bridge, + 2 + p downstream port p (R222)
  cfgWait : List (Nat × Nat × Nat) := []  -- configuration completions that wait for COMMIT_PEND to clear (R223)
  peerTags : List PeerReq := []        -- peer tags in use (R226)
  pend : List Pending := []            -- non-posted requests out at a port, oldest first
  fundCmd : SMap Nat := []             -- 1: FUND_ASSERT not yet ended, by partition (R233)
  perst : SMap Nat := []               -- 1: PERST_N pin recognised low, by pin
  fns : SMap FnCfg := []               -- configuration space of function f (R245)
  pba : SMap Nat := []                 -- traffic class plus one of the message pending on vector v of function f at 2048 f + v (R254)
  abandoned : SMap Nat := []           -- tags of abandoned fetch reads of function f (R255)
  detach : List Nat := []              -- VFs whose DETACH waits for the end of its FLR (R243)
  deriving DecidableEq, Repr

/-- Queue engine (R58 to R86). -/
structure Que where
  descs : SMap (List Desc) := []       -- accepted descriptors of a queue, oldest first (R64)
  slotsUsed : Nat := 0                 -- submission slots in use (R64)
  pbuf : List Nat := []                -- payload buffer gobs in use, rising (R65)
  wait : List Nat := []                -- queues that wait for free gobs, in order (R65)
  jack : List JackReq := []            -- requests in Jack (R68)
  linked : SMap (List QPkt) := []      -- scheduled side of a queue, head first (R70)
  dels : List Delivery := []           -- deliveries in progress, oldest first (R73)
  claim : SMap Nat := []               -- claim pointer of a ring (R71)
  claimPass : SMap Nat := []           -- wraps of the claim pointer, for PHASE (R73)
  cqPass : SMap Nat := []              -- wraps of the completion ring, for PHASE (R74)
  cqFly : SMap Nat := []               -- entries posted and not yet transmitted (R74)
  cqMod : SMap Nat := []               -- completion entries since the last message (R77)
  rxMod : SMap Nat := []               -- receive headers since the last message (R77)
  credits : List (Nat × Nat × Nat) := []  -- port credit to return: delivery, port node, gobs (R98)
  wakeJack : Option Nat := none        -- queue whose request waits for a Jack group to wake (R394)
  prev : SMap Nat := []                -- state a HELD queue left, plus one (R83)
  locks : SMap (Option Lease) := []    -- queue locks (R85)
  decs : List Decision := []           -- decisions that have not named their packet yet, oldest first (R91)
  nextId : Nat := 0                    -- the model's own numbers of descriptors, packets and deliveries
  deriving DecidableEq, Repr

/-- Scheduler (R87 to R100): active children of a parent at 8 × parent + PRIO, in the order in which they joined (a queue by its
number, a node by 65,536 + n), where each group's next selection starts (a child plus one), DEF of each child, and the port node
each pipeline last served plus one. -/
structure Sch where
  groups : SMap (List Nat) := []
  ptr : SMap Nat := []
  defs : SMap Int := []
  served : SMap Nat := []
  deriving DecidableEq, Repr

/-- Policers (R101 to R106): the flow cache, the most recently used record first, the meters that wait for a fill, oldest first, and the
POL_FLOWCMD that is being applied. -/
structure Pol where
  cache : List FlowLine := []
  filling : List MeterWait := []
  cmd : Option FlowCmd := none
  deriving DecidableEq, Repr

/-- Gather store beside its registers, bytes and word errors (R107 to R131). -/
structure Gst where
  track : SMap (List (Nat × Nat)) := []   -- block tracker of a channel group: (block, corrections), last updated first (R116)
  copying : List (Nat × Nat) := []     -- retirement copies in progress: block, remap entry (R118)
  seqs : List (Nat × Nat × Lease) := [] -- open atomic sequences: line, core, lease (R125)
  scrubAt : SMap Nat := []             -- next gob of the scrub walk of a channel group, in walk order (R114)
  repl : List (Nat × Nat × List Byte) := []  -- replicated writes still to be sent to the partner: GSA, origin, bytes; oldest first (R321)
  snap : List (Nat × List Byte) := []  -- the keep region as it stood when the running save started, by page (R131)
  snapErr : SMap Nat := []             -- word errors of that region, as `err` (R131)
  snapOn : Bool := false
  deficit : SMap Int := []             -- DEF in bursts of classes F, Q, P, C (0 to 3) of channel group g at 4 g + class (R120)
  turn : SMap Nat := []                -- class with which the next round of a channel group starts (R120)
  bound : List GateBound := []         -- accesses that a gate has let through and that wait at their target (R156)
  deriving DecidableEq, Repr

/-- Gaffer cores and Jack lanes (R162, R183, R214). -/
structure Gaf where
  cores : SMap Core := []              -- logical cores 0 to 31
  lanes : SMap Core := []              -- Jack lanes 0 to 255
  held : List QPkt := []               -- packets firmware holds by handle (R181)
  holding : SMap (Option Nat) := []    -- lower words waiting in direct-write mode, by address (R212)
  deriving DecidableEq, Repr

/-- Mailboxes: the claim of the firmware end of mailbox `m` at `m`, of its host end at 512 + m (R340). -/
structure Mbx where
  claims : SMap (Option Lease) := []
  deriving DecidableEq, Repr

/-- Command slots (R346 to R352): reservation leases, what an ISSUE left with its slot, and the number of the next ISSUE. -/
structure Cmd where
  leases : SMap (Option Lease) := []
  jobs : SMap (Option Job) := []
  nextOrder : Nat := 0
  deriving DecidableEq, Repr

/-- Fault collection beside its records: units held without a record as (kind, index, code) (R361), whether the module is
stopped by a device-fatal fault, a warm entry or the quench (R367, R403, R435), the records whose hold and revocation are still to do with the code that
asks for them (R365), and the codes of a record whose level cause a warm reset ended (R367). -/
structure Flt where
  norec : List (Nat × Nat × Nat) := []
  stopped : Bool := false
  reacting : List (Nat × Nat) := []
  gone : SMap Nat := []
  deriving DecidableEq, Repr

/-- Cane links (R281 to R303): the ports, and the gob trains being received or held, oldest first. -/
structure Can where
  ports : SMap Cane := []
  rx : List RxTrain := []
  deriving DecidableEq, Repr

/-- Lanes (R264, R270, R279): who holds the error slicer of a physical lane (0 the monitor, 1 a margin run, 2 a standard command, 3 a
check), whether it is adapted, exits to ACTIVE in progress with the state to enter afterwards plus one (key 2 l, and 2 l + 1 for the
transmit direction), and the monitor counts that markers gave in the running window (R285). -/
structure Lnk where
  slicer : SMap Nat := []
  adapted : SMap Nat := []
  exiting : SMap Nat := []
  winCnt : SMap Nat := []
  deriving DecidableEq, Repr

/-- Fabric transport (R304 to R323): open pending records, oldest first; report entries due to a member as (SEQ, STATUS, RUN), oldest
first; members whose takeover this module announces; route changes that wait as (member, whether an APPLY); numbers of REPL trains
sent as (member, SEQ). -/
structure Fab where
  recs : List PendRec := []
  reports : SMap (List (Nat × Nat × Nat)) := []
  taking : List Nat := []
  changes : List (Nat × Bool) := []
  replSent : List (Nat × Nat) := []
  deriving DecidableEq, Repr

/-- Side bridge beside its registers (R330 to R335): accepted accesses in their order, prefetch buffers with the least recently filled
first, the chip select that last had the lath bus plus one, and the model's number of the next access. -/
structure Lth where
  reqs : List SideReq := []
  pref : List PrefBuf := []
  last : Nat := 0
  nextId : Nat := 0
  deriving DecidableEq, Repr

/-- Reset control beside its registers (R399 to R405): pins recognised low, asserted sources that hold domains as (cause bit, whether
with Cold reach; a PERST_N pin i widened to Cold as 16 + i), whether core 0 has started since the last Cold reset, the values that straps
and trim give registers instead of 0 (differences from the card's reset value), the trip latch of the start circuit (0, or the monitor
plus one) and whether COLD_N has been low since the power-off it outlived, whether ember runs, and the step of a quench (0 none,
1 begun, 2 stopped and draining, 3 saving). -/
structure Rst where
  cold : Bool := false
  warm : Bool := false
  held : List (Nat × Bool) := []
  core0 : Bool := false
  given : SMap Nat := []
  trip : Nat := 0
  freed : Bool := false
  ember : Bool := false
  quench : Nat := 0
  deriving DecidableEq, Repr

/-- Power entry, slot power and monitors beside their registers (R374 to R376, R418 to R435): whether a feed is within its window, the
feed a switchover makes and whether the dead time runs, breakers that regulate (feed x at x, channel k at 2 + k), channels outside their
window, channels in LATCHED whose request has been withdrawn since, whether PWR_CAP and HLD_LOW stand reported, the monitor the
converter takes next, and temperature monitors whose last conversion read 125 °C or more. -/
structure Pow where
  win : SMap Nat := []
  making : Option Nat := none
  gap : Bool := false
  limiting : SMap Nat := []
  outside : SMap Nat := []
  withdrawn : SMap Nat := []
  capOver : Bool := false
  hldLow : Bool := false
  next : Nat := 0
  hot : SMap Nat := []
  deriving DecidableEq, Repr

/-- The state of the block. -/
structure State where
  regs : SMap Nat := []                -- registers: difference (xor) from the reset value, by address
  act : SMap Nat := []                 -- value in force of shadowed and banked registers, likewise
  wo : SMap Nat := []                  -- WO fields as last written (R11)
  mem : SMap Byte := []                -- all byte memories, by the bases of Ops
  err : SMap Nat := []                 -- wrong bits of the 80-bit codeword × 2 + poison of a word of the gather store (R110, R112)
  now : Nat := 0                       -- beats since reset (R5)
  freeCtr : Nat := 0                   -- MODEL: index of the next free value
  out : List Out := []                 -- MODEL: what left the module, newest first
  reports : List Report := []          -- reported faults not yet placed, oldest first
  cru : Cru := {}
  prt : Prt := {}
  que : Que := {}
  sch : Sch := {}
  pol : Pol := {}
  gst : Gst := {}
  gaf : Gaf := {}
  mbx : Mbx := {}
  cmd : Cmd := {}
  flt : Flt := {}
  lnk : Lnk := {}
  can : Can := {}
  fab : Fab := {}
  lth : Lth := {}
  rst : Rst := {}
  pow : Pow := {}
  smpSeen : Nat := 0                   -- counted events since sampling was enabled (R383)
  smpBeat : Nat × Nat := (0, 0)        -- the last beat in which a record was written, and records written in it (R385)
  pending : List Instr := []           -- MODEL: commands that wait, first in first out
  deriving DecidableEq, Repr

/-- The module right after power-on reset: every register at its Reset column value, nothing stored. -/
def State.reset : State := {}

end Sys2Proof.Machine
end

