-- ==== Sys2Proof/Machine/Ops.lean ====
section
/-!
DEFINITION. The operations every block shares: reading and writing registers and their fields, byte memory, free values, what
leaves the module, fault reports, and event bits.
-/
namespace Sys2Proof.Machine

/-! ### Registers -/

/-- What a read of the register returns: the shadow bank of a banked register. -/
def State.rd (s : State) (r : RegRef) : Nat := Nat.xor (SMap.get s.regs 0 r.addr) r.rst

/-- The value in force of a shadowed or banked register (R17, R28). -/
def State.rdAct (s : State) (r : RegRef) : Nat := Nat.xor (SMap.get s.act 0 r.addr) r.rst

/-- A field of a register. -/
def State.get (s : State) (r : RegRef) (f : Fld) : Nat := fieldOf (s.rd r) f.lo f.w

/-- A field of the value in force. -/
def State.getAct (s : State) (r : RegRef) (f : Fld) : Nat := fieldOf (s.rdAct r) f.lo f.w

/-- Write a whole register. -/
def State.wr (s : State) (r : RegRef) (v : Nat) : State :=
  { s with regs := SMap.set s.regs 0 r.addr (Nat.xor (v % 2 ^ 64) r.rst) }

/-- Write the value in force. -/
def State.wrAct (s : State) (r : RegRef) (v : Nat) : State :=
  { s with act := SMap.set s.act 0 r.addr (Nat.xor (v % 2 ^ 64) r.rst) }

/-- Write one field. -/
def State.put (s : State) (r : RegRef) (f : Fld) (v : Nat) : State := s.wr r (putField (s.rd r) f.lo f.w v)

/-- Write one field of the value in force. -/
def State.putAct (s : State) (r : RegRef) (f : Fld) (v : Nat) : State := s.wrAct r (putField (s.rdAct r) f.lo f.w v)

/-- Set a one-bit field. -/
def State.setBit (s : State) (r : RegRef) (f : Fld) : State := s.put r f 1

/-- A register of a banked domain as a request bound to the current epoch, or to the one before it, sees it (R28). -/
def State.rdBank (s : State) (current : Bool) (r : RegRef) : Nat := if current then s.rdAct r else s.rd r
def State.getBank (s : State) (current : Bool) (r : RegRef) (f : Fld) : Nat := fieldOf (s.rdBank current r) f.lo f.w

/-- A one-bit field as a truth value. -/
def State.bit (s : State) (r : RegRef) (f : Fld) : Bool := s.get r f == 1

/-- A one-bit field in force. -/
def State.bitAct (s : State) (r : RegRef) (f : Fld) : Bool := s.getAct r f == 1

/-- Add to a field that saturates at its width. -/
def State.bump (s : State) (r : RegRef) (f : Fld) (n : Nat) : State := s.put r f (satAdd (s.get r f) n (2 ^ f.w - 1))

/-- Word `w` of the context record of queue `q` (R59): the records stand at 0x2_0000_0000 + 64 q. -/
def R.QCTX (q w : Nat) : RegRef := ⟨0x200000000 + 64 * q + 8 * w, 0⟩

/-- Entry `v` of the MSI-X table of function `f`, 64-bit half `h` (R254). -/
def R.MSIX (f v h : Nat) : RegRef := ⟨0x400000000 + 0x10000 * f + 16 * v + 8 * h, if h = 1 then 2 ^ 32 else 0⟩

/-- Word `w` of record `r` of the sample buffer (R385). -/
def R.SMPBUF (r w : Nat) : RegRef := ⟨0x2E00000 + 32 * r + 8 * w, 0⟩

def F.QCTX_OWNER_PT : Fld := ⟨0, 6⟩
def F.QCTX_OWNER_FN : Fld := ⟨6, 13⟩
def F.QCTX_STATE : Fld := ⟨20, 3⟩
def F.QCTX_INLINE_MAX : Fld := ⟨28, 7⟩
def F.QCTX_JPROG : Fld := ⟨36, 12⟩
def F.QCTX_PBUF_MAX : Fld := ⟨48, 16⟩
def F.QCTX_DEF_DQ : Fld := ⟨0, 20⟩
def F.QCTX_SUBNODE : Fld := ⟨20, 14⟩
def F.QCTX_TC : Fld := ⟨34, 3⟩
def F.QCTX_LOSSLESS : Fld := ⟨37, 1⟩
def F.QCTX_SQ_MAX : Fld := ⟨0, 13⟩
def F.QCTX_SQ_USED : Fld := ⟨0, 13⟩
def F.QCTX_PKTS : Fld := ⟨16, 24⟩
def F.QCTX_PBUF_USED : Fld := ⟨40, 24⟩
def F.QCTX_COUNT : Fld := ⟨0, 64⟩

/-- Indices of the registers of a card with one index whose listed entries (those that differ from reset) satisfy `p` on the
value in force. -/
def State.actIndices (s : State) (base stride n : Nat) (rst : Nat → Nat) (p : Nat → Nat → Bool) : List Nat :=
  s.act.filterMap (fun e =>
    if base ≤ e.1 ∧ e.1 < base + stride * n ∧ (e.1 - base) % stride = 0 then
      let i := (e.1 - base) / stride
      if p i (Nat.xor e.2 (rst i)) then some i else none
    else none)

/-- The same over what a read returns. -/
def State.regIndices (s : State) (base stride n : Nat) (rst : Nat → Nat) (p : Nat → Nat → Bool) : List Nat :=
  s.regs.filterMap (fun e =>
    if base ≤ e.1 ∧ e.1 < base + stride * n ∧ (e.1 - base) % stride = 0 then
      let i := (e.1 - base) / stride
      if p i (Nat.xor e.2 (rst i)) then some i else none
    else none)

/-! ### Byte memory -/

/-- Base of the gather store: offset = GSA (R108). -/
def MB.gst : Nat := 0
/-- Base of the crucible's cells: cell × 256 + byte (R149). -/
def MB.cell : Nat := 2 ^ 40
/-- Base of Gaffer local memory, 32 slots of 64 KiB (R197). -/
def MB.localMem : Nat := 2 ^ 41
/-- Base of Jack data memory, one array of 2 MiB (R198). -/
def MB.jackMem : Nat := 2 ^ 42
/-- Base of Gaffer program bank `b` (R199). -/
def MB.gprog (b : Nat) : Nat := 2 ^ 43 + b * 2 ^ 24
/-- Base of Jack program store bank `b` (R202). -/
def MB.jprog (b : Nat) : Nat := 2 ^ 44 + b * 2 ^ 24
/-- Base of on-die table memory bank `b` (R205). -/
def MB.table (b : Nat) : Nat := 2 ^ 45 + b * 2 ^ 28
/-- Base of the NAND. -/
def MB.nand : Nat := 2 ^ 46

/-- What an address nothing has written reads as (log entry 2). -/
def emptyByte : Byte := 0

/-- One byte. -/
def State.byte (s : State) (a : Nat) : Byte := SMap.get s.mem emptyByte a

/-- `n` bytes from `a` up. -/
def State.bytes (s : State) (a : Nat) : Nat → List Byte
  | 0 => []
  | n + 1 => s.byte a :: s.bytes (a + 1) n

/-- A little-endian value of `n` bytes (R10). -/
def State.word (s : State) (a n : Nat) : Nat := leValue ((s.bytes a n).map (·.toNat))

/-- Store bytes from `a` up. -/
def memStore (m : SMap Byte) (a : Nat) : List Byte → SMap Byte
  | [] => m
  | b :: bs => memStore (SMap.set m emptyByte a b) (a + 1) bs

def State.store (s : State) (a : Nat) (bs : List Byte) : State := { s with mem := memStore s.mem a bs }

/-- The `n` bytes of a value, lowest first (R10). -/
def leBytes (v n : Nat) : List Byte := (bytesOf v n).map (BitVec.ofNat 8)

/-- Store a little-endian value of `n` bytes. -/
def State.storeWord (s : State) (a v n : Nat) : State := s.store a (leBytes v n)

/-! ### Free values, outputs -/

/-- A free value (log entry 1): the manual does not fix it, and the counter moves on so that the next one is another. -/
def State.free (s : State) : Nat × State := (Config.free s.freeCtr, { s with freeCtr := s.freeCtr + 1 })

/-- Something leaves the module or answers an access. -/
def State.emit (s : State) (o : Out) : State := { s with out := o :: s.out }

/-- The module's beat counter (R391). -/
def State.beats (s : State) : Nat := s.rd R.EMB_BEAT

/-! ### Origin tags (R23) -/

def oFid (o : Nat) : Nat := fieldOf o 0 4
def oPt (o : Nat) : Nat := fieldOf o 4 6
def oFn (o : Nat) : Nat := fieldOf o 10 13
def oEng (o : Nat) : Nat := fieldOf o 23 4
def oPriv (o : Nat) : Nat := fieldOf o 27 2

/-- A tag from its parts. -/
def mkOrigin (fid pt fn eng priv : Nat) : Nat := fid % 16 + pt % 64 * 2 ^ 4 + fn % 2 ^ 13 * 2 ^ 10 + eng % 16 * 2 ^ 23 + priv % 4 * 2 ^ 27

/-- The local fabric ID (R23, R304). -/
def State.fid (s : State) : Nat := s.get R.FTX_CTL F.FTX_CTL_FID

/-- A tag of a local request. -/
def State.origin (s : State) (pt fn eng priv : Nat) : Nat := mkOrigin s.fid pt fn eng priv

/-- FN of a request that hits no function (R23). -/
def noFn : Nat := 8191

/-! ### Fault reports (R359, R361) -/

def FC.REG_WIDTH : Nat := 0x01
def FC.REG_ALIGN : Nat := 0x02
def FC.EPOCH_COMMIT : Nat := 0x03
def FC.GAT_COMMIT : Nat := 0x04
def FC.GAT_VIOLATION : Nat := 0x05
def FC.LEASE_EXPIRED : Nat := 0x06
def FC.HOLD_TIMEOUT : Nat := 0x07
def FC.CELL_UE : Nat := 0x08
def FC.CELL_RETFULL : Nat := 0x09
def FC.CELL_LINK_UE : Nat := 0x0A
def FC.DB_FORMAT : Nat := 0x0B
def FC.SCH_PATH : Nat := 0x0C
def FC.JCK_EXC : Nat := 0x0D
def FC.FLOW_UE : Nat := 0x0E
def FC.GST_UE : Nat := 0x0F
def FC.GST_SPAREOUT : Nat := 0x10
def FC.GST_REMAP_UE : Nat := 0x11
def FC.GST_LOCKED : Nat := 0x12
def FC.POOL_UNMAPPED : Nat := 0x13
def FC.GAF_DOUBLE : Nat := 0x14
def FC.GAF_CORE_UE : Nat := 0x15
def FC.GAF_STALL : Nat := 0x16
def FC.GAF_SWAP_FORCED : Nat := 0x17
def FC.GAF_NOSPARE : Nat := 0x18
def FC.LANE_FAIL : Nat := 0x19
def FC.LANE_SPAREMAP : Nat := 0x1A
def FC.PCIE_CORR : Nat := 0x1B
def FC.PCIE_UNCORR : Nat := 0x1C
def FC.PCIE_FATAL : Nat := 0x1D
def FC.PORT_DPC : Nat := 0x1E
def FC.PORT_DOWN : Nat := 0x1F
def FC.PTN_UPLINK : Nat := 0x20
def FC.FAB_MEMBER_LOST : Nat := 0x21
def FC.LTH_WRFAIL : Nat := 0x22
def FC.FEED_WINDOW : Nat := 0x23
def FC.FEED_ILIM : Nat := 0x24
def FC.PWR_CAP : Nat := 0x25
def FC.BREAKER_TRIP : Nat := 0x26
def FC.PRECHG_TIMEOUT : Nat := 0x27
def FC.HLD_LOW : Nat := 0x28
def FC.MON_TEMP_HI : Nat := 0x29
def FC.MON_TEMP_CRIT : Nat := 0x2A
def FC.MON_VOLT : Nat := 0x2B
def FC.FW_HOLD : Nat := 0x2C
def FC.FW_FATAL : Nat := 0x2D

/-- Unit kinds (R358). -/
def UK.module : Nat := 0
def UK.port : Nat := 1
def UK.partition : Nat := 2
def UK.queue : Nat := 3
def UK.function : Nat := 4
def UK.fabric : Nat := 5
def UK.core : Nat := 6
def UK.slot : Nat := 7
def UK.feed : Nat := 8
def UK.monitor : Nat := 9

/-- A block reports a fault; FLT places it (FAULT_RECORD). -/
def State.report (s : State) (code kind index origin detail addr : Nat) : State :=
  { s with reports := s.reports ++ [⟨code, kind, index, origin, detail, addr, s.now, false⟩] }

/-- The unit named "function of the master": the function of the tag for host, fetch, delivery and Jack masters, else the
module; FN 0x1FFF names no function (R358). -/
def masterUnit (o : Nat) : Nat × Nat :=
  if oEng o ≤ 3 ∧ oFn o ≠ noFn then (UK.function, oFn o) else (UK.module, 0)

/-- Report a fault whose unit is the function of the master. -/
def State.reportMaster (s : State) (code origin detail addr : Nat) : State :=
  s.report code (masterUnit origin).1 (masterUnit origin).2 origin detail addr

/-! ### Cores, lanes and event bits (R183, R204, R395) -/

def State.core (s : State) (c : Nat) : Core := SMap.get s.gaf.cores {} c
def State.setCore (s : State) (c : Nat) (x : Core) : State := { s with gaf := { s.gaf with cores := SMap.set s.gaf.cores {} c x } }
def State.lane (s : State) (l : Nat) : Core := SMap.get s.gaf.lanes {} l
def State.setLane (s : State) (l : Nat) (x : Core) : State := { s with gaf := { s.gaf with lanes := SMap.set s.gaf.lanes {} l x } }

/-- A general register, 64 bits; g0 reads as zero (R162). -/
def Core.rg (x : Core) (r : Nat) : Nat := if r = 0 then 0 else SMap.get x.g 0 r % 2 ^ 64
/-- Write a general register; writes to g0 are discarded (R162). -/
def Core.wg (x : Core) (r v : Nat) : Core := if r = 0 then x else { x with g := SMap.set x.g 0 r (v % 2 ^ 64) }
def Core.rcsr (x : Core) (n : Nat) : Nat := SMap.get x.csr 0 n
def Core.wcsr (x : Core) (n v : Nat) : Core := { x with csr := SMap.set x.csr 0 n (v % 2 ^ 64) }

/-- CSR numbers (R185). -/
def CSR.STATUS : Nat := 0x000
def CSR.ESTATUS : Nat := 0x001
def CSR.EPC : Nat := 0x002
def CSR.ECAUSE : Nat := 0x003
def CSR.EADDR : Nat := 0x004
def CSR.EVEC : Nat := 0x005
def CSR.EVPEND : Nat := 0x006
def CSR.EVIE : Nat := 0x007
def CSR.CTX_ORIGIN : Nat := 0x008
def CSR.SERR_ADDR : Nat := 0x009
def CSR.SERR_INFO : Nat := 0x00A
def CSR.COREID : Nat := 0x00B
def CSR.CYCLE : Nat := 0x00C
def CSR.BEAT : Nat := 0x00D
def CSR.TICK : Nat := 0x00E
def CSR.LANE : Nat := 0x00F
def CSR.SCRATCH : Nat := 0x010

/-- Set event bit `b` of a core; a core asleep on that bit returns the bits of its mask and clears them (R183). -/
def Core.setEvent (x : Core) (b : Nat) : Core :=
  let y := x.wcsr CSR.EVPEND (Nat.lor (x.rcsr CSR.EVPEND) (2 ^ b))
  match y.run with
  | .waiting mask rd _ =>
    let hit := Nat.land (y.rcsr CSR.EVPEND) mask
    if hit = 0 then y
    else { (y.wcsr CSR.EVPEND (Nat.xor (y.rcsr CSR.EVPEND) hit)).wg rd hit with run := .running }
  | _ => y

/-- Start a core whose clock is stopped; CORE_START completes it (R184, R395). -/
def Core.startClock (x : Core) : Core :=
  match x.run with
  | .stopped rd => { x with run := .starting rd }
  | _ => x

/-- A block event reaches one logical core (R204, R395). -/
def State.eventTo (s : State) (b c : Nat) : State :=
  let x := (s.core c).setEvent b
  s.setCore c (if b = 32 ∨ bitOf (s.rd R.EMB_WAKEMASK) b then x.startClock else x)

/-- A block event sets its bit on every logical core that GAF_EVROUTE routes (R204). -/
def State.event (s : State) (b : Nat) : State :=
  let mask := s.get (R.GAF_EVROUTE (b - 32)) F.GAF_EVROUTE_MASK
  (List.range 32).foldl (fun s c => if bitOf mask c then s.eventTo b c else s) s

end Sys2Proof.Machine
end

