-- ==== Sys2Proof/Machine/Operands.lean ====
section
/-!
DEFINITION. Operand forms of the instruction set: register reads and writes of an agent (R162), sign extension, the 40-bit syllable of
an instruction (R163, R165, R166), and the checks of a Jack program's syllables (R193, R203).
-/
namespace Sys2Proof.Machine

/-! ### Registers (R162) -/

/-- The largest value of a gob counter. -/
def kMax : Nat := 2 ^ 48 - 1

/-- A gob counter, 48 bits. -/
def Core.rk (x : Core) (i : Nat) : Nat := SMap.get x.k 0 i % 2 ^ 48
def Core.wk (x : Core) (i v : Nat) : Core := { x with k := SMap.set x.k 0 i (min v kMax) }

/-- A predicate; p0 reads as 1. -/
def Core.rp (x : Core) (i : Nat) : Bool := i == 0 || bitOf x.p i
/-- Write a predicate; writes to p0 are discarded. -/
def Core.wp (x : Core) (i : Nat) (b : Bool) : Core := if i = 0 then x else { x with p := putField x.p i 1 (bit01 b) }

/-- The state of an agent. -/
def State.agent (s : State) : Agent → Core
  | .core c => s.core c.val
  | .lane l => s.lane l.val
def State.setAgent (s : State) (ag : Agent) (x : Core) : State :=
  match ag with
  | .core c => s.setCore c.val x
  | .lane l => s.setLane l.val x

/-- Privilege of a core: 0 firm, 1 task, 2 user (R164, STATUS). -/
def Core.priv (x : Core) : Nat := x.rcsr CSR.STATUS % 4

/-- Sign extension of a `w`-bit immediate to 64 bits, as a pattern. -/
def sext (v w : Nat) : Nat := patternOf (signedOf v w) 64

/-- The 64-bit pattern of an integer. -/
def wrap64 (x : Int) : Nat := patternOf x 64

/-! ### Syllables (R163, R165, R166) -/

/-- OP with RD, RA, RB and RC at their places. -/
def syl (op rd ra rb rc : Nat) : Nat := op + rd * 2 ^ 6 + ra * 2 ^ 11 + rb * 2 ^ 16 + rc * 2 ^ 21

def sylAlu (fn rd ra rb : Nat) : Nat := syl 0x01 rd ra rb 0 + fn * 2 ^ 26
def sylAlui (fn rd ra imm : Nat) : Nat := syl 0x02 rd ra 0 0 + fn * 2 ^ 16 + imm * 2 ^ 20

/-- Opcodes of R166 with the bits no field of the row covers: such bits must be zero (R165). -/
def reservedMask (op : Nat) : Option Nat :=
  match op with
  | 0x01 => some 0xFF03E00000
  | 0x02 => some 0
  | 0x03 => some 0xF0000FC000
  | 0x04 => some 0xFFC0000000
  | 0x05 => some 0xFFFE000600
  | 0x06 => some 0x0000000600
  | 0x07 => some 0xFFFF18C600
  | 0x08 => some 0xFFFC000000
  | 0x10 => some 0
  | 0x11 => some 0x0000040000
  | 0x12 => some 0xFF03E00000
  | 0x13 => some 0xFFFFFFFF00
  | 0x18 => some 0xFC00000000
  | 0x19 => some 0xF000000000
  | 0x1A => some 0xFF83E00000
  | 0x1C => some 0x00E0000000
  | 0x1D => some 0xFFF3E00000
  | 0x1E => some 0xFFC0000000
  | 0x20 => some 0
  | 0x21 => some 0xFFFFFF0000
  | 0x22 => some 0xFFFFFFFF00
  | 0x3F => some 0xFFFF000000
  | _ => none

/-- What the Jack column of R166 and R193 allow of a syllable at index `i` of a program of `len` syllables; branch targets are
at most `len` (R203). -/
def sylJack (w i len : Nat) : Bool :=
  let f (lo n : Nat) : Nat := fieldOf w lo n
  match f 0 6 with
  | 0x12 => f 30 2 == 0
  | 0x1C => decide (f 26 3 ≤ 3)
  | 0x1D => f 26 2 == 1
  | 0x1E => f 28 2 == 0 && decide (0x0D ≤ f 16 12) && decide (f 16 12 ≤ 0x0F)
  | 0x20 => f 6 5 == 0 && decide (0 < signedOf (f 11 29) 29) && decide (signedOf (f 11 29) 29 + (i : Int) ≤ (len : Int))
  | 0x21 => false
  | 0x22 => false
  | _ => true

/-- The syllables of a program pass the checks of R193 and R203: opcodes and forms that the Jack column has. What else makes a syllable ILLEGAL
shows when it runs (R195). -/
def programOk (ws : List Nat) : Bool :=
  decide (ws.length ≤ 32) && (ws.zipIdx).all (fun e => (reservedMask (fieldOf e.1 0 6)).isSome && sylJack e.1 e.2 ws.length)

end Sys2Proof.Machine
end

