-- ==== Sys2Proof/Machine/Flags.lean ====
section
/-!
DEFINITION. The conditions that set predicates: the CC codes of CMP and CMPI and the functions of PLOG (R169). The module has no flag
register: predicates p0 to p7 are its flags (R162).
-/
namespace Sys2Proof.Machine

/-- A condition code of R169 on two 64-bit values; none for a code that does not exist. -/
def condition (cc a b : Nat) : Option Bool :=
  match cc with
  | 0 => some (a == b)
  | 1 => some (a != b)
  | 2 => some (decide (signedOf a 64 < signedOf b 64))
  | 3 => some (decide (signedOf b 64 ≤ signedOf a 64))
  | 4 => some (decide (a < b))
  | 5 => some (decide (b ≤ a))
  | 6 => some (Nat.land a b != 0)
  | _ => none

/-- A predicate slot of PRED: bits [2:0] name a predicate and bit 3 inverts it (R187). -/
def Core.slotTrue (x : Core) (slot : Nat) : Bool := xor (x.rp (slot % 8)) (bitOf slot 3)

end Sys2Proof.Machine
end

