-- ==== Sys2Proof/Machine/Ecc.lean ====
section
/-!
DEFINITION. The 80-bit codeword of the gather store (R110): an extended, shortened BCH code of minimum distance 6, its encoder, and the decoder
that reports by error weight (R111).
-/
namespace Sys2Proof.Machine

/-- m1(x) = x^7 + x^3 + 1, and m3(x) = x^7 + x^3 + x^2 + x + 1, the minimal polynomial of the cube of a root of m1 (R110). -/
def eccM1 : Nat := 0x89
def eccM3 : Nat := 0x8F

/-- Product of polynomials over GF(2), the first of degree below `n`. -/
def polyMul : Nat → Nat → Nat → Nat
  | 0, _, _ => 0
  | n + 1, a, b => Nat.xor (if bitOf a n then b * 2 ^ n else 0) (polyMul n a b)

/-- g(x) = m1(x) m3(x), of degree 14 (R110). -/
def eccG : Nat := polyMul 8 eccM1 eccM3

/-- x^j modulo g(x), for j = 0, 1, 2, and so on. -/
def eccPowers : Nat → Nat → List Nat
  | 0, _ => []
  | n + 1, v => v :: eccPowers n (if bitOf v 13 then Nat.xor (v * 2) eccG else v * 2)

/-- What each bit of a codeword adds to its syndrome: x^j modulo g(x), and 2^14 for the parity of all 80 bits. -/
def eccCols : List Nat := (eccPowers 79 1).map (· + 2 ^ 14) ++ [2 ^ 14]

/-- The syndrome of a word of 80 bits: zero for a codeword. -/
def eccSyndrome (w : Nat) : Nat := (eccCols.zipIdx).foldl (fun s e => if bitOf w e.2 then Nat.xor s e.1 else s) 0

/-- The codeword of 64 data bits and a poison bit: data bit 0 at x^14, P at x^78, then the bit that makes the number of ones even (R110). -/
def eccEncode (data : Nat) (poison : Bool) : Nat :=
  let i := (data % 2 ^ 64 + bit01 poison * 2 ^ 64) * 2 ^ 14
  let w := i + eccSyndrome i % 2 ^ 14
  w + eccSyndrome w / 2 ^ 14 * 2 ^ 79

/-- The bits, at most two, that the decoder flips for a syndrome; none when no such bits give it. -/
def eccLocate (s : Nat) : Option (List Nat) :=
  if s = 0 then some []
  else match eccCols.findIdx? (· == s) with
    | some j => some [j]
    | none => (List.range 80).findSome? (fun j =>
        ((eccCols.drop (j + 1)).findIdx? (fun c => Nat.xor c (eccCols.getD j 0) == s)).map (fun k => [j, j + 1 + k]))

/-- What the decoder makes of a word: clean, corrected (1 or 2), uncorrectable, or poisoned. -/
inductive Decoded where
  | clean | corr1 | corr2 | ue | poison
  deriving DecidableEq, Repr

/-- Decode a word of 80 bits (R111). -/
def eccDecode (w : Nat) : Decoded :=
  match eccLocate (eccSyndrome w) with
  | none => .ue
  | some l =>
    if bitOf w 78 != l.contains 78 then .poison
    else match l.length with
      | 0 => .clean
      | 1 => .corr1
      | _ => .corr2

/-- Bits set in a word of 80 bits. -/
def popcount (w : Nat) : Nat := ((List.range 80).filter (bitOf w)).length

/-- Data usable as decoded. -/
def Decoded.ok : Decoded → Bool
  | .ue | .poison => false
  | _ => true

end Sys2Proof.Machine
end

