-- ==== Sys2Proof/Machine/Tally.lean ====
section
/-!
DEFINITION. Counting: the 512 general tally counters with their filters (R377 to R379), the fixed port counters (R382) and the
sample buffer (R383 to R385). Every block that makes a counted event calls `State.tally`.
-/
namespace Sys2Proof.Machine

/-- A counted event (R377): class, weight, origin tag, address with its space, and what a sample record holds (R384). -/
structure Ev where
  cls : Nat
  weight : Nat
  origin : Option Nat
  addr : Option (Nat × Nat)
  unit : Nat
  insn : Nat
  pc : Nat
  deriving DecidableEq, Repr

/-- An event with no instruction behind it. -/
def ev (cls weight : Nat) (origin : Option Nat) (addr : Option (Nat × Nat)) (unit : Nat) : Ev :=
  ⟨cls, weight, origin, addr, unit, 0, 0⟩

/-- Classes that can be sampled (R377). -/
def sampledClass (c : Nat) : Bool := [0x01, 0x02, 0x03, 0x04, 0x07, 0x08, 0x09, 0x0E].contains c

/-- The filter of counter `i` (R378). -/
def State.tallyPasses (s : State) (i : Nat) (e : Ev) : Bool :=
  let sel := R.TAL_SEL i
  let m := R.TAL_MATCH i
  let mask := s.get m F.TAL_MATCH_MASK
  let originOk := match e.origin with
    | none => mask == 0
    | some t => Nat.land t mask == Nat.land (s.get m F.TAL_MATCH_MATCH) mask
  let privOk := match e.origin with
    | some t => oEng t != 4 || bitOf (s.get sel F.TAL_SEL_PRIVM) (oPriv t)
    | none => true
  let addrOk := s.get sel F.TAL_SEL_AEN == 0 || match e.addr with
    | none => false
    | some (sp, a) => sp == s.get sel F.TAL_SEL_SPACE && decide (s.get (R.TAL_ALO i) F.TAL_ALO_ADDR ≤ a) &&
        decide (a ≤ s.get (R.TAL_AHI i) F.TAL_AHI_ADDR)
  s.get sel F.TAL_SEL_CLASS == e.cls && originOk && privOk && addrOk

/-- Counters whose EN is set. -/
def State.tallyOn (s : State) : List Nat :=
  s.regIndices 0x2C20000 32 512 (fun i => (R.TAL_SEL i).rst) (fun _ v => fieldOf v 0 1 == 1)

/-- Count in counter `i`; a carry out of bit 63 sets its TAL_WRAP bit (R379). -/
def State.tallyAdd (s : State) (i w : Nat) : State :=
  let v := s.rd (R.TAL_CNT i) + w
  let s := s.wr (R.TAL_CNT i) v
  if 2 ^ 64 ≤ v then s.wr (R.TAL_WRAP (i / 64)) (Nat.lor (s.rd (R.TAL_WRAP (i / 64))) (2 ^ (i % 64))) else s

/-- COUNT of the sample buffer (R385). -/
def State.smpCount (s : State) : Nat :=
  (s.get R.TAL_SMPPTR F.TAL_SMPPTR_WR + 8192 - s.get R.TAL_SMPPTR F.TAL_SMPPTR_RD) % 8192

/-- Write a sample record into the buffer (R384, R385); a fifth record in a beat is dropped, and all records of a command fall into one beat (DEDUCED, log entry 130). LATENCY is not a matter of this model: a free value (log entry 1). -/
def State.sampleWrite (s : State) (e : Ev) : State :=
  let here := if s.smpBeat.1 = s.now then s.smpBeat.2 else 0
  if 4 ≤ here ∨ (s.smpCount = 4096 ∧ s.get R.TAL_SMPCFG F.TAL_SMPCFG_MODE = 0) then s.bump R.TAL_SMPSTAT F.TAL_SMPSTAT_DROPS 1
  else
    let s := if s.smpCount = 4096 then
        (s.put R.TAL_SMPPTR F.TAL_SMPPTR_RD (s.get R.TAL_SMPPTR F.TAL_SMPPTR_RD + 1)).bump R.TAL_SMPSTAT F.TAL_SMPSTAT_LOST 1
      else s
    let before := s.smpCount
    let wr := s.get R.TAL_SMPPTR F.TAL_SMPPTR_WR
    let r := wr % 4096
    let (lat, s) := s.free
    let s := s.wr (R.SMPBUF r 0) (e.origin.getD 0 % 2 ^ 32 + e.cls % 256 * 2 ^ 32 + e.unit % 512 * 2 ^ 40)
    let s := s.wr (R.SMPBUF r 1) (e.insn % 2 ^ 40 + s.beats % 2 ^ 24 * 2 ^ 40)
    let s := s.wr (R.SMPBUF r 2) (e.pc % 2 ^ 32 + lat % 2 ^ 16 * 2 ^ 32)
    let s := s.wr (R.SMPBUF r 3) (match e.addr with | some (sp, a) => a % 2 ^ 48 + sp % 2 ^ 16 * 2 ^ 48 | none => 0)
    let s := { s.put R.TAL_SMPPTR F.TAL_SMPPTR_WR (wr + 1) with smpBeat := (s.now, here + 1) }
    let th := s.get R.TAL_SMPCFG F.TAL_SMPCFG_THRESH
    if before < th ∧ th ≤ s.smpCount then s.event 40 else s

/-- An event that the sampled counter counted reaches the sampling unit (R383). -/
def State.sample (s : State) (e : Ev) : State :=
  if sampledClass e.cls then
    let n := s.smpSeen
    let s := { s with smpSeen := n + 1 }
    if n % 2 ^ s.get R.TAL_SMPCFG F.TAL_SMPCFG_PERIOD_LOG2 = 0 then s.sampleWrite e else s
  else s.setBit R.TAL_STATUS F.TAL_STATUS_SMP_BAD

/-- One counter meets the event. -/
def State.tallyOne (e : Ev) (s : State) (i : Nat) : State :=
  if s.tallyPasses i e then
    let s := s.tallyAdd i e.weight
    if s.bit R.TAL_SMPCFG F.TAL_SMPCFG_EN ∧ s.get R.TAL_SMPCFG F.TAL_SMPCFG_CNT = i then s.sample e else s
  else s

/-- A counted event: every enabled counter whose filter it passes counts it, unless FREEZE is set (R377, R379). -/
def State.tally (s : State) (e : Ev) : State :=
  if s.bit R.TAL_CTL F.TAL_CTL_FREEZE then s else s.tallyOn.foldl (State.tallyOne e) s

/-- Counters of a port (R382). -/
def PC.RX_PKTS : Nat := 0
def PC.RX_BYTES : Nat := 1
def PC.TX_PKTS : Nat := 2
def PC.TX_BYTES : Nat := 3
def PC.DROPS : Nat := 4
def PC.NULLIFIED : Nat := 5

/-- Count in a fixed port counter, which stands still under FREEZE (R379, R382). -/
def State.portCount (s : State) (p k n : Nat) : State :=
  if s.bit R.TAL_CTL F.TAL_CTL_FREEZE ∨ 256 < p then s else s.wr (R.TAL_PORT p k) (s.rd (R.TAL_PORT p k) + n)

end Sys2Proof.Machine
end

