-- ==== Sys2Proof/Machine/GstOps.lean ====
section
/-!
DEFINITION. What every reader and writer of the gather store shares: pages and channel groups (R107, R108), decoding by error weight
with its counts, log, tracker and retirement (R111, R116 to R119), partial writes (R113), region locks (R127) and atomic
sequences (R125).
-/
namespace Sys2Proof.Machine

/-! ### Organisation (R107, R108) -/

/-- A -48 part (R1, R107). -/
def State.half (s : State) : Bool := s.bit R.RST_TRIMSTAT F.RST_TRIMSTAT_HALF
/-- Channel groups. -/
def State.groups (s : State) : Nat := if s.half then 8 else 16
/-- Addressable pages. -/
def State.gstPages (s : State) : Nat := if s.half then 19648 else 39296
/-- Channel group of an address. -/
def State.cgOf (s : State) (a : Nat) : Nat := a / 2 ^ 21 % s.groups
/-- The address lies in an addressable page. -/
def State.gstMapped (s : State) (a : Nat) : Bool := decide (a / 2 ^ 21 < s.gstPages)
/-- The controller serves requests: ENABLE set, and self-refresh neither stands nor is asked for (R113, GST_CTL). -/
def State.gstServes (s : State) : Bool :=
  s.bit R.GST_CTL F.GST_CTL_ENABLE && !s.bit R.GST_STATUS F.GST_STATUS_SELFREF && !s.bit R.GST_CTL F.GST_CTL_SR_REQ
/-- Requests wait until cold-start initialisation is complete (R109). -/
def State.gstReady (s : State) : Bool := s.bit R.GST_STATUS F.GST_STATUS_INIT_DONE
/-- A retirement copy of a block of the range runs, so accesses to it wait (R118). -/
def State.gstCopying (s : State) (a n : Nat) : Bool :=
  s.gst.copying.any (fun e => decide (a / 4096 ≤ e.1) && decide (e.1 ≤ (a + n - 1) / 4096))

/-! ### Retirement (R116 to R119) -/

/-- Remap entries in use. -/
def State.remapUsed (s : State) : List Nat :=
  s.regIndices 0x2010000 8 12288 (fun _ => 0) (fun _ v => fieldOf v 25 1 == 1)

/-- A block is retired or its copy runs. -/
def State.blockGone (s : State) (b : Nat) : Bool :=
  s.remapUsed.any (fun e => s.get (R.GST_REMAP e) F.GST_REMAP_BLOCK == b) || s.gst.copying.any (fun e => e.1 == b)

/-- A free spare block of channel group `cg`: the lowest free remap entry (R118). -/
def State.freeSpare (s : State) (cg : Nat) : Option Nat :=
  ((List.range 768).map (· + 768 * cg)).find? (fun e => !s.bit (R.GST_REMAP e) F.GST_REMAP_VALID && !s.gst.copying.any (fun c => c.2 == e))

/-- Retire block `b`: start the copy into a spare block, or refuse when none is free (R118, R119). -/
def State.retireBlock (s : State) (b : Nat) : State :=
  if s.blockGone b then s
  else
    let cg := s.cgOf (b * 4096)
    match s.freeSpare cg with
    | some e => { s with gst := { s.gst with copying := s.gst.copying ++ [(b, e)] } }
    | none =>
      let s := s.bump R.GST_RETSTAT F.GST_RETSTAT_SPAREOUT 1
      (s.report FC.GST_SPAREOUT UK.module 0 0 cg b).event 41

/-- A correction in block `b` reaches the tracker of its group: 64 entries, the least recently updated replaced. The result says whether it
reaches CE_LIMIT, which retires the block (R116, R117). -/
def State.trackBlock (s : State) (b : Nat) : Bool × State :=
  let cg := s.cgOf (b * 4096)
  let l := SMap.get s.gst.track [] cg
  let n := ((l.find? (fun e => e.1 == b)).map (·.2)).getD 0 + 1
  let l := ((b, n) :: l.filter (fun e => e.1 != b)).take 64
  let lim := s.get R.GST_RETCFG F.GST_RETCFG_CE_LIMIT
  (decide (lim ≠ 0) && decide (lim ≤ n), { s with gst := { s.gst with track := SMap.set s.gst.track [] cg l } })

/-! ### Decoding (R111) -/

/-- Decode a word of the crucible with `bits` wrong bits; four or more may come out in any way, a free value (R55, log entry 1). -/
def State.decodeWeight (s : State) (bits : Nat) : Decoded × State :=
  match bits with
  | 0 => (.clean, s)
  | 1 => (.corr1, s)
  | 2 => (.corr2, s)
  | 3 => (.ue, s)
  | _ => let (v, s) := s.free
    ((match v % 4 with | 0 => .clean | 1 => .corr1 | 2 => .corr2 | _ => .ue), s)

/-- Count, log, track and retire for one decoded word at GSA `a` (R111, R117); one correction asks for one retirement, whatever its causes
(R119). -/
def State.eccEvent (s : State) (d : Decoded) (a origin : Nat) (scrub : Bool) : State :=
  let log (s : State) (w : Nat) (poison : Bool) : State :=
    if s.bit R.GST_ECCLOG F.GST_ECCLOG_VALID then s.setBit R.GST_ECCLOG F.GST_ECCLOG_OVF
    else
      (s.wr R.GST_ECCLOG (a / 8 % 2 ^ 34 * 2 ^ 3 + w * 2 ^ 37 + bit01 poison * 2 ^ 39 + bit01 scrub * 2 ^ 40 + 2 ^ 41
        + s.get R.GST_ECCLOG F.GST_ECCLOG_OVF * 2 ^ 42)).put R.GST_ECCORG F.GST_ECCORG_ORIGIN origin
  let b := a / 4096
  match d with
  | .clean => s
  | .corr1 =>
    let (due, s) := (log (s.bump R.GST_ECCSTAT F.GST_ECCSTAT_CE1 1) 1 false).trackBlock b
    if due then s.retireBlock b else s
  | .corr2 =>
    let (due, s) := (log (s.bump R.GST_ECCSTAT F.GST_ECCSTAT_CE2 1) 2 false).trackBlock b
    if due || s.bit R.GST_RETCFG F.GST_RETCFG_RET_CE2 then s.retireBlock b else s
  | .ue =>
    let s := log (s.bump R.GST_ECCSTAT F.GST_ECCSTAT_UE 1) 3 false
    let s := s.report FC.GST_UE UK.module 0 origin (s.cgOf a) a
    if s.bit R.GST_RETCFG F.GST_RETCFG_RET_UE then s.retireBlock b else s
  | .poison => log (s.bump R.GST_ECCSTAT F.GST_ECCSTAT_UE 1) 3 true

/-- Listed word errors of a range of the gather store: word number, wrong bits of its codeword, poison. -/
def State.errsIn (s : State) (a n : Nat) : List (Nat × Nat × Bool) :=
  (s.err.filter (fun e => decide (a / 8 ≤ e.1) && decide (e.1 ≤ (a + n - 1) / 8))).map
    (fun e => (e.1, e.2 / 2, e.2 % 2 == 1))

def State.setErr (s : State) (w bits : Nat) (poison : Bool) : State :=
  { s with err := SMap.set s.err 0 w (2 * bits + bit01 poison) }

/-- Bits of stored codewords turn over (an input from outside: cosmic rays, wear). Each pair is a word number and a bit of its codeword (R110). -/
def State.flip (s : State) (fl : List (Nat × Nat)) : State :=
  fl.foldl (fun s e =>
    let v := SMap.get s.err 0 e.1
    s.setErr e.1 (Nat.xor (v / 2) (2 ^ (e.2 % 80))) (v % 2 == 1)) s

/-- The 80 bits that the DRAM holds for a listed word: its codeword with the wrong bits (R110). -/
def State.stored (s : State) (e : Nat × Nat × Bool) : Nat := Nat.xor (eccEncode (s.word (8 * e.1) 8) e.2.2) e.2.1

/-- What a read finds in a listed word (R111). -/
def State.decoded (s : State) (e : Nat × Nat × Bool) : Decoded := eccDecode (s.stored e)

/-- The data a word passes with four or more wrong bits is undefined: a free value takes its place (R111). -/
def State.passed (s : State) (e : Nat × Nat × Bool) (d : Decoded) : State :=
  if 4 ≤ popcount e.2.1 ∧ d.ok then
    let (v, s) := s.free
    s.storeWord (8 * e.1) (v % 2 ^ 64) 8
  else s

/-- Decode the words of a read of `n` bytes at `a`: every listed error is reported; the result says whether all words are usable. -/
def State.gstDecode (s : State) (a n origin : Nat) : Bool × State :=
  (s.errsIn a n).foldl (fun (acc : Bool × State) e =>
    let d := acc.2.decoded e
    (acc.1 && d.ok, (acc.2.eccEvent d (8 * e.1) origin false).passed e d)) (true, s)

/-- Bursts of 64 bytes that an access of `n` bytes at `a` takes (R107). -/
def burstsOf (a n : Nat) : Nat := if n = 0 then 0 else (a + n - 1) / 64 - a / 64 + 1

/-- Bursts granted, each an event of class 0x07 at its own address (R377). Nothing to count leaves the state as it is. -/
def State.gstBurst (s : State) (a n origin : Nat) : State :=
  if s.bit R.TAL_CTL F.TAL_CTL_FREEZE || s.tallyOn.isEmpty then s
  else (List.range (burstsOf a n)).foldl (fun s i =>
    let b := if i = 0 then a else (a / 64 + i) * 64
    s.tally (ev 0x07 1 (some origin) (some (1, b)) (s.cgOf b))) s

/-- Read `n` bytes of the gather store: the data, whether every word was usable, and the state after the reports. -/
def State.gstRead (s : State) (a n origin : Nat) : List Byte × Bool × State :=
  let s := s.gstBurst a n origin
  let (ok, s) := s.gstDecode a n origin
  (s.bytes a n, ok, s)

/-- The write lies in a replicated region of the redundant pair (R321). -/
def State.replicated (s : State) (a : Nat) : Bool :=
  s.bit R.FTX_CTL F.FTX_CTL_PAIR_EN && s.bit R.FTX_CTL F.FTX_CTL_ENABLE &&
  (List.range 8).any (fun r =>
    s.bit (R.FTX_REPL r) F.FTX_REPL_EN && decide (s.get (R.FTX_REPL r) F.FTX_REPL_BASE_PAGE ≤ a / 2 ^ 21) &&
    decide (a / 2 ^ 21 < s.get (R.FTX_REPL r) F.FTX_REPL_BASE_PAGE + s.get (R.FTX_REPL r) F.FTX_REPL_PAGES))

/-- Write bytes: whole words become clean codewords; a partly covered word is merged with what the decoder makes of it, and stays or becomes
poisoned when its old content is unusable, which the result tells (R113). -/
def State.gstStore' (s : State) (a origin : Nat) (bs : List Byte) : Bool × State :=
  let n := bs.length
  if n = 0 then (true, s)
  else
    let s := s.gstBurst a n origin
    let (ok, s) := (s.errsIn a n).foldl (fun (acc : Bool × State) e =>
      let s := acc.2
      if a ≤ 8 * e.1 ∧ 8 * e.1 + 8 ≤ a + n then (acc.1, s.setErr e.1 0 false)
      else
        let d := s.decoded e
        let s := (s.eccEvent d (8 * e.1) origin false).passed e d
        let s := if d = .poison then s.report FC.GST_UE UK.module 0 origin (s.cgOf (8 * e.1)) (8 * e.1) else s
        (acc.1 && d.ok, s.setErr e.1 0 (!d.ok))) (true, s)
    let s := s.store a bs
    (ok, if s.replicated a && oEng origin != 7 then { s with gst := { s.gst with repl := s.gst.repl ++ [(a, origin, bs)] } } else s)

/-- A write whose maker learns nothing of the words it merges with. -/
def State.gstStore (s : State) (a origin : Nat) (bs : List Byte) : State := (s.gstStore' a origin bs).2

/-! ### Region locks and sequences (R125 to R128) -/

/-- A held lock entry of another master that overlaps the range (R127). -/
def State.lockAgainst (s : State) (a n origin : Nat) : Option Nat :=
  (s.regIndices 0x2001000 16 256 (fun _ => 0) (fun _ v => fieldOf v 4 1 == 1)).find? (fun i =>
    let base := s.get (R.GST_LOCKA i) F.GST_LOCKA_BASE * 64
    let size := 2 ^ (6 + s.get (R.GST_LOCKA i) F.GST_LOCKA_SIZE_LOG2)
    decide (a < base + size) && decide (base < a + n) && s.get (R.GST_LOCKB i) F.GST_LOCKB_HOLDER != origin)

/-- A refused or dropped access logs GST_LOCKED (R127). -/
def State.reportLocked (s : State) (i a origin : Nat) : State := s.reportMaster FC.GST_LOCKED origin i a

/-- A line of the range is held by an open sequence of another master than `who`: a core by its number plus one, for its buffered stores
that plus 1000, no such number for any other master (R125). -/
def State.seqAgainst (s : State) (a n who : Nat) : Bool :=
  s.gst.seqs.any (fun e => decide (a / 64 ≤ e.1) && decide (e.1 ≤ (a + n - 1) / 64) && e.2.1 + 1 != who % 1000)

/-- What an access waits for once the gather store serves it: initialisation (R109), a retirement copy (R118), a sequence (R125). -/
def State.gstBusy (s : State) (a n who : Nat) : Bool := !s.gstReady || s.gstCopying a n || s.seqAgainst a n who

/-! ### Accesses behind a gate (R156) -/

/-- Accesses of `who` that a gate has let through are over, or will not be made. -/
def State.gateDone (s : State) (who : Nat) : State := { s with gst := { s.gst with bound := s.gst.bound.filter (fun b => b.who != who) } }

/-- Address of gob `g` of the payload buffer (R65). -/
def State.gobAddr (s : State) (g : Nat) : Nat := s.get R.QUE_PBUF F.QUE_PBUF_BASE_PAGE * 2 ^ 21 + 256 * g

end Sys2Proof.Machine
end

