-- ==== Sys2Proof/Machine/Arb.lean ====
section
/-!
DEFINITION. Arbitration of the gather store (R120): what each class asks of a channel group, deficit round robin among the classes F, Q, P
and C, and the turn of an access.
-/
namespace Sys2Proof.Machine

/-! ### Classes (R120) -/

/-- Classes that share the bursts left by M and S, by the place of their weight in GST_ARB. -/
def GC.F : Nat := 0
def GC.Q : Nat := 1
def GC.P : Nat := 2
def GC.C : Nat := 3

/-- Class of an access by its origin tag (R23, R120): none for classes M and S, which are served first. Fills and write-backs of the flow
cache carry the tag of the request behind them and name class F themselves. -/
def gstClass (origin : Nat) : Option Nat :=
  match oEng origin with
  | 1 | 2 => some GC.Q
  | 5 => some GC.C
  | 6 => none
  | _ => some GC.P

/-- WF, WQ, WP or WC. -/
def State.gstWeight (s : State) (c : Nat) : Nat := fieldOf (s.rd R.GST_ARB) (4 * c) 4

/-! ### Addresses of the engines' areas -/

/-- Records of the flow area, and the address of record `f` (R101, POL_FLOWBASE). -/
def State.flowCount (s : State) : Nat := 2 ^ (16 + min (s.get R.POL_FLOWBASE F.POL_FLOWBASE_FLOWS_LOG2) (if s.half then 3 else 4))
def State.flowAddr (s : State) (f : Nat) : Nat := s.get R.POL_FLOWBASE F.POL_FLOWBASE_BASE_PAGE * 2 ^ 21 + 64 * f

/-- What the next unit of slot `k` reads, when a scrub, memory test or keep save command runs there (R120, R354). -/
def State.engNext (s : State) (k : Nat) : Option Nat :=
  let st := s.get (R.CMD_SLOT k) F.CMD_SLOT_STATE
  let done := s.get (R.CMD_RESA k) F.CMD_RESA_PROGRESS
  let page := fieldOf (s.rd (R.CMD_ARG k 0)) 0 16
  if !(st == 3 || st == 4 || st == 6) || decide (s.get (R.CMD_RESB k) F.CMD_RESB_TOTAL ≤ done) then none
  else match s.get (R.CMD_SLOT k) F.CMD_SLOT_OPC with
    | 3 => some (page * 2 ^ 21 + 256 * done)
    | 6 => some ((page + done) * 2 ^ 21)
    | 7 => some (s.get R.GST_KEEP F.GST_KEEP_BASE_PAGE * 2 ^ 21 + 4096 * done)
    | _ => none

/-! ### Requests of a class (R120) -/

/-- The controller could serve an access at `a` of channel group `cg` at once: it asks for its group's bursts. -/
def State.gstAsks (s : State) (cg a n who : Nat) : Bool := s.cgOf a == cg && s.gstMapped a && !s.gstBusy a n who

/-- A class has a request for channel group `cg` that waits in the module: a fill of the flow cache, a delivery that still has to read its
payload, a store in a core's store buffer, or the next unit of a command (DESIGN CHOICE, log entry 120). -/
def State.gstBacklog (s : State) (cg c : Nat) : Bool :=
  match c with
  | 0 => !s.flt.stopped && s.pol.filling.any (fun w => s.gstAsks cg (s.flowAddr w.idx) 64 0)
  | 1 => !s.flt.stopped && s.que.dels.any (fun d => d.phase == .reading && d.pkt.dq / 65536 == s.fid &&
      d.pkt.gobs.any (fun g => s.cgOf (s.gobAddr g) == cg) && d.pkt.gobs.all (fun g => !s.gstBusy (s.gobAddr g) 256 0))
  | 2 => s.gaf.cores.any (fun e => e.2.sb.any (fun x => !x.device && x.addr / 2 ^ 48 == 1 && s.gstAsks cg (x.addr % 2 ^ 48) 8 (e.1 + 1)))
  | _ => !s.flt.stopped && (List.range 16).any (fun k => match s.engNext k with
      | some a => s.gstAsks cg a 64 0
      | none => false)

/-! ### Deficit round robin (R120) -/

def State.gstDef (s : State) (cg c : Nat) : Int := SMap.get s.gst.deficit 0 (4 * cg + c)

/-- Rounds until a class with deficit `d` and weight `w` may send. -/
def roundsFor (w : Nat) (d : Int) : Nat := if 0 < d then 0 else (-d).toNat / w + 1

/-- The least number of a list. -/
def leastOf : List Nat → Nat
  | [] => 0
  | x :: xs => xs.foldl min x

/-- The channel group grants `b` bursts to class `c`, or none while another class goes first. Every class that asks counts; one of weight 0
does so only when no other asks. A round adds its weight to the deficit of each, which never exceeds that weight; the first class from
the turn on with a positive deficit is served. -/
def State.gstGrant (s : State) (cg c b : Nat) : Option State :=
  let asks := [0, 1, 2, 3].filter (fun x => x == c || s.gstBacklog cg x)
  let g := if asks.any (fun x => s.gstWeight x != 0) then asks.filter (fun x => s.gstWeight x != 0) else asks
  let w (x : Nat) : Nat := max (s.gstWeight x) 1
  let k := leastOf (g.map (fun x => roundsFor (w x) (s.gstDef cg x)))
  let d (x : Nat) : Int := if g.contains x then min (s.gstDef cg x + (k * w x : Nat)) (w x) else min (s.gstDef cg x) 0
  if ((List.range 4).map (fun i => (SMap.get s.gst.turn 0 cg + i) % 4)).find? (fun x => g.contains x && decide (0 < d x)) = some c then
    let ds := [0, 1, 2, 3].foldl (fun m x => SMap.set m 0 (4 * cg + x) (if x = c then d x - (b : Int) else d x)) s.gst.deficit
    some { s with gst := { s.gst with deficit := ds, turn := SMap.set s.gst.turn 0 cg ((c + 1) % 4) } }
  else none

/-! ### The turn of an access -/

/-- The accesses of a class at ranges (first byte, bytes) may be carried out now: none of them waits (R109, R118, R125), and each channel
group grants its bursts. Ranges in no page take none. -/
def State.gstTurn (s : State) (c : Option Nat) (who : Nat) (ps : List (Nat × Nat)) : Option State :=
  if ps.any (fun p => s.gstMapped p.1 && s.gstBusy p.1 p.2 who) then none
  else match c with
    | none => some s
    | some c => (List.range s.groups).foldl (fun o cg =>
        let b := ((ps.filter (fun p => s.gstMapped p.1 && s.cgOf p.1 == cg)).map (fun p => burstsOf p.1 p.2)).sum
        if b = 0 then o else o.bind (fun t => t.gstGrant cg c b)) (some s)

end Sys2Proof.Machine
end

