-- ==== Sys2Proof/Machine/Route.lean ====
section
/-!
DEFINITION. Ports, partitions and functions as routing sees them: roles and windows of the active forwarding bank, where functions
appear (R240), which BAR an address hits (R250), and the routing of a TLP in its partition (R224 to R227).
-/
namespace Sys2Proof.Machine

/-! ### Roles (R220) -/

def ROLE.DISABLED : Nat := 0
def ROLE.UPSTREAM : Nat := 1
def ROLE.DOWNSTREAM : Nat := 2
def ROLE.CANE : Nat := 3

/-- Role and partition of a port in the active forwarding bank. -/
def State.role (s : State) (p : Nat) : Nat := s.getAct (R.PRT_ROLE p) F.PRT_ROLE_ROLE
def State.portPt (s : State) (p : Nat) : Nat := s.getAct (R.PRT_ROLE p) F.PRT_ROLE_PT

/-- Role of a port in the forwarding bank that a packet of epoch `e` bound (R28). -/
def State.roleAt (s : State) (e p : Nat) : Nat :=
  s.getBank (e == s.get (R.GAF_EPSTAT 0) F.GAF_EPSTAT_EPOCH) (R.PRT_ROLE p) F.PRT_ROLE_ROLE

/-- The role is that of a PCI Express port. -/
def pcieRole (r : Nat) : Bool := r == ROLE.UPSTREAM || r == ROLE.DOWNSTREAM

/-- Ports of partition `pt` in role `r`, in increasing number. -/
def State.portsOf (s : State) (pt r : Nat) : List Nat :=
  s.actIndices 0x800010 4096 256 (fun i => (R.PRT_ROLE i).rst)
    (fun _ v => fieldOf v 0 2 == r && fieldOf v 2 6 == pt)

/-- The upstream port of a partition. -/
def State.upPort (s : State) (pt : Nat) : Option Nat := (s.portsOf pt ROLE.UPSTREAM).head?
/-- Its downstream ports. -/
def State.downPorts (s : State) (pt : Nat) : List Nat := s.portsOf pt ROLE.DOWNSTREAM

/-- The management partition (R221). -/
def State.mgmtPt (s : State) : Nat := s.get R.PTN_MGMT F.PTN_MGMT_MGMT_PT

/-- Whether a port, partition, queue or function is held (R236, R365). -/
def State.portHeld (s : State) (p : Nat) : Bool := s.bit (R.PRT_STATUS p) F.PRT_STATUS_HELD
def State.ptHeld (s : State) (pt : Nat) : Bool := s.bit (R.PTN_STATE pt) F.PTN_STATE_HELD
def State.ptInReset (s : State) (pt : Nat) : Bool := s.bit (R.PTN_STATE pt) F.PTN_STATE_IN_RESET
def State.fnHeld (s : State) (f : Nat) : Bool := s.bit (R.QEP_FNSTAT f) F.QEP_FNSTAT_HELD
def State.flrActive (s : State) (f : Nat) : Bool := s.bit (R.QEP_FNSTAT f) F.QEP_FNSTAT_FLR_ACTIVE

/-- Traffic that touches partition `pt` meets the containment of R32: held or in reset (R235). -/
def State.ptShut (s : State) (pt : Nat) : Bool := s.ptHeld pt || s.ptInReset pt

/-! ### Bridges (R222) -/

def upKey (pt : Nat) : Nat := pt * 1024
def epKey (pt : Nat) : Nat := pt * 1024 + 1
def dnKey (pt p : Nat) : Nat := pt * 1024 + 2 + p

def State.bridge (s : State) (k : Nat) : Bridge := SMap.get s.prt.bridges {} k
def State.setBridge (s : State) (k : Nat) (b : Bridge) : State :=
  { s with prt := { s.prt with bridges := SMap.set s.prt.bridges {} k b } }

/-- The address lies in a memory or prefetchable window of the bridge, and the bridge decodes memory. -/
def Bridge.hit (b : Bridge) (a : Nat) : Bool :=
  b.mse && ((decide (b.memBase ≤ a) && decide (a ≤ b.memLimit)) || (decide (b.prefBase ≤ a) && decide (a ≤ b.prefLimit)))

/-- The bus lies behind the bridge. -/
def Bridge.behind (b : Bridge) (bus : Nat) : Bool := decide (0 < b.sec) && decide (b.sec ≤ bus) && decide (bus ≤ b.sub)

/-- ACS control bits of the standard's register (R227). -/
def ACS.SV : Nat := 0
def ACS.TB : Nat := 1
def ACS.RR : Nat := 2
def ACS.CR : Nat := 3
def ACS.UF : Nat := 4
def ACS.DT : Nat := 6

/-- The ACS controls a bridge of partition `pt` acts under; ACS_FORCE sets four of them (R227). -/
def State.acsOf (s : State) (pt : Nat) (b : Bridge) : Nat :=
  if s.bitAct (R.PTN_CFG pt) F.PTN_CFG_ACS_FORCE then Nat.lor b.acs (2 ^ ACS.SV + 2 ^ ACS.RR + 2 ^ ACS.CR + 2 ^ ACS.UF) else b.acs

/-! ### Functions (R240 to R250) -/

/-- Configuration space of a function after reset: the PF's BAR2 has the size QEP_CTL resets to (R250). -/
def fnDefault (f : Nat) : FnCfg := if f = 0 then { bar2Log2 := 30 } else {}
def State.fn (s : State) (f : Nat) : FnCfg := SMap.get s.prt.fns (fnDefault f) f
def State.setFn (s : State) (f : Nat) (c : FnCfg) : State :=
  { s with prt := { s.prt with fns := SMap.set s.prt.fns (fnDefault f) f c } }

/-- Bits of the uncorrectable error status of AER, and error bits of Status and of Device Status, as the standard numbers them (R245, R248; log entry 30). -/
def AB.POISONED : Nat := 12
def AB.TIMEOUT : Nat := 14
def AB.ABORT : Nat := 15
def AB.UNEXPECTED : Nat := 16
def AB.UNSUPPORTED : Nat := 20
def ES.MASTER_PARITY : Nat := 8
def ES.SIGNALED_TA : Nat := 11
def ES.RECEIVED_TA : Nat := 12
def ES.RECEIVED_MA : Nat := 13
def ES.PARITY : Nat := 15
def DS.CORR : Nat := 0
def DS.NONFATAL : Nat := 1
def DS.FATAL : Nat := 2
def DS.UNSUPPORTED : Nat := 3

/-- A function records an uncorrectable error, or error bits of its Status register (R245, R248); Device Status shows it as not fatal, and
as an unsupported request where it is one. -/
def State.fnUncorr (s : State) (f bit : Nat) : State :=
  let c := s.fn f
  if 4096 < f then s
  else s.setFn f { c with
    aerUnc := Nat.lor c.aerUnc (2 ^ bit), devStat := Nat.lor c.devStat (2 ^ DS.NONFATAL + if bit = AB.UNSUPPORTED then 2 ^ DS.UNSUPPORTED else 0) }
def State.fnStatus (s : State) (f m : Nat) : State :=
  if 4096 < f then s else s.setFn f { s.fn f with status := Nat.lor (s.fn f).status m }

/-- A request to a function ends as Unsupported Request, or as Completer Abort (R248). -/
def State.fnUnsupported (s : State) (f : Nat) : State := s.fnUncorr f AB.UNSUPPORTED
def State.fnAbort (s : State) (f : Nat) : State := (s.fnUncorr f AB.ABORT).fnStatus f (2 ^ ES.SIGNALED_TA)

/-- VF `v` exists: VF Enable was set under ARI and v ≤ NumVFs (R240, R251). -/
def State.vfExists (s : State) (v : Nat) : Bool :=
  (s.fn 0).vfEn && (s.fn 0).ari && decide (1 ≤ v) && decide (v ≤ (s.fn 0).numVfs)

/-- The partition in which function `f` appears, if any (R240). -/
def State.fnPt (s : State) (f : Nat) : Option Nat :=
  if f = 0 then some s.mgmtPt
  else if s.vfExists f && s.bit (R.QEP_VFMAP f) F.QEP_VFMAP_ATTACHED then some (s.get (R.QEP_VFMAP f) F.QEP_VFMAP_PT)
  else none

/-- `f` is presented as an SR-IOV VF of the PF. -/
def State.isSriov (s : State) (f : Nat) : Bool := decide (1 ≤ f) && s.fnPt f == some s.mgmtPt

/-- The routing ID of a function in its partition (R240). -/
def State.routingId (s : State) (f pt : Nat) : Nat :=
  let sec := (s.bridge (epKey pt)).sec
  if f = 0 then sec * 256
  else if s.isSriov f then sec * 256 + f
  else (sec + s.get (R.QEP_VFMAP f) F.QEP_VFMAP_BUSOFF) * 256 + s.get (R.QEP_VFMAP f) F.QEP_VFMAP_FNUM

/-- The function that shares its PCI Express settings: an SR-IOV VF uses the PF's (R249). -/
def State.fnShared (s : State) (f : Nat) : FnCfg := if s.isSriov f then s.fn 0 else s.fn f

/-- The function may issue requests (R246). -/
def State.canMaster (s : State) (f : Nat) : Bool := (s.fn f).bme && !(s.fn f).d3

/-- The function answers memory requests (R246, R247). -/
def State.decodes (s : State) (f : Nat) : Bool :=
  !(s.fn f).d3 && (if s.isSriov f then (s.fn 0).vfMse else (s.fn f).mse)

/-- Bytes of Max_Payload_Size or Max_Read_Request_Size code `c` of the standard, up to 4,096 (R231, R249). -/
def sizeCode (c : Nat) : Nat := 128 * 2 ^ (min c 5)

/-- Clamp of the BAR2 size fields (QEP_CTL, QEP_VFBAR, QEP_VFCMD). -/
def clampLog2 (v : Nat) : Nat := max 21 (min 36 v)

/-- Which function BAR of partition `pt` an address hits: function, BAR number (6: expansion ROM), offset (R250). -/
def State.fnHit (s : State) (pt a : Nat) : Option (Nat × Nat × Nat) :=
  let inR (base size : Nat) : Bool := decide (base ≤ a) && decide (a < base + size)
  let own (f b0 : Nat) : Option (Nat × Nat × Nat) :=
    let c := s.fn f
    if s.decodes f then
      if inR c.bar0 b0 then some (f, 0, a - c.bar0)
      else if inR c.bar2 (2 ^ c.bar2Log2) then some (f, 2, a - c.bar2)
      else if inR c.bar4 (2 ^ 24) then some (f, 4, a - c.bar4)
      else if c.romEn && s.bit R.QEP_ID F.QEP_ID_ROM_PRESENT && inR c.rom (2 ^ 20) then some (f, 6, a - c.rom)
      else none
    else none
  let pf := if pt = s.mgmtPt then own 0 (2 ^ 26) else none
  let sriov : Option (Nat × Nat × Nat) :=
    let c := s.fn 0
    let sz2 := 2 ^ c.vf2Log2
    let try1 (base size bar : Nat) : Option (Nat × Nat × Nat) :=
      if base ≤ a then
        let v := (a - base) / size + 1
        if s.isSriov v && s.decodes v then some (v, bar, (a - base) % size) else none
      else none
    if pt = s.mgmtPt then (try1 c.vfBar0 (2 ^ 14) 0).or ((try1 c.vfBar2 sz2 2).or (try1 c.vfBar4 (2 ^ 24) 4)) else none
  let presented := s.prt.fns.findSome? (fun e =>
    if e.1 ≠ 0 ∧ s.fnPt e.1 = some pt ∧ pt ≠ s.mgmtPt then own e.1 (2 ^ 14) else none)
  pf.or (sriov.or presented)

/-! ### Routing (R224 to R227) -/

/-- Where a TLP goes. -/
inductive Route where
  | port (p : Nat)
  | ports (ps : List Nat)          -- a broadcast message
  | endpoint
  | peer (dpt addr : Nat)          -- into another partition through a peer window
  | consumed                       -- ends at the receiver or at a bridge (CONFIG_REQUEST serves configuration)
  | ur                             -- Unsupported Request
  | acs                            -- ACS violation
  | acsPeer                        -- a peer window whose P2P bits are not both set: UR as an ACS violation (R225)
  deriving DecidableEq, Repr

/-- The valid peer window of `pt` that holds an address, with its translated address (R225). -/
def State.peerWindow (s : State) (pt a : Nat) : Option (Nat × Nat) :=
  (List.range 16).findSome? (fun w =>
    let ra := R.PTN_PEERA pt w
    let base := s.getAct ra F.PTN_PEERA_BASE * 2 ^ 12
    if s.bitAct ra F.PTN_PEERA_VALID ∧ base ≤ a ∧ a < base + 2 ^ s.getAct ra F.PTN_PEERA_SIZE_LOG2 then
      some (s.getAct (R.PTN_PEERB pt w) F.PTN_PEERB_DEST_PT,
        s.getAct (R.PTN_PEERB pt w) F.PTN_PEERB_DBASE * 2 ^ 12 + (a - base))
    else none)

/-- A request that partition `pt` has no window of its own for: a peer window, or `dflt` (R225). -/
def State.peerOr (s : State) (pt a : Nat) (dflt : Route) : Route :=
  match s.peerWindow pt a with
  | none => dflt
  | some (dpt, da) =>
    if s.bitAct (R.PTN_CFG pt) F.PTN_CFG_P2P_OUT && s.bitAct (R.PTN_CFG dpt) F.PTN_CFG_P2P_IN then .peer dpt da else .acsPeer

/-- Toward the host: the upstream port, if the partition has one. -/
def State.toHost (s : State) (pt : Nat) : Route :=
  match s.upPort pt with
  | some p => .port p
  | none => .ur

/-- The downstream port or the endpoint whose window holds an address. -/
def State.downward (s : State) (pt a : Nat) : Option Route :=
  match (s.downPorts pt).find? (fun p => (s.bridge (dnKey pt p)).hit a) with
  | some p => some (.port p)
  | none => if (s.bridge (epKey pt)).hit a then (if (s.fnHit pt a).isSome then some .endpoint else some .ur) else none

/-- A memory request or AtomicOp that enters at the top of a partition (its upstream port, or a peer window). -/
def State.routeFromTop (s : State) (pt a : Nat) (mayPeer : Bool) : Route :=
  if (s.bridge (upKey pt)).hit a then (s.downward pt a).getD .ur
  else if mayPeer then s.peerOr pt a .ur
  else .ur

/-- A memory request or AtomicOp from below: `k` is the bridge it came through, `self` the port (256: the endpoint). -/
def State.routeFromBelow (s : State) (pt k self : Nat) (t : Tlp) : Route :=
  let b := s.bridge k
  let acs := s.acsOf pt b
  let up : Route := if b.bme && (s.bridge (upKey pt)).bme then s.peerOr pt t.addr (s.toHost pt) else .ur
  if bitOf acs ACS.SV && !b.behind (t.rid / 256) then .acs
  else if bitOf acs ACS.TB && t.translated then .acs
  else if bitOf acs ACS.RR && !(bitOf acs ACS.DT && t.translated) then up
  else match s.downward pt t.addr with
    | some (.port p) => if p = self then (if bitOf acs ACS.UF then up else .ur) else .port p
    | some r => r
    | none => if (s.bridge (upKey pt)).hit t.addr then .ur else up

/-- ID routing (R224): the bridge whose bus range holds the ID. `self` and `k` as above; from the upstream port `self` is none. -/
def State.routeById (s : State) (pt dest : Nat) : Route :=
  let bus := dest / 256
  let up := s.bridge (upKey pt)
  if bus = up.sec ∧ 0 < up.sec then .consumed
  else if up.behind bus then
    match (s.downPorts pt).find? (fun p => (s.bridge (dnKey pt p)).behind bus) with
    | some p => .port p
    | none => if (s.bridge (epKey pt)).behind bus then .endpoint else .ur
  else s.toHost pt

/-- The route of a TLP that arrived on port `p` of partition `pt` (R224, R225, R227). -/
def State.route (s : State) (p pt : Nat) (t : Tlp) : Route :=
  let fromUp := s.role p == ROLE.UPSTREAM
  let k := if fromUp then upKey pt else dnKey pt p
  match t.kind with
  | .memRd | .memWr | .atomic => if fromUp then s.routeFromTop pt t.addr true else s.routeFromBelow pt k p t
  | .io => .ur
  | .cfg =>
    if fromUp then
      match s.routeById pt t.dest with
      | .port q => if q = p then .ur else .port q
      | .ur => .ur
      | _ => .consumed
    else .ur
  | .msgToRoot => if fromUp then .consumed else s.toHost pt
  | .msgFromRoot => if fromUp then .ports (s.downPorts pt) else .ur
  | .msgLocal => .consumed
  | .msgById | .cpl =>
    match s.routeById pt t.dest with
    | .port q =>
      if q = p then .ur
      else if !fromUp && t.kind == .cpl && bitOf (s.acsOf pt (s.bridge k)) ACS.CR && s.role q == ROLE.DOWNSTREAM then s.toHost pt
      else .port q
    | r => r

/-- The bridge a port of partition `pt` stands behind (R222). -/
def State.bridgeKey (s : State) (p pt : Nat) : Nat := if s.role p = ROLE.UPSTREAM then upKey pt else dnKey pt p

/-- The form in which a TLP leaves through port `p` of partition `pt`: a Type 1 configuration request for the bus right behind a downstream
bridge becomes Type 0 (R224). -/
def State.sentForm (s : State) (p pt : Nat) (t : Tlp) : Tlp :=
  if t.kind = .cfg ∧ s.role p = ROLE.DOWNSTREAM ∧ t.dest / 256 = (s.bridge (dnKey pt p)).sec then { t with type1 := false } else t

/-- A hold covers memory, message and AtomicOp traffic only, not configuration (R237). -/
def holdCovers (k : TlpKind) : Bool :=
  match k with
  | .cfg | .io => false
  | _ => true

/-- A request that the requester waits on (R24, R32). -/
def nonPosted (t : Tlp) : Bool :=
  match t.kind with
  | .memRd | .atomic | .io | .cfg => true
  | _ => false

/-- Transaction type in the transmit staging (R229). -/
def ptypeOf (t : Tlp) : PType :=
  if nonPosted t then .nonPosted else if t.kind == TlpKind.cpl then .completion else .posted

end Sys2Proof.Machine
end

