-- ==== Sys2Proof/Machine/Crucible.lean ====
section
/-!
DEFINITION. The crucible: reserves and dynamic thresholds (R40 to R44), admission and its refusals (R42, R45), cell placement (R36),
reference counts and retirement (R38, R57), synthetic completions (R32), flushing (R47), mirror copies (R51 to R53) and the
commands CRU_COMMIT and CRU_RETADD.
-/
namespace Sys2Proof.Machine

/-! ### Accounting (R40, R41) -/

/-- Cells of the crucible. -/
def cellCount : Nat := 786432

/-- COQ numbers (R37). -/
def coqOfPort (p c : Nat) : Nat := 8 * p + c
def coqEndpoint (c : Nat) : Nat := 2048 + c
def coqSkim (s : Nat) : Nat := 2056 + s
def isSkim (q : Nat) : Bool := decide (2056 ≤ q) && decide (q < 2064)

/-- Res(q) in force and Occ(q). -/
def State.res (s : State) (q : Nat) : Nat := SMap.get s.cru.resv 32 q
def State.occ (s : State) (q : Nat) : Nat := SMap.get s.cru.occ 0 q

/-- Σ Res(q) over the 2,064 COQs. -/
def State.sumRes (s : State) : Nat := 32 * (2064 - s.cru.resv.length) + (s.cru.resv.map (·.2)).sum

/-- Ret: the valid entries of CRU_RETLIST. -/
def State.retired (s : State) : List Nat :=
  (s.regIndices 0x1040000 8 1024 (fun _ => 0) (fun _ v => fieldOf v 20 1 == 1)).map
    (fun i => s.get (R.CRU_RETLIST i) F.CRU_RETLIST_CELL)

/-- S = N − Σ Res(q) − Ret. -/
def State.poolS (s : State) : Nat := cellCount - s.sumRes - s.retired.length

/-- Sh(q) = max(0, Occ(q) − Res(q)). -/
def State.sh (s : State) (q : Nat) : Nat := s.occ q - s.res q

/-- F = S − Σ Sh(q). -/
def State.freeShared (s : State) : Nat := s.poolS - (s.cru.occ.map (fun e => e.2 - s.res e.1)).sum

/-- Alpha code of a COQ (R41). -/
def State.alpha (s : State) (q : Nat) : Nat :=
  if s.bit (R.CRU_COQCFG q) F.CRU_COQCFG_ALPHA_OVR then s.get (R.CRU_COQCFG q) F.CRU_COQCFG_ALPHA
  else if isSkim q then s.get R.CRU_DTHRESH F.CRU_DTHRESH_ALPHA_SKIM
  else fieldOf (s.rd R.CRU_DTHRESH) (4 * (q % 8)) 4

/-- T(q) = floor(F × 2^a / 256). -/
def State.threshold (s : State) (q : Nat) : Nat := s.freeShared * 2 ^ s.alpha q / 256

/-- m of R42. -/
def State.needShared (s : State) (q n : Nat) : Nat := (s.occ q + n - s.res q) - s.sh q

/-- Drop or lossless (R45): skim COQs are always drop. -/
def State.dropMode (s : State) (q : Nat) : Bool := isSkim q || s.bit (R.CRU_COQCFG q) F.CRU_COQCFG_MODE

/-- Admission of `n` gobs to COQ `q` (R42); every admission is refused while ENABLE is 0 (R469). -/
def State.admissible (s : State) (q n : Nat) : Bool :=
  let m := s.needShared q n
  let maxOcc := s.get (R.CRU_COQCFG q) F.CRU_COQCFG_MAXOCC
  s.bit R.CRU_CTL F.CRU_CTL_ENABLE &&
  (decide (s.sh q + m ≤ s.threshold q) || m == 0 || s.alpha q == 15) &&
  decide (m ≤ s.freeShared) &&
  (maxOcc == 0 || decide (s.occ q + n ≤ maxOcc)) &&
  decide (s.cru.recs < 262144)

/-! ### Cells (R36, R38, R57) -/

/-- The cell is in use or retired. -/
def State.cellBusy (s : State) (c : Nat) : Bool := SMap.get s.cru.refs 0 c != 0 || s.retired.contains c

/-- Free cells of a quad. -/
def State.quadFree (s : State) (quad : Nat) : Nat :=
  1536 - ((s.cru.refs.filter (fun e => e.1 / 1536 == quad)).length + (s.retired.filter (fun c => c / 1536 == quad)).length)

/-- Waiting reads of a quad, one served per beat from beat `next` on and none before it arrives (R36). -/
def timeReads : Nat → List (Nat × Nat × Nat) → List (Nat × Nat × Nat)
  | _, [] => []
  | next, (_, a, t) :: l => (max a next, a, t) :: timeReads (max a next + 1) l

/-- A read that arrives in beat `a` with tile order `t` joins the reads of a quad: behind those of earlier beats, and in its own beat behind
the tiles before its own (R36). -/
def joinRead (a t : Nat) : Nat → List (Nat × Nat × Nat) → List (Nat × Nat × Nat)
  | next, [] => [(max a next, a, t)]
  | next, (c, b, u) :: l =>
    if b < a ∨ (b = a ∧ u ≤ t) then (c, b, u) :: joinRead a t (c + 1) l else timeReads next ((0, a, t) :: (c, b, u) :: l)

/-- Place of a port's tile in the order of beat `b`, which starts one tile further on each beat; the endpoint port follows the tiles. -/
def tileTurn (p b : Nat) : Nat := if p < 256 then (p / 16 + 16 - b % 16) % 16 else 16

/-- The transmitter of port `p` reads cells in successive beats from `beat` on: each read joins those of its quad (R36). -/
def State.queueReads (s : State) (p : Nat) : Nat → List Nat → State
  | _, [] => s
  | beat, c :: cs =>
    let l := (SMap.get s.cru.reads [] (c / 1536)).filter (fun e => decide (s.now ≤ e.1))
    let s := { s with cru := { s.cru with reads := SMap.set s.cru.reads [] (c / 1536) (joinRead beat (tileTurn p beat) 0 l) } }
    s.queueReads p (beat + 1) cs

/-- The quad serves a read in beat `b`. -/
def State.quadReads (s : State) (quad b : Nat) : Bool := (SMap.get s.cru.reads [] quad).any (fun e => e.1 == b)

/-- The quad the allocator prefers for a write in beat `b`: among those that serve no read in it, the most free cells, first at or after
a pointer that moves on with the beat, not `avoid` (R36). -/
def State.pickQuad (s : State) (b : Nat) (avoid : Option Nat) : Option Nat :=
  ((List.range 512).foldl (fun (best : Option (Nat × Nat)) k =>
    let q := (b + k) % 512
    let fr := s.quadFree q
    if avoid = some q ∨ fr = 0 ∨ s.quadReads q b then best
    else match best with
      | none => some (q, fr)
      | some (_, bf) => if bf < fr then some (q, fr) else best) none).map (·.1)

/-- Quad and beat of a write due in beat `b`: the rule on consecutive gobs is dropped when no quad meets it, and while every quad with a
free cell serves a read the write waits a beat (R36). -/
def State.writeSlot (s : State) (prev : Option Nat) : Nat → Nat → Option (Nat × Nat)
  | 0, _ => none
  | fuel + 1, b =>
    match (s.pickQuad b prev).or (s.pickQuad b none) with
    | some quad => some (quad, b)
    | none => s.writeSlot prev fuel (b + 1)

/-- Beats after which every waiting read has been served. -/
def State.readsDue (s : State) : Nat := (s.cru.reads.map (fun e => (e.2.map (fun r => r.1 + 1 - s.now)).foldl max 0)).foldl max 0

/-- Place one gob in beat `b` or after it: cell, quad, beat. Which free cell of the quad is not fixed by the manual, a free value (log
entry 1). -/
def State.placeGob (s : State) (b : Nat) (prev : Option Nat) : Option (Nat × Nat × Nat × State) :=
  match s.writeSlot prev (s.readsDue + 1) b with
  | none => none
  | some (quad, b) =>
    let cells := ((List.range 1536).map (· + 1536 * quad)).filter (fun c => !s.cellBusy c)
    let (v, s) := s.free
    match cells[v % max cells.length 1]? with
    | none => none
    | some c => some (c, quad, b, { s with cru := { s.cru with refs := SMap.set s.cru.refs 0 c 1 } })

/-- Place `n` gobs with their data, each in its own beat from `b` on (R36; log entry 102). -/
def State.placeGobs (s : State) (b : Nat) (prev : Option Nat) (data : List Byte) : Nat → List Nat × State
  | 0 => ([], s)
  | n + 1 =>
    match s.placeGob b prev with
    | none => ([], s)
    | some (c, quad, b, s) =>
      let s := s.store (MB.cell + 256 * c) (data.take 256)
      let (cs, s) := s.placeGobs (b + 1) (some quad) (data.drop 256) n
      (c :: cs, s)

/-- Data bytes a packet carries. -/
def Pkt.data (p : Pkt) : List Byte :=
  match p.body with
  | .tlp t => t.data
  | .par b => b

/-- Bytes at the start of a packet that are not its data: the header of a TLP. -/
def Pkt.hdrLen (p : Pkt) : Nat :=
  match p.body with
  | .tlp t => p.bytes - t.data.length
  | .par _ => 0

/-- A cell leaves the use of its last packet record: it returns to the free list, or is retired if that is due (R38, R57). -/
def State.freeCell (s : State) (c : Nat) : State :=
  let s := { s with cru := { s.cru with refs := SMap.set s.cru.refs 0 c 0 } }
  if s.cru.due.contains c then
    let s := { s with cru := { s.cru with due := s.cru.due.filter (· != c) } }
    let n := s.retired.length
    if n < 1024 then s.wr (R.CRU_RETLIST n) (c + 2 ^ 20)
    else s.report FC.CELL_RETFULL UK.module 0 0 0 c
  else s

/-- One packet record less points to a cell (R38). -/
def State.unref (s : State) (c : Nat) : State :=
  let n := SMap.get s.cru.refs 0 c
  if n ≤ 1 then s.freeCell c else { s with cru := { s.cru with refs := SMap.set s.cru.refs 0 c (n - 1) } }

/-- A cell is to be retired: at once when it is free, when it is freed if it is in use, never twice (R57). -/
def State.retireCell (s : State) (c : Nat) : State :=
  if s.retired.contains c ∨ s.cru.due.contains c then s
  else
    let s := { s with cru := { s.cru with due := c :: s.cru.due } }
    if SMap.get s.cru.refs 0 c = 0 then s.freeCell c else s

/-! ### Packets and COQs -/

def State.coq (s : State) (q : Nat) : List Pkt := SMap.get s.cru.coqs [] q
def State.setCoq (s : State) (q : Nat) (l : List Pkt) : State :=
  { s with cru := { s.cru with coqs := SMap.set s.cru.coqs [] q l } }
def State.staged (s : State) (p c : Nat) : List Pkt := SMap.get s.cru.staged [] (8 * p + c)
def State.setStaged (s : State) (p c : Nat) (l : List Pkt) : State :=
  { s with cru := { s.cru with staged := SMap.set s.cru.staged [] (8 * p + c) l } }
def State.unacked (s : State) (p : Nat) : List Pkt := SMap.get s.cru.unacked [] p
def State.setUnacked (s : State) (p : Nat) (l : List Pkt) : State :=
  { s with cru := { s.cru with unacked := SMap.set s.cru.unacked [] p l } }

/-- Occ(q) takes a value; PEAK follows (CRU_COQSTAT). -/
def State.setOcc (s : State) (q n : Nat) : State :=
  let s := { s with cru := { s.cru with occ := SMap.set s.cru.occ 0 q n } }
  if s.get (R.CRU_COQSTAT q) F.CRU_COQSTAT_PEAK < n then s.put (R.CRU_COQSTAT q) F.CRU_COQSTAT_PEAK n else s

/-- The forwarding epoch a TLP binds at receipt (R28). -/
def State.fwdEpoch (s : State) : Nat := s.get (R.GAF_EPSTAT 0) F.GAF_EPSTAT_EPOCH

/-- A new packet, not yet admitted. -/
def State.newPkt (s : State) (role : Role) (body : Body) (bytes origin inPort inCls pt : Nat) : Pkt × State :=
  (⟨s.cru.nextPkt, role, body, bytes, origin, inPort, inCls, pt, s.fwdEpoch, 0, [], 0, false, 0, 0⟩,
    { s with cru := { s.cru with nextPkt := s.cru.nextPkt + 1 } })

/-- The first number below `n` at or after `v`, wrapping, that is not in use. -/
def freshFrom (n : Nat) (used : List Nat) : Nat → Nat → Nat
  | 0, v => v % n
  | fuel + 1, v => if used.contains (v % n) then freshFrom n used fuel (v + 1) else v % n

/-- A packet record is taken. Which free one is not fixed by the manual: a free value (log entry 16). -/
def State.takeRecord (s : State) : State :=
  let (v, s) := s.free
  { s with cru := { s.cru with recs := s.cru.recs + 1, recNos := freshFrom 262144 s.cru.recNos s.cru.recNos.length v :: s.cru.recNos } }

/-- The packet record taken last. -/
def State.newRecord (s : State) : Nat := s.cru.recNos.headD 0

/-- The charge of an admission (R42): Occ(q) rises at once and a packet record is taken. -/
def State.charge (s : State) (q n origin : Nat) : State :=
  ((s.setOcc q (s.occ q + n)).takeRecord).tally (ev 0x0A n (some origin) none 0)

/-- Admit a packet to COQ `q`, write its gobs and link it at the tail; none when R42 refuses it. -/
def State.admitPkt (s : State) (p : Pkt) (q : Nat) : Option State :=
  if s.admissible q p.gobs then
    let s := s.charge q p.gobs p.origin
    let r := s.newRecord
    let (cells, s) := s.placeGobs s.now none p.data p.gobs
    some (s.setCoq q (s.coq q ++ [{ p with coq := q, cells := cells, recNo := r }]))
  else none

/-- A packet record is released: its charge ends and its cells lose a reference (R38). -/
def State.releasePkt (s : State) (p : Pkt) : State :=
  let s := s.setOcc p.coq (s.occ p.coq - p.gobs)
  let s := { s with cru := { s.cru with recs := s.cru.recs - 1, recNos := s.cru.recNos.filter (· != p.recNo) } }
  p.cells.foldl State.unref s

/-- Count a packet dropped at a COQ (CRU_COQDROP) and at its port (R382). -/
def State.countDrop (s : State) (q port : Nat) : State :=
  (s.bump (R.CRU_COQDROP q) F.CRU_COQDROP_DROP_PKTS 1).portCount port PC.DROPS 1

/-- A refusal is counted (R377, class 0x0B). -/
def State.countRefusal (s : State) (origin : Nat) : State := s.tally (ev 0x0B 1 (some origin) none 0)

/-! ### Traffic of the endpoint port and synthetic completions -/

/-- Traffic that the endpoint port sends: admitted, or held at the endpoint port behind what waits there (R45). -/
def State.sendEndpoint (s : State) (p : Pkt) (q : Nat) : State :=
  let waitsBefore := s.cru.epHeld.any (fun w => w.coq % 8 == q % 8)
  match (if waitsBefore then none else s.admitPkt p q) with
  | some s => s
  | none =>
    let s := s.countRefusal p.origin
    let s := if waitsBefore then s else s.bump (R.CRU_COQDROP q) F.CRU_COQDROP_HOLD_EVENTS 1
    { s with cru := { s.cru with epHeld := s.cru.epHeld ++ [{ p with coq := q }] } }

/-- Header bytes of completions and of memory requests (the standard's sizes; log entry 5). -/
def hdrCpl : Nat := 12
def hdrMem : Nat := 16

/-- Bytes of completion data a request still owes after a part of `n` bytes with status `st`: none after the last part, or after one that
is not successful. -/
def leftAfter (left : Nat) (st : CplStatus) (n : Nat) : Nat := if st = .sc then left - n else 0

/-- Bytes of completion data a request asks for. -/
def owed (t : Tlp) : Nat := if t.kind = .memRd then t.count else 0

/-- A completion inside partition `pt` under a peer tag returns to the original requester, part by part; the last one frees the tag
(R226). -/
def State.peerRestore (s : State) (pt rid tag : Nat) (st : CplStatus) (n : Nat) : Nat × Nat × Nat × State :=
  match s.prt.peerTags.find? (fun r => r.destPt == pt && r.asRid == rid && r.tag == tag) with
  | none => (pt, rid, tag, s)
  | some r =>
    let left := leftAfter r.left st n
    let mine (x : PeerReq) : Bool := x.destPt == pt && x.asRid == rid && x.tag == tag
    let l := if left = 0 then s.prt.peerTags.filter (fun x => !mine x)
      else s.prt.peerTags.map (fun x => if mine x then { x with left := left } else x)
    (r.srcPt, r.rid, r.origTag, { s with prt := { s.prt with peerTags := l } })

/-- A completion made by the module for request (`rid`, `tag`) of partition `pt`; `ep` marks its data as poisoned (R24, R32, R112). It
is stored like all traffic of the endpoint port (R22); toward a held port it is discarded (R32). -/
def State.answerEp (s : State) (pt rid tag : Nat) (cls : Fin 8) (st : CplStatus) (ep : Bool) (data : List Byte) (origin : Nat)
    (role : Role) : State :=
  let (pt, rid, tag, s) := s.peerRestore pt rid tag st data.length
  let t : Tlp := ⟨.cpl, 0, rid, tag, rid, cls, hdrCpl + data.length, data.length, st, false, ep, data, false, false⟩
  let send (s : State) (q : Nat) : State :=
    let (p, s) := s.newPkt role (.tlp t) t.len origin 256 cls.val pt
    s.sendEndpoint p q
  match s.routeById pt rid with
  | .port q => if s.portHeld q then s else send s (coqOfPort q cls.val)
  | .endpoint => send s (coqEndpoint cls.val)
  | _ => s

/-- A completion whose data is good. -/
def State.answer (s : State) (pt rid tag : Nat) (cls : Fin 8) (st : CplStatus) (data : List Byte) (origin : Nat) (role : Role) : State :=
  s.answerEp pt rid tag cls st false data origin role

/-- The partition in which a request of a function is answered: the function's own, also for one that came through a peer window (R226). -/
def State.replyPt (s : State) (o : Nat) : Nat := (s.fnPt (oFn o)).getD (oPt o)

/-- A completion of the endpoint for a host's request of origin tag `o` (R13, R22). -/
def State.replyTo (s : State) (o : Nat) (x : Txn) (st : CplStatus) (data : List Byte) : State :=
  s.answer (s.replyPt o) x.rid.toNat x.tag.toNat x.cls st data o .endpoint

/-- A synthetic completion with Completer Abort status (R32). -/
def State.synthetic (s : State) (pt rid tag : Nat) (cls : Fin 8) (origin : Nat) : State :=
  s.answer pt rid tag cls .ca [] origin .synthetic

/-- A dropped clear-path TLP: a non-posted request receives Completer Abort (R45, R46, R56). -/
def State.abortIfNonPosted (s : State) (p : Pkt) : State :=
  match p.body with
  | .tlp t => if nonPosted t then s.synthetic p.pt t.rid t.tag t.cls p.origin else s
  | .par _ => s

/-- Take the packets that satisfy `f` out of a COQ of port `port` (R32, R47): every record released, non-posted requests answered. The
released packets are returned for the paths that own them. -/
def State.takeCoq (s : State) (q port : Nat) (f : Pkt → Bool) : State × List Pkt :=
  let ps := (s.staged (q / 8) (q % 8) ++ s.coq q).filter f
  let s := (s.setCoq q ((s.coq q).filter (fun x => !f x))).setStaged (q / 8) (q % 8) ((s.staged (q / 8) (q % 8)).filter (fun x => !f x))
  let s := ps.foldl (fun s p => ((s.releasePkt p).countDrop q port).abortIfNonPosted p) s
  (s, ps)

/-- Flush a COQ of port `port` (R47). -/
def State.flushCoq (s : State) (q port : Nat) : State × List Pkt := s.takeCoq q port (fun _ => true)

/-! ### Mirroring (R51 to R54) -/

/-- The 16-byte mirror header (R53). -/
def mirrorHeader (p : Pkt) (port : Nat) (egress flow trunc : Bool) (sess seq now : Nat) : List Byte :=
  leBytes (p.origin % 2 ^ 32 + port * 2 ^ 32 + bit01 egress * 2 ^ 41 + bit01 trunc * 2 ^ 42 + bit01 flow * 2 ^ 43
    + sess * 2 ^ 44 + p.bytes * 2 ^ 48) 8 ++ leBytes (seq % 2 ^ 32 + now % 2 ^ 32 * 2 ^ 32) 8

/-- Make a mirror copy for session `sess`, or count why not (R51 to R53). The packet comes back with its count of copies. A copy shares the
cells of a packet that has them, up to three references to each (R38); the TLP header at its start, whose bytes the standard lays out, is
a free value (log entry 103). The next slot of the window stays where it is when the session or its window changes (log entry 104). -/
def State.mirror (s : State) (p : Pkt) (sess port : Nat) (egress flow : Bool) : Pkt × State :=
  let r := R.CRU_MIRSESS sess
  if !s.bitAct r F.CRU_MIRSESS_EN then (p, s)
  else
    let seq := s.get (R.CRU_MIRSTAT sess) F.CRU_MIRSTAT_SEQ
    let cand := SMap.get s.cru.mirCand 0 sess
    let s := s.put (R.CRU_MIRSTAT sess) F.CRU_MIRSTAT_SEQ (seq + 1)
    let s := { s with cru := { s.cru with mirCand := SMap.set s.cru.mirCand 0 sess (cand + 1) } }
    if cand % 2 ^ s.getAct r F.CRU_MIRSESS_SAMPLE_LOG2 ≠ 0 then (p, s)
    else if 2 ≤ p.copies ∨ p.cells.any (fun x => decide (3 ≤ SMap.get s.cru.refs 0 x)) then (p, s.bump (R.CRU_MIRSTAT sess) F.CRU_MIRSTAT_DROPS 1)
    else
      let tr := s.getAct r F.CRU_MIRSESS_TRUNC
      let len := if tr = 0 then p.bytes else min p.bytes (16 * tr)
      let size := 16 + len
      let q := coqSkim sess
      if !s.admissible q (gobsOf size) then (p, s.bump (R.CRU_MIRSTAT sess) F.CRU_MIRSTAT_DROPS 1)
      else
        let winSlots := 2 ^ (8 + s.getAct r F.CRU_MIRSESS_WIN_LOG2)
        let n := ceilDiv size 256
        let at0 := SMap.get s.cru.mirWr 0 sess
        let pos := if at0 + n ≤ winSlots then at0 else 0
        let addr := s.getAct (R.CRU_MIRBASE sess) F.CRU_MIRBASE_BASE * 2 ^ 16 + 256 * pos
        let s := { s with cru := { s.cru with mirWr := SMap.set s.cru.mirWr 0 sess ((pos + n) % winSlots) } }
        let (v, s) := s.free
        let head := leBytes (v % 2 ^ (8 * p.hdrLen)) p.hdrLen
        let data := mirrorHeader p port egress flow (decide (len < p.bytes)) sess seq s.beats ++ (head ++ p.data).take len
        let dport := s.getAct r F.CRU_MIRSESS_DPORT
        let t : Tlp := ⟨.memWr, addr, s.getAct r F.CRU_MIRSESS_REQID, 0, 0, 0, hdrMem + size, size, .sc, false, false, data, false, false⟩
        let (c, s) := s.newPkt (.mirror sess) (.tlp t) size p.origin port 0 (s.portPt dport)
        let s := s.charge q (gobsOf size) p.origin
        let r := s.newRecord
        let (cells, s) := if p.cells.isEmpty then s.placeGobs s.now none data (gobsOf size)
          else (p.cells, p.cells.foldl (fun s x =>
            { s with cru := { s.cru with refs := SMap.set s.cru.refs 0 x (SMap.get s.cru.refs 0 x + 1) } }) s)
        let pre := if p.cells.isEmpty then 0 else min size (16 + p.hdrLen)
        ({ p with copies := p.copies + 1 }, s.setCoq q (s.coq q ++ [{ c with coq := q, cells := cells, recNo := r, pre := pre }]))

/-- Ingress mirroring of a packet received whole on port `port`, by the bank its epoch bound (R51, R52). -/
def State.mirrorIngress (s : State) (p : Pkt) (port : Nat) : Pkt × State :=
  let cur := p.epoch == s.fwdEpoch
  if s.getBank cur (R.CRU_MIRPORT port) F.CRU_MIRPORT_ING_EN = 1 then
    s.mirror p (s.getBank cur (R.CRU_MIRPORT port) F.CRU_MIRPORT_ING_SESS) port false false
  else (p, s)

/-- Egress mirroring of a packet whose transmission starts on port `port`. -/
def State.mirrorEgress (s : State) (p : Pkt) (port : Nat) : Pkt × State :=
  let cur := p.epoch == s.fwdEpoch
  if s.getBank cur (R.CRU_MIRPORT port) F.CRU_MIRPORT_EGR_EN = 1 then
    s.mirror p (s.getBank cur (R.CRU_MIRPORT port) F.CRU_MIRPORT_EGR_SESS) port true false
  else (p, s)

/-! ### CRU_COMMIT and CRU_RETADD -/

/-- COQs whose RESV was written since the last commit: what a read returns differs from the reserve in force (R44). Values of a commit
that was refused stay among them (DESIGN CHOICE, log entry 105). -/
def State.pendingResv (s : State) : List Nat := (List.range 2064).filter (fun q => s.get (R.CRU_COQCFG q) F.CRU_COQCFG_RESV != s.res q)

/-- The reserves a commit would put in force. -/
def State.newResv (s : State) : SMap Nat :=
  s.pendingResv.foldl (fun m q => SMap.set m 32 q (s.get (R.CRU_COQCFG q) F.CRU_COQCFG_RESV)) s.cru.resv

/-- Apply every RESV written since the last commit as one change, refused as a whole when S would fall below MIN_SHARED; a
refused commit keeps every reserve and sets COMMIT_BAD (R44). -/
def execCruCommit (go : Bool) (s : State) : Host.Outcome State Fault Refusal :=
  if go then
    let t := { s with cru := { s.cru with resv := s.newResv } }
    if cellCount < t.sumRes + s.retired.length + s.get R.CRU_MINSHARED F.CRU_MINSHARED_MIN_SHARED then
      .next (s.setBit R.CRU_STATUS F.CRU_STATUS_COMMIT_BAD)
    else .next t
  else .next s

/-- Firmware retires a named cell; a cell already retired is ignored, a cell in use is retired when it is freed (R57). -/
def execCruRetadd (cell : Fin 786432) (go : Bool) (s : State) : Host.Outcome State Fault Refusal :=
  .next (if go then s.retireCell cell.val else s)

end Sys2Proof.Machine
end

