-- ==== Sys2Proof/Machine/Endpoint.lean ====
section
/-!
DEFINITION. MSI-X messages of the queue endpoint's functions (R254), and the writes that functions issue through the upstream port of
their partition (R242).
-/
namespace Sys2Proof.Machine

/-- Send a packet out of the upstream port of a partition in class `cls`; without an UPSTREAM port in the active bank, or toward
a held port, it is dropped and counted (R32, log entry 6). The result says whether it went. -/
def State.sendUp (s : State) (pt cls : Nat) (mk : Nat → State → Pkt × State) : Bool × State :=
  match s.upPort pt with
  | none => (false, s)
  | some p =>
    let q := coqOfPort p cls
    if s.portHeld p then (false, s.countDrop q 256)
    else
      let (pk, s) := mk q s
      (true, s.sendEndpoint pk q)

/-- Vectors of a function (R254). -/
def msixVectors (f : Nat) : Nat := if f = 0 then 2048 else 64

/-- A message on vector `v` is masked or forbidden, so that it sets its pending bit (R246, R254). -/
def State.msixBlocked (s : State) (f v : Nat) : Bool :=
  !(s.fn f).msixEn || (s.fn f).fmask || bitOf (s.rd (R.MSIX f v 1)) 32 || !s.canMaster f

/-- Pending bit of a vector; with it stands the traffic class of the message it delays, plus one (R254). -/
def State.pendingBit (s : State) (f v : Nat) : Bool := SMap.get s.prt.pba 0 (2048 * f + v) != 0
def State.setPending (s : State) (f v : Nat) (cls : Option Nat) : State :=
  { s with prt := { s.prt with pba := SMap.set s.prt.pba 0 (2048 * f + v) (match cls with | some c => c + 1 | none => 0) } }

/-- A message is due on vector `v` of function `f`, in traffic class `cls` (R254). -/
def State.msix (s : State) (f v cls : Nat) : State :=
  if msixVectors f ≤ v then s.bump (R.QEP_FNSTAT f) F.QEP_FNSTAT_VEC_ERR 1
  else match s.fnPt f with
    | none => s
    | some pt =>
      if s.msixBlocked f v then s.setPending f v (some cls)
      else
        let addr := s.rd (R.MSIX f v 0)
        let data := s.rd (R.MSIX f v 1) % 2 ^ 32
        (s.sendUp pt cls (fun _ s =>
          let t : Tlp := ⟨.memWr, addr, s.routingId f pt, 0, 0, ⟨cls % 8, Nat.mod_lt _ (by decide)⟩, hdrMem + 4, 4, .sc, false, false, leBytes data 4, false, false⟩
          s.newPkt (.msix f v) (.tlp t) t.len (s.origin pt f 2 0) 256 cls pt)).2

/-- Pending messages of a function whose delay has ended are sent, each in its class (R254). -/
def State.msixRetry (s : State) (f : Nat) : State :=
  (s.prt.pba.filter (fun e => e.1 / 2048 == f && e.2 != 0)).foldl (fun s e =>
    if s.msixBlocked f (e.1 % 2048) then s else (s.setPending f (e.1 % 2048) none).msix f (e.1 % 2048) (e.2 - 1)) s

end Sys2Proof.Machine
end

