-- ==== Sys2Proof/Machine/Tree.lean ====
section
/-!
DEFINITION. The scheduler's hierarchy: nodes and parents of the active bank (R87), groups of active children in join order (R89), and
the ways a queue becomes active or stops being active (R89, R93).
-/
namespace Sys2Proof.Machine

/-- Node indices (R87). -/
def svcNode (v : Nat) : Nat := 16384 + v
def portNode (p : Nat) : Nat := 18432 + p
def nodeCount : Nat := 18944

/-- How a child is named in a group: a queue by its number, a node by 65,536 + n. -/
def nodeKey (n : Nat) : Nat := 65536 + n

/-- The subscriber of a queue (R87). -/
def State.subOf (s : State) (q : Nat) : Nat := s.get (R.QCTX q 1) F.QCTX_SUBNODE
/-- The parent node of a node, in the active bank (R87). -/
def State.parentOf (s : State) (n : Nat) : Nat :=
  let p := s.getAct (R.SCH_NODECFG n) F.SCH_NODECFG_PARENT
  if n < 16384 then svcNode p else portNode p

/-- PRIO, WEIGHT and parent of a child, in the active bank (R87, R89, R92). -/
def State.childPrio (s : State) (c : Nat) : Nat :=
  if c < 65536 then s.getAct (R.SCH_QATT c) F.SCH_QATT_PRIO else s.getAct (R.SCH_NODECFG (c - 65536)) F.SCH_NODECFG_PRIO
def State.childWeight (s : State) (c : Nat) : Nat :=
  max 1 (if c < 65536 then s.getAct (R.SCH_QATT c) F.SCH_QATT_WEIGHT else s.getAct (R.SCH_NODECFG (c - 65536)) F.SCH_NODECFG_WEIGHT)
def State.childParent (s : State) (c : Nat) : Nat := if c < 65536 then s.subOf c else s.parentOf (c - 65536)

/-- Group of PRIO `l` under parent node `n`, in join order. -/
def State.group (s : State) (n l : Nat) : List Nat := SMap.get s.sch.groups [] (8 * n + l)
def State.setGroup (s : State) (n l : Nat) (g : List Nat) : State :=
  { s with sch := { s.sch with groups := SMap.set s.sch.groups [] (8 * n + l) g } }
def State.deficit (s : State) (c : Nat) : Int := SMap.get s.sch.defs 0 c
def State.setDeficit (s : State) (c : Nat) (d : Int) : State := { s with sch := { s.sch with defs := SMap.set s.sch.defs 0 c d } }
def State.groupPtr (s : State) (n l : Nat) : Nat := SMap.get s.sch.ptr 0 (8 * n + l)
def State.setGroupPtr (s : State) (n l v : Nat) : State :=
  { s with sch := { s.sch with ptr := SMap.set s.sch.ptr 0 (8 * n + l) v } }

/-- The node has active children. -/
def State.nodeActive (s : State) (n : Nat) : Bool := (List.range 8).any (fun l => !(s.group n l).isEmpty)

/-- The child after `c` in a group, wrapping. -/
def successor (g : List Nat) (c : Nat) : Nat :=
  match g.dropWhile (fun x => x != c) with
  | _ :: y :: _ => y
  | _ => g.headD c

/-- A child that becomes active joins the tail of its group (R89). -/
def State.joinGroup (s : State) (c : Nat) : State :=
  let n := s.childParent c
  let l := s.childPrio c
  if (s.group n l).contains c then s else s.setGroup n l (s.group n l ++ [c])

/-- A child that stops being active leaves the group that holds it; its surplus ends (R89, R93). -/
def State.leaveGroup (s : State) (c n : Nat) : State :=
  let s := (List.range 8).foldl (fun s l =>
    if (s.group n l).contains c then
      let s := if s.groupPtr n l = c + 1 then
          s.setGroupPtr n l (if (s.group n l).length = 1 then 0 else successor (s.group n l) c + 1) else s
      s.setGroup n l ((s.group n l).filter (fun x => x != c))
    else s) s
  s.setDeficit c (min (s.deficit c) 0)

/-- A queue becomes active, and with it every node above it (R89). -/
def State.activate (s : State) (q : Nat) : State :=
  let sub := s.subOf q
  ((s.joinGroup q).joinGroup (nodeKey sub)).joinGroup (nodeKey (s.parentOf sub))

/-- A queue stops being active, and with it every node above it that has no other active child (R89, R93). -/
def State.deactivate (s : State) (q : Nat) : State :=
  let sub := s.subOf q
  let svc := s.parentOf sub
  let s := s.leaveGroup q sub
  if s.nodeActive sub then s
  else
    let s := s.leaveGroup (nodeKey sub) svc
    if s.nodeActive svc then s else s.leaveGroup (nodeKey svc) (s.parentOf svc)

end Sys2Proof.Machine
end

