-- ==== Sys2Proof/Machine/Queue.lean ====
section
/-!
DEFINITION. The queue path: doorbells and descriptors (R58 to R64), payload buffer and fetches (R65, R66), dispatch to Jack (R67, R68),
linking (R70), deliveries (R71 to R73), send completions and interrupts (R74 to R77), queue states (R80 to R84) and queue locks
(R85, R86).
-/
namespace Sys2Proof.Machine

/-! ### Queues and their owners -/

/-- Queue states (R80). -/
def QS.DISABLED : Nat := 0
def QS.ACTIVE : Nat := 1
def QS.FROZEN : Nat := 2
def QS.DRAINING : Nat := 3
def QS.DRAINED : Nat := 4
def QS.HELD : Nat := 5

/-- Completion status codes (R75). -/
def ST.OK : Nat := 0x00
def ST.PROG_DROP : Nat := 0x01
def ST.BAD_DESC : Nat := 0x02
def ST.FETCH_ERR : Nat := 0x03
def ST.OVERFLOW : Nat := 0x04
def ST.FROZEN : Nat := 0x05
def ST.DEST_OFF : Nat := 0x06
def ST.DEST_FROZEN : Nat := 0x07
def ST.DEST_HELD : Nat := 0x08
def ST.RING_FULL : Nat := 0x09
def ST.TOO_BIG : Nat := 0x0A
def ST.DATA_ERR : Nat := 0x0B
def ST.LINK_DOWN : Nat := 0x0C
def ST.QUEUE_FLUSHED : Nat := 0x0D
def ST.DEST_UNKNOWN : Nat := 0x0E

def State.qstate (s : State) (q : Nat) : Nat := s.get (R.QCTX q 0) F.QCTX_STATE
def State.setQstate (s : State) (q v : Nat) : State := s.put (R.QCTX q 0) F.QCTX_STATE v
def State.qOwnerFn (s : State) (q : Nat) : Nat := s.get (R.QCTX q 0) F.QCTX_OWNER_FN
def State.qOwnerPt (s : State) (q : Nat) : Nat := s.get (R.QCTX q 0) F.QCTX_OWNER_PT
def State.qTc (s : State) (q : Nat) : Nat := s.get (R.QCTX q 1) F.QCTX_TC

/-- Origin tag of an engine acting for the owner of queue `q` (R23). -/
def State.qOrigin (s : State) (q eng : Nat) : Nat := s.origin (s.qOwnerPt q) (s.qOwnerFn q) eng 0

/-- The global name of a local queue (R59). -/
def State.globalQ (s : State) (q : Nat) : Nat := s.fid * 65536 + q

/-- The owner is held, or its partition is held or in reset (R32, R235). -/
def State.ownerShut (s : State) (q : Nat) : Bool := s.fnHeld (s.qOwnerFn q) || s.ptShut (s.qOwnerPt q)

/-- Function `fn`, in the partition in which it appears, owns the page that serves queue `q` and the queue itself (R58, R60, R244). The
partition an access entered by is another matter (R23). -/
def State.ownsPage (s : State) (fn q : Nat) : Bool :=
  let h := q / 16 * 16
  match s.fnPt fn with
  | none => false
  | some pt => s.qOwnerFn h == fn && s.qOwnerPt h == pt && s.qOwnerFn q == fn && s.qOwnerPt q == pt

/-- A queue's counter in its context record (words 4 to 7) rises. -/
def State.qCount (s : State) (q w : Nat) : State := s.wr (R.QCTX q w) (s.rd (R.QCTX q w) + 1)

/-! ### Send completions (R74 to R77) -/

/-- Size of a completion ring in entries. -/
def State.cqSize (s : State) (q : Nat) : Nat := 2 ^ (6 + s.get (R.QUE_CQCFG q) F.QUE_CQCFG_CQ_LOG2)

/-- Slot of the next completion entry: CQ_TAIL and the entries on their way. -/
def State.cqPos (s : State) (q : Nat) : Nat :=
  (s.get (R.QUE_CQTAIL q) F.QUE_CQTAIL_CQ_TAIL + SMap.get s.que.cqFly 0 q) % s.cqSize q

/-- The ring takes no further entry: one entry stays empty, so that a full ring differs from an empty one (R76; DESIGN CHOICE, log entry
113). -/
def State.cqFull (s : State) (q : Nat) : Bool :=
  (s.cqPos q + 1) % s.cqSize q == s.get (R.QUE_CQHEAD q) F.QUE_CQHEAD_CQ_HEAD % s.cqSize q

/-- The ring of queue `q` is reached through a held port (R32). -/
def State.ringPortHeld (s : State) (q : Nat) : Bool :=
  match s.upPort (s.qOwnerPt q) with
  | some p => s.portHeld p
  | none => false

/-- A completion is suppressed: its source queue, or the owner of it, is held, in reset or in a function-level reset, or stands behind a held
port (R32, R255). -/
def State.cplSuppressed (s : State) (q : Nat) : Bool :=
  s.qstate q == QS.HELD || s.ownerShut q || s.flrActive (s.qOwnerFn q) || s.ringPortHeld q

/-- An entry or a header of queue `q` is posted: its QUE_IRQCFG as written is in force from now on (R17, QUE_IRQCFG). -/
def State.postEntry (s : State) (q : Nat) : State := s.wrAct (R.QUE_IRQCFG q) (s.rd (R.QUE_IRQCFG q))

/-- Post a send completion of source queue `q` (R74), discard it (R76) or suppress it (R32). A failure that is also discarded counts once in
DROPPED (DESIGN CHOICE, log entry 114). -/
def State.complete (s : State) (q tag status reason dq len : Nat) : State :=
  let s := if status ≠ ST.OK ∨ s.cplSuppressed q then s.qCount q 7 else s
  if s.cplSuppressed q then s
  else if !s.bit (R.QUE_CQCFG q) F.QUE_CQCFG_CQ_EN || s.cqFull q || !s.canMaster (s.qOwnerFn q) || (s.upPort (s.qOwnerPt q)).isNone then
    let s := if status = ST.OK then s.qCount q 7 else s
    s.setBit (R.QUE_QINFO q) F.QUE_QINFO_CQ_OVF
  else
    let pos := s.cqPos q
    let pass := SMap.get s.que.cqPass 0 q
    let w0 := tag % 2 ^ 16 + status * 2 ^ 16 + reason % 256 * 2 ^ 24 + dq % 2 ^ 20 * 2 ^ 32 + (1 - pass % 2) * 2 ^ 63
    let w1 := s.beats % 2 ^ 32 + len % 2 ^ 14 * 2 ^ 32
    let addr := s.get (R.QUE_CQCFG q) F.QUE_CQCFG_CQ_BASE * 2 ^ 12 + 16 * pos
    let s := { s with que := { s.que with
      cqFly := SMap.set s.que.cqFly 0 q (SMap.get s.que.cqFly 0 q + 1),
      cqPass := SMap.set s.que.cqPass 0 q (if pos + 1 = s.cqSize q then pass + 1 else pass) } }
    let s := s.postEntry q
    let fn := s.qOwnerFn q
    let pt := s.qOwnerPt q
    let tc := s.qTc q
    (s.sendUp pt tc (fun _ s =>
      let t : Tlp := ⟨.memWr, addr, s.routingId fn pt, 0, 0, ⟨tc % 8, Nat.mod_lt _ (by decide)⟩, hdrMem + 16, 16, .sc, false, false,
        leBytes w0 8 ++ leBytes w1 8, false, false⟩
      s.newPkt (.cqEntry q) (.tlp t) t.len (s.qOrigin q 2) 256 tc pt)).2

/-- A completion entry on its way is lost to the hold of its port: the place it took in the ring is given back, and it counts in
DROPPED (R32). -/
def State.cqDiscard (s : State) (q : Nat) : State :=
  let fly := SMap.get s.que.cqFly 0 q
  if fly = 0 then s
  else
    let s := { s with que := { s.que with cqFly := SMap.set s.que.cqFly 0 q (fly - 1) } }
    let pass := SMap.get s.que.cqPass 0 q
    let s := if s.cqPos q + 1 = s.cqSize q then { s with que := { s.que with cqPass := SMap.set s.que.cqPass 0 q (pass - 1) } } else s
    s.qCount q 7

/-- The outcome of a packet reaches its source by a send completion (R69, R74); a success is reported only when CMPL asks for it. A
packet from another module was reported at its ENQ, and a later drop is counted in the destination queue's context (R313). -/
def State.outcome (s : State) (p : QPkt) (status reason : Nat) : State :=
  if p.remote then (if status = ST.OK then s else s.qCount (p.dq % 65536) 7)
  else if status = ST.OK ∧ p.cmpl = false then s
  else s.complete (p.src % 65536) p.tag status reason p.dq p.len

/-- Count an entry or a header toward the interrupt of queue `q` and send the message when MOD_CNT is reached (R77). -/
def State.moderate (s : State) (q : Nat) (rx : Bool) : State :=
  let n := SMap.get (if rx then s.que.rxMod else s.que.cqMod) 0 q + 1
  let fire := decide (s.getAct (R.QUE_IRQCFG q) F.QUE_IRQCFG_MOD_CNT ≤ n)
  let left := if fire then 0 else n
  let s := if rx then { s with que := { s.que with rxMod := SMap.set s.que.rxMod 0 q left } }
    else { s with que := { s.que with cqMod := SMap.set s.que.cqMod 0 q left } }
  if fire then
    s.msix (s.qOwnerFn q) (s.getAct (R.QUE_IRQCFG q) (if rx then F.QUE_IRQCFG_RX_VEC else F.QUE_IRQCFG_CQ_VEC)) (s.qTc q)
  else s

/-- MOD_TIME has passed since the first unreported entry: the message is sent (R77). -/
def execModTimeExpiry (q : Fin 65536) (rx : Bool) (s : State) : Host.Outcome State Fault Refusal :=
  let n := SMap.get (if rx then s.que.rxMod else s.que.cqMod) 0 q.val
  if n = 0 ∨ s.getAct (R.QUE_IRQCFG q.val) F.QUE_IRQCFG_MOD_TIME = 0 then .next s
  else
    let s := if rx then { s with que := { s.que with rxMod := SMap.set s.que.rxMod 0 q.val 0 } }
      else { s with que := { s.que with cqMod := SMap.set s.que.cqMod 0 q.val 0 } }
    .next (s.msix (s.qOwnerFn q.val)
      (s.getAct (R.QUE_IRQCFG q.val) (if rx then F.QUE_IRQCFG_RX_VEC else F.QUE_IRQCFG_CQ_VEC)) (s.qTc q.val))

/-! ### Payload buffer (R64, R65) -/

/-- Gobs of the payload buffer. -/
def State.pbufSize (s : State) : Nat := s.get R.QUE_PBUF F.QUE_PBUF_PAGES * 8192
/-- FREE of QUE_PBUFSTAT. -/
def State.pbufFree (s : State) : Nat := s.pbufSize - s.que.pbuf.length

/-- The lowest `n` gobs from `g` up that are not in the rising list. -/
def lowestFree : Nat → Nat → List Nat → Nat → List Nat
  | 0, _, _, _ => []
  | _, _, _, 0 => []
  | fuel + 1, g, used, n + 1 =>
    match used with
    | [] => g :: lowestFree fuel (g + 1) [] n
    | u :: us => if u = g then lowestFree fuel (g + 1) us (n + 1) else g :: lowestFree fuel (g + 1) used n

/-- Insert into a rising list. -/
def insertRising (l : List Nat) (x : Nat) : List Nat :=
  match l with
  | [] => [x]
  | y :: t => if x < y then x :: y :: t else if x = y then l else y :: insertRising t x

/-- Allocate the lowest-numbered free gobs (R65). -/
def State.pbufTake (s : State) (n : Nat) : List Nat × State :=
  let gs := lowestFree (s.que.pbuf.length + n) 0 s.que.pbuf n
  let s := { s with que := { s.que with pbuf := gs.foldl insertRising s.que.pbuf } }
  let s := if s.pbufFree < s.get R.QUE_PBUFSTAT F.QUE_PBUFSTAT_LOW then s.put R.QUE_PBUFSTAT F.QUE_PBUFSTAT_LOW s.pbufFree else s
  (gs, s)

/-- Allocate gobs for source queue `q` (R64, R65). -/
def State.pbufAlloc (s : State) (q n : Nat) : List Nat × State :=
  let (gs, s) := s.pbufTake n
  (gs, s.put (R.QCTX q 3) F.QCTX_PBUF_USED (s.get (R.QCTX q 3) F.QCTX_PBUF_USED + n))

/-- Free gobs that source queue `q` (if it is local) holds. -/
def State.pbufRelease (s : State) (q : Option Nat) (gs : List Nat) : State :=
  let s := { s with que := { s.que with pbuf := s.que.pbuf.filter (fun g => !gs.contains g) } }
  match q with
  | some q => s.put (R.QCTX q 3) F.QCTX_PBUF_USED (s.get (R.QCTX q 3) F.QCTX_PBUF_USED - gs.length)
  | none => s

/-- The local source queue of a packet, if it came from this module. -/
def QPkt.localSrc (p : QPkt) : Option Nat := if p.remote then none else some (p.src % 65536)

/-- Ranges of the gather store that `n` bytes of payload take in a chain of gobs. -/
def State.gobRanges (s : State) : List Nat → Nat → List (Nat × Nat)
  | [], _ => []
  | g :: gs, n => if n = 0 then [] else (s.gobAddr g, min n 256) :: s.gobRanges gs (n - 256)

/-- The controller takes accesses of the payload engines at the ranges now; none: they wait (R109, R113, R118, R120, R125). -/
def State.gobTurn (s : State) (rs : List (Nat × Nat)) : Option State := if s.gstServes then s.gstTurn (some GC.Q) 0 rs else none

/-- Store a payload into a chain of gobs. -/
def State.storeChain (s : State) (origin : Nat) : List Nat → List Byte → State
  | [], _ => s
  | g :: gs, bs => (s.gstStore (s.gobAddr g) origin (bs.take 256)).storeChain origin gs (bs.drop 256)

/-- Read `n` bytes from a chain of gobs; the flag says whether every word was usable. -/
def State.readChain (s : State) (origin : Nat) : List Nat → Nat → List Byte × Bool × State
  | [], _ => ([], true, s)
  | g :: gs, n =>
    let k := min n 256
    let (b, ok, s) := s.gstRead (s.gobAddr g) k origin
    let (bs, ok', s) := s.readChain origin gs (n - k)
    (b ++ bs, ok && ok', s)

/-! ### Descriptors (R60 to R64) -/

def State.descs (s : State) (q : Nat) : List Desc := SMap.get s.que.descs [] q
def State.setDescs (s : State) (q : Nat) (l : List Desc) : State :=
  { s with que := { s.que with descs := SMap.set s.que.descs [] q l } }

/-- A submission slot of queue `q` is taken or freed (R64). -/
def State.slotTake (s : State) (q : Nat) : State :=
  let s := { s with que := { s.que with slotsUsed := s.que.slotsUsed + 1 } }
  s.put (R.QCTX q 3) F.QCTX_SQ_USED (s.get (R.QCTX q 3) F.QCTX_SQ_USED + 1)
def State.slotFree (s : State) (q : Nat) : State :=
  let s := { s with que := { s.que with slotsUsed := s.que.slotsUsed - 1 } }
  s.put (R.QCTX q 3) F.QCTX_SQ_USED (s.get (R.QCTX q 3) F.QCTX_SQ_USED - 1)

/-- Count a dropped doorbell or page write for its function and globally (R60, R61, R64). -/
def State.badWrite (s : State) (fn : Nat) : State :=
  let s := s.bump R.QUE_ERRLOG F.QUE_ERRLOG_BADWR 1
  if fn ≤ 4096 then s.bump (R.QEP_FNSTAT fn) F.QEP_FNSTAT_BADWR 1 else s

/-- Log an error in QUE_ERRLOG, or set OVF. -/
def State.queErrLog (s : State) (q kind fn pt : Nat) : State :=
  if s.bit R.QUE_ERRLOG F.QUE_ERRLOG_VALID then s.setBit R.QUE_ERRLOG F.QUE_ERRLOG_OVF
  else
    let s := s.put R.QUE_ERRLOG F.QUE_ERRLOG_QUEUE q
    let s := s.put R.QUE_ERRLOG F.QUE_ERRLOG_KIND kind
    let s := s.put R.QUE_ERRLOG F.QUE_ERRLOG_FN fn
    let s := s.put R.QUE_ERRLOG F.QUE_ERRLOG_PT pt
    s.setBit R.QUE_ERRLOG F.QUE_ERRLOG_VALID

/-- Word `i` of a doorbell write. -/
def dbWord (data : List Byte) (i : Nat) : Nat := leValue (((data.drop (8 * i)).take 8).map (·.toNat))

/-- A well-formed doorbell write (R61). -/
def dbFormatOk (start : Nat) (data : List Byte) (full : Bool) : Bool :=
  full && start == 0 && decide (32 ≤ data.length) && decide (data.length ≤ 128) && data.length % 4 == 0

/-- BAD_DESC (R63). -/
def badDesc (data : List Byte) (inlineMax : Nat) : Bool :=
  let w := dbWord data 0
  let len := fieldOf w 16 14
  let inl := bitOf w 8
  fieldOf w 0 8 != 1 || len == 0 || fieldOf w 10 6 != 0 || fieldOf w 30 2 != 0 || fieldOf w 48 16 != 0 ||
  (inl && decide (inlineMax < len)) || (!inl && data.length != 32) || (inl && data.length != 32 + (len + 3) / 4 * 4)

/-- A doorbell write reaches the endpoint: dropped, refused with a status, or accepted into a slot (R60 to R64, R469). A function that
does not decode memory takes none (R246, R247). -/
def execDoorbellWrite (o : Origin) (q : Fin 65536) (start : Fin 128) (data : List Byte) (full : Bool) (s : State) :
    Host.Outcome State Fault Refusal :=
  let fn := oFn o.toNat
  let pt := oPt o.toNat
  let q := q.val
  let w := dbWord data 0
  let len := fieldOf w 16 14
  let tag := fieldOf w 32 16
  let st := s.qstate q
  if s.flt.stopped then .next s
  else if !s.decodes fn then .next (s.fnUnsupported fn)
  else if !s.bit R.QUE_CTL F.QUE_CTL_ENABLE then .next (s.badWrite fn)
  else if !s.ownsPage fn q then .next ((s.badWrite fn).queErrLog q 3 fn pt)
  else if !dbFormatOk start.val data full then
    .next (((s.badWrite fn).queErrLog q 1 fn pt).report FC.DB_FORMAT UK.function fn o.toNat 0 q)
  else if st = QS.DISABLED then .next (s.badWrite fn)
  else if st = QS.HELD ∨ s.ownerShut q ∨ s.flrActive fn ∨ s.ptShut pt then .next (s.badWrite fn)
  else if st ≠ QS.ACTIVE then .next (s.complete q tag ST.FROZEN 0 0 len)
  else if badDesc data (s.get (R.QCTX q 0) F.QCTX_INLINE_MAX) then
    .next ((s.queErrLog q 2 fn pt).complete q tag ST.BAD_DESC 0 0 len)
  else if 65536 ≤ s.que.slotsUsed ∨ s.get (R.QCTX q 2) F.QCTX_SQ_MAX ≤ s.get (R.QCTX q 3) F.QCTX_SQ_USED then
    .next ((s.bump R.QUE_SQSTAT F.QUE_SQSTAT_OVERFLOWS 1).complete q tag ST.OVERFLOW 0 0 len)
  else
    let d : Desc := ⟨s.que.nextId, q, bitOf w 8, bitOf w 9, len, tag, dbWord data 1, dbWord data 2, dbWord data 3,
      if bitOf w 8 then (data.drop 32).take len else [], .waiting, [], []⟩
    let s := { s with que := { s.que with nextId := s.que.nextId + 1 } }
    .next (((s.slotTake q).qCount q 4).setDescs q (s.descs q ++ [d]))

/-! ### Payload fetch (R65, R66) -/

/-- States in which accepted descriptors are fetched and dispatched (R80). -/
def fetches (st : Nat) : Bool := st == QS.ACTIVE || st == QS.FROZEN || st == QS.DRAINING

/-- Replace the descriptor of the same number. -/
def replaceDesc (l : List Desc) (d : Desc) : List Desc := l.map (fun x => if x.id = d.id then d else x)

/-- The descriptor leaves the queue; its gobs and its slot are freed. -/
def State.dropDesc (s : State) (q : Nat) (d : Desc) : State :=
  let s := s.setDescs q ((s.descs q).filter (fun x => x.id != d.id))
  (s.pbufRelease (some q) d.gobs).slotFree q

/-- Reads of a fetch still out become abandoned tags of the owner (OUTRD, R255). -/
def State.abandonReads (s : State) (q : Nat) (d : Desc) : State :=
  let n := (d.reads.filter (·.issued)).length
  let f := s.qOwnerFn q
  { s with prt := { s.prt with abandoned := SMap.set s.prt.abandoned 0 f (SMap.get s.prt.abandoned 0 f + n) } }

/-- A failed fetch: gobs and slot freed, nothing enqueued, FETCH_ERR posted (R66). -/
def State.fetchErr (s : State) (q : Nat) (d : Desc) : State :=
  ((s.abandonReads q { d with reads := d.reads }).dropDesc q d).complete q d.tag ST.FETCH_ERR 0 0 d.len

/-- Split `len` bytes from `off` into reads of at most `size` bytes. -/
def splitReads : Nat → Nat → Nat → Nat → Nat → List FetchRead
  | 0, _, _, _, _ => []
  | fuel + 1, no, off, len, size =>
    if len = 0 then []
    else
      let k := min len (max size 1)
      ⟨no, off, k, false⟩ :: splitReads fuel (no + 1) (off + k) (len - k) size

/-- Reads an engine keeps outstanding: MAXRD, with 0 and 9 to 15 as 8 (QUE_FETCH). -/
def State.maxRd (s : State) : Nat :=
  let m := s.get R.QUE_FETCH F.QUE_FETCH_MAXRD
  if m = 0 ∨ 8 < m then 8 else m

/-- Issue the fetch reads that MAXRD allows (R66), of traffic class 0 (DESIGN CHOICE, log entry 111). None goes while the owner may issue no
request (R246); without an upstream port the read counts as answered by Unsupported Request. -/
def State.issueReads (s : State) (q : Nat) (d : Desc) : State :=
  let s := s.setDescs q (replaceDesc (s.descs q) d)
  let out := (d.reads.filter (·.issued)).length
  if !d.reads.any (fun r => !r.issued) ∨ !s.canMaster (s.qOwnerFn q) then s
  else if (s.upPort (s.qOwnerPt q)).isNone then s.fetchErr q d
  else
  let now := (d.reads.filter (fun r => !r.issued)).take (s.maxRd - out)
  let d' := { d with reads := d.reads.map (fun r => if now.contains r then { r with issued := true } else r) }
  let s := s.setDescs q (replaceDesc (s.descs q) d')
  let fn := s.qOwnerFn q
  let pt := s.qOwnerPt q
  now.foldl (fun s r =>
    (s.sendUp pt 0 (fun _ s =>
      let t : Tlp := ⟨.memRd, d.addr + r.off, s.routingId fn pt, r.no % 1024, 0, 0, hdrMem, r.len, .sc, false, false, [], false, false⟩
      s.newPkt .endpoint (.tlp t) t.len (s.qOrigin q 1) 256 0 pt)).2) s

/-- Fetch engines in use (R66). -/
def State.fetchEngines (s : State) : Nat :=
  (s.que.descs.map (fun e => (e.2.filter (fun d => d.phase == .fetching)).length)).sum

/-- The payload of a descriptor starts: gobs allocated, then copied from the slot or fetched (R65, R66). -/
def State.startPayload (s : State) (q : Nat) (d : Desc) : State :=
  let s := { s with que := { s.que with wait := s.que.wait.filter (· != q) } }
  let (gs, s) := s.pbufAlloc q (gobsOf d.len)
  if d.inl then
    let s := s.storeChain (s.qOrigin q 1) gs d.inlData
    let d := { d with gobs := gs, phase := .whole }
    if gs.all (fun g => s.gstMapped (s.gobAddr g)) then s.setDescs q (replaceDesc (s.descs q) d) else s.fetchErr q d
  else
    let rs := splitReads 16384 0 0 d.len (sizeCode (s.fnShared (s.qOwnerFn q)).mrrs)
    s.issueReads q { d with gobs := gs, phase := .fetching, reads := rs }

/-- A fetch with reads still to issue, and room for one. -/
def State.fetchResumes (s : State) (d : Desc) : Bool :=
  d.phase == .fetching && d.reads.any (fun r => !r.issued) && decide ((d.reads.filter (·.issued)).length < s.maxRd)

/-- The oldest accepted descriptor of a queue that has not started obtains payload-buffer gobs, in the order in which queues
began to wait; a queue over its own PBUF_MAX takes no place in that order (R65). A fetch that had to stop issuing reads goes on first
(R246). -/
def execPayloadFetchStart (q : Fin 65536) (s : State) : Host.Outcome State Fault Refusal :=
  let q := q.val
  match (s.descs q).find? s.fetchResumes, (s.descs q).find? (fun d => d.phase == .waiting) with
  | some d, _ => .next (if fetches (s.qstate q) && !s.flt.stopped then s.issueReads q d else s)
  | none, none => .next s
  | none, some d =>
    let need := gobsOf d.len
    let lim := s.get (R.QCTX q 0) F.QCTX_PBUF_MAX
    if !fetches (s.qstate q) || s.flt.stopped then .next s
    else if lim ≠ 0 ∧ lim < s.get (R.QCTX q 3) F.QCTX_PBUF_USED + need then .next s
    else if s.pbufFree < need ∨ (s.que.wait ≠ [] ∧ s.que.wait.head? ≠ some q) then
      .next (if s.que.wait.contains q then s else { s with que := { s.que with wait := s.que.wait ++ [q] } })
    else if d.inl then .next (((s.gobTurn (s.gobRanges (s.pbufTake need).1 d.len)).map (fun s => s.startPayload q d)).getD s)
    else .next (if s.canMaster (s.qOwnerFn q) && decide (s.fetchEngines < 512) then s.startPayload q d else s)

/-- A read of an abandoned fetch is over: its tag may be used again (R255). A completion that no read and no abandoned tag explains is
unexpected (R248). -/
def State.tagBack (s : State) (f : Nat) : State :=
  { s with prt := { s.prt with abandoned := SMap.set s.prt.abandoned 0 f (SMap.get s.prt.abandoned 0 f - 1) } }

/-- What the owner of a queue records of a completion that is not good (R245, R248). -/
def State.fetchStatus (s : State) (f : Nat) (status : CplStatus) (poison : Bool) : State :=
  let s := match status with
    | .ca => s.fnStatus f (2 ^ ES.RECEIVED_TA)
    | .ur => s.fnStatus f (2 ^ ES.RECEIVED_MA)
    | _ => s
  if poison then (s.fnUncorr f AB.POISONED).fnStatus f (2 ^ ES.PARITY + bit01 (s.fn f).perr * 2 ^ ES.MASTER_PARITY) else s

/-- What a completion of `bytes` at offset `off` of a payload writes into its chain of gobs. -/
def State.fetchPieces (s : State) (gs : List Nat) (off : Nat) (bytes : List Byte) : List (Nat × List Byte) :=
  gs.zipIdx.filterMap (fun gi =>
    let b0 := max (256 * gi.2) off
    let b1 := min (256 * gi.2 + 256) (off + bytes.length)
    if b0 < b1 then some (s.gobAddr gi.1 + (b0 - 256 * gi.2), (bytes.drop (b0 - off)).take (b1 - b0)) else none)

/-- A completion for a fetch read arrives (R66). A gob of its payload that lies in no memory ends the fetch as FETCH_ERR (R113). -/
def execFetchReadCompletion (q : Fin 65536) (d r : Nat) (status : CplStatus) (data : List Byte) (poison : Bool) (s : State) :
    Host.Outcome State Fault Refusal :=
  let q := q.val
  let f := s.qOwnerFn q
  match (s.descs q).find? (fun x => x.id == d) with
  | none => .next (if SMap.get s.prt.abandoned 0 f = 0 then s.fnUncorr f AB.UNEXPECTED else s.tagBack f)
  | some x =>
    match x.reads.find? (fun y => y.no == r && y.issued) with
    | none => .next s
    | some y =>
      let x := { x with reads := x.reads.filter (fun z => z.no != r) }
      if status ≠ .sc ∨ poison then .next ((s.fetchStatus f status poison).fetchErr q x)
      else
      let pieces := s.fetchPieces x.gobs y.off (data.take y.len)
      match s.gobTurn (pieces.map (fun e => (e.1, e.2.length))) with
      | none => .next s
      | some s =>
        let s := pieces.foldl (fun s e => s.gstStore e.1 (s.qOrigin q 1) e.2) s
        if x.gobs.any (fun g => !s.gstMapped (s.gobAddr g)) then .next (s.fetchErr q x)
        else if x.reads.isEmpty then .next (s.setDescs q (replaceDesc (s.descs q) { x with phase := .whole }))
        else .next (s.issueReads q x)

/-- A fetch read reaches its completion timeout; none does while Completion Timeout Disable is set (R66). That of an abandoned fetch only
frees its tag (R255). -/
def execFetchTimeout (q : Fin 65536) (d r : Nat) (s : State) : Host.Outcome State Fault Refusal :=
  let q := q.val
  let f := s.qOwnerFn q
  if (s.fnShared f).ctoDis then .next s
  else match (s.descs q).find? (fun x => x.id == d) with
    | none => .next (s.tagBack f)
    | some x =>
      if x.reads.any (fun y => y.no == r && y.issued) then
        .next ((s.fnUncorr f AB.TIMEOUT).fetchErr q { x with reads := x.reads.filter (fun z => z.no != r) })
      else .next s

/-! ### Dispatch to Jack (R67, R68, R394) -/

/-- The lowest free lane of the running groups. -/
def State.freeLane (s : State) : Option Nat :=
  (List.range 256).find? (fun l => bitOf (s.get R.EMB_CLKSTAT F.EMB_CLKSTAT_JACK_RUN) (l / 32) && !s.que.jack.any (fun r => r.lane == l))

/-- The action epoch a request binds at dispatch (R28). -/
def State.actEpoch (s : State) : Nat := s.get (R.GAF_EPSTAT 1) F.GAF_EPSTAT_EPOCH

/-- A lane's registers at the start of a request (R68, R162). -/
def jackStart (p : QPkt) (defDq : Nat) : Core :=
  ((((({ run := .running } : Core).wg 1 (p.origin + p.src % 65536 * 2 ^ 32 + p.len * 2 ^ 48)).wg 2 p.mdat).wg 3 p.fkey).wg 4
    (defDq + gobsOf p.len * 2 ^ 20 + p.tag * 2 ^ 32)).wg 5 (p.gobs.headD 0)

/-- Beats a program holds its lane without waits: half its length, or 1 for a slot without a program (R194, R202). -/
def State.laneBeats (s : State) (r : JackReq) : Nat :=
  let slot := R.JCK_SLOT (s.get (R.QCTX (r.pkt.src % 65536) 0) F.QCTX_JPROG)
  let cur := r.epoch == s.actEpoch
  if s.getBank cur slot F.JCK_SLOT_VALID = 0 then 1 else max 1 (ceilDiv (s.getBank cur slot F.JCK_SLOT_LEN) 2)

/-- The request of a lane ends: its submission slot is freed and the lane is free again (R64). -/
def State.jackEnd (s : State) (r : JackReq) : State :=
  let s := s.tally (ev 0x06 (s.laneBeats r) (some r.pkt.origin) none 0)
  let s := { s with que := { s.que with jack := s.que.jack.filter (fun x => x.lane != r.lane) } }
  let s := s.tally (ev 0x05 1 (some r.pkt.origin) none 0)
  ((s.gateDone (33 + r.lane)).setLane r.lane {}).slotFree (r.pkt.src % 65536)

/-- A packet is dropped: its gobs are freed and its source learns the status (R69, R70). -/
def State.dropPkt (s : State) (p : QPkt) (status reason : Nat) : State :=
  (s.pbufRelease p.localSrc p.gobs).outcome p status reason

/-- A whole payload's enqueue request is dispatched in order to the lowest free lane of the running Jack groups and binds the
action epoch; a slot with VALID = 0 or LEN = 0 ends it as a drop with reason 0xFF (R67, R68, R202). Without a free lane it waits for a
group to wake (R394). -/
def State.dispatch (s : State) (q : Nat) : State :=
  match s.descs q with
  | [] => s
  | d :: rest =>
    if d.phase ≠ .whole ∨ !fetches (s.qstate q) ∨ s.flt.stopped then s
    else match s.freeLane with
      | none =>
        if s.que.wakeJack.isSome then s
        else { s with que := { s.que with wakeJack := some q } }.bump R.QUE_REQSTAT F.QUE_REQSTAT_LANE_WAIT 1
      | some l =>
        let p : QPkt := ⟨d.id, s.globalQ q, d.tag, d.cmpl, d.len, d.mdat, d.fkey, 0, 0, s.qOrigin q 1, d.gobs, none, false, 0, 0⟩
        let r : JackReq := ⟨l, p, s.actEpoch⟩
        let s := s.bump R.QUE_REQSTAT F.QUE_REQSTAT_DISPATCHED 1
        let s := s.setDescs q rest
        let s := { s with que := { s.que with jack := s.que.jack ++ [r], wakeJack := if s.que.wakeJack = some q then none else s.que.wakeJack } }
        let s := s.setLane l (jackStart p (s.get (R.QCTX q 1) F.QCTX_DEF_DQ))
        let slot := R.JCK_SLOT (s.get (R.QCTX q 0) F.QCTX_JPROG)
        if s.bitAct slot F.JCK_SLOT_VALID ∧ s.getAct slot F.JCK_SLOT_LEN ≠ 0 then s
        else (s.jackEnd r).dropPkt p ST.PROG_DROP 0xFF

/-- ENQUEUE_REQUEST_DISPATCH (R68). -/
def execEnqueueRequestDispatch (q : Fin 65536) (s : State) : Host.Outcome State Fault Refusal := .next (s.dispatch q.val)

/-! ### Linking (R70) -/

def State.linked (s : State) (q : Nat) : List QPkt := SMap.get s.que.linked [] q
/-- The scheduled side of a queue takes a value; the queue becomes active or stops being active with it (R89). -/
def State.setLinked (s : State) (q : Nat) (l : List QPkt) : State :=
  let was := (s.linked q).isEmpty
  let s := { s with que := { s.que with linked := SMap.set s.que.linked [] q l } }
  let s := s.put (R.QCTX q 3) F.QCTX_PKTS l.length
  if was && !l.isEmpty then s.activate q else if !was && l.isEmpty then s.deactivate q else s

/-- The status with which an ENQ to a local queue is dropped, or none when it links (R70). -/
def enqStatus (st : Nat) : Option Nat :=
  if st = QS.ACTIVE ∨ st = QS.FROZEN then none
  else if st = QS.DRAINING then some ST.DEST_FROZEN
  else if st = QS.HELD then some ST.DEST_HELD
  else some ST.DEST_OFF

/-- The state an ENQ finds: a queue of a function in its FLR that is not HELD shows DRAINED (R255). -/
def State.shownState (s : State) (q : Nat) : Nat :=
  let st := s.qstate q
  if st ≠ QS.HELD ∧ s.flrActive (s.qOwnerFn q) then QS.DRAINED else st

/-- ENQ to a queue of this module: linked at the tail, or dropped with a status (R70). -/
def State.enqLocal (s : State) (p : QPkt) (q : Nat) : Option Nat × State :=
  match enqStatus (s.shownState q) with
  | none =>
    (none, (s.setLinked q (s.linked q ++ [p])).qCount q 5)
  | some st => (some st, s.dropPkt p st 0)

/-! ### Deliveries (R71 to R73) -/

def State.ringSize (s : State) (q : Nat) : Nat := 2 ^ (6 + s.get (R.QUE_RXCFG q) F.QUE_RXCFG_RX_LOG2)
def State.slotSize (s : State) (q : Nat) : Nat := 2 ^ (8 + s.get (R.QUE_RXCFG q) F.QUE_RXCFG_SLOT_LOG2)
/-- Slots a packet takes (R71). -/
def State.slotsFor (s : State) (q len : Nat) : Nat := ceilDiv (16 + len) (s.slotSize q)
def State.claim (s : State) (q : Nat) : Nat := SMap.get s.que.claim 0 q
/-- Free slots: (RX_HEAD − claim pointer − 1) mod ring size (R71). -/
def State.ringFree (s : State) (q : Nat) : Nat :=
  (s.get (R.QUE_RXHEAD q) F.QUE_RXHEAD_RX_HEAD % s.ringSize q + 2 * s.ringSize q - s.claim q - 1) % s.ringSize q

/-- The packet's destination queue lies on another module (R306). -/
def State.goesRemote (s : State) (p : QPkt) : Bool := p.dq / 65536 != s.fid

/-- A free one of the 512 delivery engines; which one is not fixed by the manual: a free value (R73, log entry 110). -/
def State.takeEngine (s : State) : Nat × State :=
  let used := s.que.dels.map (·.eng)
  let (v, s) := s.free
  (freshFrom 512 used used.length v, s)

/-- A packet of a fabric queue goes to a delivery engine, which sends it by FABRIC_SEND (R308). -/
def State.beginFabric (s : State) (q pnode charge : Nat) (p : QPkt) : State :=
  let (e, s) := s.takeEngine
  let d : Delivery := ⟨s.que.nextId, e, q, p, 0, 0, false, .reading, [], 0, false, pnode, charge⟩
  { s with que := { s.que with nextId := s.que.nextId + 1, dels := s.que.dels ++ [d] } }

/-- A dequeue claims its slots and a delivery begins (R71). -/
def State.beginDelivery (s : State) (q pnode charge : Nat) (p : QPkt) : State :=
  let n := s.slotsFor q p.len
  let c := s.claim q
  let pass := SMap.get s.que.claimPass 0 q
  let (e, s) := s.takeEngine
  let d : Delivery := ⟨s.que.nextId, e, q, p, c, n, pass % 2 == 0, .reading, [], 0, false, pnode, charge⟩
  { s with que := { s.que with
      nextId := s.que.nextId + 1,
      claim := SMap.set s.que.claim 0 q ((c + n) % s.ringSize q),
      claimPass := SMap.set s.que.claimPass 0 q (if s.ringSize q ≤ c + n then pass + 1 else pass),
      dels := s.que.dels ++ [d],
      credits := s.que.credits ++ [(d.id, pnode, charge)] } }

def State.del (s : State) (d : Nat) : Option Delivery := s.que.dels.find? (fun x => x.id == d)
def State.setDel (s : State) (d : Delivery) : State :=
  { s with que := { s.que with dels := s.que.dels.map (fun x => if x.id = d.id then d else x) } }
def State.delDel (s : State) (d : Nat) : State :=
  { s with que := { s.que with dels := s.que.dels.filter (fun x => x.id != d) } }

/-- Max_Payload_Size of the writes of function `fn` of partition `pt` (R73, R249). -/
def State.writeSize (s : State) (fn pt : Nat) : Nat := min (sizeCode (s.fnShared fn).mps) (sizeCode (s.bridge (upKey pt)).mps)

/-- Cut a run of bytes into writes: no larger than `size` (R73), within the ring, none across a 4 KiB boundary, as PCI Express forbids
(PRESUMED, log entry 115). `off` counts bytes from the ring's base. -/
def splitWrites : Nat → Nat → Nat → Nat → List Byte → Nat → List (Nat × List Byte)
  | 0, _, _, _, _, _ => []
  | fuel + 1, base, ring, off, bs, size =>
    if bs.isEmpty then []
    else
      let o := off % ring
      let k := min (min (max size 1) (ring - o)) (4096 - (base + o) % 4096)
      (base + o, bs.take k) :: splitWrites fuel base ring (off + k) (bs.drop k) size

/-- A write of the delivery engine toward the ring's host (R73); none while its port is held, the owner may issue no request (R246), or
admission refuses it. The header goes with Relaxed Ordering clear; the attribute of the payload writes is a free value (log entry 117). -/
def State.delWrite (s : State) (d : Delivery) (role : Role) (addr : Nat) (bs : List Byte) : Option State :=
  let fn := s.qOwnerFn d.q
  let pt := s.qOwnerPt d.q
  let tc := s.qTc d.q
  match (s.upPort pt).filter (fun p => !s.portHeld p && s.canMaster fn) with
  | none => none
  | some p =>
    let (v, s) := s.free
    let ro := match role with | .payload _ => v % 2 == 1 | _ => false
    let t : Tlp := ⟨.memWr, addr, s.routingId fn pt, 0, 0, ⟨tc % 8, Nat.mod_lt _ (by decide)⟩, hdrMem + bs.length, bs.length, .sc, false, false, bs,
      false, ro⟩
    let (pk, s') := s.newPkt role (.tlp t) t.len (s.qOrigin d.q 2) 256 tc pt
    s'.admitPkt pk (coqOfPort p tc)

/-- Admit the waiting payload writes of a delivery in order until one is refused (R73). -/
def State.pushWrites (s : State) (d : Nat) : Nat → State
  | 0 => s
  | fuel + 1 =>
    match s.del d with
    | none => s
    | some x =>
      match x.toAdmit with
      | [] => s
      | (a, bs) :: rest =>
        match s.delWrite x (.payload d) a bs with
        | none => s
        | some s' => (s'.setDel { x with toAdmit := rest, inFlight := x.inFlight + 1 }).pushWrites d fuel

/-- A delivery finds its payload unusable, or a write of it is lost: no further payload writes, a header with ERR = 1 (R73). -/
def State.abandonDelivery (s : State) (x : Delivery) : State := s.setDel { x with err := true, toAdmit := [], phase := .writing }

/-- The delivery engine's read of the payload completes: the gobs are freed and the payload writes are issued (R73, R113). -/
def execDeliveryRead (d : Nat) (flips : List (Nat × Nat)) (s : State) : Host.Outcome State Fault Refusal :=
  match s.del d with
  | none => .next s
  | some x =>
    if x.phase ≠ .reading ∨ s.flt.stopped ∨ s.goesRemote x.pkt then .next s
    else match s.gobTurn (s.gobRanges x.pkt.gobs x.pkt.len) with
    | none => .next s
    | some s =>
      let s := s.flip flips
      let mapped := x.pkt.gobs.all (fun g => s.gstMapped (s.gobAddr g))
      let (bs, ok, s) := s.readChain (s.qOrigin x.q 2) x.pkt.gobs x.pkt.len
      let s := s.pbufRelease x.pkt.localSrc x.pkt.gobs
      if !ok || !mapped then .next (s.abandonDelivery x)
      else
        let ring := s.ringSize x.q * s.slotSize x.q
        let ws := splitWrites (bs.length + 1) (s.get (R.QUE_RXCFG x.q) F.QUE_RXCFG_RX_BASE * 2 ^ 12) ring
          (x.slot * s.slotSize x.q + 16) bs (s.writeSize (s.qOwnerFn x.q) (s.qOwnerPt x.q))
        let s := s.setDel { x with phase := .writing, toAdmit := ws }
        .next (s.pushWrites d ws.length)

/-- The receive header (R73). -/
def rxHeader (x : Delivery) : List Byte :=
  leBytes (x.pkt.len % 2 ^ 14 + x.slots % 128 * 2 ^ 14 + bit01 x.err * 2 ^ 21 + x.pkt.src % 2 ^ 20 * 2 ^ 24
    + x.pkt.colour % 256 * 2 ^ 44 + bit01 x.phaseBit * 2 ^ 63) 8 ++ leBytes x.pkt.mdat 8

/-- Once every payload write of a delivery is transmitted or lost, the header write is issued; headers of one ring keep the order
of their dequeue decisions (R73). -/
def execRxHeaderIssue (d : Nat) (s : State) : Host.Outcome State Fault Refusal :=
  match s.del d with
  | none => .next s
  | some x =>
    let older := (s.que.dels.takeWhile (fun y => y.id != d)).any (fun y => y.q == x.q && y.phase != .headerSent && y.phase != .header)
    if x.phase ≠ .writing ∨ x.toAdmit ≠ [] ∨ x.inFlight ≠ 0 ∨ older then .next s
    else
      let addr := s.get (R.QUE_RXCFG x.q) F.QUE_RXCFG_RX_BASE * 2 ^ 12 + x.slot * s.slotSize x.q
      match (s.postEntry x.q).delWrite x (.header d) addr (rxHeader x) with
      | none => .next s
      | some s => .next (s.setDel { x with phase := .header })

/-- The receive header of a delivery has been transmitted: RX_TAIL advances, the source learns the outcome, and the header
counts toward RX_VEC (R71, R73, R74, R77). -/
def State.headerSent (s : State) (x : Delivery) : State :=
  let s := s.put (R.QUE_QINFO x.q) F.QUE_QINFO_RX_TAIL
    ((s.get (R.QUE_QINFO x.q) F.QUE_QINFO_RX_TAIL + x.slots) % s.ringSize x.q)
  let s := (s.delDel x.id).qCount x.q 6
  let s := s.tally (ev 0x0D x.pkt.len (some x.pkt.origin) none 0)
  let s := s.outcome x.pkt (if x.err then ST.DATA_ERR else ST.OK) 0
  s.moderate x.q true

/-- A packet the queue path put into the crucible has been transmitted (R73, R74, R77). -/
def State.onSent (s : State) (p : Pkt) : State :=
  match p.role with
  | .payload d => match s.del d with
    | some x => s.setDel { x with inFlight := x.inFlight - 1 }
    | none => s
  | .header d => match s.del d with
    | some x => s.headerSent x
    | none => s
  | .cqEntry q =>
    let s := s.put (R.QUE_CQTAIL q) F.QUE_CQTAIL_CQ_TAIL ((s.get (R.QUE_CQTAIL q) F.QUE_CQTAIL_CQ_TAIL + 1) % s.cqSize q)
    let s := { s with que := { s.que with cqFly := SMap.set s.que.cqFly 0 q (SMap.get s.que.cqFly 0 q - 1) } }
    s.moderate q false
  | _ => s

/-- A packet the queue path put into the crucible was lost to an uncorrectable cell error or a flush (R56, R73, R74): a payload
write abandons its delivery, a header is issued again with ERR = 1, a completion entry is issued again. -/
def State.onLost (s : State) (p : Pkt) : State :=
  match p.role with
  | .payload d => match s.del d with
    | some x => s.setDel { x with inFlight := x.inFlight - 1, err := true, toAdmit := [] }
    | none => s
  | .header d => match s.del d with
    | some x => s.setDel { x with err := true, phase := .writing }
    | none => s
  | .cqEntry q => if s.ringPortHeld q then s.cqDiscard q else (s.sendUp (s.qOwnerPt q) (s.qTc q) (fun _ s => s.newPkt p.role p.body p.bytes p.origin 256 p.inCls p.pt)).2
  | .msix f v => s.msix f v p.inCls
  | _ => s

/-! ### Queue states (R80 to R84) -/

/-- A DRAINING queue has nothing held, in flight or linked (R81). -/
def State.drainDone (s : State) (q : Nat) : Bool :=
  s.qstate q == QS.DRAINING && (s.descs q).isEmpty && !s.que.jack.any (fun r => r.pkt.src % 65536 == q) &&
  (s.linked q).isEmpty && !s.que.dels.any (fun d => d.q == q) && !s.que.decs.any (fun d => d.queue == q)

/-- A DRAINING queue passes to DRAINED on its own (R81). -/
def execQueueDrained (q : Fin 65536) (s : State) : Host.Outcome State Fault Refusal :=
  .next (if s.drainDone q.val then s.setQstate q.val QS.DRAINED else s)

/-- The holder of a queue lock, if it is held. -/
def State.qlock (s : State) (q : Nat) : Option Lease := SMap.get s.que.locks none q
def State.setQlock (s : State) (q : Nat) (l : Option Lease) : State :=
  { s with que := { s.que with locks := SMap.set s.que.locks none q l } }

/-- Another master than `o` holds the lock of `q` (R86). -/
def State.lockedOut (s : State) (q o : Nat) : Bool :=
  match s.qlock q with
  | some l => l.holder != o
  | none => false

/-- The queues a state command names. -/
def named (q : Nat) (set : Bool) : List Nat := if set then (List.range 16).map (· + q / 16 * 16) else [q]

/-- A state command: applied to every queue it names if every one allows it and no lock forbids it, else BADCMD (R82, R86). -/
def State.stateCmd (s : State) (o q : Nat) (set : Bool) (ok : Nat → Bool) (f : State → Nat → State) : State :=
  if (named q set).all (fun q => ok (s.qstate q) && !s.lockedOut q o) then (named q set).foldl f s
  else s.setBit R.QUE_STATUS F.QUE_STATUS_BADCMD

/-- FLUSH of one queue: its held descriptors end and its linked packets are dropped, all with QUEUE_FLUSHED (R82). -/
def State.flushQueue (s : State) (q : Nat) : State :=
  let ds := s.descs q
  let s := ds.foldl (fun s d => ((s.abandonReads q d).dropDesc q d).complete q d.tag ST.QUEUE_FLUSHED 0 0 d.len) s
  let s := { s with que := { s.que with wait := s.que.wait.filter (· != q) } }
  let ps := s.linked q
  let s := s.setLinked q []
  ps.foldl (fun s p => s.dropPkt p ST.QUEUE_FLUSHED 0) s

/-- ENABLE: DISABLED, FROZEN or DRAINED to ACTIVE (R82). -/
def execQueueEnable (o : Origin) (q : Fin 65536) (set : Bool) (s : State) : Host.Outcome State Fault Refusal :=
  .next (s.stateCmd o.toNat q.val set (fun st => st == QS.DISABLED || st == QS.FROZEN || st == QS.DRAINED)
    (fun s q => s.setQstate q QS.ACTIVE))

/-- FREEZE: ACTIVE to FROZEN (R82). -/
def execQueueFreeze (o : Origin) (q : Fin 65536) (set : Bool) (s : State) : Host.Outcome State Fault Refusal :=
  .next (s.stateCmd o.toNat q.val set (fun st => st == QS.ACTIVE) (fun s q => s.setQstate q QS.FROZEN))

/-- DRAIN: ACTIVE or FROZEN to DRAINING (R82). -/
def execQueueDrain (o : Origin) (q : Fin 65536) (set : Bool) (s : State) : Host.Outcome State Fault Refusal :=
  .next (s.stateCmd o.toNat q.val set (fun st => st == QS.ACTIVE || st == QS.FROZEN) (fun s q => s.setQstate q QS.DRAINING))

/-- DISABLE: DRAINED to DISABLED (R82). -/
def execQueueDisable (o : Origin) (q : Fin 65536) (set : Bool) (s : State) : Host.Outcome State Fault Refusal :=
  .next (s.stateCmd o.toNat q.val set (fun st => st == QS.DRAINED) (fun s q => s.setQstate q QS.DISABLED))

/-- FLUSH: ACTIVE, FROZEN or DRAINING to DRAINED; HELD stays HELD (R82). -/
def execQueueFlush (o : Origin) (q : Fin 65536) (set : Bool) (s : State) : Host.Outcome State Fault Refusal :=
  .next (s.stateCmd o.toNat q.val set
    (fun st => st == QS.ACTIVE || st == QS.FROZEN || st == QS.DRAINING || st == QS.HELD)
    (fun s q =>
      let s := s.flushQueue q
      if s.qstate q = QS.HELD then s else s.setQstate q QS.DRAINED))

/-- A queue enters HELD (R83): it fetches nothing, so it gives up its place among the queues that wait for payload-buffer gobs (R65). -/
def State.holdQueue (s : State) (q : Nat) : State :=
  if s.qstate q = QS.HELD then s
  else
    let s := { s with que := { s.que with prev := SMap.set s.que.prev 0 q (s.qstate q + 1), wait := s.que.wait.filter (· != q) } }
    s.setQstate q QS.HELD

/-- The lift of a hold returns a queue to the state it left; a DRAINING queue re-checks R81 at once (R83). -/
def State.liftQueue (s : State) (q : Nat) : State :=
  let v := SMap.get s.que.prev 0 q
  if s.qstate q ≠ QS.HELD ∨ v = 0 then s
  else
    let s := (s.setQstate q (v - 1))
    let s := { s with que := { s.que with prev := SMap.set s.que.prev 0 q 0 } }
    if s.drainDone q then s.setQstate q QS.DRAINED else s

/-- Fetches in progress for a held source are abandoned; each descriptor ends with QUEUE_FLUSHED (R32). -/
def State.abandonFetches (s : State) (q : Nat) : State :=
  ((s.descs q).filter (fun d => d.phase == .fetching)).foldl (fun s d => ((s.abandonReads q d).dropDesc q d).complete q d.tag ST.QUEUE_FLUSHED 0 0 d.len) s

/-! ### Context records (R59) -/

/-- QUE_CTXCMD OP 1: the record of the selected queue is copied into QUE_CTXDATA. -/
def execCtxRead (_o : Origin) (s : State) : Host.Outcome State Fault Refusal :=
  let q := s.get R.QUE_CTXSEL F.QUE_CTXSEL_QUEUE
  .next ((List.range 8).foldl (fun s i => s.wr (R.QUE_CTXDATA i) (s.rd (R.QCTX q i))) s)

/-- Word `w` of the record as a write of `v` leaves it: zero fields stay zero and STATE keeps its value (R59). -/
def ctxWord (w v st : Nat) : Nat :=
  match w with
  | 0 => fieldOf v 0 19 + st * 2 ^ 20 + fieldOf v 28 7 * 2 ^ 28 + fieldOf v 36 28 * 2 ^ 36
  | 1 => fieldOf v 0 38
  | _ => fieldOf v 0 13

/-- QUE_CTXCMD OP 2: words 0 to 2 are written as one change, or refused with CFG_REFUSED (QUE_CTXCMD, R86). -/
def execCtxWrite (o : Origin) (s : State) : Host.Outcome State Fault Refusal :=
  let q := s.get R.QUE_CTXSEL F.QUE_CTXSEL_QUEUE
  let w0 := s.rd (R.QUE_CTXDATA 0)
  let w1 := s.rd (R.QUE_CTXDATA 1)
  let w2 := s.rd (R.QUE_CTXDATA 2)
  let sq := fieldOf w2 0 13
  if s.qstate q ≠ QS.DISABLED ∨ 96 < fieldOf w0 28 7 ∨ sq = 0 ∨ 4096 < sq ∨ 16383 < fieldOf w1 20 14 ∨ s.lockedOut q o.toNat then
    .next (s.setBit R.QUE_STATUS F.QUE_STATUS_CFG_REFUSED)
  else
    .next (((s.wr (R.QCTX q 0) (ctxWord 0 w0 0)).wr (R.QCTX q 1) (ctxWord 1 w1 0)).wr (R.QCTX q 2) (ctxWord 2 w2 0))

/-! ### Queue locks (R85, R86) -/

/-- ACQUIRE grants a free lock to the writer's tag, with a deadline; a held lock sets BADCMD (R85). -/
def execQueueLockAcquire (o : Origin) (q : Fin 65536) (deadline : BitVec 16) (s : State) : Host.Outcome State Fault Refusal :=
  .next (match s.qlock q.val with
    | none => s.setQlock q.val (some ⟨o.toNat, deadline.toNat, false⟩)
    | some _ => s.setBit R.QUE_STATUS F.QUE_STATUS_BADCMD)

/-- RENEW from the holder reloads the deadline; from any other master it sets BADCMD (R85). -/
def execQueueLockRenew (o : Origin) (q : Fin 65536) (deadline : BitVec 16) (s : State) : Host.Outcome State Fault Refusal :=
  .next (match s.qlock q.val with
    | some l => if l.holder = o.toNat then s.setQlock q.val (some ⟨l.holder, deadline.toNat, false⟩)
      else s.setBit R.QUE_STATUS F.QUE_STATUS_BADCMD
    | none => s.setBit R.QUE_STATUS F.QUE_STATUS_BADCMD)

/-- RELEASE from the holder frees the lock; from any other master it sets BADCMD (R85). -/
def execQueueLockRelease (o : Origin) (q : Fin 65536) (s : State) : Host.Outcome State Fault Refusal :=
  .next (match s.qlock q.val with
    | some l => if l.holder = o.toNat then s.setQlock q.val none else s.setBit R.QUE_STATUS F.QUE_STATUS_BADCMD
    | none => s.setBit R.QUE_STATUS F.QUE_STATUS_BADCMD)

/-- Every queue lock whose holder's tag matches ORIGIN under MASK is released (R86). -/
def State.forceQueueLocks (s : State) (origin mask : Nat) : State :=
  { s with que := { s.que with locks := s.que.locks.filter (fun e => match e.2 with
    | some l => Nat.land l.holder mask != Nat.land origin mask
    | none => false) } }

/-- QUE_LOCKFORCE (R86). -/
def execQueLockforce (origin mask : BitVec 32) (s : State) : Host.Outcome State Fault Refusal :=
  .next (s.forceQueueLocks origin.toNat mask.toNat)

end Sys2Proof.Machine
end

