-- ==== Sys2Proof/Machine/Sched.lean ====
section
/-!
DEFINITION. The scheduler: eligibility (R89), decisions and their charges (R90 to R94), naming, drops at dequeue and undone charges
(R88, R95, R470), and refill ticks (R96, R97).
-/
namespace Sys2Proof.Machine

/-- Bucket of a node in token units, credit of a port node in gobs: two's complement (SCH_BUCKET, SCH_PORTCR). -/
def State.bucket (s : State) (n : Nat) : Int := signedOf (s.get (R.SCH_BUCKET n) F.SCH_BUCKET_B) 40
def State.setBucket (s : State) (n : Nat) (b : Int) : State := s.put (R.SCH_BUCKET n) F.SCH_BUCKET_B (patternOf b 40)
def State.portCredit (s : State) (p : Nat) : Int := signedOf (s.get (R.SCH_PORTCR p) F.SCH_PORTCR_CR) 18
def State.setPortCredit (s : State) (p : Nat) (c : Int) : State := s.put (R.SCH_PORTCR p) F.SCH_PORTCR_CR (patternOf c 18)

/-- EN and SHAPE_EN of a node in the active bank. -/
def State.nodeEn (s : State) (n : Nat) : Bool := s.bitAct (R.SCH_NODECFG n) F.SCH_NODECFG_EN
def State.shaped (s : State) (n : Nat) : Bool := s.bitAct (R.SCH_NODECFG n) F.SCH_NODECFG_SHAPE_EN

/-! ### Eligibility (R72, R89) -/

/-- Packets of a queue that earlier decisions have selected and not yet named (R90). -/
def State.selectedOf (s : State) (q : Nat) : List Nat := (s.que.decs.filter (fun d => d.queue == q)).map (·.pktId)

/-- The packet a decision would select from a queue (R90). -/
def State.nextOf (s : State) (q : Nat) : Option QPkt := (s.linked q).find? (fun p => !(s.selectedOf q).contains p.id)

/-- Free slots of a ring as R72 counts them for a decision: slots that selected packets will claim count as used (R71). -/
def State.slotsLeft (s : State) (q : Nat) : Nat :=
  s.ringFree q - ((s.que.decs.filter (fun d => d.queue == q)).map (fun d => s.slotsFor q d.len)).sum

/-- A lossless ring holds its queue back while the head packet needs more slots than are free and could fit (R72); so does any ring
whose owner may not issue requests (R246). -/
def State.ringHolds (s : State) (q : Nat) (p : QPkt) : Bool :=
  !s.goesRemote p && decide (s.slotsFor q p.len ≤ s.ringSize q - 1) &&
  ((s.bit (R.QCTX q 1) F.QCTX_LOSSLESS && decide (s.slotsLeft q < s.slotsFor q p.len)) || !s.canMaster (s.qOwnerFn q))

/-- A queue is eligible (R89). -/
def State.queueEligible (s : State) (q : Nat) : Bool :=
  let st := s.qstate q
  (st == QS.ACTIVE || st == QS.FROZEN || st == QS.DRAINING) &&
  match s.nextOf q with
  | none => false
  | some p => !s.ringHolds q p

/-- EN is set and the bucket does not hold the node back. -/
def State.nodeOpen (s : State) (n : Nat) : Bool := s.nodeEn n && (!s.shaped n || decide (0 < s.bucket n))

/-- Active children of a node over its eight groups. -/
def State.children (s : State) (n : Nat) : List Nat := (List.range 8).flatMap (fun l => s.group n l)

def State.subEligible (s : State) (n : Nat) : Bool := s.nodeOpen n && (s.children n).any s.queueEligible
def State.svcEligible (s : State) (n : Nat) : Bool := s.nodeOpen n && (s.children n).any (fun c => s.subEligible (c - 65536))
/-- Port node `p` is eligible (R89). -/
def State.portEligible (s : State) (p : Nat) : Bool :=
  s.nodeOpen (portNode p) && decide (0 < s.portCredit p) && (s.children (portNode p)).any (fun c => s.svcEligible (c - 65536))

/-! ### Selection (R91, R92) -/

/-- One round refill of a group (R91). -/
def State.roundRefill (s : State) (g : List Nat) : State :=
  g.foldl (fun s c => s.setDeficit c (min (s.deficit c + 256 * (s.childWeight c : Nat)) (256 * (s.childWeight c : Nat)))) s

/-- Round refills until an eligible child has a positive deficit. DEF is at least −16,383, so 65 rounds suffice (R93). -/
def State.refillRounds (s : State) (g : List Nat) (ok : Nat → Bool) : Nat → State
  | 0 => s
  | fuel + 1 => if g.any (fun c => ok c && decide (0 < s.deficit c)) then s else (s.roundRefill g).refillRounds g ok fuel

/-- The list from its element `c` on, wrapping. -/
def rotateTo (g : List Nat) (c : Nat) : List Nat := g.dropWhile (fun x => x != c) ++ g.takeWhile (fun x => x != c)

/-- Select a child of node `n` (R91). -/
def State.selectChild (s : State) (n : Nat) (ok : Nat → Bool) : Option Nat × State :=
  match (List.range 8).find? (fun l => (s.group n l).any ok) with
  | none => (none, s)
  | some l =>
    let g := s.group n l
    let s := s.refillRounds g ok 70
    let order := if s.groupPtr n l = 0 then g else rotateTo g (s.groupPtr n l - 1)
    match order.find? (fun c => ok c && decide (0 < s.deficit c)) with
    | none => (none, s)
    | some c => (some c, s.setGroupPtr n l (successor g c + 1))

/-- The scheduling epoch (R28). -/
def State.schEpoch (s : State) : Nat := s.get (R.GAF_EPSTAT 2) F.GAF_EPSTAT_EPOCH

/-- The port node a pipeline serves next: the first eligible one after the one it last served (R90, R91). -/
def State.nextPortNode (s : State) (pl : Nat) : Option Nat :=
  let last := SMap.get s.sch.served 0 pl
  let mine := (List.range 16).map (fun k => pl + 32 * k)
  let order := mine.filter (fun p => decide (last ≤ p)) ++ mine.filter (fun p => decide (p < last))
  order.find? s.portEligible

/-- Token units a node is charged for a packet (R94). -/
def State.shapeUnits (s : State) (n len : Nat) : Nat :=
  (max ((len : Int) + signedOf (s.getAct (R.SCH_NODECFG n) F.SCH_NODECFG_LEN_ADJ) 8) 1).toNat * 256

/-- The charges of a decision, in one step (R94). -/
def State.chargeDecision (s : State) (d : Decision) : State :=
  let s := [d.queue, nodeKey d.sub, nodeKey d.svc].foldl (fun s c => s.setDeficit c (s.deficit c - (d.len : Nat))) s
  let s := d.charged.foldl (fun s e => s.setBucket e.1 (s.bucket e.1 - (e.2 : Nat))) s
  s.setPortCredit d.pnode (s.portCredit d.pnode - (gobsOf d.len : Nat))

/-- The child is active: it stands in a group of its parent (R89). -/
def State.inGroup (s : State) (c : Nat) : Bool := (List.range 8).any (fun l => (s.group (s.childParent c) l).contains c)

/-- The charges of a decision are undone, within the limits of R93 and R96 (R95): a child that has stopped being active keeps no
surplus. -/
def State.undoDecision (s : State) (d : Decision) : State :=
  let s := [d.queue, nodeKey d.sub, nodeKey d.svc].foldl (fun s c =>
    s.setDeficit c (min (s.deficit c + (d.len : Nat)) (if s.inGroup c then 256 * (s.childWeight c : Nat) else 0))) s
  let s := d.charged.foldl (fun s e =>
    s.setBucket e.1 (max (s.bucket e.1) (min (s.bucket e.1 + (e.2 : Nat)) (s.getAct (R.SCH_SHAPE e.1) F.SCH_SHAPE_BURST : Nat)))) s
  s.setPortCredit d.pnode (s.portCredit d.pnode + (gobsOf d.len : Nat))

/-- A pipeline starts a decision: it binds the scheduling epoch, selects port node, service node, subscriber and queue, selects the
packet and applies its charges (R90 to R94). None starts while ENABLE is clear. -/
def execDequeueDecision (pl : Fin 32) (s : State) : Host.Outcome State Fault Refusal :=
  if !s.bit R.SCH_CTL F.SCH_CTL_ENABLE || s.flt.stopped then .next s
  else match s.nextPortNode pl.val with
    | none => .next s
    | some p =>
      let s := { s with sch := { s.sch with served := SMap.set s.sch.served 0 pl.val (p + 1) } }
      match s.selectChild (portNode p) (fun c => s.svcEligible (c - 65536)) with
      | (none, s) => .next s
      | (some v, s) =>
        match s.selectChild (v - 65536) (fun c => s.subEligible (c - 65536)) with
        | (none, s) => .next s
        | (some u, s) =>
          match s.selectChild (u - 65536) s.queueEligible with
          | (none, s) => .next s
          | (some q, s) =>
            match s.nextOf q with
            | none => .next s
            | some pk =>
              let nodes := [u - 65536, v - 65536, portNode p].filter s.shaped
              let d : Decision := ⟨pl.val, p, v - 65536, u - 65536, q, pk.id, pk.len,
                nodes.map (fun n => (n, s.shapeUnits n pk.len)), s.schEpoch⟩
              let s := s.chargeDecision d
              .next { s with que := { s.que with decs := s.que.decs ++ [d] } }

/-! ### Naming (R88, R95, R470) -/

/-- The path of a queue ends at the port node R88 requires. -/
def State.pathOk (s : State) (d : Decision) (p : QPkt) : Bool :=
  if s.goesRemote p then
    decide (256 ≤ d.pnode) && s.get (R.FTX_LEP (d.pnode - 256)) F.FTX_LEP_DEST_FID == p.dq / 65536
  else s.upPort (s.qOwnerPt d.queue) == some d.pnode

/-- The status with which the packet is dropped at dequeue: the first cause of R470 that applies. -/
def State.dequeueDrop (s : State) (d : Decision) (p : QPkt) : Option Nat :=
  let q := d.queue
  let pt := s.qOwnerPt q
  if !s.pathOk d p then some ST.DEST_OFF
  else if s.ptShut pt || (!s.goesRemote p && (match s.upPort pt with | some u => s.portHeld u | none => false)) then some ST.DEST_HELD
  else if s.goesRemote p then none
  else if !s.bit (R.QUE_RXCFG q) F.QUE_RXCFG_RX_EN then some ST.DEST_OFF
  else if s.ringSize q - 1 < s.slotsFor q p.len then some ST.TOO_BIG
  else if s.ringFree q < s.slotsFor q p.len ∧ !s.bit (R.QCTX q 1) F.QCTX_LOSSLESS then some ST.RING_FULL
  else none

/-- A decision that names a packet no cause drops cannot be carried out: no delivery engine is free (R73), or slots that a LOSSLESS ring had at
the selection are gone (R72; DESIGN CHOICE, log entry 116). -/
def State.cannotDeliver (s : State) (d : Decision) (p : QPkt) : Bool :=
  decide (512 ≤ s.que.dels.length) || (!s.goesRemote p && decide (s.ringFree d.queue < s.slotsFor d.queue p.len))

/-- The fault SCH_PATH is logged and reported with the queue and the port node (R88). -/
def State.schPath (s : State) (q pnode : Nat) : State :=
  let s := s.bump R.SCH_ERRLOG F.SCH_ERRLOG_COUNT 1
  let s := if s.bit R.SCH_ERRLOG F.SCH_ERRLOG_VALID then s.setBit R.SCH_ERRLOG F.SCH_ERRLOG_OVF
    else ((s.put R.SCH_ERRLOG F.SCH_ERRLOG_QUEUE q).put R.SCH_ERRLOG F.SCH_ERRLOG_PNODE pnode).setBit R.SCH_ERRLOG F.SCH_ERRLOG_VALID
  s.report FC.SCH_PATH UK.queue q (s.qOrigin q 2) pnode q

/-- The oldest decision of a pipeline names its packet, or undoes its charges when the queue is HELD, the packet is dropped or cannot be
delivered (R95, R470). -/
def execDequeueName (pl : Fin 32) (s : State) : Host.Outcome State Fault Refusal :=
  match s.que.decs.find? (fun d => d.pipe == pl.val) with
  | none => .next s
  | some d =>
    let s := { s with que := { s.que with decs := s.que.decs.filter (fun e => !(e.queue == d.queue && e.pktId == d.pktId)) } }
    match (s.linked d.queue).find? (fun p => p.id == d.pktId) with
    | none => .next (s.undoDecision d)
    | some p =>
      if s.qstate d.queue = QS.HELD then .next (s.undoDecision d)
      else
        let drop := s.dequeueDrop d p
        let path := s.pathOk d p
        if drop = none ∧ s.cannotDeliver d p then .next (s.undoDecision d)
        else
        let s := s.setLinked d.queue ((s.linked d.queue).filter (fun x => x.id != p.id))
        match drop with
        | some st =>
          let s := if path then s else s.schPath d.queue d.pnode
          let s := (s.undoDecision d).bump R.SCH_DECSTAT F.SCH_DECSTAT_DEQDROPS 1
          .next (s.dropPkt p st 0)
        | none =>
          let s := s.bump R.SCH_DECSTAT F.SCH_DECSTAT_DECISIONS 1
          let s := s.tally (ev 0x0C (gobsOf p.len) (some p.origin) none 0)
          .next (if s.goesRemote p then s.beginFabric d.queue d.pnode (gobsOf p.len) p
            else s.beginDelivery d.queue d.pnode (gobsOf p.len) p)

/-! ### Refill ticks (R96, R97) -/

/-- What reads return becomes the value in force, for every register with an address from `lo` up to but not including `hi`. -/
def State.intoForce (s : State) (lo hi : Nat) : State :=
  let inR (a : Nat) : Bool := decide (lo ≤ a) && decide (a < hi)
  let kept := SMap.keep s.act (fun a => !inR a)
  { s with act := (s.regs.filter (fun e => inR e.1)).foldr (fun e m => SMap.set m 0 e.1 e.2) kept }

/-- Nodes whose shape or bucket is not at reset. -/
def State.shapedNodes (s : State) : List Nat :=
  (List.range nodeCount).filter (fun n => s.rdAct (R.SCH_SHAPE n) != 0 || s.rd (R.SCH_BUCKET n) != 0)

/-- A refill tick: SCH_SHAPE takes effect and every bucket takes min(B + RATE, BURST) (R96, R97). -/
def execRefillTick (s : State) : Host.Outcome State Fault Refusal :=
  let s := s.intoForce 0x1840000 (0x1840000 + 8 * nodeCount)
  .next (s.shapedNodes.foldl (fun s n =>
    s.setBucket n (min (s.bucket n + (s.getAct (R.SCH_SHAPE n) F.SCH_SHAPE_RATE : Nat)) (s.getAct (R.SCH_SHAPE n) F.SCH_SHAPE_BURST : Nat))) s)

end Sys2Proof.Machine
end

