-- ==== Sys2Proof/Machine/Agent.lean ====
section
/-!
DEFINITION. How an agent issues an instruction: predicated ranges (R187), the end of a Jack program (R69), taking an exception on a
core (R188 to R191), the end of a request on a lane (R195), and the start of a takeover (R214, R215).
-/
namespace Sys2Proof.Machine

/-- Exception codes (R189). -/
def EX.ILLEGAL : Nat := 1
def EX.PRIV : Nat := 2
def EX.ALIGN : Nat := 3
def EX.BUS_ERR : Nat := 4
def EX.ECALL : Nat := 5
def EX.EVENT : Nat := 6

/-- How the issue of an instruction goes on. -/
inductive IRes where
  | next (s : State)                             -- completed
  | jump (s : State) (target : Nat)              -- completed, control passes to the target
  | pred (s : State) (slots : List Nat)          -- a PRED covers the next instructions
  | exc (s : State) (code addr : Nat)            -- raises an exception
  | wait                                         -- does not issue yet
  | waits (s : State)                            -- nor this, but a gate has decided on an access of it (R156)
  | hold (s : State)                             -- issued; the agent waits, and completes it later
  | ended (s : State)                            -- a Jack request has ended

/-- Syllables of a Gaffer program bank (R200). -/
def gafSyllables : Nat := 209715

/-! ### Cores -/

/-- Physical core that serves logical core `c` (GAF_CORE). -/
def State.phys (s : State) (c : Nat) : Nat := s.get (R.GAF_CORE c) F.GAF_CORE_PHYS

/-- A pending swap completes when no logical core has still to switch (R213). -/
def State.finishSwap (s : State) : State :=
  if s.bit R.GAF_STATUS F.GAF_STATUS_SWAP_BUSY && !(List.range 32).any (fun c => s.bit (R.GAF_CORE c) F.GAF_CORE_SWAP_PEND) then
    (s.put R.GAF_STATUS F.GAF_STATUS_ACTIVE_BANK (1 - s.get R.GAF_STATUS F.GAF_STATUS_ACTIVE_BANK)).put
      R.GAF_STATUS F.GAF_STATUS_SWAP_BUSY 0
  else s

/-- Logical core `c` switches to the new bank of a pending swap, if it has not yet (R213). -/
def State.switchCore (s : State) (c : Nat) : State :=
  if s.bit (R.GAF_CORE c) F.GAF_CORE_SWAP_PEND then
    ((s.put (R.GAF_CORE c) F.GAF_CORE_BANK (1 - s.get (R.GAF_CORE c) F.GAF_CORE_BANK)).put (R.GAF_CORE c) F.GAF_CORE_SWAP_PEND 0).finishSwap
  else s

/-- Logical core `c` is taken over, or left without a core: the failed physical core is stopped and marked, and a spare takes the
number (R214, R215). `discard`: its store buffer is discarded. -/
def State.takeover (s : State) (c : Nat) (discard : Bool) : State :=
  let ph := s.phys c
  let s := s.put R.GAF_STATUS F.GAF_STATUS_FAILED_MASK (Nat.lor (s.get R.GAF_STATUS F.GAF_STATUS_FAILED_MASK) (2 ^ ph))
  let x := s.core c
  let x := if discard then { x with sb := [] } else x
  let s := if discard then (s.gateDone (c + 1)).gateDone (1001 + c) else s.gateDone (c + 1)
  let spares := s.get R.GAF_STATUS F.GAF_STATUS_SPARES
  if spares = 0 then
    let s := ((s.setCore c { x with run := .failed }).put (R.GAF_CORE c) F.GAF_CORE_PHYS 0x3F).switchCore c
    s.report FC.GAF_NOSPARE UK.core c 0 ph 0
  else
    ((s.setCore c { x with run := .taking }).put (R.GAF_CORE c) F.GAF_CORE_PHYS (34 - spares)).put R.GAF_STATUS F.GAF_STATUS_SPARES (spares - 1)

/-- Taking an exception on core `c` (R188): ESTATUS, EPC, ECAUSE and EADDR are written, PRIV becomes firm, EXL is set, IE is cleared,
and PC becomes EVEC. -/
def Core.enter (x : Core) (code addr : Nat) : Core :=
  let covered := !x.slots.isEmpty
  let epc := if covered then x.predPc else x.pc
  let cause := code + (if covered then x.predDone * 2 ^ 8 + 2 ^ 10 else 0)
  let st := x.rcsr CSR.STATUS
  let x := x.wcsr CSR.ESTATUS st
  let x := x.wcsr CSR.EPC epc
  let x := x.wcsr CSR.ECAUSE cause
  let x := x.wcsr CSR.EADDR addr
  let x := x.wcsr CSR.STATUS 0x8
  { x with pc := x.rcsr CSR.EVEC % 2 ^ 32, slots := [], predDone := 0, skip := 0 }

/-- EXL of STATUS. -/
def Core.exl (x : Core) : Bool := bitOf (x.rcsr CSR.STATUS) 3
/-- IE of STATUS. -/
def Core.ie (x : Core) : Bool := bitOf (x.rcsr CSR.STATUS) 2

/-- An exception on a core whose store buffer is empty: entered, or with EXL set the core stops with GAF_DOUBLE and is taken over
while AUTO_TK is set (R188, R191, R214). -/
def State.coreExc (s : State) (c code addr : Nat) : State :=
  let x := s.core c
  if x.exl then
    let s := s.report FC.GAF_DOUBLE UK.core c 0 (x.rcsr CSR.ECAUSE % 256 + s.phys c * 2 ^ 8) (x.rcsr CSR.EPC)
    if s.bit R.GAF_CTL F.GAF_CTL_AUTO_TK then s.takeover c false else (s.setCore c { x with run := .failed }).switchCore c
  else (s.gateDone (c + 1)).setCore c (x.enter code addr)

/-- A device access of the core waits for earlier device stores, and for the stores a FENCE.D has put before it (R133, R139). -/
def Core.deviceWaits (x : Core) : Bool := x.sb.any (fun e => e.device || e.fenced)

/-- A core whose load has failed at the side bridge takes BUS_ERR once its store buffer is empty (R147, R188). -/
def State.settleFault (s : State) (c : Nat) : State :=
  match (s.core c).run with
  | .faulting ea => if (s.core c).sb.isEmpty then (s.setCore c { s.core c with run := .running }).coreExc c EX.BUS_ERR ea else s
  | _ => s

/-! ### Lanes -/

/-- The request that holds a lane. -/
def State.laneReq (s : State) (l : Nat) : Option JackReq := s.que.jack.find? (fun r => r.lane == l)

/-- The request sees the active bank of the action domain (R28). -/
def State.reqCurrent (s : State) (r : JackReq) : Bool := r.epoch == s.actEpoch

/-- Length of the program a request runs (R202). -/
def State.laneLen (s : State) (r : JackReq) : Nat :=
  s.getBank (s.reqCurrent r) (R.JCK_SLOT (s.get (R.QCTX (r.pkt.src % 65536) 0) F.QCTX_JPROG)) F.JCK_SLOT_LEN

/-- A request ends as a drop with a reason (R69, R195). -/
def State.laneDrop (s : State) (r : JackReq) (reason : Nat) : State := (s.jackEnd r).dropPkt r.pkt ST.PROG_DROP reason

/-- A Jack instruction that would raise an exception, or a failed store or atomic, ends the request with JCK_EXC (R195). -/
def State.laneExc (s : State) (l code addr : Nat) : State :=
  match s.laneReq l with
  | none => s
  | some r =>
    let q := r.pkt.src % 65536
    let d := code % 8 + (s.lane l).pc % 32 * 2 ^ 3 + l * 2 ^ 8
    (s.laneDrop r 0xFE).report FC.JCK_EXC UK.queue q (s.qOrigin q 3) d (addr % 2 ^ 48)

/-! ### Issue -/

/-- The agent issues instructions now. -/
def State.live (s : State) (ag : Agent) : Bool :=
  match ag with
  | .core c => (s.core c.val).run == .running
  | .lane l => (s.lane l.val).run == .running && (s.laneReq l.val).isSome

/-- The origin tag of an access the agent makes (R23, R164). -/
def State.agentOrigin (s : State) (ag : Agent) : Nat :=
  match ag with
  | .core c =>
    let x := s.core c.val
    let o := x.rcsr CSR.CTX_ORIGIN
    if x.priv = 2 then s.origin (fieldOf o 0 6) (fieldOf o 6 13) 4 2 else s.origin 0 0 4 x.priv
  | .lane l =>
    match s.laneReq l.val with
    | some r => s.qOrigin (r.pkt.src % 65536) 3
    | none => 0

/-- UNIT of a sample record for an access of the agent (R384). -/
def State.agentUnit (s : State) : Agent → Nat
  | .core c => s.phys c.val
  | .lane l => l.val

/-- After an instruction that does not branch: PC and the predicated range move on (R187). -/
def Core.advance (x : Core) : Core :=
  match x.slots with
  | [] => { x with pc := (x.pc + 1) % 2 ^ 32 }
  | _ :: t => { x with pc := (x.pc + 1) % 2 ^ 32, slots := t, predDone := x.predDone + 1 }

/-- A program that has reached its end without an ENQ or a drop ends as a drop with reason 0xFF (R69). -/
def State.laneEnd (s : State) (ag : Agent) : State :=
  match ag with
  | .core _ => s
  | .lane l =>
    match s.laneReq l.val with
    | some r => if s.laneLen r ≤ (s.lane l.val).pc then s.laneDrop r 0xFF else s
    | none => s

/-- A Gaffer instruction retires (R377, class 0x01). -/
def State.retireInsn (s : State) (ag : Agent) (insn pc : Nat) : State :=
  match ag with
  | .core c => s.tally { ev 0x01 1 (some (s.agentOrigin ag)) none (s.phys c.val) with insn := insn, pc := pc }
  | .lane _ => s

/-- Complete an instruction that does not branch. -/
def State.complete1 (s : State) (ag : Agent) : State := (s.setAgent ag (s.agent ag).advance).laneEnd ag

/-- Raise an exception for the agent. A core waits until its store buffer is empty, since R188 drains it first (R147). -/
def State.raise (s0 s : State) (ag : Agent) (code addr : Nat) : State :=
  match ag with
  | .core c => if (s0.core c.val).sb.isEmpty then s.coreExc c.val code addr else s0
  | .lane l => s.laneExc l.val code addr

/-- Issue an instruction: a covered instruction whose predicate is false has no effect and raises nothing (R187). -/
def State.issue (s : State) (ag : Agent) (insn : Nat) (f : State → IRes) : State :=
  if !s.live ag then s
  else
    let x := s.agent ag
    let pc := x.pc
    let run := match x.slots with
      | [] => true
      | sl :: _ => x.slotTrue sl
    if !run then s.complete1 ag
    else
      let s' := s.setAgent ag { x with skip := 0 }
      match f s' with
      | .next t => (t.retireInsn ag insn pc).complete1 ag
      | .jump t target =>
        let t := t.retireInsn ag insn pc
        (t.setAgent ag { t.agent ag with pc := target, slots := [] }).laneEnd ag
      | .pred t slots =>
        let t := t.retireInsn ag insn pc
        let k := min x.skip slots.length
        (t.setAgent ag { t.agent ag with
          pc := (pc + 1 + k) % 2 ^ 32, slots := slots.drop k, predPc := pc, predDone := k }).laneEnd ag
      | .exc t code addr => s.raise t ag code addr
      | .wait => s
      | .waits t => t.setAgent ag x
      | .hold t => t
      | .ended t => t

/-- An instruction of which `t` is the effect, if its syllable decodes: `rsv` holds the bits of reserved fields and of fields the instruction does not
name, and any of them raises ILLEGAL (R165, R189). -/
def State.ifDecodes (s : State) (ag : Agent) (rsv : BitVec 40) (t : State) : State :=
  if rsv = 0 then t else s.issue ag 0 (fun s => .exc s EX.ILLEGAL 0)

/-- An instruction that no Jack program may hold: a lane that meets one ends its request (R193, R195). -/
def coreOnly (ag : Agent) (f : State → IRes) (s : State) : IRes :=
  match ag with
  | .core _ => f s
  | .lane _ => .exc s EX.ILLEGAL 0

/-- An instruction that needs firm privilege. -/
def needFirm (ag : Agent) (f : State → IRes) (s : State) : IRes :=
  if (s.agent ag).priv = 0 then f s else .exc s EX.PRIV 0

/-- Write a general register of the agent. -/
def State.setG (s : State) (ag : Agent) (r v : Nat) : State := s.setAgent ag ((s.agent ag).wg r v)
/-- Write a predicate of the agent. -/
def State.setP (s : State) (ag : Agent) (p : Nat) (b : Bool) : State := s.setAgent ag ((s.agent ag).wp p b)
/-- Read a general register of the agent. -/
def State.gr (s : State) (ag : Agent) (r : Nat) : Nat := (s.agent ag).rg r

end Sys2Proof.Machine
end

