-- ==== Sys2Proof/Machine/Alu.lean ====
section
/-!
DEFINITION. Integer instructions (R167, R168), predicates (R169) and gob counters (R170). Each is one command of the agent that
issues it, with its decoded operands.
-/
namespace Sys2Proof.Machine

/-- gD = f gA gB (R167). -/
def aluRR (fn : Nat) (f : Nat → Nat → Nat) (ag : Agent) (rd ra rb : Nat) (s : State) : State :=
  s.issue ag (sylAlu fn rd ra rb) (fun s => .next (s.setG ag rd (f (s.gr ag ra) (s.gr ag rb))))

/-- gD = f gA imm, with the immediate sign-extended (R167). -/
def aluRI (fn : Nat) (f : Nat → Nat → Nat) (ag : Agent) (rd ra imm : Nat) (s : State) : State :=
  s.issue ag (sylAlui fn rd ra imm) (fun s => .next (s.setG ag rd (f (s.gr ag ra) (sext imm 20))))

/-- A shift by an immediate: bits [19:6] of the immediate must be zero (R165, R167). -/
def aluShift (fn : Nat) (f : Nat → Nat → Nat) (ag : Agent) (rd ra imm : Nat) (s : State) : State :=
  s.issue ag (sylAlui fn rd ra imm) (fun s =>
    if 64 ≤ imm then .exc s EX.ILLEGAL 0 else .next (s.setG ag rd (f (s.gr ag ra) imm)))

def opAdd (a b : Nat) : Nat := (a + b) % 2 ^ 64
def opSub (a b : Nat) : Nat := wrap64 ((a : Int) - (b : Int))
def opAndn (a b : Nat) : Nat := Nat.land a (2 ^ 64 - 1 - b)
/-- Shifts use only bits [5:0] of their amount. -/
def opSll (a b : Nat) : Nat := a * 2 ^ (b % 64) % 2 ^ 64
def opSrl (a b : Nat) : Nat := a / 2 ^ (b % 64)
def opSra (a b : Nat) : Nat := wrap64 (signedOf a 64 / (2 ^ (b % 64) : Nat))
def opMul (a b : Nat) : Nat := a * b % 2 ^ 64
def opMulhu (a b : Nat) : Nat := a * b / 2 ^ 64
def opMin (a b : Nat) : Nat := if signedOf a 64 ≤ signedOf b 64 then a else b
def opMax (a b : Nat) : Nat := if signedOf a 64 ≤ signedOf b 64 then b else a

/-- ADD: gD = gA + gB modulo 2^64 (R167). -/
def execIAdd (iss : By Agent) (rd ra rb : Fin 32) (s : State) : Host.Outcome State Fault Refusal :=
  .next (s.ifDecodes iss.who iss.rsv (aluRR 0 opAdd iss.who rd.val ra.val rb.val s))

/-- SUB: gD = gA - gB modulo 2^64 (R167). -/
def execISub (iss : By Agent) (rd ra rb : Fin 32) (s : State) : Host.Outcome State Fault Refusal :=
  .next (s.ifDecodes iss.who iss.rsv (aluRR 1 opSub iss.who rd.val ra.val rb.val s))

/-- ALU_AND: gD = gA & gB (R167). -/
def execAluAnd (iss : By Agent) (rd ra rb : Fin 32) (s : State) : Host.Outcome State Fault Refusal :=
  .next (s.ifDecodes iss.who iss.rsv (aluRR 2 Nat.land iss.who rd.val ra.val rb.val s))

/-- ALU_OR: gD = gA | gB (R167). -/
def execAluOr (iss : By Agent) (rd ra rb : Fin 32) (s : State) : Host.Outcome State Fault Refusal :=
  .next (s.ifDecodes iss.who iss.rsv (aluRR 3 Nat.lor iss.who rd.val ra.val rb.val s))

/-- ALU_XOR: gD = gA ^ gB (R167). -/
def execAluXor (iss : By Agent) (rd ra rb : Fin 32) (s : State) : Host.Outcome State Fault Refusal :=
  .next (s.ifDecodes iss.who iss.rsv (aluRR 4 Nat.xor iss.who rd.val ra.val rb.val s))

/-- ANDN: gD = gA & ~gB (R167). -/
def execAndn (iss : By Agent) (rd ra rb : Fin 32) (s : State) : Host.Outcome State Fault Refusal :=
  .next (s.ifDecodes iss.who iss.rsv (aluRR 5 opAndn iss.who rd.val ra.val rb.val s))

/-- SLL: gD = gA shifted left by gB[5:0] (R167). -/
def execSll (iss : By Agent) (rd ra rb : Fin 32) (s : State) : Host.Outcome State Fault Refusal :=
  .next (s.ifDecodes iss.who iss.rsv (aluRR 6 opSll iss.who rd.val ra.val rb.val s))

/-- SRL: gD = gA shifted right by gB[5:0], zero fill (R167). -/
def execSrl (iss : By Agent) (rd ra rb : Fin 32) (s : State) : Host.Outcome State Fault Refusal :=
  .next (s.ifDecodes iss.who iss.rsv (aluRR 7 opSrl iss.who rd.val ra.val rb.val s))

/-- SRA: gD = gA shifted right by gB[5:0], sign fill (R167). -/
def execSra (iss : By Agent) (rd ra rb : Fin 32) (s : State) : Host.Outcome State Fault Refusal :=
  .next (s.ifDecodes iss.who iss.rsv (aluRR 8 opSra iss.who rd.val ra.val rb.val s))

/-- MUL: gD = low 64 bits of gA * gB (R167). -/
def execMul (iss : By Agent) (rd ra rb : Fin 32) (s : State) : Host.Outcome State Fault Refusal :=
  .next (s.ifDecodes iss.who iss.rsv (aluRR 9 opMul iss.who rd.val ra.val rb.val s))

/-- MULHU: gD = high 64 bits of the unsigned product (R167). -/
def execMulhu (iss : By Agent) (rd ra rb : Fin 32) (s : State) : Host.Outcome State Fault Refusal :=
  .next (s.ifDecodes iss.who iss.rsv (aluRR 10 opMulhu iss.who rd.val ra.val rb.val s))

/-- MIN: gD = signed minimum (R167). -/
def execIMin (iss : By Agent) (rd ra rb : Fin 32) (s : State) : Host.Outcome State Fault Refusal :=
  .next (s.ifDecodes iss.who iss.rsv (aluRR 11 opMin iss.who rd.val ra.val rb.val s))

/-- MAX: gD = signed maximum (R167). -/
def execIMax (iss : By Agent) (rd ra rb : Fin 32) (s : State) : Host.Outcome State Fault Refusal :=
  .next (s.ifDecodes iss.who iss.rsv (aluRR 12 opMax iss.who rd.val ra.val rb.val s))

/-- MINU: gD = unsigned minimum (R167). -/
def execMinu (iss : By Agent) (rd ra rb : Fin 32) (s : State) : Host.Outcome State Fault Refusal :=
  .next (s.ifDecodes iss.who iss.rsv (aluRR 13 min iss.who rd.val ra.val rb.val s))

/-- MAXU: gD = unsigned maximum (R167). -/
def execMaxu (iss : By Agent) (rd ra rb : Fin 32) (s : State) : Host.Outcome State Fault Refusal :=
  .next (s.ifDecodes iss.who iss.rsv (aluRR 14 max iss.who rd.val ra.val rb.val s))

/-- ADDI: gD = gA + sext(IMM) (R167). -/
def execAddi (iss : By Agent) (rd ra : Fin 32) (imm : BitVec 20) (s : State) : Host.Outcome State Fault Refusal :=
  .next (s.ifDecodes iss.who iss.rsv (aluRI 0 opAdd iss.who rd.val ra.val imm.toNat s))

/-- ANDI: gD = gA & sext(IMM) (R167). -/
def execAndi (iss : By Agent) (rd ra : Fin 32) (imm : BitVec 20) (s : State) : Host.Outcome State Fault Refusal :=
  .next (s.ifDecodes iss.who iss.rsv (aluRI 1 Nat.land iss.who rd.val ra.val imm.toNat s))

/-- ORI: gD = gA | sext(IMM) (R167). -/
def execOri (iss : By Agent) (rd ra : Fin 32) (imm : BitVec 20) (s : State) : Host.Outcome State Fault Refusal :=
  .next (s.ifDecodes iss.who iss.rsv (aluRI 2 Nat.lor iss.who rd.val ra.val imm.toNat s))

/-- XORI: gD = gA ^ sext(IMM) (R167). -/
def execXori (iss : By Agent) (rd ra : Fin 32) (imm : BitVec 20) (s : State) : Host.Outcome State Fault Refusal :=
  .next (s.ifDecodes iss.who iss.rsv (aluRI 3 Nat.xor iss.who rd.val ra.val imm.toNat s))

/-- MULI: gD = low 64 bits of gA * sext(IMM) (R167). -/
def execMuli (iss : By Agent) (rd ra : Fin 32) (imm : BitVec 20) (s : State) : Host.Outcome State Fault Refusal :=
  .next (s.ifDecodes iss.who iss.rsv (aluRI 7 opMul iss.who rd.val ra.val imm.toNat s))

/-- SLLI: shift left by IMM (R167). -/
def execSlli (iss : By Agent) (rd ra : Fin 32) (imm : BitVec 20) (s : State) : Host.Outcome State Fault Refusal :=
  .next (s.ifDecodes iss.who iss.rsv (aluShift 4 opSll iss.who rd.val ra.val imm.toNat s))

/-- SRLI: logical shift right by IMM (R167). -/
def execSrli (iss : By Agent) (rd ra : Fin 32) (imm : BitVec 20) (s : State) : Host.Outcome State Fault Refusal :=
  .next (s.ifDecodes iss.who iss.rsv (aluShift 5 opSrl iss.who rd.val ra.val imm.toNat s))

/-- SRAI: arithmetic shift right by IMM (R167). -/
def execSrai (iss : By Agent) (rd ra : Fin 32) (imm : BitVec 20) (s : State) : Host.Outcome State Fault Refusal :=
  .next (s.ifDecodes iss.who iss.rsv (aluShift 6 opSra iss.who rd.val ra.val imm.toNat s))

/-! ### Constants and bit fields (R168) -/

/-- MOVI places IMM at bit 16 * SH; KEEP keeps the other bits of gD (R168). -/
def execMovi (iss : By Agent) (rd : Fin 32) (sh : Fin 4) (keep : Bool) (imm : BitVec 16) (s : State) : Host.Outcome State Fault Refusal :=
  .next (s.ifDecodes iss.who iss.rsv (s.issue iss.who (0x03 + rd.val * 2 ^ 6 + sh.val * 2 ^ 11 + bit01 keep * 2 ^ 13 + imm.toNat * 2 ^ 20) (fun s =>
    .next (s.setG iss.who rd.val (if keep then putField (s.gr iss.who rd.val) (16 * sh.val) 16 imm.toNat else imm.toNat * 2 ^ (16 * sh.val))))))

/-- The common form of EXTU, EXTS and INS: a field that ends above bit 63 raises ILLEGAL (R168). -/
def fieldOp (fn : Nat) (f : State → Nat) (ag : Agent) (rd ra pos wm1 : Nat) (s : State) : State :=
  s.issue ag (syl 0x04 rd ra 0 0 + pos * 2 ^ 16 + wm1 * 2 ^ 22 + fn * 2 ^ 28) (fun s =>
    if 63 < pos + wm1 then .exc s EX.ILLEGAL 0 else .next (s.setG ag rd (f s)))

/-- EXTU: bits [POS + WM1 : POS] of gA with zero fill (R168). -/
def execExtu (iss : By Agent) (rd ra : Fin 32) (pos wm1 : Fin 64) (s : State) : Host.Outcome State Fault Refusal :=
  .next (s.ifDecodes iss.who iss.rsv (fieldOp 0 (fun s => fieldOf (s.gr iss.who ra.val) pos.val (wm1.val + 1)) iss.who rd.val ra.val pos.val wm1.val s))

/-- EXTS: bits [POS + WM1 : POS] of gA with sign fill (R168). -/
def execExts (iss : By Agent) (rd ra : Fin 32) (pos wm1 : Fin 64) (s : State) : Host.Outcome State Fault Refusal :=
  .next (s.ifDecodes iss.who iss.rsv (fieldOp 1 (fun s => sext (fieldOf (s.gr iss.who ra.val) pos.val (wm1.val + 1)) (wm1.val + 1)) iss.who rd.val ra.val pos.val wm1.val s))

/-- INS: bits [WM1 : 0] of gA into bits [POS + WM1 : POS] of gD (R168). -/
def execIns (iss : By Agent) (rd ra : Fin 32) (pos wm1 : Fin 64) (s : State) : Host.Outcome State Fault Refusal :=
  .next (s.ifDecodes iss.who iss.rsv (fieldOp 2 (fun s => putField (s.gr iss.who rd.val) pos.val (wm1.val + 1) (s.gr iss.who ra.val)) iss.who rd.val ra.val pos.val wm1.val s))

/-! ### Predicates (R169) -/

/-- pD = gA cc b; a CC that does not exist raises ILLEGAL (R169). -/
def compare (insn : Nat) (ag : Agent) (pd cc ra : Nat) (b : State → Nat) (s : State) : State :=
  s.issue ag insn (fun s =>
    match condition cc (s.gr ag ra) (b s) with
    | some v => .next (s.setP ag pd v)
    | none => .exc s EX.ILLEGAL 0)

/-- CMP: pD = gA cc gB (R169). -/
def execCmp (iss : By Agent) (pd : Fin 8) (cc : Fin 16) (ra rb : Fin 32) (s : State) : Host.Outcome State Fault Refusal :=
  .next (s.ifDecodes iss.who iss.rsv (compare (0x05 + pd.val * 2 ^ 6 + ra.val * 2 ^ 11 + rb.val * 2 ^ 16 + cc.val * 2 ^ 21) iss.who pd.val cc.val ra.val (fun s => s.gr iss.who rb.val) s))

/-- CMPI: pD = gA cc sext(IMM) (R169). -/
def execCmpi (iss : By Agent) (pd : Fin 8) (cc : Fin 16) (ra : Fin 32) (imm : BitVec 20) (s : State) : Host.Outcome State Fault Refusal :=
  .next (s.ifDecodes iss.who iss.rsv (compare (0x06 + pd.val * 2 ^ 6 + ra.val * 2 ^ 11 + cc.val * 2 ^ 16 + imm.toNat * 2 ^ 20) iss.who pd.val cc.val ra.val (fun _ => sext imm.toNat 20) s))

/-- pD = f pA pB (R169). -/
def plog (fn : Nat) (f : Bool → Bool → Bool) (ag : Agent) (pd pa pb : Nat) (s : State) : State :=
  s.issue ag (0x07 + pd * 2 ^ 6 + pa * 2 ^ 11 + pb * 2 ^ 16 + fn * 2 ^ 21) (fun s =>
    .next (s.setP ag pd (f ((s.agent ag).rp pa) ((s.agent ag).rp pb))))

/-- PLOG_AND: pD = pA and pB (R169). -/
def execPlogAnd (iss : By Agent) (pd pa pb : Fin 8) (s : State) : Host.Outcome State Fault Refusal := .next (s.ifDecodes iss.who iss.rsv (plog 0 (fun a b => a && b) iss.who pd.val pa.val pb.val s))

/-- PLOG_OR: pD = pA or pB (R169). -/
def execPlogOr (iss : By Agent) (pd pa pb : Fin 8) (s : State) : Host.Outcome State Fault Refusal := .next (s.ifDecodes iss.who iss.rsv (plog 1 (fun a b => a || b) iss.who pd.val pa.val pb.val s))

/-- PLOG_XOR: pD = pA xor pB (R169). -/
def execPlogXor (iss : By Agent) (pd pa pb : Fin 8) (s : State) : Host.Outcome State Fault Refusal := .next (s.ifDecodes iss.who iss.rsv (plog 2 xor iss.who pd.val pa.val pb.val s))

/-- PLOG_ANDN: pD = pA and not pB (R169). -/
def execPlogAndn (iss : By Agent) (pd pa pb : Fin 8) (s : State) : Host.Outcome State Fault Refusal := .next (s.ifDecodes iss.who iss.rsv (plog 3 (fun a b => a && !b) iss.who pd.val pa.val pb.val s))

/-- PLOG_MOV: pD = pA (R169). -/
def execPlogMov (iss : By Agent) (pd pa pb : Fin 8) (s : State) : Host.Outcome State Fault Refusal := .next (s.ifDecodes iss.who iss.rsv (plog 4 (fun a _ => a) iss.who pd.val pa.val pb.val s))

/-- PLOG_NOT: pD = not pA (R169). -/
def execPlogNot (iss : By Agent) (pd pa pb : Fin 8) (s : State) : Host.Outcome State Fault Refusal := .next (s.ifDecodes iss.who iss.rsv (plog 5 (fun a _ => !a) iss.who pd.val pa.val pb.val s))

/-! ### Gob counters (R170) -/

/-- A KOP with a k register as destination: bits [10:9] of D must be zero (R170). -/
def kopK (fn : Nat) (f : Core → Nat) (ag : Agent) (d : Nat) (ra ka kb : Nat) (s : State) : State :=
  s.issue ag (0x08 + d * 2 ^ 6 + ra * 2 ^ 11 + ka * 2 ^ 16 + kb * 2 ^ 19 + fn * 2 ^ 22) (fun s =>
    if 8 ≤ d then .exc s EX.ILLEGAL 0 else .next (s.setAgent ag ((s.agent ag).wk d (f (s.agent ag)))))

/-- KMOV: kD = min(gA, 2^48 - 1) (R170). -/
def execKmov (iss : By Agent) (d : Fin 32) (ra : Fin 32) (s : State) : Host.Outcome State Fault Refusal := .next (s.ifDecodes iss.who iss.rsv (kopK 0 (fun x => x.rg ra.val) iss.who d.val ra.val 0 0 s))

/-- KBYT: kD = min(gA * 256, 2^48 - 1) (R170). -/
def execKbyt (iss : By Agent) (d : Fin 32) (ra : Fin 32) (s : State) : Host.Outcome State Fault Refusal := .next (s.ifDecodes iss.who iss.rsv (kopK 1 (fun x => x.rg ra.val * 256) iss.who d.val ra.val 0 0 s))

/-- KGOB: kD = min(ceil(gA / 256) * 65,536, 2^48 - 1) (R170). -/
def execKgob (iss : By Agent) (d : Fin 32) (ra : Fin 32) (s : State) : Host.Outcome State Fault Refusal := .next (s.ifDecodes iss.who iss.rsv (kopK 2 (fun x => gobsOf (x.rg ra.val) * 65536) iss.who d.val ra.val 0 0 s))

/-- KADD: kD = min(kA + kB, 2^48 - 1) (R170). -/
def execKadd (iss : By Agent) (d : Fin 32) (ka kb : Fin 8) (s : State) : Host.Outcome State Fault Refusal := .next (s.ifDecodes iss.who iss.rsv (kopK 3 (fun x => x.rk ka.val + x.rk kb.val) iss.who d.val 0 ka.val kb.val s))

/-- KSUB: kD = max(kA - kB, 0) (R170). -/
def execKsub (iss : By Agent) (d : Fin 32) (ka kb : Fin 8) (s : State) : Host.Outcome State Fault Refusal := .next (s.ifDecodes iss.who iss.rsv (kopK 4 (fun x => x.rk ka.val - x.rk kb.val) iss.who d.val 0 ka.val kb.val s))

/-- GMOV: gD = kA, zero-extended (R170). -/
def execGmov (iss : By Agent) (rd : Fin 32) (ka : Fin 8) (s : State) : Host.Outcome State Fault Refusal :=
  .next (s.ifDecodes iss.who iss.rsv (s.issue iss.who (0x08 + rd.val * 2 ^ 6 + ka.val * 2 ^ 16 + 5 * 2 ^ 22) (fun s => .next (s.setG iss.who rd.val ((s.agent iss.who).rk ka.val)))))

end Sys2Proof.Machine
end

