-- ==== Sys2Proof/Machine/Gates.lean ====
section
/-!
DEFINITION. Access gates: banks and their swap (R29, R157), master sets and regions (R151 to R153), the boot rule (R155), violations
(R160, R161), the checks of a commit (R154), and the commands GATE_DRAINED and GATE_COPY_DONE.
-/
namespace Sys2Proof.Machine

/-! ### Banks (R28, R29) -/

/-- An address lies in one of the ranges (first address, first address after). -/
def inRanges (rs : List (Nat × Nat)) (a : Nat) : Bool := rs.any (fun r => decide (r.1 ≤ a) && decide (a < r.2))

/-- The entries of `src` at the addresses `p` names replace those of `dst`. -/
def overlay (p : Nat → Bool) (src dst : SMap Nat) : SMap Nat :=
  (src.filter (fun e => p e.1)).foldr (fun e m => SMap.set m 0 e.1 e.2) (SMap.keep dst (fun a => !p a))

/-- The shadow bank of the addresses becomes active and the active bank becomes the shadow bank. -/
def State.swapBanks (s : State) (p : Nat → Bool) : State :=
  { s with regs := overlay p s.act s.regs, act := overlay p s.regs s.act }

/-- The active bank of the addresses is copied into the shadow bank. -/
def State.copyBanks (s : State) (p : Nat → Bool) : State := { s with regs := overlay p s.act s.regs }

/-! ### Regions and master sets (R148 to R152) -/

/-- Access kinds (R152), with their KIND code in GAT_VLOGA. -/
def AK.read : Nat := 0
def AK.write : Nat := 1
def AK.atomic : Nat := 2

/-- A region of a gate in one bank: gate and number, base, size in bytes, SIZE_LOG2, permissions. -/
structure Region where
  gate : Nat
  no : Nat
  base : Nat
  log2 : Nat
  perm : Nat
  deriving DecidableEq, Repr

def Region.size (r : Region) : Nat := 2 ^ r.log2
def Region.covers (r : Region) (a : Nat) : Bool := decide (r.base ≤ a) && decide (a < r.base + r.size)

/-- The valid regions of gate `g` in the active (true) or shadow bank. -/
def State.regionsOf (s : State) (active : Bool) (g : Nat) : List Region :=
  (List.range 64).filterMap (fun r =>
    let a := if active then s.rdAct (R.GAT_RGNA g r) else s.rd (R.GAT_RGNA g r)
    let b := if active then s.rdAct (R.GAT_RGNB g r) else s.rd (R.GAT_RGNB g r)
    if fieldOf a 0 1 = 1 then some ⟨g, r, fieldOf a 8 45 * 8, fieldOf a 1 6, fieldOf b 0 48⟩ else none)

/-- Extension `j` is attached to gate `g` in the active or shadow bank (R150). -/
def State.attached (s : State) (active : Bool) (g j : Nat) : Bool :=
  let x := if active then s.rdAct (R.GAT_XCFG j) else s.rd (R.GAT_XCFG j)
  fieldOf x 5 1 == 1 && fieldOf x 0 5 == g && decide (g < 24)

/-- Regions that a gate checks with: its own and those of the extensions attached to it (R150). -/
def State.gateRegions (s : State) (active : Bool) (g : Nat) : List Region :=
  s.regionsOf active g ++ ((List.range 8).filter (s.attached active g)).flatMap (fun j => s.regionsOf active (24 + j))

/-- Master sets of gate `g` in force that contain the tag (R151). -/
def State.masterSets (s : State) (g origin : Nat) : List Nat :=
  (List.range 16).filter (fun k =>
    let m := s.rdAct (R.GAT_MSET g k)
    let mask := fieldOf m 32 32
    Nat.land origin mask == Nat.land (fieldOf m 0 32) mask)

/-- The region grants a kind to one of the sets (R152). -/
def Region.grants (r : Region) (sets : List Nat) (kind : Nat) : Bool := sets.any (fun k => bitOf r.perm (3 * k + kind))

/-- The lowest byte from `a` up to but not including `b` that no granting region covers (R153, R161). -/
def firstDenied (rs : List Region) (sets : List Nat) (kind b : Nat) : Nat → Nat → Option Nat
  | 0, a => some a
  | fuel + 1, a =>
    if b ≤ a then none
    else match rs.find? (fun r => r.covers a && r.grants sets kind) with
      | none => some a
      | some r => firstDenied rs sets kind b fuel (r.base + r.size)

/-- The boot rule (R155). -/
def State.bootGrants (s : State) (origin : Nat) : Bool :=
  (oEng origin == 4 && oPriv origin == 0) || oEng origin == 5 || (oEng origin == 0 && oFn origin == 0 && oPt origin == s.get R.PTN_MGMT F.PTN_MGMT_MGMT_PT)

/-- Masters whose accesses are checked (R149). -/
def gateChecks (origin : Nat) : Bool := [0, 3, 4, 5, 7].contains (oEng origin)

/-- The address of a gate event as tally counters see it (R377). -/
def gateSpace (g : Nat) : Nat := if g ≤ 16 then 1 else if g = 17 then 3 else if g = 18 then 0 else if g = 19 then 4 else 2

/-! ### Checking an access (R153, R155, R160, R161) -/

/-- A denied access is counted, logged and reported; a host function may be held (R160, R161). -/
def State.gateViolation (s : State) (g a len kind origin : Nat) (rgn : Option Region) : State :=
  let s := s.bump (R.GAT_GSTAT g) F.GAT_GSTAT_VIOLATIONS 1
  let s := if s.bit (R.GAT_VLOGA g) F.GAT_VLOGA_VALID then s.setBit (R.GAT_VLOGA g) F.GAT_VLOGA_OVF
    else
      let where' := match rgn with
        | some r => r.no * 2 ^ 51 + r.gate * 2 ^ 57
        | none => 2 ^ 50
      (s.wr (R.GAT_VLOGA g) (a % 2 ^ 48 + kind * 2 ^ 48 + where' + 2 ^ 62 + s.get (R.GAT_VLOGA g) F.GAT_VLOGA_OVF * 2 ^ 63)).wr
        (R.GAT_VLOGB g) (origin % 2 ^ 32 + len % 2 ^ 13 * 2 ^ 32 + s.get (R.GAT_EPOCH g) F.GAT_EPOCH_EPOCH * 2 ^ 45)
  let s := s.tally (ev 0x09 1 (some origin) (some (gateSpace g, a)) g)
  let host := oEng origin == 0 && oFn origin != noFn
  let hold := host && s.bit R.GAT_CTL F.GAT_CTL_VIOL_HOLD
  let r : Report := ⟨FC.GAT_VIOLATION, if host then UK.function else UK.module, if host then oFn origin else 0, origin, g, a, s.now, hold⟩
  { s with reports := s.reports ++ [r] }

/-- Check an access of `len` bytes at `a` by the gate's active bank, or by the boot rule. -/
def State.gateCheck (s : State) (g a len kind origin : Nat) : Bool × State :=
  if !gateChecks origin then (true, s)
  else
    let granted (s : State) : State := s.tally (ev 0x08 1 (some origin) (some (gateSpace g, a)) g)
    if s.bit (R.GAT_GSTAT g) F.GAT_GSTAT_BOOT then
      if s.bootGrants origin then (true, granted s) else (false, s.gateViolation g a len kind origin none)
    else
      let rs := s.gateRegions true g
      let sets := s.masterSets g origin
      match firstDenied rs sets kind (a + len) 600 a with
      | none => (true, granted s)
      | some b => (false, s.gateViolation g a len kind origin (rs.find? (fun r => r.covers b)))

/-! ### Accesses that wait behind a gate (R156) -/

/-- The same access by the same master. -/
def GateBound.same (b : GateBound) (g a len kind origin who : Nat) : Bool :=
  b.gate == g && b.addr == a && b.len == len && b.kind == kind && b.origin == origin && b.who == who

/-- An access arrives at gate `g`: checked, unless it was let through before and has waited at its target since (R156). -/
def State.gateArrive (s : State) (g a len kind origin who : Nat) : Bool × State :=
  if s.gst.bound.any (fun b => b.same g a len kind origin who) then (true, s) else s.gateCheck g a len kind origin

/-- An access that gate `g` has let through waits at its target. -/
def State.gateBind (s : State) (g a len kind origin who : Nat) : State :=
  if !gateChecks origin || s.gst.bound.any (fun b => b.same g a len kind origin who) then s
  else { s with gst := { s.gst with bound := s.gst.bound ++ [⟨g, a, len, kind, origin, who, false⟩] } }

/-- An access that gate `g` has let through is carried out, or ends. -/
def State.gateFree (s : State) (g a len kind origin who : Nat) : State :=
  { s with gst := { s.gst with bound := s.gst.bound.filter (fun b => !b.same g a len kind origin who) } }

/-- Accesses bound to the previous bank of gate `g` (OLD_INFLIGHT, R157): those that wait, and for GATE19 those in the side bridge. -/
def State.gateOld (s : State) (g : Nat) : Nat :=
  (s.gst.bound.filter (fun b => b.gate == g && b.old)).length + (if g = 19 then (s.lth.reqs.filter (·.old)).length else 0)

/-- A commit of gate `g` makes the bank of every access behind it the previous one. -/
def State.gateAge (s : State) (g : Nat) : State :=
  let s := { s with gst := { s.gst with bound := s.gst.bound.map (fun b => if b.gate = g then { b with old := true } else b) } }
  if g = 19 then { s with lth := { s.lth with reqs := s.lth.reqs.map (fun r => { r with old := true }) } } else s

/-- The gate in front of a gather-store address: the keep-region gate, or the gate of its channel group (R130, R148). -/
def State.gateOfGst (s : State) (a : Nat) : Nat :=
  let base := s.get R.GST_KEEP F.GST_KEEP_BASE_PAGE
  if base ≤ a / 2 ^ 21 ∧ a / 2 ^ 21 < base + min 8 (s.get R.GST_KEEP F.GST_KEEP_PAGES) then 16 else s.cgOf a

/-! ### Commit checks (R154) -/

/-- Span of a gate as first address, first address after, and largest SIZE_LOG2 (R148, R154). -/
def gateSpan (g : Nat) (detached : Bool) : Nat × Nat × Nat :=
  if g ≤ 16 then (0, 2 ^ 37, 37)
  else if g = 17 then (0, 2 ^ 28, 28)
  else if g = 18 then (0, 2 ^ 24, 24)
  else if g = 19 then (0, 2 ^ 32, 32)
  else if g ≤ 23 then ((g - 20) * 2 ^ 24, (g - 19) * 2 ^ 24, 24)
  else if detached then (0, 2 ^ 48, 48) else (0, 0, 0)

/-- The region breaks the limits of its span (BAD_WHY 2). -/
def Region.badShape (r : Region) (span : Nat × Nat × Nat) : Bool :=
  decide (r.log2 < 3) || decide (span.2.2 < r.log2) || r.base % r.size != 0 || decide (r.base < span.1) || decide (span.2.1 < r.base + r.size)

/-- The two regions share a byte. -/
def Region.overlaps (r t : Region) : Bool := decide (r.base < t.base + t.size) && decide (t.base < r.base + r.size)

/-- The lowest pair of regions that share a byte. -/
def overlapPair : List Region → Option (Region × Region)
  | [] => none
  | r :: rs => match rs.find? (fun t => r.overlaps t) with
    | some t => some (r, t)
    | none => overlapPair rs

/-- Why a gate refuses a commit: BAD_WHY and the reported regions (R154). -/
def State.gateRefusal (s : State) (g : Nat) : Option (Nat × Nat × Nat × Nat × Nat) :=
  if s.bit (R.GAT_GSTAT g) F.GAT_GSTAT_COMMIT_PEND ∨ s.bit R.GAF_DEBUG F.GAF_DEBUG_GDIR then some (0, 0, 0, 0, 0)
  else
    let rs := s.gateRegions false g
    match overlapPair rs with
    | some (r, t) => some (1, r.gate, r.no, t.gate, t.no)
    | none =>
      match rs.find? (fun r => r.badShape (gateSpan g true)) with
      | some r => some (2, r.gate, r.no, 0, 0)
      | none =>
        if 24 ≤ g then
          (if s.getAct (R.GAT_XCFG (g - 24)) F.GAT_XCFG_EN = 1 then some (3, g, 0, 0, 0) else none)
        else match (List.range 8).find? (fun j => s.attached false g j && s.getAct (R.GAT_XCFG j) F.GAT_XCFG_EN == 1 && !s.attached true g j) with
          | some j => some (3, 24 + j, 0, 0, 0)
          | none => none

/-- Extensions whose records the commit of host `g` takes with it (R150, log entry 20). -/
def State.gateExts (s : State) (g : Nat) : List Nat :=
  if 24 ≤ g then []
  else (List.range 8).filter (fun j => s.attached false g j || (s.attached true g j && s.get (R.GAT_XCFG j) F.GAT_XCFG_EN == 0))

/-- Extensions of host `g` that its commit detaches because their shadow record names another host: they keep that record for its commit
(R150, log entry 20). -/
def State.gateLeaves (s : State) (g : Nat) : List Nat :=
  (List.range 8).filter (fun j => s.attached true g j && !(s.gateExts g).contains j)

/-- Address ranges of the records of gate `g`. -/
def gateRange (g : Nat) : List (Nat × Nat) :=
  [(0x2410000 + 0x80 * g, 0x2410080 + 0x80 * g), (0x2420000 + 0x400 * g, 0x2420400 + 0x400 * g)]

/-- Address ranges of extension `j`: its XCFG and its records. -/
def extRange (j : Nat) : List (Nat × Nat) := (0x2400100 + 8 * j, 0x2400108 + 8 * j) :: gateRange (24 + j)

/-- Ranges of a host gate with extensions. -/
def gateRanges (g : Nat) (exts : List Nat) : List (Nat × Nat) :=
  gateRange g ++ exts.flatMap extRange

/-- Commit one gate: refused with its cause logged, or accepted (R154, R155, R157). An extension that the commit detaches has no later copy:
its bank is copied at once. -/
def State.gateCommit (s : State) (g : Nat) : State :=
  match s.gateRefusal g with
  | some (why, ga, ra, gb, rb) =>
    let r := R.GAT_GSTAT g
    let s := (s.put r F.GAT_GSTAT_COMMIT_BAD 1).put r F.GAT_GSTAT_BAD_WHY why
    let s := ((((s.put r F.GAT_GSTAT_BAD_GATE_A ga).put r F.GAT_GSTAT_BAD_RGN_A ra).put r F.GAT_GSTAT_BAD_GATE_B gb).put
      r F.GAT_GSTAT_BAD_RGN_B rb).report FC.GAT_COMMIT UK.module 0 0 g why
    s.event 42
  | none =>
    let s := (s.gateLeaves g).foldl (fun s j => s.putAct (R.GAT_XCFG j) F.GAT_XCFG_EN 0) s
    let exts := s.gateExts g
    let s := (s.gateAge g).swapBanks (inRanges (gateRanges g exts))
    let left := exts.filter (fun j => !s.attached true g j)
    let s := s.copyBanks (inRanges (left.flatMap extRange))
    let s := s.put (R.GAT_EPOCH g) F.GAT_EPOCH_EPOCH (s.get (R.GAT_EPOCH g) F.GAT_EPOCH_EPOCH + 1)
    let s := s.put (R.GAT_EPOCH g) F.GAT_EPOCH_DRAINED 0
    (s.put (R.GAT_GSTAT g) F.GAT_GSTAT_COMMIT_PEND 1).put (R.GAT_GSTAT g) F.GAT_GSTAT_BOOT 0

/-- The last access bound to a gate's previous bank ends (R157); while one is known to remain nothing changes. -/
def execGateDrained (g : Fin 32) (s : State) : Host.Outcome State Fault Refusal :=
  .next (if s.bit (R.GAT_GSTAT g.val) F.GAT_GSTAT_COMMIT_PEND && s.gateOld g.val == 0 then
    s.put (R.GAT_EPOCH g.val) F.GAT_EPOCH_DRAINED 1 else s)

/-- The new active bank of a gate and of its extensions is copied into the shadow bank, and COMMIT_PEND clears. -/
def State.gateCopy (s : State) (g : Nat) : State :=
  let exts := (List.range 8).filter (fun j => s.attached true g j)
  (s.copyBanks (inRanges (gateRanges g exts))).put (R.GAT_GSTAT g) F.GAT_GSTAT_COMMIT_PEND 0

/-- A warm reset ends every access bound to a previous bank, and the copies run (R157). -/
def State.gatesSettle (s : State) : State :=
  let s := { s with gst := { s.gst with bound := [] } }
  (List.range 32).foldl (fun s g =>
    if s.bit (R.GAT_GSTAT g) F.GAT_GSTAT_COMMIT_PEND then
      (s.gateCopy g).put (R.GAT_EPOCH g) F.GAT_EPOCH_DRAINED 1 else s) s

/-- The copy of a gate's new bank into its shadow bank is done (R157). -/
def execGateCopyDone (g : Fin 32) (s : State) : Host.Outcome State Fault Refusal :=
  if s.bit (R.GAT_GSTAT g.val) F.GAT_GSTAT_COMMIT_PEND && s.bit (R.GAT_EPOCH g.val) F.GAT_EPOCH_DRAINED then
    .next ((s.gateCopy g.val).event 42)
  else .next s

end Sys2Proof.Machine
end

