-- ==== Sys2Proof/Machine/Gstore.lean ====
section
/-!
DEFINITION. The gather store: accesses past the gate (R111 to R113, R124 to R127), host pool accesses (R121 to R123), initialisation
(R109), patrol scrub (R114, R115), retirement (R116 to R119), region locks (R126 to R128).
-/
namespace Sys2Proof.Machine

/-! ### Atomics (R124, R173) -/

/-- New value of the word. -/
def atomResult (op : AtomOp) (old operand compare : Nat) : Nat :=
  match op with
  | .fadd => (old + operand) % 2 ^ 64
  | .swap => operand
  | .cas => if old = compare then operand else old
  | .and => Nat.land old operand
  | .or => Nat.lor old operand
  | .xor => Nat.xor old operand
  | .umin => min old operand
  | .umax => max old operand

/-! ### One access (R111 to R113, R125, R127, R153) -/

/-- How an access to the gather store ends. -/
inductive GstRes where
  | wait                                   -- nothing happens yet
  | refused                                -- unmapped page, or the controller does not serve (R113)
  | denied                                 -- by the gate (R160)
  | locked                                 -- by a region lock (R127)
  | data (bytes : List Byte) (ok : Bool)   -- read data, or the old word of an atomic; false: uncorrectable or poisoned
  | done                                   -- a write; one that merges with an unusable word ends as `data [] false` (R113, R172)
  deriving DecidableEq, Repr

/-- Bytes an access touches. -/
def accLen : GstAcc → Nat
  | .read n => n
  | .write d => d.length
  | .atomic _ n _ _ => n

/-- Kind of an access at a gate (R152). -/
def accKind : GstAcc → Nat
  | .read _ => AK.read
  | .write _ => AK.write
  | .atomic _ _ _ _ => AK.atomic

/-- Carry out an access that nothing holds back. -/
def State.gstPerform (s : State) (origin a : Nat) (acc : GstAcc) : GstRes × State :=
  match acc with
  | .read n =>
    let (bs, ok, s) := s.gstRead a n origin
    (.data bs ok, s)
  | .write bs =>
    let (ok, s) := s.gstStore' a origin bs
    (if ok then .done else .data [] false, s)
  | .atomic op _ x c =>
    let (bs, ok, s) := s.gstRead a 8 origin
    let s := s.tally (ev 0x04 1 (some origin) (some (1, a)) (s.cgOf a))
    if ok then (.data bs ok, s.gstStore a origin (leBytes (atomResult op (leValue (bs.map (·.toNat))) x.toNat c.toNat) 8))
    else (.data bs ok, s)

/-- An access of a master to the gather store: served and mapped, then the gate, then whatever it waits for, then region locks, then its
turn, then the DRAM. Once through the gate it is not checked again (R156). -/
def State.gstAccess (s : State) (origin who a : Nat) (acc : GstAcc) : GstRes × State :=
  let n := accLen acc
  let k := accKind acc
  let g := s.gateOfGst a
  if !s.gstMapped a || !s.gstServes then (.refused, s)
  else
    let (granted, s) := s.gateArrive g a n k origin who
    if !granted then (.denied, s)
    else if s.gstBusy a n who then (.wait, s.gateBind g a n k origin who)
    else match (if k = AK.read then none else s.lockAgainst a n origin) with
      | some i => (.locked, (s.gateFree g a n k origin who).reportLocked i a origin)
      | none => match s.gstTurn (gstClass origin) who [(a, n)] with
        | none => (.wait, s.gateBind g a n k origin who)
        | some s => (s.gateFree g a n k origin who).gstPerform origin a acc

/-- The controller performs an access of the master `o` (R111). The answer leaves as the data of the read or of the old word, an
error, or nothing. An uncorrectable remap entry met on the way is the device-fatal fault GST_REMAP_UE (R119). -/
def execGstAccess (o : Origin) (a : BitVec 37) (acc : GstAcc) (flips : List (Nat × Nat)) (remapUe : Option (Fin 12288)) (s : State) :
    Host.Outcome State Fault Refusal :=
  match remapUe with
  | some e => .next (s.report FC.GST_REMAP_UE UK.module 0 o.toNat (s.cgOf a.toNat) e.val)
  | none =>
    let s := s.flip flips
    match s.gstAccess o.toNat 0 a.toNat acc with
    | (.wait, s) => .next s
    | (.data bs true, s) => .next (s.emit (.readData (leValue (bs.map (·.toNat)))))
    | (.done, s) => .next (s.emit .writeDone)
    | (_, s) => .next (s.emit .accessError)

/-! ### Host accesses through BAR2 (R121 to R123) -/

/-- The gather-store address of a BAR2 offset of function `f` (R122). -/
def State.poolTranslate (s : State) (f off : Nat) : Option Nat :=
  let i := off / 2 ^ 21
  if s.get (R.GST_FNPOOL f) F.GST_FNPOOL_PAGES ≤ i then none
  else
    let e := R.GST_POOLMAP (s.get (R.GST_FNPOOL f) F.GST_FNPOOL_MAP_BASE + i)
    if s.bit e F.GST_POOLMAP_VALID then some (s.get e F.GST_POOLMAP_PAGE * 2 ^ 21 + off % 2 ^ 21) else none

/-- The request of a host that waits for an answer: its partition, requester ID, tag and class. -/
structure HostReq where
  origin : Nat
  rid : Nat
  tag : Nat
  cls : Fin 8

/-- A host request that gets no data: a non-posted one receives the status, a posted one is dropped (R113, R122, R160); the function records
the error (R245, R248). -/
def State.hostFail (s : State) (h : HostReq) (posted : Bool) (st : CplStatus) : State :=
  let s := if st = .ur then s.fnUnsupported (oFn h.origin) else if posted then s else s.fnAbort (oFn h.origin)
  if posted then s else s.answer (s.replyPt h.origin) h.rid h.tag h.cls st [] h.origin .endpoint

/-- Cut `n` bytes at `a` into pieces that do not cross a multiple of `size`. -/
def cutPieces : Nat → Nat → Nat → Nat → List (Nat × Nat)
  | 0, _, _, _ => []
  | fuel + 1, a, n, size =>
    if n = 0 then []
    else
      let k := min n (max size 1 - a % max size 1)
      (a, k) :: cutPieces fuel (a + k) (n - k) size

/-- The completions of a host read: one for each piece, poisoned when a word of it is unusable (R112). -/
def State.hostReadPieces (s : State) (h : HostReq) (a n size : Nat) : State :=
  (cutPieces (n + 1) a n size).foldl (fun s e =>
    let (bs, ok, s) := s.gstRead e.1 e.2 h.origin
    s.answerEp (s.replyPt h.origin) h.rid h.tag h.cls .sc (!ok) bs h.origin .endpoint) s

/-- Posted requests want no answer. -/
def accPosted : GstAcc → Bool
  | .write _ => true
  | _ => false

/-- The host AtomicOp forms that exist: 64-bit FetchAdd, Swap and CAS on an aligned word (R124). -/
def hostAtomicOk (acc : GstAcc) (a : Nat) : Bool :=
  match acc with
  | .atomic op n _ _ => (op == .fadd || op == .swap || op == .cas) && n == 8 && a % 8 == 0
  | _ => true

/-- The party of a host request is held, or its function is in a function-level reset (R32, R255). -/
def State.requesterShut (s : State) (o : Nat) : Bool :=
  s.ptShut (oPt o) || (decide (oFn o ≤ 4096) && (s.fnHeld (oFn o) || s.flrActive (oFn o)))

/-- Bytes of the function's BAR2 (R250). -/
def State.bar2Size (s : State) (f : Nat) : Nat := 2 ^ (if s.isSriov f then (s.fn 0).vf2Log2 else (s.fn f).bar2Log2)

/-- The access has passed its gate and waits behind it (R156): it completes although its master is held meanwhile (R32). -/
def State.pastGate (s : State) (a : Nat) (acc : GstAcc) (o : Nat) : Bool :=
  s.gst.bound.any (fun b => b.same (s.gateOfGst a) a (accLen acc) (accKind acc) o 0)

/-- A host BAR2 access is translated through the pool map, checked by the gate of its channel group, and carried out (R26, R122). From the
fall of PWRFAIL_N on, writes are dropped (R147). -/
def execPoolAccess (o : Origin) (rid : BitVec 16) (tag : BitVec 10) (cls : Fin 8) (off : BitVec 48) (acc : GstAcc)
    (flips : List (Nat × Nat)) (s : State) : Host.Outcome State Fault Refusal :=
  let h : HostReq := ⟨o.toNat, rid.toNat, tag.toNat, cls⟩
  let f := oFn o.toNat
  let p := accPosted acc
  let s := s.flip flips
  if s.flt.stopped ∨ (p = true ∧ s.rst.quench ≠ 0) then .next s
  else if !s.decodes f || decide (s.bar2Size f ≤ off.toNat) then .next (s.hostFail h p .ur)
  else if s.requesterShut o.toNat && !(s.poolTranslate f off.toNat).any (fun a => s.pastGate a acc o.toNat) then .next (s.hostFail h p .ca)
  else if !hostAtomicOk acc off.toNat then .next (s.hostFail h p .ur)
  else match s.poolTranslate f off.toNat with
    | none => .next ((s.report FC.POOL_UNMAPPED UK.function f o.toNat 0 off.toNat).hostFail h p .ur)
    | some a =>
      match acc with
      | .read n =>
        let g := s.gateOfGst a
        if !s.gstMapped a || !s.gstServes then .next (s.hostFail h p .ur)
        else
          let (granted, s) := s.gateArrive g a n AK.read o.toNat 0
          if !granted then .next (s.hostFail h p .ca)
          else match s.gstTurn (gstClass o.toNat) 0 [(a, n)] with
            | none => .next (s.gateBind g a n AK.read o.toNat 0)
            | some s => .next ((s.gateFree g a n AK.read o.toNat 0).hostReadPieces h a n (sizeCode (s.fnShared f).mps))
      | _ =>
        match s.gstAccess o.toNat 0 a acc with
        | (.wait, s) => .next s
        | (.refused, s) => .next (s.hostFail h p .ur)
        | (.denied, s) => .next (s.hostFail h p .ca)
        | (.locked, s) =>
          .next ((if p then s.bump R.GST_LOCKSTAT F.GST_LOCKSTAT_DROPS 1 else s).hostFail h p .ca)
        | (.data bs ok, s) => .next (if ok then s.answer (s.replyPt o.toNat) h.rid h.tag cls .sc bs o.toNat .endpoint else s.hostFail h p .ca)
        | (.done, s) => .next s

/-! ### Initialisation, scrub, retirement -/

/-- The cold-start pass ends: every word of every page is zero and clean, and INIT_DONE is set (R109). -/
def execGstInitDone (s : State) : Host.Outcome State Fault Refusal :=
  if s.gstReady ∨ s.bit R.GST_STATUS F.GST_STATUS_TRIM_WAIT then .next s
  else
    let s := { s with mem := SMap.keep s.mem (fun a => decide (MB.cell ≤ a)), err := [] }
    .next (s.setBit R.GST_STATUS F.GST_STATUS_INIT_DONE)

/-- Pages of a channel group. -/
def State.groupPages (s : State) : Nat := s.gstPages / s.groups

/-- Spare blocks in use of channel group `cg`, by the blocks they replace, in entry order (R114, R118). -/
def State.spareBlocks (s : State) (cg : Nat) : List Nat :=
  (s.remapUsed.filter (fun e => e / 768 == cg)).map (fun e => s.get (R.GST_REMAP e) F.GST_REMAP_BLOCK)

/-- Gobs of the scrub walk of a channel group. -/
def State.walkLength (s : State) (cg : Nat) : Nat := s.groupPages * 8192 + 16 * (s.spareBlocks cg).length

/-- Address of gob `i` of the walk: pages in increasing order, then spare blocks in use (R114). -/
def State.walkAddr (s : State) (cg i : Nat) : Nat :=
  if i < s.groupPages * 8192 then (cg + s.groups * (i / 8192)) * 2 ^ 21 + 256 * (i % 8192)
  else
    let j := i - s.groupPages * 8192
    (s.spareBlocks cg).getD (j / 16) 0 * 4096 + 256 * (j % 16)

/-- Origin tag of scrub and remap (R23). -/
def State.scrubOrigin (s : State) : Nat := s.origin 0 0 6 0

/-- The word is written back as decoded: its corrected data, or poisoned with its data bits as read (R115, R118). -/
def State.writeBack (s : State) (e : Nat × Nat × Bool) (d : Decoded) : State :=
  let s := s.passed e d
  let s := if d.ok then s else s.storeWord (8 * e.1) (Nat.xor (s.word (8 * e.1) 8) (fieldOf e.2.1 14 64)) 8
  s.setErr e.1 0 (!d.ok)

/-- Scrub of one word: corrected data is written back, an uncorrectable word is written back poisoned, a poisoned one is left
alone (R115). -/
def State.scrubWord (s : State) (e : Nat × Nat × Bool) : State :=
  let d := s.decoded e
  if d = .clean ∨ d = .poison then s
  else ((s.eccEvent d (8 * e.1) s.scrubOrigin true).bump R.GST_SCRUBSTAT F.GST_SCRUBSTAT_FOUND 1).writeBack e d

/-- A channel group's patrol scrub reads its next gob (R114, R115). -/
def execScrubStep (cg : Fin 16) (flips : List (Nat × Nat)) (s : State) : Host.Outcome State Fault Refusal :=
  let cg := cg.val
  if !s.bit R.GST_CTL F.GST_CTL_SCRUB_EN ∨ !s.gstReady ∨ s.bit R.GST_STATUS F.GST_STATUS_SELFREF ∨ s.groups ≤ cg then .next s
  else
    let s := s.flip flips
    let i := SMap.get s.gst.scrubAt 0 cg
    let a := s.walkAddr cg i
    if s.gstBusy a 256 0 then .next s
    else
    let s := s.gstBurst a 256 s.scrubOrigin
    let s := (s.errsIn a 256).foldl State.scrubWord s
    let wrap := decide (s.walkLength cg ≤ i + 1)
    let s := { s with gst := { s.gst with scrubAt := SMap.set s.gst.scrubAt 0 cg (if wrap then 0 else i + 1) } }
    .next (if wrap && cg == 0 then
      s.put R.GST_SCRUBSTAT F.GST_SCRUBSTAT_PASSES (s.get R.GST_SCRUBSTAT F.GST_SCRUBSTAT_PASSES + 1) else s)

/-- WINDOW units have passed since the tracker entry of a block opened: it closes (R116). -/
def execTrackerWindowClose (block : BitVec 25) (s : State) : Host.Outcome State Fault Refusal :=
  let cg := s.cgOf (block.toNat * 4096)
  let l := (SMap.get s.gst.track [] cg).filter (fun e => e.1 != block.toNat)
  .next { s with gst := { s.gst with track := SMap.set s.gst.track [] cg l } }

/-- A retirement copy is done: words copied as decoded, the block entered in the remap table, event bit 41 (R118, R204). -/
def execRemapCopyDone (block : BitVec 25) (flips : List (Nat × Nat)) (s : State) : Host.Outcome State Fault Refusal :=
  let b := block.toNat
  match s.gst.copying.find? (fun e => e.1 == b) with
  | none => .next s
  | some (_, e) =>
    let s := s.flip flips
    let s := (s.errsIn (b * 4096) 4096).foldl (fun s w =>
      let d := s.decoded w
      (s.eccEvent d (8 * w.1) s.scrubOrigin false).writeBack w d) s
    let s := { s with gst := { s.gst with copying := s.gst.copying.filter (fun c => c.1 != b) } }
    .next ((s.wr (R.GST_REMAP e) (b + 2 ^ 25)).event 41)

/-- Firmware names a block to retire; one already retired is ignored (R117). -/
def execGstRetadd (block : BitVec 25) (go : Bool) (s : State) : Host.Outcome State Fault Refusal :=
  .next (if go && s.gstMapped (block.toNat * 4096) then s.retireBlock block.toNat else s)

/-! ### Region locks (R126 to R128) -/

def State.badLock (s : State) : State := s.bump R.GST_LOCKSTAT F.GST_LOCKSTAT_BADCMD 1

/-- Entries held. -/
def State.locksHeld (s : State) : List Nat := s.regIndices 0x2001000 16 256 (fun _ => 0) (fun _ v => fieldOf v 4 1 == 1)

/-- The range of an entry: first byte, length. -/
def State.lockRange (s : State) (i : Nat) : Nat × Nat :=
  (s.get (R.GST_LOCKA i) F.GST_LOCKA_BASE * 64, 2 ^ (6 + s.get (R.GST_LOCKA i) F.GST_LOCKA_SIZE_LOG2))

/-- ACQUIRE: granted to the writer's tag when the entry is free and the range is aligned, within a page and overlaps no held
entry (R126). -/
def execRegionLockAcquire (o : Origin) (lock : Fin 256) (base : BitVec 31) (sizeLog2 : Fin 16) (deadline : BitVec 16) (s : State) :
    Host.Outcome State Fault Refusal :=
  let i := lock.val
  let b := base.toNat * 64
  let n := 2 ^ (6 + sizeLog2.val)
  let free := !s.bit (R.GST_LOCKA i) F.GST_LOCKA_VALID
  let clash := s.locksHeld.any (fun j => decide (b < (s.lockRange j).1 + (s.lockRange j).2) && decide ((s.lockRange j).1 < b + n))
  if free && b % n == 0 && b / 2 ^ 21 == (b + n - 1) / 2 ^ 21 && !clash then
    .next ((s.wr (R.GST_LOCKA i) (sizeLog2.val + 2 ^ 4 + base.toNat * 2 ^ 6 + deadline.toNat * 2 ^ 37)).put (R.GST_LOCKB i)
      F.GST_LOCKB_HOLDER o.toNat)
  else .next s.badLock

/-- The writer holds the entry. -/
def State.holdsLock (s : State) (i o : Nat) : Bool :=
  s.bit (R.GST_LOCKA i) F.GST_LOCKA_VALID && s.get (R.GST_LOCKB i) F.GST_LOCKB_HOLDER == o

/-- RENEW from the holder reloads the deadline (R127). -/
def execRegionLockRenew (o : Origin) (lock : Fin 256) (deadline : BitVec 16) (s : State) : Host.Outcome State Fault Refusal :=
  .next (if s.holdsLock lock.val o.toNat then
    (s.put (R.GST_LOCKA lock.val) F.GST_LOCKA_DEADLINE deadline.toNat).put (R.GST_LOCKA lock.val) F.GST_LOCKA_EXPIRED 0
    else s.badLock)

/-- An entry becomes free. -/
def State.freeLock (s : State) (i : Nat) : State :=
  (s.put (R.GST_LOCKA i) F.GST_LOCKA_VALID 0).put (R.GST_LOCKA i) F.GST_LOCKA_EXPIRED 0

/-- RELEASE from the holder frees the entry (R127). -/
def execRegionLockRelease (o : Origin) (lock : Fin 256) (s : State) : Host.Outcome State Fault Refusal :=
  .next (if s.holdsLock lock.val o.toNat then s.freeLock lock.val else s.badLock)

/-- Every region lock and atomic sequence whose holder's tag equals ORIGIN under MASK ends (R128). -/
def State.forceGst (s : State) (origin mask : Nat) : State :=
  let hit (h : Nat) : Bool := Nat.land h mask == Nat.land origin mask
  let s := s.locksHeld.foldl (fun s i => if hit (s.get (R.GST_LOCKB i) F.GST_LOCKB_HOLDER) then s.freeLock i else s) s
  { s with gst := { s.gst with seqs := s.gst.seqs.filter (fun e => !hit e.2.2.holder) } }

/-- GST_FORCE (R31, R128). -/
def execGstForce (origin mask : BitVec 32) (s : State) : Host.Outcome State Fault Refusal := .next (s.forceGst origin.toNat mask.toNat)

end Sys2Proof.Machine
end

