-- ==== Sys2Proof/Machine/Mem.lean ====
section
/-!
DEFINITION. Accesses of cores and lanes to normal memory: local memory or Jack data memory at space 0x0000, the gather store at space
0x0001 (R171 to R174, R197, R198); the store buffer's overlap rules (R135, R136); failed stores (R190).
-/
namespace Sys2Proof.Machine

/-- How an access of an agent to memory ends. -/
inductive MemRes where
  | wait
  | fail (kind : Nat)             -- kind of SERR_INFO: 0 denial, 1 data error, 2 refused, 3 lock
  | ok (bytes : List Byte)

/-- Space and offset of an address (R171). -/
def spaceOf (a : Nat) : Nat := a / 2 ^ 48 % 2 ^ 16
def offOf (a : Nat) : Nat := a % 2 ^ 48

/-- An address in a space of normal memory, inside its size (R171, R197, R198). -/
def normalAddr (a : Nat) : Bool :=
  (spaceOf a == 0 && decide (offOf a < 2 ^ 21)) || (spaceOf a == 1 && decide (offOf a < 2 ^ 37))

/-- GATE18 in front of Gaffer local memory (R148). -/
def gateLocal : Nat := 18

/-- An access to local memory or Jack data memory; only cores are checked by a gate (R197, R198). -/
def State.localAccess (s : State) (ag : Agent) (origin off : Nat) (acc : GstAcc) : MemRes × State :=
  let (granted, base, s) := match ag with
    | .core _ =>
      let (g, s) := s.gateCheck gateLocal off (accLen acc) (accKind acc) origin
      (g, MB.localMem, s)
    | .lane _ => (true, MB.jackMem, s)
  if !granted then (.fail 0, s)
  else match acc with
    | .read n => (.ok (s.bytes (base + off) n), s)
    | .write bs => (.ok [], s.store (base + off) bs)
    | .atomic op _ x c =>
      let old := s.word (base + off) 8
      (.ok (leBytes old 8), s.storeWord (base + off) (atomResult op old x.toNat c.toNat) 8)

/-- Who an agent is for atomic sequences and gates: a core by its number plus one, a lane by 33 and its number (R125, R156). -/
def agentWho : Agent → Nat
  | .core c => c.val + 1
  | .lane l => 33 + l.val

/-- Core `c` as the maker of a buffered store. -/
def storeWho (c : Nat) : Nat := 1001 + c

/-- Class of the counted event of an access (R377). -/
def accClass : GstAcc → Nat
  | .read _ => 0x02
  | .write _ => 0x03
  | .atomic _ _ _ _ => 0x04

/-- A counted load, store or local atomic; the controller counts gather-store atomics (R377). -/
def State.countAccess (s : State) (ag : Agent) (origin a : Nat) (acc : GstAcc) : State :=
  if accClass acc = 0x04 then (if spaceOf a = 1 then s else s.tally (ev 0x04 1 (some origin) (some (spaceOf a, offOf a)) 0))
  else s.tally (ev (accClass acc) 1 (some origin) (some (spaceOf a, offOf a)) (s.agentUnit ag))

/-- Perform an access of an agent to a normal address, with the tag it carries; a wait keeps what a gate has decided (R156). -/
def State.memAccess (s : State) (ag : Agent) (who origin a : Nat) (acc : GstAcc) : MemRes × State :=
  if !normalAddr a then (.fail 2, s)
  else if spaceOf a = 0 then
    match s.localAccess ag origin (offOf a) acc with
    | (.ok bs, s) => (.ok bs, s.countAccess ag origin a acc)
    | r => r
  else
    match s.gstAccess origin who (offOf a) acc with
    | (.wait, s) => (.wait, s)
    | (.refused, s) => (.fail 2, s)
    | (.denied, s) => (.fail 0, s)
    | (.locked, s) => (.fail 3, s)
    | (.data bs true, s) => (.ok bs, s.countAccess ag origin a acc)
    | (.data _ false, s) => (.fail 1, s)
    | (.done, s) => (.ok [], s.countAccess ag origin a acc)

/-! ### The store buffer (R136) -/

/-- Entries of a core's store buffer. -/
def sbSize : Nat := 16

/-- Bytes an entry covers. -/
def StoreEnt.len (e : StoreEnt) : Nat := if e.atom.isSome then 8 else e.data.length

/-- The entry and the range share a byte. -/
def StoreEnt.overlaps (e : StoreEnt) (a n : Nat) : Bool := decide (e.addr < a + n) && decide (a < e.addr + e.len)

/-- A buffered store of the agent shares a byte with the range (R135). -/
def Core.sbOverlaps (x : Core) (a n : Nat) : Bool := x.sb.any (fun e => e.overlaps a n)

/-- Some normal store of the agent is still buffered. -/
def Core.sbNormal (x : Core) : Bool := x.sb.any (fun e => !e.device)

/-- Some store to normal memory is still buffered, device-ordered ones among them (R135). -/
def Core.sbMemory (x : Core) : Bool := x.sb.any (fun e => normalAddr e.addr)

/-- A store enters the buffer, or waits for a free entry. -/
def State.buffer (s : State) (ag : Agent) (e : StoreEnt) : IRes :=
  let x := s.agent ag
  if sbSize ≤ x.sb.length then .wait else .next (s.setAgent ag { x with sb := x.sb ++ [e] })

/-- A failed store of core `c` is recorded, and event bit 63 set (R190). -/
def State.storeErr (s : State) (c a kind : Nat) : State :=
  let x := s.core c
  let info := x.rcsr CSR.SERR_INFO
  let x := if bitOf info 0 then x.wcsr CSR.SERR_INFO (putField info 1 1 1)
    else (x.wcsr CSR.SERR_INFO (putField (putField info 2 2 kind) 0 1 1)).wcsr CSR.SERR_ADDR a
  s.setCore c (x.setEvent 63)

/-! ### Atomic sequences (R125, R158, R174) -/

/-- An OPEN on the line must wait: 64 sequences are open, or the line is held. -/
def State.seqFull (s : State) (line : Nat) : Bool :=
  decide (64 ≤ s.gst.seqs.length) || s.gst.seqs.any (fun e => e.1 == line)

/-- Open a sequence on a line for a core, with SEQ_TO as its deadline. -/
def State.openSeq (s : State) (line c origin : Nat) : State :=
  { s with gst := { s.gst with seqs := s.gst.seqs ++ [(line, c, ⟨origin, s.get R.GST_SEQCFG F.GST_SEQCFG_SEQ_TO, false⟩)] } }

/-- End the sequence a core holds on a line; on a line it does not hold nothing closes. -/
def State.closeSeq (s : State) (line c : Nat) : State :=
  { s with gst := { s.gst with seqs := s.gst.seqs.filter (fun e => !(e.1 == line && e.2.1 == c)) } }

/-- An atomic of core `c` with its OPEN and CLOSE marks: a denied one opens nothing and still closes (R158). -/
def State.seqAtomic (s : State) (c who origin a : Nat) (acc : GstAcc) (opn cls : Bool) : MemRes × State :=
  let line := offOf a / 64
  if opn && s.seqFull line then (.wait, s)
  else
    let ag : Agent := .core ⟨c % 32, Nat.mod_lt _ (by decide)⟩
    match s.memAccess ag who origin a acc with
    | (.wait, s) => (.wait, s)
    | (r, s) =>
      let opens := opn && match r with
        | .ok _ => true
        | .fail k => k == 1
        | .wait => false
      let s := if opens then s.openSeq line c origin else s
      (r, if cls then s.closeSeq line c else s)

end Sys2Proof.Machine
end

