-- ==== Sys2Proof/Machine/Atomics.lean ====
section
/-!
DEFINITION. ATOM (R173, R174) and the fences (R139, R175).
-/
namespace Sys2Proof.Machine

/-- Codes of OPC (R173). -/
def opcOf : AtomOp → Nat
  | .fadd => 0 | .swap => 1 | .cas => 2 | .and => 3 | .or => 4 | .xor => 5 | .umin => 6 | .umax => 7

/-- One 64-bit atomic of an agent (R173, R174). A returning atomic of a core waits until no buffered store of its own shares a byte
with the word (R135); one without a result enters the store buffer. A lane performs it at once. -/
def atomic (op : AtomOp) (ag : Agent) (rd ra rb : Nat) (nr opn cls : Bool) (s : State) : State :=
  let insn := syl 0x12 rd ra rb 0 + opcOf op * 2 ^ 26 + bit01 nr * 2 ^ 29 + bit01 opn * 2 ^ 30 + bit01 cls * 2 ^ 31
  s.issue ag insn (fun s =>
    let x := s.agent ag
    let a := x.rg ra
    let origin := s.agentOrigin ag
    if (nr && op == .cas) then .exc s EX.ILLEGAL 0
    else match ag with
      | .lane _ =>
        if opn || cls then .exc s EX.ILLEGAL 0
        else if a % 8 ≠ 0 then .exc s EX.ALIGN a
        else match s.memAccess ag (agentWho ag) origin a (.atomic op 8 (.ofNat 64 (x.rg rb)) (.ofNat 64 (x.rg rd))) with
          | (.wait, s) => .waits s
          | (.fail _, s) => .exc s EX.BUS_ERR a
          | (.ok bs, s) => .next (if nr then s else s.setG ag rd (leValue (bs.map (·.toNat))))
      | .core c =>
        if a % 8 ≠ 0 then .exc s EX.ALIGN a
        else if !normalAddr a || ((opn || cls) && spaceOf a != 1) then .exc s EX.BUS_ERR a
        else if nr then s.buffer ag ⟨a, [], false, some op, x.rg rb, opn, cls, origin, false, 0⟩
        else if x.sbOverlaps a 8 then .wait
        else match s.seqAtomic c.val (agentWho ag) origin a (.atomic op 8 (.ofNat 64 (x.rg rb)) (.ofNat 64 (x.rg rd))) opn cls with
          | (.wait, s) => .waits s
          | (.fail _, s) => .exc s EX.BUS_ERR a
          | (.ok bs, s) => .next (s.setG ag rd (leValue (bs.map (·.toNat)))))

/-- ATOM FADD: the new value is old + gB (R173). -/
def execAtomFadd (iss : By Agent) (rd ra rb : Fin 32) (nr opn cls : Bool) (s : State) : Host.Outcome State Fault Refusal :=
  .next (s.ifDecodes iss.who iss.rsv (atomic .fadd iss.who rd.val ra.val rb.val nr opn cls s))

/-- ATOM SWAP: the new value is gB (R173). -/
def execAtomSwap (iss : By Agent) (rd ra rb : Fin 32) (nr opn cls : Bool) (s : State) : Host.Outcome State Fault Refusal :=
  .next (s.ifDecodes iss.who iss.rsv (atomic .swap iss.who rd.val ra.val rb.val nr opn cls s))

/-- ATOM CAS: the new value is gB if old = gD on entry (R173). -/
def execAtomCas (iss : By Agent) (rd ra rb : Fin 32) (nr opn cls : Bool) (s : State) : Host.Outcome State Fault Refusal :=
  .next (s.ifDecodes iss.who iss.rsv (atomic .cas iss.who rd.val ra.val rb.val nr opn cls s))

/-- ATOM AND: the new value is old & gB (R173). -/
def execAtomAnd (iss : By Agent) (rd ra rb : Fin 32) (nr opn cls : Bool) (s : State) : Host.Outcome State Fault Refusal :=
  .next (s.ifDecodes iss.who iss.rsv (atomic .and iss.who rd.val ra.val rb.val nr opn cls s))

/-- ATOM OR: the new value is old | gB (R173). -/
def execAtomOr (iss : By Agent) (rd ra rb : Fin 32) (nr opn cls : Bool) (s : State) : Host.Outcome State Fault Refusal :=
  .next (s.ifDecodes iss.who iss.rsv (atomic .or iss.who rd.val ra.val rb.val nr opn cls s))

/-- ATOM XOR: the new value is old ^ gB (R173). -/
def execAtomXor (iss : By Agent) (rd ra rb : Fin 32) (nr opn cls : Bool) (s : State) : Host.Outcome State Fault Refusal :=
  .next (s.ifDecodes iss.who iss.rsv (atomic .xor iss.who rd.val ra.val rb.val nr opn cls s))

/-- ATOM UMIN: the new value is the unsigned minimum (R173). -/
def execAtomUmin (iss : By Agent) (rd ra rb : Fin 32) (nr opn cls : Bool) (s : State) : Host.Outcome State Fault Refusal :=
  .next (s.ifDecodes iss.who iss.rsv (atomic .umin iss.who rd.val ra.val rb.val nr opn cls s))

/-- ATOM UMAX: the new value is the unsigned maximum (R173). -/
def execAtomUmax (iss : By Agent) (rd ra rb : Fin 32) (nr opn cls : Bool) (s : State) : Host.Outcome State Fault Refusal :=
  .next (s.ifDecodes iss.who iss.rsv (atomic .umax iss.who rd.val ra.val rb.val nr opn cls s))

/-! ### Fences (R139, R175) -/

/-- FENCE.N completes once the store buffer holds no normal store (R139). -/
def execFenceN (iss : By Agent) (s : State) : Host.Outcome State Fault Refusal :=
  .next (s.ifDecodes iss.who iss.rsv (s.issue iss.who (0x13 + 1 * 2 ^ 6) (fun s => if (s.agent iss.who).sbNormal then .wait else .next s)))

/-- FENCE.D completes once no device store is outstanding; later device accesses wait for the normal stores before it (R139). -/
def execFenceD (iss : By Agent) (s : State) : Host.Outcome State Fault Refusal :=
  .next (s.ifDecodes iss.who iss.rsv (s.issue iss.who (0x13 + 2 * 2 ^ 6) (fun s =>
    let x := s.agent iss.who
    if x.sb.any (·.device) then .wait else .next (s.setAgent iss.who { x with sb := x.sb.map (fun e => { e with fenced := true }) }))))

/-- FENCE.ALL completes once the store buffer is empty (R139). -/
def execFenceAll (iss : By Agent) (s : State) : Host.Outcome State Fault Refusal :=
  .next (s.ifDecodes iss.who iss.rsv (s.issue iss.who (0x13 + 3 * 2 ^ 6) (fun s => if (s.agent iss.who).sb.isEmpty then .next s else .wait)))

end Sys2Proof.Machine
end

