-- ==== Sys2Proof/Machine/Branch.lean ====
section
/-!
DEFINITION. Branches, predication, ECALL, ERET (R186, R187) and the EVENT exception (R189).
-/
namespace Sys2Proof.Machine

/-- A target beyond the program memory: for a core the end of a bank (R200), for a lane the end of its program (R203). -/
def State.badTarget (s : State) (ag : Agent) (t : Nat) : Bool :=
  match ag with
  | .core _ => decide (gafSyllables ≤ t)
  | .lane l => match s.laneReq l.val with
    | some r => decide (s.laneLen r < t)
    | none => true

/-- BR: gD = PC + 1, then PC = PC + OFF; a Jack program links nothing and only branches forward (R186, R193). -/
def execBr (iss : By Agent) (rd : Fin 32) (off : BitVec 29) (s : State) : Host.Outcome State Fault Refusal :=
  .next (s.ifDecodes iss.who iss.rsv (s.issue iss.who (0x20 + rd.val * 2 ^ 6 + off.toNat * 2 ^ 11) (fun s =>
    let pc := (s.agent iss.who).pc
    let t := patternOf ((pc : Int) + signedOf off.toNat 29) 32
    let isLane := match iss.who with | .core _ => false | .lane _ => true
    if isLane && (rd.val != 0 || decide (signedOf off.toNat 29 < 1)) then .exc s EX.ILLEGAL 0
    else if s.badTarget iss.who t then .exc s EX.BUS_ERR t
    else .jump (s.setG iss.who rd.val (pc + 1)) t)))

/-- JR: the target is read before the link is written (R186). -/
def execJr (iss : By Agent) (rd ra : Fin 32) (s : State) : Host.Outcome State Fault Refusal :=
  .next (s.ifDecodes iss.who iss.rsv (s.issue iss.who (0x21 + rd.val * 2 ^ 6 + ra.val * 2 ^ 11) (coreOnly iss.who (fun s =>
    let t := s.gr iss.who ra.val % 2 ^ 32
    if s.badTarget iss.who t then .exc s EX.BUS_ERR t
    else .jump (s.setG iss.who rd.val ((s.agent iss.who).pc + 1)) t))))

/-- ECALL raises the exception ECALL (R186, R189). -/
def execEcall (iss : By Agent) (s : State) : Host.Outcome State Fault Refusal :=
  .next (s.ifDecodes iss.who iss.rsv (s.issue iss.who 0x22 (coreOnly iss.who (fun s => .exc s EX.ECALL 0))))

/-- A core switches to the new bank at an ERET while a swap is pending (R213). -/
def State.switchAgent (s : State) (ag : Agent) : State :=
  match ag with
  | .core c => s.switchCore c.val
  | .lane _ => s

/-- ERET: STATUS from ESTATUS and PC from EPC; with PFX the PRED there skips its first SKIP instructions (R186, R188). -/
def execEret (iss : By Agent) (s : State) : Host.Outcome State Fault Refusal :=
  .next (s.ifDecodes iss.who iss.rsv (s.issue iss.who (0x22 + 1 * 2 ^ 6) (coreOnly iss.who (needFirm iss.who (fun s =>
    let x := s.agent iss.who
    let cause := x.rcsr CSR.ECAUSE
    let x := { x.wcsr CSR.STATUS (x.rcsr CSR.ESTATUS) with skip := if bitOf cause 10 then fieldOf cause 8 2 else 0 }
    .jump ((s.setAgent iss.who x).switchAgent iss.who) (x.rcsr CSR.EPC % 2 ^ 32))))))

/-- PRED covers the next N + 1 instructions; unused slots must be zero and no PRED may stand in a covered range (R187). -/
def execPred (iss : By Agent) (n : Fin 4) (s0 s1 s2 s3 : Fin 16) (s : State) : Host.Outcome State Fault Refusal :=
  let all := [s0.val, s1.val, s2.val, s3.val]
  let insn := 0x3F + n.val * 2 ^ 6 + s0.val * 2 ^ 8 + s1.val * 2 ^ 12 + s2.val * 2 ^ 16 + s3.val * 2 ^ 20
  .next (s.ifDecodes iss.who iss.rsv (s.issue iss.who insn (fun s =>
    if !(s.agent iss.who).slots.isEmpty || (all.drop (n.val + 1)).any (· != 0) then .exc s EX.ILLEGAL 0
    else .pred s (all.take (n.val + 1)))))

/-- Between instructions, an enabled pending event raises EVENT (R189). The entry waits for the store buffer (R188). -/
def execEventInterrupt (c : Fin 32) (s : State) : Host.Outcome State Fault Refusal :=
  let x := s.core c.val
  if x.run == .running && x.ie && Nat.land (x.rcsr CSR.EVPEND) (x.rcsr CSR.EVIE) != 0 && x.sb.isEmpty && x.skip == 0 then
    .next (s.coreExc c.val EX.EVENT 0)
  else .next s

end Sys2Proof.Machine
end

