-- ==== Sys2Proof/Machine/Octets.lean ====
section
/-!
DEFINITION. Octets, controllers and physical lanes (R216 to R218, R259, R262): which controller a split uses, its width, the lanes of
a port, the spare of a logical lane, and the power states of lanes (R270 to R272). A physical lane is numbered 9 n + i for lane i of octet n, with i = 8 the spare.
-/
namespace Sys2Proof.Machine

/-- Places j of the controllers a split uses (R216). -/
def splitPorts (split : Nat) : List Nat :=
  match split with
  | 1 => [0] | 2 => [0, 2] | 3 => [0, 2, 3] | 4 => [0, 1, 2] | 5 => [0, 1, 2, 3] | 6 => [0] | _ => []

/-- Width of the controller at place `j` of a split (R216). -/
def splitWidth (split j : Nat) : Nat :=
  match split, j with
  | 1, 0 => 8 | 2, 0 => 4 | 2, 2 => 4 | 3, 0 => 4 | 3, 2 => 2 | 3, 3 => 2 | 4, 0 => 2 | 4, 1 => 2 | 4, 2 => 4
  | 5, 0 => 2 | 5, 1 => 2 | 5, 2 => 2 | 5, 3 => 2 | 6, 0 => 16 | _, _ => 0

/-- Octet that serves controller `p`. -/
def octetOf (p : Nat) : Nat := p / 4

def State.split (s : State) (n : Nat) : Nat := s.get (R.PRT_OCTCFG n) F.PRT_OCTCFG_SPLIT

/-- The octet is the second of an x16 pair, so its own record is ignored (R217). -/
def State.octetTaken (s : State) (n : Nat) : Bool := n % 2 == 1 && s.split (n - 1) == 6

/-- The octet's split uses controller `p` (R216). -/
def State.portUsed (s : State) (p : Nat) : Bool :=
  !s.octetTaken (octetOf p) && (splitPorts (s.split (octetOf p))).contains (p % 4)

/-- The port runs in cane mode (R217, R218). -/
def State.caneMode (s : State) (p : Nat) : Bool := s.bit (R.PRT_OCTCFG (octetOf p)) F.PRT_OCTCFG_MODE

/-- The octet runs in cane mode: in the mode of the pair's lower octet when it is taken (R217). -/
def State.octetCane (s : State) (n : Nat) : Bool :=
  s.bit (R.PRT_OCTCFG (if s.octetTaken n then n - 1 else n)) F.PRT_OCTCFG_MODE

/-- Configured width of a port, 0 for a controller that no split uses. -/
def State.confWidth (s : State) (p : Nat) : Nat :=
  if s.octetTaken (octetOf p) then 0 else splitWidth (s.split (octetOf p)) (p % 4)

/-- Physical lane of offset `k` in port `p`. -/
def portLane (p k : Nat) : Nat := 9 * (octetOf p + (2 * (p % 4) + k) / 8) + (2 * (p % 4) + k) % 8

/-- Physical data lanes of a port, by offset. -/
def State.portLanes (s : State) (p : Nat) : List Nat := (List.range (s.confWidth p)).map (portLane p)

/-- The port whose data lane or spare is physical lane `l` (R216, R261). -/
def State.laneOwner (s : State) (l : Nat) : Option Nat :=
  let n := if s.octetTaken (l / 9) then l / 9 - 1 else l / 9
  if l % 9 = 8 then
    if s.split n = 6 then some (4 * n)
    else
      let p := 4 * n + s.get (R.LNE_OCTCTL n) F.LNE_OCTCTL_SPARE_PORT
      if s.portUsed p then some p else none
  else ((List.range 4).map (· + 4 * n)).find? (fun p => (s.portLanes p).contains l)

/-- Registers of a physical lane. -/
def laneReg (r : Nat → Nat → RegRef) (l : Nat) : RegRef := r (l / 9) (l % 9)

/-- Octet whose spare serves logical lane `m` of port `p` (R262). -/
def State.spareOctet (s : State) (p m : Nat) : Nat := octetOf p + (if s.confWidth p = 16 then m / 8 else 0)

/-- Spares of a port (R262): octets n with SPARE(n) serving it. -/
def State.spareOctets (s : State) (p : Nat) : List Nat :=
  if s.confWidth p = 16 then [octetOf p, octetOf p + 1]
  else if s.confWidth p ≠ 0 ∧ s.get (R.LNE_OCTCTL (octetOf p)) F.LNE_OCTCTL_SPARE_PORT = p % 4 then [octetOf p] else []

/-- Number by which the registers of octet `n` name logical lane `m` of a port (R262). -/
def State.octLane (s : State) (p m : Nat) : Nat := if s.confWidth p = 16 then m % 8 else m

/-- Logical lane that number `m` of octet `n` means in port `p` (R262). -/
def State.logicalOf (s : State) (p n m : Nat) : Nat := if s.confWidth p = 16 then 8 * (n - octetOf p) + m else m

/-- Physical lane that carries logical lane `m` of port `p` (R268). -/
def State.physLane (s : State) (p m : Nat) : Option Nat :=
  (s.portLanes p).find? (fun l => s.get (laneReg R.LNE_STAT l) F.LNE_STAT_LOGICAL == m)

/-- The spare of logical lane `m` of port `p` serves the port (R261, R262). -/
def State.spareServes (s : State) (p m : Nat) : Bool := (s.spareOctets p).contains (s.spareOctet p m)

/-- Logical lane `m` of port `p` is marked FAILED (R278). -/
def State.markedFailed (s : State) (p m : Nat) : Bool :=
  s.spareServes p m && bitOf (s.get (R.LNE_FAILED (s.spareOctet p m)) F.LNE_FAILED_FAILED) (s.octLane p m)

/-- Power states of a lane direction (R270). -/
def PWR.ACTIVE : Nat := 0
def PWR.STANDBY : Nat := 1
def PWR.SLEEP : Nat := 2
def PWR.OFF : Nat := 3

def State.pwr (s : State) (l : Nat) (tx : Bool) : Nat :=
  s.get (laneReg R.LNE_STAT l) (if tx then F.LNE_STAT_TX_PWR else F.LNE_STAT_RX_PWR)

/-- The receiver of a lane holds the state of an adaptation (R264). -/
def State.adapted (s : State) (l : Nat) : Bool := SMap.get s.lnk.adapted 0 l == 1
def State.setAdapted (s : State) (l : Nat) (b : Bool) : State :=
  { s with lnk := { s.lnk with adapted := SMap.set s.lnk.adapted 0 l (bit01 b) } }

/-- The block of lehr step `k` is in reset (R34, RST_DOMAIN). -/
def State.blockReset (s : State) (k : Nat) : Bool := bitOf (s.get R.RST_DOMAIN F.RST_DOMAIN_IN_RESET) (k - 1)

/-- A lane of no port, of a controller with ENABLE = 0, or the spare of an octet in PCI Express mode (R261, R271). -/
def State.unusedLane (s : State) (l : Nat) : Bool :=
  match s.laneOwner l with
  | none => true
  | some p => !s.bit (R.PRT_CTL p) F.PRT_CTL_ENABLE || (l % 9 == 8 && !s.caneMode p)

/-- A lane that can only be OFF: unused, shed, in reset, or after the quench has switched lanes off (R34, R271, R425, R435). -/
def State.laneOff (s : State) (l : Nat) : Bool :=
  s.blockReset 6 || decide (2 ≤ s.rst.quench) || bitOf (s.rd R.PWR_SHEDSTAT) (l / 9) || s.unusedLane l

/-- A direction of a lane is in a power state from now on. A receiver below STANDBY has no clock recovery, and OFF loses its equaliser state
(R270). -/
def State.setPwr (s : State) (l : Nat) (tx : Bool) (v : Nat) : State :=
  let v := if s.laneOff l then PWR.OFF else v
  let s := s.put (laneReg R.LNE_STAT l) (if tx then F.LNE_STAT_TX_PWR else F.LNE_STAT_RX_PWR) v
  if tx || decide (v < PWR.SLEEP) then s
  else
    let s := s.put (laneReg R.LNE_STAT l) F.LNE_STAT_LOCK 0
    if v = PWR.OFF then s.setAdapted l false else s

/-- The exit of a direction: 0 none, 1 in progress, `v` + 2 in progress with a request to enter `v` waiting for its end (R272). -/
def State.exitOf (s : State) (l : Nat) (tx : Bool) : Nat := SMap.get s.lnk.exiting 0 (2 * l + bit01 tx)
def State.setExit (s : State) (l : Nat) (tx : Bool) (v : Nat) : State :=
  { s with lnk := { s.lnk with exiting := SMap.set s.lnk.exiting 0 (2 * l + bit01 tx) v } }

/-- A request to a direction: to leave for ACTIVE, or to enter a state. Power-up from OFF is an exit too; a request to enter that meets an exit
waits for its end, and one to leave drops it (R270, R272). -/
def State.askPwr (s : State) (l : Nat) (tx : Bool) (v : Nat) : State :=
  if s.laneOff l then (s.setExit l tx 0).setPwr l tx PWR.OFF
  else if v = PWR.ACTIVE then
    if s.pwr l tx = PWR.ACTIVE then s else s.setExit l tx 1
  else if s.exitOf l tx ≠ 0 ∨ (s.pwr l tx = PWR.OFF ∧ v ≠ PWR.OFF) then s.setExit l tx (v + 2)
  else s.setPwr l tx v

/-- The exit of a direction is complete: it is ACTIVE, and a request that waited acts (R270, R272). -/
def State.exitDone (s : State) (l : Nat) (tx : Bool) : State :=
  let v := s.exitOf l tx
  if v = 0 then s
  else
    let s := (s.setExit l tx 0).setPwr l tx PWR.ACTIVE
    if 2 ≤ v then s.setPwr l tx (v - 2) else s

/-! ### Spares (R262, R271, R275) -/

/-- What RX_SUB and TX_SUB of an octet name: the lane its spare carries, 0xF for none. -/
def State.setRxSub (s : State) (n v : Nat) : State := s.put (R.LNE_OCTSTAT n) F.LNE_OCTSTAT_RX_SUB v
def State.setTxSub (s : State) (n v : Nat) : State := s.put (R.LNE_OCTSTAT n) F.LNE_OCTSTAT_TX_SUB v
def State.rxSub (s : State) (n : Nat) : Nat := s.get (R.LNE_OCTSTAT n) F.LNE_OCTSTAT_RX_SUB
def State.txSub (s : State) (n : Nat) : Nat := s.get (R.LNE_OCTSTAT n) F.LNE_OCTSTAT_TX_SUB

/-- A spare that serves no lane in a direction rests OFF, or in STANDBY while SPARE_WARM is set (R271). -/
def State.restSpare (s : State) (n : Nat) (tx : Bool) : State :=
  s.askPwr (9 * n + 8) tx (if s.bit (R.LNE_OCTCTL n) F.LNE_OCTCTL_SPARE_WARM then PWR.STANDBY else PWR.OFF)

/-- The spare carries the receive traffic of logical lane `m` of port `p` (R275). -/
def State.subbed (s : State) (p m : Nat) : Bool := s.spareServes p m && s.rxSub (s.spareOctet p m) == s.octLane p m

/-- Physical receiver of logical lane `m`: the spare that carries it, or its data lane. -/
def State.rxLane (s : State) (p m : Nat) : Option Nat :=
  if s.subbed p m then some (9 * s.spareOctet p m + 8) else s.physLane p m

end Sys2Proof.Machine
end

