-- ==== Sys2Proof/Machine/Qop.lean ====
section
/-!
DEFINITION. Queue instructions: what a Jack program does with its own packet (R69, R70, R180) and what firmware does with packets it
holds by handle (R181, R182); the resolution of a global destination (R304, R306).
-/
namespace Sys2Proof.Machine

/-! ### Destinations (R70, R304, R306) -/

/-- Enqueue a packet to the global queue `dq`: linked here, linked to a fabric queue, or dropped with a status. A chain of failed-over
members that leads back to itself has no outcome in the manual; it is taken as LINK_DOWN (log entry 21). -/
def State.enqTo (s : State) (p : QPkt) : Nat → Nat → Option Nat × State
  | 0, _ => (some ST.LINK_DOWN, s.dropPkt p ST.LINK_DOWN 0)
  | fuel + 1, dq =>
    let f := dq / 65536 % 16
    let q := dq % 65536
    let p := { p with dq := f * 65536 + q }
    if f = s.fid then s.enqLocal p q
    else if !s.bit R.FTX_CTL F.FTX_CTL_ENABLE || !s.bitAct (R.FTX_FIDMAP f) F.FTX_FIDMAP_MEMBER then
      (some ST.DEST_UNKNOWN, s.dropPkt p ST.DEST_UNKNOWN 0)
    else if s.bit (R.FTX_FIDSTAT f) F.FTX_FIDSTAT_OVER then
      s.enqTo p fuel (s.getAct (R.FTX_FIDMAP f) F.FTX_FIDMAP_ALT_FID * 65536 + q)
    else if s.get (R.FTX_FIDSTAT f) F.FTX_FIDSTAT_STATE = 3 then (some ST.LINK_DOWN, s.dropPkt p ST.LINK_DOWN 0)
    else
      s.enqLocal p ((s.getAct (R.FTX_FIDMAP f) F.FTX_FIDMAP_FQBASE
        + q % 2 ^ min 12 (s.getAct (R.FTX_FIDMAP f) F.FTX_FIDMAP_FQ_LOG2)) % 65536)

/-- The flow mirror copy of a packet that an ENQ has linked (R51, R69). -/
def State.flowMirror (s : State) (p : QPkt) : State :=
  match p.mirror with
  | none => s
  | some sess =>
    let (bs, _, s) := s.readChain (s.qOrigin (p.src % 65536) 3) p.gobs p.len
    let t : Tlp := ⟨.memWr, 0, 0, 0, 0, 0, p.len, p.len, .sc, false, false, bs, false, false⟩
    let (pk, s) := s.newPkt .synthetic (.tlp t) p.len p.origin 256 0 (oPt p.origin)
    (s.mirror pk sess 256 false true).2

/-- An ENQ with its marks: the status with which the packet was dropped, if it was. -/
def State.enqueue (s : State) (p : QPkt) (dq : Nat) : Option Nat × State :=
  match s.enqTo p 17 dq with
  | (none, s) => (none, s.flowMirror p)
  | r => r

/-! ### Jack (R69, R180) -/

/-- A request of the same source queue that was dispatched earlier has not ended (R105). -/
def State.earlierRequest (s : State) (l : Nat) (r : JackReq) : Bool :=
  (s.que.jack.takeWhile (fun x => x.lane != l)).any (fun x => x.pkt.src == r.pkt.src)

def sylQop (fn rd ra rb rc reason : Nat) : Nat := syl 0x1C rd ra rb rc + fn * 2 ^ 26 + reason * 2 ^ 32

/-- ENQ of a Jack program: the packet goes to queue gA[19:0] with META gB, once every earlier request of its source queue has
ended (R70, R105, R180). -/
def execEnq (iss : By (Fin 256)) (ra rb : Fin 32) (s : State) : Host.Outcome State Fault Refusal :=
  let ag : Agent := .lane iss.who
  .next (s.ifDecodes (.lane iss.who) iss.rsv (s.issue ag (sylQop 0 0 ra.val rb.val 0 0) (fun s =>
    match s.laneReq iss.who.val with
    | none => .wait
    | some r =>
      if s.earlierRequest iss.who.val r then .wait
      else
        let x := s.agent ag
        let p := { r.pkt with mdat := x.rg rb.val, colour := x.colour, mirror := x.mirror }
        .ended ((s.jackEnd r).enqueue p (x.rg ra.val % 2 ^ 20)).2)))

/-- DROP of a Jack program: the source receives PROG_DROP with the reason (R69, R180). -/
def execDrop (iss : By (Fin 256)) (reason : BitVec 8) (s : State) : Host.Outcome State Fault Refusal :=
  .next (s.ifDecodes (.lane iss.who) iss.rsv (s.issue (.lane iss.who) (sylQop 1 0 0 0 0 reason.toNat) (fun s =>
    match s.laneReq iss.who.val with
    | none => .wait
    | some r => .ended (s.laneDrop r reason.toNat))))

/-! ### Firmware (R181, R182) -/

/-- The handle of a held packet. -/
def handleOf (p : QPkt) : Nat := p.gobs.headD 0 % 2 ^ 32 + p.len % 2 ^ 14 * 2 ^ 32 + 2 ^ 63

/-- The packet a handle names. -/
def State.heldPkt (s : State) (h : Nat) : Option QPkt := s.gaf.held.find? (fun p => handleOf p == h)
def State.setHeld (s : State) (l : List QPkt) : State := { s with gaf := { s.gaf with held := l } }
def State.unheld (s : State) (h : Nat) : State := s.setHeld (s.gaf.held.filter (fun p => handleOf p != h))

/-- A core instruction on a held packet: firm privilege, and a handle that names one (R181). -/
def withHandle (ag : Agent) (rc : Nat) (f : State → Nat → QPkt → IRes) (s : State) : IRes :=
  needFirm ag (fun s =>
    let h := s.gr ag rc
    match s.heldPkt h with
    | none => .exc s EX.BUS_ERR h
    | some p => f s h p) s

/-- MARK: of the request's own packet on a lane, of packet gC on a core (R180, R181). -/
def mark (fn : Nat) (onLane : Core → Nat → Core) (onPkt : QPkt → Nat → QPkt) (ag : Agent) (ra rc : Nat) (s : State) : State :=
  s.issue ag (sylQop fn 0 ra 0 rc 0) (fun s =>
    let v := s.gr ag ra
    match ag with
    | .lane _ => if rc ≠ 0 then .exc s EX.ILLEGAL 0 else .next (s.setAgent ag (onLane (s.agent ag) v))
    | .core _ => withHandle ag rc (fun s h _ =>
        .next (s.setHeld (s.gaf.held.map (fun p => if handleOf p = h then onPkt p v else p)))) s)

/-- MARK.C: the COLOUR of the receive header is gA[7:0] (R180). -/
def execMarkC (iss : By Agent) (ra rc : Fin 32) (s : State) : Host.Outcome State Fault Refusal :=
  .next (s.ifDecodes iss.who iss.rsv (mark 2 (fun x v => { x with colour := v % 256 }) (fun p v => { p with colour := v % 256 }) iss.who ra.val rc.val s))

/-- MARK.M: a flow mirror copy to session gA[1:0] (R180). -/
def execMarkM (iss : By Agent) (ra rc : Fin 32) (s : State) : Host.Outcome State Fault Refusal :=
  .next (s.ifDecodes iss.who iss.rsv (mark 3 (fun x v => { x with mirror := some (v % 4) }) (fun p v => { p with mirror := some (v % 4) }) iss.who ra.val rc.val s))

/-- DEQ: the head packet of a queue that no decision has selected comes under a handle in gD, its META in gB; 0 from an empty queue
or one in another state (R181, R182). One register for both results is not foreseen: a free value. -/
def execDeq (iss : By (Fin 32)) (rd rb ra : Fin 32) (s : State) : Host.Outcome State Fault Refusal :=
  let ag : Agent := .core iss.who
  .next (s.ifDecodes (.core iss.who) iss.rsv (s.issue ag (sylQop 4 rd.val ra.val rb.val 0 0) (needFirm ag (fun s =>
    let q := s.gr ag ra.val % 65536
    let st := s.qstate q
    let open' := st == QS.ACTIVE || st == QS.FROZEN || st == QS.DRAINING || st == QS.HELD
    match (if open' then s.nextOf q else none) with
    | none => .next (s.setG ag rd.val 0)
    | some p =>
      let s := s.setLinked q ((s.linked q).filter (fun x => x.id != p.id))
      let s := s.setHeld (s.gaf.held ++ [p])
      if rd = rb then
        let (v, s) := s.free
        .next (s.setG ag rd.val v)
      else .next ((s.setG ag rd.val (handleOf p)).setG ag rb.val p.mdat)))))

/-- ENQ of a held packet: gD receives 0, or the status with which it was dropped (R181). -/
def execFwEnq (iss : By (Fin 32)) (rd ra rb rc : Fin 32) (s : State) : Host.Outcome State Fault Refusal :=
  let ag : Agent := .core iss.who
  .next (s.ifDecodes (.core iss.who) iss.rsv (s.issue ag (sylQop 0 rd.val ra.val rb.val rc.val 0) (withHandle ag rc.val (fun s h p =>
    let (st, s') := (s.unheld h).enqueue { p with mdat := s.gr ag rb.val } (s.gr ag ra.val % 2 ^ 20)
    .next (s'.setG ag rd.val (st.getD 0))))))

/-- DROP of a held packet: it is freed, and its source receives PROG_DROP with the reason (R181). -/
def execFwDrop (iss : By (Fin 32)) (rc : Fin 32) (reason : BitVec 8) (s : State) : Host.Outcome State Fault Refusal :=
  let ag : Agent := .core iss.who
  .next (s.ifDecodes (.core iss.who) iss.rsv (s.issue ag (sylQop 1 0 0 0 rc.val reason.toNat) (withHandle ag rc.val (fun s h p =>
    .next ((s.unheld h).dropPkt p ST.PROG_DROP reason.toNat)))))

end Sys2Proof.Machine
end

