-- ==== Sys2Proof/Machine/Police.lean ====
section
/-!
DEFINITION. The policers: flow records (R101), the meter (R103, R104), the flow cache (R105) and the flow commands (R106).
-/
namespace Sys2Proof.Machine

/-- Word `i` of a record. -/
def recWord (ws : List Nat) (i : Nat) : Nat := ws.getD i 0

/-- VALID of a record. -/
def recValid (ws : List Nat) : Bool := bitOf (recWord ws 2) 12

/-- The current refill tick, modulo 2^56 (R96, R101). -/
def State.tickNow (s : State) : Nat := s.rd R.EMB_BEAT / 16 % 2 ^ 56

/-- The marker of R103: profile fields, tick, record, LEN and input colour give the colour and the record afterwards. -/
def meterRecord (cir pir cbs pbs : Nat) (lenAdj : Int) (aware : Bool) (now : Nat) (ws : List Nat) (len cin : Nat) : Nat × List Nat :=
  let last := fieldOf (recWord ws 0) 0 56
  let dt := (now + 2 ^ 56 - last) % 2 ^ 56
  let tc := min (fieldOf (recWord ws 1) 0 32 + cir * dt) cbs
  let tp := min (fieldOf (recWord ws 1) 32 32 + pir * dt) pbs
  let l := (max ((len : Int) + lenAdj) 1).toNat * 256
  let cin := if aware then cin else 0
  let c := if 2 ≤ cin ∨ tp < l then 2 else if cin = 1 ∨ tc < l then 1 else 0
  let tp' := if c = 2 then tp else tp - l
  let tc' := if c = 0 then tc - l else tc
  let up (v lo : Nat) (d : Nat) : Nat := putField v lo 32 (fieldOf v lo 32 + d)
  let w3 := if c = 0 then up (recWord ws 3) 0 1 else if c = 1 then up (recWord ws 3) 32 1 else recWord ws 3
  let w4 := if c = 2 then up (recWord ws 4) 0 1 else recWord ws 4
  let add (i : Nat) (on : Bool) : Nat := if on then (recWord ws i + len) % 2 ^ 64 else recWord ws i
  (c, [putField (recWord ws 0) 0 56 now, tc' + tp' * 2 ^ 32, recWord ws 2, w3, w4, add 5 (c == 0), add 6 (c == 1), add 7 (c == 2)])

/-- Meter a record under the profiles of a bank (R103). -/
def State.meter (s : State) (current : Bool) (ws : List Nat) (len cin : Nat) : Nat × List Nat :=
  let a := R.POL_PROFA (fieldOf (recWord ws 2) 0 12)
  let b := R.POL_PROFB (fieldOf (recWord ws 2) 0 12)
  meterRecord (s.getBank current a F.POL_PROFA_CIR) (s.getBank current a F.POL_PROFA_PIR) (s.getBank current b F.POL_PROFB_CBS)
    (s.getBank current b F.POL_PROFB_PBS) (signedOf (s.getBank current a F.POL_PROFA_LEN_ADJ) 8)
    (s.getBank current a F.POL_PROFA_AWARE == 1) s.tickNow ws len cin

/-! ### The flow cache (R105) -/

def State.flowFind (s : State) (f : Nat) : Option FlowLine := s.pol.cache.find? (fun l => l.idx == f)

/-- Write a record back to the gather store; to an unmapped page it is lost and logs FLOW_UE (R113). -/
def State.flowWriteBack (s : State) (l : FlowLine) (origin : Nat) : State :=
  if s.gstMapped (s.flowAddr l.idx) then s.gstStore (s.flowAddr l.idx) origin (l.words.flatMap (fun w => leBytes w 8))
  else s.report FC.FLOW_UE UK.module 0 origin 0 l.idx

/-- The record that leaves the cache when record `f` enters it: the least recently used of a full set (R105). -/
def State.flowVictim (s : State) (f : Nat) : Option FlowLine :=
  let set := s.pol.cache.filter (fun x => x.idx != f && x.idx % 4096 == f % 4096)
  if 16 ≤ set.length then set.getLast? else none

/-- Put a record in the cache as the most recently used of its set; the one that leaves is written back if it is dirty, with the tag of
the request whose fill evicts it (R105). -/
def State.flowPut (s : State) (l : FlowLine) (origin : Nat) : State :=
  let others := s.pol.cache.filter (fun x => x.idx != l.idx)
  match s.flowVictim l.idx with
  | none => { s with pol := { s.pol with cache := l :: others } }
  | some v =>
    let s := if v.dirty then s.flowWriteBack v origin else s
    { s with pol := { s.pol with cache := l :: others.filter (fun x => x.idx != v.idx) } }

/-- Ranges of the gather store that putting record `f` into the cache reads and writes: the record, unless it is cached or written whole,
and a dirty one that leaves. -/
def State.flowRanges (s : State) (f : Nat) (reads : Bool) : List (Nat × Nat) :=
  (if reads && (s.flowFind f).isNone then [(s.flowAddr f, 64)] else []) ++
    (match s.flowVictim f with
      | some v => if v.dirty then [(s.flowAddr v.idx, 64)] else []
      | none => [])

/-- The accesses of class F at the ranges may be carried out now (R113, R120). -/
def State.flowTurn (s : State) (rs : List (Nat × Nat)) : Option State :=
  if rs.isEmpty then some s else if s.gstServes then s.gstTurn (some GC.F) 0 rs else none

/-- Words of a record's bytes. -/
def flowWords (bs : List Byte) : List Nat := (List.range 8).map (fun i => leValue (((bs.drop (8 * i)).take 8).map (·.toNat)))

/-- Read a record from the gather store into the cache; an uncorrectable record, or one in an unmapped page, stays uncached
and logs FLOW_UE (R105, R113). -/
def State.flowFill (s : State) (f origin : Nat) : Option (List Nat) × State :=
  let (bs, ok, s) := if s.gstMapped (s.flowAddr f) then s.gstRead (s.flowAddr f) 64 origin else ([], false, s)
  let ws := flowWords bs
  if ok then (some ws, s.flowPut ⟨f, ws, false⟩ origin)
  else (none, s.report FC.FLOW_UE UK.module 0 origin 0 f)

/-- A meter that found its record answers red, in the bank of its request, without a charge: VALID = 0, a record beyond the area, or
POL_CTL.ENABLE clear (R104, R469). -/
def State.badRec (s : State) : State := s.bump R.POL_STATUS F.POL_STATUS_BADREC 1

/-- Apply a meter to a cached record (R103, R104). -/
def State.meterCached (s : State) (current : Bool) (l : FlowLine) (len cin origin : Nat) : Nat × State :=
  if recValid l.words then
    let (c, ws) := s.meter current l.words len cin
    (c, s.flowPut { l with words := ws, dirty := true } origin)
  else (2, (s.flowPut l origin).badRec)

/-! ### POL_FLOWCMD (R106) -/

/-- The record lies in an unmapped page: the command has no effect and sets CFG_REFUSED (R113). -/
def State.flowRefused (s : State) : State := s.setBit R.POL_STATUS F.POL_STATUS_CFG_REFUSED

/-- The words reach POL_FLOWDATA. -/
def State.putFlow (s : State) (ws : List Nat) : State := (List.range 8).foldl (fun s i => s.wr (R.POL_FLOWDATA i) (recWord ws i)) s

/-- Every dirty record is written back and stays cached, clean. -/
def State.flowFlush (s : State) (origin : Nat) : State :=
  let s := (s.pol.cache.filter (·.dirty)).foldl (fun s l => s.flowWriteBack l origin) s
  { s with pol := { s.pol with cache := s.pol.cache.map (fun l => { l with dirty := false }) } }

/-- Ranges of the dirty records. -/
def State.dirtyRanges (s : State) : List (Nat × Nat) := (s.pol.cache.filter (·.dirty)).map (fun l => (s.flowAddr l.idx, 64))

/-- What a command does once nothing keeps it waiting: OP 1 copies its record into POL_FLOWDATA, coherently with the cache, OP 2 writes the
record as one change, OP 3 writes every dirty record back. None: the gather store cannot carry it out yet. -/
def State.flowApply (s : State) (c : FlowCmd) : Option State :=
  if c.op = 3 then (s.flowTurn s.dirtyRanges).map (fun s => s.flowFlush c.origin)
  else if !s.gstMapped (s.flowAddr c.idx) then (if s.gstServes then some s.flowRefused else none)
  else (s.flowTurn (s.flowRanges c.idx (c.op == 1))).map (fun s =>
    if c.op = 2 then s.flowPut ⟨c.idx, c.words, true⟩ c.origin
    else match s.flowFind c.idx with
      | some l => s.putFlow l.words
      | none =>
        let bs := s.bytes (s.flowAddr c.idx) 64
        match s.flowFill c.idx c.origin with
        | (some ws, s) => s.putFlow ws
        | (none, s) => s.putFlow (flowWords bs))

/-- A command ends. -/
def State.flowDone (s : State) : State := { s with pol := { s.pol with cmd := none } }.put R.POL_STATUS F.POL_STATUS_CMD_BUSY 0

/-- A write of POL_FLOWCMD with OP 1 to 3: refused while one is being applied. It waits behind the meters of its record that are already
issued, and for the gather store; meters of the record that come later wait behind it (R106). -/
def State.flowCommand (s : State) (op origin : Nat) : State :=
  if s.pol.cmd.isSome then s.flowRefused
  else
    let f := s.get R.POL_FLOWSEL F.POL_FLOWSEL_RECORD
    let ahead := if op = 3 then 0 else (s.pol.filling.filter (fun w => w.idx == f)).length
    let c : FlowCmd := ⟨op, f, origin, ahead, (List.range 8).map (fun i => s.rd (R.POL_FLOWDATA i))⟩
    let later := { s with pol := { s.pol with cmd := some c } }.setBit R.POL_STATUS F.POL_STATUS_CMD_BUSY
    if ahead = 0 then (s.flowApply c).getD later else later

/-- POL_FLOWCMD OP 1: the record is copied into POL_FLOWDATA. -/
def execFlowRead (o : Origin) (s : State) : Host.Outcome State Fault Refusal := .next (s.flowCommand 1 o.toNat)

/-- POL_FLOWCMD OP 2: POL_FLOWDATA is written to the record. -/
def execFlowWrite (o : Origin) (s : State) : Host.Outcome State Fault Refusal := .next (s.flowCommand 2 o.toNat)

/-- POL_FLOWCMD OP 3: every dirty cached record is written back. -/
def execFlowWriteback (o : Origin) (s : State) : Host.Outcome State Fault Refusal := .next (s.flowCommand 3 o.toNat)

end Sys2Proof.Machine
end

