-- ==== Sys2Proof/Machine/Tkn.lean ====
section
/-!
DEFINITION. Token buckets (R177), the meter form (R103 to R105, R178), and lists (R179).
-/
namespace Sys2Proof.Machine

/-! ### Indivisible operations on records -/

/-- Whether an agent may reach `n` bytes at `a` now with a kind of access: an empty `ok`, a failure, or a wait. The gate's counts, logs and
decision are in the state; `gateDone` ends the decision when the instruction ends. -/
def State.reach (s : State) (ag : Agent) (a n kind : Nat) : MemRes × State :=
  let origin := s.agentOrigin ag
  let who := agentWho ag
  let off := offOf a
  if !normalAddr a then (.fail 2, s)
  else if spaceOf a = 0 then
    match ag with
    | .core _ =>
      let (g, s) := s.gateCheck gateLocal off n kind origin
      (if g then .ok [] else .fail 0, s)
    | .lane _ => (.ok [], s)
  else if !s.gstMapped off || !s.gstServes then (.fail 2, s)
  else
    let gate := s.gateOfGst off
    let (g, s) := s.gateArrive gate off n kind origin who
    let s := if g then s.gateBind gate off n kind origin who else s
    if !g then (.fail 0, s)
    else if s.gstBusy off n who then (.wait, s)
    else match (if kind = AK.read then none else s.lockAgainst off n origin) with
      | some i => (.fail 3, s.reportLocked i off origin)
      | none => match s.gstTurn (gstClass origin) who [(off, n)] with
        | none => (.wait, s)
        | some t => (.ok [], t)

/-- Read `n` bytes the agent may reach; false: unusable. -/
def State.rawRead (s : State) (ag : Agent) (a n : Nat) : List Byte × Bool × State :=
  if spaceOf a = 1 then s.gstRead (offOf a) n (s.agentOrigin ag)
  else
    let base := match ag with | .core _ => MB.localMem | .lane _ => MB.jackMem
    (s.bytes (base + offOf a) n, true, s)

/-- Write bytes the agent may reach. -/
def State.rawWrite (s : State) (ag : Agent) (a : Nat) (bs : List Byte) : State :=
  if spaceOf a = 1 then s.gstStore (offOf a) (s.agentOrigin ag) bs
  else
    let base := match ag with | .core _ => MB.localMem | .lane _ => MB.jackMem
    s.store (base + offOf a) bs

def bytesNat (bs : List Byte) : Nat := leValue (bs.map (·.toNat))

/-- An instruction that ends leaves no access behind a gate. -/
def IRes.gateEnd (who : Nat) : IRes → IRes
  | .next t => .next (t.gateDone who)
  | .exc t code a => .exc (t.gateDone who) code a
  | r => r

/-- Do something with a record of 32 bytes at gA: alignment, space, the agent's own buffered stores (R135), the gate and the data
come first. `f` gets the state before the record was read, the state since, and the four words. -/
def State.withRecord' (s : State) (ag : Agent) (a kind : Nat) (f : State → State → Nat → Nat → Nat → Nat → IRes) : IRes :=
  if a % 32 ≠ 0 then .exc s EX.ALIGN a
  else if !normalAddr a then .exc s EX.BUS_ERR a
  else if (s.agent ag).sbOverlaps a 32 then .wait
  else match s.reach ag a 32 kind with
    | (.wait, s) => .waits s
    | (.fail _, s) => .exc (s.gateDone (agentWho ag)) EX.BUS_ERR a
    | (.ok _, s) =>
      let (bs, ok, t) := s.rawRead ag a 32
      let w (i : Nat) : Nat := bytesNat ((bs.drop (8 * i)).take 8)
      (if ok then f s t (w 0) (w 1) (w 2) (w 3) else .exc t EX.BUS_ERR a).gateEnd (agentWho ag)

/-- The same, where nothing is left to wait for once the record is read. -/
def State.withRecord (s : State) (ag : Agent) (a kind : Nat) (f : State → Nat → Nat → Nat → Nat → IRes) : IRes :=
  s.withRecord' ag a kind (fun _ => f)

/-! ### Token buckets (R177) -/

/-- The refilled level nb, without overflow. -/
def refilled (now w0 w1 w2 w3 : Nat) : Int :=
  let dt := (now + 2 ^ 56 - fieldOf w0 0 56) % 2 ^ 56
  min (signedOf w1 64 + (fieldOf w2 0 24 * dt : Nat)) (w3 : Int)

/-- Words 0 and 1 of a bucket after an update. -/
def bucketBytes (now w0 : Nat) (b : Int) : List Byte := leBytes (putField w0 0 56 now) 8 ++ leBytes (wrap64 b) 8

/-- TKN.FILL: the bucket is refilled (R177). M = 1 is among `rsv` and raises ILLEGAL (R178). -/
def execTknFill (iss : By Agent) (ra : Fin 32) (s : State) : Host.Outcome State Fault Refusal :=
  .next (s.ifDecodes iss.who iss.rsv (s.issue iss.who (syl 0x19 0 ra.val 0 0) (fun s =>
    let a := s.gr iss.who ra.val
    s.withRecord iss.who a AK.atomic (fun s w0 w1 w2 w3 =>
      .next (s.rawWrite iss.who a (bucketBytes s.tickNow w0 (refilled s.tickNow w0 w1 w2 w3)))))))

/-- TKN.PEEK: the refilled level is returned, and the record stays as it is (R177). M = 1 is among `rsv` and raises ILLEGAL (R178). -/
def execTknPeek (iss : By Agent) (rd ra : Fin 32) (s : State) : Host.Outcome State Fault Refusal :=
  .next (s.ifDecodes iss.who iss.rsv (s.issue iss.who (syl 0x19 rd.val ra.val 0 0 + 1 * 2 ^ 26) (fun s =>
    s.withRecord iss.who (s.gr iss.who ra.val) AK.read (fun s w0 w1 w2 w3 =>
      .next (s.setG iss.who rd.val (wrap64 (refilled s.tickNow w0 w1 w2 w3)))))))

/-- TKN.TAKE: refilled, then charged with kB if that much is there, or on DEBT if anything is (R177). -/
def execTknTake (iss : By Agent) (ra : Fin 32) (debt : Bool) (kb pd : Fin 8) (s : State) : Host.Outcome State Fault Refusal :=
  let insn := syl 0x19 0 ra.val 0 0 + 2 * 2 ^ 26 + bit01 debt * 2 ^ 29 + kb.val * 2 ^ 30 + pd.val * 2 ^ 33
  .next (s.ifDecodes iss.who iss.rsv (s.issue iss.who insn (fun s =>
    let a := s.gr iss.who ra.val
    let amount := (s.agent iss.who).rk kb.val
    s.withRecord iss.who a AK.atomic (fun s w0 w1 w2 w3 =>
      let nb := refilled s.tickNow w0 w1 w2 w3
      let take := decide ((amount : Int) ≤ nb) || (debt && decide (0 < nb))
      let s := s.rawWrite iss.who a (bucketBytes s.tickNow w0 (if take then nb - (amount : Int) else nb))
      .next (s.setP iss.who pd.val take)))))

/-! ### The meter (R103 to R105, R178) -/

/-- The number a waiting meter gives its agent: a lane by its number, a core by 256 and its number. -/
def agentNo : Agent → Nat
  | .core c => 256 + c.val
  | .lane l => l.val

/-- The agent of such a number. -/
def agentOfNo (n : Nat) : Agent :=
  if n < 256 then .lane ⟨n % 256, Nat.mod_lt _ (by decide)⟩ else .core ⟨(n - 256) % 32, Nat.mod_lt _ (by decide)⟩

/-- The agent sees the active bank of the action domain (R28): a core always, a lane by the epoch its request bound. -/
def State.agentCurrent (s : State) (ag : Agent) : Bool :=
  match ag with
  | .core _ => true
  | .lane l => match s.laneReq l.val with
    | some r => s.reqCurrent r
    | none => true

/-- The colour reaches gD, and pD tells whether it is not red (R178). -/
def State.setColour (s : State) (ag : Agent) (rd pd c : Nat) : State := (s.setG ag rd c).setP ag pd (c != 2)

/-- A meter misses: its agent is held until the record is filled (R105). -/
def State.meterMiss (s : State) (ag : Agent) (f len cin rd pd insn : Nat) : State :=
  let s := s.bump R.POL_CACHESTAT F.POL_CACHESTAT_MISSES 1
  let s := s.tally (ev 0x0E 1 (some (s.agentOrigin ag)) (some (1, s.flowAddr f)) (s.cgOf (s.flowAddr f)))
  let s := { s with pol := { s.pol with filling := s.pol.filling ++ [({ idx := f, lane := agentNo ag, len := len, cin := cin, rd := rd, pd := pd, insn := insn, since := s.now } : MeterWait)] } }
  s.setAgent ag { s.agent ag with run := .held rd }

/-- TKN.TAKE with M = 1 meters flow record gA with LEN = gB[13:0] and colour gC[1:0]; KB and DEBT, which must be zero, are among `rsv`
(R103, R104, R178). -/
def execTknTakeMeter (iss : By Agent) (rd ra rb rc : Fin 32) (pd : Fin 8) (s : State) : Host.Outcome State Fault Refusal :=
  let insn := syl 0x19 rd.val ra.val rb.val rc.val + 2 * 2 ^ 26 + 2 ^ 28 + pd.val * 2 ^ 33
  .next (s.ifDecodes iss.who iss.rsv (s.issue iss.who insn (fun s =>
    let f := s.gr iss.who ra.val
    let len := s.gr iss.who rb.val % 2 ^ 14
    let cin := s.gr iss.who rc.val % 4
    if !s.bit R.POL_CTL F.POL_CTL_ENABLE || decide (s.flowCount ≤ f) then .next (s.badRec.setColour iss.who rd.val pd.val 2)
    else if s.pol.filling.any (fun w => w.idx == f) then .hold (s.meterMiss iss.who f len cin rd.val pd.val insn)
    else match s.flowFind f with
      | some l =>
        let s := s.bump R.POL_CACHESTAT F.POL_CACHESTAT_HITS 1
        let (c, s) := s.meterCached (s.agentCurrent iss.who) l len cin (s.agentOrigin iss.who)
        .next (s.setColour iss.who rd.val pd.val c)
      | none => .hold (s.meterMiss iss.who f len cin rd.val pd.val insn))))

/-- A meter that waited gets its colour, and its agent goes on; the beats it was held are counted (R377, class 0x06). -/
def State.meterDone (s : State) (w : MeterWait) (c : Nat) : State :=
  let ag := agentOfNo w.lane
  let s := match ag with
    | .lane _ => s.tally (ev 0x06 (s.now - w.since) (some (s.agentOrigin ag)) none 0)
    | .core _ => s
  match (s.agent ag).run with
  | .held _ =>
    let s := (s.setAgent ag { s.agent ag with run := .running }).setColour ag w.rd w.pd c
    (s.retireInsn ag w.insn (s.agent ag).pc).complete1 ag
  | _ => s

/-- Apply a waiting meter to its record, cached by now. -/
def State.meterWaited (s : State) (w : MeterWait) : State :=
  let ag := agentOfNo w.lane
  match s.flowFind w.idx with
  | some l =>
    let (c, s) := s.meterCached (s.agentCurrent ag) l w.len w.cin (s.agentOrigin ag)
    s.meterDone w c
  | none => s.meterDone w 2

/-- The record is filled, unless it is cached by now, and the meters that wait for it are applied in their order, the lowest lane first of
those issued in one beat; a record that cannot be read gives red to all (R104, R105, R113). None: the gather store cannot carry it out yet. -/
def State.fillMeters (s : State) (f : Nat) (ws : List MeterWait) : Option State :=
  match ws with
  | [] => some s
  | w :: _ => (s.flowTurn (s.flowRanges f true)).map (fun s =>
      let s := { s with pol := { s.pol with filling := s.pol.filling.filter (fun x => !ws.contains x) } }
      if (s.flowFind f).isSome then ws.foldl State.meterWaited s
      else match s.flowFill f (s.agentOrigin (agentOfNo w.lane)) with
        | (some _, s) => ws.foldl State.meterWaited s
        | (none, s) => ws.foldl (fun s x => s.meterDone x 2) s)

/-- FLOW_CACHE_FILL: the fill of a record ends, and the meters that wait for it go on. A POL_FLOWCMD that is being applied comes between the
meters of its record issued before it and those issued after it (R106). -/
def execFlowCacheFill (f : BitVec 20) (flips : List (Nat × Nat)) (s : State) : Host.Outcome State Fault Refusal :=
  let f := f.toNat
  let waiting := s.pol.filling.filter (fun w => w.idx == f)
  let t := s.flip flips
  .next (match s.pol.cmd with
    | some c =>
      let n := if c.op = 3 ∨ c.idx ≠ f then waiting.length else c.ahead
      if c.op ≠ 3 ∧ c.idx ≠ f then (t.fillMeters f waiting).getD s
      else match t.fillMeters f (waiting.take n) with
        | none => s
        | some t => match t.flowApply c with
          | none => { t with pol := { t.pol with cmd := some { c with ahead := 0 } } }
          | some t =>
            let t := t.flowDone
            (t.fillMeters f (waiting.drop n)).getD t
    | none => if waiting.isEmpty then s else (t.fillMeters f waiting).getD s)

/-! ### Lists (R179) -/

/-- Why an element cannot take part: not 8-byte aligned, or not in the header's space. -/
def elementBad (h e : Nat) : Option Nat :=
  if e % 8 ≠ 0 then some EX.ALIGN
  else if spaceOf e ≠ spaceOf h ∨ !normalAddr e then some EX.BUS_ERR
  else none

/-- Check every further word a list operation touches before it has any effect. -/
def State.reachAll (s : State) (ag : Agent) (h : Nat) : List Nat → IRes
  | [] => .next s
  | e :: es =>
    match elementBad h e with
    | some code => .exc s code e
    | none =>
      match s.reach ag e 8 AK.atomic with
      | (.wait, s) => .waits s
      | (.fail _, s) => .exc s EX.BUS_ERR e
      | (.ok _, s) => s.reachAll ag h es

/-- Write one word of a list. -/
def State.listPut (s : State) (ag : Agent) (a v : Nat) : State := s.rawWrite ag a (leBytes v 8)

/-- A list operation on the header at gA: it waits for the agent's own buffered stores to normal memory (R135). -/
def State.withList (s : State) (ag : Agent) (h : Nat) (touch : Nat → Nat → List Nat) (f : State → Nat → Nat → Nat → IRes) : IRes :=
  if (s.agent ag).sbMemory then .wait
  else s.withRecord' ag h AK.atomic (fun s t head tail count _ =>
    match t.reachAll ag h (touch head tail) with
    | .next u => f u head tail count
    | .waits _ => s.reachAll ag h (touch head tail)
    | r => r)

/-- PUSH.T: append an element at the tail (R179). -/
def execPushT (iss : By Agent) (ra rb : Fin 32) (s : State) : Host.Outcome State Fault Refusal :=
  .next (s.ifDecodes iss.who iss.rsv (s.issue iss.who (syl 0x1A 0 ra.val rb.val 0) (fun s =>
    let h := s.gr iss.who ra.val
    let e := s.gr iss.who rb.val
    s.withList iss.who h (fun _ tail => if tail = 0 then [e] else [e, tail]) (fun s _ tail count =>
      let s := s.listPut iss.who e 0
      let s := if tail = 0 then s.listPut iss.who h e else s.listPut iss.who tail e
      .next ((s.listPut iss.who (h + 8) e).listPut iss.who (h + 16) ((count + 1) % 2 ^ 64))))))

/-- PUSH.H: insert an element at the head (R179). -/
def execPushH (iss : By Agent) (ra rb : Fin 32) (s : State) : Host.Outcome State Fault Refusal :=
  .next (s.ifDecodes iss.who iss.rsv (s.issue iss.who (syl 0x1A 0 ra.val rb.val 0 + 1 * 2 ^ 26) (fun s =>
    let h := s.gr iss.who ra.val
    let e := s.gr iss.who rb.val
    s.withList iss.who h (fun _ _ => [e]) (fun s head tail count =>
      let s := (s.listPut iss.who e head).listPut iss.who h e
      let s := if tail = 0 then s.listPut iss.who (h + 8) e else s
      .next (s.listPut iss.who (h + 16) ((count + 1) % 2 ^ 64))))))

/-- POP: remove the head element, or return 0 from an empty list (R179). -/
def execPop (iss : By Agent) (rd ra : Fin 32) (pd : Fin 8) (s : State) : Host.Outcome State Fault Refusal :=
  .next (s.ifDecodes iss.who iss.rsv (s.issue iss.who (syl 0x1A rd.val ra.val 0 0 + 2 * 2 ^ 26 + pd.val * 2 ^ 28) (fun s =>
    let h := s.gr iss.who ra.val
    s.withList iss.who h (fun head _ => if head = 0 then [] else [head]) (fun s head _ count =>
      if head = 0 then .next ((s.setG iss.who rd.val 0).setP iss.who pd.val false)
      else
        let (bs, ok, s) := s.rawRead iss.who head 8
        if !ok then .exc s EX.BUS_ERR head
        else
          let nxt := bytesNat bs
          let s := s.listPut iss.who h nxt
          let s := if nxt = 0 then s.listPut iss.who (h + 8) 0 else s
          let s := s.listPut iss.who (h + 16) ((count + 2 ^ 64 - 1) % 2 ^ 64)
          .next ((s.setG iss.who rd.val head).setP iss.who pd.val true)))))

end Sys2Proof.Machine
end

