-- ==== Sys2Proof/Machine/Tables.lean ====
section
/-!
DEFINITION. Lookup tables: where entries lie (R205), lookups (R176), and the commands that read, write and delete entries of the
shadow bank (R206, R207).
-/
namespace Sys2Proof.Machine

/-! ### Layout (R205) -/

/-- A table's descriptor in one bank: its number, the physical bank, and the fields of JCK_TBLA and JCK_TBLB. -/
structure Tbl where
  no : Nat
  bank : Nat
  type : Nat
  width : Nat
  place : Nat
  cap : Nat
  base : Nat
  default : Nat

/-- The descriptor of table `t` as the active bank (true) or the shadow bank holds it. -/
def State.tbl (s : State) (current : Bool) (t : Nat) : Tbl :=
  let r := R.JCK_TBLA t
  let e := s.actEpoch % 2
  ⟨t, if current then e else 1 - e, s.getBank current r F.JCK_TBLA_TYPE, s.getBank current r F.JCK_TBLA_KEYW + 1,
    s.getBank current r F.JCK_TBLA_PLACE, s.getBank current r F.JCK_TBLA_CAP_LOG2, s.getBank current r F.JCK_TBLA_BASE,
    s.rdBank current (R.JCK_TBLB t)⟩

def Tbl.entrySize (d : Tbl) : Nat := if d.type = 1 then 16 else 32
def Tbl.size (d : Tbl) : Nat := 2 ^ d.cap
def Tbl.footprint (d : Tbl) : Nat := d.size * d.entrySize

/-- Address of entry `i` in its memory: on the die a byte of State's memory, else a gather-store address. -/
def Tbl.addr (d : Tbl) (i : Nat) : Nat :=
  if d.place = 0 then MB.table d.bank + d.base * 4096 + i * d.entrySize else d.base * 2 ^ 21 + d.bank * d.footprint + i * d.entrySize

/-- Words of an entry's bytes. -/
def entryWords (bs : List Byte) : List Nat := (List.range 4).map (fun i => bytesNat ((bs.drop (8 * i)).take 8))

/-- The entry as memory holds it. -/
def State.entry (s : State) (d : Tbl) (i : Nat) : List Nat := entryWords (s.bytes (d.addr i) d.entrySize)

/-- VALID of an entry of the table's type, and its VALUE. -/
def Tbl.valid (d : Tbl) (w : List Nat) : Bool :=
  match d.type with
  | 1 => bitOf (recWord w 1) 0
  | 2 => bitOf (recWord w 3) 0
  | _ => bitOf (recWord w 1) 7
def Tbl.value (d : Tbl) (w : List Nat) : Nat := if d.type = 1 then recWord w 0 else recWord w 2

/-- The key of an EM table from its two words; bits above the width are ignored (R176). -/
def Tbl.key (d : Tbl) (lo hi : Nat) : Nat := (lo + (if 64 < d.width then hi * 2 ^ 64 else 0)) % 2 ^ d.width

/-- The entries of the two buckets of a key, in the order in which a write looks for a free one (R206). -/
def Tbl.buckets (d : Tbl) (key : Nat) : List Nat :=
  let n := max 1 (d.size / 4)
  [0, 1].flatMap (fun h => (List.range 4).map (fun i => Config.hash h key % n * 4 + i))

/-- The entry that holds an EM key. -/
def State.emFind (s : State) (d : Tbl) (key : Nat) : Option Nat :=
  (d.buckets key).find? (fun i => let w := s.entry d i; d.valid w && recWord w 0 + recWord w 1 * 2 ^ 64 == key)

/-- The top `n` bits of a 64-bit word, the others zero. -/
def topBits (v n : Nat) : Nat := v / 2 ^ (64 - min n 64) * 2 ^ (64 - min n 64)

def plenOf (w : List Nat) : Nat := recWord w 1 % 128

/-- The valid entry of an LPM table with the longest matching prefix among the first `n` (R176). -/
def State.lpmFind (s : State) (d : Tbl) (key : Nat) : Nat → Option Nat
  | 0 => none
  | i + 1 =>
    let w := s.entry d i
    let hit := d.valid w && decide (plenOf w ≤ min d.width 64) && topBits key (plenOf w) == recWord w 0
    match s.lpmFind d key i with
    | none => if hit then some i else none
    | some j => if hit && decide (plenOf (s.entry d j) < plenOf w) then some i else some j

/-- The entry a lookup hits: the form must be the table's (R176, R205). -/
def State.lookup (s : State) (d : Tbl) (form a b : Nat) : Option Nat :=
  if d.type = 0 ∨ form + 1 ≠ d.type then none
  else match form with
    | 0 => if a < d.size ∧ d.valid (s.entry d a) then some a else none
    | 1 => s.emFind d (d.key a b)
    | _ => s.lpmFind d (topBits a d.width) d.size

/-! ### LKP (R176) -/

/-- Ranges of the gather store that finding an entry reads: an indexed entry, or both buckets of a key (DESIGN CHOICE, log entry 121). -/
def Tbl.ranges (d : Tbl) (index key : Nat) : List (Nat × Nat) :=
  match d.type with
  | 1 => if index < d.size then [(d.addr index, 16)] else []
  | 2 => [(d.addr ((d.buckets key).getD 0 0), 128), (d.addr ((d.buckets key).getD 4 0), 128)]
  | _ => []

/-- Reach the ranges of a lookup, all before the first is read. -/
def State.reachTable (s : State) (ag : Agent) : List (Nat × Nat) → IRes
  | [] => .next s
  | (a, n) :: t => match s.reach ag (2 ^ 48 + a) n AK.read with
    | (.wait, s) => .waits s
    | (.fail _, s) => .exc s EX.BUS_ERR (2 ^ 48 + a)
    | (.ok _, s) => s.reachTable ag t

/-- Read the ranges of a table: the first that is unusable, and the state with what decoding left. -/
def State.readTable (s : State) (origin : Nat) : List (Nat × Nat) → Option Nat × State
  | [] => (none, s)
  | (a, n) :: t =>
    let (_, ok, s) := s.gstRead a n origin
    if ok then s.readTable origin t else (some a, s)

/-- A lookup by an agent: VALUE and pD = 1 on a hit, DEFAULT and pD = 0 on a miss. A table in the gather store is reached as any
access of the agent (R194). -/
def lkp (form : Nat) (ag : Agent) (rd ra rb tb pd : Nat) (s : State) : State :=
  s.issue ag (syl 0x18 rd ra rb 0 + tb * 2 ^ 21 + form * 2 ^ 29 + pd * 2 ^ 31) (fun s =>
    let d := s.tbl (s.agentCurrent ag) tb
    let a := s.gr ag ra
    let b := s.gr ag rb
    let finish (s : State) : IRes :=
      match s.lookup d form a b with
      | some i => .next ((s.setG ag rd (d.value (s.entry d i))).setP ag pd true)
      | none => .next ((s.setG ag rd d.default).setP ag pd false)
    if d.place = 0 ∨ form + 1 ≠ d.type then finish s
    else
      let rs := d.ranges a (d.key a b)
      if rs.any (fun r => (s.agent ag).sbOverlaps (2 ^ 48 + r.1) r.2) then .wait
      else match s.reachTable ag rs with
        | .next s => (match s.readTable (s.agentOrigin ag) rs with
          | (some e, s) => IRes.exc s EX.BUS_ERR (2 ^ 48 + e)
          | (none, s) => finish s).gateEnd (agentWho ag)
        | r => r.gateEnd (agentWho ag))

/-- LKP.IX: the entry of index gA (R176). -/
def execLkpIx (iss : By Agent) (rd ra : Fin 32) (tb : Fin 256) (pd : Fin 8) (s : State) : Host.Outcome State Fault Refusal :=
  .next (s.ifDecodes iss.who iss.rsv (lkp 0 iss.who rd.val ra.val 0 tb.val pd.val s))

/-- LKP.EM: the entry that holds key gA, with gB above it when the key is wider than 64 bits (R176). -/
def execLkpEm (iss : By Agent) (rd ra rb : Fin 32) (tb : Fin 256) (pd : Fin 8) (s : State) : Host.Outcome State Fault Refusal :=
  .next (s.ifDecodes iss.who iss.rsv (lkp 1 iss.who rd.val ra.val rb.val tb.val pd.val s))

/-- LKP.LPM: the longest matching prefix of the top W bits of gA (R176). -/
def execLkpLpm (iss : By Agent) (rd ra : Fin 32) (tb : Fin 256) (pd : Fin 8) (s : State) : Host.Outcome State Fault Refusal :=
  .next (s.ifDecodes iss.who iss.rsv (lkp 2 iss.who rd.val ra.val 0 tb.val pd.val s))

/-! ### JCK_TBLCMD (R206, R207) -/

/-- Results of a table command. -/
def TR.OK : Nat := 0
def TR.FULL : Nat := 1
def TR.NOTFOUND : Nat := 2
def TR.BADARG : Nat := 3

/-- The entry that the selection registers name: none for a bad argument, `some none` when it is not there (R207). -/
def State.tblNamed (s : State) (d : Tbl) : Option (Option Nat) :=
  let w (i : Nat) : Nat := s.rd (R.JCK_TBLDATA i)
  match d.type with
  | 1 =>
    let i := s.get R.JCK_TBLSEL F.JCK_TBLSEL_INDEX
    if i < d.size then some (some i) else none
  | 2 => some (s.emFind d (d.key (w 0) (w 1)))
  | 3 =>
    let plen := w 1 % 128
    if min d.width 64 < plen then none
    else some ((List.range d.size).find? (fun i =>
      let e := s.entry d i
      d.valid e && plenOf e == plen && recWord e 0 == topBits (w 0) plen))
  | _ => none

/-- The free entry a new key takes (R206). -/
def State.tblFree (s : State) (d : Tbl) : Option Nat :=
  let free (i : Nat) : Bool := !d.valid (s.entry d i)
  if d.type = 2 then (d.buckets (d.key (s.rd (R.JCK_TBLDATA 0)) (s.rd (R.JCK_TBLDATA 1)))).find? free
  else (List.range d.size).find? free

/-- The entry that JCK_TBLDATA spells, in the form the table holds it. -/
def State.tblData (s : State) (d : Tbl) : List Nat :=
  let w (i : Nat) : Nat := s.rd (R.JCK_TBLDATA i)
  match d.type with
  | 1 => [w 0, w 1 % 2]
  | 2 => let k := d.key (w 0) (w 1); [k % 2 ^ 64, k / 2 ^ 64, w 2, w 3 % 2]
  | _ => [topBits (w 0) (w 1 % 128), w 1 % 256, w 2, 0]

/-- Who a table command is behind a gate: it has a place of its own. -/
def tblWho : Nat := 2000

/-- Store an entry of one bank for the master `o`: a gate or a region lock may deny it (R127, R149). -/
def State.tblPut (s : State) (d : Tbl) (i o : Nat) (ws : List Nat) : Bool × State :=
  let bs := ws.flatMap (fun w => leBytes w 8)
  let a := d.addr i
  if d.place = 0 then (true, s.store a bs)
  else
    let (g, s) := s.gateCheck (s.gateOfGst a) a d.entrySize AK.write o
    if !g then (false, s)
    else match s.lockAgainst a d.entrySize o with
      | some j => (false, s.reportLocked j a o)
      | none => (true, s.gstStore a o bs)

def State.tblResult (s : State) (r : Nat) : State := s.put R.JCK_TBLSEL F.JCK_TBLSEL_RESULT r

/-- Store an entry of the shadow bank, and of both banks in direct-write mode (R211); one that is denied ends as a bad argument (DESIGN
CHOICE, log entry 121). -/
def State.tblStore (s : State) (d : Tbl) (i o : Nat) (ws : List Nat) : State :=
  match s.tblPut d i o ws with
  | (false, s) => s.tblResult TR.BADARG
  | (true, s) =>
    if bitOf (s.get R.GAF_DEBUG F.GAF_DEBUG_DIRECT) 1 then
      let (ok, s) := s.tblPut { d with bank := 1 - d.bank } i o ws
      s.tblResult (if ok then TR.OK else TR.BADARG)
    else s.tblResult TR.OK

/-- A table command of the master `o`, and whether it is over: ignored with CFG_REFUSED while the action domain is being committed. With a
table in the gather store it reaches what it reads as any access of the master does, and waits with it; a denial or an unusable word ends
it as a bad argument (DESIGN CHOICE, log entry 121). `f` gets the descriptor of the shadow bank; `reads`: an indexed entry is read. -/
def State.tblCmd (s : State) (o : Nat) (reads : Bool) (f : State → Tbl → State) : Bool × State :=
  let d := s.tbl false (s.get R.JCK_TBLSEL F.JCK_TBLSEL_TABLE)
  if s.bit (R.GAF_EPSTAT 1) F.GAF_EPSTAT_COMMIT_PEND then (true, s.setBit R.JCK_STATUS F.JCK_STATUS_CFG_REFUSED)
  else if d.place = 0 ∨ d.type = 0 then (true, f s d)
  else if !s.gstServes then (false, s)
  else if !s.gstMapped (d.addr (d.size - 1)) then (true, s.tblResult TR.BADARG)
  else
    let rs := d.ranges (s.get R.JCK_TBLSEL F.JCK_TBLSEL_INDEX) (d.key (s.rd (R.JCK_TBLDATA 0)) (s.rd (R.JCK_TBLDATA 1)))
    let rd := if d.type = 1 ∧ !reads then [] else rs
    let (ok, s) := rd.foldl (fun (acc : Bool × State) r =>
      let g := acc.2.gateOfGst r.1
      let (ok, t) := acc.2.gateArrive g r.1 r.2 AK.read o tblWho
      (acc.1 && ok, if ok then t.gateBind g r.1 r.2 AK.read o tblWho else t)) (true, s)
    if !ok then (true, (s.gateDone tblWho).tblResult TR.BADARG)
    else match s.gstTurn (gstClass o) 0 rs with
      | none => (false, s)
      | some s => match (s.gateDone tblWho).readTable o rd with
        | (some _, s) => (true, s.tblResult TR.BADARG)
        | (none, s) => (true, f s d)

/-- OP 1: the named entry of the shadow bank is copied into JCK_TBLDATA (R207). -/
def State.tblRead (s : State) (o : Nat) : Bool × State :=
  s.tblCmd o true (fun s d =>
    match s.tblNamed d with
    | none => s.tblResult TR.BADARG
    | some none => s.tblResult TR.NOTFOUND
    | some (some i) =>
      let ws := s.entry d i
      ((List.range 4).foldl (fun s k => s.wr (R.JCK_TBLDATA k) (recWord ws k)) s).tblResult TR.OK)

/-- OP 2: the entry in JCK_TBLDATA replaces the one it names or takes the first free place; FULL when there is none (R206, R207). -/
def State.tblWrite (s : State) (o : Nat) : Bool × State :=
  s.tblCmd o false (fun s d =>
    match s.tblNamed d with
    | none => s.tblResult TR.BADARG
    | some (some i) => s.tblStore d i o (s.tblData d)
    | some none =>
      match s.tblFree d with
      | some i => s.tblStore d i o (s.tblData d)
      | none => s.tblResult TR.FULL)

/-- OP 3: the named entry is removed (R207). -/
def State.tblDelete (s : State) (o : Nat) : Bool × State :=
  s.tblCmd o false (fun s d =>
    match s.tblNamed d with
    | none => s.tblResult TR.BADARG
    | some none => s.tblResult TR.NOTFOUND
    | some (some i) => s.tblStore d i o (List.replicate (d.entrySize / 8) 0))

/-- JCK_TBLCMD OP 1 (R207). -/
def execTblRead (o : Origin) (s : State) : Host.Outcome State Fault Refusal := .next (s.tblRead o.toNat).2

/-- JCK_TBLCMD OP 2 (R206, R207). -/
def execTblWrite (o : Origin) (s : State) : Host.Outcome State Fault Refusal := .next (s.tblWrite o.toNat).2

/-- JCK_TBLCMD OP 3 (R207). -/
def execTblDelete (o : Origin) (s : State) : Host.Outcome State Fault Refusal := .next (s.tblDelete o.toNat).2

end Sys2Proof.Machine
end

