-- ==== Sys2Proof/Machine/Banks.lean ====
section
/-!
DEFINITION. The epoch domains: their registers and memories (R28), the checks of a commit (R202, R203, R209, R216 to R220, R228), what
follows when banks change (R53, R98, R100), and records in direct-write mode (R211, R212).
-/
namespace Sys2Proof.Machine

/-! ### Domains (R28) -/

/-- Registers of a domain: 0 forwarding, 1 action, 2 scheduling. -/
def inDomain (d a : Nat) : Bool :=
  let r (lo hi : Nat) : Bool := decide (lo ≤ a) && decide (a < hi)
  match d with
  | 0 => r 0x1001000 0x1001800 || (r 0x800010 0x900010 && (a - 0x800010) % 4096 == 0) || r 0xC01000 0xC01200 || r 0xC10000 0xC14000
  | 1 => (r 0x1000100 0x1000180 && decide (a % 32 < 16)) || r 0x1C10000 0x1C20000 || r 0x3081000 0x308A000
  | _ => r 0x1810000 (0x1810000 + 8 * nodeCount) || r 0x1900000 0x1980000

def State.epoch (s : State) (d : Nat) : Nat := s.get (R.GAF_EPSTAT d) F.GAF_EPSTAT_EPOCH

/-- Requests or decisions still bound to an earlier bank (OLD_INFLIGHT). -/
def State.oldInflight (s : State) (d : Nat) : Nat :=
  let e := s.epoch d
  match d with
  | 0 =>
    let old (l : List Pkt) : Nat := (l.filter (fun p => p.epoch != e)).length
    (s.cru.coqs.map (fun x => old x.2)).sum + (s.cru.staged.map (fun x => old x.2)).sum +
      old (s.cru.holds.map (·.pkt)) + old s.cru.epHeld
  | 1 => (s.que.jack.filter (fun r => r.epoch != e)).length
  | _ => (s.que.decs.filter (fun x => x.epoch != e)).length

/-! ### Checks of the forwarding domain (R216, R217, R220, R228) -/

/-- Shadow value of a port's role and partition. -/
def State.newRole (s : State) (p : Nat) : Nat := s.get (R.PRT_ROLE p) F.PRT_ROLE_ROLE
def State.newPt (s : State) (p : Nat) : Nat := s.get (R.PRT_ROLE p) F.PRT_ROLE_PT

/-- Role record of port `p` breaks R220. -/
def State.badPort (s : State) (p : Nat) : Bool :=
  let r := s.newRole p
  if r = ROLE.DISABLED then false
  else !s.portUsed p || (if r = ROLE.CANE then !s.caneMode p else s.caneMode p || !s.bit (R.PTN_CFG (s.newPt p)) F.PTN_CFG_EN)

/-- Ports that the shadow bank gives partition `pt` in a role. -/
def State.newPorts (s : State) (pt r : Nat) : List Nat := (List.range 256).filter (fun p => s.newRole p == r && s.newPt p == pt)

/-- A valid peer window: base and size. -/
def State.newWindow (s : State) (pt w : Nat) : Option (Nat × Nat) :=
  let a := R.PTN_PEERA pt w
  if s.bit a F.PTN_PEERA_VALID then some (s.get a F.PTN_PEERA_BASE * 2 ^ 12, 2 ^ s.get a F.PTN_PEERA_SIZE_LOG2) else none

/-- A peer window breaks R228. -/
def State.badWindow (s : State) (pt w : Nat) : Bool :=
  match s.newWindow pt w with
  | none => false
  | some (base, size) =>
    let k := s.get (R.PTN_PEERA pt w) F.PTN_PEERA_SIZE_LOG2
    decide (k < 12) || decide (47 < k) || base % size != 0 || (s.get (R.PTN_PEERB pt w) F.PTN_PEERB_DBASE * 2 ^ 12) % size != 0 ||
    s.get (R.PTN_PEERB pt w) F.PTN_PEERB_DEST_PT == pt ||
    (List.range 16).any (fun v => v != w && match s.newWindow pt v with
      | some (b, z) => decide (base < b + z) && decide (b < base + size)
      | none => false)

/-- A partition with EN = 1 has not exactly one UPSTREAM port (R220). -/
def State.badUpstream (s : State) (pt : Nat) : Bool := s.bit (R.PTN_CFG pt) F.PTN_CFG_EN && (s.newPorts pt ROLE.UPSTREAM).length != 1

/-- A partition has more than 31 DOWNSTREAM ports (R220). -/
def State.badDownstream (s : State) (pt : Nat) : Bool := decide (31 < (s.newPorts pt ROLE.DOWNSTREAM).length)

/-- Records of partition `pt` break R220 or R228. -/
def State.badPartition (s : State) (pt : Nat) : Bool := s.badUpstream pt || s.badDownstream pt || (List.range 16).any (s.badWindow pt)

/-! ### Checks of the action domain (R102, R203, R205, R209) -/

/-- Physical bank of the action domain that is the shadow bank. -/
def State.shadowBank (s : State) : Nat := 1 - s.actEpoch % 2

/-- The syllables of slot `j` in physical bank `b` (R202). -/
def State.slotCode (s : State) (b j n : Nat) : List Nat := (List.range n).map (fun i => s.word (MB.jprog b + 160 * j + 5 * i) 5)

/-- A valid slot fails R203. -/
def State.badSlot (s : State) (j : Nat) : Bool :=
  let r := R.JCK_SLOT j
  let n := s.get r F.JCK_SLOT_LEN
  s.bit r F.JCK_SLOT_VALID && (decide (32 < n) || !programOk (s.slotCode s.shadowBank j (min n 32)))

/-- PIR below CIR or PBS below CBS (R102). -/
def State.badProfile (s : State) (i : Nat) : Bool :=
  decide (s.get (R.POL_PROFA i) F.POL_PROFA_PIR < s.get (R.POL_PROFA i) F.POL_PROFA_CIR) ||
  decide (s.get (R.POL_PROFB i) F.POL_PROFB_PBS < s.get (R.POL_PROFB i) F.POL_PROFB_CBS)

/-- A capture window's base has nonzero bits below the window size. -/
def State.badMirror (s : State) (i : Nat) : Bool :=
  (s.get (R.CRU_MIRBASE i) F.CRU_MIRBASE_BASE * 2 ^ 16) % (256 * 2 ^ (8 + s.get (R.CRU_MIRSESS i) F.CRU_MIRSESS_WIN_LOG2)) != 0

/-- First and last byte after a table on the die, in the shadow bank. -/
def State.dieRange (s : State) (t : Nat) : Option (Nat × Nat) :=
  let d := s.tbl false t
  if d.type ≠ 0 ∧ d.place = 0 ∧ d.cap ≤ 20 then some (d.base * 4096, d.base * 4096 + d.footprint) else none

/-- A descriptor fails (R209, BAD_WHY 4). -/
def State.badTable (s : State) (t : Nat) : Bool :=
  let d := s.tbl false t
  if d.type = 0 then false
  else if 20 < d.cap then true
  else (d.type == 2 && decide (d.cap < 2)) || (d.type == 3 && (decide (64 < d.width) || d.place == 1)) ||
    (if d.place = 1 then decide (s.gstPages * 2 ^ 21 < d.base * 2 ^ 21 + 2 * d.footprint)
     else decide (2 ^ 23 < d.base * 4096 + d.footprint) || (List.range 256).any (fun u => u != t && match s.dieRange u with
       | some (lo, hi) => decide (d.base * 4096 < hi) && decide (lo < d.base * 4096 + d.footprint)
       | none => false))

/-- A service node has PARENT above 511 (R99). -/
def State.badService (s : State) (v : Nat) : Bool := decide (511 < s.get (R.SCH_NODECFG (svcNode v)) F.SCH_NODECFG_PARENT)

/-! ### The refusal of a domain (R209) -/

/-- The lowest of `n` items that fails, with its BAD_WHY and an offset of BAD_ITEM. -/
def firstBad (why off n : Nat) (p : Nat → Bool) : Option (Nat × Nat) := ((List.range n).find? p).map (fun i => (why, off + i))

/-- BAD_WHY and BAD_ITEM of the failure a domain reports. -/
def State.domainFailure (s : State) (d : Nat) : Option (Nat × Nat) :=
  match d with
  | 0 => (firstBad 1 0 256 s.badPort).or (firstBad 1 0x100 64 s.badPartition)
  | 1 => (firstBad 1 0 4096 s.badSlot).or ((firstBad 2 0 4096 s.badProfile).or
      ((firstBad 3 0 4 s.badMirror).or (firstBad 4 0 256 s.badTable)))
  | _ => firstBad 1 0 2048 s.badService

/-- The same with the refusal of a domain whose last commit is not finished or that is in direct-write mode. -/
def State.domainRefusal (s : State) (d : Nat) : Option (Nat × Nat) :=
  if s.bit (R.GAF_EPSTAT d) F.GAF_EPSTAT_COMMIT_PEND || bitOf (s.get R.GAF_DEBUG F.GAF_DEBUG_DIRECT) d then some (0, 0)
  else s.domainFailure d

/-! ### What follows a change of the active bank -/

/-- A session whose EN rises starts with its first candidate (R53). `old`: the values in force before. -/
def State.mirrorRestart (s : State) (old : SMap Nat) : State :=
  (List.range 4).foldl (fun s i =>
    let was := fieldOf (Nat.xor (SMap.get old 0 (R.CRU_MIRSESS i).addr) (R.CRU_MIRSESS i).rst) 8 1
    if was = 0 ∧ s.bitAct (R.CRU_MIRSESS i) F.CRU_MIRSESS_EN then
      { s with cru := { s.cru with mirCand := SMap.set s.cru.mirCand 0 i 0 } } else s) s

/-- A change of CREDIT_INIT moves the credit of its port node by the difference (R98). -/
def State.creditChange (s : State) (old : SMap Nat) : State :=
  (List.range 512).foldl (fun s p =>
    let r := R.SCH_NODECFG (portNode p)
    let was := fieldOf (Nat.xor (SMap.get old 0 r.addr) r.rst) 36 16
    let is := s.getAct r F.SCH_NODECFG_CREDIT_INIT
    if was = is then s else s.setPortCredit p (s.portCredit p + (is : Int) - (was : Int))) s

/-- EN of a child as a bank holds it; a queue has none. -/
def childEnIn (act : SMap Nat) (c : Nat) : Nat :=
  if c < 65536 then 0 else fieldOf (Nat.xor (SMap.get act 0 (R.SCH_NODECFG (c - 65536)).addr) (R.SCH_NODECFG (c - 65536)).rst) 11 1

/-- A moved child leaves its old group and joins the tail of its new one with DEF = 0 (R100). -/
def State.moveChild (s : State) (c oldParent : Nat) : State := ((s.leaveGroup c oldParent).setDeficit c 0).joinGroup c

/-- After a scheduling commit every active child whose parent, PRIO or EN changed is relinked, and service nodes follow the activity
of their children (R89, R100). -/
def State.relinkNodes (s : State) (old : SMap Nat) : State :=
  let entries := s.sch.groups.flatMap (fun g => g.2.map (fun c => (g.1 / 8, g.1 % 8, c)))
  let moved (s : State) (e : Nat × Nat × Nat) : Bool :=
    s.childParent e.2.2 != e.1 || s.childPrio e.2.2 != e.2.1 || childEnIn old e.2.2 != childEnIn s.act e.2.2
  let isSvc (c : Nat) : Bool := decide (nodeKey 16384 ≤ c)
  let s := (entries.filter (fun e => !isSvc e.2.2)).foldl (fun s e => if moved s e then s.moveChild e.2.2 e.1 else s) s
  let s := (entries.filter (fun e => isSvc e.2.2)).foldl (fun s e =>
    if !s.nodeActive (e.2.2 - 65536) then s.leaveGroup e.2.2 e.1 else if moved s e then s.moveChild e.2.2 e.1 else s) s
  let svcs := (s.sch.groups.map (fun g => g.1 / 8)).filter (fun n => decide (16384 ≤ n) && decide (n < 18432))
  svcs.foldl (fun s n => if s.nodeActive n then s.joinGroup (nodeKey n) else s) s

/-- Effects of new values in force in domain `d`. -/
def State.afterChange (s : State) (d : Nat) (old : SMap Nat) : State :=
  match d with
  | 1 => s.mirrorRestart old
  | 2 => (s.creditChange old).relinkNodes old
  | _ => s

/-! ### Memories of the action domain -/

/-- Copy `n` bytes of State's memory from `src` to `dst`. -/
def copyRange (m : SMap Byte) (src dst n : Nat) : SMap Byte :=
  (m.filter (fun e => decide (src ≤ e.1) && decide (e.1 < src + n))).foldr (fun e m => SMap.set m emptyByte (e.1 - src + dst) e.2)
    (SMap.keep m (fun a => !(decide (dst ≤ a) && decide (a < dst + n))))

/-- The active bank of program store, on-die tables and tables in the gather store is copied into the shadow bank (R210). -/
def State.copyActionMemory (s : State) : State :=
  let b := s.actEpoch % 2
  let m := copyRange s.mem (MB.jprog b) (MB.jprog (1 - b)) (4096 * 160)
  let m := copyRange m (MB.table b) (MB.table (1 - b)) (2 ^ 23)
  let m := (List.range 256).foldl (fun m t =>
    let d := s.tbl true t
    if d.type ≠ 0 ∧ d.place = 1 then copyRange m (d.addr 0) ({ d with bank := 1 - b }.addr 0) d.footprint else m) m
  { s with mem := m }

/-! ### Direct-write mode (R211, R212) -/

/-- The domain of a register, if it is banked by one. -/
def domainOf (a : Nat) : Option Nat := [0, 1, 2].find? (fun d => inDomain d a)

/-- The domain is in direct-write mode. -/
def State.direct (s : State) (d : Nat) : Bool := bitOf (s.get R.GAF_DEBUG F.GAF_DEBUG_DIRECT) d

/-- Records of two words: the lower word's address of the record that holds an address; none for one-word records (R212). -/
def recordLow (a : Nat) : Option Nat :=
  if 0x1000100 ≤ a ∧ a < 0x1000180 then some (a / 16 * 16)
  else if 0x1C10000 ≤ a ∧ a < 0x1C20000 then some (a / 16 * 16)
  else if 0x3089000 ≤ a ∧ a < 0x308A000 then some (a / 16 * 16)
  else if 0xC10000 ≤ a ∧ a < 0xC14000 then some (a / 16 * 16)
  else none

/-- A role record that was `old` fails a check it takes part in: its own, and those of the partitions that it names as UPSTREAM or DOWNSTREAM
port, or named as UPSTREAM port (R212, R220). -/
def State.roleFails (s : State) (p old : Nat) : Bool :=
  let oldRole := fieldOf old F.PRT_ROLE_ROLE.lo F.PRT_ROLE_ROLE.w
  let oldPt := fieldOf old F.PRT_ROLE_PT.lo F.PRT_ROLE_PT.w
  s.badPort p || (s.newRole p == ROLE.UPSTREAM && s.badUpstream (s.newPt p)) || (oldRole == ROLE.UPSTREAM && s.badUpstream oldPt) ||
    (s.newRole p == ROLE.DOWNSTREAM && s.badDownstream (s.newPt p))

/-- A partition record fails a check it takes part in: its UPSTREAM port, and the ports that name it (R212, R220). -/
def State.ptnFails (s : State) (pt : Nat) : Bool :=
  s.badUpstream pt || (!s.bit (R.PTN_CFG pt) F.PTN_CFG_EN &&
    (List.range 256).any (fun p => s.newPt p == pt && (s.newRole p == ROLE.UPSTREAM || s.newRole p == ROLE.DOWNSTREAM)))

/-- The checks of a commit that involve a record, after it has been written in place of `old`: its number as BAD_ITEM and whether it fails
(R212). -/
def State.recordFails (s : State) (a : Nat) (old : Nat) : Nat × Bool :=
  if 0x800010 ≤ a ∧ a < 0x900010 then
    let p := (a - 0x800010) / 4096
    (p, s.roleFails p old)
  else if 0xC01000 ≤ a ∧ a < 0xC01200 then
    let pt := (a - 0xC01000) / 8
    (0x100 + pt, s.ptnFails pt)
  else if 0xC10000 ≤ a ∧ a < 0xC14000 then
    let pt := (a - 0xC10000) / 256
    (0x100 + pt, s.badWindow pt ((a - 0xC10000) % 256 / 16))
  else if 0x1000100 ≤ a ∧ a < 0x1000180 then ((a - 0x1000100) / 32, s.badMirror ((a - 0x1000100) / 32))
  else if 0x1C10000 ≤ a ∧ a < 0x1C20000 then ((a - 0x1C10000) / 16, s.badProfile ((a - 0x1C10000) / 16))
  else if 0x3081000 ≤ a ∧ a < 0x3089000 then ((a - 0x3081000) / 8, s.badSlot ((a - 0x3081000) / 8))
  else if 0x3089000 ≤ a ∧ a < 0x308A000 then ((a - 0x3089000) / 16, s.badTable ((a - 0x3089000) / 16))
  else if 0x1810000 ≤ a ∧ a < 0x1810000 + 8 * nodeCount then
    let n := (a - 0x1810000) / 8
    (n - 16384, decide (16384 ≤ n) && decide (n < 18432) && s.badService (n - 16384))
  else (0, false)

/-- Write one word of both banks. -/
def State.wrBoth (s : State) (r : RegRef) (v : Nat) : State := (s.wr r v).wrAct r v

/-- A write of a banked register in direct-write mode: a lower word waits in a holding copy; the highest word applies the record to
both banks, or keeps the old record with CFG_PAIRERR and BAD_ITEM (R211, R212). `rst` gives the reset value of a register. -/
def State.directWrite (s : State) (d : Nat) (r : RegRef) (lowRst v : Nat) : State :=
  match recordLow r.addr with
  | some low =>
    if r.addr = low then
      { s with gaf := { s.gaf with holding := SMap.set s.gaf.holding none low (some v) } }
    else
      let lowRef : RegRef := ⟨low, lowRst⟩
      let t := match SMap.get s.gaf.holding none low with
        | some lv => s.wrBoth lowRef lv
        | none => s
      let t := t.wrBoth r v
      let clean (s : State) : State := { s with gaf := { s.gaf with holding := SMap.set s.gaf.holding none low none } }
      let (item, bad) := t.recordFails r.addr 0
      if bad then
        clean ((s.put (R.GAF_EPSTAT d) F.GAF_EPSTAT_CFG_PAIRERR 1).put (R.GAF_EPSTAT d) F.GAF_EPSTAT_BAD_ITEM item)
      else clean (t.afterChange d s.act)
  | none =>
    let t := s.wrBoth r v
    let (item, bad) := t.recordFails r.addr (s.rd r)
    if bad then (s.put (R.GAF_EPSTAT d) F.GAF_EPSTAT_CFG_PAIRERR 1).put (R.GAF_EPSTAT d) F.GAF_EPSTAT_BAD_ITEM item
    else t.afterChange d s.act

end Sys2Proof.Machine
end

