-- ==== Sys2Proof/Machine/Trains.lean ====
section
/-!
DEFINITION. Gob trains: the parison header and its end-to-end check (R310, R311), routes between modules (R318), pending records and
reports (R312 to R315), and the reassembly, admission and holding of trains that arrive on a cane port (R45, R46, R286, R290, R317).
-/
namespace Sys2Proof.Machine

/-! ### Checks and byte order (R284, R310, R311) -/

/-- One bit of the CRC-32 of IEEE 802.3, in its reflected form. -/
def crcBits : Nat → Nat → Nat
  | 0, c => c
  | n + 1, c => crcBits n (if c % 2 = 1 then Nat.xor (c / 2) 0xEDB88320 else c / 2)

/-- CRC-32 of IEEE 802.3 over bytes in their order of transmission. -/
def crc32 (bs : List Byte) : Nat :=
  Nat.xor (bs.foldl (fun c b => crcBits 8 (Nat.xor c b.toNat)) 0xFFFFFFFF) 0xFFFFFFFF

/-- A value stored most significant byte first (R310). -/
def beBytes (v n : Nat) : List Byte := (leBytes v n).reverse
def beValue (bs : List Byte) : Nat := leValue (bs.reverse.map (·.toNat))

/-- `n` bytes of a run from byte `i`, as a number most significant byte first. -/
def beField (bs : List Byte) (i n : Nat) : Nat := beValue ((bs.drop i).take n)

/-! ### The parison header (R310) -/

def parVer (h : List Byte) : Nat := beField h 0 1 / 64
def parHops (h : List Byte) : Nat := beField h 0 1 / 16 % 4
def parKind (h : List Byte) : Nat := beField h 0 1 % 16
def parSrc (h : List Byte) : Nat := beField h 1 1 / 16
def parDst (h : List Byte) : Nat := beField h 1 1 % 16
def parLen (h : List Byte) : Nat := beField h 2 2 % 2 ^ 14
def parSeq (h : List Byte) : Nat := beField h 4 4
def parSrcQ (h : List Byte) : Nat := beField h 8 2
def parDstQ (h : List Byte) : Nat := beField h 10 2
def parColour (h : List Byte) : Nat := beField h 12 1
def parGen (h : List Byte) : Nat := beField h 13 1
def parMeta (h : List Byte) : Nat := beField h 16 8
def parOrigin (h : List Byte) : Nat := beField h 24 4
def parCrc (h : List Byte) : Nat := beField h 28 4

/-- Payload bytes that follow the header. -/
def parPayload (h : List Byte) : List Byte := (h.drop 32).take (parLen h)

def PK.PACKET : Nat := 1
def PK.REPORT : Nat := 2
def PK.REPL : Nat := 3
def PK.PROBE : Nat := 4

/-- End-to-end check value: header bytes 0 to 27 with HOPS taken as zero, then the payload (R311). -/
def parCheck (h : List Byte) : Nat :=
  crc32 (BitVec.ofNat 8 (beField h 0 1 - parHops h * 16) :: (h.drop 1).take 27 ++ parPayload h)

/-- A train with its header (R310). -/
def mkParison (kind src dst seq srcq dstq colour gen mt origin : Nat) (payload : List Byte) : List Byte :=
  let h := beBytes (64 + kind % 16) 1 ++ beBytes (src % 16 * 16 + dst % 16) 1 ++ beBytes (payload.length % 2 ^ 14) 2 ++ beBytes seq 4
    ++ beBytes srcq 2 ++ beBytes dstq 2 ++ beBytes colour 1 ++ beBytes gen 1 ++ beBytes 0 2 ++ beBytes mt 8 ++ beBytes origin 4
  h ++ beBytes (crc32 (h ++ payload)) 4 ++ payload

/-- The train with HOPS raised by one (R317). -/
def raiseHops (h : List Byte) : List Byte := BitVec.ofNat 8 (beField h 0 1 + 16) :: h.drop 1

/-! ### Members and routes (R306, R318, R319) -/

/-- States of a member (R319). -/
def MS.ABSENT : Nat := 0
def MS.WAITING : Nat := 1
def MS.UP : Nat := 2
def MS.LOST : Nat := 3

def State.memberState (s : State) (f : Nat) : Nat := s.get (R.FTX_FIDSTAT f) F.FTX_FIDSTAT_STATE
def State.setMemberState (s : State) (f v : Nat) : State := s.put (R.FTX_FIDSTAT f) F.FTX_FIDSTAT_STATE v
/-- `f` is in the fabric; MEMBER of the module's own FID is ignored. -/
def State.isMember (s : State) (f : Nat) : Bool := f != s.fid && s.bitAct (R.FTX_FIDMAP f) F.FTX_FIDMAP_MEMBER
def State.memberOver (s : State) (f : Nat) : Bool := s.bit (R.FTX_FIDSTAT f) F.FTX_FIDSTAT_OVER

/-- Training states of a cane port beside those of Hold (R269). -/
def CN.RESET : Nat := 0x20
def CN.DETECT : Nat := 0x21
def CN.NRZ_LOCK : Nat := 0x22
def CN.POLARITY : Nat := 0x23
def CN.ORDER : Nat := 0x24
def CN.RATE : Nat := 0x25
def CN.EQ : Nat := 0x26
def CN.ACTIVE : Nat := 0x27
def CN.RETRAIN : Nat := 0x28
def CN.DOWN : Nat := 0x29

/-- Training state of a port; a controller of a cane octet that has not trained stands in CN_RESET. -/
def State.linkState (s : State) (p : Nat) : Nat :=
  let v := s.get (R.PRT_LINKSTAT p) F.PRT_LINKSTAT_STATE
  if s.caneMode p && decide (v < 0x20) then CN.RESET else v
def State.setLinkState (s : State) (p v : Nat) : State := s.put (R.PRT_LINKSTAT p) F.PRT_LINKSTAT_STATE v

/-- The cane link is in CN_ACTIVE and not held. -/
def State.caneUsable (s : State) (p : Nat) : Bool := s.role p == ROLE.CANE && s.linkState p == CN.ACTIVE && !s.portHeld p

/-- Port of entry `k` of the route in force toward `f`, if the entry is valid. -/
def State.routeEntry (s : State) (f k : Nat) : Option Nat :=
  let r := s.rdAct (R.FTX_ROUTE f)
  if bitOf (fieldOf r 32 4) k then some (fieldOf r (8 * k) 8) else none

/-- Entry ACTIVE names once it has moved on: the first usable one, counted from the current (R318). -/
def State.routeChoice (s : State) (f : Nat) : Option Nat :=
  let cur := s.get (R.FTX_FIDSTAT f) F.FTX_FIDSTAT_ACTIVE
  ((List.range 4).map (fun i => (cur + i) % 4)).find? (fun k => match s.routeEntry f k with
    | some p => s.caneUsable p
    | none => false)

/-- ACTIVE and ROUTABLE of member `f` follow the links (R318). -/
def State.refreshRoute (s : State) (f : Nat) : State :=
  match s.routeChoice f with
  | some k => (s.put (R.FTX_FIDSTAT f) F.FTX_FIDSTAT_ACTIVE k).put (R.FTX_FIDSTAT f) F.FTX_FIDSTAT_ROUTABLE 1
  | none => s.put (R.FTX_FIDSTAT f) F.FTX_FIDSTAT_ROUTABLE 0

def State.refreshRoutes (s : State) : State := (List.range 16).foldl State.refreshRoute s

/-- The port by which trains toward `f` leave now. -/
def State.routePort (s : State) (f : Nat) : Option Nat := (s.routeChoice f).bind (s.routeEntry f)

/-! ### Pending records and reports (R309, R312, R314, R315) -/

/-- A port node receives gobs back (R98, R309). -/
def State.nodeCredit (s : State) (n g : Nat) : State :=
  s.put (R.SCH_PORTCR n) F.SCH_PORTCR_CR (s.get (R.SCH_PORTCR n) F.SCH_PORTCR_CR + g)

/-- A pending record ends with a status: its port node is credited and its source learns the outcome (R309, R315). -/
def State.endRecord (s : State) (r : PendRec) (status : Nat) : State :=
  let s := { s with fab := { s.fab with recs := s.fab.recs.filter (fun x => x.pktId != r.pktId) } }
  (s.nodeCredit r.pnode r.gobs).outcome r.pkt status 0

/-- Every open record that satisfies `p` ends with LINK_DOWN (R315). -/
def State.downRecords (s : State) (p : PendRec → Bool) : State :=
  (s.fab.recs.filter p).foldl (fun s r => s.endRecord r ST.LINK_DOWN) s

/-- A report entry toward member `f` arises (R314). -/
def State.addReport (s : State) (f : Nat) (es : List (Nat × Nat × Nat)) : State :=
  { s with fab := { s.fab with reports := SMap.set s.fab.reports [] f (SMap.get s.fab.reports [] f ++ es) } }

/-- Entries that cover `d` missing numbers from `e` up (R312, R314). -/
def gapEntries : Nat → Nat → Nat → List (Nat × Nat × Nat)
  | 0, _, _ => []
  | fuel + 1, e, d =>
    if d = 0 then []
    else
      let k := min d 65536
      (e % 2 ^ 32, ST.LINK_DOWN, k - 1) :: gapEntries fuel (e + k) (d - k)

/-- Numbers `e` to `e + d - 1` from member `f` are lost (R312). -/
def State.gap (s : State) (f e d : Nat) : State :=
  (s.bump R.FTX_ERRCNT F.FTX_ERRCNT_GAPS 1).addReport f (gapEntries (d / 65536 + 1) e d)

/-- A good train from `f` counts as hearing from it (R319). -/
def State.heard (s : State) (f : Nat) : State :=
  if s.isMember f && (s.memberState f == MS.WAITING || s.memberState f == MS.LOST) then s.setMemberState f MS.UP else s

/-- The generation of a sender: a new one restarts its sequence at `e` (R312). -/
def State.takeGen (s : State) (f gen e : Nat) : State :=
  if s.get (R.FTX_FIDSTAT f) F.FTX_FIDSTAT_GEN_RX = gen then s
  else (s.put (R.FTX_FIDSTAT f) F.FTX_FIDSTAT_GEN_RX gen).put (R.FTX_FIDSEQ f) F.FTX_FIDSEQ_RX_EXPECT e

/-- The end-to-end check of a train that has arrived whole at its destination (R312). The sequence of a PROBE is the work of
PARISON_PROBE; REPORT trains pass only the check value. -/
def State.checkTrain (s : State) (h : List Byte) : Bool × State :=
  let f := parSrc h
  if parCheck h ≠ parCrc h then (false, s.bump R.FTX_ERRCNT F.FTX_ERRCNT_E2E_CRC 1)
  else
    let s := s.heard f
    if parKind h = PK.REPORT ∨ parKind h = PK.PROBE then (true, s)
    else
      let s := s.takeGen f (parGen h) (parSeq h)
      let e := s.get (R.FTX_FIDSEQ f) F.FTX_FIDSEQ_RX_EXPECT
      let d := (parSeq h + 2 ^ 32 - e) % 2 ^ 32
      if 2 ^ 31 ≤ d then (false, s.bump R.FTX_ERRCNT F.FTX_ERRCNT_LATE 1)
      else
        let s := if d = 0 then s else s.gap f e d
        (true, s.put (R.FTX_FIDSEQ f) F.FTX_FIDSEQ_RX_EXPECT (parSeq h + 1))

/-! ### Reassembly (R286, R289, R290) -/

def State.cane (s : State) (p : Nat) : Cane := SMap.get s.can.ports {} p
def State.setCane (s : State) (p : Nat) (c : Cane) : State := { s with can := { s.can with ports := SMap.set s.can.ports {} p c } }

/-- Gobs of priority `c` leave the receive buffer of port `p` (R289). -/
def State.rxReturn (s : State) (p c n : Nat) : State :=
  s.put (R.CAN_CRDSTAT p c) F.CAN_CRDSTAT_RX_RET (s.get (R.CAN_CRDSTAT p c) F.CAN_CRDSTAT_RX_RET + n)

def State.setTrain (s : State) (t : RxTrain) : State :=
  { s with can := { s.can with rx := s.can.rx.map (fun x => if x.pkt.id = t.pkt.id then t else x) } }
def State.delTrain (s : State) (t : RxTrain) : State :=
  { s with can := { s.can with rx := s.can.rx.filter (fun x => x.pkt.id != t.pkt.id) } }

/-- The oldest train of a receive buffer (R46). -/
def State.headTrain (s : State) (p c : Nat) : Option RxTrain := s.can.rx.find? (fun t => t.pkt.inPort == p && t.pkt.inCls == c)

/-- The gobs a train has in the receive buffer leave it. -/
def State.emptyTrain (s : State) (t : RxTrain) : State := if t.old then s else s.rxReturn t.pkt.inPort t.pkt.inCls t.inBuf

/-- A train is dropped: its cells or its buffer are freed, and gobs of it that still arrive are discarded (R286, R289). -/
def State.dropTrain (s : State) (t : RxTrain) : State :=
  let s := match t.mode with
    | .admitted => s.releasePkt t.pkt
    | .held => s.emptyTrain t
    | .dropping => s
  if t.done then s.delTrain t else s.setTrain { t with mode := .dropping, inBuf := 0 }

/-- A train is dropped and counted in TRAINERR (R286). -/
def State.trainErr (s : State) (p : Nat) : State := s.bump (R.CAN_ERRCNT p) F.CAN_ERRCNT_TRAINERR 1

/-- The packet just stored at the tail of COQ `q` was received whole: its ingress copy is made, and its record counts the copy (R51). -/
def State.afterStore (s : State) (p : Pkt) (q : Nat) : State :=
  match (s.coq q).getLast? with
  | none => s
  | some x =>
    let (x', s) := s.mirrorIngress x p.inPort
    s.setCoq q ((s.coq q).dropLast ++ [x'])

/-- A train that is complete and admitted is linked; one for this module passes the check of R312 first. -/
def State.finishTrain (s : State) (t : RxTrain) : State :=
  let s := s.delTrain t
  let p := { t.pkt with body := .par (t.data.take t.pkt.bytes) }
  let (ok, s) := if parDst t.data = s.fid then s.checkTrain p.data else (true, s)
  if ok then (s.setCoq p.coq (s.coq p.coq ++ [p])).afterStore p p.coq else s.releasePkt p

/-- Offer a held train to COQ `q`: charged whole and its waiting gobs written to cells, held, or dropped (R42, R45, R286). Fabric transport
learns of a drop by the missing number (R312; log entry 109). -/
def State.offerTrain (s : State) (t : RxTrain) (q : Nat) : State :=
  let n := t.pkt.gobs
  if s.admissible q n then
    let s := s.charge q n t.pkt.origin
    let r := s.newRecord
    let (cells, s) := s.placeGobs s.now none t.data (min t.inBuf n)
    let t' := { t with pkt := { t.pkt with coq := q, cells := cells, recNo := r }, mode := .admitted, inBuf := 0 }
    let s := (s.emptyTrain t).setTrain t'
    if t.done then s.finishTrain t' else s
  else if s.dropMode q then ((s.countRefusal t.pkt.origin).countDrop q t.pkt.inPort).dropTrain t
  else
    let s := if t.refused then s else s.bump (R.CRU_COQDROP q) F.CRU_COQDROP_HOLD_EVENTS 1
    (s.countRefusal t.pkt.origin).setTrain
      { t with pkt := { t.pkt with coq := q }, refused := true, since := if t.refused then t.since else s.now }

/-- A train counted in HOPDROP is dropped (R304, R310, R317). -/
def State.hopDrop (s : State) (t : RxTrain) : State := (s.bump R.FTX_ERRCNT F.FTX_ERRCNT_HOPDROP 1).dropTrain t

/-- The head train of a receive buffer is forwarded toward another module, dropped at the third transit, or held (R317, R318). A train that no
usable port takes has no COQ yet, and HOLD_TIMEOUT names COQ 0 for it (DESIGN CHOICE, log entry 106). -/
def State.forwardTrain (s : State) (t : RxTrain) : State :=
  let f := parDst t.data
  if 2 ≤ parHops t.data ∨ !s.isMember f then s.hopDrop t
  else match s.routePort f with
    | none => s.setTrain { t with refused := true, since := if t.refused then t.since else s.now }
    | some q =>
      let c := coqOfPort q t.pkt.inCls
      if s.admissible c t.pkt.gobs then s.offerTrain { t with data := raiseHops t.data } c else s.offerTrain t c

/-- The head train of a receive buffer retries its admission (R45). -/
def State.retryTrain (s : State) (t : RxTrain) : State :=
  if t.mode ≠ .held then s
  else if parDst t.data = s.fid then s.offerTrain t (coqEndpoint t.pkt.inCls)
  else s.forwardTrain t

/-- A train has its last gob: void, of the wrong length, or whole (R286). -/
def State.endTrain (s : State) (t : RxTrain) (bad : Bool) : State :=
  let t := { t with done := true }
  if t.mode = .dropping then s.delTrain t
  else if bad then s.dropTrain t
  else if t.got ≠ t.pkt.gobs then (s.trainErr t.pkt.inPort).dropTrain t
  else
    let s := (s.portCount t.pkt.inPort PC.RX_PKTS 1).portCount t.pkt.inPort PC.RX_BYTES t.pkt.bytes
    let s := s.setTrain t
    if t.mode = .admitted then s.finishTrain t else s

/-- A gob of an open train is stored in its cell, kept in the receive buffer, or discarded (R286, R289). -/
def State.addGob (s : State) (t : RxTrain) (bs : List Byte) : RxTrain × State :=
  let p := t.pkt.inPort
  let c := t.pkt.inCls
  let t := { t with got := t.got + 1, data := t.data ++ bs }
  match t.mode with
  | .dropping => (t, (s.rxReturn p c 1).setTrain t)
  | .held => let t := { t with inBuf := t.inBuf + 1 }
    (t, s.setTrain t)
  | .admitted =>
    let s := s.rxReturn p c 1
    if t.pkt.cells.length < t.pkt.gobs then
      let (cs, s) := s.placeGobs s.now (t.pkt.cells.getLast?.map (· / 1536)) bs 1
      let t := { t with pkt := { t.pkt with cells := t.pkt.cells ++ cs } }
      (t, s.setTrain t)
    else (t, s.setTrain t)

/-- A SOP gob opens a train of its priority; its admission is decided by the length its header gives (R286, R304, R310). -/
def State.openTrain (s : State) (p c : Nat) (bs : List Byte) : RxTrain × State :=
  let behind := (s.headTrain p c).isSome
  let (pk, s) := s.newPkt .train (.par []) (32 + parLen bs) (parOrigin bs) p c 0
  let t : RxTrain := ⟨pk, bs, 1, 1, .held, false, s.now, false, false⟩
  let s := { s with can := { s.can with rx := s.can.rx ++ [t] } }
  let s :=
    if !s.bit R.FTX_CTL F.FTX_CTL_ENABLE || parVer bs != 1 || parKind bs == 0 || 4 < parKind bs then s.hopDrop t
    else if behind || parDst bs != s.fid then s
    else s.offerTrain t (coqEndpoint c)
  ((s.can.rx.find? (fun x => x.pkt.id == pk.id)).getD t, s)

/-- The train of a priority whose EOP has not come. -/
def State.openOf (s : State) (p c : Nat) : Option RxTrain :=
  s.can.rx.find? (fun t => t.pkt.inPort == p && t.pkt.inCls == c && !t.done && !t.old)

/-- A train that is discarded from its first gob on. -/
def State.voidTrain (s : State) (p c : Nat) (bs : List Byte) (eop : Bool) : State :=
  let s := s.rxReturn p c 1
  if eop then s
  else
    let (pk, s) := s.newPkt .train (.par []) 0 0 p c 0
    { s with can := { s.can with rx := s.can.rx ++ [⟨pk, bs, 1, 0, .dropping, false, s.now, false, false⟩] } }

/-- A DATA frame's gob reaches its train (R286). A SOP gob while a train of its priority is open leaves neither of the two with the
gobs its length asks for, so both are dropped. -/
def State.takeGob (s : State) (p c : Nat) (sop eop bad : Bool) (bs : List Byte) : State :=
  match sop, s.openOf p c with
  | true, none =>
    let (t, s) := s.openTrain p c bs
    if eop then s.endTrain t bad else s
  | true, some t =>
    let s := (s.trainErr p).dropTrain { t with done := true }
    (s.trainErr p).voidTrain p c bs eop
  | false, none => (s.trainErr p).voidTrain p c bs eop
  | false, some t =>
    let (t, s) := s.addGob t bs
    if eop then s.endTrain t bad else s

/-- A held train reaches HOLD_TO: dropped and counted, HOLD_TIMEOUT logged (R46). -/
def State.trainTimeout (s : State) (t : RxTrain) : State :=
  if t.mode ≠ .held ∨ !t.refused then s
  else
    let s := (s.countDrop t.pkt.coq t.pkt.inPort).dropTrain t
    s.report FC.HOLD_TIMEOUT UK.port t.pkt.inPort t.pkt.origin t.pkt.coq 0

/-- TRANSIT_FORWARD: a train for another module is forwarded with HOPS raised, or dropped at the third transit (R317). -/
def execTransitForward (p : Fin 256) (c : Fin 8) (s : State) : Host.Outcome State Fault Refusal :=
  match s.headTrain p.val c.val with
  | none => .next s
  | some t => .next (if t.mode = .held ∧ parDst t.data ≠ s.fid then s.forwardTrain t else s)

/-- The trains of port `p` when its link goes down: those not complete are dropped and their cells freed; complete ones are delivered
(R298). -/
def State.linkDownTrains (s : State) (p : Nat) : State :=
  let ts := s.can.rx.filter (fun t => t.pkt.inPort == p && !t.old)
  ts.foldl (fun s t =>
    if t.done then s.setTrain { t with old := true }
    else
      let s := match t.mode with
        | .dropping => s
        | _ => s.portCount p PC.DROPS 1
      s.dropTrain { t with done := true }) s

/-- Trains being received for a COQ of port `q`, which is flushed: dropped with it (R47). -/
def State.flushTrains (s : State) (q : Nat) : State :=
  let ts := s.can.rx.filter (fun t => t.mode == .admitted && decide (t.pkt.coq < 2048) && t.pkt.coq / 8 == q)
  ts.foldl (fun s t => (s.countDrop t.pkt.coq q).dropTrain t) s

end Sys2Proof.Machine
end

