-- ==== Sys2Proof/Machine/Clear.lean ====
section
/-!
DEFINITION. The clear path (R24): receipt and routing of a TLP, peer windows (R225, R226), admission, holds and their limit
(R45, R46), cut-through (R48, R49), staging and transmission with cell errors (R56, R229, R230), and acknowledgement (R38).
-/
namespace Sys2Proof.Machine

/-! ### Held parties (R32, R47) -/

/-- Configuration traffic, which the hold of a partition does not cover (R237). -/
def Pkt.isCfg (p : Pkt) : Bool := match p.body with | .tlp t => !holdCovers t.kind | .par _ => false

/-- The destination COQ belongs to a held port, or the partition the packet is routed in is in reset, or held with the packet covered by the
hold (R32, R235, R237). -/
def State.destShut (s : State) (p : Pkt) (q pt : Nat) : Bool :=
  (decide (q < 2048) && s.portHeld (q / 8)) || s.ptInReset pt || (s.ptHeld pt && !p.isCfg)

/-- A clear-path TLP to a held party: a non-posted request receives Completer Abort, a posted one is dropped and counted (R32). -/
def State.refuseHeld (s : State) (p : Pkt) (q : Nat) : State := (s.countDrop q p.inPort).abortIfNonPosted p

/-! ### Cut-through (R48) -/

/-- Lane rate of the code of PRT_LINKSTAT in units of 0.5 GT/s. -/
def rateOf (c : Nat) : Nat := match c with
  | 0 => 5 | 1 => 10 | 2 => 16 | 3 => 32 | 4 => 64 | _ => 128

/-- Width times rate of a port. -/
def State.portSpeed (s : State) (p : Nat) : Nat :=
  rateOf (s.get (R.PRT_LINKSTAT p) F.PRT_LINKSTAT_RATE) * s.get (R.PRT_LINKSTAT p) F.PRT_LINKSTAT_WIDTH

/-- The port runs PCI Express in Flit mode. -/
def State.flitPort (s : State) (p : Nat) : Bool :=
  pcieRole (s.role p) && s.bit (R.PRT_LINKSTAT p) F.PRT_LINKSTAT_FLIT

/-- No packet of the COQ is linked, staged or in transmission (R48, R229). -/
def State.coqIdle (s : State) (q : Nat) : Bool :=
  (s.coq q).isEmpty && (s.staged (q / 8) (q % 8)).isEmpty && !(s.unacked (q / 8)).any (fun x => x.coq == q && x.cutting)

/-- An older TLP of the receive buffer waits (R48). -/
def State.bufferWaits (s : State) (port cls : Nat) : Bool := s.cru.holds.any (fun h => h.port == port && h.cls == cls)

/-- The conditions of R48 other than admission. -/
def State.mayCut (s : State) (p cls q : Nat) (credit : Bool) : Bool :=
  decide (q < 2048) && s.flitPort p && s.flitPort (q / 8) && decide (s.portSpeed p ≤ s.portSpeed (q / 8)) && s.coqIdle q &&
  credit && bitOf (s.rd (R.CRU_CTEN (p / 64))) (p % 64) && s.bit R.CRU_CTL F.CRU_CTL_CT_GLOBAL && !s.bufferWaits p cls

/-! ### Admission of what a port received -/

/-- Append a hold for a refused packet, or for one that waits behind another, toward COQ `q` (R45); `peer` is the crossing it still has
to make (R226). -/
def State.hold (s : State) (p : Pkt) (q : Nat) (refused : Bool) (peer : Option (Nat × Nat × Nat)) : State :=
  let s := if refused then (s.bump (R.CRU_COQDROP q) F.CRU_COQDROP_HOLD_EVENTS 1).countRefusal p.origin else s
  { s with cru := { s.cru with holds := s.cru.holds ++ [⟨p.inPort, p.inCls, { p with coq := q }, refused, peer, s.now⟩] } }

/-- A TLP that cuts through: charged and written as any other, in transmission at once (R48). -/
def State.cut (s : State) (p : Pkt) (q : Nat) : State :=
  match s.admitPkt p q with
  | none => s
  | some s =>
    match (s.coq q).getLast? with
    | none => s
    | some x =>
      let s := s.setCoq q (s.coq q).dropLast
      let (x, s) := s.mirrorEgress x (q / 8)
      s.setUnacked (q / 8) (s.unacked (q / 8) ++ [{ x with cutting := true }])

/-- A packet refused at a drop COQ: dropped and counted, a non-posted request answered (R45). -/
def State.refuseDrop (s : State) (p : Pkt) (q : Nat) : State := ((s.countRefusal p.origin).countDrop q p.inPort).abortIfNonPosted p

/-- Offer a received packet to its COQ (R42, R45, R47, R48). -/
def State.offer (s : State) (p : Pkt) (q : Nat) (credit : Bool) : State :=
  if s.destShut p q p.pt then s.refuseHeld p q
  else if s.bufferWaits p.inPort p.inCls then s.hold p q false none
  else if s.mayCut p.inPort p.inCls q credit && s.admissible q p.gobs then s.cut p q
  else match s.admitPkt p q with
    | some s => s.afterStore p q
    | none => if s.dropMode q then s.refuseDrop p q else s.hold p q true none

/-- A TLP that fails routing (R24, R225): the bridge logs it, and a non-posted request receives a completion. -/
def State.rejectTlp (s : State) (pt k : Nat) (t : Tlp) (acs : Bool) (st : CplStatus) (origin : Nat) : State :=
  let b := s.bridge k
  let s := s.setBridge k { b with
    aerUnc := Nat.lor b.aerUnc (if acs then 2 ^ 21 else 2 ^ AB.UNSUPPORTED)
    devStat := Nat.lor b.devStat (2 ^ DS.NONFATAL + if acs then 0 else 2 ^ DS.UNSUPPORTED) }
  if nonPosted t then s.answer pt t.rid t.tag t.cls st [] origin .synthetic else s

/-- Free peer tags of a destination partition (R226). -/
def State.peerTagsFree (s : State) (dpt : Nat) : List Nat :=
  (List.range 1024).filter (fun t => !s.prt.peerTags.any (fun r => r.destPt == dpt && r.tag == t))

/-- A free peer tag of partition `dpt` is taken for a request of partition `pt` that carries requester ID `rid` there; none while the pool is
empty. Which free tag is not fixed: a free value (R226, log entry 1). -/
def State.takePeerTag (s : State) (dpt rid pt : Nat) (t : Tlp) : Option (Nat × State) :=
  match s.peerTagsFree dpt with
  | [] => none
  | tags =>
    let (v, s) := s.free
    let tag := tags.getD (v % tags.length) 0
    some (tag, { s with prt := { s.prt with peerTags := ⟨dpt, rid, tag, pt, t.rid, t.tag, owed t⟩ :: s.prt.peerTags } })

/-- A request crosses into partition `dpt` (R225, R226): routed downward there, its requester ID replaced, and its tag if it is not posted. It
is held for a tag as for cells, in its place among what its buffer received; its route is the one it found at receipt (R28). -/
def State.crossPeer (s : State) (p pt dpt addr : Nat) (t : Tlp) (credit : Bool) (origin : Nat) : State :=
  let rid := (s.bridge (upKey dpt)).sec * 256
  let enter (s : State) (q o : Nat) : State :=
    if !nonPosted t then
      let (pk, s) := s.newPkt .clear (.tlp { t with addr := addr, rid := rid }) t.len o p t.cls.val dpt
      s.offer pk q credit
    else match (if s.bufferWaits p t.cls.val then none else s.takePeerTag dpt rid pt t) with
      | none =>
        let (pk, s) := s.newPkt .clear (.tlp t) t.len o p t.cls.val pt
        if s.destShut pk q dpt then s.refuseHeld pk q else s.hold pk q (!s.bufferWaits p t.cls.val) (some (dpt, addr, rid))
      | some (tag, s) =>
        let (pk, s) := s.newPkt .clear (.tlp { t with addr := addr, rid := rid, tag := tag }) t.len o p t.cls.val dpt
        s.offer pk q credit
  match s.routeFromTop dpt addr false with
  | .port q => enter s (coqOfPort q t.cls.val) origin
  | .endpoint => enter s (coqEndpoint t.cls.val) (s.origin pt (((s.fnHit dpt addr).map (·.1)).getD noFn) 0 0)
  | _ => s.rejectTlp pt (upKey dpt) t false .ur origin

/-- Route a received TLP in partition `pt` and offer it to its COQ (R24). -/
def State.placeTlp (s : State) (p pt : Nat) (t : Tlp) (credit : Bool) : State :=
  let k := s.bridgeKey p pt
  let o := s.origin pt noFn 0 0
  let toPort (s : State) (q : Nat) : State :=
    let (pk, s) := s.newPkt .clear (.tlp (s.sentForm q pt t)) t.len o p t.cls.val pt
    s.offer pk (coqOfPort q t.cls.val) credit
  match s.route p pt t with
  | .port q => toPort s q
  | .ports qs => qs.foldl toPort s
  | .endpoint =>
    let o := s.origin pt (((s.fnHit pt t.addr).map (·.1)).getD noFn) 0 0
    let (pk, s) := s.newPkt .clear (.tlp t) t.len o p t.cls.val pt
    s.offer pk (coqEndpoint t.cls.val) credit
  | .peer dpt a => s.crossPeer p pt dpt a t credit o
  | .consumed => s
  | .ur => s.rejectTlp pt k t false .ur o
  | .acs => s.rejectTlp pt k t true .ca o
  | .acsPeer => s.rejectTlp pt k t true .ur o

/-- A port detects a PCI Express error: reported to FLT and shown to the host through AER (R360). -/
def State.pcieError (s : State) (p pt : Nat) (e : PcieErr) : State :=
  let k := s.bridgeKey p pt
  let b := s.bridge k
  match e with
  | .corr i =>
    (s.setBridge k { b with aerCor := Nat.lor b.aerCor (2 ^ i.val), devStat := Nat.lor b.devStat (2 ^ DS.CORR) }).report FC.PCIE_CORR UK.port p 0 i.val 0
  | .uncorr i =>
    (s.setBridge k { b with aerUnc := Nat.lor b.aerUnc (2 ^ i.val), devStat := Nat.lor b.devStat (2 ^ DS.NONFATAL) }).report FC.PCIE_UNCORR UK.port p 0 i.val 0
  | .fatal i =>
    (s.setBridge k { b with aerUnc := Nat.lor b.aerUnc (2 ^ i.val), devStat := Nat.lor b.devStat (2 ^ DS.FATAL) }).report FC.PCIE_FATAL UK.port p 0 i.val 0

/-- The error leaves no TLP to forward. -/
def losesTlp : Option PcieErr → Bool
  | some (.uncorr _) => true
  | some (.fatal _) => true
  | _ => false

/-- The port serves a partition over a link that is up. -/
def State.pciePort (s : State) (p : Nat) : Bool :=
  pcieRole (s.role p) && s.bit (R.PRT_STATUS p) F.PRT_STATUS_LINK_UP

/-- The completion answers the pending request. -/
def Pending.answeredBy (x : Pending) (p : Nat) (t : Tlp) : Bool := x.port == p && x.rid == t.dest && x.tag == t.tag

/-- A completion ends the pending request it answers, with its last part (R32). -/
def State.endPending (s : State) (p : Nat) (t : Tlp) : State :=
  if t.kind = .cpl then
    let l := s.prt.pend.filterMap (fun x =>
      if x.answeredBy p t then
        let left := leftAfter x.left t.status t.count
        if left = 0 then none else some { x with left := left }
      else some x)
    { s with prt := { s.prt with pend := l } }
  else s

/-- What arrives on port `p` of partition `pt` meets a hold or a reset: everything on a held port or in a partition in reset; in a held
partition all but configuration requests and the completions that answer them (R32, R235, R237). -/
def State.arrivesShut (s : State) (p pt : Nat) (t : Tlp) : Bool :=
  s.portHeld p || s.ptInReset pt ||
    (s.ptHeld pt && holdCovers t.kind && !(t.kind == .cpl && s.prt.pend.any (fun x => x.cfg && x.answeredBy p t)))

/-- A configuration request that reaches the upstream port of a partition in reset is to be retried (R235). -/
def State.shutCfg (s : State) (p pt : Nat) (t : Tlp) : State :=
  if t.kind = .cfg ∧ s.ptInReset pt ∧ !s.portHeld p ∧ s.role p = ROLE.UPSTREAM then
    s.answer pt t.rid t.tag t.cls .crs [] (s.origin pt noFn 0 0) .synthetic
  else s.portCount p PC.DROPS 1

/-- A TLP header reaches an ingress port (R24): it binds its forwarding epoch, is routed, and is admitted or cut through, held,
or refused. Nothing of a held port or partition is delivered (R32). -/
def execTlpReceive (p : Fin 256) (t : Tlp) (credit : Bool) (err : Option PcieErr) (s : State) : Host.Outcome State Fault Refusal :=
  let p := p.val
  let pt := s.portPt p
  if !s.pciePort p then .next s
  else if s.arrivesShut p pt t then .next (s.shutCfg p pt t)
  else if s.flt.stopped then .next s
  else
    let s := match err with | some e => s.pcieError p pt e | none => s
    if losesTlp err then .next s
    else
      let s := ((s.portCount p PC.RX_PKTS 1).portCount p PC.RX_BYTES t.len).endPending p t
      if t.kind = .cpl then
        let (pt', rid, tag, s) := s.peerRestore pt t.dest t.tag t.status t.count
        if pt' ≠ pt then
          match s.routeById pt' rid with
          | .port q =>
            let t := { t with dest := rid, rid := rid, tag := tag }
            let (pk, s) := s.newPkt .clear (.tlp t) t.len (s.origin pt noFn 0 0) p t.cls.val pt'
            .next (s.offer pk (coqOfPort q t.cls.val) credit)
          | _ => .next s
        else .next (s.placeTlp p pt t credit)
      else .next (s.placeTlp p pt t credit)

/-- Remove a hold. -/
def State.unhold (s : State) (h : Hold) : State :=
  { s with cru := { s.cru with holds := s.cru.holds.filter (fun x => x.pkt.id != h.pkt.id) } }

/-- Replace a hold of the same packet. -/
def State.setHold (s : State) (h : Hold) : State :=
  { s with cru := { s.cru with holds := s.cru.holds.map (fun x => if x.pkt.id = h.pkt.id then h else x) } }

/-- A hold meets a refusal: its age counts from the first (R46). -/
def State.refuseHold (s : State) (h : Hold) : State :=
  let s := if h.refused then s
    else (s.bump (R.CRU_COQDROP h.pkt.coq) F.CRU_COQDROP_HOLD_EVENTS 1).setHold { h with refused := true, since := s.now }
  s.countRefusal h.pkt.origin

/-- A held request makes the crossing it waits for, if a peer tag is free (R226). -/
def State.crossHold (s : State) (h : Hold) : Option (Hold × State) :=
  match h.peer, h.pkt.body with
  | some (dpt, addr, rid), .tlp t =>
    (s.takePeerTag dpt rid h.pkt.pt t).map (fun e =>
      let h := { h with peer := none, pkt := { h.pkt with pt := dpt, body := .tlp { t with addr := addr, rid := rid, tag := e.1 } } }
      (h, e.2.setHold h))
  | _, _ => some (h, s)

/-- The head hold of a receive buffer retries its admission (R45, R47). -/
def State.retryHold (s : State) (h : Hold) : State :=
  if s.destShut h.pkt h.pkt.coq h.dpt then (s.unhold h).refuseHeld h.pkt h.pkt.coq
  else match s.crossHold h with
    | none => s.refuseHold h
    | some (h, s) =>
      match (s.unhold h).admitPkt h.pkt h.pkt.coq with
      | some s => s.afterStore h.pkt h.pkt.coq
      | none => if s.dropMode h.pkt.coq then (s.unhold h).refuseDrop h.pkt h.pkt.coq else s.refuseHold h

/-- The oldest hold of a receive buffer. -/
def State.headHold (s : State) (p c : Nat) : Option Hold := s.cru.holds.find? (fun h => h.port == p && h.cls == c)

/-- One waiter retries its admission (R45, R73). -/
def State.retryWaiter (s : State) (w : Waiter) : State :=
  match w with
  | .port p c =>
    match s.headHold p.val c.val with
    | some h => s.retryHold h
    | none => match s.headTrain p.val c.val with
      | some t => s.retryTrain t
      | none => s
  | .endpoint c =>
    match s.cru.epHeld.find? (fun x => x.coq % 8 == c.val) with
    | none => s
    | some x =>
      let s' := { s with cru := { s.cru with epHeld := s.cru.epHeld.filter (fun y => y.id != x.id) } }
      match s'.admitPkt x x.coq with
      | some s => s
      | none => s.countRefusal x.origin
  | .delivery d =>
    match s.del d with
    | none => s
    | some x => s.pushWrites d x.toAdmit.length

/-- A receive buffer, or a class of the endpoint port, has something that waits. -/
def State.portWaits (s : State) (p c : Nat) : Bool :=
  (s.headHold p c).isSome || (match s.headTrain p c with | some t => t.mode == .held | none => false)
def State.endpointWaits (s : State) (c : Nat) : Bool := s.cru.epHeld.any (fun x => x.coq % 8 == c)

/-- What waits for admission, in the order of this beat: the tiles, one further on each beat, then the endpoint port, then the delivery
engines, one further on each beat (R43). Within a tile the port and then the class decides (log entry 108). -/
def State.waiters (s : State) : List Waiter :=
  let ports := ((List.range 256).map (fun k => (s.now % 16 * 16 + k) % 256)).flatMap (fun p =>
    ((List.range 8).filter (s.portWaits p)).map (fun c => Waiter.port (Fin.ofNat 256 p) (Fin.ofNat 8 c)))
  let eps := ((List.range 8).filter s.endpointWaits).map (fun c => Waiter.endpoint (Fin.ofNat 8 c))
  let ds := s.que.dels.filter (fun d => !d.toAdmit.isEmpty)
  let del (k : Nat) : List Waiter := (ds.filter (fun d => (d.eng + 512 - s.now % 512) % 512 == k)).map (fun d => Waiter.delivery d.id)
  ports ++ eps ++ (if ds.isEmpty then [] else (List.range 512).flatMap del)

/-- The waiters of this beat up to `w`: none when nothing waits there. -/
def State.waitersUpTo (s : State) (w : Waiter) : List Waiter :=
  if s.waiters.contains w then s.waiters.takeWhile (· != w) ++ [w] else []

/-- What waits for admission retries it: in each beat those before `w` in its order are decided first (R43, R45). -/
def execAdmissionRetry (w : Waiter) (s : State) : Host.Outcome State Fault Refusal := .next ((s.waitersUpTo w).foldl State.retryWaiter s)

/-- A hold ends by its age: the held TLP is dropped and counted, a non-posted request receives Completer Abort, and HOLD_TIMEOUT is logged
with the COQ and the origin tag (R46). -/
def State.timeoutHold (s : State) (h : Hold) : State :=
  (((s.unhold h).countDrop h.pkt.coq h.port).abortIfNonPosted h.pkt).report FC.HOLD_TIMEOUT UK.port h.port h.pkt.origin h.pkt.coq 0

/-- A hold reaches HOLD_TO: the held TLP or train is dropped and counted, a non-posted request receives Completer Abort, and
HOLD_TIMEOUT is logged (R46). A HOLD_TO of zero disables the limit. -/
def execHoldTimeout (p : Fin 256) (c : Fin 8) (s : State) : Host.Outcome State Fault Refusal :=
  if s.get R.CRU_HOLDTO F.CRU_HOLDTO_HOLD_TO = 0 then .next s
  else match s.headHold p.val c.val with
    | some h => .next (if h.refused then s.timeoutHold h else s)
    | none => .next (match s.headTrain p.val c.val with | some t => s.trainTimeout t | none => s)

/-- HOLD_TO has been lowered: every hold that is older than it ends at once (R46). -/
def State.endOldHolds (s : State) : State :=
  let lim := s.get R.CRU_HOLDTO F.CRU_HOLDTO_HOLD_TO * 1024
  if lim = 0 then s
  else
    let s := (s.cru.holds.filter (fun h => h.refused && decide (h.since + lim ≤ s.now))).foldl State.timeoutHold s
    (s.can.rx.filter (fun t => t.refused && decide (t.since + lim ≤ s.now))).foldl State.trainTimeout s

/-- A packet in transmission ends as nullified at its port; its cells are freed (R49, R56). -/
def State.nullify (s : State) (port : Nat) (x : Pkt) : State :=
  ((s.emit (.nullified port x.id)).portCount port PC.NULLIFIED 1).releasePkt x

/-- A TLP that is cutting through fails at ingress: its transmission ends nullified and its cells are freed (R49). -/
def execCutThroughAbort (p : Fin 256) (c : Fin 8) (s : State) : Host.Outcome State Fault Refusal :=
  let isIt (x : Pkt) : Bool := x.cutting && x.inPort == p.val && x.inCls == c.val
  match s.cru.unacked.find? (fun e => e.2.any isIt) with
  | none => .next s
  | some e =>
    match e.2.find? isIt with
    | none => .next s
    | some x => .next ((s.setUnacked e.1 (e.2.filter (fun y => y.id != x.id))).nullify e.1 x)

/-! ### Egress (R229, R230) -/

/-- The clock of the port's tile is gated (R393). -/
def State.tileGated (s : State) (p : Nat) : Bool := decide (p < 256) && !bitOf (s.get R.EMB_CLKSTAT F.EMB_CLKSTAT_TILE_RUN) (p / 16)

/-- A packet leaves port `p` as PCI Express: its role in the forwarding bank the packet bound (R28), or the endpoint port. -/
def State.leavesPcie (s : State) (p : Nat) (x : Pkt) : Bool := decide (256 ≤ p) || (pcieRole (s.roleAt x.epoch p) && x.role != .train)

/-- A port moves the head packet of one class COQ into its staging, round robin from the class after the one last moved; the
endpoint port is port 256 (R229). In a gated tile packets wait (R393). -/
def execEgressStage (p : Fin 257) (room : BitVec 8) (s : State) : Host.Outcome State Fault Refusal :=
  let p := p.val
  if s.tileGated p then .next s
  else
    let start := SMap.get s.cru.lastStage 0 p
    let ready (c : Nat) : Bool := match (s.coq (coqOfPort p c)).head? with
      | some x => bitOf room.toNat c && s.leavesPcie p x
      | none => false
    match ((List.range 8).map (fun k => (start + k) % 8)).find? ready with
    | none => .next s
    | some c =>
      match s.coq (coqOfPort p c) with
      | [] => .next s
      | x :: rest =>
        let s := (s.setCoq (coqOfPort p c) rest).setStaged p c (s.staged p c ++ [x])
        .next { s with cru := { s.cru with lastStage := SMap.set s.cru.lastStage 0 p (c + 1) } }

/-- Transaction type of a packet. -/
def Pkt.ptype (x : Pkt) : PType := match x.body with | .tlp t => ptypeOf t | .par _ => .posted

/-- The staged packet of a class that may go: the head if its type has credit; past stalled non-posted requests, the first later posted
request or completion, if it has credit. Nothing passes a stalled posted request or completion (R229). -/
def sendable (l : List Pkt) (lacks : PType → Bool) : Option Pkt :=
  match l with
  | [] => none
  | x :: t =>
    if !lacks x.ptype then some x
    else if x.ptype = .nonPosted then ((t.dropWhile (fun y => y.ptype == .nonPosted)).head?).filter (fun y => !lacks y.ptype)
    else none

/-- Deficit rounds of R230: add the weights until some class of G has a positive deficit. -/
def refillDeficits (w : Nat → Nat) : Nat → List (Nat × Int) → List (Nat × Int)
  | 0, l => l
  | fuel + 1, l =>
    if l.any (fun e => decide (0 < e.2)) then l
    else refillDeficits w fuel (l.map (fun e => (e.1, min (e.2 + 256 * (max (w e.1) 1 : Nat)) (256 * (max (w e.1) 1 : Nat)))))

/-- STRICT and WEIGHT of a port; the endpoint port has no card and acts by the reset values (log entry 7). -/
def State.strict (s : State) (p c : Nat) : Bool := bitOf (if p < 256 then s.get (R.PRT_ARB p) F.PRT_ARB_STRICT else 0x80) c
def State.weight (s : State) (p c : Nat) : Nat := if p < 256 then fieldOf (s.rd (R.PRT_ARB p)) (7 * c) 7 else 1

/-- The class the transmitter chooses among those with a sendable packet of so many bytes, and the state with deficits and pointer
moved on (R230). -/
def State.pickClass (s : State) (p : Nat) (cand : List (Nat × Nat)) : Option Nat × State :=
  let idle := (List.range 8).filter (fun c => !cand.any (fun e => e.1 == c))
  let s := idle.foldl (fun s c =>
    { s with cru := { s.cru with deficit := SMap.set s.cru.deficit 0 (8 * p + c) (min (SMap.get s.cru.deficit 0 (8 * p + c)) 0) } }) s
  match [7, 6, 5, 4, 3, 2, 1, 0].find? (fun c => s.strict p c && cand.any (fun e => e.1 == c)) with
  | some c => (some c, s)
  | none =>
    let g := (cand.filter (fun e => !s.strict p e.1)).map (fun e => (e.1, SMap.get s.cru.deficit 0 (8 * p + e.1)))
    let g := refillDeficits (s.weight p) 512 g
    let s := g.foldl (fun s e => { s with cru := { s.cru with deficit := SMap.set s.cru.deficit 0 (8 * p + e.1) e.2 } }) s
    let ptr := SMap.get s.cru.arbPtr 0 p
    match ((List.range 8).map (fun k => (ptr + k) % 8)).find? (fun c => g.any (fun e => e.1 == c && decide (0 < e.2))) with
    | none => (none, s)
    | some c =>
      let bytes := ((cand.find? (fun e => e.1 == c)).map (·.2)).getD 0
      let s := { s with cru := { s.cru with
        arbPtr := SMap.set s.cru.arbPtr 0 p ((c + 1) % 8),
        deficit := SMap.set s.cru.deficit 0 (8 * p + c) (SMap.get s.cru.deficit 0 (8 * p + c) - bytes) } }
      (some c, s)

/-! ### Cell errors (R56) -/

/-- Log a cell error in CRU_ECCLOG, or set OVF. -/
def State.cellLog (s : State) (v : Nat) : State :=
  if s.bit R.CRU_ECCLOG F.CRU_ECCLOG_VALID then s.setBit R.CRU_ECCLOG F.CRU_ECCLOG_OVF
  else s.wr R.CRU_ECCLOG (v + 2 ^ 28 + s.get R.CRU_ECCLOG F.CRU_ECCLOG_OVF * 2 ^ 29)

/-- The decoder's weight for a log: 1, 2 or 3. -/
def Decoded.weight : Decoded → Nat
  | .clean => 0
  | .corr1 => 1
  | .corr2 => 2
  | _ => 3

/-- Decode the wrong words of one cell: counted each, the highest weight logged, retirement noted; the result is the word that was
uncorrectable (R56, R57). -/
def State.readCell (s : State) (cell : Nat) (errs : List (Nat × Nat)) : Option Nat × State :=
  let (ds, s) := errs.foldl (fun (acc : List (Nat × Decoded) × State) e =>
    let (d, s) := acc.2.decodeWeight e.2
    let s := if 4 ≤ e.2 ∧ d.ok then
        let (v, s) := s.free
        s.storeWord (MB.cell + 256 * cell + 8 * e.1) (v % 2 ^ 64) 8
      else s
    let s := match d with
      | .corr1 => s.bump R.CRU_ECCSTAT F.CRU_ECCSTAT_CE1 1
      | .corr2 => s.bump R.CRU_ECCSTAT F.CRU_ECCSTAT_CE2 1
      | .ue => s.bump R.CRU_ECCSTAT F.CRU_ECCSTAT_UE 1
      | _ => s
    (acc.1 ++ [(e.1, d)], s)) ([], s)
  let worst := ds.foldl (fun w e => max w e.2.weight) 0
  match (ds.filter (fun e => e.2.weight == worst)).foldl (fun (m : Option Nat) e => some (match m with | some x => min x e.1 | none => e.1)) none with
  | none => (none, s)
  | some w =>
    let s := if worst = 0 then s else s.cellLog (cell + w * 2 ^ 20 + worst * 2 ^ 25)
    let mark (s : State) : State := if s.cru.due.contains cell then s else { s with cru := { s.cru with due := cell :: s.cru.due } }
    let s := if ds.any (fun e => e.2 == .corr2) && s.bit R.CRU_RETCFG F.CRU_RETCFG_RET_EN then mark s else s
    if worst = 3 then
      let s := if s.bit R.CRU_RETCFG F.CRU_RETCFG_RET_UE then mark s else s
      (some w, s.report FC.CELL_UE UK.module 0 0 w cell)
    else (none, s)

/-- How the reads of a packet's cells end: all usable, at a gob with an uncorrectable word, or at one whose link entry is uncorrectable. -/
inductive CellEnd where
  | good
  | bad (g : Nat)
  | link (g : Nat)
  deriving DecidableEq, Repr

/-- Read the cells of a packet one by one, as their gobs are sent (R56). -/
def State.readCells (s : State) (errs : List CellErr) : Nat → List Nat → CellEnd × State
  | _, [] => (.good, s)
  | g, c :: cs =>
    let here := errs.filterMap (fun e => match e with | .data k w b => if k = g then some (w.val, b) else none | _ => none)
    let (bad, s) := s.readCell c here
    match bad with
    | some _ => (.bad g, s)
    | none => if errs.contains (.link g) then (.link g, s) else s.readCells errs (g + 1) cs

/-- An error in the link memory or a packet record: device-fatal CELL_LINK_UE, logged and counted as uncorrectable (R56). -/
def State.linkError (s : State) (x : Pkt) (e : CellErr) : State :=
  match e with
  | .link g =>
    let c := x.cells.getD g 0
    ((s.bump R.CRU_ECCSTAT F.CRU_ECCSTAT_UE 1).cellLog (c + 3 * 2 ^ 25 + 2 ^ 27)).report FC.CELL_LINK_UE UK.module 0 x.origin 0 c
  | .record =>
    let r := x.recNo
    ((s.bump R.CRU_ECCSTAT F.CRU_ECCSTAT_UE 1).cellLog (r + 3 * 2 ^ 25 + 2 ^ 27 + 2 ^ 30)).report FC.CELL_LINK_UE UK.module 0 x.origin 1 r
  | .data _ _ _ => s

/-- Data bytes as the cells now hold them. -/
def State.cellData (s : State) : List Nat → Nat → List Byte
  | [], _ => []
  | c :: cs, n => s.bytes (MB.cell + 256 * c) (min n 256) ++ s.cellData cs (n - 256)

/-- Data of a packet as its cells now hold it, behind the bytes that lie in none (R53). -/
def State.pktData (s : State) (x : Pkt) (bs : List Byte) : List Byte := bs.take x.pre ++ s.cellData x.cells (bs.length - x.pre)

/-- A TLP leaves port `p` good: sent and counted (R382). -/
def State.sendTlp (s : State) (p : Nat) (t : Tlp) : State :=
  ((s.portCount p PC.TX_PKTS 1).portCount p PC.TX_BYTES t.len).emit (.tlp p t)

/-- Max_Payload_Size of a port, from its bridge (R54). -/
def State.portMps (s : State) (p : Nat) : Nat := sizeCode (s.bridge (s.bridgeKey p (s.portPt p))).mps

/-- Where a write of a mirror copy goes by the routing of its destination port's partition (R54, R224, R225). -/
def State.copyRoute (s : State) (p a : Nat) : Route :=
  let pt := s.portPt p
  if (s.bridge (upKey pt)).hit a then (s.downward pt a).getD .ur
  else if (s.bridge (upKey pt)).bme then s.peerOr pt a (s.toHost pt)
  else .ur

/-- One write of a mirror copy of port `p`: sent by the port, or taken by the crucible toward where its partition routes it (R54). -/
def State.copyWrite (s : State) (p origin : Nat) (t : Tlp) : State :=
  let pt := s.portPt p
  let pass (s : State) (q : Nat) : State :=
    let (pk, s) := s.newPkt .clear (.tlp t) t.len origin p 0 pt
    s.offer pk q false
  match s.copyRoute p t.addr with
  | .port q => if q = p then s.sendTlp p t else pass s (coqOfPort q 0)
  | .endpoint => pass s (coqEndpoint 0)
  | .peer dpt a => s.crossPeer p pt dpt a t false origin
  | _ => s.portCount p PC.DROPS 1

/-- The writes of a mirror copy: no larger than the port's Max_Payload_Size, none across a 4 KiB boundary (R54). -/
def State.sendCopy (s : State) (p : Nat) (x : Pkt) (t : Tlp) : State :=
  let bs := s.pktData x t.data
  (splitWrites (bs.length + 1) t.addr (2 ^ 64) 0 bs (s.portMps p)).foldl (fun s e =>
    s.copyWrite p x.origin { t with addr := e.1, len := hdrMem + e.2.length, count := e.2.length, data := e.2 }) s

/-- A packet leaves a port good (R38, R382): sent, counted, kept for replay; a non-posted request is then pending (R32). -/
def State.sendGood (s : State) (p : Nat) (x : Pkt) : State :=
  let s := match x.body, x.role with
    | .par _, _ => (s.portCount p PC.TX_PKTS 1).portCount p PC.TX_BYTES x.bytes
    | .tlp t, .mirror _ => s.sendCopy p x t
    | .tlp t, r =>
      let t := { t with data := s.pktData x t.data }
      if p = 256 then ((s.portCount p PC.TX_PKTS 1).portCount p PC.TX_BYTES x.bytes).emit (.toEndpoint t x.origin)
      else
        let s := s.sendTlp p t
        if nonPosted t && decide (r = Role.clear) then
          let e : Pending := ⟨p, x.pt, t.rid, t.tag, t.cls.val, x.origin, owed t, t.kind == TlpKind.cfg⟩
          { s with prt := { s.prt with pend := s.prt.pend ++ [e] } }
        else s
  s.setUnacked p (s.unacked p ++ [x])

/-- Some packet of delivery `d` is still in the crucible, or still to come. -/
def State.deliveryInCrucible (s : State) (d : Nat) : Bool :=
  let isIt (x : Pkt) : Bool := match x.role with | .payload k => k == d | _ => false
  s.cru.coqs.any (fun e => e.2.any isIt) || s.cru.staged.any (fun e => e.2.any isIt) || s.cru.unacked.any (fun e => e.2.any isIt) ||
  (match s.del d with | some x => x.phase == .reading || !x.toAdmit.isEmpty | none => false)

/-- The port node receives the gobs of a delivery back when its cells have left their COQ (R98). -/
def State.creditReturn (s : State) (d : Nat) : State :=
  if s.deliveryInCrucible d then s
  else match s.que.credits.find? (fun e => e.1 == d) with
    | none => s
    | some (_, n, g) =>
      let s := { s with que := { s.que with credits := s.que.credits.filter (fun e => e.1 != d) } }
      s.put (R.SCH_PORTCR n) F.SCH_PORTCR_CR (s.get (R.SCH_PORTCR n) F.SCH_PORTCR_CR + g)

/-- What a released packet gives back beside its cells (R98). -/
def State.afterRelease (s : State) (x : Pkt) : State :=
  match x.role with
  | .payload d => s.creditReturn d
  | .header d => s.creditReturn d
  | _ => s

/-- Transmission of a packet starts: its egress copy is made (R51). -/
def State.startTx (s : State) (p : Nat) (x : Pkt) : Pkt × State := if p < 256 then s.mirrorEgress x p else (x, s)

/-- A packet is lost at egress to an uncorrectable cell: a clear-path non-posted request is answered, the path that owns it learns of it
(R56, R98). -/
def State.lostTx (s : State) (x : Pkt) : State :=
  let s := if x.role = Role.clear then s.abortIfNonPosted x else s
  (s.onLost x).afterRelease x

/-- Transmit one packet, with what the reads of its record and of its cells, one by one, find (R56). -/
def State.transmit (s : State) (p : Nat) (x : Pkt) (errs : List CellErr) : State :=
  if errs.contains .record then s.linkError x .record
  else match (s.queueReads p s.now x.cells).readCells errs 0 x.cells with
    | (.link g, s) => (s.startTx p x).2.linkError x (.link g)
    | (.bad g, s) =>
      if g = 0 then (s.releasePkt x).lostTx x
      else
        let (x, s) := s.startTx p x
        (s.nullify p x).lostTx x
    | (.good, s) =>
      let (x, s) := s.startTx p x
      (s.sendGood p x).onSent x

/-- The skim session served by port `p` when no class has a packet to send: of several, the lowest (R39; DESIGN CHOICE, log entry 107). -/
def State.skimReady (s : State) (p : Nat) : Option Nat :=
  (List.range 4).find? (fun k => s.getAct (R.CRU_MIRSESS k) F.CRU_MIRSESS_DPORT == p && !(s.coq (coqSkim k)).isEmpty)

/-- A transmitter chooses a class and sends a staged packet; a skim COQ goes only when no class has a packet it could send, and with credit
for a posted request of class 0 (R39, R230). -/
def execEgressTransmit (p : Fin 257) (lack : List (Fin 8 × PType)) (errs : List CellErr) (s : State) :
    Host.Outcome State Fault Refusal :=
  let p := p.val
  let lacks (c : Nat) (ty : PType) : Bool := lack.any (fun e => e.1.val == c && e.2 == ty)
  if p < 256 ∧ !s.bit (R.PRT_STATUS p) F.PRT_STATUS_LINK_UP ∨ s.tileGated p then .next s
  else
    let cand := (List.range 8).filterMap (fun c =>
      ((sendable (s.staged p c) (lacks c)).filter (s.leavesPcie p)).map (fun x => (c, x)))
    match s.pickClass p (cand.map (fun e => (e.1, e.2.bytes))) with
    | (some c, s) =>
      match cand.find? (fun e => e.1 == c) with
      | none => .next s
      | some (_, x) => .next ((s.setStaged p c ((s.staged p c).filter (fun y => y.id != x.id))).transmit p x errs)
    | (none, s) =>
      if lacks 0 .posted || !pcieRole (s.role p) then .next s
      else match s.skimReady p with
        | none => .next s
        | some k =>
          match s.coq (coqSkim k) with
          | [] => .next s
          | x :: rest => .next ((s.setCoq (coqSkim k) rest).transmit p x errs)

/-- The egress link layer acknowledges the oldest packet of a port: references fall, free cells return, credit is returned; a TLP
that cut through has now been received and sent good (R38, R48, R51, R98). -/
def execLinkAck (p : Fin 257) (s : State) : Host.Outcome State Fault Refusal :=
  let p := p.val
  match s.unacked p with
  | [] => .next s
  | x :: rest =>
    let s := s.setUnacked p rest
    let (x, s) := if x.cutting then
        let (x, s) := s.mirrorIngress x x.inPort
        let s := s.sendGood p x
        (x, s.setUnacked p rest)
      else (x, s)
    .next ((s.releasePkt x).afterRelease x)

end Sys2Proof.Machine
end

