-- ==== Sys2Proof/Machine/CaneOps.lean ====
section
/-!
DEFINITION. The two ends of a cane link's data layer: frames and their check (R283, R284), credit limits (R289), the cullet store
(R287), link messages (R292), and what a link that goes down stops (R298).
-/
namespace Sys2Proof.Machine

/-! ### Sequence numbers, buffer and store sizes -/

def seqMod : Nat := 2 ^ 32

/-- `a` comes before `b` (R288). -/
def seqBefore (a b : Nat) : Bool :=
  let d := (b + seqMod - a) % seqMod
  d != 0 && decide (d < 2 ^ 31)

def State.txNext (s : State) (p : Nat) : Nat := s.get (R.CAN_TXSEQ p) F.CAN_TXSEQ_TX_NEXT
def State.txAcked (s : State) (p : Nat) : Nat := s.get (R.CAN_TXSEQ p) F.CAN_TXSEQ_TX_ACKED
def State.rxExpect (s : State) (p : Nat) : Nat := s.get (R.CAN_RXSEQ p) F.CAN_RXSEQ_RX_EXPECT

/-- Entries of the cullet store: 128 per lane of configured width (R287). -/
def State.culletSize (s : State) (p : Nat) : Nat := 128 * s.confWidth p

/-- A new DATA or LMSG frame may be sent. -/
def State.culletRoom (s : State) (p : Nat) : Bool := decide ((s.txNext p + seqMod - s.txAcked p) % seqMod < s.culletSize p)

/-- Receive buffer of a port in gobs, and the share of a priority (R289, R291). -/
def State.rxBuffer (s : State) (p : Nat) : Nat := 256 * s.confWidth p
def State.rxShare (s : State) (p c : Nat) : Nat :=
  let v := s.get (R.CAN_CRDCFG p c) F.CAN_CRDCFG_INIT
  if v = 0 then s.rxBuffer p / 8 else v

/-- The shares satisfy R291. -/
def State.creditOk (s : State) (p : Nat) : Bool :=
  (List.range 8).all (fun c => decide (16 ≤ s.rxShare p c)) &&
  decide (((List.range 8).map (s.rxShare p)).sum ≤ s.rxBuffer p)

/-- L_c of this end's receiver (R289). -/
def State.rxLimit (s : State) (p c : Nat) : Nat := (s.rxShare p c + s.get (R.CAN_CRDSTAT p c) F.CAN_CRDSTAT_RX_RET) % 2 ^ 20

/-- Free credit of a priority at this end's transmitter (R289). -/
def State.txCredit (s : State) (p c : Nat) : Nat :=
  (s.get (R.CAN_CRDSTAT p c) F.CAN_CRDSTAT_TX_LIM + 2 ^ 20 - s.get (R.CAN_CRDSTAT p c) F.CAN_CRDSTAT_TX_SENT) % 2 ^ 20

/-! ### Frames (R283, R284) -/

def FT.IDLE : Nat := 0
def FT.DATA : Nat := 1
def FT.LMSG : Nat := 2
def FT.REPLAY : Nat := 3

/-- Frame bytes padded or cut to `n`. -/
def padTo (n : Nat) (bs : List Byte) : List Byte := bs.take n ++ List.replicate (n - bs.length) 0

/-- CRC of a frame under a sequence number (R284). -/
def frameCrc (seq : Nat) (f : List Byte) : Nat := crc32 (leBytes seq 4 ++ f.take 268)

/-- Fields of a DATA frame's header. -/
structure GobHdr where
  pri : Nat
  sop : Bool
  eop : Bool
  bad : Bool
  vlen : Nat
  deriving DecidableEq, Repr

/-- Header of a frame that is no DATA frame. -/
def plainHdr : GobHdr := ⟨0, false, false, false, 255⟩

/-- The 272 bytes of a frame: header, payload, CRC (R283, R284). -/
def frameBytes (type : Nat) (h : GobHdr) (nak hold : Bool) (crdPri crdLim ack seq : Nat) (payload : List Byte) : List Byte :=
  let w0 := type % 16 + h.pri % 8 * 2 ^ 4 + bit01 h.sop * 2 ^ 7 + bit01 h.eop * 2 ^ 8 + bit01 h.bad * 2 ^ 9 + h.vlen % 256 * 2 ^ 10
    + bit01 nak * 2 ^ 18 + bit01 hold * 2 ^ 19 + crdPri % 8 * 2 ^ 20 + crdLim % 2 ^ 20 * 2 ^ 23
  let f := leBytes w0 8 ++ leBytes ack 4 ++ padTo 256 payload
  f ++ leBytes (frameCrc seq f) 4

/-- Send one frame: its header carries ACK, NAK, HOLD and the limit of the next priority in turn (R288, R289). -/
def State.sendFrame (s : State) (p type : Nat) (h : GobHdr) (seq : Nat) (payload : List Byte) : State :=
  let c := s.cane p
  let lim := s.rxLimit p c.crdPri
  let e := s.rxExpect p
  let f := frameBytes type h (s.bit (R.CAN_STATUS p) F.CAN_STATUS_REPLAY_WAIT) (s.bit (R.CAN_STATUS p) F.CAN_STATUS_RX_HOLD)
    c.crdPri lim e seq payload
  let s := s.setCane p { c with crdPri := (c.crdPri + 1) % 8, sentAck := e, sentLim := SMap.set c.sentLim 0 c.crdPri (lim + 1) }
  s.emit (.frame p (f.map (·.toNat)))

/-- Fields of a received frame. -/
def frWord0 (f : List Byte) : Nat := leValue ((f.take 8).map (·.toNat))
def frAck (f : List Byte) : Nat := leValue (((f.drop 8).take 4).map (·.toNat))
def frCrc (f : List Byte) : Nat := leValue (((f.drop 268).take 4).map (·.toNat))
def frPayload (f : List Byte) : List Byte := (f.drop 12).take 256
def frType (f : List Byte) : Nat := frWord0 f % 16
/-- Start sequence of a REPLAY frame. -/
def frStart (f : List Byte) : Nat := leValue (((frPayload f).take 4).map (·.toNat))
/-- Word 0 of the payload: the message of an LMSG frame (R292). -/
def frMsg (f : List Byte) : Nat := leValue (((frPayload f).take 8).map (·.toNat))

/-- The frame is good under a number; a reserved type fails (R283, R284). -/
def crcOk (f : List Byte) (seq : Nat) : Bool := decide (frType f ≤ 3) && frameCrc seq f == frCrc f

/-! ### Link messages (R292) -/

def LM.RETRAIN_REQ : Nat := 1
def LM.RETRAIN_ACK : Nat := 2
def LM.SUB_REQ : Nat := 3
def LM.SUB_DONE : Nat := 4
def LM.SUB_END : Nat := 5
def LM.STANDBY : Nat := 6
def LM.DOWN : Nat := 7

/-- A message word. -/
def lmWord (code width rate : Nat) (eq : Bool) (lane cause seq : Nat) : Nat :=
  code + width % 32 * 2 ^ 8 + rate % 4 * 2 ^ 13 + bit01 eq * 2 ^ 15 + lane % 16 * 2 ^ 16 + cause % 16 * 2 ^ 20 + seq % 2 ^ 32 * 2 ^ 32
def lmCode (m : Nat) : Nat := m % 256
def lmWidth (m : Nat) : Nat := fieldOf m 8 5
/-- Rate code of a message; 3 is taken as 2 (R281). -/
def lmRate (m : Nat) : Nat := min 2 (fieldOf m 13 2)
def lmEq (m : Nat) : Bool := bitOf m 15
def lmLane (m : Nat) : Nat := fieldOf m 16 4

/-- A message waits to be sent. -/
def State.postMsg (s : State) (p m : Nat) : State :=
  let c := s.cane p
  s.setCane p { c with outbox := c.outbox ++ [m] }

/-- A message of this code is still to be sent, or sent and not yet acknowledged. -/
def Cane.unsettled (c : Cane) (code : Nat) : Bool :=
  c.outbox.any (fun m => lmCode m == code) ||
  c.cullets.any (fun e => match e.lmsg with | some m => lmCode m == code | none => false)

/-- This end's SUB_REQ of a lane is still to be sent, or sent and not yet acknowledged (R293). -/
def Cane.subUnsettled (c : Cane) (code lane : Nat) : Bool :=
  c.outbox.any (fun m => lmCode m == code && lmLane m == lane) ||
  c.cullets.any (fun e => match e.lmsg with | some m => lmCode m == code && lmLane m == lane | none => false)

/-- Send a message in a frame of its own number, and keep it in the cullet store (R287). -/
def State.sendLmsg (s : State) (p m : Nat) : State :=
  let n := s.txNext p
  let s := s.sendFrame p FT.LMSG plainHdr n (leBytes m 8)
  let c := s.cane p
  let s := s.setCane p { c with cullets := c.cullets ++ [⟨n, some m, 0, false, false, false, 255, none, 0⟩] }
  s.put (R.CAN_TXSEQ p) F.CAN_TXSEQ_TX_NEXT (n + 1)

/-! ### Cullet store (R38, R287) -/

/-- A cell of a packet in transmission is freed. -/
def State.freeSent (s : State) (x : Pkt) (cell : Nat) : State := (s.setOcc x.coq (s.occ x.coq - 1)).unref cell

/-- A packet in transmission ends: what is left of its charge and its record are released (R38). -/
def State.releaseLive (s : State) (x : Pkt) : State :=
  let s := s.setOcc x.coq (s.occ x.coq - x.cells.length)
  let s := { s with cru := { s.cru with recs := s.cru.recs - 1, recNos := s.cru.recNos.filter (· != x.recNo) } }
  x.cells.foldl State.unref s

/-- An entry of the cullet store is acknowledged: its cell is freed, and with its last gob the packet's record (R38, R287). -/
def State.releaseCullet (s : State) (p : Nat) (e : Cullet) : State :=
  match (s.cane p).live.find? (fun x => x.id == e.pktId && e.lmsg.isNone) with
  | none => s
  | some x =>
    let (x, s) := match e.cell with
      | some k => ({ x with cells := x.cells.erase k }, s.freeSent x k)
      | none => (x, s)
    let c := s.cane p
    if e.eop then (s.setCane p { c with live := c.live.filter (fun y => y.id != x.id) }).releaseLive x
    else s.setCane p { c with live := c.live.map (fun y => if y.id = x.id then x else y) }

/-- Every entry and every packet in transmission is dropped; the result names the packets (R298). -/
def State.dropCullets (s : State) (p : Nat) : State × List Pkt :=
  let c := s.cane p
  let s := s.setCane p { c with cullets := [], live := [], tx := [], replay := none }
  (c.live.foldl State.releaseLive s, c.live)

/-! ### Re-trim runs -/

/-- States of LNE_RETRIMSTAT (R276). -/
def RT.SPARE_UP : Nat := 1
def RT.SPARE_ADAPT : Nat := 2
def RT.SPARE_CHECK : Nat := 3
def RT.LANE_ADAPT : Nat := 4
def RT.LANE_CHECK : Nat := 5
def RT.DONE : Nat := 6
def RT.SPARE_BAD : Nat := 7
def RT.LANE_FAILED : Nat := 8
def RT.ABORTED : Nat := 9

def State.retrim (s : State) (n : Nat) : Nat := s.get (R.LNE_RETRIMSTAT n) F.LNE_RETRIMSTAT_STATE
def State.setRetrim (s : State) (n v : Nat) : State := s.put (R.LNE_RETRIMSTAT n) F.LNE_RETRIMSTAT_STATE v
/-- A run is in progress on the octet. -/
def State.retrimRuns (s : State) (n : Nat) : Bool := decide (1 ≤ s.retrim n) && decide (s.retrim n ≤ 5)

/-- The error slicer of a lane (R279). -/
def State.slicer (s : State) (l : Nat) : Nat := SMap.get s.lnk.slicer 0 l
def State.setSlicer (s : State) (l v : Nat) : State := { s with lnk := { s.lnk with slicer := SMap.set s.lnk.slicer 0 l v } }

/-- The lane a running check of octet `n` margins: its spare, or the lane under re-trim (R277). -/
def State.checkLane (s : State) (n : Nat) : Option Nat :=
  if s.retrim n = RT.SPARE_CHECK then some (9 * n + 8)
  else if s.retrim n = RT.LANE_CHECK then
    match s.laneOwner (9 * n + 8) with
    | none => none
    | some p => s.physLane p (s.logicalOf p n (s.get (R.LNE_RETRIMSTAT n) F.LNE_RETRIMSTAT_LANE))
  else none

/-- The receive direction of a spare that carries no lane and takes part in no exchange rests (R271). -/
def State.restIdle (s : State) (n : Nat) : State :=
  let open' := match s.laneOwner (9 * n + 8) with | some p => (s.cane p).subRx.any (fun r => r.octet == n) | none => false
  if s.rxSub n = 0xF ∧ open' = false then s.restSpare n false else s

/-- A run of octet `n` ends in a state: its check gives the slicer back, and an idle spare rests (R271, R276). -/
def State.endRetrim (s : State) (n v : Nat) : State :=
  let s := match s.checkLane n with
    | some l => if s.slicer l = 3 then s.setSlicer l 0 else s
    | none => s
  (s.setRetrim n v).restIdle n

/-- Every re-trim run of a port ends as ABORTED: the link leaves CN_ACTIVE (R276, R294). -/
def State.abortRetrims (s : State) (p : Nat) : State :=
  (s.spareOctets p).foldl (fun s n => if s.retrimRuns n then s.endRetrim n RT.ABORTED else s) s

/-! ### Going down (R297, R298) -/

/-- What a cane port directs its link to do beside the codes of Hold: send training words of a type. -/
def LK.WORDS (type : Nat) : Nat := 0x100 + type

/-- Frames flow: CN_ACTIVE, or CN_RETRAIN. -/
def State.caneRuns (s : State) (p : Nat) : Bool := s.linkState p == CN.ACTIVE || s.linkState p == CN.RETRAIN

/-- The link of a cane port stops: a DOWN message if its transmitter still sends frames, training words of type 6, electrical idle;
cullet entries and incomplete trains are dropped. The result names the packets in transmission (R298). -/
def State.caneStop (s : State) (p cause : Nat) : State × List Pkt :=
  let sends := s.linkState p == CN.ACTIVE && !s.bit (R.CAN_STATUS p) F.CAN_STATUS_TX_STBY
  let s := if sends then s.sendLmsg p (lmWord LM.DOWN 0 0 false 0 cause 0) else s
  let s := (s.emit (.link p (LK.WORDS 6))).emit (.link p 5)
  let s := s.abortRetrims p
  let st := R.CAN_STATUS p
  let s := if s.bit st F.CAN_STATUS_CMD_BUSY then (s.put st F.CAN_STATUS_CMD_BUSY 0).put st F.CAN_STATUS_CMD_RESULT 2 else s
  let s := (s.put st F.CAN_STATUS_DOWN_CAUSE cause).put st F.CAN_STATUS_RX_HOLD 0
  let s := ((s.put st F.CAN_STATUS_REPLAY_WAIT 0).put st F.CAN_STATUS_PEER_HOLD 0).put st F.CAN_STATUS_TX_STBY 0
  let s := (s.setLinkState p CN.DOWN).put (R.PRT_STATUS p) F.PRT_STATUS_LINK_UP 0
  let s := s.bump (R.PRT_LINKSTAT p) F.PRT_LINKSTAT_DOWNS 1
  (s.linkDownTrains p).dropCullets p

/-- A cane port enters CN_RESET: sequence, credits and cullet store start anew (R298). -/
def State.caneReset (s : State) (p : Nat) : State :=
  let s := (s.setCane p {}).setLinkState p CN.RESET
  let s := (s.spareOctets p).foldl State.restIdle s
  let s := (s.wr (R.CAN_TXSEQ p) 0).put (R.CAN_RXSEQ p) F.CAN_RXSEQ_RX_EXPECT 0
  (List.range 8).foldl (fun s c => s.wr (R.CAN_CRDSTAT p c) 0) s

end Sys2Proof.Machine
end

