-- ==== Sys2Proof/Machine/Mailbox.lean ====
section
/-!
DEFINITION. Mailboxes (R338 to R345): claims, SEND, ACK, RELEASE, RESET, FORCE_RELEASE and the disabling of a mailbox. The frame of
an end is `x`: m for the firmware end of mailbox m, 512 + m for its host end.
-/
namespace Sys2Proof.Machine

/-- Frame of an end, and the frame of the other end of the same mailbox. -/
def mbxFrame (m : Nat) (host : Bool) : Nat := if host then 512 + m else m
def mbxOther (x : Nat) : Nat := if x < 512 then x + 512 else x - 512
def mbxOf (x : Nat) : Nat := x % 512
def mbxHost (x : Nat) : Bool := decide (512 ≤ x)

def State.claimOf (s : State) (x : Nat) : Option Lease := SMap.get s.mbx.claims none x
/-- The claim of an end takes a value; CLAIMED and EXPIRED follow (R340). -/
def State.setClaim (s : State) (x : Nat) (l : Option Lease) : State :=
  let s := { s with mbx := { s.mbx with claims := SMap.set s.mbx.claims none x l } }
  let s := s.put (R.MBX_ESTAT x) F.MBX_ESTAT_CLAIMED (bit01 l.isSome)
  s.put (R.MBX_ESTAT x) F.MBX_ESTAT_EXPIRED (match l with | some e => bit01 e.expired | none => 0)

/-- The function of the host end of mailbox `m`, and its partition. -/
def State.mbxFn (s : State) (m : Nat) : Nat := s.get (R.MBX_CFG m) F.MBX_CFG_FN
def State.mbxPt (s : State) (m : Nat) : Nat := s.get (R.MBX_CFG m) F.MBX_CFG_PT

/-- Mailbox `m` is enabled and assigned to the function of tag `o`, in the partition where that function appears (R338). -/
def State.mbxMeets (s : State) (m o : Nat) : Bool :=
  s.bit (R.MBX_CFG m) F.MBX_CFG_EN && oFn o == s.mbxFn m && s.fnPt (oFn o) == some (s.mbxPt m)

/-- Notify an end (R342, R343): event bit 32 for firmware, MSI-X on VEC for the host end. -/
def State.mbxNotify (s : State) (x : Nat) : State :=
  if mbxHost x then s.msix (s.mbxFn (mbxOf x)) (s.get (R.MBX_CFG (mbxOf x)) F.MBX_CFG_VEC) 0
  else s.event 32

def State.mbxBad (s : State) (x : Nat) : State := s.setBit (R.MBX_ESTAT x) F.MBX_ESTAT_BADCMD

/-- The sender of a waiting message learns of its end (R343, R344): the direction toward `x` empties, and the other end has its
acknowledgement. -/
def State.mbxAcknowledge (s : State) (x rcode : Nat) : State :=
  let y := mbxOther x
  let seq := s.get (R.MBX_RXMSG x 0) ⟨0, 16⟩
  let s := (s.put (R.MBX_ESTAT x) F.MBX_ESTAT_RX_FULL 0).put (R.MBX_ESTAT y) F.MBX_ESTAT_TX_FULL 0
  let s := ((s.put (R.MBX_ESTAT y) F.MBX_ESTAT_ACKED 1).put (R.MBX_ESTAT y) F.MBX_ESTAT_RCODE rcode).put (R.MBX_ESTAT y)
    F.MBX_ESTAT_ACK_SEQ seq
  s.mbxNotify y

/-- Every register of a host frame returns to its reset value (reset class of the cards). -/
def State.mbxClearFrame (s : State) (x : Nat) : State :=
  { s with regs := SMap.keep s.regs (fun a => !(decide (0x2610000 + 256 * x ≤ a) && decide (a < 0x2610100 + 256 * x))) }

/-- Both directions of `x` empty and its claim is freed; a host frame returns to its reset values (R344). -/
def State.mbxEmpty (s : State) (x : Nat) : State :=
  let y := mbxOther x
  let s := s.setClaim x none
  let s := (s.put (R.MBX_ESTAT x) F.MBX_ESTAT_RX_FULL 0).put (R.MBX_ESTAT x) F.MBX_ESTAT_TX_FULL 0
  let s := (s.put (R.MBX_ESTAT y) F.MBX_ESTAT_RX_FULL 0).put (R.MBX_ESTAT y) F.MBX_ESTAT_TX_FULL 0
  if mbxHost x then s.mbxClearFrame x else s

/-- Reset of an end (R344): a message that waited for it is acknowledged as ABORTED. -/
def State.mbxResetEnd (s : State) (x : Nat) : State :=
  let s := if s.bit (R.MBX_ESTAT x) F.MBX_ESTAT_RX_FULL then
      (s.mbxAcknowledge x 0xFFFF).bump R.MBX_STATUS F.MBX_STATUS_ABORTS 1
    else s
  s.mbxEmpty x

/-- Mailboxes whose host end belongs to a function that satisfies `p` are reset at that end (R341). -/
def State.mbxResetHosts (s : State) (p : Nat → Nat → Bool) : State :=
  let ms := (s.regIndices 0x2601000 8 512 (fun _ => 0) (fun _ v => fieldOf v 0 1 == 1)).filter (fun m => p (s.mbxPt m) (s.mbxFn m))
  ms.foldl (fun s m => s.mbxResetEnd (512 + m)) s

/-- Every claim whose holder's tag equals `origin` under `mask` is revoked and its end reset (R341). -/
def State.forceMbx (s : State) (origin mask : Nat) : State :=
  let xs := s.mbx.claims.filterMap (fun e => match e.2 with
    | some l => if Nat.land l.holder mask = Nat.land origin mask then some e.1 else none
    | none => none)
  xs.foldl State.mbxResetEnd s

/-- How a command of an end is met (R338, R341): the frame does not answer (no effect), the command has no effect but BADCMD, or
it is considered. The block accepts commands while ENABLE is set. -/
inductive MbxGate where
  | silent | bad | open
  deriving DecidableEq, Repr

def State.mbxGate (s : State) (o m : Nat) (host : Bool) : MbxGate :=
  let en := s.bit (R.MBX_CFG m) F.MBX_CFG_EN
  if host && !s.mbxMeets m o then .silent
  else if host && (s.fnHeld (s.mbxFn m) || s.ptHeld (s.mbxPt m) || s.flrActive (s.mbxFn m)) then .silent
  else if !en || !s.bit R.MBX_CTL F.MBX_CTL_ENABLE then .bad
  else .open

/-- Run a command of an end behind its frame. -/
def State.mbxCmd (s : State) (o m : Nat) (host : Bool) (f : State → Nat → State) : State :=
  match s.mbxGate o m host with
  | .silent => s
  | .bad => s.mbxBad (mbxFrame m host)
  | .open => f s (mbxFrame m host)

/-- The writer holds the claim of the end. -/
def State.holdsClaim (s : State) (x o : Nat) : Bool :=
  match s.claimOf x with
  | some l => l.holder == o
  | none => false

/-- SEND of an end that holds its claim (R339, R342). -/
def State.mbxSend (s : State) (x type : Nat) : State :=
  let y := mbxOther x
  let seq := (s.get (R.MBX_ESTAT x) F.MBX_ESTAT_TX_SEQ + 1) % 2 ^ 16
  let coll := s.bit (R.MBX_ESTAT x) F.MBX_ESTAT_TX_FULL
  let s := if coll then
      ((s.setBit (R.MBX_ESTAT x) F.MBX_ESTAT_COLLISION).setBit (R.MBX_ESTAT y) F.MBX_ESTAT_COLLISION).bump R.MBX_STATUS
        F.MBX_STATUS_COLLISIONS 1
    else s
  let s := s.wr (R.MBX_RXMSG y 0) (seq + type % 2 ^ 16 * 2 ^ 16 + bit01 coll * 2 ^ 32)
  let s := (List.range 7).foldl (fun s i => s.wr (R.MBX_RXMSG y (i + 1)) (s.rd (R.MBX_TXMSG x (i + 1)))) s
  let s := (s.put (R.MBX_ESTAT x) F.MBX_ESTAT_TX_SEQ seq).setBit (R.MBX_ESTAT x) F.MBX_ESTAT_TX_FULL
  (s.setBit (R.MBX_ESTAT y) F.MBX_ESTAT_RX_FULL).mbxNotify y

/-- SEND delivers a message in its direction, replacing one that waits (R340, R342). -/
def execMbxSend (o : Origin) (m : Fin 512) (host : Bool) (type : BitVec 16) (s : State) : Host.Outcome State Fault Refusal :=
  .next (s.mbxCmd o.toNat m.val host (fun s x => if s.holdsClaim x o.toNat then s.mbxSend x type.toNat else s.mbxBad x))

/-- ACK of the waiting SEQ with a code below 0xFF00 empties the direction and notifies the sender (R340, R343). -/
def execMbxAck (o : Origin) (m : Fin 512) (host : Bool) (seq rcode : BitVec 16) (s : State) : Host.Outcome State Fault Refusal :=
  .next (s.mbxCmd o.toNat m.val host (fun s x =>
    if s.holdsClaim x o.toNat && s.bit (R.MBX_ESTAT x) F.MBX_ESTAT_RX_FULL && s.get (R.MBX_RXMSG x 0) ⟨0, 16⟩ == seq.toNat &&
        decide (rcode.toNat < 0xFF00) then
      s.mbxAcknowledge x rcode.toNat
    else s.mbxBad x))

/-- CLAIM grants a free claim to the writer, or renews the holder's (R340). -/
def execMbxClaim (o : Origin) (m : Fin 512) (host : Bool) (deadline : BitVec 16) (s : State) : Host.Outcome State Fault Refusal :=
  .next (s.mbxCmd o.toNat m.val host (fun s x =>
    if (s.claimOf x).isNone || s.holdsClaim x o.toNat then s.setClaim x (some ⟨o.toNat, deadline.toNat, false⟩) else s.mbxBad x))

/-- RELEASE from the holder frees the claim (R340). -/
def execMbxRelease (o : Origin) (m : Fin 512) (host : Bool) (s : State) : Host.Outcome State Fault Refusal :=
  .next (s.mbxCmd o.toNat m.val host (fun s x => if s.holdsClaim x o.toNat then s.setClaim x none else s.mbxBad x))

/-- RESET lets an end declare itself reset (R344). -/
def execMbxReset (o : Origin) (m : Fin 512) (host : Bool) (s : State) : Host.Outcome State Fault Refusal :=
  .next (s.mbxCmd o.toNat m.val host (fun s x => s.mbxResetEnd x))

/-- MBX_FORCE (R341). -/
def execMbxForce (origin mask : BitVec 32) (s : State) : Host.Outcome State Fault Refusal :=
  .next (s.forceMbx origin.toNat mask.toNat)

/-- Clearing EN resets both ends and sends no notice (R344). -/
def State.mbxDisable (s : State) (m : Nat) : State :=
  ((s.mbxEmpty m).mbxEmpty (512 + m)).put (R.MBX_CFG m) F.MBX_CFG_EN 0

def execMbxDisable (m : Fin 512) (s : State) : Host.Outcome State Fault Refusal := .next (s.mbxDisable m.val)

end Sys2Proof.Machine
end

