-- ==== Sys2Proof/Machine/Slots.lean ====
section
/-!
DEFINITION. Command slots (R346 to R351): handles, reservation leases and their revocation, changes of state and their notices. What
each command does stands in Machine/Commands.lean.
-/
namespace Sys2Proof.Machine

/-- States of a slot (R350). -/
def CS.FREE : Nat := 0
def CS.RESERVED : Nat := 1
def CS.QUEUED : Nat := 2
def CS.RUNNING : Nat := 3
def CS.SUSPENDING : Nat := 4
def CS.SUSPENDED : Nat := 5
def CS.CANCELLING : Nat := 6
def CS.DONE : Nat := 7
def CS.FAILED : Nat := 8
def CS.CANCELLED : Nat := 9

/-- Status codes (R356). -/
def CST.OK : Nat := 0x00
def CST.CANCELLED : Nat := 0x01
def CST.BADARG : Nat := 0x02
def CST.BADIMG : Nat := 0x03
def CST.DATA_ERR : Nat := 0x04
def CST.NAND_ERR : Nat := 0x05
def CST.NOT_READY : Nat := 0x06
def CST.HELD : Nat := 0x07
def CST.RESET : Nat := 0x08
def CST.DENIED : Nat := 0x09
def CST.ABORTED : Nat := 0x0A

def State.slotState (s : State) (k : Nat) : Nat := s.get (R.CMD_SLOT k) F.CMD_SLOT_STATE
def State.slotLease (s : State) (k : Nat) : Option Lease := SMap.get s.cmd.leases none k
def State.job (s : State) (k : Nat) : Option Job := SMap.get s.cmd.jobs none k
def State.setJob (s : State) (k : Nat) (j : Option Job) : State :=
  { s with cmd := { s.cmd with jobs := SMap.set s.cmd.jobs none k j } }

/-- The lease of a slot takes a value; HOLDER, NOHOLDER and EXPIRED follow (R348). -/
def State.setSlotLease (s : State) (k : Nat) (l : Option Lease) : State :=
  let s := { s with cmd := { s.cmd with leases := SMap.set s.cmd.leases none k l } }
  let r := R.CMD_SLOT k
  match l with
  | some e => ((s.put r F.CMD_SLOT_HOLDER e.holder).put r F.CMD_SLOT_EXPIRED (bit01 e.expired)).put r F.CMD_SLOT_NOHOLDER 0
  | none => (s.put r F.CMD_SLOT_HOLDER 0).put r F.CMD_SLOT_EXPIRED 0

/-- Notices of a change of state (R351). -/
def State.slotNotify (s : State) (k : Nat) : State :=
  let s := s.event 33
  match s.job k with
  | some j => if j.notify && oEng j.issuer == 0 then s.msix (oFn j.issuer) j.vec 0 else s
  | none => s

/-- A slot changes its state (R350, R351). -/
def State.setSlot (s : State) (k st : Nat) : State := (s.put (R.CMD_SLOT k) F.CMD_SLOT_STATE st).slotNotify k

/-- The slot returns to FREE with GEN raised (R347, R348). -/
def State.slotFreed (s : State) (k : Nat) : State :=
  let s := (s.setSlotLease k none).setSlot k CS.FREE
  let s := s.put (R.CMD_SLOT k) F.CMD_SLOT_GEN (s.get (R.CMD_SLOT k) F.CMD_SLOT_GEN + 1)
  (s.setJob k none).put (R.CMD_SLOT k) F.CMD_SLOT_NOHOLDER 0

/-- Revocation of a slot's lease (R348): a RESERVED slot returns to FREE, an issued command runs on without a holder. -/
def State.slotRevoke (s : State) (k : Nat) : State :=
  if s.slotState k = CS.RESERVED then s.slotFreed k
  else (s.setSlotLease k none).put (R.CMD_SLOT k) F.CMD_SLOT_NOHOLDER 1

/-- Every reservation lease whose holder's tag equals `origin` under `mask` is revoked (R348). -/
def State.forceCmd (s : State) (origin mask : Nat) : State :=
  let ks := s.cmd.leases.filterMap (fun e => match e.2 with
    | some l => if Nat.land l.holder mask = Nat.land origin mask then some e.1 else none
    | none => none)
  ks.foldl State.slotRevoke s

/-- CMD_FORCE (R348). -/
def execCmdForce (origin mask : BitVec 32) (s : State) : Host.Outcome State Fault Refusal :=
  .next (s.forceCmd origin.toNat mask.toNat)

/-- FREE slots, lowest first. -/
def State.freeSlots (s : State) : List Nat := (List.range 16).filter (fun k => s.slotState k == CS.FREE)

/-- A read of CMD_ALLOC (R346): the lowest FREE slot becomes RESERVED to the reader, or VALID = 0. -/
def State.cmdAlloc (s : State) (o : Nat) : Nat × State :=
  match s.freeSlots with
  | [] => (0, s)
  | k :: _ =>
    let s := s.setSlotLease k (some ⟨o, s.get R.CMD_CFG F.CMD_CFG_RSV_TO, false⟩)
    let s := ((s.wr (R.CMD_RESA k) 0).wr (R.CMD_RESB k) 0).wr (R.CMD_RESC k) 0
    let s := (s.put (R.CMD_SLOT k) F.CMD_SLOT_OPC 0).setSlot k CS.RESERVED
    (k + s.get (R.CMD_SLOT k) F.CMD_SLOT_GEN * 2 ^ 4 + 2 ^ 16, s)

/-- The writer holds the slot. -/
def State.holdsSlot (s : State) (k o : Nat) : Bool :=
  match s.slotLease k with
  | some l => l.holder == o
  | none => false

/-- An accepted write of the holder renews the lease (R348). -/
def State.renewSlot (s : State) (k o : Nat) : State :=
  if s.holdsSlot k o then s.setSlotLease k (some ⟨o, s.get R.CMD_CFG F.CMD_CFG_RSV_TO, false⟩) else s

/-- A CMD_ARG write, accepted from the holder while the slot is RESERVED (R349). -/
def execCmdArgWrite (o : Origin) (k : Fin 16) (i : Fin 4) (v : BitVec 64) (s : State) : Host.Outcome State Fault Refusal :=
  .next (if s.slotState k.val = CS.RESERVED ∧ s.holdsSlot k.val o.toNat then
    (s.wr (R.CMD_ARG k.val i.val) v.toNat).renewSlot k.val o.toNat
    else s.setBit R.CMD_STATUS F.CMD_STATUS_CFG_REFUSED)

def State.cmdBad (s : State) : State := s.setBit R.CMD_STATUS F.CMD_STATUS_BADCMD

/-- A Gaffer core at firm privilege (R349). -/
def firmCore (o : Nat) : Bool := oEng o == 4 && oPriv o == 0

/-- A control operation of the holder or of a firm Gaffer core with the slot's generation (R347, R349). -/
def State.slotOp (s : State) (o k gen : Nat) (f : State → State) : State :=
  if s.get (R.CMD_SLOT k) F.CMD_SLOT_GEN ≠ gen ∨ !(s.holdsSlot k o || firmCore o) then s.cmdBad else f s

/-- RETIRE of a RESERVED or finished slot frees it (R347, R350). -/
def execCmdRetire (o : Origin) (k : Fin 16) (gen : BitVec 12) (s : State) : Host.Outcome State Fault Refusal :=
  .next (s.slotOp o.toNat k.val gen.toNat (fun s =>
    let st := s.slotState k.val
    if st = CS.RESERVED ∨ st = CS.DONE ∨ st = CS.FAILED ∨ st = CS.CANCELLED then s.slotFreed k.val else s.cmdBad))

/-- A command ends with a status (R350, R351, R356). -/
def State.slotEnd (s : State) (k st status : Nat) : State :=
  let s := s.put (R.CMD_RESA k) F.CMD_RESA_STATUS status
  let s := match s.job k with
    | some j => s.setJob k (some { j with indivisible := false, started := false })
    | none => s
  s.setSlot k st

/-! ### Resource moves that meet a hold or a reset (R84, R256, R355) -/

/-- The command code of a slot, and its arguments. -/
def State.slotOpc (s : State) (k : Nat) : Nat := s.get (R.CMD_SLOT k) F.CMD_SLOT_OPC
def State.cmdArg (s : State) (k i lo w : Nat) : Nat := fieldOf (s.rd (R.CMD_ARG k i)) lo w

/-- OPC of the commands (R354). -/
def OPC.FW_UPDATE : Nat := 1
def OPC.IMG_SWAP : Nat := 2
def OPC.SCRUB : Nat := 3
def OPC.MOVE : Nat := 4
def OPC.RETRIM : Nat := 5
def OPC.MEMTEST : Nat := 6
def OPC.KEEP_SAVE : Nat := 7

/-- Pool map entries that a pool-page MOVE takes from its source: the last COUNT of its range (R257). -/
def State.moveEntries (s : State) (k : Nat) : List Nat :=
  let src := s.cmdArg k 0 0 13
  let n := min (s.cmdArg k 1 0 16) (s.get (R.GST_FNPOOL src) F.GST_FNPOOL_PAGES)
  let top := s.get (R.GST_FNPOOL src) F.GST_FNPOOL_MAP_BASE + s.get (R.GST_FNPOOL src) F.GST_FNPOOL_PAGES
  (List.range n).map (fun i => top - n + i)

/-- A MOVE that has started gives back what it had taken: VALID of the source entries that it had cleared, and the queue locks it
held (R84, R355). -/
def State.moveUndo (s : State) (k : Nat) : State :=
  match s.job k with
  | none => s
  | some j =>
    if !j.started then s
    else if s.cmdArg k 0 32 2 = 1 then
      ((s.moveEntries k).zipIdx).foldl (fun s e => if bitOf j.aux e.2 then s.put (R.GST_POOLMAP e.1) F.GST_POOLMAP_VALID 1 else s) s
    else if s.cmdArg k 0 32 2 = 0 then
      let n := s.cmdArg k 1 0 16
      { s with que := { s.que with locks := s.que.locks.filter (fun e => e.1 / 16 != n || match e.2 with
        | some l => l.holder != mkOrigin s.fid (oPt j.issuer) (oFn j.issuer) 5 0
        | none => false) } }
    else s

/-- MOVE commands that have started and satisfy `p` end FAILED with `status`. -/
def State.moveFail (s : State) (status : Nat) (p : State → Nat → Bool) : State :=
  (List.range 16).foldl (fun s k =>
    let st := s.slotState k
    if s.slotOpc k == OPC.MOVE && decide (CS.QUEUED ≤ st) && decide (st ≤ CS.CANCELLING) &&
        (match s.job k with | some j => j.started | none => false) && p s k then
      (s.moveUndo k).slotEnd k CS.FAILED status
    else s) s

end Sys2Proof.Machine
end

