-- ==== Sys2Proof/Machine/Hold.lean ====
section
/-!
DEFINITION. Containment (R32, R33, R47, R236): what begins and ends the hold of a port, a partition, a function or a queue, and the
revocation of a unit's leases (R366).
-/
namespace Sys2Proof.Machine

/-! ### Traffic that meets a hold or a reset (R32, R47, R235) -/

/-- Held TLPs that satisfy `p` are resolved as traffic to a held party (R47). -/
def State.resolveHolds (s : State) (p : Hold → Bool) : State :=
  (s.cru.holds.filter p).foldl (fun s h => (s.unhold h).refuseHeld h.pkt h.pkt.coq) s

/-- Requests that satisfy `p` and wait for a completion from a held party receive Completer Abort (R32). -/
def State.answerPend (s : State) (p : Pending → Bool) : State :=
  let es := s.prt.pend.filter p
  let s := { s with prt := { s.prt with pend := s.prt.pend.filter (fun e => !p e) } }
  es.foldl (fun s e => s.synthetic e.pt e.rid e.tag ⟨e.cls % 8, Nat.mod_lt _ (by decide)⟩ e.origin) s

/-- Packets still cutting through that satisfy `p` end as nullified (R32). -/
def State.nullifyCutting (s : State) (p : Pkt → Bool) : State :=
  s.cru.unacked.foldl (fun s e =>
    (e.2.filter (fun x => x.cutting && p x)).foldl (fun s x =>
      (s.setUnacked e.1 ((s.unacked e.1).filter (fun y => y.id != x.id))).nullify e.1 x) s) s

/-- A packet flushed from a held port: the path that owns it learns of it (R32, R47). -/
def State.flushed (s : State) (x : Pkt) : State :=
  let s := (s.onLost x).afterRelease x
  if x.role = .train then s.downRecords (fun r => r.pktId == x.id) else s

/-- The COQs, the staging and the transmitted packets of a port are flushed (R47). -/
def State.flushPort (s : State) (p : Nat) : State :=
  let un := s.unacked p
  let s := s.setUnacked p []
  let s := un.foldl (fun s x =>
    if x.cutting then (s.nullify p x).abortIfNonPosted x else (s.releasePkt x).afterRelease x) s
  let s := (List.range 8).foldl (fun s c =>
    let (s, ps) := s.flushCoq (coqOfPort p c) p
    ps.foldl State.flushed s) s
  let s := s.flushTrains p
  let ws := s.cru.epHeld.filter (fun x => decide (x.coq < 2048) && x.coq / 8 == p)
  let s := { s with cru := { s.cru with epHeld := s.cru.epHeld.filter (fun x => !(decide (x.coq < 2048) && x.coq / 8 == p)) } }
  ws.foldl (fun s x => ((s.countDrop x.coq p).abortIfNonPosted x).flushed x) s

/-! ### Ports (R236) -/

/-- What a port directs its link to do. -/
def LK.DISABLED : Nat := 1
def LK.DETECT : Nat := 2
def LK.HOT_RESET : Nat := 3
def LK.RETRAIN : Nat := 4
def LK.IDLE : Nat := 5

/-- Training states of PRT_LINKSTAT that the module itself sets (R267). -/
def LS.DETECT : Nat := 0x00
def LS.L0 : Nat := 0x04
def LS.RECOVERY : Nat := 0x07
def LS.HOT_RESET : Nat := 0x0A
def LS.DISABLED : Nat := 0x0B

/-- The bridge of a downstream port. -/
def State.portBridge (s : State) (p : Nat) : Nat := dnKey (s.portPt p) p

/-- Routing ID of a downstream bridge: devices 1 upward of the internal bus, in increasing port number (R222). -/
def State.downId (s : State) (pt p : Nat) : Nat :=
  (s.bridge (upKey pt)).sec * 256 + 8 * (((s.downPorts pt).takeWhile (· != p)).length + 1)

/-- The bridge of downstream port `p` sends its MSI, if its host has enabled it: a posted write in traffic class 0 (R222; the standard's registers,
log entry 30). -/
def State.bridgeMsi (s : State) (p : Nat) : State :=
  let pt := s.portPt p
  let b := s.bridge (s.portBridge p)
  let w (off : Nat) : Nat := SMap.get b.raw 0 off
  if bitOf (w 0x50) 16 && b.bme && (s.bridge (upKey pt)).bme then
    (s.sendUp pt 0 (fun _ s =>
      let t : Tlp := ⟨.memWr, w 0x54 + w 0x58 * 2 ^ 32, s.downId pt p, 0, 0, 0, hdrMem + 4, 4, .sc, false, false, leBytes (w 0x5C) 4, false, false⟩
      s.newPkt .endpoint (.tlp t) t.len (s.origin pt noFn 0 0) 256 0 pt)).2
  else s

/-- DPC Trigger Status of a downstream bridge is set, with its reason; the interrupt follows if it is enabled (R236). -/
def State.dpcTrigger (s : State) (p reason : Nat) : State :=
  let b := s.bridge (s.portBridge p)
  let int := bitOf (SMap.get b.raw 0 0x154) 19
  let s := s.setBridge (s.portBridge p) { b with
    dpcTrig := true, dpcReason := reason, raw := if int then SMap.set b.raw 0 0x158 8 else b.raw }
  if int then s.bridgeMsi p else s

/-- A cane link goes down for a cause: its COQs are flushed, its cullet entries and incomplete trains dropped, and the packets with a
gob flushed or unacknowledged end with LINK_DOWN (R298). Routes move on (R318). -/
def State.caneDown (s : State) (p cause : Nat) : State :=
  let (s, live) := s.caneStop p cause
  let s := live.foldl (fun s x => s.downRecords (fun r => r.pktId == x.id)) s
  (s.flushPort p).refreshRoutes

/-- A port is held (R236): HELD and HOLD_SRC, its link directed to Disabled, DPC Trigger Status of its bridge, and the traffic of
R32 and R47. `reason` is what Trigger Reason reads; a port that is held already stays so. -/
def State.holdPort (s : State) (p src reason : Nat) : State :=
  if s.portHeld p then s
  else
    let s := (s.setBit (R.PRT_STATUS p) F.PRT_STATUS_HELD).put (R.PRT_STATUS p) F.PRT_STATUS_HOLD_SRC src
    let s := s.flushPort p
    let s := s.resolveHolds (fun h => decide (h.pkt.coq < 2048) && h.pkt.coq / 8 == p)
    let s := s.answerPend (fun e => e.port == p)
    let s := s.nullifyCutting (fun x => x.inPort == p)
    if s.caneMode p then
      (if s.caneRuns p then s.caneDown p 11
        else if s.linkState p = CN.DOWN then s else s.caneReset p).refreshRoutes
    else
      let s := s.emit (.link p LK.DISABLED)
      if s.role p = ROLE.DOWNSTREAM then s.dpcTrigger p reason else s

/-- Trigger Reason of a hold that is not the host's own DPC trigger: 0b11 with extension 0b01 (R236). -/
def dpcByHold : Nat := 3 + 4 * 1

/-- The hold of a port is lifted: its link leaves Disabled (R236, R370). -/
def State.liftPort (s : State) (p : Nat) : State :=
  if !s.portHeld p then s
  else
    let s := (s.put (R.PRT_STATUS p) F.PRT_STATUS_HELD 0).put (R.PRT_STATUS p) F.PRT_STATUS_HOLD_SRC 0
    if s.caneMode p then (if s.linkState p = CN.DOWN then s.caneReset p else s)
    else
      let s := s.emit (.link p LK.DETECT)
      let s := if s.get (R.PRT_LINKSTAT p) F.PRT_LINKSTAT_STATE = LS.DISABLED then
          s.put (R.PRT_LINKSTAT p) F.PRT_LINKSTAT_STATE LS.DETECT else s
      if s.role p = ROLE.DOWNSTREAM then s.setBridge (s.portBridge p) { s.bridge (s.portBridge p) with dpcTrig := false } else s

/-! ### Queues, functions, partitions -/

/-- Queues whose owner satisfies `p` (function, partition). -/
def State.queuesWhere (s : State) (p : Nat → Nat → Bool) : List Nat :=
  (List.range 65536).filter (fun q => p (s.qOwnerFn q) (s.qOwnerPt q))

/-- The queues of function `f`: those that name it, in the partition in which it appears. -/
def State.queuesOfFn (s : State) (f : Nat) : List Nat :=
  s.queuesWhere (fun fn pt => fn == f && (s.fnPt f == some pt || s.fnPt f == none))

/-- A queue is held: HELD, its running fetches abandoned; a MOVE of its set ends (R32, R83, R84). -/
def State.holdQueueUnit (s : State) (q : Nat) : State :=
  ((s.holdQueue q).abandonFetches q).moveFail CST.HELD (fun s k => s.cmdArg k 0 32 2 == 0 && s.cmdArg k 1 0 16 == q / 16)

/-- Whether the fault system holds a unit: a record that holds it, or a hold without a record (R361, R365). -/
def State.unitHeld (s : State) (kind index : Nat) : Bool :=
  s.flt.norec.any (fun e => e.1 == kind && e.2.1 == index) ||
  (List.range 64).any (fun r => s.bit (R.FLT_RECA r) F.FLT_RECA_OPEN && s.bit (R.FLT_RECA r) F.FLT_RECA_HELD &&
    s.get (R.FLT_RECA r) F.FLT_RECA_KIND == kind && s.get (R.FLT_RECA r) F.FLT_RECA_INDEX == index)

/-- A queue leaves HELD unless it, its function or its partition is still held (R33, R83). -/
def State.liftQueueUnit (s : State) (q : Nat) : State :=
  if s.unitHeld UK.queue q || s.fnHeld (s.qOwnerFn q) || s.ptHeld (s.qOwnerPt q) then s else s.liftQueue q

/-- A function is held (R32, R365). -/
def State.holdFn (s : State) (f : Nat) : State :=
  let s := s.setBit (R.QEP_FNSTAT f) F.QEP_FNSTAT_HELD
  (s.queuesOfFn f).foldl State.holdQueueUnit s

def State.liftFn (s : State) (f : Nat) : State :=
  let s := s.put (R.QEP_FNSTAT f) F.QEP_FNSTAT_HELD 0
  (s.queuesOfFn f).foldl State.liftQueueUnit s

/-- A clear-path request that a hold of its destination covers (R32, R237). -/
def Pkt.coveredRequest (x : Pkt) : Bool :=
  x.role == .clear && (match x.body with | .tlp t => holdCovers t.kind && t.kind != .cpl | .par _ => false)

/-- The requests linked toward the ports of a partition end: non-posted ones with Completer Abort, posted ones dropped and counted (R32).
Whoever sent them: the rows of the destination go before the row of a packet received before the hold (log entry 119). -/
def State.abortLinked (s : State) (pt : Nat) : State :=
  let ports := (List.range 256).filter (fun p => pcieRole (s.role p) && s.portPt p == pt)
  ports.foldl (fun s p => (List.range 8).foldl (fun s c => (s.takeCoq (coqOfPort p c) p Pkt.coveredRequest).1) s) s

/-- Traffic of a partition that is held or enters reset (R32, R235). `all` (a reset) takes configuration traffic with it, which no hold
covers (R237). -/
def State.shutPartition (s : State) (pt : Nat) (all : Bool) : State :=
  let s := s.resolveHolds (fun h => (h.pkt.pt == pt || h.dpt == pt) && (all || !h.pkt.isCfg))
  let s := s.abortLinked pt
  let s := s.answerPend (fun e => s.portPt e.port == pt && (all || !e.cfg))
  s.nullifyCutting (fun x => decide (x.inPort < 256) && s.portPt x.inPort == pt && pcieRole (s.role x.inPort) && (all || !x.isCfg))

/-- A partition is held (R32, R236, R365): its queues are HELD; its ports keep their links. -/
def State.holdPartition (s : State) (pt : Nat) : State :=
  if s.ptHeld pt then s
  else
    let s := (s.setBit (R.PTN_STATE pt) F.PTN_STATE_HELD).shutPartition pt false
    (s.queuesWhere (fun _ p => p == pt)).foldl State.holdQueueUnit s

def State.liftPartition (s : State) (pt : Nat) : State :=
  let s := s.put (R.PTN_STATE pt) F.PTN_STATE_HELD 0
  (s.queuesWhere (fun _ p => p == pt)).foldl State.liftQueueUnit s

/-! ### Units (R358, R365, R366) -/

/-- Only these kinds can be held (R358). -/
def holdable (kind : Nat) : Bool := kind == UK.port || kind == UK.partition || kind == UK.queue || kind == UK.function

/-- HOLD_SRC of a port held under a fault code. -/
def holdSrc (code : Nat) : Nat := if code = FC.PORT_DPC then 1 else if code = FC.PORT_DOWN then 2 else 0

/-- Hold a unit under a fault code (R365). -/
def State.holdUnit (s : State) (kind index code : Nat) : State :=
  if kind = UK.port then s.holdPort index (holdSrc code) dpcByHold
  else if kind = UK.partition then s.holdPartition index
  else if kind = UK.queue then s.holdQueueUnit index
  else if kind = UK.function then s.holdFn index
  else s

/-- Lift the hold of a unit (R33, R370). -/
def State.liftUnit (s : State) (kind index : Nat) : State :=
  if kind = UK.port then s.liftPort index
  else if kind = UK.partition then s.liftPartition index
  else if kind = UK.queue then s.liftQueueUnit index
  else if kind = UK.function then s.liftFn index
  else s

/-- Release every queue lock of the queues that satisfy `p` (R366). -/
def State.freeLocksOf (s : State) (p : Nat → Bool) : State :=
  { s with que := { s.que with locks := s.que.locks.filter (fun e => !p e.1) } }

/-- Release every lease whose holder's tag matches `tag` under `mask` (R86, R128, R341, R348). -/
def State.forceAll (s : State) (tag mask : Nat) : State :=
  (((s.forceGst tag mask).forceMbx tag mask).forceCmd tag mask).forceQueueLocks tag mask

/-- Revoke the leases of a unit (R366): those its tag holds, queue locks among them (R86), and every lock on its queues. -/
def State.revokeUnit (s : State) (kind index : Nat) : State :=
  if kind = UK.function then
    (s.forceAll (s.origin ((s.fnPt index).getD 0) index 0 0) 0x007FFFFF).freeLocksOf (fun q => s.qOwnerFn q == index)
  else if kind = UK.partition then (s.forceAll (s.origin index 0 0 0) 0x000003FF).freeLocksOf (fun q => s.qOwnerPt q == index)
  else if kind = UK.queue then s.freeLocksOf (fun q => q == index)
  else s

/-! ### Ratings (R446) -/

/-- A reading of VIN, VBUS (10 mV, at most 24 V) or VRES (10 mV, at most 40 V) within the ratings: beyond them the outcome is undefined (R446). -/
def busRated (v : BitVec 12) : Bool := decide (v.toNat ≤ 2400)
def resRated (v : BitVec 12) : Bool := decide (v.toNat ≤ 4000)

/-- An outcome under readings within the ratings; beyond them the machine stops (log entry 90). -/
def rated (ok : Bool) (r : Host.Outcome State Fault Refusal) : Host.Outcome State Fault Refusal :=
  if ok then r else .fault .outsideRatings

end Sys2Proof.Machine
end

