-- ==== Sys2Proof/Machine/Channels.lean ====
section
/-!
DEFINITION. Slot power channels (R426 to R431): request, presence, window, and the states of a channel. SLT_PRE and SLT_GATE follow from
the state. Times are given by the commands; measured values come with them.
-/
namespace Sys2Proof.Machine

/-- States of a channel (R428). -/
def CH.OFF : Nat := 0
def CH.INSERT : Nat := 1
def CH.PRECHG : Nat := 2
def CH.RAMP : Nat := 3
def CH.ON : Nat := 4
def CH.RETRY : Nat := 5
def CH.LATCHED : Nat := 6

/-- Codes of LAST. -/
def CX.BREAKER : Nat := 1
def CX.PRECHG : Nat := 2
def CX.WINDOW : Nat := 3
def CX.PRESENCE : Nat := 4
def CX.REQUEST : Nat := 5
def CX.RAMP : Nat := 6

def State.chan (s : State) (k : Nat) : Nat := s.get (R.SLT_STAT k) F.SLT_STAT_STATE

/-- Key of a breaker: feed x at x, channel k at 2 + k. -/
def breakerKey : Breaker → Nat
  | .feed x => x.val
  | .slot k => 2 + k.val

/-- A breaker regulates, or no longer does (R423). -/
def State.setLimiting (s : State) (key : Nat) (v : Bool) : State :=
  { s with pow := { s.pow with limiting := SMap.set s.pow.limiting 0 key (bit01 v) } }
def State.limits (s : State) (key : Nat) : Bool := SMap.get s.pow.limiting 0 key == 1

/-- The port whose PRT_SLOT names a channel (R232, R427). -/
def State.slotPort (s : State) (k : Nat) : Option Nat :=
  (List.range 256).find? (fun p => s.role p == ROLE.DOWNSTREAM && s.bit (R.PRT_SLOT p) F.PRT_SLOT_SLOT_EN &&
    s.get (R.PRT_SLOT p) F.PRT_SLOT_CHAN == k)

/-- The request of a channel (R427). -/
def State.chanReq (s : State) (k : Nat) : Bool :=
  match s.slotPort k with
  | some p =>
    if s.bit (R.PRT_SLOT p) F.PRT_SLOT_HOSTPWR then !(s.bridge (s.portBridge p)).pwrOff else s.bit (R.SLT_CTL k) F.SLT_CTL_ON
  | none => s.bit (R.SLT_CTL k) F.SLT_CTL_ON

def State.chanPresent (s : State) (k : Nat) : Bool := s.bit (R.SLT_STAT k) F.SLT_STAT_PRSNT
def State.chanInside (s : State) (k : Nat) : Bool := SMap.get s.pow.outside 0 k == 0

/-- A channel enters a state; its breaker no longer regulates, and reaching ON clears FAILS (R428). -/
def State.setChan (s : State) (k v : Nat) : State :=
  let s := (s.put (R.SLT_STAT k) F.SLT_STAT_STATE v).setLimiting (2 + k) false
  if v = CH.ON then s.put (R.SLT_STAT k) F.SLT_STAT_FAILS 0 else s

/-- Why a channel that needs request, presence and window cannot stand. -/
def State.chanLost (s : State) (k : Nat) : Option Nat :=
  if !s.chanPresent k then some CX.PRESENCE
  else if !s.chanInside k then some CX.WINDOW
  else if !s.chanReq k then some CX.REQUEST
  else none

/-- Conditions are looked at again: OFF passes to INSERT with all of them, INSERT and ON return to OFF without one (R428). During the quench
a channel stays OFF (R435). -/
def State.chanSettle (s : State) (k : Nat) : State :=
  if s.rst.quench ≠ 0 then s
  else
    let st := s.chan k
    match s.chanLost k with
    | none => if st = CH.OFF then s.setChan k CH.INSERT else s
    | some why => if st = CH.INSERT ∨ st = CH.ON then (s.setChan k CH.OFF).put (R.SLT_STAT k) F.SLT_STAT_LAST why else s

/-- The port's bridge sees a change of presence, or a trip, in its slot status (R232); its interrupt follows if the host has enabled it. -/
def State.slotSeen (s : State) (k : Nat) (fault : Bool) : State :=
  match s.slotPort k with
  | some p =>
    let b := s.bridge (s.portBridge p)
    let s := s.setBridge (s.portBridge p) (if fault then { b with pwrFault := true } else { b with presChange := true })
    let ctl := SMap.get b.raw 0 0x88
    if bitOf ctl 5 && bitOf ctl (if fault then 1 else 3) then s.bridgeMsi p else s
  | none => s

/-- A channel enters RETRY after a trip (R428, R429). -/
def State.chanTrip (s : State) (k code detail why : Nat) : State :=
  let r := R.SLT_STAT k
  let s := ((s.setChan k CH.RETRY).put r F.SLT_STAT_LAST why).bump r F.SLT_STAT_TRIPS 1
  ((s.bump r F.SLT_STAT_FAILS 1).slotSeen k true).report code UK.slot k 0 detail 0

/-- The request of a channel may have changed: in LATCHED a request withdrawn and then given again leads to OFF (R428). -/
def State.slotRequest (s : State) (k : Nat) : State :=
  let s := s.put (R.SLT_STAT k) F.SLT_STAT_REQ (bit01 (s.chanReq k))
  if s.chan k = CH.LATCHED then
    let set (v : Nat) : State := { s with pow := { s.pow with withdrawn := SMap.set s.pow.withdrawn 0 k v } }
    if !s.chanReq k then set 1
    else if SMap.get s.pow.withdrawn 0 k = 1 then ((set 0).setChan k CH.OFF).chanSettle k
    else s
  else s.chanSettle k

/-- UNLATCH (R428). -/
def State.slotUnlatch (s : State) (k : Nat) : State :=
  if s.chan k = CH.LATCHED then (s.setChan k CH.OFF).chanSettle k else s

/-- SLOT_REQUEST_CHANGE: firmware writes ON, or the host of the port that names the channel writes its Power Controller Control (R427). -/
def execSlotRequestChange (k : Fin 32) (host on : Bool) (s : State) : Host.Outcome State Fault Refusal :=
  let k := k.val
  let s := if host then
      match s.slotPort k with
      | some p => s.setBridge (s.portBridge p) { s.bridge (s.portBridge p) with pwrOff := !on }
      | none => s
    else s.put (R.SLT_CTL k) F.SLT_CTL_ON (bit01 on)
  .next (s.slotRequest k)

/-- Presence changes: counted in RETRY, seen by the bridge in every state (R430). -/
def State.setPresent (s : State) (k : Nat) (v : Bool) : State :=
  if s.chanPresent k = v then s
  else
    let s := s.put (R.SLT_STAT k) F.SLT_STAT_PRSNT (bit01 v)
    let s := if s.chan k = CH.RETRY then s.bump (R.SLT_STAT k) F.SLT_STAT_BOUNCES 1 else s
    (s.slotSeen k false).chanSettle k

/-- PRESENCE_ASSERT (R427). -/
def execPresenceAssert (k : Fin 32) (s : State) : Host.Outcome State Fault Refusal := .next (s.setPresent k.val true)

/-- PRESENCE_LOST (R427). -/
def execPresenceLost (k : Fin 32) (s : State) : Host.Outcome State Fault Refusal := .next (s.setPresent k.val false)

/-- VBUS as the monitor of the bus reads it, in 10 mV. -/
def State.seeVbus (s : State) (v : Nat) : State := s.put R.PWR_STATUS F.PWR_STATUS_VBUS v

/-- VBUS lies within a channel's window (R428). -/
def State.chanWithin (s : State) (k v : Nat) : Bool :=
  decide (s.get (R.SLT_CFG k) F.SLT_CFG_UV ≤ v) && decide (v ≤ s.get (R.SLT_CFG k) F.SLT_CFG_OV)

def State.setOutside (s : State) (k : Nat) (v : Bool) : State :=
  { s with pow := { s.pow with outside := SMap.set s.pow.outside 0 k (bit01 v) } }

/-- SLOT_WINDOW_ENTER: VBUS is back within the channel's window (R428). -/
def execSlotWindowEnter (k : Fin 32) (vbus : BitVec 12) (s : State) : Host.Outcome State Fault Refusal :=
  rated (busRated vbus) (
    let s := s.seeVbus vbus.toNat
    .next (if s.chanWithin k.val vbus.toNat then (s.setOutside k.val false).chanSettle k.val else s))

/-- SLOT_WINDOW_EXIT: VBUS has left the channel's window, below UV for 100 µs or above OV (R428). -/
def execSlotWindowExit (k : Fin 32) (vbus : BitVec 12) (s : State) : Host.Outcome State Fault Refusal :=
  rated (busRated vbus) (
    let s := s.seeVbus vbus.toNat
    .next (if s.chanWithin k.val vbus.toNat then s else (s.setOutside k.val true).chanSettle k.val))

/-- SLOT_INSERT_DONE (R428). -/
def execSlotInsertDone (k : Fin 32) (s : State) : Host.Outcome State Fault Refusal :=
  .next (if s.chan k.val = CH.INSERT then s.setChan k.val CH.PRECHG else s)

/-- SLOT_PRECHG_DONE: with IOUT at 0.1 × VBUS / RPRE or less the output counts as 90 % of VBUS (R426). IOUT is in 0.02 A, VBUS in 10 mV and
RPRE in 0.1 Ω. -/
def execSlotPrechgDone (k : Fin 32) (iout : BitVec 10) (s : State) : Host.Outcome State Fault Refusal :=
  let k := k.val
  let s := s.put (R.SLT_STAT k) F.SLT_STAT_IOUT iout.toNat
  let low := decide (2 * iout.toNat * s.get (R.SLT_AUX k) F.SLT_AUX_RPRE ≤ s.get R.PWR_STATUS F.PWR_STATUS_VBUS)
  .next (if s.chan k = CH.PRECHG ∧ low then s.setChan k CH.RAMP else s)

/-- SLOT_PRECHG_TIMEOUT (R428, R429). -/
def execSlotPrechgTimeout (k : Fin 32) (s : State) : Host.Outcome State Fault Refusal :=
  .next (if s.chan k.val = CH.PRECHG then s.chanTrip k.val FC.PRECHG_TIMEOUT 0 CX.PRECHG else s)

/-- SLOT_RAMP_DONE: the gate is fully on (R428). -/
def execSlotRampDone (k : Fin 32) (s : State) : Host.Outcome State Fault Refusal :=
  .next (if s.chan k.val = CH.RAMP then (s.setChan k.val CH.ON).chanSettle k.val else s)

/-- SLOT_RAMP_TIMEOUT (R428). -/
def execSlotRampTimeout (k : Fin 32) (s : State) : Host.Outcome State Fault Refusal :=
  .next (if s.chan k.val = CH.RAMP then s.chanTrip k.val FC.BREAKER_TRIP 1 CX.RAMP else s)

/-- SLOT_RETRY_DONE (R428). -/
def execSlotRetryDone (k : Fin 32) (s : State) : Host.Outcome State Fault Refusal :=
  let k := k.val
  let most := s.get (R.SLT_AUX k) F.SLT_AUX_RETRY_MAX
  if s.chan k ≠ CH.RETRY then .next s
  else if most ≠ 0 ∧ most ≤ s.get (R.SLT_STAT k) F.SLT_STAT_FAILS then
    .next ({ s with pow := { s.pow with withdrawn := SMap.set s.pow.withdrawn 0 k (bit01 (!s.chanReq k)) } }.setChan k CH.LATCHED)
  else .next ((s.setChan k (if s.chanReq k && s.chanPresent k then CH.INSERT else CH.OFF)).chanSettle k)

/-- SLOT_UNLATCH (R428). -/
def execSlotUnlatch (k : Fin 32) (s : State) : Host.Outcome State Fault Refusal := .next (s.slotUnlatch k.val)

end Sys2Proof.Machine
end

