-- ==== Sys2Proof/Machine/Sources.lean ====
section
/-!
DEFINITION. Reset reach (R16, R400), the recognition of reset sources (R399, R401, R404, R405), and the assertion of a Cold reset.
-/
namespace Sys2Proof.Machine

/-! ### Cards by address -/

/-- An address is one of the card's registers. -/
def Card.hits (c : Card) (a : Nat) : Bool :=
  if a < c.base then false
  else match c.dims with
    | [] => a == c.base
    | [d] => (a - c.base) % d.stride == 0 && decide (d.first ≤ (a - c.base) / d.stride) && decide ((a - c.base) / d.stride ≤ d.last)
    | d :: e :: _ =>
      let i := (a - c.base) / d.stride
      let r := (a - c.base) % d.stride
      decide (d.first ≤ i) && decide (i ≤ d.last) && r % e.stride == 0 && decide (e.first ≤ r / e.stride) && decide (r / e.stride ≤ e.last)

/-- The card of the register at an address. -/
def cardAt (a : Nat) : Option Card := cardTable.find? (fun c => c.hits a)

/-- Bits of the sticky fields of a card (R16). -/
def Card.sticky (c : Card) : Nat :=
  (c.fields.filter (fun f => f.acc == .rw1cs)).foldl (fun m f => m + (2 ^ f.f.w - 1) * 2 ^ f.f.lo) 0

/-- What is left of a register's difference from its reset value after a reset of Cold (`cold`) or Warm reach (R16). -/
def afterReset (cold : Bool) (a v : Nat) : Nat :=
  match cardAt a with
  | none => 0
  | some c =>
    if c.rcls = .powerOn ∨ (!cold ∧ c.rcls = .cold) then v
    else if cold then 0 else Nat.land v c.sticky

/-- A register table after a reset. -/
def resetTable (cold : Bool) (m : SMap Nat) : SMap Nat :=
  m.filterMap (fun e => let v := afterReset cold e.1 e.2; if v = 0 then none else some (e.1, v))

/-- Registers whose reset value a strap or trim gives take it (R412, R414); both banks of a banked register do. -/
def State.applyGiven (s : State) (p : Nat → Bool) : State :=
  (s.rst.given.filter (fun e => p e.1)).foldl (fun s e =>
    { s with regs := SMap.set s.regs 0 e.1 e.2, act := SMap.set s.act 0 e.1 e.2 }) s

/-! ### Sources (R399, R401, R404, R405) -/

/-- Bits of RST_CAUSE. -/
def RC.COLD_PIN : Nat := 1
def RC.WARM_PIN : Nat := 2
def RC.WATCHDOG : Nat := 3
def RC.FATAL : Nat := 4
def RC.CMD_WARM : Nat := 5
def RC.PERST : Nat := 6
def RC.PTN_FUND : Nat := 7
def RC.PTN_HOT : Nat := 8
def RC.FLR : Nat := 9
def RC.AS_COLD : Nat := 10

/-- A recognised source sets its cause bit. -/
def State.cause (s : State) (b : Nat) : State := s.wr R.RST_CAUSE (putField (s.rd R.RST_CAUSE) b 1 1)

/-- Every source acts with Cold reach (R401). -/
def State.widened (s : State) : Bool :=
  !s.bit R.RST_CTL F.RST_CTL_SYSTEM_READY || s.bit R.RST_STATUS F.RST_STATUS_RECOVERY || s.bit R.RST_STATUS F.RST_STATUS_TEST

/-- A source stays asserted, or is released (R404). -/
def State.holdSource (s : State) (key : Nat) (cold : Bool) : State :=
  { s with rst := { s.rst with held := s.rst.held.filter (fun e => e.1 != key) ++ [(key, cold)] } }
def State.freeSource (s : State) (key : Nat) : State := { s with rst := { s.rst with held := s.rst.held.filter (fun e => e.1 != key) } }

/-- An asserted source holds the Cold domains. -/
def State.coldHeld (s : State) : Bool := s.rst.held.any (·.2)

/-- LAST_REACH: the widest reach of the most recent sequence (R404); while one runs, a wider source widens it. -/
def State.reached (s : State) (r : Nat) : State :=
  let running := s.get R.RST_DOMAIN F.RST_DOMAIN_IN_RESET != 0 || s.bit R.RST_STATUS F.RST_STATUS_WARM_ENTRY
  s.put R.RST_CAUSE F.RST_CAUSE_LAST_REACH (if running then min r (s.get R.RST_CAUSE F.RST_CAUSE_LAST_REACH) else r)

/-- Fields that report services which a Cold reset leaves running (R400). -/
def liveFields : List (RegRef × Fld) :=
  [(R.EMB_STATUS, F.EMB_STATUS_XTAL_OK), (R.EMB_STATUS, F.EMB_STATUS_PLL_LOCK), (R.EMB_STATUS, F.EMB_STATUS_REFCLK_OK),
   (R.PWR_STATUS, F.PWR_STATUS_SEL), (R.PWR_STATUS, F.PWR_STATUS_LOWV), (R.PWR_STATUS, F.PWR_STATUS_BREAK),
   (R.PWR_STATUS, F.PWR_STATUS_VBUS), (R.PWR_STATUS, F.PWR_STATUS_P_MOD),
   (R.PWR_FEEDSTAT 0, F.PWR_FEEDSTAT_STATE), (R.PWR_FEEDSTAT 0, F.PWR_FEEDSTAT_VIN), (R.PWR_FEEDSTAT 0, F.PWR_FEEDSTAT_IIN),
   (R.PWR_FEEDSTAT 1, F.PWR_FEEDSTAT_STATE), (R.PWR_FEEDSTAT 1, F.PWR_FEEDSTAT_VIN), (R.PWR_FEEDSTAT 1, F.PWR_FEEDSTAT_IIN),
   (R.HLD_STATUS, F.HLD_STATUS_VRES), (R.HLD_STATUS, F.HLD_STATUS_HLD_OK), (R.HLD_STATUS, F.HLD_STATUS_CHARGING),
   (R.HLD_STATUS, F.HLD_STATUS_CAP_VALID), (R.HLD_STATUS, F.HLD_STATUS_HOLDING), (R.HLD_STATUS, F.HLD_STATUS_CAP)]

/-- Byte memories that a Warm reset leaves: gather store, local memory, program banks and NAND (R129, R199); Cold leaves NAND alone. -/
def memKept (cold : Bool) (a : Nat) : Bool :=
  decide (MB.nand ≤ a) ||
    (!cold && (decide (a < MB.cell) || (decide (MB.localMem ≤ a) && decide (a < MB.jackMem)) ||
      (decide (MB.gprog 0 ≤ a) && decide (a < MB.jprog 0))))

/-- Reset is asserted with Cold reach (R400, R404, R409): steps 3 to 10 are held, a warm entry ends, and the load starts again. -/
def State.coldAssert (s : State) : State :=
  let t : State := {
    regs := resetTable true s.regs, act := resetTable true s.act, mem := SMap.keep s.mem (memKept true)
    freeCtr := s.freeCtr, out := s.out, pending := s.pending
    prt := { perst := s.prt.perst }
    rst := { s.rst with core0 := false, given := [] }
    pow := { s.pow with outside := s.pow.outside, withdrawn := [], capOver := false, hldLow := false, hot := s.pow.hot,
                        limiting := SMap.keep s.pow.limiting (fun k => decide (k < 2)) } }
  let t := liveFields.foldl (fun t e => t.put e.1 e.2 (s.get e.1 e.2)) t
  (t.put R.RST_CAUSE F.RST_CAUSE_LAST_REACH 0).put R.RST_DOMAIN F.RST_DOMAIN_IN_RESET 0x3FC

/-- A source of Partition or Function reach (LAST_REACH code `reach`) with its cause bit: during a quench it only sets the bit, widened it
acts as Cold, else `k` says what it does (R399, R401, R405). -/
def State.narrowSource (s : State) (bit reach : Nat) (k : State → State) : State :=
  let s := s.cause bit
  if s.rst.quench ≠ 0 then s
  else if s.widened then (s.cause RC.AS_COLD).coldAssert
  else k (s.reached reach)

end Sys2Proof.Machine
end

