-- ==== Sys2Proof/Machine/Flr.lean ====
section
/-!
DEFINITION. Function-level reset (R83, R255, R256). Its steps 1 to 3 run when it begins, its steps 4 to 6 when it ends.
-/
namespace Sys2Proof.Machine

/-- The partition of a function, whether or not the function now exists (R240). -/
def State.fnHome (s : State) (f : Nat) : Nat := if f = 0 then s.mgmtPt else s.get (R.QEP_VFMAP f) F.QEP_VFMAP_PT

/-- Queues of a function in its own partition. -/
def State.ownQueues (s : State) (f : Nat) : List Nat := s.queuesWhere (fun fn pt => fn == f && pt == s.fnHome f)

/-- Every packet record in the crucible goes through `g`. -/
def State.mapPkts (s : State) (g : Pkt → Pkt) : State :=
  let m (t : SMap (List Pkt)) : SMap (List Pkt) := t.map (fun e => (e.1, e.2.map g))
  { s with cru := { s.cru with coqs := m s.cru.coqs, staged := m s.cru.staged, unacked := m s.cru.unacked, epHeld := s.cru.epHeld.map g } }

/-- The control block of a queue takes its reset values, and with it the pointers and counts that go with it (R71, R83). -/
def State.clearBlock (s : State) (q : Nat) : State :=
  let s := s.mapPkts (fun x => if x.role = .cqEntry q then { x with role := .endpoint } else x)
  let away (a : Nat) : Bool := !(decide (0x100000000 + 0x80 * q ≤ a) && decide (a < 0x100000080 + 0x80 * q))
  let s := { s with regs := SMap.keep s.regs away, act := SMap.keep s.act away }
  { s with que := { s.que with
      claim := SMap.set s.que.claim 0 q 0, claimPass := SMap.set s.que.claimPass 0 q 0,
      cqPass := SMap.set s.que.cqPass 0 q 0, cqFly := SMap.set s.que.cqFly 0 q 0,
      cqMod := SMap.set s.que.cqMod 0 q 0, rxMod := SMap.set s.que.rxMod 0 q 0 } }

/-- A delivery into a ring of a function in its reset stops: no further writes and no header, QUEUE_FLUSHED to its source (R255). -/
def State.stopDelivery (s : State) (d : Delivery) : State :=
  let s := s.delDel d.id
  let s := if d.phase = .reading then s.pbufRelease d.pkt.localSrc d.pkt.gobs else s
  (s.outcome d.pkt ST.QUEUE_FLUSHED 0).creditReturn d.id

/-- A queue after the flush of its owner's reset: DISABLED, or HELD over DISABLED where a partition reset meets a partition that stays
held (R83, R239). -/
def State.resetQueue (s : State) (keepHeld : Bool) (q : Nat) : State :=
  let held := keepHeld && s.qstate q == QS.HELD
  let s := { s with que := { s.que with prev := SMap.set s.que.prev 0 q (if held then QS.DISABLED + 1 else 0) } }
  (if held then s else s.setQstate q QS.DISABLED).clearBlock q

/-- A reset of the PF discards its pending side-bridge read completions; its accepted writes are still carried out (R337). -/
def State.sideForget (s : State) : State :=
  let l := s.lth.reqs.map (fun r => if !r.write && (match r.who with | .host _ => true | _ => false) && oFn r.origin == 0 then { r with who := .gone } else r)
  { s with lth := { s.lth with reqs := l } }

/-- Steps 1 to 3 of a reset of function `f` (R255): its queues show DRAINED, if they are not HELD, until they become DISABLED when it ends. -/
def State.flrBegin (s : State) (f : Nat) : State :=
  if s.flrActive f then s
  else
    let s := if f = 0 then s.sideForget else s
    let s := s.setBit (R.QEP_FNSTAT f) F.QEP_FNSTAT_FLR_ACTIVE
    let s := s.moveFail CST.RESET (fun s k => s.cmdArg k 0 0 13 == f || s.cmdArg k 0 16 13 == f)
    let qs := s.ownQueues f
    let s := qs.foldl State.abandonFetches s
    let s := qs.foldl (fun s q => if s.qstate q = QS.HELD then s else s.setQstate q QS.DRAINED) s
    let s := qs.foldl State.flushQueue s
    let ds := s.que.dels.filter (fun d => !s.goesRemote d.pkt && qs.contains d.q)
    ds.foldl State.stopDelivery s

/-- Configuration space after a reset of function `f`: BAR2 takes the size its register names, sticky AER bits stay (R250, R255). The size of
the SR-IOV VFs' BAR2 is taken at a reset of the PF, whose capability holds that BAR (log entry 118). -/
def State.fnReset (s : State) (f : Nat) : State :=
  let c := s.fn f
  let size := if f = 0 then clampLog2 (s.get R.QEP_CTL F.QEP_CTL_PF2_LOG2) else clampLog2 (s.get (R.QEP_VFMAP f) F.QEP_VFMAP_BAR2_LOG2)
  let s := if f = 0 then s.wrAct R.QEP_CTL (s.rd R.QEP_CTL) else s
  s.setFn f { (fnDefault f) with
    bar2Log2 := size, aerUnc := c.aerUnc, aerCor := c.aerCor, aerMask := c.aerMask, aerSev := c.aerSev, aerCorMask := c.aerCorMask,
    vf2Log2 := if f = 0 then clampLog2 (s.get R.QEP_VFBAR F.QEP_VFBAR_VF2_LOG2) else (fnDefault f).vf2Log2 }

/-- MSI-X entries are masked and the pending bits cleared (R255). -/
def State.msixReset (s : State) (f : Nat) : State :=
  let s := { s with regs := SMap.keep s.regs (fun a => !(decide (0x400000000 + 0x10000 * f ≤ a) && decide (a < 0x400010000 + 0x10000 * f))) }
  { s with prt := { s.prt with pba := SMap.keep s.prt.pba (fun k => k / 2048 != f) } }

/-- The leases of a function are released (R86, R128, R341, R348). -/
def State.fnLeases (s : State) (f : Nat) : State :=
  let tag := s.origin (s.fnHome f) f 0 0
  let s := s.forceAll tag 0x007FFFFF
  s.mbxResetHosts (fun pt fn => fn == f && pt == s.fnHome f)

/-- A hot reset of a partition ends when the reset of every function in it has ended; out of all resets the partition is released
(R233, R234). RST_SRC bit 0 PERST_N, bit 1 FUND_ASSERT, bit 2 hot reset. -/
def State.ptnSettle (s : State) (pt : Nat) : State :=
  let r := R.PTN_STATE pt
  let src := s.get r F.PTN_STATE_RST_SRC
  let busy := (List.range 4097).any (fun f => s.flrActive f && s.fnHome f == pt)
  let src := if busy then src else src % 4
  (s.put r F.PTN_STATE_RST_SRC src).put r F.PTN_STATE_IN_RESET (bit01 (src != 0))

/-- The end of step 3 and steps 4 to 6 of the reset of function `f`; a DETACH that waited for it is then applied (R243, R255). -/
def State.flrEnd (s : State) (f : Nat) : State :=
  if !s.flrActive f then s
  else
    let keepHeld := s.ptInReset (s.fnHome f) && s.ptHeld (s.fnHome f)
    let s := (s.ownQueues f).foldl (State.resetQueue · keepHeld) s
    let s := ((s.fnLeases f).fnReset f).msixReset f
    let s := (s.put (R.QEP_FNSTAT f) F.QEP_FNSTAT_FLR_ACTIVE 0).bump (R.QEP_FNSTAT f) F.QEP_FNSTAT_FLRS 1
    let pt := s.fnHome f
    let s := if s.prt.detach.contains f then
        let s := { s with prt := { s.prt with detach := s.prt.detach.filter (· != f) } }
        let s := s.wr (R.QEP_VFMAP f) 0
        if s.prt.detach.isEmpty then s.put R.QEP_STATUS F.QEP_STATUS_CMD_BUSY 0 else s
      else s
    s.ptnSettle pt

/-- Functions that appear in a partition, in increasing number (R240). -/
def State.fnsOf (s : State) (pt : Nat) : List Nat := (List.range 4097).filter (fun f => s.fnPt f == some pt)

/-- VFs that exist (R240). -/
def State.vfs (s : State) : List Nat := (List.range 4097).filter s.vfExists

/-- Function-level resets of the functions `fs` as a reset source (R399, R401). -/
def State.flrSource (s : State) (fs : List Nat) : State :=
  s.narrowSource RC.FLR 3 (fun s => fs.foldl State.flrBegin s)

/-- A write of Initiate FLR: ignored while one is in progress; a reset of the PF resets the VFs with it (R255, R256). -/
def State.flrInitiate (s : State) (f : Nat) : State :=
  if s.flrActive f then s else s.flrSource (f :: (if f = 0 then s.vfs else []))

def execFlrInitiate (f : Fin 4097) (s : State) : Host.Outcome State Fault Refusal := .next (s.flrInitiate f.val)

/-- The steps of an FLR end (R255). -/
def execFlrEnd (f : Fin 4097) (s : State) : Host.Outcome State Fault Refusal := .next (s.flrEnd f.val)

end Sys2Proof.Machine
end

