-- ==== Sys2Proof/Machine/Ports.lean ====
section
/-!
DEFINITION. Host partitions (R222, R223, R233 to R239): resets of a partition, the containment of its ports and of itself, and the fields
that a host writes in its bridges.
-/
namespace Sys2Proof.Machine

/-! ### Partition resets (R233 to R235) -/

/-- Bits of RST_SRC. -/
def RS.PERST : Nat := 0
def RS.FUND : Nat := 1
def RS.HOT : Nat := 2

/-- A link of a partition goes to Detect: its data link layer is down and its traffic is flushed. -/
def State.linkToDetect (s : State) (p : Nat) : State :=
  let s := (s.emit (.link p LK.DETECT)).flushPort p
  (s.put (R.PRT_STATUS p) F.PRT_STATUS_LINK_UP 0).put (R.PRT_LINKSTAT p) F.PRT_LINKSTAT_STATE LS.DETECT

/-- The effects of a partition reset (R233, R234), which releases the leases of the partition (R86, R128, R348); claims of mailboxes end with their functions (R341); `up` says whether the upstream link goes to Detect. -/
def State.ptnResetEffects (s : State) (pt : Nat) (up : Bool) : State :=
  let s := s.shutPartition pt true
  let tag := s.origin pt 0 0 0
  let s := ((s.forceGst tag 0x000003FF).forceCmd tag 0x000003FF).forceQueueLocks tag 0x000003FF
  let s := { s with prt := { s.prt with bridges := SMap.keep s.prt.bridges (fun k => k / 1024 != pt) } }
  let s := match s.upPort pt with
    | some p => if up then (s.linkToDetect p).put (R.PTN_STATE pt) F.PTN_STATE_UPLINK 0 else s
    | none => s
  let s := (s.downPorts pt).foldl (fun s p => (s.emit (.link p LK.HOT_RESET)).linkToDetect p) s
  (s.fnsOf pt).foldl State.flrBegin s

/-- A source of reset of partition `pt` is asserted (R233, R234). A source that is asserted already adds nothing, nor does a hot reset
while a fundamental reset is asserted. -/
def State.ptnReset (s : State) (pt src : Nat) (up : Bool) : State :=
  let r := R.PTN_STATE pt
  let now := s.get r F.PTN_STATE_RST_SRC
  if bitOf now src || (src == RS.HOT && now != 0) then s
  else
    let s := (s.put r F.PTN_STATE_RST_SRC (now + 2 ^ src)).put r F.PTN_STATE_IN_RESET 1
    let s := if now = 0 ∨ src ≠ RS.HOT then s.ptnResetEffects pt up else s
    s.ptnSettle pt

/-- A source of fundamental reset is released (R233). -/
def State.ptnRelease (s : State) (pt src : Nat) : State :=
  let r := R.PTN_STATE pt
  let now := s.get r F.PTN_STATE_RST_SRC
  if bitOf now src then (s.put r F.PTN_STATE_RST_SRC (now - 2 ^ src)).ptnSettle pt else s

/-- PTN_RSTCMD FUND_ASSERT (R233). -/
def execPtnFundAssert (pt : Fin 64) (s : State) : Host.Outcome State Fault Refusal :=
  .next (s.narrowSource RC.PTN_FUND 2 (fun s =>
    ({ s with prt := { s.prt with fundCmd := SMap.set s.prt.fundCmd 0 pt.val 1 } }).ptnReset pt.val RS.FUND true))

/-- A hot reset of a partition as a reset source (R234, R399). -/
def State.ptnHot (s : State) (pt : Nat) (up : Bool) : State := s.narrowSource RC.PTN_HOT 2 (fun s => s.ptnReset pt RS.HOT up)

/-- Partitions whose PERST_SEL names a pin (R233). -/
def State.perstParts (s : State) (i : Nat) : List Nat :=
  (List.range 64).filter (fun pt => s.get (R.PTN_CFG pt) F.PTN_CFG_PERST_SEL == i)

/-- Pin `i`, which is low, comes to reset the partitions `pts` (R233, R401). -/
def State.perstReset (s : State) (i : Nat) (pts : List Nat) : State :=
  if pts.isEmpty then s
  else
    let wide := s.widened
    let s := s.narrowSource RC.PERST 2 (fun s => pts.foldl (fun s pt => s.ptnReset pt RS.PERST true) s)
    if wide then s.holdSource (16 + i) true else s

/-- PERST_SEL of partition `pt` moves from one pin to another: what it now names counts at once (R17, R233). -/
def State.perstMoved (s : State) (pt old new : Nat) : State :=
  let low (i : Nat) : Bool := decide (i < 16) && SMap.get s.prt.perst 0 i == 1
  if low old && !low new then s.ptnRelease pt RS.PERST
  else if low new && !low old then s.perstReset new [pt]
  else s

/-- A PERST_N pin is recognised low (R233, R402): a source when some PERST_SEL names it; with Cold reach it holds until it is high. -/
def execPerstAssert (i : Fin 16) (s : State) : Host.Outcome State Fault Refusal :=
  if SMap.get s.prt.perst 0 i.val = 1 then .next s
  else
    let s := { s with prt := { s.prt with perst := SMap.set s.prt.perst 0 i.val 1 } }
    .next (s.perstReset i.val (s.perstParts i.val))

/-- A PERST_N pin is recognised high: its partitions may be released (R233, R404). -/
def execPerstRelease (i : Fin 16) (s : State) : Host.Outcome State Fault Refusal :=
  if SMap.get s.prt.perst 0 i.val = 0 then .next s
  else
    let s := { s with prt := { s.prt with perst := SMap.set s.prt.perst 0 i.val 0 } }
    let s := s.freeSource (16 + i.val)
    .next ((List.range 64).foldl (fun s pt => if s.get (R.PTN_CFG pt) F.PTN_CFG_PERST_SEL = i.val then s.ptnRelease pt RS.PERST else s) s)

/-- PTN_RSTCMD FUND_RELEASE; without a FUND_ASSERT it sets BADCMD (R233, PTN_RSTCMD). -/
def execPtnFundRelease (pt : Fin 64) (s : State) : Host.Outcome State Fault Refusal :=
  if SMap.get s.prt.fundCmd 0 pt.val = 0 then .next (s.setBit R.PTN_STATUS F.PTN_STATUS_BADCMD)
  else .next (({ s with prt := { s.prt with fundCmd := SMap.set s.prt.fundCmd 0 pt.val 0 } }).ptnRelease pt.val RS.FUND)

/-- PTN_RSTCMD HOT (R234). -/
def execPtnHot (pt : Fin 64) (s : State) : Host.Outcome State Fault Refusal := .next (s.ptnHot pt.val false)

/-- Hot Reset in training sets on an upstream port (R234). -/
def execHotResetReceived (p : Fin 256) (s : State) : Host.Outcome State Fault Refusal :=
  .next (if s.role p.val = ROLE.UPSTREAM then s.ptnHot (s.portPt p.val) false else s)

/-! ### Containment (R236) -/

/-- A link goes down: counted, and its data link layer is down. -/
def State.linkLost (s : State) (p : Nat) : State :=
  (s.bump (R.PRT_LINKSTAT p) F.PRT_LINKSTAT_DOWNS 1).put (R.PRT_STATUS p) F.PRT_STATUS_LINK_UP 0

/-- A DPC trigger in a downstream bridge whose host enabled DPC holds the port (R236); `reason` is the standard's trigger reason. -/
def execPortDpc (p : Fin 256) (reason : Fin 3) (s : State) : Host.Outcome State Fault Refusal :=
  let p := p.val
  if s.role p ≠ ROLE.DOWNSTREAM ∨ !(s.bridge (s.portBridge p)).dpcEn then .next s
  else
    let s := s.holdPort p 1 reason.val
    .next (s.report FC.PORT_DPC UK.port p 0 0 0)

/-- The link of an upstream port goes down: the partition is held, then hot-reset (R236). -/
def execPtnUplink (p : Fin 256) (s : State) : Host.Outcome State Fault Refusal :=
  let p := p.val
  let pt := s.portPt p
  if s.role p ≠ ROLE.UPSTREAM ∨ !s.bit (R.PRT_STATUS p) F.PRT_STATUS_LINK_UP then .next s
  else
    let s := ((s.linkLost p).put (R.PTN_STATE pt) F.PTN_STATE_UPLINK 0).holdPartition pt
    .next ((s.report FC.PTN_UPLINK UK.partition pt 0 p 0).ptnHot pt true)

/-! ### Bridges (R223, R232, R234 to R237) -/

/-- A bridge of a partition exists in the active bank (R222). -/
def State.bridgeExists (s : State) (pt : Nat) (b : BridgeRef) : Bool :=
  s.bitAct (R.PTN_CFG pt) F.PTN_CFG_EN && match b with
  | .down p => s.role p.val == ROLE.DOWNSTREAM && s.portPt p.val == pt
  | _ => true

def refKey (pt : Nat) : BridgeRef → Nat
  | .up => upKey pt
  | .ep => epKey pt
  | .down p => dnKey pt p.val

/-- The fields that are applied as a forwarding-domain update (R223). -/
def bridgeRoutes : BridgeField → Bool
  | .mps _ | .sbr _ | .dpcEn _ | .power _ | .slotClear _ _ => false
  | _ => true

/-- A bridge with one field written. -/
def Bridge.write (b : Bridge) : BridgeField → Bridge
  | .bus pri sec sub => { b with pri := pri.toNat, sec := sec.toNat, sub := sub.toNat }
  | .mem base limit => { b with memBase := base.toNat, memLimit := limit.toNat }
  | .pref base limit => { b with prefBase := base.toNat, prefLimit := limit.toNat }
  | .command mse bme => { b with mse := mse, bme := bme }
  | .acs v => { b with acs := v.toNat }
  | .linkCtl v => { b with linkCtl := v.toNat }
  | .mps c => { b with mps := c.val }
  | .sbr v => { b with sbr := v }
  | .dpcEn v => { b with dpcEn := v }
  | .power off => { b with pwrOff := off }
  | .slotClear fault changed => { b with pwrFault := b.pwrFault && !fault, presChange := b.presChange && !changed }

/-- What a write of a bridge field sets off beside the field itself (R223, R232, R234). Link Disable and Retrain Link of a downstream bridge
direct its link, as the standard says (PRESUMED, log entry 30); its other link controls have no effect here. -/
def State.bridgeEffect (s : State) (pt : Nat) (b : BridgeRef) (f : BridgeField) (before : Bridge) : State :=
  match b, f with
  | .up, .sbr true => if before.sbr then s else s.ptnHot pt false
  | .down p, .sbr true =>
    if before.sbr then s
    else
      let s := (s.emit (.link p.val LK.HOT_RESET)).flushPort p.val
      (s.put (R.PRT_STATUS p.val) F.PRT_STATUS_LINK_UP 0).put (R.PRT_LINKSTAT p.val) F.PRT_LINKSTAT_STATE LS.HOT_RESET
  | .down p, .linkCtl v =>
    let off := bitOf v.toNat 4
    let s := if off && !bitOf before.linkCtl 4 then s.emit (.link p.val LK.DISABLED)
      else if !off && bitOf before.linkCtl 4 then s.emit (.link p.val LK.DETECT) else s
    if bitOf v.toNat 5 then s.emit (.link p.val LK.RETRAIN) else s
  | .down p, .power _ =>
    if s.bit (R.PRT_SLOT p.val) F.PRT_SLOT_SLOT_EN then s.slotRequest (s.get (R.PRT_SLOT p.val) F.PRT_SLOT_CHAN) else s
  | _, _ => s

end Sys2Proof.Machine
end

