-- ==== Sys2Proof/Machine/Bridges.lean ====
section
/-!
DEFINITION. Configuration space of the bridges (R222, R223, R231, R232, R236): where they stand on their buses, what their dwords read and
what a write of a dword does. Offsets inside a capability, capability IDs and register layouts that the manual takes from the PCI Express
Base Specification are presumed from it (log entry 30).
-/
namespace Sys2Proof.Machine

/-! ### Where the bridges stand (R222) -/

/-- The bridge of a partition that an ID names: the upstream bridge at device 0 of its primary bus, the endpoint bridge at device 0 and the
downstream bridges at devices 1 upward of the internal bus (R222). -/
def State.bridgeAt (s : State) (pt dest : Nat) : Option BridgeRef :=
  let up := s.bridge (upKey pt)
  if dest = up.pri * 256 then some .up
  else if up.sec = 0 then none
  else if dest = up.sec * 256 then some .ep
  else ((s.downPorts pt).find? (fun p => s.downId pt p == dest)).map (fun p => .down (Fin.ofNat 256 p))

/-- The port of a bridge, if it has one. -/
def State.portOfBridge (s : State) (pt : Nat) : BridgeRef → Option Nat
  | .up => s.upPort pt
  | .ep => none
  | .down p => some p.val

/-! ### Link registers (R231, R249, R271) -/

/-- Highest rate of a port as the standard codes it. -/
def State.maxSpeed (s : State) (p : Nat) : Nat := min 5 (s.get (R.PRT_LINKCFG p) F.PRT_LINKCFG_MAX_RATE) + 1

/-- Link Capabilities of a port and the bits the manual leaves open (L1 exit latency, bandwidth notification, port number): maximum speed and
width, ASPM L1, and L0s with its exit latency, the 125 ns of R270, while it is advertised. -/
def State.linkCaps (s : State) (p : Nat) (down : Bool) : Nat × Nat :=
  let l0s := s.bit (R.PRT_LINKCFG p) F.PRT_LINKCFG_L0S_EN
  (s.maxSpeed p + s.confWidth p * 2 ^ 4 + bit01 l0s * 2 ^ 10 + 2 ^ 11 + bit01 l0s * 2 ^ 12 + bit01 down * 2 ^ 20, 0xFF6B8000)

/-- Link Status of a port in the upper half of a dword, and the bits left open: current speed and width, and on a downstream port Data Link
Layer Link Active (R231, R232). -/
def State.linkStat (s : State) (p : Nat) (down : Bool) : Nat × Nat :=
  ((s.get (R.PRT_LINKSTAT p) F.PRT_LINKSTAT_RATE + 1) * 2 ^ 16 + s.get (R.PRT_LINKSTAT p) F.PRT_LINKSTAT_WIDTH * 2 ^ 20
    + bit01 (down && s.bit (R.PRT_STATUS p) F.PRT_STATUS_LINK_UP) * 2 ^ 29, 0xD8000000)

/-- A value whose bits under `m` are free and whose other bits are those of `v`. -/
def State.openBits (s : State) (v m : Nat) : Nat × State :=
  if m = 0 then (v, s)
  else
    let (x, s) := s.free
    (v - Nat.land v m + Nat.land x m, s)

/-! ### Capabilities (R222) -/

/-- Capabilities of the bridges: offset, ID, version, and whether the upstream bridge, the endpoint bridge and a downstream bridge have
it (R222). -/
def bridgeCaps : List (Nat × Nat × Nat × Bool × Bool × Bool) :=
  [(0x40, 0x01, 3, true, true, true), (0x50, 0x05, 0, false, false, true), (0x70, 0x10, 2, true, true, true),
   (0x100, 0x01, 2, true, true, true), (0x148, 0x0D, 1, false, true, true), (0x150, 0x1D, 1, false, false, true),
   (0x170, 0x19, 1, true, false, true), (0x1A0, 0x25, 1, true, false, true), (0x1B0, 0x26, 1, true, false, true),
   (0x1F0, 0x2A, 1, true, false, true), (0x240, 0x31, 1, true, false, true), (0x260, 0x27, 1, true, false, true),
   (0x2B0, 0x02, 1, true, false, true)]

/-- The bridge has a capability of the list. -/
def capOf (b : BridgeRef) (e : Nat × Nat × Nat × Bool × Bool × Bool) : Bool :=
  match b with
  | .up => e.2.2.2.1
  | .ep => e.2.2.2.2.1
  | .down _ => e.2.2.2.2.2

/-- Header dword of a capability: ID, next pointer, version. -/
def capHeader (b : BridgeRef) (off : Nat) : Option Nat :=
  match bridgeCaps.find? (fun e => e.1 == off && capOf b e) with
  | none => none
  | some (_, id, ver, _) =>
    let later := bridgeCaps.filter (fun e => decide (off < e.1) && capOf b e && decide (off < 0x100 ↔ e.1 < 0x100))
    let next := (later.head?.map (·.1)).getD 0
    some (if off < 0x100 then id + next * 2 ^ 8 + (if off = 0x50 then 2 ^ 7 else ver) * 2 ^ 16 else id + ver * 2 ^ 16 + next * 2 ^ 20)

/-- Device ID of a bridge. -/
def bridgeId : BridgeRef → Nat
  | .up => 0x5121
  | .ep => 0x5122
  | .down _ => 0x5123

/-! ### Dwords -/

def downRef : BridgeRef → Bool
  | .down _ => true
  | _ => false

/-- The bits of a dword that the standard lets a host write and that have no effect of their own here. -/
def bridgeRw (r : BridgeRef) (off : Nat) : Nat :=
  match off with
  | 0x04 => 0x540
  | 0x0C => 0xFF
  | 0x3C => 0x300FF
  | 0x44 => 0x103
  | 0x50 => if downRef r then 0x10000 else 0
  | 0x54 => if downRef r then 0xFFFFFFFC else 0
  | 0x58 => if downRef r then 0xFFFFFFFF else 0
  | 0x5C => if downRef r then 0xFFFF else 0
  | 0x78 => 0x711F
  | 0x88 => if downRef r then 0x1BFF else 0
  | 0x98 => if r = .up then 0x1380 else 0x13A0
  | 0xA0 => if r = .ep then 0 else 0xFFFF
  | 0x108 | 0x10C => 0x07FFF030
  | 0x114 => 0xF1C1
  | 0x118 => 0x140
  | 0x154 => if downRef r then 0x1F0000 else 0
  | 0x158 => if downRef r then 8 else 0
  | _ => 0

/-- Their reset values: those of the standard. -/
def State.bridgeRst (s : State) (pt : Nat) (r : BridgeRef) (off : Nat) : Nat :=
  match off with
  | 0x78 => 2 * 2 ^ 12
  | 0xA0 => ((s.portOfBridge pt r).map s.maxSpeed).getD 0
  | 0x108 => 0x00400000
  | 0x10C => 0x00462030
  | 0x114 => 0x2000
  | _ => 0

/-- The written bits of a dword. -/
def State.bridgeRaw (s : State) (pt : Nat) (r : BridgeRef) (off : Nat) : Nat :=
  Nat.xor (SMap.get (s.bridge (refKey pt r)).raw 0 off) (s.bridgeRst pt r off)

/-- What the slot of a downstream bridge reads (R232): the capability bits, and the upper half of Slot Status; slot number, power limit and the
events the manual does not name are open. -/
def State.slotCaps (s : State) (p : Nat) : Nat × Nat :=
  if s.bit (R.PRT_SLOT p) F.PRT_SLOT_SLOT_EN then (2 + 2 ^ 6, 0xFFFFFFA0) else (0, 0)
def State.slotStat (s : State) (p : Nat) (b : Bridge) : Nat × Nat :=
  if s.bit (R.PRT_SLOT p) F.PRT_SLOT_SLOT_EN then
    (bit01 b.pwrOff * 2 ^ 10 + bit01 b.pwrFault * 2 ^ 17 + bit01 b.presChange * 2 ^ 19
      + bit01 (s.chanPresent (s.get (R.PRT_SLOT p) F.PRT_SLOT_CHAN)) * 2 ^ 22, 2 ^ 20 + 2 ^ 24)
  else (0, 0)

/-- A dword of a bridge's configuration space beside the bits that are only kept, and the bits that the manual leaves to the standard. -/
def State.bridgeFixed (s : State) (pt : Nat) (r : BridgeRef) (off : Nat) : Nat × Nat :=
  let b := s.bridge (refKey pt r)
  match off with
  | 0x00 => (0xF3C5 + bridgeId r * 2 ^ 16, 0)
  | 0x04 => (bit01 b.mse * 2 + bit01 b.bme * 4 + 2 ^ 20, 0xF9000000)
  | 0x08 => (0x060400 * 2 ^ 8, 0xFF)
  | 0x0C => (1 * 2 ^ 16, 0)
  | 0x18 => (b.pri % 256 + b.sec % 256 * 2 ^ 8 + b.sub % 256 * 2 ^ 16, 0)
  | 0x1C => (0, 0xF9000000)
  | 0x20 => (b.memBase / 2 ^ 20 % 2 ^ 12 * 2 ^ 4 + b.memLimit / 2 ^ 20 % 2 ^ 12 * 2 ^ 20, 0)
  | 0x24 => (1 + b.prefBase / 2 ^ 20 % 2 ^ 12 * 2 ^ 4 + 2 ^ 16 + b.prefLimit / 2 ^ 20 % 2 ^ 12 * 2 ^ 20, 0)
  | 0x28 => (b.prefBase / 2 ^ 32 % 2 ^ 32, 0)
  | 0x2C => (b.prefLimit / 2 ^ 32 % 2 ^ 32, 0)
  | 0x30 => (0, 0)
  | 0x34 => (0x40, 0)
  | 0x3C => (bit01 b.sbr * 2 ^ 22, 0)
  | 0x44 => (2 ^ 3, 0)
  | 0x54 | 0x58 | 0x5C => (0, if downRef r then 0 else 0xFFFFFFFF)
  | 0x70 =>
    let slot := match r with | .down p => bit01 (s.bit (R.PRT_SLOT p.val) F.PRT_SLOT_SLOT_EN) | _ => 0
    ((capHeader r off).getD 0 + (if r = .up then 5 else 6) * 2 ^ 20 + slot * 2 ^ 24
      + bit01 (r != .ep) * 2 ^ 31, if r = .ep then 0xFE000000 else 0x7E000000)
  | 0x74 => (5 + 2 ^ 5 + 2 ^ 15, 0)
  | 0x78 => (b.mps % 8 * 2 ^ 5 + b.devStat % 16 * 2 ^ 16, 0)
  | 0x7C => match s.portOfBridge pt r with
    | some p => s.linkCaps p (downRef r)
    | none => (0, 0xFFFFFFFF)
  | 0x80 => match s.portOfBridge pt r with
    | some p =>
      let (v, m) := s.linkStat p (downRef r)
      (v + Nat.land b.linkCtl 0xFFDF, m)
    | none => (0, 0xFFFFFFFF)
  | 0x84 => match r with
    | .down p => s.slotCaps p.val
    | _ => (0, 0)
  | 0x88 => match r with
    | .down p => s.slotStat p.val b
    | _ => (0, 0)
  | 0x94 => (bit01 (r != .up) * 2 ^ 5 + 2 ^ 6 + 2 ^ 16 + 2 ^ 17, 0)
  | 0x98 => (0, 0)
  | 0xA0 => (0, 0xFFFF0000)
  | 0x104 => (b.aerUnc, 0)
  | 0x108 | 0x10C | 0x114 => (0, 0)
  | 0x110 => (b.aerCor, 0)
  | 0x118 => (0xA0, 0x1F)
  | 0x14C => (if r = .up then 0 else 0x5F + b.acs % 2 ^ 16 * 2 ^ 16, if r = .up then 0xFFFFFFFF else 0)
  | 0x154 => (0, if downRef r then 0x10C0 + (if b.dpcEn && s.bridgeRaw pt r off / 2 ^ 16 % 4 == 0 then 0x30000 else 0) else 0xFFFFFFFF)
  | 0x158 => (if downRef r then bit01 b.dpcTrig + b.dpcReason % 4 * 2 + b.dpcReason / 4 % 4 * 2 ^ 5 else 0, if downRef r then 0 else 0xFFFFFFFF)
  | _ => match capHeader r off with
    | some v => (v, 0)
    | none => (0, 0xFFFFFFFF)

/-- A read of a dword of a bridge. -/
def State.bridgeRead (s : State) (pt : Nat) (r : BridgeRef) (off : Nat) : Nat × State :=
  let (v, m) := s.bridgeFixed pt r off
  s.openBits (v + Nat.land (s.bridgeRaw pt r off) (bridgeRw r off)) m

/-- One field of a bridge is written, with what that sets off. -/
def State.bridgeField (s : State) (pt : Nat) (r : BridgeRef) (f : BridgeField) : State :=
  let old := s.bridge (refKey pt r)
  (s.setBridge (refKey pt r) (old.write f)).bridgeEffect pt r f old

/-- The fields that a write of a dword holds: `v` is its new value, `m` the ones it writes. Clearing DPC Trigger Status is DPC_CLEAR (R238). -/
def Bridge.fieldsOf (b : Bridge) (r : BridgeRef) (off v m : Nat) : List BridgeField :=
  let f (lo w : Nat) : Nat := fieldOf v lo w
  match off with
  | 0x04 => [.command (bitOf v 1) (bitOf v 2)]
  | 0x18 => [.bus (BitVec.ofNat 8 v) (BitVec.ofNat 8 (f 8 8)) (BitVec.ofNat 8 (f 16 8))]
  | 0x20 => [.mem (BitVec.ofNat 64 (f 4 12 * 2 ^ 20)) (BitVec.ofNat 64 (f 20 12 * 2 ^ 20 + 0xFFFFF))]
  | 0x24 => [.pref (BitVec.ofNat 64 (b.prefBase / 2 ^ 32 * 2 ^ 32 + f 4 12 * 2 ^ 20))
      (BitVec.ofNat 64 (b.prefLimit / 2 ^ 32 * 2 ^ 32 + f 20 12 * 2 ^ 20 + 0xFFFFF))]
  | 0x28 => [.pref (BitVec.ofNat 64 (v * 2 ^ 32 + b.prefBase % 2 ^ 32)) (BitVec.ofNat 64 b.prefLimit)]
  | 0x2C => [.pref (BitVec.ofNat 64 b.prefBase) (BitVec.ofNat 64 (v * 2 ^ 32 + b.prefLimit % 2 ^ 32))]
  | 0x3C => if r = .ep then [] else [.sbr (bitOf v 22)]
  | 0x78 => [.mps ⟨f 5 3 % 8, Nat.mod_lt _ (by decide)⟩]
  | 0x80 => [.linkCtl (BitVec.ofNat 16 v)]
  | 0x88 => if downRef r then [.power (bitOf v 10), .slotClear (bitOf m 17) (bitOf m 19)] else []
  | 0x14C => if r = .up then [] else [.acs (BitVec.ofNat 16 (f 16 16))]
  | 0x154 => if downRef r then [.dpcEn (f 16 2 != 0)] else []
  | _ => []

/-- A write of a dword of a bridge: the bits that are only kept, the error bits that a one clears, then its fields. -/
def State.bridgeWrite (s : State) (pt : Nat) (r : BridgeRef) (off v m : Nat) : State :=
  let k := refKey pt r
  let b := s.bridge k
  let rw := bridgeRw r off
  let b' := { b with raw := SMap.set b.raw 0 off (Nat.land (Nat.xor v (s.bridgeRst pt r off)) rw) }
  let b' := match off with
    | 0x78 => { b' with devStat := b'.devStat - Nat.land b'.devStat (fieldOf m 16 4) }
    | 0x158 => { b' with raw := SMap.set b.raw 0 0x158 (SMap.get b.raw 0 0x158 - Nat.land (SMap.get b.raw 0 0x158) m) }
    | 0x104 => { b' with aerUnc := b'.aerUnc - Nat.land b'.aerUnc m }
    | 0x110 => { b' with aerCor := b'.aerCor - Nat.land b'.aerCor m }
    | _ => b'
  (b.fieldsOf r off v m).foldl (fun s f => s.bridgeField pt r f) (s.setBridge k b')

/-- A dword under a write with byte enables. -/
def merge32 (old v be : Nat) : Nat :=
  (List.range 4).foldl (fun x i => if bitOf be i then putField x (8 * i) 8 (fieldOf v (8 * i) 8) else x) old

/-! ### Requests of a host (R223, R235, R237) -/

/-- A partition's hierarchy cannot serve configuration yet: it is in reset, or a block it needs is (R34, R235). Its upstream port waits for the
octets' lane work, its functions for the endpoint and the queue path. -/
def State.cfgNotReady (s : State) (pt : Nat) : Bool :=
  s.ptInReset pt || s.bit R.QEP_STATUS F.QEP_STATUS_TRIM_WAIT || s.bit R.QUE_STATUS F.QUE_STATUS_TRIM_WAIT ||
    (match s.upPort pt with | some p => s.bit (R.PRT_STATUS p) F.PRT_STATUS_TRIM_WAIT | none => false)

/-- The completion of a configuration request, from the endpoint port. -/
def State.cfgReply (s : State) (pt rid tag : Nat) (st : CplStatus) (data : List Byte) : State :=
  s.answer pt rid tag 0 st data 0 .endpoint

/-- The completion of a write that is applied as a forwarding-domain update waits while that domain has COMMIT_PEND set (R223). -/
def State.bridgeDone (s : State) (pt rid tag : Nat) (routes : Bool) : State :=
  if routes && s.bit (R.GAF_EPSTAT 0) F.GAF_EPSTAT_COMMIT_PEND then
    { s with prt := { s.prt with cfgWait := s.prt.cfgWait ++ [(pt, rid, tag)] } }
  else s.cfgReply pt rid tag .sc []

/-- The host of a partition writes a field of a bridge (R223). In reset, and until its blocks run, it receives Configuration Request Retry
Status (R34, R235); a hold does not stop it (R237). -/
def execBridgeConfigWrite (pt : Fin 64) (rid : BitVec 16) (tag : BitVec 10) (b : BridgeRef) (f : BridgeField) (s : State) :
    Host.Outcome State Fault Refusal :=
  let p := pt.val
  if !s.bridgeExists p b then .next (s.cfgReply p rid.toNat tag.toNat .ur [])
  else if s.cfgNotReady p then .next (s.cfgReply p rid.toNat tag.toNat .crs [])
  else .next ((s.bridgeField p b f).bridgeDone p rid.toNat tag.toNat (bridgeRoutes f))

/-- A configuration request to a bridge: a read, or a write with its byte enables. -/
def State.bridgeRequest (s : State) (pt rid tag : Nat) (r : BridgeRef) (off : Nat) (w : Option (BitVec 32 × BitVec 4)) : State :=
  match w with
  | none =>
    let (v, s) := s.bridgeRead pt r off
    s.cfgReply pt rid tag .sc (leBytes v 4)
  | some (v, be) =>
    let old := (s.bridgeFixed pt r off).1 + Nat.land (s.bridgeRaw pt r off) (bridgeRw r off)
    let v' := merge32 old v.toNat be.toNat
    let m := merge32 0 v.toNat be.toNat
    let routes := ((s.bridge (refKey pt r)).fieldsOf r off v' m).any bridgeRoutes
    (s.bridgeWrite pt r off v' m).bridgeDone pt rid tag routes

end Sys2Proof.Machine
end

