-- ==== Sys2Proof/Machine/Fabric.lean ====
section
/-!
DEFINITION. Fabric transport (R304 to R323): sending to a remote queue, what arrives (PACKET, REPORT, REPL, PROBE), members, loss and
failover, route changes, and FTX_CMD. A train for this module stands in the endpoint-port COQ of its priority until the command
of its kind takes it from the head.
-/
namespace Sys2Proof.Machine

/-! ### Sending -/

def State.txSeq (s : State) (f : Nat) : Nat := s.get (R.FTX_FIDSEQ f) F.FTX_FIDSEQ_TX_NEXT

/-- A train toward member `f`, with this module's FID and GEN. -/
def State.parison (s : State) (kind f seq srcq dstq colour mt origin : Nat) (payload : List Byte) : List Byte :=
  mkParison kind s.fid f seq srcq dstq colour (s.get R.FTX_GEN F.FTX_GEN_GEN) mt origin payload

/-- A train is admitted to a COQ, or not; with its packet number. -/
def State.admitTrain (s : State) (bytes : List Byte) (q origin : Nat) : Option (Nat × State) :=
  let (pk, s) := s.newPkt .train (.par bytes) bytes.length origin 256 (q % 8) 0
  (s.admitPkt pk q).map (fun s => (pk.id, s))

/-- Replicated writes leave in the order they were performed while ENABLE is set (R304) and the route and the COQ take them; one toward a
partner that is no member, or lost, is dropped (R321). -/
def State.drainRepl (s : State) : Nat → State
  | 0 => s
  | fuel + 1 =>
    match s.gst.repl with
    | [] => s
    | (a, origin, bs) :: rest =>
      let f := s.get R.FTX_CTL F.FTX_CTL_PARTNER
      let next (s : State) : State := { s with gst := { s.gst with repl := rest } }
      if !s.bit R.FTX_CTL F.FTX_CTL_ENABLE then s
      else if !s.isMember f || s.memberState f == MS.LOST then
        ((next s).bump R.FTX_RPTCNT F.FTX_RPTCNT_REPL_DROP 1).drainRepl fuel
      else if s.memberState f = MS.WAITING then s
      else match s.routePort f with
        | none => s
        | some p =>
          let q := coqOfPort p (s.get R.FTX_CTL F.FTX_CTL_REPL_PRI)
          match s.admitTrain (s.parison PK.REPL f (s.txSeq f) 0 0 0 a origin bs) q origin with
          | none => s
          | some (_, s) =>
            let n := s.txSeq f
            let s := s.put (R.FTX_FIDSEQ f) F.FTX_FIDSEQ_TX_NEXT (n + 1)
            (next { s with fab := { s.fab with replSent := s.fab.replSent ++ [(f, n)] } }).drainRepl fuel

/-- Module to which trains for member `f` go: its partner while OVER is set (R320); a chain that leads back to itself has none. -/
def State.overTarget (s : State) (f : Nat) : Nat → Option Nat
  | 0 => none
  | fuel + 1 => if f != s.fid && s.memberOver f then s.overTarget (s.getAct (R.FTX_FIDMAP f) F.FTX_FIDMAP_ALT_FID) fuel else some f

/-- A packet of a fabric queue ends before it is sent: its credit returns at once (R309). -/
def State.fabricDrop (s : State) (x : Delivery) (status : Nat) : State :=
  ((s.delDel x.id).nodeCredit x.pnode x.charge).dropPkt x.pkt status 0

/-- Pending records the module has. -/
def pendMax : Nat := 131072

/-- FABRIC_SEND: the delivery engine builds the parison train of a packet of a fabric queue, sends it on the route in force and opens
its pending record; it waits without a free record, a working route or room in the COQ (R308, R320). -/
def execFabricSend (d : Nat) (flips : List (Nat × Nat)) (s : State) : Host.Outcome State Fault Refusal :=
  match s.del d with
  | none => .next s
  | some x =>
    let older := (s.que.dels.takeWhile (fun y => y.id != d)).any (fun y => y.q == x.q && s.goesRemote y.pkt)
    if x.phase ≠ .reading ∨ s.flt.stopped ∨ !s.goesRemote x.pkt ∨ older ∨ !s.bit R.FTX_CTL F.FTX_CTL_ENABLE then .next s
    else match s.overTarget (x.pkt.dq / 65536 % 16) 17 with
      | none => .next (s.fabricDrop x ST.LINK_DOWN)
      | some f =>
        if f = s.fid then .next ((((s.delDel d).nodeCredit x.pnode x.charge).enqLocal x.pkt (x.pkt.dq % 65536)).2)
        else if !s.isMember f then .next (s.fabricDrop x ST.DEST_UNKNOWN)
        else if s.memberState f = MS.LOST then .next (s.fabricDrop x ST.LINK_DOWN)
        else if s.memberState f = MS.WAITING ∨ pendMax ≤ s.fab.recs.length then .next s
        else match s.routePort f, s.gobTurn (s.gobRanges x.pkt.gobs x.pkt.len) with
          | none, _ | _, none => .next s
          | some p, some t =>
            let q := coqOfPort p (s.qTc x.q)
            if !s.admissible q (gobsOf (32 + x.pkt.len)) then .next (s.countRefusal x.pkt.origin)
            else
              let s := (t.drainRepl t.gst.repl.length).flip flips
              let mapped := x.pkt.gobs.all (fun g => s.gstMapped (s.gobAddr g))
              let (bs, ok, s) := s.readChain (s.qOrigin x.q 2) x.pkt.gobs x.pkt.len
              if !ok || !mapped then .next (s.fabricDrop x ST.DATA_ERR)
              else
                let n := s.txSeq f
                let h := s.parison PK.PACKET f n (x.pkt.src % 65536) (x.pkt.dq % 65536) x.pkt.colour x.pkt.mdat x.pkt.origin bs
                match s.admitTrain h q x.pkt.origin with
                | none => .next (s.countRefusal x.pkt.origin)
                | some (id, s) =>
                  let s := s.pbufRelease x.pkt.localSrc x.pkt.gobs
                  let s := s.put (R.FTX_FIDSEQ f) F.FTX_FIDSEQ_TX_NEXT (n + 1)
                  let r : PendRec := ⟨f, n, x.pkt, x.pnode, x.charge, id⟩
                  .next ({ s with fab := { s.fab with recs := s.fab.recs ++ [r] } }.delDel d)

/-! ### Arrival (R312 to R315, R321) -/

/-- The train at the head of the endpoint-port COQ of priority `c`, if it is of a kind. -/
def State.arrived (s : State) (c kind : Nat) : Option Pkt :=
  ((s.coq (coqEndpoint c)).head?).filter (fun x => x.role == .train && parKind x.data == kind)

/-- The train at the head leaves its COQ and its cells are freed. -/
def State.takeArrived (s : State) (c : Nat) (x : Pkt) : State :=
  (s.setCoq (coqEndpoint c) (s.coq (coqEndpoint c)).tail).releasePkt { x with coq := coqEndpoint c }

/-- Read the cells of an arrived train: its bytes, or none when a cell or its chain is unusable (R56). -/
def State.readArrived (s : State) (x : Pkt) (errs : List CellErr) : Option (List Byte) × State :=
  if errs.contains .record then (none, s.linkError x .record)
  else match (s.queueReads 256 s.now x.cells).readCells errs 0 x.cells with
    | (.link g, s) => (none, s.linkError x (.link g))
    | (.bad _, s) => (none, s)
    | (.good, s) => (some (s.cellData x.cells x.bytes), s)

/-- PARISON_PACKET: an accepted PACKET is copied into the payload buffer, which it waits for in its COQ, enqueued to its local queue
without a Jack program, and its outcome is reported (R313). Its cells unusable, it is dropped and DATA_ERR reported (R56). -/
def execParisonPacket (c : Fin 8) (errs : List CellErr) (s : State) : Host.Outcome State Fault Refusal :=
  match s.arrived c.val PK.PACKET with
  | none => .next s
  | some x =>
    if s.pbufFree < gobsOf (parLen x.data) ∨ s.flt.stopped then .next s
    else match s.gobTurn (s.gobRanges (s.pbufTake (gobsOf (parLen x.data))).1 (parLen x.data)) with
    | none => .next s
    | some s =>
      let seq := parSeq x.data
      let f := parSrc x.data
      match s.readArrived x errs with
      | (none, s) => .next ((s.takeArrived c.val x).addReport f [(seq, ST.DATA_ERR, 0)])
      | (some h, s) =>
        let (gs, s) := s.pbufTake (gobsOf (parLen h))
        let s := s.storeChain (parOrigin h) gs (parPayload h)
        let q := parDstQ h
        let p : QPkt := ⟨s.que.nextId, f * 65536 + parSrcQ h, 0, false, parLen h, parMeta h, 0, parColour h, s.globalQ q, parOrigin h, gs,
          none, true, parGen h, seq⟩
        let s := { s with que := { s.que with nextId := s.que.nextId + 1 } }
        let s := s.takeArrived c.val x
        match enqStatus (s.shownState q) with
        | none => .next ((s.enqLocal p q).2.addReport f [(seq, ST.OK, 0)])
        | some st => .next ((s.pbufRelease none gs).addReport f [(seq, st, 0)])

/-- One report entry: the open records it covers end with its status; numbers without one are stale, or replications that were lost
(R315, R321). -/
def State.applyReport (s : State) (f : Nat) (w : Nat) : State :=
  let seq := fieldOf w 0 32
  let status := fieldOf w 32 8
  let run := fieldOf w 40 16
  let covers (n : Nat) : Bool := decide ((n + seqMod - seq) % seqMod ≤ run)
  let rs := s.fab.recs.filter (fun r => r.dst == f && covers r.seq)
  let repl := s.fab.replSent.filter (fun e => e.1 == f && covers e.2)
  let s := rs.foldl (fun s r => s.endRecord r status) s
  let s := s.bump R.FTX_RPTCNT F.FTX_RPTCNT_STALE_RPT (run + 1 - rs.length - repl.length)
  let s := s.bump R.FTX_RPTCNT F.FTX_RPTCNT_REPL_DROP repl.length
  { s with fab := { s.fab with replSent := s.fab.replSent.filter (fun e => e.1 != f || seqBefore ((seq + run) % seqMod) e.2) } }

/-- PARISON_REPORT: its entries end the pending records they cover (R314, R315). -/
def execParisonReport (c : Fin 8) (errs : List CellErr) (s : State) : Host.Outcome State Fault Refusal :=
  match s.arrived c.val PK.REPORT with
  | none => .next s
  | some x =>
    match s.readArrived x errs with
    | (none, s) => .next (s.takeArrived c.val x)
    | (some h, s) =>
      let s := s.takeArrived c.val x
      let pay := parPayload h
      .next ((List.range (min 28 (pay.length / 8))).foldl (fun s i =>
        s.applyReport (parSrc h) (leValue (((pay.drop (8 * i)).take 8).map (·.toNat)))) s)

/-- PARISON_REPL: the partner writes replicated data with ENG 0x7 through the gate of its channel group; a write denied or failed is
counted in REPL_DROP (R321). -/
def execParisonRepl (c : Fin 8) (errs : List CellErr) (s : State) : Host.Outcome State Fault Refusal :=
  match s.arrived c.val PK.REPL with
  | none => .next s
  | some x =>
    match s.readArrived x errs with
    | (none, s) => .next ((s.takeArrived c.val x).bump R.FTX_RPTCNT F.FTX_RPTCNT_REPL_DROP 1)
    | (some h, t) =>
      let o := parOrigin h
      let tag := mkOrigin (oFid o) (oPt o) (oFn o) 7 0
      match t.gstAccess tag 0 (parMeta h % 2 ^ 37) (.write (parPayload h)) with
      | (.wait, u) => .next { s with gst := { s.gst with bound := u.gst.bound } }
      | (.done, s) => .next (s.takeArrived c.val x)
      | (_, s) => .next ((s.takeArrived c.val x).bump R.FTX_RPTCNT F.FTX_RPTCNT_REPL_DROP 1)

/-- OVER is set for member `a`: pending records toward it end (R315, R320). -/
def State.setOver (s : State) (a : Nat) : State :=
  (s.setBit (R.FTX_FIDSTAT a) F.FTX_FIDSTAT_OVER).downRecords (fun r => r.dst == a)

/-- PARISON_PROBE: the sender's next number shows what was lost, and a takeover sets OVER (R312, R320). -/
def execParisonProbe (c : Fin 8) (errs : List CellErr) (s : State) : Host.Outcome State Fault Refusal :=
  match s.arrived c.val PK.PROBE with
  | none => .next s
  | some x =>
    match s.readArrived x errs with
    | (none, s) => .next (s.takeArrived c.val x)
    | (some h, s) =>
      let s := s.takeArrived c.val x
      let w := leValue (((parPayload h).take 8).map (·.toNat))
      let f := parSrc h
      let n := fieldOf w 0 32
      let s := s.takeGen f (parGen h) n
      let e := s.get (R.FTX_FIDSEQ f) F.FTX_FIDSEQ_RX_EXPECT
      let d := (n + seqMod - e) % seqMod
      let s := if d ≠ 0 ∧ d < 2 ^ 31 then (s.gap f e d).put (R.FTX_FIDSEQ f) F.FTX_FIDSEQ_RX_EXPECT n else s
      let a := fieldOf w 32 4
      if bitOf w 36 && s.getAct (R.FTX_FIDMAP a) F.FTX_FIDMAP_ALT_EN == 1 && s.getAct (R.FTX_FIDMAP a) F.FTX_FIDMAP_ALT_FID == f then
        .next (s.setOver a)
      else .next s

/-! ### Reports and probes that leave -/

/-- Priority of REPORT and PROBE trains, which the manual leaves open (log entry 70). -/
def ctlPri : Nat := 7

/-- REPORT_SEND: up to 28 entries toward a member leave in one train (R314). It waits without a route or room. -/
def execReportSend (f : Fin 16) (s : State) : Host.Outcome State Fault Refusal :=
  let es := SMap.get s.fab.reports [] f.val
  match s.routePort f.val with
  | none => .next s
  | some p =>
    if es.isEmpty || s.flt.stopped || !s.bit R.FTX_CTL F.FTX_CTL_ENABLE then .next s
    else
      let pay := (es.take 28).flatMap (fun e => leBytes (e.1 % 2 ^ 32 + e.2.1 % 2 ^ 8 * 2 ^ 32 + e.2.2 % 2 ^ 16 * 2 ^ 40) 8)
      match s.admitTrain (s.parison PK.REPORT f.val 0 0 0 0 0 0 pay) (coqOfPort p ctlPri) 0 with
      | none => .next s
      | some (_, s) => .next { s with fab := { s.fab with reports := SMap.set s.fab.reports [] f.val (es.drop 28) } }

/-- A PROBE toward member `f`, announcing the takeover of a member if there is one (R312, R320). -/
def State.sendProbe (s : State) (f : Nat) (taken : Option Nat) : State :=
  match s.routePort f with
  | none => s
  | some p =>
    let w := s.txSeq f + (match taken with | some a => a % 16 * 2 ^ 32 + 2 ^ 36 | none => 0)
    let h := s.parison PK.PROBE f 0 0 0 0 0 0 (leBytes w 8)
    let (pk, s) := s.newPkt .train (.par h) h.length 0 256 ctlPri 0
    s.sendEndpoint pk (coqOfPort p ctlPri)

/-- PROBEs to every member, one for each takeover announced; none while ENABLE is clear (R304). -/
def State.sendProbes (s : State) (taken : List Nat) : State :=
  if !s.bit R.FTX_CTL F.FTX_CTL_ENABLE then s
  else ((List.range 16).filter s.isMember).foldl (fun s f =>
    if taken.isEmpty then s.sendProbe f none else taken.foldl (fun s a => s.sendProbe f (some a)) s) s

/-- PROBE_SEND: every PROBE_INT a PROBE goes to each member (R312). -/
def execProbeSend (s : State) : Host.Outcome State Fault Refusal :=
  if !s.bit R.FTX_CTL F.FTX_CTL_ENABLE || s.flt.stopped then .next s
  else .next ((s.drainRepl s.gst.repl.length).sendProbes s.fab.taking)

/-! ### Members (R315, R319) -/

/-- FAB_MEMBER_LOST: a member not heard for DEAD_TO is LOST; with AUTO_OVER its traffic goes to its partner; pending records toward it
end (R315, R319, R320). -/
def execFabMemberLost (f : Fin 16) (s : State) : Host.Outcome State Fault Refusal :=
  let f := f.val
  if s.memberState f ≠ MS.UP then .next s
  else
    let s := (s.setMemberState f MS.LOST).report FC.FAB_MEMBER_LOST UK.fabric f 0 0 0
    let s := if s.bit R.FTX_CTL F.FTX_CTL_AUTO_OVER && s.getAct (R.FTX_FIDMAP f) F.FTX_FIDMAP_ALT_EN == 1 then
        s.setBit (R.FTX_FIDSTAT f) F.FTX_FIDSTAT_OVER else s
    .next (s.downRecords (fun r => r.dst == f))

/-- PEND_TIMEOUT: the record of number `seq` toward `f` ends with LINK_DOWN (R315). -/
def execPendTimeout (f : Fin 16) (seq : BitVec 32) (s : State) : Host.Outcome State Fault Refusal :=
  .next (s.downRecords (fun r => r.dst == f.val && r.seq == seq.toNat))

/-! ### FTX_CMD (R306, R318, R320) and ENABLE (R323) -/

/-- First fabric queue of a member and their number, as a FTX_FIDMAP word gives them. -/
def fqRange (v : Nat) : Nat × Nat := (fieldOf v 16 16, 2 ^ min 12 (fieldOf v 6 4))

/-- A train toward `f` stands linked or staged on the port its route now uses (R318). -/
def State.trainStands (s : State) (f : Nat) : Bool :=
  match s.routeEntry f (s.get (R.FTX_FIDSTAT f) F.FTX_FIDSTAT_ACTIVE) with
  | none => false
  | some p => (List.range 8).any (fun c =>
      (s.staged p c ++ s.coq (coqOfPort p c)).any (fun x => x.role == .train && parDst x.data == f))

/-- A waiting route change of member `f` takes effect. -/
def State.changeRoute (s : State) (f : Nat) (apply : Bool) : State :=
  let s := if apply then s.wrAct (R.FTX_ROUTE f) (s.rd (R.FTX_ROUTE f)) else s
  (s.put (R.FTX_FIDSTAT f) F.FTX_FIDSTAT_ACTIVE 0).refreshRoute f

/-- CMD_BUSY follows the changes that wait. -/
def State.setChanges (s : State) (l : List (Nat × Bool)) : State :=
  { s with fab := { s.fab with changes := l } }.put R.FTX_STATUS F.FTX_STATUS_CMD_BUSY (bit01 !l.isEmpty)

/-- A route change takes effect at once, or waits until no train toward the member stands on the old port (R318). -/
def State.askRoute (s : State) (f : Nat) (apply : Bool) : State :=
  if s.trainStands f then s.setChanges (s.fab.changes ++ [(f, apply)]) else s.changeRoute f apply

/-- FTX_CMD APPLY: the map and the route of a member, or refused with BADCMD (FTX_CMD, R306, R319). -/
def execFtxApply (f : Fin 16) (s : State) : Host.Outcome State Fault Refusal :=
  let f := f.val
  let new := fqRange (s.rd (R.FTX_FIDMAP f))
  let old := fqRange (s.rdAct (R.FTX_FIDMAP f))
  let holds := (List.range old.2).any (fun i => !(s.linked ((old.1 + i) % 65536)).isEmpty)
  let changed := fieldOf (s.rd (R.FTX_FIDMAP f)) 6 4 != fieldOf (s.rdAct (R.FTX_FIDMAP f)) 6 4 || new.1 != old.1
  if 65536 < new.1 + new.2 ∨ (changed && s.getAct (R.FTX_FIDMAP f) F.FTX_FIDMAP_MEMBER == 1 && holds) then
    .next (s.setBit R.FTX_STATUS F.FTX_STATUS_BADCMD)
  else
    let s := s.wrAct (R.FTX_FIDMAP f) (s.rd (R.FTX_FIDMAP f))
    .next ((s.setMemberState f (if s.isMember f then MS.WAITING else MS.ABSENT)).askRoute f true)

/-- FTX_CMD REHOME: ACTIVE is chosen anew from the first preference (R318). -/
def execFtxRehome (f : Fin 16) (s : State) : Host.Outcome State Fault Refusal := .next (s.askRoute f.val false)

/-- ROUTE_CHANGE_EFFECT: the waiting changes of a member take effect once no train stands on the old port (R318). -/
def execRouteChangeEffect (f : Fin 16) (s : State) : Host.Outcome State Fault Refusal :=
  let mine := s.fab.changes.filter (fun e => e.1 == f.val)
  if mine.isEmpty || s.trainStands f.val then .next s
  else .next ((mine.foldl (fun s e => s.changeRoute f.val e.2) s).setChanges (s.fab.changes.filter (fun e => e.1 != f.val)))

/-- FTX_CMD TAKEOVER: PROBEs that take over member `f` go to every member at once and then with every PROBE (R320). -/
def execFabricTakeover (f : Fin 16) (s : State) : Host.Outcome State Fault Refusal :=
  let s := if s.fab.taking.contains f.val then s else { s with fab := { s.fab with taking := s.fab.taking ++ [f.val] } }
  .next (s.sendProbes [f.val])

/-- FTX_CMD RESTORE: OVER is cleared for member `f`, and its takeover is no longer announced (R320). -/
def execFabricRestore (f : Fin 16) (s : State) : Host.Outcome State Fault Refusal :=
  let s := { s with fab := { s.fab with taking := s.fab.taking.filter (· != f.val) } }
  .next (s.put (R.FTX_FIDSTAT f.val) F.FTX_FIDSTAT_OVER 0)

/-- A rise of ENABLE issues a new GEN, starts every sequence at 0 and makes every member WAITING (R312, R319, R323). -/
def State.ftxEnable (s : State) : State :=
  if s.bit R.FTX_CTL F.FTX_CTL_ENABLE then s
  else
    let s := s.setBit R.FTX_CTL F.FTX_CTL_ENABLE
    let g := s.get R.FTX_GEN F.FTX_GEN_GEN
    let s := s.put R.FTX_GEN F.FTX_GEN_GEN (g / 16 * 16 + (g + 1) % 16)
    (List.range 16).foldl (fun s f =>
      let s := s.put (R.FTX_FIDSEQ f) F.FTX_FIDSEQ_TX_NEXT 0
      if s.isMember f then s.setMemberState f MS.WAITING else s) s

/-- FTX_CTL ENABLE rises (R323). -/
def execFtxEnable (s : State) : Host.Outcome State Fault Refusal := .next s.ftxEnable

end Sys2Proof.Machine
end

