-- ==== Sys2Proof/Machine/Cane.lean ====
section
/-!
DEFINITION. Cane links (R281 to R303): what a transmitter sends in a frame slot, what a receiver does with one, acknowledgement and
replay, link messages, spare substitution, retrains, standby, and link down.
-/
namespace Sys2Proof.Machine

/-- The link of a cane port goes down for a cause, and the port is held with PORT_DOWN (R297, R298). -/
def State.linkFails (s : State) (p cause : Nat) : State :=
  if !s.caneRuns p then s
  else ((s.caneDown p cause).holdPort p 2 0).report FC.PORT_DOWN UK.port p 0 cause 0

/-! ### Replay (R287) -/

/-- REPLAY_MAX; 0 acts as 1. -/
def State.replayMax (s : State) (p : Nat) : Nat := max 1 (s.get (R.CAN_LINKCFG p) F.CAN_LINKCFG_REPLAY_MAX)
/-- REPLAY_TO in beats. -/
def State.replayTo (s : State) (p : Nat) : Nat := 64 * s.get (R.CAN_LINKCFG p) F.CAN_LINKCFG_REPLAY_TO

/-- A replay from `a` starts; once REPLAY_MAX of them have followed one another without A moving, the link goes down instead. -/
def State.startReplay (s : State) (p a : Nat) : State :=
  let c := s.cane p
  if s.replayMax p ≤ c.stalled then s.linkFails p 2
  else
    let s := s.setCane p { c with replay := some (a, true), replayFrom := some (a, s.now), stalled := c.stalled + 1 }
    s.bump (R.CAN_REPCNT p) F.CAN_REPCNT_REPLAYS 1

/-- REPLAY_TIMEOUT: A differs from N and has not moved for REPLAY_TO; the timer stands still while either end is in receive hold
(R287, R295). -/
def execReplayTimeout (p : Fin 256) (s : State) : Host.Outcome State Fault Refusal :=
  let p := p.val
  let st := R.CAN_STATUS p
  if s.linkState p ≠ CN.ACTIVE ∨ s.txNext p = s.txAcked p ∨ s.bit st F.CAN_STATUS_PEER_HOLD ∨ s.bit st F.CAN_STATUS_RX_HOLD then .next s
  else .next (s.startReplay p (s.txAcked p))

/-! ### Lanes of a port (R295, R301) -/

/-- Physical lanes a cane link uses in a direction: of its transmitters the first of the port, lane `k` sending number `k`, and spares that carry
a copy; of its receivers those that carry its logical lanes (R275, R295, R299). -/
def State.linkLanes (s : State) (p : Nat) (tx : Bool) : List Nat :=
  let w := s.get (R.PRT_LINKSTAT p) F.PRT_LINKSTAT_WIDTH
  if tx then (s.portLanes p).take w ++ ((s.spareOctets p).filter (fun n => s.txSub n != 0xF)).map (fun n => 9 * n + 8)
  else (List.range w).filterMap (s.rxLane p)

/-- The link layer places a direction in ACTIVE or STANDBY; lanes of it that firmware holds lower stay (R271, R275). -/
def State.linkPwr (s : State) (p : Nat) (tx : Bool) (v : Nat) : State :=
  (s.linkLanes p tx).foldl (fun s l => if s.pwr l tx ≤ PWR.STANDBY then s.askPwr l tx v else s) s

/-- A lane of a direction of the link is still on its way to ACTIVE, or rests in STANDBY (R270, R296). -/
def State.linkRests (s : State) (p : Nat) (tx : Bool) : Bool :=
  (s.linkLanes p tx).any (fun l => s.pwr l tx == PWR.STANDBY || s.exitOf l tx != 0)

/-- Logical lane `m` of a port works: the spare that carries it is locked, or its data lane is and is not marked FAILED (R296, R301). -/
def State.laneWorks (s : State) (p m : Nat) : Bool :=
  (match s.rxLane p m with
    | some l => s.bit (laneReg R.LNE_STAT l) F.LNE_STAT_LOCK
    | none => false) && (s.subbed p m || !s.markedFailed p m)

/-- The largest width of 2, 4, 8 or 16 up to `cap` whose logical lanes satisfy `ok`; 0 for none. -/
def widthOf (cap : Nat) (ok : Nat → Bool) : Nat :=
  ([16, 8, 4, 2].find? (fun w => decide (w ≤ cap) && (List.range w).all ok)).getD 0

/-- MIN_WIDTH as a width. -/
def State.minWidth (s : State) (p : Nat) : Nat :=
  match s.getAct (R.CAN_TRAINCFG p) F.CAN_TRAINCFG_MIN_WIDTH with
  | 2 => 4 | 3 => 8 | 4 => 16 | _ => 2

/-- A rate code as this part takes it: 128 Gbit/s at most, 64 Gbit/s on S2 parts (R2, R281). -/
def State.rateCode (s : State) (r : Nat) : Nat := min r (if s.bit R.RST_TRIMSTAT F.RST_TRIMSTAT_SPEED then 1 else 2)

/-- Highest rate of a cane port: MAX_RATE as R281 codes it, with 64 Gbit/s the most on S2 parts (R2, R281). -/
def State.caneMaxRate (s : State) (p : Nat) : Nat :=
  s.rateCode (s.get (R.PRT_LINKCFG p) F.PRT_LINKCFG_MAX_RATE)
/-- Trained rate and width. -/
def State.caneRate (s : State) (p : Nat) : Nat := min 2 (s.get (R.PRT_LINKSTAT p) F.PRT_LINKSTAT_RATE)
def State.caneWidth (s : State) (p : Nat) : Nat := s.get (R.PRT_LINKSTAT p) F.PRT_LINKSTAT_WIDTH

/-! ### Retrains (R293, R294, R303) -/

/-- The end enters CN_RETRAIN with the new width, rate and EQ, and sends words of type 5. -/
def State.enterRetrain (s : State) (p w r : Nat) (eq : Bool) : State :=
  let s := s.abortRetrims p
  let s := s.wrAct (R.CAN_TRAINCFG p) (s.rd (R.CAN_TRAINCFG p))
  let c := s.cane p
  let c := { c with newWidth := w, newRate := s.rateCode r, newEq := eq, step := 5 }
  let s := s.setCane p { c with peerWords := false, ownRetrain := none, waitRetrain := none, heights := [] }
  let s := s.put (R.PRT_CTL p) F.PRT_CTL_RETRAIN 0
  let s := ((s.put (R.CAN_STATUS p) F.CAN_STATUS_TX_STBY 0).linkPwr p true PWR.ACTIVE).linkPwr p false PWR.ACTIVE
  ((s.setLinkState p CN.RETRAIN).emit (.link p (LK.WORDS 5))).refreshRoutes

/-- A request of the partner is answered: RETRAIN_ACK leaves in a frame, and CN_RETRAIN follows it. -/
def State.answerRetrain (s : State) (p m : Nat) : State :=
  let c := s.cane p
  let s := s.setCane p { c with newWidth := lmWidth m, newRate := s.rateCode (lmRate m), newEq := lmEq m, waitRetrain := none }
  s.postMsg p (lmWord LM.RETRAIN_ACK 0 0 false 0 0 0)

/-- An own request goes out. -/
def State.askRetrain (s : State) (p w r : Nat) (eq : Bool) : State :=
  let m := lmWord LM.RETRAIN_REQ w r eq 0 0 0
  let s := s.postMsg p m
  s.setCane p { s.cane p with ownRetrain := some m }

/-- This end leads when requests cross: the lower fabric ID, then the lower port number (R293). -/
def State.leads (s : State) (p : Nat) : Bool :=
  let f := s.get (R.CAN_STATUS p) F.CAN_STATUS_PEER_FID
  decide (s.fid < f) || (s.fid == f && decide (p < s.get (R.CAN_STATUS p) F.CAN_STATUS_PEER_PORT))

/-- The follower withdraws its own retrain request, which goes out no more if it has not yet (R293). -/
def State.withdrawRetrain (s : State) (p : Nat) : State :=
  let c := s.cane p
  let s := s.setCane p { c with ownRetrain := none, outbox := c.outbox.filter (fun m => lmCode m != LM.RETRAIN_REQ) }
  let s := s.bump (R.CAN_EVCNT p) F.CAN_EVCNT_WITHDRAWN 1
  let st := R.CAN_STATUS p
  if s.bit st F.CAN_STATUS_CMD_BUSY then (s.put st F.CAN_STATUS_CMD_BUSY 0).put st F.CAN_STATUS_CMD_RESULT 1 else s

/-- The follower withdraws a substitution, which is not sent again: the spare goes back to rest (R293). -/
def State.withdrawSub (s : State) (p : Nat) (r : SubRun) : State :=
  let c := s.cane p
  let s := s.setCane p { c with
    subRx := c.subRx.filter (· != r), outbox := c.outbox.filter (fun m => !(lmCode m == LM.SUB_REQ && lmLane m == r.lane)) }
  (s.bump (R.CAN_EVCNT p) F.CAN_EVCNT_WITHDRAWN 1).restSpare r.octet false

/-- A substitution exchange stands between SUB_REQ and SUB_DONE, as this end can tell (R294). -/
def Cane.exchanging (c : Cane) : Bool :=
  c.subTx.any (fun r => !r.done) || c.subRx.any (fun r => !r.done || c.subUnsettled LM.SUB_DONE r.lane)

/-- A request that waited for a substitution is answered once it may be. -/
def State.releaseWaiting (s : State) (p : Nat) : State :=
  match (s.cane p).waitRetrain with
  | some m => if (s.cane p).exchanging then s else s.answerRetrain p m
  | none => s

/-- Take the oldest accepted message if it has this code. -/
def State.takeMsg (s : State) (p code : Nat) : Option Nat × State :=
  match (s.cane p).inbox with
  | [] => (none, s)
  | m :: rest => if lmCode m = code then (some m, s.setCane p { s.cane p with inbox := rest }) else (none, s)

/-- An accepted message of a code is acted on while frames flow. -/
def State.onMsg (s : State) (p code : Nat) (f : State → Nat → State) : State :=
  match s.takeMsg p code with
  | (none, _) => s
  | (some m, s') => if s.caneRuns p then f s' m else s'

/-- RETRAIN_REQ accepted: answered, ignored by the leader of crossing requests, or waiting (R293, R294). A substitution request of this
end crosses it only while it is not yet acknowledged. -/
def execRetrainReq (p : Fin 256) (s : State) : Host.Outcome State Fault Refusal :=
  let p := p.val
  .next (s.onMsg p LM.RETRAIN_REQ (fun s m =>
    let c := s.cane p
    if c.ownRetrain.isSome then (if s.leads p then s else (s.withdrawRetrain p).answerRetrain p m)
    else
      let crossing := c.subRx.filter (fun r => !r.done && c.subUnsettled LM.SUB_REQ r.lane)
      if !crossing.isEmpty && s.leads p then s
      else
        let s := crossing.foldl (fun s r => s.withdrawSub p r) s
        if (s.cane p).exchanging then s.setCane p { s.cane p with waitRetrain := some m } else s.answerRetrain p m))

/-- RETRAIN_ACK accepted: the leader's retrain begins (R303). -/
def execRetrainAck (p : Fin 256) (s : State) : Host.Outcome State Fault Refusal :=
  let p := p.val
  .next (s.onMsg p LM.RETRAIN_ACK (fun s _ =>
    match (s.cane p).ownRetrain with
    | some m => s.enterRetrain p (lmWidth m) (lmRate m) (lmEq m)
    | none => s))

/-- CAN_CMD RETRAIN: refused with BADCMD, or a RETRAIN_REQ goes out (CAN_CMD, R303). -/
def execCaneRetrain (p : Fin 256) (width : Fin 32) (rate : Fin 4) (eq : Bool) (s : State) : Host.Outcome State Fault Refusal :=
  let p := p.val
  let st := R.CAN_STATUS p
  let w := width.val
  let okW := w == 0 || ([2, 4, 8, 16].contains w && decide (s.minWidth p ≤ w) && decide (w ≤ s.confWidth p))
  let okR := rate.val == 3 || decide (rate.val ≤ s.caneMaxRate p)
  if s.linkState p ≠ CN.ACTIVE ∨ s.bit st F.CAN_STATUS_CMD_BUSY ∨ !okW ∨ !okR then .next (s.setBit st F.CAN_STATUS_BADCMD)
  else
    .next ((s.setBit st F.CAN_STATUS_CMD_BUSY).askRetrain p (if w = 0 then s.caneWidth p else w)
      (if rate.val = 3 then s.caneRate p else rate.val) eq)

/-- RETRAIN_FAIL: CN_RETRAIN has lasted longer than RETRAIN_TO (R297). -/
def execRetrainFail (p : Fin 256) (s : State) : Host.Outcome State Fault Refusal :=
  .next (if s.linkState p.val = CN.RETRAIN then s.linkFails p.val 6 else s)

/-! ### Substitution (R274, R295) -/

/-- The spare that serves logical lane `m` may serve: enabled and wired right (R261, R262). -/
def State.spareServing (s : State) (p m : Nat) : Bool :=
  let n := s.spareOctet p m
  s.spareServes p m && s.bit (R.LNE_OCTCTL n) F.LNE_OCTCTL_SPARE_EN && !s.bit (R.LNE_OCTSTAT n) F.LNE_OCTSTAT_SPARE_MAPERR

/-- The spare that serves logical lane `m` may take its receive traffic: it carries no lane, and none has been asked for (R274). -/
def State.spareFree (s : State) (p m : Nat) : Bool :=
  let n := s.spareOctet p m
  s.spareServing p m && s.rxSub n == 0xF && !(s.cane p).subRx.any (fun r => r.octet == n)

/-- This end asks for lane `m` to be moved onto its spare, and wakes the spare's receive direction. -/
def State.askSub (s : State) (p m : Nat) : State :=
  let n := s.spareOctet p m
  let s := s.postMsg p (lmWord LM.SUB_REQ 0 0 false m 0 0)
  let s := s.setCane p { s.cane p with subRx := (s.cane p).subRx ++ [⟨m, n, false, false⟩] }
  s.askPwr (9 * n + 8) false PWR.ACTIVE

/-- SUB_REQ accepted: the spare's transmit direction wakes, TX_SUB names the lane, and the copy starts after four words of type 7; one
that crosses an own retrain request is settled as R293 states. A request for a spare that carries a lane, or may not serve, is refused
(R274). -/
def execSubReq (p : Fin 256) (s : State) : Host.Outcome State Fault Refusal :=
  let p := p.val
  let copy (s : State) (m : Nat) : State :=
    let lane := lmLane m
    let n := s.spareOctet p lane
    if !s.spareServing p lane || s.txSub n != 0xF then s
    else
      let s := (s.askPwr (9 * n + 8) true PWR.ACTIVE).setTxSub n (s.octLane p lane)
      (s.setCane p { s.cane p with subTx := (s.cane p).subTx ++ [⟨lane, n, false, false⟩] }).emit (.link p (LK.WORDS 7))
  .next (s.onMsg p LM.SUB_REQ (fun s m =>
    if (s.cane p).ownRetrain.isSome then (if s.leads p then s else copy (s.withdrawRetrain p) m) else copy s m))

/-- SUB_DONE accepted: the switch is confirmed, and a retrain that waited for it is answered (R294, R295). -/
def execSubDone (p : Fin 256) (s : State) : Host.Outcome State Fault Refusal :=
  let p := p.val
  .next (s.onMsg p LM.SUB_DONE (fun s m =>
    let c := s.cane p
    (s.setCane p { c with subTx := c.subTx.map (fun r => if r.lane = lmLane m then { r with done := true } else r) }).releaseWaiting p))

/-- SUB_END accepted: the copy of the lane stops, and the spare's transmit direction rests (R295). -/
def execSubEnd (p : Fin 256) (s : State) : Host.Outcome State Fault Refusal :=
  let p := p.val
  .next (s.onMsg p LM.SUB_END (fun s m =>
    let n := s.spareOctet p (lmLane m)
    let s := s.setCane p { s.cane p with subTx := (s.cane p).subTx.filter (fun r => r.lane != lmLane m) }
    if s.spareServes p (lmLane m) && s.txSub n == s.octLane p (lmLane m) then (s.setTxSub n 0xF).restSpare n true else s))

/-- Words of type 7 on the spare announce the copy of lane `m` (R295). -/
def execTwCopyPreamble (p : Fin 256) (m : Fin 16) (s : State) : Host.Outcome State Fault Refusal :=
  let p := p.val
  let c := s.cane p
  .next (s.setCane p { c with subRx := c.subRx.map (fun r => if r.lane = m.val then { r with heard := true } else r) })

/-- A data lane of the link without lock that no spare carries (R295). -/
def State.lockMissing (s : State) (p : Nat) : Bool :=
  (List.range (s.caneWidth p)).any (fun m => !s.subbed p m && (match s.physLane p m with
    | some l => !s.bit (laneReg R.LNE_STAT l) F.LNE_STAT_LOCK
    | none => true))

/-- SUB_SWITCH: the receiver takes the lane from its adapted spare at the switch frame, sends SUB_DONE with the frame's number, counts
SUBS, and leaves receive hold with a NAK, unless another lane that lost lock still waits for the other spare of a x16 port (R295). -/
def execSubSwitch (l : LinkLane) (s : State) : Host.Outcome State Fault Refusal :=
  let p := l.port.val
  let c := s.cane p
  match c.subRx.find? (fun r => r.lane == l.lane.val) with
  | none => .next s
  | some r =>
    let spare := 9 * r.octet + 8
    if r.done || !r.heard || !s.adapted spare || !s.bit (laneReg R.LNE_STAT spare) F.LNE_STAT_LOCK || s.pwr spare false != PWR.ACTIVE then
      .next s
    else
      let s := s.setRxSub r.octet (s.octLane p r.lane)
      let s := s.setCane p { c with subRx := c.subRx.map (fun x => if x = r then { r with done := true } else x) }
      let s := s.postMsg p (lmWord LM.SUB_DONE 0 0 false r.lane 0 c.chk)
      let s := s.bump (R.CAN_EVCNT p) F.CAN_EVCNT_SUBS 1
      let st := R.CAN_STATUS p
      .next (if s.bit st F.CAN_STATUS_RX_HOLD && !s.lockMissing p then
        (s.put st F.CAN_STATUS_RX_HOLD 0).put st F.CAN_STATUS_REPLAY_WAIT 1 else s)

/-- SUB_TIMEOUT: a receive hold longer than SUB_TO takes the link down (R295, R297). -/
def execSubTimeout (p : Fin 256) (s : State) : Host.Outcome State Fault Refusal :=
  .next (if s.bit (R.CAN_STATUS p.val) F.CAN_STATUS_RX_HOLD then s.linkFails p.val 3 else s)

/-- The receiver ends a substitution: it takes the lane from its data lane again and sends SUB_END (R295). -/
def State.endSub (s : State) (p n : Nat) : State :=
  if s.rxSub n = 0xF then s
  else
    let m := s.logicalOf p n (s.rxSub n)
    let s := (s.setRxSub n 0xF).postMsg p (lmWord LM.SUB_END 0 0 false m 0 0)
    (s.setCane p { s.cane p with subRx := (s.cane p).subRx.filter (fun r => r.octet != n) }).restSpare n false

/-! ### Standby and the partner's DOWN (R296, R297) -/

/-- STANDBY accepted: the receive direction follows when the signal stops (R296). -/
def execStandby (p : Fin 256) (s : State) : Host.Outcome State Fault Refusal :=
  .next (s.onMsg p.val LM.STANDBY (fun s _ => s.setCane p.val { s.cane p.val with peerStby := true }))

/-- DOWN accepted: the link goes down with PARTNER_DOWN (R297). -/
def execDown (p : Fin 256) (s : State) : Host.Outcome State Fault Refusal := .next (s.onMsg p.val LM.DOWN (fun s _ => s.linkFails p.val 7))

/-- An ACK or credit change has not been sent yet (R296). -/
def State.headerOwed (s : State) (p : Nat) : Bool :=
  let c := s.cane p
  c.sentAck != s.rxExpect p || (List.range 8).any (fun k => SMap.get c.sentLim 0 k != s.rxLimit p k + 1)

/-- Priorities with a gob and credit (R286, R289). -/
def State.sendablePri (s : State) (p : Nat) : List Nat :=
  (List.range 8).filter (fun c =>
    decide (1 ≤ s.txCredit p c) && decide (s.txCredit p c < 2 ^ 19) &&
    ((s.cane p).tx.any (fun e => e.1 == c) || !(s.coq (coqOfPort p c)).isEmpty))

/-- The transmitter has something to send. -/
def State.caneWants (s : State) (p : Nat) : Bool :=
  let c := s.cane p
  c.replay.isSome || !c.outbox.isEmpty || !(s.sendablePri p).isEmpty || s.headerOwed p

/-- STANDBY_ENTRY: after LP_IDLE of IDLE frames with nothing unacknowledged or unsent, the direction sends STANDBY; it enters STANDBY
once the message is acknowledged (R296). -/
def execStandbyEntry (p : Fin 256) (s : State) : Host.Outcome State Fault Refusal :=
  let p := p.val
  if s.linkState p ≠ CN.ACTIVE ∨ !s.bit (R.CAN_CTL p) F.CAN_CTL_LP_EN ∨ s.bit (R.CAN_STATUS p) F.CAN_STATUS_TX_STBY ∨ s.caneWants p
    ∨ s.txNext p ≠ s.txAcked p then .next s
  else .next (s.postMsg p (lmWord LM.STANDBY 0 0 false 0 0 0))

/-- The message STANDBY has been acknowledged: the direction rests unless something waits to be sent or has been sent since. -/
def State.standbyAcked (s : State) (p : Nat) : State :=
  let s := s.setCane p { s.cane p with stbySeq := none }
  if s.caneWants p || s.txNext p != s.txAcked p then s
  else (s.setBit (R.CAN_STATUS p) F.CAN_STATUS_TX_STBY).linkPwr p true PWR.STANDBY

/-! ### Sending a frame slot (R286, R287) -/

/-- Wrong words an environment gives a read of one cell. -/
def cellWords (errs : List CellErr) (g : Option Nat) : List (Nat × Nat) :=
  errs.filterMap (fun e => match e with
    | .data k w b => if g = none ∨ g = some k then some (w.val, b) else none
    | _ => none)

/-- The entry of a number is resent, its header anew (R287, R288). A cell that has become unreadable ends its packet as void. -/
def State.resend (s : State) (p seq : Nat) (errs : List CellErr) : State :=
  match (s.cane p).cullets.find? (fun e => e.seq == seq) with
  | none => s
  | some e =>
    match e.lmsg, e.cell with
    | some m, _ => s.sendFrame p FT.LMSG plainHdr seq (leBytes m 8)
    | none, none => s.sendFrame p FT.DATA ⟨e.pri, e.sop, e.eop, e.bad, e.vlen⟩ seq []
    | none, some k =>
      let (bad, s) := s.readCell k (cellWords errs none)
      if bad.isSome then s.sendFrame p FT.DATA ⟨e.pri, e.sop, true, true, e.vlen⟩ seq []
      else s.sendFrame p FT.DATA ⟨e.pri, e.sop, e.eop, e.bad, e.vlen⟩ seq (s.bytes (MB.cell + 256 * k) (e.vlen + 1))

/-- One slot of a running replay: the REPLAY frame, or the next entry (R287). -/
def State.replaySlot (s : State) (p a : Nat) (frame : Bool) (errs : List CellErr) : State :=
  let s := if frame then s.sendFrame p FT.REPLAY plainHdr a (leBytes a 4) else s.resend p a errs
  let next := if frame then a else (a + 1) % seqMod
  s.setCane p { s.cane p with replay := if next = s.txNext p then none else some (next, false) }

/-- A DATA frame goes out for the first time: numbered, kept, charged to its credit (R287, R289). -/
def State.sendData (s : State) (p : Nat) (h : GobHdr) (cell : Option Nat) (id : Nat) (payload : List Byte) : State :=
  let n := s.txNext p
  let s := s.sendFrame p FT.DATA h n payload
  let c := s.cane p
  let s := s.setCane p { c with cullets := c.cullets ++ [⟨n, none, h.pri, h.sop, h.eop, h.bad, h.vlen, cell, id⟩] }
  let s := s.put (R.CAN_TXSEQ p) F.CAN_TXSEQ_TX_NEXT (n + 1)
  s.put (R.CAN_CRDSTAT p h.pri) F.CAN_CRDSTAT_TX_SENT (s.get (R.CAN_CRDSTAT p h.pri) F.CAN_CRDSTAT_TX_SENT + 1)

/-- The train in transmission of a priority and its next gob; a new one is taken from the head of its COQ (R286). -/
def State.txTrain (s : State) (p c : Nat) : Option (Pkt × Nat) × State :=
  let k := s.cane p
  match k.tx.find? (fun e => e.1 == c) with
  | some (_, id, g) => ((k.live.find? (fun x => x.id == id)).map (fun x => (x, g)), s)
  | none =>
    match s.coq (coqOfPort p c) with
    | [] => (none, s)
    | x :: rest =>
      let s := s.setCoq (coqOfPort p c) rest
      (some (x, 0), s.setCane p { k with live := k.live ++ [x], tx := k.tx ++ [(c, x.id, 0)] })

/-- The train in transmission of a priority moves to gob `g`, or has been sent whole. -/
def State.txMove (s : State) (p c : Nat) (g : Option Nat) : State :=
  let k := s.cane p
  s.setCane p { k with tx := match g with
    | some g => k.tx.map (fun e => if e.1 = c then (c, e.2.1, g) else e)
    | none => k.tx.filter (fun e => e.1 != c) }

/-- A train's cell is unreadable: not yet started it is dropped, else it ends with a bad gob; its other cells are freed (R56). -/
def State.voidTx (s : State) (p c : Nat) (x : Pkt) (g idx : Nat) : State :=
  let s := s.txMove p c none
  let k := s.cane p
  if g = 0 then ((s.setCane p { k with live := k.live.filter (fun y => y.id != x.id) }).releaseLive x).sendFrame p FT.IDLE plainHdr (s.txNext p) []
  else
    let s := (x.cells.drop idx).foldl (fun s cell => s.freeSent x cell) s
    let s := s.setCane p { s.cane p with live := k.live.map (fun y => if y.id = x.id then { x with cells := x.cells.take idx } else y) }
    (s.portCount p PC.NULLIFIED 1).sendData p ⟨c, false, true, true, 255⟩ none x.id []

/-- Transmission of a train starts with its first gob: its egress copy is made, and its record counts the copy (R51). -/
def State.startLive (s : State) (p : Nat) (x : Pkt) (g : Nat) : State :=
  if g ≠ 0 then s
  else
    let (x, s) := s.startTx p x
    s.setCane p { s.cane p with live := (s.cane p).live.map (fun y => if y.id = x.id then x else y) }

/-- The next gob of priority `c` leaves (R283, R286). -/
def State.sendGob (s : State) (p c : Nat) (errs : List CellErr) : State :=
  match s.txTrain p c with
  | (none, s) => s
  | (some (x, g), s) =>
    if g = 0 ∧ errs.contains .record then s.linkError x .record
    else
      let idx := g - (x.gobs - x.cells.length)
      let cell := x.cells.getD idx 0
      let (bad, s) := (s.queueReads p s.now [cell]).readCell cell (cellWords errs (some g))
      if bad.isSome then s.voidTx p c x g idx
      else if errs.contains (.link g) then (s.startLive p x g).linkError x (.link idx)
      else
        let s := s.startLive p x g
        let last := decide (x.gobs ≤ g + 1)
        let vlen := if last then (x.bytes - 1) % 256 else 255
        let s := s.sendData p ⟨c, g == 0, last, false, vlen⟩ (some cell) x.id (s.bytes (MB.cell + 256 * cell) (vlen + 1))
        let s := s.txMove p c (if last then none else some (g + 1))
        if last then (s.portCount p PC.TX_PKTS 1).portCount p PC.TX_BYTES x.bytes else s

/-- The oldest waiting message leaves; STANDBY and RETRAIN_ACK have their effect with it (R296, R303). -/
def State.sendMsgSlot (s : State) (p m : Nat) (rest : List Nat) : State :=
  let n := s.txNext p
  let s := (s.setCane p { s.cane p with outbox := rest }).sendLmsg p m
  if lmCode m = LM.STANDBY then s.setCane p { s.cane p with stbySeq := some n }
  else if lmCode m = LM.RETRAIN_ACK then s.enterRetrain p (s.cane p).newWidth (s.cane p).newRate (s.cane p).newEq
  else s

/-- What fills a frame slot: a running replay first, then link messages, then a gob of the priority R230 picks, else IDLE. While the
partner signals HOLD only IDLE frames go (R286, R287, R295). -/
def State.fillSlot (s : State) (p : Nat) (errs : List CellErr) : State :=
  let idle (s : State) : State := s.sendFrame p FT.IDLE plainHdr (s.txNext p) []
  let c := s.cane p
  if s.bit (R.CAN_STATUS p) F.CAN_STATUS_PEER_HOLD then idle s
  else match c.replay with
    | some (a, frame) => s.replaySlot p a frame errs
    | none =>
      if !s.culletRoom p then idle s
      else match c.outbox with
        | m :: rest => s.sendMsgSlot p m rest
        | [] =>
          match s.pickClass p ((s.sendablePri p).map (fun k => (k, 256))) with
          | (some k, s) => s.sendGob p k errs
          | (none, s) => idle s

/-- FRAME_SEND: a transmitter in CN_ACTIVE fills a slot, or sends a marker. In STANDBY it wakes when there is something to send: a
preamble, then a marker slot, and frames once its lanes are ACTIVE (R285, R296). Transmitters are idle after a device-fatal fault (R367). -/
def execFrameSend (p : Fin 256) (marker : Bool) (errs : List CellErr) (s : State) : Host.Outcome State Fault Refusal :=
  let p := p.val
  if s.linkState p ≠ CN.ACTIVE ∨ s.flt.stopped then .next s
  else
    let s := s.drainRepl s.gst.repl.length
    if s.bit (R.CAN_STATUS p) F.CAN_STATUS_TX_STBY then
      if s.caneWants p then .next (((s.put (R.CAN_STATUS p) F.CAN_STATUS_TX_STBY 0).linkPwr p true PWR.ACTIVE).emit (.frame p []))
      else .next s
    else if s.linkRests p true then .next s
    else if marker then .next (s.emit (.frame p []))
    else .next (s.fillSlot p errs)

/-! ### Receiving a frame slot (R285, R288) -/

/-- An acknowledgement: entries below `a` are released; a running replay goes on from `a` when that passes what it has resent (R287).
A value outside the range is a protocol error. -/
def State.takeAck (s : State) (p a : Nat) : State :=
  let n := s.txNext p
  let old := s.txAcked p
  if (n + seqMod - old) % seqMod < (a + seqMod - old) % seqMod then s.linkFails p 8
  else if a = old then s
  else
    let c := s.cane p
    let done := c.cullets.filter (fun e => seqBefore e.seq a)
    let replay := match c.replay with
      | some (x, fr) => if seqBefore x a then some (a, true) else some (x, fr)
      | none => none
    let s := s.setCane p { c with cullets := c.cullets.filter (fun e => !seqBefore e.seq a), stalled := 0, replay := replay }
    let s := s.put (R.CAN_TXSEQ p) F.CAN_TXSEQ_TX_ACKED a
    let s := done.foldl (fun s e => s.releaseCullet p e) s
    let s := match (s.cane p).stbySeq with
      | some q => if seqBefore q a then s.standbyAcked p else s
      | none => s
    s.releaseWaiting p

/-- A NAK starts a replay from `a`, unless the last one started there less than REPLAY_TO ago (R287). -/
def State.takeNak (s : State) (p a : Nat) : State :=
  let fresh := match (s.cane p).replayFrom with
    | some (x, t) => x == a && decide (s.now < t + s.replayTo p)
    | none => false
  if fresh then s else s.startReplay p a

/-- A credit limit; one out of range is a protocol error (R289). -/
def State.takeLimit (s : State) (p c lim : Nat) : State :=
  let r := R.CAN_CRDSTAT p c
  if 2 ^ 19 ≤ (lim + 2 ^ 20 - s.get r F.CAN_CRDSTAT_TX_SENT) % 2 ^ 20 then s.linkFails p 8 else s.put r F.CAN_CRDSTAT_TX_LIM lim

/-- The header of a good frame: ACK, NAK, HOLD and a credit limit (R287, R289, R295). -/
def State.takeHeader (s : State) (p : Nat) (f : List Byte) : State :=
  let w := frWord0 f
  let s := s.takeAck p (frAck f)
  let s := if bitOf w 18 && s.caneRuns p then s.takeNak p (frAck f) else s
  let s := s.put (R.CAN_STATUS p) F.CAN_STATUS_PEER_HOLD (bit01 (bitOf w 19))
  if s.caneRuns p then s.takeLimit p (fieldOf w 20 3) (fieldOf w 23 20) else s

/-- A failure is counted in the window; more than CHK_LIMIT of them take the link down (R288, R297). -/
def State.checkFail (s : State) (p : Nat) : State :=
  let r := R.CAN_ERRCNT p
  let s := s.bump r F.CAN_ERRCNT_WIN_FAILS 1
  let n := s.get r F.CAN_ERRCNT_WIN_FAILS
  let s := if s.get r F.CAN_ERRCNT_WIN_PEAK < n then s.put r F.CAN_ERRCNT_WIN_PEAK n else s
  let s := (s.bump r F.CAN_ERRCNT_CHKFAIL 1).put (R.CAN_STATUS p) F.CAN_STATUS_REPLAY_WAIT 1
  if s.get (R.CAN_LINKCFG p) F.CAN_LINKCFG_CHK_LIMIT < n then s.linkFails p 1 else s

/-- A frame is accepted: DATA to its train, LMSG to the link layer; an unassigned message is ignored (R288, R292). A partner that sends anew
has not gone into STANDBY (R296). -/
def State.acceptFrame (s : State) (p : Nat) (f : List Byte) : State :=
  let e := s.rxExpect p
  let c := s.cane p
  let s := (s.put (R.CAN_RXSEQ p) F.CAN_RXSEQ_RX_EXPECT (e + 1)).setCane p { c with chk := (c.chk + 1) % seqMod, peerStby := false }
  let w := frWord0 f
  if frType f = FT.LMSG then
    let m := frMsg f
    if 1 ≤ lmCode m ∧ lmCode m ≤ 7 then s.setCane p { s.cane p with inbox := c.inbox ++ [m] } else s
  else
    let eop := bitOf w 8
    let n := if eop then fieldOf w 10 8 + 1 else 256
    s.takeGob p (fieldOf w 4 3) (bitOf w 7) eop (eop && bitOf w 9) ((frPayload f).take n)

/-- A frame slot at the receiver (R288). A REPLAY frame that is good under C restarts the sequence and takes no number (DEDUCED, log entry 128). -/
def State.receiveFrame (s : State) (p : Nat) (f : List Byte) : State :=
  let c := s.cane p
  let e := s.rxExpect p
  let restart (s : State) : State :=
    let a := frStart f
    if seqBefore e a || decide (s.culletSize p < (e + seqMod - a) % seqMod) then s.linkFails p 8
    else (s.setCane p { s.cane p with chk := a }).put (R.CAN_STATUS p) F.CAN_STATUS_REPLAY_WAIT 0
  if !crcOk f c.chk then
    if frType f == FT.REPLAY && crcOk f (frStart f) then restart s
    else if s.bit (R.CAN_STATUS p) F.CAN_STATUS_REPLAY_WAIT then s
    else s.checkFail p
  else
    let s := s.takeHeader p f
    if !s.caneRuns p || frType f == FT.IDLE then s
    else if frType f = FT.REPLAY then restart s
    else if seqBefore c.chk e then
      (s.setCane p { s.cane p with chk := (c.chk + 1) % seqMod }).bump (R.CAN_REPCNT p) F.CAN_REPCNT_DUPS 1
    else s.acceptFrame p f

/-- FRAME_RECEIVE: a slot arrives while frames flow and no training word of the partner has come. In receive hold every frame is
discarded. A slot that finds the direction in STANDBY is the wake of the partner: it brings the direction to ACTIVE, and slots are read
from then on (R296). A marker with a wrong number is a monitor count of its lane (R285, R288, R295, R303). -/
def execFrameReceive (p : Fin 256) (slot : CaneSlot) (s : State) : Host.Outcome State Fault Refusal :=
  let p := p.val
  if !s.caneRuns p || (s.linkState p == CN.RETRAIN && (s.cane p).peerWords) then .next s
  else if s.linkRests p false then .next ((s.setCane p { s.cane p with peerStby := false }).linkPwr p false PWR.ACTIVE)
  else match slot with
    | .marker bad => .next (bad.foldl (fun s m => match s.physLane p m.val with
        | some l =>
          let s := { s with lnk := { s.lnk with winCnt := SMap.set s.lnk.winCnt 0 l (SMap.get s.lnk.winCnt 0 l + 1) } }
          s.bump (laneReg R.LNE_ERRCNT l) F.LNE_ERRCNT_LOWMARGIN 1
        | none => s) s)
    | .frame f => .next (if s.bit (R.CAN_STATUS p) F.CAN_STATUS_RX_HOLD then s else s.receiveFrame p f)

/-- CHECK_WINDOW_END: the failure count restarts (R297). -/
def execCheckWindowEnd (p : Fin 256) (s : State) : Host.Outcome State Fault Refusal :=
  .next (s.put (R.CAN_ERRCNT p.val) F.CAN_ERRCNT_WIN_FAILS 0)

end Sys2Proof.Machine
end

