-- ==== Sys2Proof/Machine/Events.lean ====
section
/-!
DEFINITION. Events between cores (R183, R184) and control registers (R185).
-/
namespace Sys2Proof.Machine

/-- SIGNAL sets bit gB[5:0] of logical core gA[5:0]; a number above 31, or bit 63, has no effect (R183). -/
def execSignal (iss : By Agent) (ra rb : Fin 32) (s : State) : Host.Outcome State Fault Refusal :=
  .next (s.ifDecodes iss.who iss.rsv (s.issue iss.who (syl 0x1D 0 ra.val rb.val 0 + 1 * 2 ^ 26) (fun s =>
    let c := s.gr iss.who ra.val % 64
    let b := s.gr iss.who rb.val % 64
    if (s.agent iss.who).deviceWaits then .wait
    else if 31 < c ∨ b = 63 then .next s
    else .next (s.setCore c ((s.core c).setEvent b)))))

/-- WAIT: with a nonzero mask the core returns and clears the masked bits, or sleeps; with mask 0 its clock stops (R183). A core
that stops while a swap is pending switches at once (R213). -/
def execWait (iss : By Agent) (rd ra rb : Fin 32) (s : State) : Host.Outcome State Fault Refusal :=
  .next (s.ifDecodes iss.who iss.rsv (s.issue iss.who (syl 0x1D rd.val ra.val rb.val 0) (coreOnly iss.who (fun s =>
    let x := s.agent iss.who
    let mask := x.rg ra.val
    let hit := Nat.land (x.rcsr CSR.EVPEND) mask
    if mask = 0 then
      match iss.who with
      | .core c =>
        let pend := s.bit (R.GAF_CORE c.val) F.GAF_CORE_SWAP_PEND
        .next ((s.setAgent iss.who { x with run := .stopped rd.val, switched := pend }).switchCore c.val)
      | .lane _ => .next s
    else if hit ≠ 0 then .next (s.setAgent iss.who ((x.wcsr CSR.EVPEND (Nat.xor (x.rcsr CSR.EVPEND) hit)).wg rd.val hit))
    else .next (s.setAgent iss.who { x with run := .waiting mask rd.val (x.rg rb.val != 0) })))))

/-- The limit of a WAIT has passed: it returns 0 (R183). -/
def execWaitTimeout (c : Fin 32) (s : State) : Host.Outcome State Fault Refusal :=
  let x := s.core c.val
  match x.run with
  | .waiting _ rd true => .next (s.setCore c.val { x.wg rd 0 with run := .running })
  | _ => .next s

/-- WAKE starts logical core gA[5:0] if its clock is stopped (R184). -/
def execWake (iss : By Agent) (ra : Fin 32) (s : State) : Host.Outcome State Fault Refusal :=
  .next (s.ifDecodes iss.who iss.rsv (s.issue iss.who (syl 0x1D 0 ra.val 0 0 + 2 * 2 ^ 26) (coreOnly iss.who (needFirm iss.who (fun s =>
    let c := s.gr iss.who ra.val % 64
    if (s.agent iss.who).deviceWaits then .wait
    else if 31 < c then .next s
    else .next (s.setCore c (s.core c).startClock))))))

/-! ### Control registers (R185) -/

/-- Least privilege that may read a CSR, and the one that may write it with the bits it holds; none for a number not in the table. -/
def csrInfo (n : Nat) : Option (Nat × Option (Nat × Nat)) :=
  if n = CSR.STATUS then some (1, some (0, 0xC))
  else if n = CSR.ESTATUS then some (0, some (0, 0xF))
  else if n = CSR.EPC then some (0, some (0, 2 ^ 32 - 1))
  else if n = CSR.ECAUSE then some (0, some (0, 0x7FF))
  else if n = CSR.EADDR then some (0, some (0, 2 ^ 64 - 1))
  else if n = CSR.EVEC then some (0, some (0, 2 ^ 32 - 1))
  else if n = CSR.EVPEND then some (1, some (1, 2 ^ 64 - 1))
  else if n = CSR.EVIE then some (1, some (1, 2 ^ 64 - 1))
  else if n = CSR.CTX_ORIGIN then some (0, some (0, 2 ^ 19 - 1))
  else if n = CSR.SERR_ADDR then some (0, some (0, 2 ^ 64 - 1))
  else if n = CSR.SERR_INFO then some (0, some (0, 0xF))
  else if CSR.COREID ≤ n ∧ n ≤ CSR.LANE then some (2, none)
  else if n = CSR.SCRATCH then some (0, some (0, 2 ^ 64 - 1))
  else none

/-- CSRs a Jack program may read (R193). -/
def csrJack (n : Nat) : Bool := n == CSR.BEAT || n == CSR.TICK || n == CSR.LANE

/-- The value of a CSR. CYCLE counts two core cycles a beat (R389) from a start the manual does not give, and which of the two cycles of its beat
a read meets is free (log entry 124). -/
def State.csrRead (s : State) (ag : Agent) (n : Nat) : Nat × State :=
  if n = CSR.COREID then
    (match ag with | .core c => c.val + s.phys c.val * 2 ^ 8 | .lane _ => 0, s)
  else if n = CSR.CYCLE then
    let ph := match ag with | .core c => s.phys c.val | .lane _ => 0
    let (v, s) := s.free
    ((Config.cycleStart ph + 2 * s.beats + v % 2) % 2 ^ 64, s)
  else if n = CSR.BEAT then (s.rd R.EMB_BEAT, s)
  else if n = CSR.TICK then (s.rd R.EMB_BEAT / 16, s)
  else if n = CSR.LANE then (match ag with | .core _ => 0 | .lane l => l.val, s)
  else ((s.agent ag).rcsr n, s)

/-- Write the bits of a CSR that can be written. -/
def State.csrWrite (s : State) (ag : Agent) (n mask v : Nat) : State :=
  let x := s.agent ag
  let old := x.rcsr n
  s.setAgent ag (x.wcsr n (Nat.lor (Nat.land v mask) (old - Nat.land old mask)))

/-- A CSR instruction: which registers exist, who may touch them, then its effect (R185). -/
def csrOp (fn : Nat) (read write : Bool) (ag : Agent) (rd ra csr : Nat) (s : State) : State :=
  s.issue ag (syl 0x1E rd ra 0 0 + csr * 2 ^ 16 + fn * 2 ^ 28) (fun s =>
    match ag with
    | .lane _ =>
      if write || !csrJack csr then .exc s EX.ILLEGAL 0
      else
        let (v, s) := s.csrRead ag csr
        .next (s.setG ag rd v)
    | .core _ =>
      let x := s.agent ag
      match csrInfo csr with
      | none => .exc s EX.ILLEGAL 0
      | some (rp, w) =>
        match write, w with
        | true, none => .exc s EX.ILLEGAL 0
        | true, some (wp, mask) =>
          if wp < x.priv || (read && decide (rp < x.priv)) then .exc s EX.PRIV 0
          else
            let (old, s) := s.csrRead ag csr
            let s := s.csrWrite ag csr mask (x.rg ra)
            .next (if read then s.setG ag rd old else s)
        | false, _ =>
          if rp < x.priv then .exc s EX.PRIV 0
          else
            let (v, s) := s.csrRead ag csr
            .next (s.setG ag rd v))

/-- CRR: gD = csr (R185). -/
def execCrr (iss : By Agent) (rd : Fin 32) (csr : BitVec 12) (s : State) : Host.Outcome State Fault Refusal :=
  .next (s.ifDecodes iss.who iss.rsv (csrOp 0 true false iss.who rd.val 0 csr.toNat s))

/-- CRW: csr = gA (R185). -/
def execCrw (iss : By Agent) (ra : Fin 32) (csr : BitVec 12) (s : State) : Host.Outcome State Fault Refusal :=
  .next (s.ifDecodes iss.who iss.rsv (csrOp 1 false true iss.who 0 ra.val csr.toNat s))

/-- CRX: writes gA and returns the old value in gD (R185). -/
def execCrx (iss : By Agent) (rd ra : Fin 32) (csr : BitVec 12) (s : State) : Host.Outcome State Fault Refusal :=
  .next (s.ifDecodes iss.who iss.rsv (csrOp 2 true true iss.who rd.val ra.val csr.toNat s))

end Sys2Proof.Machine
end

