-- ==== Sys2Proof/Machine/Epochs.lean ====
section
/-!
DEFINITION. Live change: epoch commits (R208 to R210), direct-write mode (R211, R212, R159), the firmware swap (R213) and spare-core
takeover (R214, R215).
-/
namespace Sys2Proof.Machine

/-! ### Commits (R208 to R210) -/

/-- A domain refuses: BAD_WHY and BAD_ITEM recorded, EPOCH_COMMIT logged, event bit 42 set (R204, R209). -/
def State.refuseCommit (s : State) (d why item : Nat) : State :=
  let r := R.GAF_EPSTAT d
  let s := ((s.put r F.GAF_EPSTAT_COMMIT_BAD 1).put r F.GAF_EPSTAT_BAD_WHY why).put r F.GAF_EPSTAT_BAD_ITEM item
  (s.report FC.EPOCH_COMMIT UK.module 0 0 item (why + d * 16)).event 42

/-- A domain swaps: its shadow bank comes into force, EPOCH rises, DRAINED clears (R210). -/
def State.swapDomain (s : State) (d : Nat) : State :=
  let r := R.GAF_EPSTAT d
  let old := s.act
  let s := s.swapBanks (inDomain d)
  let s := ((s.put r F.GAF_EPSTAT_EPOCH (s.get r F.GAF_EPSTAT_EPOCH + 1)).put r F.GAF_EPSTAT_DRAINED 0).put r F.GAF_EPSTAT_COMMIT_PEND 1
  let s := if d = 2 then s.put R.SCH_STATUS F.SCH_STATUS_COMMIT_PEND 1 else s
  s.afterChange d old

/-- One write commits any set of domains and gates; with ALL the domains swap together or not at all (R208, R209). -/
def execGafCommit (fwd act sch all : Bool) (gates : BitVec 32) (s : State) : Host.Outcome State Fault Refusal :=
  let ds := (if fwd then [0] else []) ++ (if act then [1] else []) ++ (if sch then [2] else [])
  let bad := ds.filterMap (fun d => (s.domainRefusal d).map (fun f => (d, f)))
  let good := if all && !bad.isEmpty then [] else ds.filter (fun d => (s.domainRefusal d).isNone)
  let s := good.foldl State.swapDomain s
  let s := bad.foldl (fun s e => s.refuseCommit e.1 e.2.1 e.2.2) s
  let s := if all && !bad.isEmpty then s.setBit R.GAF_STATUS F.GAF_STATUS_ALL_REFUSED else s
  .next ((List.range 32).foldl (fun s g => if bitOf gates.toNat g then s.gateCommit g else s) s)

/-- The last request or decision bound to a domain's old bank has ended (R210). -/
def execEpochDrained (d : Fin 3) (s : State) : Host.Outcome State Fault Refusal :=
  .next (if s.bit (R.GAF_EPSTAT d.val) F.GAF_EPSTAT_COMMIT_PEND && s.oldInflight d.val == 0 then
    s.put (R.GAF_EPSTAT d.val) F.GAF_EPSTAT_DRAINED 1 else s)

/-- Configuration completions that waited for COMMIT_PEND of the forwarding domain leave (R223). -/
def State.answerConfigs (s : State) : State :=
  let ws := s.prt.cfgWait
  let s := { s with prt := { s.prt with cfgWait := [] } }
  ws.foldl (fun s e => s.answer e.1 e.2.1 e.2.2 0 .sc [] 0 .endpoint) s

/-- The copy into the new shadow bank is done: COMMIT_PEND clears and event bit 42 is set (R210). -/
def execEpochCopyDone (d : Fin 3) (s : State) : Host.Outcome State Fault Refusal :=
  let r := R.GAF_EPSTAT d.val
  if s.bit r F.GAF_EPSTAT_COMMIT_PEND && s.bit r F.GAF_EPSTAT_DRAINED then
    let s := s.copyBanks (inDomain d.val)
    let s := if d.val = 1 then s.copyActionMemory else s
    let s := if d.val = 2 then s.put R.SCH_STATUS F.SCH_STATUS_COMMIT_PEND 0 else s
    let s := (s.put r F.GAF_EPSTAT_COMMIT_PEND 0).event 42
    .next (if d.val = 0 then s.answerConfigs else s)
  else .next s

/-! ### Direct-write mode (R211, R212) -/

/-- Drop the lower words that wait in holding copies at the addresses `p` names. -/
def State.dropHolding (s : State) (p : Nat → Bool) : State :=
  { s with gaf := { s.gaf with holding := SMap.keep s.gaf.holding (fun a => !p a) } }

/-- Region records of the gates. -/
def inGates (a : Nat) : Bool := decide (0x2400100 ≤ a) && decide (a < 0x2428000)

/-- A write of GAF_DEBUG with the key; ignored with CFG_REFUSED while a domain or gate that would enter the mode has COMMIT_PEND
(R211). -/
def execDirectModeWrite (direct : BitVec 3) (gdir : Bool) (key : BitVec 16) (s : State) : Host.Outcome State Fault Refusal :=
  let old := s.get R.GAF_DEBUG F.GAF_DEBUG_DIRECT
  let oldG := s.bit R.GAF_DEBUG F.GAF_DEBUG_GDIR
  let enters := [0, 1, 2].any (fun d => bitOf direct.toNat d && !bitOf old d && s.bit (R.GAF_EPSTAT d) F.GAF_EPSTAT_COMMIT_PEND)
  let entersG := gdir && !oldG && (List.range 32).any (fun g => s.bit (R.GAT_GSTAT g) F.GAT_GSTAT_COMMIT_PEND)
  if key.toNat ≠ 0x5120 then .next s
  else if enters || entersG then .next (s.setBit R.GAF_STATUS F.GAF_STATUS_CFG_REFUSED)
  else
    let s := (s.put R.GAF_DEBUG F.GAF_DEBUG_DIRECT direct.toNat).put R.GAF_DEBUG F.GAF_DEBUG_GDIR (bit01 gdir)
    let s := [0, 1, 2].foldl (fun s d => if bitOf old d && !bitOf direct.toNat d then s.dropHolding (inDomain d) else s) s
    .next (if oldG && !gdir then s.dropHolding inGates else s)

/-- Bits of a register that belong to a field. -/
def cardMask (c : Card) : Nat := (c.fields.map (fun f => (2 ^ f.f.w - 1) * 2 ^ f.f.lo)).sum

/-- The highest word of a record: its domain, its register, the reset value of the lower word, and the bits that exist. -/
def recordRef : DirectRec → Nat × RegRef × Nat × Nat
  | .mirror i => (1, R.CRU_MIRBASE i.val, (R.CRU_MIRSESS i.val).rst, cardMask Card.CRU_MIRBASE)
  | .profile i => (1, R.POL_PROFB i.val, (R.POL_PROFA i.val).rst, cardMask Card.POL_PROFB)
  | .table t => (1, R.JCK_TBLB t.val, (R.JCK_TBLA t.val).rst, cardMask Card.JCK_TBLB)
  | .peer pt w => (0, R.PTN_PEERB pt.val w.val, (R.PTN_PEERA pt.val w.val).rst, cardMask Card.PTN_PEERB)
  | .slot j => (1, R.JCK_SLOT j.val, 0, cardMask Card.JCK_SLOT)
  | .mirrorPort p => (0, R.CRU_MIRPORT p.val, 0, cardMask Card.CRU_MIRPORT)
  | .role p => (0, R.PRT_ROLE p.val, 0, cardMask Card.PRT_ROLE)
  | .partition pt => (0, R.PTN_CFG pt.val, 0, cardMask Card.PTN_CFG)
  | .node n => (2, R.SCH_NODECFG n.val, 0, cardMask Card.SCH_NODECFG)
  | .queue q => (2, R.SCH_QATT q.val, 0, cardMask Card.SCH_QATT)

/-- The highest word of a record is written in direct-write mode (R211, R212); outside the mode the write is an ordinary one. -/
def execDirectRecordWrite (item : DirectRec) (v : BitVec 64) (s : State) : Host.Outcome State Fault Refusal :=
  let (d, r, lowRst, mask) := recordRef item
  .next (if s.direct d then s.directWrite d r lowRst (Nat.land v.toNat mask) else s)

/-- A region of the gate, and of the gates that are checked with it, fails a check of R154 that involves it. -/
def State.regionFails (s : State) (g i : Nat) : Bool :=
  let host := if g < 24 then g else if s.getAct (R.GAT_XCFG (g - 24)) F.GAT_XCFG_EN = 1 then s.getAct (R.GAT_XCFG (g - 24)) F.GAT_XCFG_HOST else g
  let rs := s.gateRegions false host
  match (s.regionsOf false g).find? (fun r => r.no == i) with
  | none => false
  | some r => r.badShape (gateSpan host true) || rs.any (fun t => !(t.gate == r.gate && t.no == r.no) && r.overlaps t)

/-- Word B of a region record in direct-write mode applies the record to both banks, or keeps the old one with CFG_PAIRERR (R159). -/
def execGateRegionDirectWrite (g : Fin 32) (i : Fin 64) (v : BitVec 64) (s : State) : Host.Outcome State Fault Refusal :=
  if !s.bit R.GAF_DEBUG F.GAF_DEBUG_GDIR then .next s
  else
    let a := R.GAT_RGNA g.val i.val
    let t := match SMap.get s.gaf.holding none a.addr with
      | some lv => s.wrBoth a lv
      | none => s
    let t := t.wrBoth (R.GAT_RGNB g.val i.val) (Nat.land v.toNat (cardMask Card.GAT_RGNB))
    let r := if t.regionFails g.val i.val then s.setBit R.GAT_STATUS F.GAT_STATUS_CFG_PAIRERR else t
    .next { r with gaf := { r.gaf with holding := SMap.set r.gaf.holding none a.addr none } }

/-! ### Firmware swap (R213) -/

/-- A core whose clock is stopped, or that has no physical core (R213, R215). -/
def Core.isStopped (x : Core) : Bool :=
  match x.run with
  | .stopped _ => true
  | .starting _ => true
  | .failed => true
  | _ => false

/-- A swap starts: running cores receive event bit 36 and have still to switch; stopped cores switch at once (R213). -/
def State.firmwareSwap (s : State) (bank : Bool) : State :=
  if s.bit R.GAF_STATUS F.GAF_STATUS_SWAP_BUSY || s.get R.GAF_STATUS F.GAF_STATUS_ACTIVE_BANK == bit01 bank then
    s.setBit R.GAF_STATUS F.GAF_STATUS_CFG_REFUSED
  else
    let s := s.setBit R.GAF_STATUS F.GAF_STATUS_SWAP_BUSY
    let s := (List.range 32).foldl (fun s c =>
      if (s.core c).isStopped then (s.setCore c { s.core c with switched := true }).put (R.GAF_CORE c) F.GAF_CORE_BANK (bit01 bank)
      else (s.setCore c ((s.core c).setEvent 36)).setBit (R.GAF_CORE c) F.GAF_CORE_SWAP_PEND) s
    s.finishSwap

/-- GAF_CORECMD SWAP (R213). -/
def execFirmwareSwap (bank : Bool) (s : State) : Host.Outcome State Fault Refusal := .next (s.firmwareSwap bank)

/-- A core that has not switched within SWAP_TO: once its store buffer is drained it is stopped, its registers are zeroed, and it
restarts at syllable 1 of the new bank; pending events stay (R213). -/
def execGafSwapForced (c : Fin 32) (s : State) : Host.Outcome State Fault Refusal :=
  let x := s.core c.val
  if !s.bit (R.GAF_CORE c.val) F.GAF_CORE_SWAP_PEND || !x.sb.isEmpty || x.run == .taking then .next s
  else
    let s := s.report FC.GAF_SWAP_FORCED UK.core c.val 0 (s.phys c.val) x.pc
    let y : Core := { csr := SMap.set [] 0 CSR.EVPEND (x.rcsr CSR.EVPEND), pc := 1, run := .running, ran := true }
    .next ((s.setCore c.val y).switchCore c.val)

/-! ### Spare-core takeover (R214, R215) -/

/-- The logical core has a physical core and is not being taken over. -/
def State.hasCore (s : State) (c : Nat) : Bool := s.phys c != 0x3F && (s.core c).run != .taking

/-- GAF_CORECMD TAKEOVER (R214). -/
def execCoreTakeover (c : Fin 32) (s : State) : Host.Outcome State Fault Refusal :=
  .next (if s.hasCore c.val then s.takeover c.val false else s)

/-- A core that is neither stopped nor in WAIT retires no instruction for STALL_TO: it is taken over while AUTO_TK = 1 (R214). -/
def execGafStall (c : Fin 32) (s : State) : Host.Outcome State Fault Refusal :=
  let x := s.core c.val
  let active := match x.run with
    | .running => true
    | .held _ => true
    | .faulting _ => true
    | _ => false
  if s.hasCore c.val && active && s.bit R.GAF_CTL F.GAF_CTL_AUTO_TK then
    .next ((s.report FC.GAF_STALL UK.core c.val 0 (s.phys c.val) x.pc).takeover c.val false)
  else .next s

/-- An uncorrectable error in a core's registers or store buffer: logged, and while AUTO_TK = 1 the core is taken over with its store
buffer discarded (R214). -/
def execGafCoreUe (c : Fin 32) (s : State) : Host.Outcome State Fault Refusal :=
  if !s.hasCore c.val then .next s
  else
    let auto := s.bit R.GAF_CTL F.GAF_CTL_AUTO_TK
    let s := s.report FC.GAF_CORE_UE UK.core c.val 0 (s.phys c.val + bit01 auto * 2 ^ 15) 0
    .next (if auto then s.takeover c.val true else s)

/-- The spare starts once the store buffer is drained: registers zero, firm privilege, syllable 2 of the active bank or of the target
of a pending swap, with the failed core's events and bit 37 (R214). -/
def State.spareStart (s : State) (c : Nat) : State :=
  let x := s.core c
  if x.run != .taking || !x.sb.isEmpty then s
  else
    let y : Core := { csr := SMap.set [] 0 CSR.EVPEND (Nat.lor (x.rcsr CSR.EVPEND) (2 ^ 37)), pc := 2, run := .running, ran := true }
    (s.setCore c y).switchCore c

/-- SPARE_START (R214). -/
def execSpareStart (c : Fin 32) (s : State) : Host.Outcome State Fault Refusal := .next (s.spareStart c.val)

end Sys2Proof.Machine
end

