-- ==== Sys2Proof/Machine/Side.lean ====
section
/-!
DEFINITION. The side bridge (R324 to R337): decoding, request tags and queues, transfers of the lath bus and the side buses, the
late-error log, prefetch buffers and polling.
-/
namespace Sys2Proof.Machine

/-- Statuses of a transfer (R328). -/
def SS.OK : Nat := 0
def SS.OFF : Nat := 8
def SS.FLUSHED : Nat := 9

/-! ### Decoding (R324, R326) -/

/-- SIZE_LOG2 of a region record, which lies from 8 to 24 (R326). -/
def rgnLog2 (v : Nat) : Nat := min 24 (max 8 (fieldOf v 3 5))
/-- Base of a region record, aligned to its size. -/
def rgnBase (v : Nat) : Nat := fieldOf v 8 22 * 256 / 2 ^ rgnLog2 v * 2 ^ rgnLog2 v
/-- The enabled region record covers the side address. -/
def rgnCovers (v a : Nat) : Bool := fieldOf v 0 1 == 1 && decide (rgnBase v ≤ a) && decide (a < rgnBase v + 2 ^ rgnLog2 v)

/-- The region that a side address lies in. -/
def State.rgnOf (s : State) (a : Nat) : Option Nat := (List.range 16).find? (fun r => rgnCovers (s.rd (R.LTH_RGN r)) a)

/-- Queue, configuration and region plus one of an access of `n` bytes at side address `a`, or none when it decodes to nothing. -/
def State.sideDecode (s : State) (a n : Nat) : Option (Nat × Nat × Nat) :=
  if a / 2 ^ 30 = 0 then
    match s.rgnOf a with
    | some r =>
      let v := s.rd (R.LTH_RGN r)
      if a + n ≤ rgnBase v + 2 ^ rgnLog2 v then some (fieldOf v 1 2, v, r + 1) else none
    | none => none
  else if a / 2 ^ 30 = 1 ∧ fieldOf a 29 1 = 0 ∧ fieldOf a 23 3 = 0 ∧ a % 256 = 0 then
    some (4 + fieldOf a 26 3, s.rd (R.LTH_SBCFG (fieldOf a 26 3)), 0)
  else none

/-- POSTED, PREF and LE_VEC of a request's region or bus. -/
def sidePosted (cfg rgn : Nat) : Bool := if rgn = 0 then bitOf cfg 4 else bitOf cfg 40
def SideReq.pref (r : SideReq) : Bool := r.rgn != 0 && bitOf r.cfg 41
def SideReq.vec (r : SideReq) : Nat := if r.rgn = 0 then fieldOf r.cfg 5 11 else fieldOf r.cfg 42 11

/-! ### Tags, buffers, prefetch -/

/-- An access holds a request tag (R330). -/
def SideReq.tagged (r : SideReq) : Bool := !(r.write && r.posted)
def State.sideTags (s : State) : Nat := 32 - (s.lth.reqs.filter SideReq.tagged).length
def State.sidePostedFree (s : State) : Nat := 64 - (s.lth.reqs.filter (fun r => !r.tagged)).length

/-- Discard the prefetch buffers that `p` names; each with a byte unserved counts (R335). -/
def State.prefDiscard (s : State) (p : PrefBuf → Bool) : State :=
  let n := (s.lth.pref.filter (fun b => p b && b.served != 255)).length
  let s := { s with lth := { s.lth with pref := s.lth.pref.filter (fun b => !p b) } }
  if n = 0 then s else s.bump R.LTH_PREFDISC F.LTH_PREFDISC_DISCARDS n

/-- Bytes of a word that an access covers, as a mask. -/
def byteMask (a n : Nat) : Nat := (2 ^ n - 1) * 2 ^ (a % 8)

/-- The buffer that can serve a read: it holds all its bytes, and none was served before. -/
def State.prefHit (s : State) (a n : Nat) : Option PrefBuf :=
  s.lth.pref.find? (fun b => b.word == a / 8 && decide (a % 8 + n ≤ 8) && Nat.land b.served (byteMask a n) == 0)

/-- Serve bytes from a buffered word. -/
def State.prefServe (s : State) (b : PrefBuf) (a n : Nat) : Nat × State :=
  let l := s.lth.pref.map (fun x => if x = b then { x with served := Nat.lor x.served (byteMask a n) } else x)
  (fieldOf b.data (8 * (a % 8)) (8 * n), { s with lth := { s.lth with pref := l } })

/-- A prefetched word arrives: it fills a buffer, the least recently filled one when all 8 are in use (R335). -/
def State.prefFill (s : State) (rgn word data : Nat) : State :=
  let s := s.prefDiscard (fun b => b.word == word)
  let s := match s.lth.pref with
    | b :: _ => if 8 ≤ s.lth.pref.length then s.prefDiscard (· == b) else s
    | [] => s
  { s with lth := { s.lth with pref := s.lth.pref ++ [⟨rgn, word, data, 0⟩] } }

/-! ### Answers -/

/-- A read answers the master that made it: a host by a completion (R13, R22). -/
def State.replyRead (s : State) (m : Master) (v n : Nat) : State :=
  match m with
  | .host o x => s.replyTo o.toNat x .sc (leBytes v n)
  | .core _ => s.emit (.readData v)

/-- A failed read answers its master: a host by a completion with a status that is no success, which its function records (R13, R245). -/
def State.replyFail (s : State) (m : Master) (st : CplStatus) : State :=
  match m with
  | .host o x => (if st = .ur then s.fnUnsupported (oFn o.toNat) else s.fnAbort (oFn o.toNat)).replyTo o.toNat x st []
  | .core _ => s.emit .accessError

/-- A read returns to its requester: `v` with the bytes read, or none for a failed read (R334, R336). `o` is the tag of the access. -/
def State.sideAnswer (s : State) (who : SideWho) (o n : Nat) (v : Option Nat) : State :=
  match who, v with
  | .host x, some v => s.replyRead (.host (.ofNat 32 o) x) v n
  | .host x, none => s.replyFail (.host (.ofNat 32 o) x) .ca
  | .core _, some v => s.emit (.readData v)
  | .core _, none => s.emit .accessError
  | .load c rd sx insn ea, some v =>
    let x := s.core c
    match x.run with
    | .held _ =>
      let v := if sx then sext v (8 * n) else v
      let ag : Agent := .core ⟨c % 32, Nat.mod_lt _ (by decide)⟩
      let s := s.setCore c { x.wg rd v with run := .running }
      let s := s.tally { ev 0x02 1 (some (s.agentOrigin ag)) (some (spaceOf ea, offOf ea)) (s.agentUnit ag) with insn := insn, pc := x.pc }
      (s.retireInsn ag insn x.pc).complete1 ag
    | _ => s
  | .load c _ _ _ ea, none =>
    let x := s.core c
    match x.run with
    | .held _ => (s.setCore c { x with run := .faulting ea }).settleFault c
    | _ => s
  | .poll e, none => s.put R.LTH_POLLSTAT F.LTH_POLLSTAT_ERR (Nat.lor (s.get R.LTH_POLLSTAT F.LTH_POLLSTAT_ERR) (2 ^ e))
  | .poll e, some v =>
    let old := s.rd (R.LTH_POLLVAL e)
    let mask := s.rdAct (R.LTH_POLLMASK e)
    let s := s.wr (R.LTH_POLLVAL e) v
    let hit := if s.getAct (R.LTH_POLL e) F.LTH_POLL_MODE = 0 then Nat.land v mask != Nat.land old mask else Nat.land v mask != 0
    let pend := s.get R.LTH_POLLSTAT F.LTH_POLLSTAT_PEND
    if hit then
      let s' := s.put R.LTH_POLLSTAT F.LTH_POLLSTAT_PEND (Nat.lor pend (2 ^ e))
      if bitOf pend e then s' else s'.msix 0 (s.getAct (R.LTH_POLL e) F.LTH_POLL_VEC) 0
    else s
  | .store _, _ | .gone, _ => s

/-- A failed write in the late-error log, with what follows (R333). -/
def State.lateError (s : State) (r : SideReq) (status : Nat) : State :=
  let s := match (List.range 16).find? (fun i => !s.bit (R.LTH_LELOGA i) F.LTH_LELOGA_VALID) with
    | some i =>
      (s.wr (R.LTH_LELOGA i) (r.addr % 2 ^ 32 + status * 2 ^ 32 + 2 ^ 62)).wr (R.LTH_LELOGB i)
        (oPt r.origin + oFn r.origin * 2 ^ 6 + r.wsn * 2 ^ 19 + oEng r.origin * 2 ^ 35)
    | none => s.setBit R.LTH_STATUS F.LTH_STATUS_LE_OVF
  let s := s.event 38
  let s := if oEng r.origin = 0 ∧ oFn r.origin ≠ noFn then s.msix (oFn r.origin) r.vec 0 else s
  s.reportMaster FC.LTH_WRFAIL r.origin r.wsn (r.addr % 2 ^ 32 + status * 2 ^ 32)

/-- The store of core `c` that became request `id` leaves the store buffer (R134). -/
def State.sideStored (s : State) (c id : Nat) : State :=
  let x := s.core c
  s.setCore c { x with sb := x.sb.filter (fun e => e.sent != id + 1) }

/-- A request ends with a status and, for a read, the bytes of its transfer (R328, R332 to R335). -/
def State.sideEnd (s : State) (r : SideReq) (status data : Nat) : State :=
  let s := { s with lth := { s.lth with reqs := s.lth.reqs.filter (fun x => x.id != r.id) } }
  if r.write then
    let ea := match r.who with
      | .store c => (((s.core c).sb.find? (fun e => e.sent == r.id + 1)).map (·.addr)).getD (4 * 2 ^ 48 + r.addr)
      | _ => 0
    let s := match r.who, r.posted with
      | .store c, false => s.sideStored c r.id
      | .host _, false => s.emit .writeDone
      | _, _ => s
    if status = SS.OK then s
    else match r.who, r.posted with
      | .store c, false => s.storeErr c ea 2
      | .core c, false => s.storeErr c (4 * 2 ^ 48 + r.addr) 2
      | _, _ => s.lateError r status
  else if status ≠ SS.OK then s.sideAnswer r.who r.origin r.size none
  else if r.pref then
    let s := s.prefFill (r.rgn - 1) (r.addr / 8) (data % 2 ^ 64)
    match s.lth.pref.find? (fun b => b.word == r.addr / 8) with
    | some b =>
      let (v, s) := s.prefServe b r.addr r.size
      s.sideAnswer r.who r.origin r.size (some v)
    | none => s
  else s.sideAnswer r.who r.origin r.size (some (data % 2 ^ (8 * r.size)))

/-! ### Accepting accesses (R330 to R332, R335) -/

/-- How the bridge takes an access. -/
inductive SideRes where
  | wait                          -- no tag, or no posted buffer entry
  | refused                       -- decodes to nothing
  | data (v : Nat)                -- served from a prefetch buffer
  | queued (id : Nat)             -- entered its queue
  deriving DecidableEq, Repr

/-- Enter an access into its queue. -/
def State.sideQueue (s : State) (write : Bool) (a n data origin : Nat) (who : SideWho) (d : Nat × Nat × Nat) (posted : Bool) : State :=
  let wsn := s.get R.LTH_STATUS F.LTH_STATUS_NEXT_WSN
  let r : SideReq := ⟨s.lth.nextId, write, a, n, data, origin, who, d.1, d.2.1, d.2.2, posted, wsn, false, false⟩
  let s := { s with lth := { s.lth with reqs := s.lth.reqs ++ [r], nextId := s.lth.nextId + 1 } }
  if write then s.put R.LTH_STATUS F.LTH_STATUS_NEXT_WSN (wsn + 1) else s

/-- A read arrives at the bridge. -/
def State.sideRead (s : State) (a n origin : Nat) (who : SideWho) : SideRes × State :=
  match s.sideDecode a n with
  | none => (.refused, s)
  | some d =>
    match (if d.2.2 != 0 && bitOf d.2.1 41 then s.prefHit a n else none) with
    | some b =>
      let (v, s) := s.prefServe b a n
      (.data v, s.bump R.LTH_PREFDISC F.LTH_PREFDISC_HITS 1)
    | none =>
      if s.sideTags = 0 then (.wait, s)
      else (.queued s.lth.nextId, s.sideQueue false a n 0 origin who d false)

/-- A write arrives at the bridge; its word leaves the prefetch buffers. -/
def State.sideWrite (s : State) (a n data origin : Nat) (who : SideWho) : SideRes × State :=
  match s.sideDecode a n with
  | none => (.refused, s)
  | some d =>
    let posted := sidePosted d.2.1 d.2.2
    if (if posted then s.sidePostedFree = 0 else s.sideTags = 0) then (.wait, s)
    else
      let s := s.prefDiscard (fun b => b.word == a / 8)
      (.queued s.lth.nextId, s.sideQueue true a n data origin who d posted)

/-- The origin tag of a master's access (R23, R164). -/
def State.masterOrigin (s : State) : Master → Nat
  | .host o _ => o.toNat
  | .core c => s.agentOrigin (.core c)

/-- Who makes an access of a device or of control space, for the gates in front of it (R156). -/
def SideWho.no : SideWho → Nat
  | .host x => 3000 + x.tag.toNat
  | .store c => storeWho c
  | .load c _ _ _ _ => c + 1
  | .core c => 5000 + c
  | .poll e => 6000 + e
  | .gone => 0

/-- How an access of control space or of the side bridge ends. -/
inductive RegRes where
  | wait (s : State)              -- cannot be carried out yet; a gate may have decided on it (R156)
  | denied (s : State)            -- a gate or a privilege rule stops it
  | err (s : State)               -- R13
  | none' (s : State)             -- the side bridge decodes nothing there (R324)
  | out (s : State)               -- a side-bridge access that is answered later
  | done (v : Nat) (s : State)

/-- The gate in front of the side bridge (R148). -/
def gateSide : Nat := 19

/-- A read of the side bridge past GATE19. -/
def State.sideLoad (s : State) (o a len : Nat) (who : SideWho) : RegRes :=
  let (ok, s1) := s.gateArrive gateSide a len AK.read o who.no
  let free (t : State) : State := t.gateFree gateSide a len AK.read o who.no
  if !ok then .denied s1
  else match s1.sideRead a len o who with
    | (.wait, _) => .wait (s1.gateBind gateSide a len AK.read o who.no)
    | (.refused, t) => .none' (free t)
    | (.data v, t) => .done v (free t)
    | (.queued _, t) => .out (free t)

/-- A write of the side bridge past GATE19: a posted one is acknowledged at once (R332). -/
def State.sideStore (s : State) (o a len v : Nat) (who : SideWho) : RegRes :=
  let (ok, s1) := s.gateArrive gateSide a len AK.write o who.no
  let free (t : State) : State := t.gateFree gateSide a len AK.write o who.no
  if !ok then .denied s1
  else match s1.sideWrite a len (v % 2 ^ (8 * len)) o who with
    | (.wait, _) => .wait (s1.gateBind gateSide a len AK.write o who.no)
    | (.refused, t) => .none' (free t)
    | (.data _, t) => .done 0 (free t)
    | (.queued id, t) => if t.lth.reqs.any (fun r => r.id == id && r.posted) then .done 0 (free t) else .out (free t)

/-- A master's access as the side bridge sees it. -/
def sideOf : Master → SideWho
  | .host _ x => .host x
  | .core c => .core c.val

/-- Device accesses of a master before which a new one must wait: those of a core that are buffered (R133, R139); for a read of a host, its
function's writes that are not acknowledged yet (R134). -/
def State.behindWrites (s : State) (m : Master) (write : Bool) : Bool :=
  match m with
  | .core c => (s.core c.val).deviceWaits
  | .host o _ => !write && s.lth.reqs.any (fun r => r.write && !r.posted && (match r.who with | .host _ => true | _ => false) &&
      oFn r.origin == oFn o.toNat)

/-- A read answers its master. -/
def RegRes.answer (r : RegRes) (m : Master) (n : Nat) : State :=
  match r with
  | .wait t | .out t => t
  | .denied t | .err t => t.replyFail m .ca
  | .none' t => t.replyFail m .ur
  | .done v t => t.replyRead m v n

/-- A write answers its master: a host's write is posted, so a refused one is dropped; where nothing decodes it its function records an
Unsupported Request (R248, R324). -/
def RegRes.acknowledge (r : RegRes) (m : Master) : State :=
  match r, m with
  | .wait t, _ | .out t, _ => t
  | .none' t, .host o _ => t.fnUnsupported (oFn o.toNat)
  | .denied t, .host _ _ | .err t, .host _ _ => t
  | .denied t, .core _ | .err t, .core _ | .none' t, .core _ => t.emit .accessError
  | .done _ t, _ => t.emit .writeDone

/-- A master reads `n` bytes by `f`: a host only through a function that decodes memory and is not held (R32, R246, R368), and behind the
writes that stand before the read. -/
def State.masterRead (s : State) (m : Master) (n : Nat) (f : State → RegRes) : State :=
  match m with
  | .core _ => if s.behindWrites m false then s else (f s).answer m n
  | .host o _ =>
    if s.flt.stopped then s
    else if !s.decodes (oFn o.toNat) then s.replyFail m .ur
    else if s.requesterShut o.toNat then s.replyFail m .ca
    else if s.behindWrites m false then s
    else (f s).answer m n

/-- A master writes by `f`: a core behind its buffered device stores (R133, R139), a host only through a function that decodes memory and is
not held; its other writes are dropped. -/
def State.masterWrite (s : State) (m : Master) (f : State → RegRes) : State :=
  match m with
  | .core _ => if s.behindWrites m true then s else (f s).acknowledge m
  | .host o _ =>
    if s.flt.stopped then s
    else if !s.decodes (oFn o.toNat) then s.fnUnsupported (oFn o.toNat)
    else if s.requesterShut o.toNat then s
    else (f s).acknowledge m

/-- SIDE_READ: a read of 2^`log2` bytes by a master (R325, R330). -/
def execSideRead (m : Master) (a : BitVec 32) (log2 : Fin 4) (s : State) : Host.Outcome State Fault Refusal :=
  let n := 2 ^ log2.val
  .next (s.masterRead m n (fun s => s.sideLoad (s.masterOrigin m) (a.toNat / n * n) n (sideOf m)))

/-- A write of core `c` at `ea` that is denied or decodes to nothing is reported as R190 states. -/
def RegRes.failsLate (r : RegRes) (c ea : Nat) : RegRes :=
  match r with
  | .none' t => .out (t.storeErr c ea 2)
  | .denied t => .out (t.storeErr c ea 0)
  | r => r

/-- SIDE_WRITE: a write of 2^`log2` bytes by a master (R190, R325, R330, R332). -/
def execSideWrite (m : Master) (a : BitVec 32) (log2 : Fin 4) (v : BitVec 64) (s : State) : Host.Outcome State Fault Refusal :=
  let n := 2 ^ log2.val
  let a := a.toNat / n * n
  .next (s.masterWrite m (fun s =>
    let r := s.sideStore (s.masterOrigin m) a n v.toNat (sideOf m)
    match m with
    | .core c => r.failsLate c.val (4 * 2 ^ 48 + a)
    | .host _ _ => r))

/-! ### Transfers (R327 to R331) -/

/-- Gaffer is in reset (R34). -/
def State.gafInReset (s : State) : Bool := bitOf (s.get R.RST_DOMAIN F.RST_DOMAIN_IN_RESET) 2

/-- A transfer of the request ends OFF (R328, R337). -/
def State.sideOff (s : State) (r : SideReq) : Bool :=
  !s.bit R.LTH_CTL F.LTH_CTL_ENABLE || s.gafInReset ||
    (if r.rgn = 0 then !s.bit (R.LTH_SBCFG (r.q - 4)) F.LTH_SBCFG_EN else !s.bit (R.LTH_RGN (r.rgn - 1)) F.LTH_RGN_EN)

/-- The oldest access of a queue. -/
def State.sideHead (s : State) (q : Nat) : Option SideReq := s.lth.reqs.find? (fun r => r.q == q)

/-- Command and address words of a lath transfer at device address `a` (R327): the data words less one, and the byte enables of the first and of
the last word, whose low bit stands for the byte at the even address (DEDUCED, log entry 129). -/
def lathWords (write : Bool) (a n : Nat) : List Nat :=
  let en := if n = 1 then 2 ^ (a % 2) else 3
  [bit01 write * 2 ^ 15 + (max 1 (n / 2) - 1) * 2 ^ 13 + en * 2 ^ 11 + en * 2 ^ 9, a / 2 ^ 16 % 2 ^ 8, a % 2 ^ 16 / 2 * 2]

/-- The transaction of an access of `n` bytes on a side bus of a mode (R329). -/
def sideTran (mode n : Nat) : SideTran := if mode = 3 then .i3c n else if n = 1 then .byte else if n = 2 then .word else .block n

/-- What the bridge drives for a request, as an access of `n` bytes at side address `a`: a transfer of the lath bus with its wait cycles, or a
transaction of a side bus, which carries a PEC in the SMBus modes with PEC_EN (R327, R329). -/
def SideReq.transfer (r : SideReq) (a n : Nat) : Out :=
  let bs := if r.write then leBytes r.data n else []
  if r.rgn = 0 then
    let mode := fieldOf r.cfg 1 2
    .sideBus (r.q - 4) mode (mode != 3 && bitOf r.cfg 3) r.write (sideTran mode n) (fieldOf a 16 7) (fieldOf a 8 8) bs
  else .lath r.q (fieldOf r.cfg 32 8) (lathWords r.write (a - rgnBase r.cfg) n) bs

/-- Start the transfer of a request: the device sees the access; a read in a PREF region asks for its whole word (R335). -/
def State.sideStart (s : State) (r : SideReq) : State :=
  if s.sideOff r then s.sideEnd r SS.OFF 0
  else
    let l := s.lth.reqs.map (fun x => if x.id = r.id then { x with running := true } else x)
    let s := { s with lth := { s.lth with reqs := l } }
    let (a, n) := if r.pref && !r.write then (r.addr / 8 * 8, 8) else (r.addr, r.size)
    s.emit (r.transfer a n)

/-- LATH_TRANSFER: the chip-select queues take the lath bus in turn, one transfer at a time (R331). -/
def execLathTransfer (s : State) : Host.Outcome State Fault Refusal :=
  if s.lth.reqs.any (fun r => r.running && decide (r.q < 4)) then .next s
  else
    match ((List.range 4).map (fun i => (s.lth.last + i) % 4)).find? (fun q => (s.sideHead q).isSome) with
    | none => .next s
    | some q =>
      match s.sideHead q with
      | none => .next s
      | some r => .next ({ s with lth := { s.lth with last := (q + 1) % 4 } }.sideStart r)

/-- SIDE_BUS_TRANSFER: a side bus starts its queue's next access (R329). -/
def execSideBusTransfer (b : Fin 8) (s : State) : Host.Outcome State Fault Refusal :=
  match s.sideHead (4 + b.val) with
  | none => .next s
  | some r => .next (if r.running then s else s.sideStart r)

/-- SIDE_TRANSFER_DONE: the running transfer of queue `q` ends with a status and, for a read, its bytes (R328). -/
def execSideTransferDone (q : Fin 12) (status : Fin 8) (data : BitVec 64) (s : State) : Host.Outcome State Fault Refusal :=
  match s.sideHead q.val with
  | none => .next s
  | some r => .next (if r.running then s.sideEnd r status.val data.toNat else s)

/-! ### Polling, prefetch expiry, region records -/

/-- POLL_READ: a poll entry reads its source (R336). Its record and mask take effect now. -/
def execPollRead (e : Fin 16) (s : State) : Host.Outcome State Fault Refusal :=
  let s1 := (s.wrAct (R.LTH_POLL e.val) (s.rd (R.LTH_POLL e.val))).wrAct (R.LTH_POLLMASK e.val) (s.rd (R.LTH_POLLMASK e.val))
  let r := R.LTH_POLL e.val
  if !s1.bitAct r F.LTH_POLL_EN then .next s
  else
    let n := 2 ^ s1.getAct r F.LTH_POLL_SIZE
    if s1.bitAct r F.LTH_POLL_SRC then .next (s1.sideAnswer (.poll e.val) 0 n (some (s1.rd R.LTH_GPIOIN)))
    else
      let a := s1.getAct r F.LTH_POLL_ADDR / n * n
      .next (match s1.sideRead a n (s.origin 0 noFn 4 0) (.poll e.val) with
        | (.wait, _) => s
        | (.refused, s) => s.sideAnswer (.poll e.val) a n none
        | (.data v, s) => s.sideAnswer (.poll e.val) a n (some v)
        | (.queued _, s) => s)

/-- PREFETCH_EXPIRY: the buffer of an 8-byte word is discarded 256 kbeats after it was filled (R335). -/
def execPrefetchExpiry (word : BitVec 29) (s : State) : Host.Outcome State Fault Refusal :=
  .next (s.prefDiscard (fun b => b.word == word.toNat))

/-- GPIO_INPUT_CHANGE: levels that have stood for 2 ember cycles are seen (LTH_GPIOIN). -/
def execGpioInputChange (v : BitVec 64) (s : State) : Host.Outcome State Fault Refusal := .next (s.wr R.LTH_GPIOIN v.toNat)

/-- A write of a lath region record is applied whole, or refused if an enabled region would overlap another (R326). -/
def State.writeRgn (s : State) (r v : Nat) : State :=
  let v := putField v 53 11 0
  let clash := fieldOf v 0 1 == 1 && (List.range 16).any (fun i => i != r &&
    (let w := s.rd (R.LTH_RGN i)
     fieldOf w 0 1 == 1 && decide (rgnBase w < rgnBase v + 2 ^ rgnLog2 v) && decide (rgnBase v < rgnBase w + 2 ^ rgnLog2 w)))
  if clash then s.setBit R.LTH_STATUS F.LTH_STATUS_CFG_REFUSED
  else (((s.prefDiscard (fun b => b.rgn == r)).wr (R.LTH_RGN r) v).wrAct (R.LTH_RGN r) v)

def execLthRgnWrite (r : Fin 16) (v : BitVec 64) (s : State) : Host.Outcome State Fault Refusal := .next (s.writeRgn r.val v.toNat)

/-! ### Reset (R337) -/

/-- The bridge enters reset: reads and non-posted writes end FLUSHED, a core's device stores and posted writes are discarded. -/
def State.lthFlush (s : State) : State :=
  let due := s.lth.reqs.filter (fun r => r.tagged && (match r.who with
    | .store _ => false
    | _ => true))
  let s := due.foldl (fun s r => s.sideEnd r SS.FLUSHED 0) s
  let s := s.prefDiscard (fun _ => true)
  { s with lth := { s.lth with reqs := [] } }

end Sys2Proof.Machine
end

