-- ==== Sys2Proof/Machine/Stores.lean ====
section
/-!
DEFINITION. Buffered normal stores: how one is performed at its target (R137, R190), and the drain of store buffers (R147).
-/
namespace Sys2Proof.Machine

/-- Core `c` as an agent. -/
def coreAgent (c : Nat) : Agent := .core ⟨c % 32, Nat.mod_lt _ (by decide)⟩

/-- Carry out the access of a buffered normal entry of core `c`. -/
def State.entryAccess (s : State) (c : Nat) (e : StoreEnt) : MemRes × State :=
  match e.atom with
  | some op => s.seqAtomic c (storeWho c) e.origin e.addr (.atomic op 8 (.ofNat 64 e.operand) 0) e.openSeq e.closeSeq
  | none => s.memAccess (coreAgent c) (storeWho c) e.origin e.addr (.write e.data)

/-- Entry `i` of core `c` leaves its store buffer. -/
def State.dropStore (s : State) (c i : Nat) : State :=
  let x := s.core c
  s.setCore c { x with sb := x.sb.eraseIdx i }

/-- Entry `i` is a normal store with no older entry that shares a byte with it. -/
def Core.mayPerform (x : Core) (i : Nat) : Bool :=
  match x.sb[i]? with
  | some e => !e.device && !(x.sb.take i).any (fun o => o.overlaps e.addr e.len)
  | none => false

/-- Perform entry `i` of the store buffer of core `c`: it leaves the buffer, and a failure is recorded (R190). False: it must wait. -/
def State.performStore (s : State) (c i : Nat) : Bool × State :=
  match (s.core c).sb[i]? with
  | none => (false, s)
  | some e =>
    match s.entryAccess c e with
    | (.wait, s) => (false, s)
    | (r, s) =>
      let s := s.dropStore c i
      (true, (match r with
        | .fail k => s.storeErr c e.addr k
        | _ => s).settleFault c)

/-- Perform the normal stores of core `c` from entry `i` on, as far as none of them must wait. -/
def State.drainFrom (s : State) (c : Nat) : Nat → Nat → State
  | 0, _ => s
  | fuel + 1, i =>
    if (s.core c).mayPerform i then
      let (done, s) := s.performStore c i
      s.drainFrom c fuel (if done then i else i + 1)
    else s.drainFrom c fuel (i + 1)

/-- The normal stores of core `c` drain into their targets, the oldest first; device stores are discarded (R147). -/
def State.drainCore (s : State) (c : Nat) : State :=
  let x := s.core c
  (s.setCore c { x with sb := x.sb.filter (fun e => !e.device) }).drainFrom c x.sb.length 0

/-- Every store buffer drains; the atomic sequences end, and what waited for one drains too (R129, R147). -/
def State.drainCores (s : State) : State :=
  let s := (List.range 32).foldl State.drainCore s
  (List.range 32).foldl State.drainCore { s with gst := { s.gst with seqs := [] } }

/-- A normal store is still buffered in some core. -/
def State.storesLeft (s : State) : Bool := s.gaf.cores.any (fun e => e.2.sbNormal)

end Sys2Proof.Machine
end

