-- ==== Sys2Proof/Machine/Training.lean ====
section
/-!
DEFINITION. Training of cane ports (R281, R299 to R303): CN_RESET to CN_ACTIVE and the stages of a retrain. A row's words are those a
receiver has found good often enough; each row moves the port by at most one state.
-/
namespace Sys2Proof.Machine

/-! ### Starting (R291, R300) -/

/-- Physical lanes that train with a port: its data lanes and its spares. -/
def State.trainLanes (s : State) (p : Nat) : List Nat := s.portLanes p ++ (s.spareOctets p).map (fun n => 9 * n + 8)

/-- The shadowed lane settings come into force (R265). -/
def State.laneShadows (s : State) (p : Nat) : State :=
  (s.trainLanes p).foldl (fun s l =>
    (s.wrAct (laneReg R.LNE_CTL l) (s.rd (laneReg R.LNE_CTL l))).wrAct (laneReg R.LNE_TXEQ l) (s.rd (laneReg R.LNE_TXEQ l))) s

/-- The port enters CN_DETECT: shadowed settings come into force, lanes wake, type 1 words go out at 16 Gbit/s (R268, R300). -/
def State.enterDetect (s : State) (p : Nat) : State :=
  let s := (s.wrAct (R.CAN_TRAINCFG p) (s.rd (R.CAN_TRAINCFG p))).laneShadows p
  let s := (s.trainLanes p).foldl (fun s l => (s.askPwr l false PWR.ACTIVE).askPwr l true PWR.ACTIVE) s
  let s := (s.spareOctets p).foldl (fun s n => (s.setRxSub n 0xF).setTxSub n 0xF) s
  let s := (s.setLinkState p CN.DETECT).put (R.PRT_LINKSTAT p) F.PRT_LINKSTAT_RATE 0
  let s := s.put (R.PRT_CTL p) F.PRT_CTL_RETRAIN 0
  (s.setCane p { s.cane p with step := 0, heights := [] }).emit (.link p (LK.WORDS 1))

/-- The conditions for leaving CN_RESET other than R291 (R300), with the port's block out of reset (R34). -/
def State.mayTrain (s : State) (p : Nat) : Bool :=
  !s.blockReset 7 && s.bit (R.PRT_CTL p) F.PRT_CTL_ENABLE && s.caneMode p && s.portUsed p && !s.portHeld p && !s.bit (R.PRT_STATUS p) F.PRT_STATUS_TRIM_WAIT

/-- A port in CN_RESET or CN_DETECT moves on as soon as it may; shares that break R291 keep it in CN_RESET with cause CFG. -/
def State.settleCane (s : State) (p : Nat) : State :=
  if !s.mayTrain p then s
  else if s.linkState p = CN.RESET then
    if s.creditOk p then s.enterDetect p else s.put (R.CAN_STATUS p) F.CAN_STATUS_DOWN_CAUSE 9
  else if s.linkState p = CN.DETECT then
    let good := ((s.portLanes p).filter (fun l => s.bit (laneReg R.LNE_STAT l) F.LNE_STAT_LOCK && s.adapted l)).length
    if s.minWidth p ≤ good then s.setLinkState p CN.NRZ_LOCK else s
  else s

/-- CANE_TRAIN_TIMEOUT: a training state has lasted too long; the port starts again in CN_DETECT (R300). -/
def execCaneTrainTimeout (p : Fin 256) (s : State) : Host.Outcome State Fault Refusal :=
  let p := p.val
  if CN.NRZ_LOCK ≤ s.linkState p ∧ s.linkState p ≤ CN.EQ then
    .next ((s.bump (R.CAN_EVCNT p) F.CAN_EVCNT_TRAIN_FAILS 1).enterDetect p)
  else .next s

/-! ### Type 1 (R301) -/

/-- Physical lane of a training word. -/
def State.wordLane (s : State) (p : Nat) (w : TrainWord) : Option Nat :=
  if w.lane.val < 16 then (s.portLanes p)[w.lane.val]? else ((s.spareOctets p)[w.lane.val - 16]?).map (fun n => 9 * n + 8)

/-- Every locked data lane of the port has a word. -/
def State.allLocked (s : State) (p : Nat) (ws : List TrainWord) : Bool :=
  (s.portLanes p).all (fun l => !s.bit (laneReg R.LNE_STAT l) F.LNE_STAT_LOCK || ws.any (fun w => s.wordLane p w == some l))

/-- Receivers set their polarity: as found, or as POL_SET states (R269). -/
def State.setPolarity (s : State) (p : Nat) (ws : List TrainWord) : State :=
  ws.foldl (fun s w => match s.wordLane p w with
    | some l =>
      let c := laneReg R.LNE_CTL l
      s.put (laneReg R.LNE_STAT l) F.LNE_STAT_POL_INV
        (if s.bitAct c F.LNE_CTL_POL_OVR then s.getAct c F.LNE_CTL_POL_SET else bit01 w.inverted)
    | none => s) s

/-- A spare wired otherwise than to the partner's spare is disabled (R261): a data lane that carries LANE 31, or a spare that carries
another number without being substituted. -/
def State.checkSpares (s : State) (p : Nat) (ws : List TrainWord) : State :=
  let bad := ws.filterMap (fun w => match s.wordLane p w with
    | some l =>
      if w.lane.val < 16 then (if w.num.val = 31 then some (l / 9) else none)
      else if w.num.val ≠ 31 ∧ s.rxSub (l / 9) = 0xF then some (l / 9) else none
    | none => none)
  bad.foldl (fun s n =>
    if s.bit (R.LNE_OCTSTAT n) F.LNE_OCTSTAT_SPARE_MAPERR then s
    else (s.setBit (R.LNE_OCTSTAT n) F.LNE_OCTSTAT_SPARE_MAPERR).report FC.LANE_SPAREMAP UK.port p 0 n 0) s

/-- Receive lanes are mapped to the numbers they carry (R268, R301). -/
def State.mapLanes (s : State) (p : Nat) (ws : List TrainWord) : State :=
  let s := (s.portLanes p).foldl (fun s l => s.put (laneReg R.LNE_STAT l) F.LNE_STAT_LOGICAL 0xF) s
  ws.foldl (fun s w => match s.wordLane p w with
    | some l => if w.lane.val < 16 ∧ w.num.val < 16 then s.put (laneReg R.LNE_STAT l) F.LNE_STAT_LOGICAL w.num.val else s
    | none => s) s

/-- Logical lanes of the half that a spare serves (R262). -/
def State.spareHalf (s : State) (p n : Nat) : List Nat :=
  if s.confWidth p = 16 then (List.range 8).map (· + 8 * (n - octetOf p)) else List.range (s.confWidth p)

/-- Lane `m` has no locked receiver of its own. -/
def State.lacksLock (s : State) (p m : Nat) : Bool :=
  match s.physLane p m with
  | some l => !s.bit (laneReg R.LNE_STAT l) F.LNE_STAT_LOCK
  | none => true

/-- Spares take the first lane marked FAILED of their half, else the first without lock, in each direction (R278, R301). `peerFail` and
`peerNoLock` are the partner's marked lanes and its lanes without lock; how the partner makes the latter known is not given, so they
are an input (log entry 71). -/
def State.assignSpares (s : State) (p : Nat) (ok : Bool) (peerFail peerNoLock : Nat) : State :=
  (s.spareOctets p).foldl (fun s n =>
    if !ok || !s.bit (R.LNE_OCTCTL n) F.LNE_OCTCTL_SPARE_EN || s.bit (R.LNE_OCTSTAT n) F.LNE_OCTSTAT_SPARE_MAPERR then s
    else
      let half := s.spareHalf p n
      let rx := match half.find? (s.markedFailed p) with
        | some m => some m
        | none => half.find? (s.lacksLock p)
      let tx := match half.find? (bitOf peerFail) with
        | some m => some m
        | none => half.find? (bitOf peerNoLock)
      let code (m : Option Nat) : Nat := match m with | some m => s.octLane p m | none => 0xF
      (s.setRxSub n (code rx)).setTxSub n (code tx)) s

/-- CN_ORDER (R301): lane map, spare wiring, identity, spares, width and rate; 16 words with ACK on every lane of the width agreed
lead on to CN_RATE. -/
def State.orderStep (s : State) (p : Nat) (ws : List TrainWord) (peerNoLock : Nat) : State :=
  match ws with
  | [] => s
  | w0 :: _ =>
    let s := (s.mapLanes p ws).checkSpares p ws
    let st := R.CAN_STATUS p
    let s := (s.put st F.CAN_STATUS_PEER_FID w0.fid.val).put st F.CAN_STATUS_PEER_PORT w0.port.val
    if w0.fid.val = s.fid ∧ w0.port.val = p then s.put st F.CAN_STATUS_DOWN_CAUSE 10
    else
      let s := s.assignSpares p w0.spareOk w0.rxFail.toNat peerNoLock
      let own := widthOf (s.confWidth p) (s.laneWorks p)
      let w := min own w0.width.val
      let rate := min (min w0.maxRate.val 2) (s.caneMaxRate p)
      let s := s.setCane p { s.cane p with newWidth := w, newRate := rate }
      let acked (m : Nat) : Bool := ws.any (fun x => x.ack && (s.wordLane p x).isSome && s.wordLane p x == s.rxLane p m)
      if s.minWidth p ≤ w ∧ (List.range w).all acked then (s.setLinkState p CN.RATE).emit (.link p (LK.WORDS 2)) else s

/-- TW_IDENTIFY: type 1 words carry a port through lock, polarity and order (R300, R301). -/
def execTwIdentify (p : Fin 256) (ws : List TrainWord) (peerNoLock : BitVec 16) (s : State) : Host.Outcome State Fault Refusal :=
  let p := p.val
  let s := s.settleCane p
  if !s.mayTrain p then .next s
  else if s.linkState p = CN.NRZ_LOCK then .next (if s.allLocked p ws then s.setLinkState p CN.POLARITY else s)
  else if s.linkState p = CN.POLARITY then
    .next (if s.allLocked p ws then ((s.setPolarity p ws).setLinkState p CN.ORDER) else s)
  else if s.linkState p = CN.ORDER then .next (s.orderStep p ws peerNoLock.toNat)
  else .next s

/-! ### Types 2 and 3 (R300, R302) -/

/-- Words with ACK have come for so many lanes. -/
def ackedAll (w : Nat) (ws : List TrainWord) : Bool := decide (w ≤ (ws.filter (·.ack)).length)

/-- The equalisation phase begins: shadowed settings come into force and presets are tried anew (R265, R302). -/
def State.enterEq (s : State) (p : Nat) : State :=
  let s := s.laneShadows p
  (s.setCane p { s.cane p with heights := [] }).emit (.link p (LK.WORDS 3))

/-- TW_RATE: type 2 words agree the rate, and the lanes change to it (R300, R303). -/
def execTwRate (p : Fin 256) (ws : List TrainWord) (s : State) : Host.Outcome State Fault Refusal :=
  let p := p.val
  let c := s.cane p
  let retrain := s.linkState p == CN.RETRAIN && c.step == 2
  if !(s.linkState p == CN.RATE || retrain) || !ackedAll c.newWidth ws then .next s
  else
    let s := (s.put (R.PRT_LINKSTAT p) F.PRT_LINKSTAT_RATE c.newRate).enterEq p
    .next (if retrain then s.setCane p { s.cane p with step := 3 } else s.setLinkState p CN.EQ)

/-- EQ_PRESETS in force: 0 acts as 1, above 4 as 4. -/
def State.eqPresets (s : State) (p : Nat) : Nat := min 4 (max 1 (s.getAct (R.CAN_TRAINCFG p) F.CAN_TRAINCFG_EQ_PRESETS))

/-- The preset with the largest eye height of those tried on a lane, the lowest on a tie (R302). -/
def bestPreset (tried : List (Nat × Nat)) : Nat :=
  (tried.foldl (fun (b : Option (Nat × Nat)) e => match b with
    | none => some e
    | some x => if x.2 < e.2 ∨ (x.2 = e.2 ∧ e.1 < x.1) then some e else some x) none).elim 0 (·.1)

/-- Presets tried on a physical lane with their heights, in order. -/
def Cane.tried (c : Cane) (l : Nat) : List (Nat × Nat) := (c.heights.filter (fun e => e.1 == l)).map (·.2)

/-- Preset the next adaptation of a lane belongs to, or none when its receiver has finished (R302). -/
def State.nextPreset (s : State) (p l : Nat) : Option Nat :=
  let t := (s.cane p).tried l
  let n := s.eqPresets p
  if t.length < n then some t.length
  else if t.length = n ∧ bestPreset t ≠ n - 1 then some (bestPreset t)
  else none

/-- The end's receivers have finished: EQ_DONE. -/
def State.eqDone (s : State) (p : Nat) : Bool :=
  (List.range (s.cane p).newWidth).all (fun m => match s.rxLane p m with
    | some l => (s.nextPreset p l).isNone
    | none => false)

/-- Coefficients scaled so that their sum does not exceed 64 (R266). -/
def scaleEq (a b c : Nat) : Nat × Nat × Nat :=
  let t := a + b + c
  if t ≤ 64 then (a, b, c) else (a * 64 / t, b * 64 / t, c * 64 / t)

/-- A transmitter applies the coefficients its partner requests, or its override (R266, R302). -/
def State.applyEq (s : State) (l : Nat) (pre main post : Nat) : State :=
  let r := laneReg R.LNE_TXEQ l
  let (a, b, c) := if s.bitAct (laneReg R.LNE_CTL l) F.LNE_CTL_TXEQ_OVR then
      scaleEq (s.getAct r F.LNE_TXEQ_PRE) (s.getAct r F.LNE_TXEQ_MAIN) (s.getAct r F.LNE_TXEQ_POST)
    else scaleEq pre main post
  ((s.put r F.LNE_TXEQ_PRE_CUR a).put r F.LNE_TXEQ_MAIN_CUR b).put r F.LNE_TXEQ_POST_CUR c

/-- TW_EQUALISE: type 3 words request transmitter settings; once both ends have finished, type 4 words go out (R302). -/
def execTwEqualise (p : Fin 256) (ws : List TrainWord) (s : State) : Host.Outcome State Fault Refusal :=
  let p := p.val
  let c := s.cane p
  if !(s.linkState p == CN.EQ || (s.linkState p == CN.RETRAIN && c.step == 3)) then .next s
  else
    let s := ws.foldl (fun s w => match s.wordLane p w with | some l => s.applyEq l w.pre.val w.main.val w.post.val | none => s) s
    if s.eqDone p && decide (c.newWidth ≤ (ws.filter (·.eqDone)).length) then
      .next ((s.setCane p { s.cane p with step := 4 }).emit (.link p (LK.WORDS 4)))
    else .next s

/-! ### Type 4: CN_ACTIVE (R300, R303) -/

/-- Lanes of the agreed width run, those beyond it go OFF in the direction concerned, and idle spares rest (R271, R301). -/
def State.activateLanes (s : State) (p w : Nat) : State :=
  let s := (s.portLanes p).zipIdx.foldl (fun s e =>
    let rx := decide (s.get (laneReg R.LNE_STAT e.1) F.LNE_STAT_LOGICAL < w)
    (s.askPwr e.1 false (if rx then PWR.ACTIVE else PWR.OFF)).askPwr e.1 true (if e.2 < w then PWR.ACTIVE else PWR.OFF)) s
  (s.spareOctets p).foldl (fun s n =>
    let s := if s.rxSub n = 0xF then s.restSpare n false else s.askPwr (9 * n + 8) false PWR.ACTIVE
    if s.txSub n = 0xF then s.restSpare n true else s.askPwr (9 * n + 8) true PWR.ACTIVE) s

/-- The port enters CN_ACTIVE; after a retrain with a replay from A (R287, R303). -/
def State.enterActive (s : State) (p : Nat) : State :=
  let retrain := s.linkState p == CN.RETRAIN
  let c := s.cane p
  let s := s.activateLanes p c.newWidth
  let s := (s.setLinkState p CN.ACTIVE).put (R.PRT_STATUS p) F.PRT_STATUS_LINK_UP 1
  let s := (s.put (R.PRT_LINKSTAT p) F.PRT_LINKSTAT_WIDTH c.newWidth).put (R.PRT_LINKSTAT p) F.PRT_LINKSTAT_RATE c.newRate
  let s := s.put (R.PRT_LINKSTAT p) F.PRT_LINKSTAT_L0P_WIDTH c.newWidth
  let s := s.put (R.CAN_ERRCNT p) F.CAN_ERRCNT_WIN_FAILS 0
  let s := s.setCane p { c with step := 0, heights := [], peerWords := false, peerStby := false }
  let st := R.CAN_STATUS p
  let s := s.put st F.CAN_STATUS_RX_HOLD 0
  let s := if retrain then
      let s := s.bump (R.CAN_EVCNT p) F.CAN_EVCNT_RETRAINS 1
      let s := if s.bit st F.CAN_STATUS_CMD_BUSY then (s.put st F.CAN_STATUS_CMD_BUSY 0).put st F.CAN_STATUS_CMD_RESULT 0 else s
      s.startReplay p (s.txAcked p)
    else s
  s.refreshRoutes

/-- TW_ENTER_ACTIVE: type 4 words bring the port into CN_ACTIVE (R300). -/
def execTwEnterActive (p : Fin 256) (s : State) : Host.Outcome State Fault Refusal :=
  let p := p.val
  .next (if (s.linkState p = CN.EQ ∨ s.linkState p = CN.RETRAIN) ∧ (s.cane p).step = 4 then s.enterActive p else s)

/-! ### Types 5 and 6 (R297, R303) -/

/-- TW_RETRAIN: the partner's type 5 words end the acceptance of frames; with ACK on every lane the retrain goes on to the rate, to
equalisation or to type 4. An end whose own request is open enters the retrain by them (log entry 72). -/
def execTwRetrain (p : Fin 256) (ws : List TrainWord) (s : State) : Host.Outcome State Fault Refusal :=
  let p := p.val
  let s := match s.linkState p == CN.ACTIVE, (s.cane p).ownRetrain with
    | true, some m => s.enterRetrain p (lmWidth m) (lmRate m) (lmEq m)
    | _, _ => s
  if s.linkState p ≠ CN.RETRAIN then .next s
  else
    let s := s.setCane p { s.cane p with peerWords := true }
    let c := s.cane p
    if widthOf c.newWidth (s.laneWorks p) < s.minWidth p then .next (s.linkFails p 5)
    else if c.step ≠ 5 ∨ !ackedAll c.newWidth ws then .next s
    else
      let rate := decide (c.newRate ≠ s.caneRate p)
      let next := if rate then 2 else if c.newEq then 3 else 4
      let s := s.setCane p { c with step := next }
      let s := if next = 3 then s.enterEq p else s
      .next (s.emit (.link p (LK.WORDS next)))

/-- TW_DOWN: type 6 words take the link down with PARTNER_DOWN (R297). -/
def execTwDown (p : Fin 256) (s : State) : Host.Outcome State Fault Refusal := .next (s.linkFails p.val 7)

end Sys2Proof.Machine
end

