-- ==== Sys2Proof/Machine/Reset.lean ====
section
/-!
DEFINITION. Reset, straps and trim (R399 to R417): power-on, warm entry and its drain, the lehr sequence, the strap read, the load of
trim, images and keep areas from NAND (R200, R253, R323, R413 to R416, R465).
-/
namespace Sys2Proof.Machine

/-! ### Stopping and warm entry (R403) -/

/-- A port stops: its link goes down. -/
def State.stopPort (s : State) (p : Nat) : State :=
  if s.caneMode p then (if s.caneRuns p then s.caneDown p 11 else s)
  else if s.bit (R.PRT_STATUS p) F.PRT_STATUS_LINK_UP then (s.emit (.link p LK.IDLE)).linkToDetect p
  else s

/-- Step 1 of a warm entry and of the quench: every port stops, and nothing is accepted or dispatched (R403, R435). -/
def State.stopAll (s : State) : State :=
  let s := { s with flt := { s.flt with stopped := true } }
  (List.range 256).foldl State.stopPort s

/-- A gather-store drain: store buffers, the flow cache, then region locks and atomic sequences (R105, R129). None while some write waits. -/
def State.warmDrain (s : State) : Option State :=
  let s := s.drainCores
  if s.storesLeft then none
  else (s.flowTurn s.dirtyRanges).map (fun s => s.locksHeld.foldl State.freeLock (s.flowFlush (s.origin 0 0 3 0)))

/-- Codes whose level cause ends when a warm reset reaches its block (R367). -/
def warmCodes : Nat := 2 ^ FC.LEASE_EXPIRED + 2 ^ FC.PCIE_FATAL + 2 ^ FC.PORT_DOWN + 2 ^ FC.PTN_UPLINK + 2 ^ FC.FAB_MEMBER_LOST

/-- Records keep HELD at 0 across a warm reset. -/
def State.warmRecords (s : State) : State :=
  (List.range 64).foldl (fun s r => if s.bit (R.FLT_RECA r) F.FLT_RECA_HELD then s.put (R.FLT_RECA r) F.FLT_RECA_HELD 0 else s) s

/-- Reset is asserted in the domains that Warm reaches (R400, R403): the gather store waits in self-refresh, program banks and local
memory stay (R129, R199), fault records stand without their holds (R367), and a pending firmware swap is abandoned. -/
def State.warmAssert (s : State) : State :=
  let s := s.lthFlush.gatesSettle
  let bank := s.get R.GAF_STATUS F.GAF_STATUS_ACTIVE_BANK
  let gone := (List.range 64).foldl (fun m r => if s.bit (R.FLT_RECA r) F.FLT_RECA_OPEN then
    SMap.set m 0 r (Nat.lor (SMap.get m 0 r) warmCodes) else m) s.flt.gone
  let t : State := {
    regs := resetTable false s.regs, act := resetTable false s.act, wo := resetTable false s.wo, mem := SMap.keep s.mem (memKept false), err := s.err
    now := s.now, freeCtr := s.freeCtr, out := s.out, reports := s.reports, pending := s.pending
    prt := { perst := s.prt.perst }
    gst := { track := s.gst.track, copying := s.gst.copying, scrubAt := s.gst.scrubAt, deficit := s.gst.deficit, turn := s.gst.turn }
    flt := { gone := gone }
    rst := s.rst, pow := s.pow }
  let t := (t.applyGiven (fun a => match cardAt a with
    | some c => c.rcls = .warm
    | none => false)).warmRecords
  let t := (t.put R.GST_STATUS F.GST_STATUS_SELFREF 1).put R.GST_STATUS F.GST_STATUS_KEEP_BUSY 0
  let t := t.put R.GAF_STATUS F.GAF_STATUS_SWAP_BUSY 0
  let t := (List.range 32).foldl (fun t g => t.put (R.GAT_GSTAT g) F.GAT_GSTAT_VIOLATIONS 0) t
  let t := (List.range 32).foldl (fun t c =>
    (t.put (R.GAF_CORE c) F.GAF_CORE_SWAP_PEND 0).put (R.GAF_CORE c) F.GAF_CORE_BANK bank) t
  let t := (List.range 32).foldl (fun t c => if t.phys c = 0x3F then t.setCore c { t.core c with run := .failed } else t) t
  (t.put R.RST_STATUS F.RST_STATUS_WARM_ENTRY 0).put R.RST_DOMAIN F.RST_DOMAIN_IN_RESET
    (Nat.lor (s.get R.RST_DOMAIN F.RST_DOMAIN_IN_RESET) 0x3FC)

/-- A warm entry begins, unless one runs or every domain that Warm reaches is in reset already (R403, R404). -/
def State.warmBegin (s : State) : State :=
  let s := s.reached 1
  if s.bit R.RST_STATUS F.RST_STATUS_WARM_ENTRY ∨ s.get R.RST_DOMAIN F.RST_DOMAIN_IN_RESET / 4 = 0xFF then s
  else (s.setBit R.RST_STATUS F.RST_STATUS_WARM_ENTRY).stopAll

/-- A source of Warm reach is recognised and stays asserted (R399, R401, R404, R405). -/
def State.warmSource (s : State) (bit : Nat) : State :=
  let s := s.cause bit
  if s.rst.quench ≠ 0 then s
  else if s.widened then ((s.cause RC.AS_COLD).coldAssert).holdSource bit true
  else (s.holdSource bit false).warmBegin

/-- WARM_DRAIN_DONE: the drain ends, the DRAM enters self-refresh, and reset is asserted (R129, R403). It cannot end while a write waits. -/
def execWarmDrainDone (s : State) : Host.Outcome State Fault Refusal :=
  .next (if s.bit R.RST_STATUS F.RST_STATUS_WARM_ENTRY && s.rst.quench == 0 then
    (match s.warmDrain with
      | some t => t.warmAssert
      | none => s) else s)

/-- DRAIN_TIMEOUT: DRAIN_TO kbeats after recognition reset is asserted anyway; writes not performed are lost (R403). -/
def execDrainTimeout (s : State) : Host.Outcome State Fault Refusal :=
  .next (if s.bit R.RST_STATUS F.RST_STATUS_WARM_ENTRY && s.rst.quench == 0 then
    s.warmAssert.setBit R.RST_STATUS F.RST_STATUS_DRAIN_LATE else s)

/-- PULSE_SOURCE_END: the pulse sources whose warm entry has ended release (R404). -/
def execPulseSourceEnd (s : State) : Host.Outcome State Fault Refusal :=
  .next (if s.bit R.RST_STATUS F.RST_STATUS_WARM_ENTRY then s
    else [RC.WATCHDOG, RC.FATAL, RC.CMD_WARM].foldl State.freeSource s)

/-! ### Pins and commands -/

/-- COLD_N is recognised low (R399, R402, R404). -/
def execColdNAssert (s : State) : Host.Outcome State Fault Refusal :=
  if s.rst.cold then .next s
  else
    let s := { s with rst := { s.rst with cold := true, freed := s.rst.freed || !s.rst.ember } }.cause RC.COLD_PIN
    .next (if s.rst.quench ≠ 0 then s else s.coldAssert.holdSource RC.COLD_PIN true)

/-- COLD_N is recognised high. -/
def execColdNRelease (s : State) : Host.Outcome State Fault Refusal :=
  .next ({ s with rst := { s.rst with cold := false } }.freeSource RC.COLD_PIN)

/-- WARM_N is recognised low. -/
def execWarmNAssert (s : State) : Host.Outcome State Fault Refusal :=
  if s.rst.warm then .next s else .next ({ s with rst := { s.rst with warm := true } }.warmSource RC.WARM_PIN)

/-- WARM_N is recognised high. -/
def execWarmNRelease (s : State) : Host.Outcome State Fault Refusal :=
  .next ({ s with rst := { s.rst with warm := false } }.freeSource RC.WARM_PIN)

/-- KEY of RST_CMD. -/
def rstKey : Nat := 0x5A17

/-- RST_CMD OP WARM (R399). -/
def execRstWarm (key : BitVec 16) (s : State) : Host.Outcome State Fault Refusal :=
  .next (if key.toNat = rstKey then s.warmSource RC.CMD_WARM else s.setBit R.RST_STATUS F.RST_STATUS_BADCMD)

/-- Core 0 starts at syllable 0 of the active bank, unless no physical core serves it (R201, R215, R408). -/
def State.startCore0 (s : State) : State :=
  let s := { s with rst := { s.rst with core0 := true } }
  if s.phys 0 = 0x3F then s
  else
    let s := s.put (R.GAF_CORE 0) F.GAF_CORE_BANK (s.get R.GAF_STATUS F.GAF_STATUS_ACTIVE_BANK)
    s.setCore 0 { s.core 0 with run := .running, pc := 0, ran := true }

/-- RST_CMD OP START_CORE0, accepted only while NO_IMAGE is 1 and core 0 has not started (R416). -/
def execStartCore0 (key : BitVec 16) (s : State) : Host.Outcome State Fault Refusal :=
  .next (if key.toNat = rstKey ∧ s.bit R.RST_STATUS F.RST_STATUS_NO_IMAGE ∧ !s.rst.core0 then s.startCore0
    else s.setBit R.RST_STATUS F.RST_STATUS_BADCMD)

/-- A write of SYSTEM_READY (R401). -/
def State.systemReady (s : State) : State :=
  if !s.bit R.RST_STATUS F.RST_STATUS_TRIM_VALID || s.bit R.RST_STATUS F.RST_STATUS_TEST then s.setBit R.RST_STATUS F.RST_STATUS_CFG_REFUSED
  else s.setBit R.RST_CTL F.RST_CTL_SYSTEM_READY

def execSystemReadyWrite (s : State) : Host.Outcome State Fault Refusal := .next s.systemReady

/-! ### Power-on (R399, R417, R419) -/

/-- POWER_ON: the ember supply is valid. Every register takes its reset value; NAND, pins, feeds and the trip latch are what they are, and
the latch is copied into MON_STATUS and cleared (R376). -/
def execPowerOn (s : State) : Host.Outcome State Fault Refusal :=
  let t : State := {
    mem := SMap.keep s.mem (memKept true), freeCtr := s.freeCtr, out := s.out, pending := s.pending
    prt := { perst := s.prt.perst }
    rst := { cold := s.rst.cold, warm := s.rst.warm, ember := true
             held := (if s.rst.cold then [(RC.COLD_PIN, true)] else []) ++ (if s.rst.warm then [(RC.WARM_PIN, true)] else []) }
    pow := { win := s.pow.win } }
  let t := [(R.PWR_STATUS, F.PWR_STATUS_SEL), (R.PWR_STATUS, F.PWR_STATUS_VBUS), (R.PWR_FEEDSTAT 0, F.PWR_FEEDSTAT_STATE),
    (R.PWR_FEEDSTAT 0, F.PWR_FEEDSTAT_VIN), (R.PWR_FEEDSTAT 1, F.PWR_FEEDSTAT_STATE), (R.PWR_FEEDSTAT 1, F.PWR_FEEDSTAT_VIN)].foldl
    (fun t e => t.put e.1 e.2 (s.get e.1 e.2)) t
  .next (if s.rst.trip = 0 then t
    else (t.put R.MON_STATUS F.MON_STATUS_THERM_TRIP 1).put R.MON_STATUS F.MON_STATUS_TRIP_MON (s.rst.trip - 1))

/-! ### The strap (R410 to R412) -/

/-- Code of a reading: 0 below 60 mV, 15 from 1,740 mV, else the k with V within k × 120 mV ± 60 mV. V is ADC × 1,800 / 4,096 mV. -/
def strapCode (adc : Nat) : Nat := min 15 ((adc * 1800 + 60 * 4096) / (120 * 4096))

/-- The first four conversions in a row with one code: that code and the last reading. -/
def strapAccept : List Nat → Option (Nat × Nat)
  | a :: b :: c :: d :: t =>
    if strapCode a = strapCode b ∧ strapCode b = strapCode c ∧ strapCode c = strapCode d then some (strapCode d, d)
    else strapAccept (b :: c :: d :: t)
  | _ => none

/-- Image, MGMT_PT, MGMT_PORT, cane mode of OCT00 to OCT03, and mode of a code (R412). -/
def strapTable : List (Nat × Nat × Nat × Nat × Nat) :=
  [(0, 0, 0, 0, 2), (0, 0, 0, 0, 1), (1, 0, 0, 0, 1), (0, 0, 16, 1, 1), (0, 63, 240, 1, 0), (1, 63, 240, 1, 0), (0, 0, 240, 1, 0),
   (1, 0, 240, 1, 0), (0, 0, 16, 0, 0), (1, 0, 16, 0, 0), (0, 0, 16, 1, 0), (1, 0, 16, 1, 0), (0, 0, 8, 0, 0), (1, 0, 8, 0, 0),
   (1, 0, 0, 0, 0), (0, 0, 0, 0, 0)]

/-- A register takes `v` as the reset value that a strap or trim gives it. -/
def State.give (s : State) (r : RegRef) (v : Nat) : State :=
  let d := Nat.xor v r.rst
  { s with rst := { s.rst with given := SMap.set s.rst.given 0 r.addr d }
           regs := SMap.set s.regs 0 r.addr d, act := SMap.set s.act 0 r.addr d }

/-- STRAP_READ: up to 64 conversions; without four equal codes in a row the read ends as code 1 with STRAP_BAD (R411). -/
def execStrapRead (adc : List (BitVec 12)) (s : State) : Host.Outcome State Fault Refusal :=
  if s.get R.RST_STATUS F.RST_STATUS_LOAD_PHASE ≠ 1 ∨ !s.bit R.EMB_STATUS F.EMB_STATUS_XTAL_OK ∨ s.coldHeld ∨ s.rst.quench ≠ 0 then .next s
  else
    let l := (adc.take 64).map (·.toNat)
    let (code, last, bad) := match strapAccept l with
      | some (c, v) => (c, v, 0)
      | none => (1, l.getLastD 0, 1)
    let (img, pt, port, cane, mode) := strapTable.getD code (0, 0, 0, 0, 1)
    let s := s.wr R.RST_STRAP (code + last * 2 ^ 4 + bad * 2 ^ 16 + img * 2 ^ 17 + pt * 2 ^ 18 + port * 2 ^ 24 + cane * 2 ^ 32 + mode * 2 ^ 33)
    let s := (s.put R.RST_STATUS F.RST_STATUS_RECOVERY (bit01 (mode != 0))).put R.RST_STATUS F.RST_STATUS_TEST (bit01 (mode == 2))
    let s := s.give R.PTN_MGMT (pt + port * 2 ^ 8)
    let s := s.give (R.PTN_CFG pt) (Nat.lor (R.PTN_CFG pt).rst 1)
    let s := s.give (R.PRT_CTL port) (Nat.lor (R.PRT_CTL port).rst 1)
    let s := s.give (R.PRT_ROLE port) (1 + pt * 2 ^ 2)
    let s := (List.range 4).foldl (fun s n => s.give (R.PRT_OCTCFG n) (putField (R.PRT_OCTCFG n).rst 0 1 cane)) s
    .next (s.put R.RST_STATUS F.RST_STATUS_LOAD_PHASE 2)

/-! ### Trim, images and the keep areas (R413 to R416, R253, R323, R465) -/

/-- NAND offsets (R413). -/
def NAND.start : Nat := MB.nand + 0x20000
def NAND.option : Nat := MB.nand + 0x100000
def NAND.image (i : Nat) : Nat := MB.nand + (if i = 0 then 0x200000 else 0x400000)
def NAND.keep (i : Nat) : Nat := MB.nand + (if i = 0 then 0x1000000 else 0x3000000)

/-- TRIM_LOAD: copy 0 or copy 1 passes and is applied whole, or both fail; after three passes TRIM_FAIL is set (R414). The start count is
raised by one and loaded into FTX_GEN; without a readable start record the count read is 0 (R323). -/
def execTrimLoad (copy : Option (Fin 2)) (t : Trim) (startOk : Bool) (s : State) : Host.Outcome State Fault Refusal :=
  if s.get R.RST_STATUS F.RST_STATUS_LOAD_PHASE ≠ 2 ∨ s.coldHeld ∨ s.rst.quench ≠ 0 then .next s
  else
    let s := s.bump R.RST_TRIMSTAT F.RST_TRIMSTAT_PASSES 1
    match copy with
    | none =>
      .next (if s.get R.RST_TRIMSTAT F.RST_TRIMSTAT_PASSES = 3 then
          (s.setBit R.RST_STATUS F.RST_STATUS_TRIM_FAIL).put R.RST_STATUS F.RST_STATUS_LOAD_PHASE 6
        else s)
    | some c =>
      let s := s.put R.RST_TRIMSTAT F.RST_TRIMSTAT_COPY c.val
      let s := (s.put R.RST_TRIMSTAT F.RST_TRIMSTAT_SPEED (bit01 t.speed)).put R.RST_TRIMSTAT F.RST_TRIMSTAT_HALF (bit01 t.half)
      let s := (s.give R.QEP_ID (t.rev.toNat + t.subsys.toNat * 2 ^ 8)).give R.QEP_DSN t.dsn.toNat
      let s := t.volts.foldl (fun s v =>
        let r := R.MON_THR (24 + v.1.val)
        s.give r (putField (putField r.rst 0 16 v.2.1.toNat) 16 16 v.2.2.toNat)) s
      let count := ((if startOk then s.word NAND.start 8 else 0) + 1) % 2 ^ 64
      let s := (s.storeWord NAND.start count 8).put R.FTX_GEN F.FTX_GEN_GEN (count % 16 * 16)
      .next ((s.setBit R.RST_STATUS F.RST_STATUS_TRIM_VALID).put R.RST_STATUS F.RST_STATUS_LOAD_PHASE 3)

/-- A firmware image at byte address `a` passes its check (R200, R415). -/
def State.imageOk (s : State) (a : Nat) : Bool :=
  let n := s.word (a + 8) 4
  s.word a 2 == 0x6A5F && s.word (a + 2) 2 == 1 && decide (1 ≤ n) && decide (n ≤ gafSyllables) &&
    crc32 (s.bytes (a + 32) (5 * n)) == s.word (a + 12) 4

/-- Copy the code of an image into a program bank. -/
def State.loadImage (s : State) (a bank : Nat) : State := s.store (MB.gprog bank) (s.bytes (a + 32) (5 * s.word (a + 8) 4))

/-- IMAGE_LOAD: the selected image, or else the other one, is checked and loaded into bank 0 (R415, R416). -/
def execImageLoad (s : State) : Host.Outcome State Fault Refusal :=
  if s.get R.RST_STATUS F.RST_STATUS_LOAD_PHASE ≠ 3 ∨ s.coldHeld ∨ s.rst.quench ≠ 0 then .next s
  else
    let sel := s.get R.RST_STRAP F.RST_STRAP_IMAGE
    let s := s.put R.RST_STATUS F.RST_STATUS_LOAD_PHASE 4
    let src := if s.imageOk (NAND.image sel) then some sel else if s.imageOk (NAND.image (1 - sel)) then some (1 - sel) else none
    match src with
    | none => .next (s.setBit R.RST_STATUS F.RST_STATUS_NO_IMAGE)
    | some i =>
      let s := (s.loadImage (NAND.image i) 0).put R.RST_STATUS F.RST_STATUS_IMG_SRC (i + 1)
      let s := if i = sel then s else s.setBit R.RST_STATUS F.RST_STATUS_IMG_ALT
      .next (if s.gafInReset then s else s.startCore0)

/-- The option image is present and valid: a PCI expansion ROM image of code type 3 and at most 1 MiB (R253). -/
def State.optionOk (s : State) : Bool :=
  let a := NAND.option
  let p := a + s.word (a + 0x18) 2
  s.word a 2 == 0xAA55 && s.word p 4 == 0x52494350 && s.word (p + 0x14) 1 == 3 &&
    decide (1 ≤ s.word (p + 0x10) 2) && decide (s.word (p + 0x10) 2 ≤ 2048)

/-- OPTION_IMAGE_LOAD (R253, R409). -/
def execOptionImageLoad (s : State) : Host.Outcome State Fault Refusal :=
  if s.get R.RST_STATUS F.RST_STATUS_LOAD_PHASE ≠ 4 ∨ s.coldHeld ∨ s.rst.quench ≠ 0 then .next s
  else
    let s := if s.optionOk then s.setBit R.QEP_ID F.QEP_ID_ROM_PRESENT else s
    .next ((s.setBit R.RST_TRIMSTAT F.RST_TRIMSTAT_OPT_DONE).put R.RST_STATUS F.RST_STATUS_LOAD_PHASE 5)

/-- Sequence number, pages, CRC words and data of a keep area (the layout is the model's own). -/
def State.keepSeq (s : State) (i : Nat) : Nat := s.word (NAND.keep i) 4
def State.keepPages (s : State) (i : Nat) : Nat := s.word (NAND.keep i + 4) 4
def keepCrc (i b : Nat) : Nat := NAND.keep i + 8 + 4 * b
def keepData (i : Nat) : Nat := NAND.keep i + 0x100000

/-- A keep area passes its check: each 4 KiB matches its CRC-32 (R130). -/
def State.keepOk (s : State) (i : Nat) : Bool :=
  decide (1 ≤ s.keepPages i) && decide (s.keepPages i ≤ 8) &&
    (List.range (512 * s.keepPages i)).all (fun b => crc32 (s.bytes (keepData i + 4096 * b) 4096) == s.word (keepCrc i b) 4)

/-- The keep area that is checked first: the one with the higher sequence number (R465). -/
def State.firstKeep (s : State) : Nat := if s.keepSeq 0 < s.keepSeq 1 then 1 else 0

/-- The keep area that holds the newest valid image (R465). -/
def State.newestKeep (s : State) : Option Nat :=
  let first := s.firstKeep
  if s.keepOk first then some first else if s.keepOk (1 - first) then some (1 - first) else none

/-- First staging page (R465). -/
def State.stagePage (s : State) : Nat := s.gstPages - 8

/-- `n` free bytes. -/
def freeBytes (k : Nat) : Nat → List Byte
  | 0 => []
  | n + 1 => BitVec.ofNat 8 (Config.free k) :: freeBytes (k + 1) n

/-- KEEP_CHECK: the newest valid keep image is staged; without one the staging pages hold undefined bytes, and so does what an area that
failed first left behind the image (R465). -/
def execKeepCheck (s : State) : Host.Outcome State Fault Refusal :=
  if s.get R.RST_STATUS F.RST_STATUS_LOAD_PHASE ≠ 5 ∨ !s.gstReady ∨ s.coldHeld ∨ s.rst.quench ≠ 0 then .next s
  else
    let a := s.stagePage * 2 ^ 21
    let n := 8 * 2 ^ 21
    let fill (s : State) : State := { s.store a (freeBytes s.freeCtr n) with freeCtr := s.freeCtr + n }
    let s := match s.newestKeep with
      | some i =>
        let s := (if i = s.firstKeep then s else fill s).store a (s.bytes (keepData i) (s.keepPages i * 2 ^ 21))
        s.wr R.GST_KEEPSTAT (1 + s.keepPages i * 2 + s.keepSeq i * 2 ^ 32)
      | none => fill s
    .next ((s.setBit R.RST_TRIMSTAT F.RST_TRIMSTAT_KEEP_DONE).put R.RST_STATUS F.RST_STATUS_LOAD_PHASE 0)

/-! ### The lehr sequence (R406 to R408) -/

/-- TRIM_WAIT of the blocks of a step. -/
def stepWaits (k : Nat) : List (RegRef × Fld) :=
  match k with
  | 4 => [(R.GST_STATUS, F.GST_STATUS_TRIM_WAIT)]
  | 5 => [(R.CRU_STATUS, F.CRU_STATUS_TRIM_WAIT)]
  | 6 => (List.range 64).map (fun n => (R.LNE_OCTSTAT n, F.LNE_OCTSTAT_TRIM_WAIT))
  | 7 => (List.range 256).flatMap (fun p => [(R.PRT_STATUS p, F.PRT_STATUS_TRIM_WAIT), (R.CAN_STATUS p, F.CAN_STATUS_TRIM_WAIT)])
  | 8 => [(R.SCH_STATUS, F.SCH_STATUS_TRIM_WAIT), (R.POL_STATUS, F.POL_STATUS_TRIM_WAIT), (R.QUE_STATUS, F.QUE_STATUS_TRIM_WAIT),
      (R.JCK_STATUS, F.JCK_STATUS_TRIM_WAIT), (R.FTX_STATUS, F.FTX_STATUS_TRIM_WAIT)]
  | 9 => [(R.LTH_STATUS, F.LTH_STATUS_TRIM_WAIT), (R.MBX_STATUS, F.MBX_STATUS_TRIM_WAIT), (R.CMD_STATUS, F.CMD_STATUS_TRIM_WAIT),
      (R.TAL_STATUS, F.TAL_STATUS_TRIM_WAIT)]
  | 10 => [(R.PTN_STATUS, F.PTN_STATUS_TRIM_WAIT), (R.QEP_STATUS, F.QEP_STATUS_TRIM_WAIT)]
  | _ => []

/-- The condition a step waits for (R406). -/
def State.stepReady (s : State) (k : Nat) : Bool :=
  if k ≤ 2 then true
  else if k = 3 then s.bit R.EMB_STATUS F.EMB_STATUS_PLL_LOCK
  else s.bit R.RST_STATUS F.RST_STATUS_TRIM_VALID && (k != 10 || s.bit R.RST_TRIMSTAT F.RST_TRIMSTAT_OPT_DONE)

/-- What the release of a step starts (R129, R398, R408): step 3 reloads the watchdog and starts core 0, after a Cold reset once an image
is loaded; step 4 ends self-refresh; with step 7 the management port, whose ENABLE is 1, may train; with step 10 a partition whose
PERST_N pin is low stays in its fundamental reset (R233, R404; DEDUCED, log entry 131). -/
def State.stepStarts (s : State) (k : Nat) : State :=
  match k with
  | 3 =>
    let s := if s.bit R.EMB_WDCFG F.EMB_WDCFG_EN then s.put R.EMB_WDSTAT F.EMB_WDSTAT_REMAIN (max 1 (s.get R.EMB_WDCFG F.EMB_WDCFG_PERIOD)) else s
    let warm := s.get R.RST_CAUSE F.RST_CAUSE_LAST_REACH == 1
    if warm || s.get R.RST_STATUS F.RST_STATUS_IMG_SRC != 0 then s.startCore0 else s
  | 4 => s.put R.GST_STATUS F.GST_STATUS_SELFREF 0
  | 7 => s.settleCane (s.get R.PTN_MGMT F.PTN_MGMT_MGMT_PORT)
  | 10 => (List.range 64).foldl (fun s pt =>
      if SMap.get s.prt.perst 0 (s.get (R.PTN_CFG pt) F.PTN_CFG_PERST_SEL) = 1 then
        (s.put (R.PTN_STATE pt) F.PTN_STATE_RST_SRC (2 ^ RS.PERST)).put (R.PTN_STATE pt) F.PTN_STATE_IN_RESET 1
      else s) s
  | _ => s

/-- LEHR_STEP_RELEASE: the next step of those in reset is released (R406, R407). After a Cold reset the sequence waits for the end of the
strap read; an asserted source, a warm entry and the quench hold it. -/
def execLehrStepRelease (s : State) : Host.Outcome State Fault Refusal :=
  let m := s.get R.RST_DOMAIN F.RST_DOMAIN_IN_RESET
  match firstSet m 0 10 with
  | none => .next s
  | some i =>
    let k := i + 1
    if !s.rst.held.isEmpty ∨ s.bit R.RST_STATUS F.RST_STATUS_WARM_ENTRY ∨ s.rst.quench ≠ 0 ∨
        s.get R.RST_STATUS F.RST_STATUS_LOAD_PHASE = 1 ∨ !s.stepReady k then .next s
    else
      let s := (s.put R.RST_DOMAIN F.RST_DOMAIN_IN_RESET (m - 2 ^ i)).put R.RST_STATUS F.RST_STATUS_LEHR_STEP k
      .next (((stepWaits k).foldl (fun s e => s.put e.1 e.2 0) s).stepStarts k)

end Sys2Proof.Machine
end

