-- ==== Sys2Proof/Machine/Fault.lean ====
section
/-!
DEFINITION. Fault collection (R357 to R372): classes, placement of reports, holds and revocation, the stop after a device-fatal fault,
clearing and lifting, and the expiry of leases (R30).
-/
namespace Sys2Proof.Machine

/-! ### Classes (R357, R359, R368) -/

/-- Codes of class DF and CT in the table; GAF_NOSPARE is DF for core 0 (R359). -/
def dfCodes : List Nat := [FC.CELL_LINK_UE, FC.GST_REMAP_UE, FC.MON_TEMP_CRIT, FC.FW_FATAL]
def ctCodes : List Nat := [FC.PCIE_FATAL, FC.PORT_DPC, FC.PORT_DOWN, FC.PTN_UPLINK, FC.FAB_MEMBER_LOST, FC.FW_HOLD]

/-- The lowest class of a code. -/
def lowClass (code : Nat) : Nat := if dfCodes.contains code then 3 else if ctCodes.contains code then 2 else 1

/-- Class of a report before and after CLASS_OVR. -/
def Report.tableClass (r : Report) : Nat :=
  if r.code = FC.GAF_NOSPARE ∧ r.index = 0 then 3 else if r.ct then max 2 (lowClass r.code) else lowClass r.code
def State.classOf (s : State) (r : Report) : Nat := max r.tableClass (s.get (R.FLT_CODECFG r.code) F.FLT_CODECFG_CLASS_OVR)

/-- Codes that name a unit of a kind that can be held (R358, R359). -/
def canHold (code : Nat) : Bool :=
  [FC.GAT_VIOLATION, FC.LEASE_EXPIRED, FC.HOLD_TIMEOUT, FC.DB_FORMAT, FC.SCH_PATH, FC.JCK_EXC, FC.GST_LOCKED, FC.POOL_UNMAPPED,
   FC.LANE_FAIL, FC.LANE_SPAREMAP, FC.PCIE_CORR, FC.PCIE_UNCORR, FC.PCIE_FATAL, FC.PORT_DPC, FC.PORT_DOWN, FC.PTN_UPLINK,
   FC.LTH_WRFAIL, FC.FW_HOLD].contains code

/-! ### Records (R361 to R364) -/

def State.recOpen (s : State) (r : Nat) : Bool := s.bit (R.FLT_RECA r) F.FLT_RECA_OPEN
def State.recKind (s : State) (r : Nat) : Nat := s.get (R.FLT_RECA r) F.FLT_RECA_KIND
def State.recIndex (s : State) (r : Nat) : Nat := s.get (R.FLT_RECA r) F.FLT_RECA_INDEX

/-- Free general records, rising. -/
def State.freeRecs (s : State) : List Nat := (List.range 64).filter (fun r => r != 0 && !s.recOpen r)

/-- The open general record of a unit. -/
def State.recOf (s : State) (kind index : Nat) : Option Nat :=
  (List.range 64).find? (fun r => r != 0 && s.recOpen r && s.recKind r == kind && s.recIndex r == index)

/-- Codes of record `r` whose level cause a warm reset ended. -/
def State.goneMask (s : State) (r : Nat) : Nat := SMap.get s.flt.gone 0 r
def State.setGone (s : State) (r m : Nat) : State := { s with flt := { s.flt with gone := SMap.set s.flt.gone 0 r m } }

/-- A fault opens record `r` (R364, R468). -/
def State.openRec (s : State) (r : Nat) (x : Report) (cls : Nat) : State :=
  let s := s.wr (R.FLT_RECA r) (x.code + cls * 2 ^ 6 + 2 ^ 8 + x.kind % 16 * 2 ^ 12 + x.index % 2 ^ 16 * 2 ^ 16 + 2 ^ 32)
  let s := (s.wr (R.FLT_RECB r) (2 ^ x.code)).wr (R.FLT_RECC r) (s.beats % 2 ^ 32)
  let s := (s.wr (R.FLT_RECD r) (x.origin % 2 ^ 32 + x.detail % 2 ^ 16 * 2 ^ 32)).wr (R.FLT_RECE r) (x.addr % 2 ^ 48)
  s.setGone r 0

/-- A fault merges into record `r` (R362). -/
def State.mergeRec (s : State) (r : Nat) (x : Report) (cls : Nat) : State :=
  let a := R.FLT_RECA r
  let s := (s.bump a F.FLT_RECA_COUNT 1).put a F.FLT_RECA_CLASS (max cls (s.get a F.FLT_RECA_CLASS))
  let s := s.wr (R.FLT_RECB r) (Nat.lor (s.rd (R.FLT_RECB r)) (2 ^ x.code))
  let s := s.put (R.FLT_RECC r) F.FLT_RECC_LAST (s.beats % 2 ^ 32)
  s.setGone r (putField (s.goneMask r) x.code 1 0)

/-- Event bit 34 for a fault placed in a record, unless NOEVT is set for its code (R365). -/
def State.faultEvent (s : State) (code : Nat) : State :=
  if s.bit (R.FLT_CODECFG code) F.FLT_CODECFG_NOEVT then s else s.event 34

/-- A hold and revocation are due for record `r` under a code (R365); kinds that cannot be held have no reaction. -/
def State.startReaction (s : State) (r code : Nat) : State :=
  if holdable (s.recKind r) && !s.bit (R.FLT_RECA r) F.FLT_RECA_HELD && !s.flt.reacting.any (fun e => e.1 == r) then
    { s with flt := { s.flt with reacting := s.flt.reacting ++ [(r, code)] } }
  else s

/-- The leases of a held unit are revoked if REVOKE is set for the code (R365, R366). -/
def State.revokeIf (s : State) (kind index code : Nat) : State :=
  if s.bit (R.FLT_CODECFG code) F.FLT_CODECFG_REVOKE then s.revokeUnit kind index else s

/-- The stop after a device-fatal fault (R367): every port is held, transmitters go idle, dispatch stops, and every running core
gets event bit 34. While the module is stopped already nothing more happens. -/
def State.fatalStop (s : State) : State :=
  if s.flt.stopped then s
  else
    let s := { s with flt := { s.flt with stopped := true } }
    let s := (List.range 256).foldl (fun s p => if s.role p = ROLE.DISABLED then s else (s.emit (.link p LK.IDLE)).holdPort p 0 dpcByHold) s
    (List.range 32).foldl (fun s c => match (s.core c).run with
      | .running | .waiting _ _ _ | .held _ | .faulting _ => s.setCore c ((s.core c).setEvent 34)
      | _ => s) s

/-- Place one fault (R361). -/
def State.place (s : State) (x : Report) : State :=
  let s := s.tally (ev 0x0F 1 (some x.origin) none 0)
  let cls := s.classOf x
  if cls = 3 then
    let s := if s.recOpen 0 then s.mergeRec 0 x cls else s.openRec 0 x cls
    (s.faultEvent x.code).fatalStop
  else match s.recOf x.kind x.index with
    | some r =>
      let s := (s.mergeRec r x cls).faultEvent x.code
      if cls = 2 then s.startReaction r x.code else s
    | none =>
      match s.freeRecs with
      | [] =>
        if cls = 2 then
          let s := s.bump R.FLT_CNT F.FLT_CNT_CT_NOREC 1
          if holdable x.kind then
            let s := s.holdUnit x.kind x.index x.code
            let l := s.flt.norec.filter (fun e => !(e.1 == x.kind && e.2.1 == x.index)) ++ [(x.kind, x.index, x.code)]
            { s with flt := { s.flt with norec := l } }.revokeIf x.kind x.index x.code
          else s
        else s.bump R.FLT_CNT F.FLT_CNT_CE_LOST 1
      | r :: rs =>
        if cls = 2 then ((s.openRec r x cls).faultEvent x.code).startReaction r x.code
        else if rs.length + 1 ≤ min 62 (s.get R.FLT_CTL F.FLT_CTL_RESV) ∨ s.bit (R.FLT_CODECFG x.code) F.FLT_CODECFG_MUTE then
          s.bump R.FLT_CNT F.FLT_CNT_CE_LOST 1
        else (s.openRec r x cls).faultEvent x.code

/-- Order of faults reported in one beat: code, then unit (R363). -/
def Report.before (x y : Report) : Bool :=
  decide (x.beat < y.beat) || (x.beat == y.beat && (decide (x.code < y.code) || (x.code == y.code &&
    (decide (x.kind < y.kind) || (x.kind == y.kind && decide (x.index < y.index))))))

/-- The report that is placed next. -/
def firstReport : List Report → Option Report
  | [] => none
  | x :: t => match firstReport t with
    | some y => some (if y.before x then y else x)
    | none => some x

/-- FAULT_RECORD: the next reported fault is placed (R361, R363). -/
def execFaultRecord (s : State) : Host.Outcome State Fault Refusal :=
  match firstReport s.reports with
  | none => .next s
  | some x => .next ({ s with reports := s.reports.erase x }.place x)

/-- UNIT_HOLD: the hold of a record's unit is applied, HELD is set, and leases are revoked (R365, R366). -/
def execUnitHold (r : Fin 64) (s : State) : Host.Outcome State Fault Refusal :=
  match s.flt.reacting.find? (fun e => e.1 == r.val) with
  | none => .next s
  | some (_, code) =>
    let s := { s with flt := { s.flt with reacting := s.flt.reacting.filter (fun e => e.1 != r.val) } }
    let s := (s.holdUnit (s.recKind r.val) (s.recIndex r.val) code).put (R.FLT_RECA r.val) F.FLT_RECA_HELD 1
    .next (s.revokeIf (s.recKind r.val) (s.recIndex r.val) code)

/-- FATAL_RESET: FATAL_DELAY after a device-fatal fault, or at once before SYSTEM_READY, its reset source is asserted (R367, R401). A clear of
record 0 meanwhile does not undo the stop, which only this reset ends (R370). -/
def execFatalReset (s : State) : Host.Outcome State Fault Refusal :=
  .next (if s.flt.stopped && (s.widened || !s.bit R.FLT_CTL F.FLT_CTL_FATAL_WAIT) then s.warmSource RC.FATAL else s)

/-! ### Level causes (R359, R367) -/

/-- Holders of expired leases (R30). -/
def State.expiredHolders (s : State) : List Nat :=
  let late (l : SMap (Option Lease)) : List Nat := l.filterMap (fun e => match e.2 with
    | some x => if x.expired then some x.holder else none
    | none => none)
  late s.que.locks ++ late s.mbx.claims ++ late s.cmd.leases ++
    (s.gst.seqs.filter (fun e => e.2.2.expired)).map (fun e => e.2.2.holder) ++
    (s.locksHeld.filter (fun i => s.bit (R.GST_LOCKA i) F.GST_LOCKA_EXPIRED)).map (fun i => s.rd (R.GST_LOCKB i) % 2 ^ 32)

/-- Feed `x` is enabled and outside its window (R420). -/
def State.feedOut (s : State) (x : Nat) : Bool := s.bit (R.PWR_FEEDCFG x) F.PWR_FEEDCFG_EN && SMap.get s.pow.win 0 x != 1

/-- LOWV stands and module power is above CAP_LO (R424). -/
def State.overCap (s : State) : Bool :=
  s.bit R.PWR_STATUS F.PWR_STATUS_LOWV && decide (2 * min 380 (s.get R.PWR_CTL F.PWR_CTL_CAP_LO) < s.get R.PWR_STATUS F.PWR_STATUS_P_MOD)

/-- The condition of a level code persists for a unit (R359). -/
def State.causeLives (s : State) (code kind index : Nat) : Bool :=
  if code = FC.LEASE_EXPIRED then s.expiredHolders.any (fun o => masterUnit o == (kind, index))
  else if code = FC.PCIE_FATAL ∨ code = FC.PORT_DOWN then
    (if s.caneMode index then s.linkState index != CN.DOWN else s.get (R.PRT_LINKSTAT index) F.PRT_LINKSTAT_STATE != LS.DISABLED)
  else if code = FC.PTN_UPLINK then bitOf (s.get (R.PTN_STATE index) F.PTN_STATE_RST_SRC) RS.HOT
  else if code = FC.FAB_MEMBER_LOST then s.get (R.FTX_FIDSTAT index) F.FTX_FIDSTAT_STATE == MS.LOST
  else if code = FC.FEED_WINDOW then s.feedOut index
  else if code = FC.PWR_CAP then s.overCap
  else if code = FC.HLD_LOW then s.pow.hldLow && !s.bit R.HLD_STATUS F.HLD_STATUS_HLD_OK
  else if code = FC.MON_TEMP_HI then s.bit (R.MON_VAL index) F.MON_VAL_ALARM_A
  else if code = FC.MON_TEMP_CRIT then s.bit (R.MON_VAL index) F.MON_VAL_ALARM_B
  else if code = FC.MON_VOLT then s.bit (R.MON_VAL index) F.MON_VAL_ALARM_A || s.bit (R.MON_VAL index) F.MON_VAL_ALARM_B
  else false

/-- ACTIVE of record `r`: a reaction is due, or a level cause of a merged code persists (R364). -/
def State.recActive (s : State) (r : Nat) : Bool :=
  s.flt.reacting.any (fun e => e.1 == r) ||
    (List.range 64).any (fun c => bitOf (s.rd (R.FLT_RECB r)) c && !bitOf (s.goneMask r) c && s.causeLives c (s.recKind r) (s.recIndex r))

/-! ### Clearing and lifting (R370, R371) -/

def State.fltBad (s : State) : State := s.setBit R.FLT_STATUS F.FLT_STATUS_BADCMD

/-- A clear of record `r`: accepted, or re-latched (R370). A clear of a closed record has no effect and sets BADCMD. -/
def State.clearRec (s : State) (r : Nat) : State :=
  if !s.recOpen r then s.fltBad
  else if s.recActive r ∨ (1 < s.get (R.FLT_RECA r) F.FLT_RECA_COUNT ∧ s.get (R.FLT_RECC r) F.FLT_RECC_LAST = s.beats % 2 ^ 32) then
    (s.bump (R.FLT_RECA r) F.FLT_RECA_RELATCH 1).bump R.FLT_CNT F.FLT_CNT_RELATCH 1
  else
    let held := s.bit (R.FLT_RECA r) F.FLT_RECA_HELD
    let kind := s.recKind r
    let index := s.recIndex r
    let s := (s.put (R.FLT_RECA r) F.FLT_RECA_OPEN 0).put (R.FLT_RECA r) F.FLT_RECA_HELD 0
    if held then
      let s := { s with flt := { s.flt with norec := s.flt.norec.filter (fun e => !(e.1 == kind && e.2.1 == index)) } }
      s.liftUnit kind index
    else s

/-- FLT_CMD CLEAR (R370). -/
def execFltClear (r : Fin 64) (s : State) : Host.Outcome State Fault Refusal := .next (s.clearRec r.val)

/-- A unit held without a record is lifted once no record names it and the cause is gone (R371). -/
def State.liftNorec (s : State) (kind index : Nat) : Option State :=
  match s.flt.norec.find? (fun e => e.1 == kind && e.2.1 == index) with
  | some (_, _, code) =>
    if (s.recOf kind index).isSome ∨ s.causeLives code kind index then none
    else
      let s := { s with flt := { s.flt with norec := s.flt.norec.filter (fun e => !(e.1 == kind && e.2.1 == index)) } }
      some (s.liftUnit kind index)
  | none => none

/-- FLT_CMD LIFT (R371). -/
def execFltLift (kind : BitVec 4) (index : BitVec 16) (s : State) : Host.Outcome State Fault Refusal :=
  .next ((s.liftNorec kind.toNat index.toNat).getD s.fltBad)

/-- Units of a kind: one more than the greatest index (R358). -/
def unitCount (kind : Nat) : Nat :=
  if kind = UK.port then 256 else if kind = UK.partition then 64 else if kind = UK.queue then 65536 else if kind = UK.function then 4097 else 0

/-- FLT_CMD HOLD: a unit of kind 1 to 4 is reported under FW_HOLD (R368). -/
def execFltHold (o : Origin) (kind : BitVec 4) (index : BitVec 16) (s : State) : Host.Outcome State Fault Refusal :=
  .next (if index.toNat < unitCount kind.toNat then s.report FC.FW_HOLD kind.toNat index.toNat o.toNat 0 0 else s.fltBad)

/-- FLT_CMD FATAL: FW_FATAL is reported (R368). -/
def execFltFatal (o : Origin) (s : State) : Host.Outcome State Fault Refusal := .next (s.report FC.FW_FATAL UK.module 0 o.toNat 0 0)

/-- FLT_CMD RESET, accepted while record 0 is open and FATAL_WAIT is 1 (R367). -/
def execFltReset (s : State) : Host.Outcome State Fault Refusal :=
  .next (if s.recOpen 0 && s.bit R.FLT_CTL F.FLT_CTL_FATAL_WAIT then s.warmSource RC.FATAL else s.fltBad)

/-- A write of FLT_CODECFG[c]: ignored when it would lower the code's class, or make contained a code none of whose units can be held
(R368). -/
def State.writeCodecfg (s : State) (c v : Nat) : State :=
  let ovr := v % 4
  if (ovr ≠ 0 ∧ ovr < lowClass c) ∨ (ovr = 2 ∧ lowClass c < 2 ∧ !canHold c) then s.setBit R.FLT_STATUS F.FLT_STATUS_CFG_REFUSED
  else s.wr (R.FLT_CODECFG c) (v % 32)

def execFltCodecfgWrite (c : Fin 64) (v : BitVec 64) (s : State) : Host.Outcome State Fault Refusal := .next (s.writeCodecfg c.val v.toNat)

/-- DPC_CLEAR: the host clears DPC Trigger Status of a port's bridge; with HOST_LIFT = 1 and a hold of cause PORT_DPC or PORT_DOWN this
acts as a clear of the port's record (R238, R371). -/
def execDpcClear (p : Fin 256) (s : State) : Host.Outcome State Fault Refusal :=
  let p := p.val
  let s := s.setBridge (s.portBridge p) { s.bridge (s.portBridge p) with dpcTrig := false }
  let src := s.get (R.PRT_STATUS p) F.PRT_STATUS_HOLD_SRC
  if !s.bit (R.PRT_CTL p) F.PRT_CTL_HOST_LIFT ∨ !s.portHeld p ∨ (src ≠ 1 ∧ src ≠ 2) then .next s
  else match s.recOf UK.port p with
    | some r =>
      let s' := s.clearRec r
      .next (if s'.portHeld p then s'.setBridge (s.portBridge p) { s.bridge (s.portBridge p) with dpcTrig := true } else s')
    | none => .next ((s.liftNorec UK.port p).getD s)

/-! ### Leases (R30) -/

/-- The expiry of a lease is logged with its holder and raises event bit 35. -/
def State.leaseLate (s : State) (kind holder addr : Nat) : State := (s.reportMaster FC.LEASE_EXPIRED holder kind addr).event 35

/-- LEASE_EXPIRED: the deadline of a lease passes; it stays held (R30). A lease that is free or has expired already does not expire. -/
def execLeaseExpired (l : LeaseRef) (s : State) : Host.Outcome State Fault Refusal :=
  match l with
  | .queue q =>
    match SMap.get s.que.locks none q.val with
    | some x =>
      if x.expired then .next s
      else .next ({ s with que := { s.que with locks := SMap.set s.que.locks none q.val (some { x with expired := true }) } }.leaseLate 1 x.holder q.val)
    | none => .next s
  | .region i =>
    let r := R.GST_LOCKA i.val
    if s.bit r F.GST_LOCKA_VALID && !s.bit r F.GST_LOCKA_EXPIRED then
      .next ((s.setBit r F.GST_LOCKA_EXPIRED).leaseLate 2 (s.rd (R.GST_LOCKB i.val) % 2 ^ 32) i.val)
    else .next s
  | .mailbox m host =>
    match s.claimOf (mbxFrame m.val host) with
    | some x =>
      if x.expired then .next s
      else .next ((s.setClaim (mbxFrame m.val host) (some { x with expired := true })).leaseLate 3 x.holder m.val)
    | none => .next s
  | .line l =>
    match s.gst.seqs.find? (fun e => e.1 == l.toNat) with
    | some (_, _, x) =>
      if x.expired then .next s
      else
        let seqs := s.gst.seqs.map (fun e => if e.1 = l.toNat then (e.1, e.2.1, { e.2.2 with expired := true }) else e)
        .next ({ s with gst := { s.gst with seqs := seqs } }.leaseLate 4 x.holder (64 * l.toNat))
    | none => .next s
  | .slot k =>
    match s.slotLease k.val with
    | some x =>
      if x.expired then .next s
      else .next ((s.setSlotLease k.val (some { x with expired := true })).leaseLate 5 x.holder k.val)
    | none => .next s

end Sys2Proof.Machine
end

