-- ==== Sys2Proof/Machine/Lanes.lean ====
section
/-!
DEFINITION. Serial lanes (R259 to R280): power states, adaptation, lane health, re-trim, margining, and the training of PCI Express
ports. `n` names an octet and `i` a lane of it, 8 the spare.
-/
namespace Sys2Proof.Machine

/-! ### Power (R270 to R272) -/

/-- A lane is OFF in both directions, whatever it was doing (R271, R425, R435). -/
def State.laneDead (s : State) (l : Nat) : State :=
  [false, true].foldl (fun s tx => (s.setExit l tx 0).setPwr l tx PWR.OFF) s

/-- The lanes of octet `n` follow its registers and the ENABLE of its ports: unused lanes are OFF, and a spare that serves no lane rests, except in
training (R261, R271). -/
def State.settleOctet (s : State) (n : Nat) : State :=
  let s := (List.range 9).foldl (fun s i => if s.laneOff (9 * n + i) then s.laneDead (9 * n + i) else s) s
  match s.laneOwner (9 * n + 8) with
  | none => s
  | some p =>
    let st := s.linkState p
    if s.laneOff (9 * n + 8) || (decide (CN.DETECT ≤ st) && decide (st ≤ CN.EQ)) then s
    else
      let s := if s.retrimRuns n then s else s.restIdle n
      if s.txSub n = 0xF then s.restSpare n true else s

/-- The octets of the tile half of a port: its own and the other of an x16 pair. -/
def pairOctets (p : Nat) : List Nat := [octetOf p / 2 * 2, octetOf p / 2 * 2 + 1]

/-- LANE_POWER_REQUEST: a request to leave starts the exit to ACTIVE and drops a request to enter of the same beat; a request that comes
during an exit waits for its end (R272). -/
def execLanePowerRequest (n : Fin 64) (i : Fin 9) (tx leave : Bool) (enter : Option (Fin 4)) (s : State) :
    Host.Outcome State Fault Refusal :=
  let l := 9 * n.val + i.val
  if leave then .next (s.askPwr l tx PWR.ACTIVE)
  else .next (match enter with | some v => s.askPwr l tx v.val | none => s)

/-- LANE_POWER_EXIT_DONE: the direction is ACTIVE; a request that waited then acts (R270, R272). -/
def execLanePowerExitDone (n : Fin 64) (i : Fin 9) (tx : Bool) (s : State) : Host.Outcome State Fault Refusal :=
  .next (s.exitDone (9 * n.val + i.val) tx)

/-! ### Adaptation and lock (R264, R271, R273) -/

/-- The symbols of the lane are PAM4 at the current rate of its port (R260). -/
def State.pam4 (s : State) (p : Nat) : Bool :=
  let r := s.get (R.PRT_LINKSTAT p) F.PRT_LINKSTAT_RATE
  if s.caneMode p then decide (1 ≤ r) else decide (5 ≤ r)

/-- The step an adaptation keeps: CTLE_STEP, or the one with the largest eye height, the lower of equals (R264). -/
def bestStep (hs : List Nat) : Nat :=
  (hs.zipIdx.foldl (fun (b : Nat × Nat) e => if b.1 < e.1 then e else b) (hs.headD 0, 0)).2

/-- The DFE taps of a lane after an adaptation of them: zero outside PAM4, and as they stand under DFE_FREEZE, which is live (R264, R265). -/
def State.adaptDfe (s : State) (l taps : Nat) : State :=
  let pam := match s.laneOwner l with | some p => s.pam4 p | none => false
  if !pam then s.wr (laneReg R.LNE_DFE l) 0
  else if s.bit (laneReg R.LNE_CTL l) F.LNE_CTL_DFE_FREEZE then s
  else s.wr (laneReg R.LNE_DFE l) taps

/-- An adaptation of a lane ends: the equaliser step, the DFE taps, and the eye height reached (R264). -/
def State.adapt (s : State) (l : Nat) (heights : List Nat) (taps : Nat) : Nat × State :=
  let c := laneReg R.LNE_CTL l
  let step := if s.bitAct c F.LNE_CTL_CTLE_OVR then s.getAct c F.LNE_CTL_CTLE_STEP else bestStep heights
  let s := (s.put (laneReg R.LNE_STAT l) F.LNE_STAT_CTLE_USED step).adaptDfe l taps
  (heights.getD step 0, s.setAdapted l true)

/-- The lane carries traffic in L0 or CN_ACTIVE, so what it adapts it adapts in the background (R264). A data lane whose traffic the spare carries
does not, and may be adapted anew (R275). -/
def State.background (s : State) (l : Nat) : Bool :=
  match s.laneOwner l with
  | none => false
  | some p =>
    (if s.caneMode p then s.linkState p == CN.ACTIVE else s.linkState p == LS.L0) && s.adapted l &&
    (if l % 9 = 8 then s.rxSub (l / 9) != 0xF
      else !(s.caneMode p && s.subbed p (s.get (laneReg R.LNE_STAT l) F.LNE_STAT_LOGICAL)))

/-- ADAPTATION_DONE: `heights` are the eye heights of the 16 steps, `taps` the DFE taps found. In the background only the taps change, never the
equaliser step (R264). In CN_EQ the height counts for the preset in use (R302). -/
def execAdaptationDone (n : Fin 64) (i : Fin 9) (heights : List Nat) (taps : BitVec 64) (s : State) : Host.Outcome State Fault Refusal :=
  let l := 9 * n.val + i.val
  if s.pwr l false ≠ PWR.ACTIVE then .next s
  else if s.background l then .next (s.adaptDfe l taps.toNat)
  else
    let (h, s) := s.adapt l heights taps.toNat
    match s.laneOwner l with
    | none => .next s
    | some p =>
      let eq := s.linkState p == CN.EQ || (s.linkState p == CN.RETRAIN && (s.cane p).step == 3)
      let s := match eq, s.nextPreset p l with
        | true, some k => s.setCane p { s.cane p with heights := (s.cane p).heights ++ [(l, k, h)] }
        | _, _ => s
      .next (s.settleCane p)

/-- SPARE_READAPT: a warm spare that serves no lane is adapted again (R271). -/
def execSpareReadapt (n : Fin 64) (heights : List Nat) (taps : BitVec 64) (s : State) : Host.Outcome State Fault Refusal :=
  let n := n.val
  if s.octetCane n && s.bit (R.LNE_OCTCTL n) F.LNE_OCTCTL_SPARE_WARM && s.rxSub n == 0xF && s.pwr (9 * n + 8) false == PWR.STANDBY then
    .next (s.adapt (9 * n + 8) heights taps.toNat).2
  else .next s

/-- CLOCK_RECOVERY_LOCK: the receiver is locked on its stream (R300); without REFCLK no lane locks (R390). -/
def execClockRecoveryLock (n : Fin 64) (i : Fin 9) (s : State) : Host.Outcome State Fault Refusal :=
  let l := 9 * n.val + i.val
  if s.pwr l false ≠ PWR.ACTIVE ∨ !s.bit R.EMB_STATUS F.EMB_STATUS_REFCLK_OK then .next s
  else
    let s := s.put (laneReg R.LNE_STAT l) F.LNE_STAT_LOCK 1
    .next (match s.laneOwner l with | some p => s.settleCane p | none => s)

/-! ### Lane failures (R273, R274, R296) -/

/-- Logical lane `m` has failed and no spare can take it: the end retrains at the largest width of lanes that work, or the link goes down
(R296, R297). -/
def State.narrow (s : State) (p m : Nat) (byLock : Bool) : State :=
  let w := widthOf (s.caneWidth p) (fun k => k != m && s.laneWorks p k)
  if s.bit (R.CAN_CTL p) F.CAN_CTL_AUTO_NARROW then
    if w < s.minWidth p then s.linkFails p 5
    else if (s.cane p).ownRetrain.isSome then s
    else s.askRetrain p w (s.caneRate p) false
  else s.linkFails p (if byLock then 4 else 5)

/-- Logical lane `m` of a running cane port fails in its receive direction: the spare is asked for, or the port narrows (R273, R274). -/
def State.caneLaneFails (s : State) (p m : Nat) (byLock : Bool) : State :=
  if s.bit (R.LNE_OCTCTL (s.spareOctet p m)) F.LNE_OCTCTL_AUTO_SUB && s.spareFree p m && !s.retrimRuns (s.spareOctet p m) then
    let s := s.askSub p m
    if byLock then s.setBit (R.CAN_STATUS p) F.CAN_STATUS_RX_HOLD else s
  else s.narrow p m byLock

/-- A lane fails: counted, logged, and handled by its port (R273). A spare that fails keeps the lane it carries (R274). -/
def State.laneFails (s : State) (l : Nat) (byLock : Bool) : State :=
  let s := s.bump (laneReg R.LNE_ERRCNT l) F.LNE_ERRCNT_FAILS 1
  let n := l / 9
  match s.laneOwner l with
  | none => s
  | some p =>
    let s := s.report FC.LANE_FAIL UK.port p 0 (n + l % 9 * 64) 0
    if !s.caneMode p then
      if s.linkState p = LS.L0 then (s.setLinkState p LS.RECOVERY).emit (.link p LK.RETRAIN) else s
    else if s.linkState p ≠ CN.ACTIVE then s
    else if l % 9 = 8 then
      if s.rxSub n = 0xF then s
      else
        let m := s.logicalOf p n (s.rxSub n)
        s.narrow p m (byLock || s.lacksLock p m)
    else
      let m := s.get (laneReg R.LNE_STAT l) F.LNE_STAT_LOGICAL
      if s.caneWidth p ≤ m ∨ s.subbed p m then s else s.caneLaneFails p m byLock

/-- Clock recovery of a lane has lost lock. After an accepted STANDBY the direction follows the partner into STANDBY instead (R273,
R296). -/
def State.lockLoss (s : State) (l : Nat) : State :=
  let r := laneReg R.LNE_STAT l
  if !s.bit r F.LNE_STAT_LOCK then s
  else
    let follows := match s.laneOwner l with
      | some p => s.caneMode p && (s.cane p).peerStby
      | none => false
    if follows then s.askPwr l false PWR.STANDBY
    else ((s.put r F.LNE_STAT_LOCK 0).bump (laneReg R.LNE_ERRCNT l) F.LNE_ERRCNT_LOCKLOSS 1).laneFails l true

/-- LOCK_LOSS: clock recovery has lost lock for more than 16 beats. -/
def execLockLoss (n : Fin 64) (i : Fin 9) (s : State) : Host.Outcome State Fault Refusal := .next (s.lockLoss (9 * n.val + i.val))

/-- FAIL_WINDOW_END: `count` symbols disagreed at the monitor in the window. The monitor pauses while the slicer is held. A rise above
FAIL_THRESH fails the lane (R273). -/
def execFailWindowEnd (n : Fin 64) (i : Fin 9) (count : Nat) (s : State) : Host.Outcome State Fault Refusal :=
  let l := 9 * n.val + i.val
  let here := if s.slicer l = 0 then count else 0
  let total := here + SMap.get s.lnk.winCnt 0 l
  let s := { s with lnk := { s.lnk with winCnt := SMap.set s.lnk.winCnt 0 l 0 } }
  let s := s.bump (laneReg R.LNE_ERRCNT l) F.LNE_ERRCNT_LOWMARGIN here
  .next (if s.get (R.LNE_FAILCFG n.val) F.LNE_FAILCFG_FAIL_THRESH < total then s.laneFails l false else s)

/-! ### Re-trim (R276 to R278) -/

/-- A check of a lane takes its error slicer, unless a standard command or a margin run has it (R279). -/
def State.takeCheck (s : State) (n : Nat) : State :=
  match s.checkLane n with
  | some l => if s.slicer l = 0 then s.setSlicer l 3 else s
  | none => s

/-- The run moves to a stage. -/
def State.retrimStage (s : State) (n v : Nat) : State :=
  let s := match s.checkLane n with
    | some l => if s.slicer l = 3 then s.setSlicer l 0 else s
    | none => s
  (s.setRetrim n v).takeCheck n

/-- Stage 1 begins on octet `n` for lane `m`, which is brought to ACTIVE; from a warm spare the run goes on to its check (R272, R276). -/
def State.retrimStart (s : State) (n m : Nat) : State :=
  let spare := 9 * n + 8
  let warm := s.pwr spare false == PWR.STANDBY && s.adapted spare
  let s := (s.put (R.LNE_RETRIMSTAT n) F.LNE_RETRIMSTAT_LANE m).askPwr spare false PWR.ACTIVE
  let s := match (s.laneOwner spare).bind (fun p => s.physLane p (s.logicalOf p n m)) with
    | some l => s.askPwr l false PWR.ACTIVE
    | none => s
  s.retrimStage n (if warm then RT.SPARE_CHECK else RT.SPARE_UP)

/-- The START is refused (R276). A spare that a substitution has been asked for counts as carrying the lane (DEDUCED, log entry 125). -/
def State.retrimRefused (s : State) (n m : Nat) : Bool :=
  match s.laneOwner (9 * n + 8) with
  | none => true
  | some p => s.retrimRuns n || s.rxSub n != 0xF || (s.cane p).subRx.any (fun r => r.octet == n) || s.linkState p != CN.ACTIVE || !s.bit (R.LNE_OCTCTL n) F.LNE_OCTCTL_SPARE_EN ||
      decide (s.confWidth p ≤ s.logicalOf p n m)

/-- RETRIM_START (R276). -/
def execRetrimStart (n : Fin 64) (m : Fin 8) (s : State) : Host.Outcome State Fault Refusal :=
  .next (if s.retrimRefused n.val m.val then s.setBit (R.LNE_OCTSTAT n.val) F.LNE_OCTSTAT_BADCMD
    else s.retrimStart n.val m.val)

/-- RETRIM_ABORT: the run ends as ABORTED; traffic already on the spare stays there (R276). -/
def execRetrimAbort (n : Fin 64) (s : State) : Host.Outcome State Fault Refusal :=
  .next (if s.retrimRuns n.val then s.endRetrim n.val RT.ABORTED else s)

/-- What the end of a stage leads to (R276): `ok` is the verdict of a check. Traffic is switched by the exchange of R295, whose
switch frame SUB_SWITCH gives; LANE_ADAPT ends only once the spare carries the lane. -/
def State.retrimNext (s : State) (n p : Nat) (ok : Bool) : State :=
  let m := s.get (R.LNE_RETRIMSTAT n) F.LNE_RETRIMSTAT_LANE
  let lm := s.logicalOf p n m
  match s.retrim n with
  | 1 => (s.exitDone (9 * n + 8) false).retrimStage n RT.SPARE_ADAPT
  | 2 => (s.setAdapted (9 * n + 8) true).retrimStage n RT.SPARE_CHECK
  | 3 => if ok then (s.retrimStage n RT.LANE_ADAPT).askSub p lm else s.endRetrim n RT.SPARE_BAD
  | 4 => if s.rxSub n = m then s.retrimStage n RT.LANE_CHECK else s
  | 5 =>
    let f := R.LNE_FAILED n
    if ok then
      let s := (s.endRetrim n RT.DONE).wr f (if bitOf (s.rd f) m then s.rd f - 2 ^ m else s.rd f)
      s.endSub p n
    else
      let s := (s.endRetrim n RT.LANE_FAILED).wr f (Nat.lor (s.rd f) (2 ^ m))
      s.report FC.LANE_FAIL UK.port p 0 (n + (match s.physLane p lm with | some l => l % 9 | none => 0) * 64 + 1024) 0
  | _ => s

/-- RETRIM_STAGE_DONE: the running stage ends. A check that lost its slicer to another user has failed (R276, R279). -/
def execRetrimStageDone (n : Fin 64) (ok : Bool) (s : State) : Host.Outcome State Fault Refusal :=
  let n := n.val
  match s.laneOwner (9 * n + 8) with
  | none => .next s
  | some p =>
    if !s.retrimRuns n then .next s
    else
      let held := match s.checkLane n with | some l => s.slicer l == 3 | none => true
      .next (s.retrimNext n p (ok && held))

/-! ### Margining (R279, R280) -/

/-- MARGIN_RUN: a run brings its lane to ACTIVE and takes the slicer, or is refused as BUSY (R272, R279, R280). -/
def execMarginRun (n : Fin 64) (i : Fin 9) (s : State) : Host.Outcome State Fault Refusal :=
  let l := 9 * n.val + i.val
  let r := laneReg R.LNE_MARGRES l
  if s.slicer l ≠ 0 then .next (s.setBit r F.LNE_MARGRES_BUSY)
  else .next (((s.wr r (2 ^ 43)).setSlicer l 1).askPwr l false PWR.ACTIVE)

/-- A margin run ends early (R279). -/
def State.marginEnd (s : State) (l : Nat) : State :=
  let r := laneReg R.LNE_MARGRES l
  ((s.put r F.LNE_MARGRES_ACTIVE 0).setBit r F.LNE_MARGRES_ABORTED).setSlicer l 0

/-- MARGIN_ABORT (R279). -/
def execMarginAbort (n : Fin 64) (i : Fin 9) (s : State) : Host.Outcome State Fault Refusal :=
  let l := 9 * n.val + i.val
  .next (if s.slicer l = 1 then s.marginEnd l else s)

/-- MARGIN_RUN_DONE: the run has counted its symbols, once its lane was ACTIVE (R272, R280). -/
def execMarginRunDone (n : Fin 64) (i : Fin 9) (errors : BitVec 40) (s : State) : Host.Outcome State Fault Refusal :=
  let l := 9 * n.val + i.val
  let r := laneReg R.LNE_MARGRES l
  .next (if s.slicer l = 1 ∧ s.exitOf l false = 0 then (s.wr r (errors.toNat + 2 ^ 40)).setSlicer l 0 else s)

/-- What the module reports for Lane Margining at the Receiver (R280), in the order of the rule: M_IndErrorSampler, M_IndLeftRightTiming,
M_IndUpDownVoltage, M_SampleReportingMethod, M_NumTimingSteps, M_MaxTimingOffset, M_NumVoltageSteps, M_MaxVoltageOffset, M_MaxLanes. -/
def marginReport : List Nat := [1, 1, 1, 0, 32, 50, 64, 25, 15]

/-- LANE_MARGIN_COMMAND: a standard command brings its lane to ACTIVE and takes the slicer, ending a run or a check, and its values
are reported, or it gives the slicer back (R272, R279, R280). -/
def execLaneMarginCommand (n : Fin 64) (i : Fin 9) (release : Bool) (s : State) : Host.Outcome State Fault Refusal :=
  let l := 9 * n.val + i.val
  if release then .next (if s.slicer l = 2 then s.setSlicer l 0 else s)
  else .next ((((if s.slicer l = 1 then s.marginEnd l else s).setSlicer l 2).askPwr l false PWR.ACTIVE).emit (.margin l marginReport))

/-! ### PCI Express ports (R218, R231, R267, R271) -/

/-- What a report of a PCI Express link's training says: the state reached, the rate and width both ends can work at, the width of L0p (0 for
none), Flit mode, whether the lane order is reversed, the lanes found inverted, the coefficients the partner asks of each lane, and the
directions in L0s. -/
structure PcieReport where
  state : Nat
  rate : Nat
  width : Nat
  l0p : Nat
  flit : Bool
  reversed : Bool
  invert : Nat
  eq : List (Nat × Nat × Nat)
  l0sTx : Bool
  l0sRx : Bool

/-- MAX_RATE of a PCI Express port; 6 and 7 act as 5. -/
def State.pcieMaxRate (s : State) (p : Nat) : Nat := min 5 (s.get (R.PRT_LINKCFG p) F.PRT_LINKCFG_MAX_RATE)

/-- Rate of a PCI Express port in a reported state: 2.5 GT/s until the link has been up, later changed in Recovery alone, up to MAX_RATE, and
64 GT/s in Flit mode only (R231, R267). -/
def State.pcieRate (s : State) (p : Nat) (t : PcieReport) : Nat :=
  if !s.bit (R.PRT_STATUS p) F.PRT_STATUS_LINK_UP then 0
  else if t.state = LS.RECOVERY ∨ t.state = 0x08 then min (min t.rate (s.pcieMaxRate p)) (if t.flit then 5 else 4)
  else s.get (R.PRT_LINKSTAT p) F.PRT_LINKSTAT_RATE

/-- Width a PCI Express port links at: the largest offered width that the partner's lanes support too (R218). -/
def pcieWidth (conf width : Nat) : Nat := ([16, 8, 4, 2, 1].find? (fun w => decide (w ≤ conf) && decide (w ≤ width))).getD 0

/-- Width in use in L0: one half or one quarter under L0p, in Flit mode with L0P_EN, and never below x2 (R231). -/
def State.pcieL0p (s : State) (p w : Nat) (t : PcieReport) : Nat :=
  if t.state = LS.L0 ∧ t.flit = true ∧ s.bit (R.PRT_LINKCFG p) F.PRT_LINKCFG_L0P_EN = true ∧ 2 ≤ t.l0p ∧ (t.l0p * 2 = w ∨ t.l0p * 4 = w) then t.l0p
  else w

/-- A state the port's settings rule out: L0s in Flit mode or without L0S_EN, and any running state outside Flit mode with FLIT_REQ (R231). -/
def State.pcieRefused (s : State) (p : Nat) (t : PcieReport) : Bool :=
  (t.state == 0x05 && (t.flit || !s.bit (R.PRT_LINKCFG p) F.PRT_LINKCFG_L0S_EN)) ||
  (!t.flit && s.bit (R.PRT_LINKCFG p) F.PRT_LINKCFG_FLIT_REQ && (t.state == LS.L0 || t.state == 0x05 || t.state == 0x06))

/-- Power state of a direction of a lane in a training state, for a lane in use, one that L0p rests, and one beyond the trained width (R271). -/
def pciePwr (t : PcieReport) (tx : Bool) (lane width use : Nat) : Nat :=
  if t.state = LS.DETECT ∨ t.state = LS.DISABLED ∨ t.state = 0x06 then PWR.SLEEP
  else if width ≤ lane ∧ (t.state = LS.L0 ∨ t.state = 0x05) then PWR.OFF
  else if t.state = 0x05 ∧ (if tx then t.l0sTx else t.l0sRx) = true then PWR.STANDBY
  else if use ≤ lane ∧ t.state = LS.L0 then PWR.SLEEP
  else PWR.ACTIVE

/-- One data lane follows the training of its port: power, its logical number, polarity in Polling, and coefficients in equalisation at 8 GT/s and
above (R264 to R267, R269, R271). `k` is its place in the port; a reversed port of width w numbers its lanes w − 1 − k. -/
def State.pcieLane (s : State) (conf w use rate : Nat) (t : PcieReport) (l k : Nat) : State :=
  let m := if t.reversed then conf - 1 - k else k
  let s := (s.askPwr l false (pciePwr t false m w use)).askPwr l true (pciePwr t true m w use)
  let s := s.put (laneReg R.LNE_STAT l) F.LNE_STAT_LOGICAL (if m < w then m else 0xF)
  let c := laneReg R.LNE_CTL l
  let inv := if s.bitAct c F.LNE_CTL_POL_OVR then s.getAct c F.LNE_CTL_POL_SET else bit01 (bitOf t.invert k)
  let s := if t.state = 0x01 then s.put (laneReg R.LNE_STAT l) F.LNE_STAT_POL_INV inv else s
  if t.state = 0x08 ∧ 2 ≤ rate then
    match t.eq[k]? with
    | some (a, b, c) => s.applyEq l a b c
    | none => if s.bitAct c F.LNE_CTL_TXEQ_OVR then s.applyEq l 0 0 0 else s
  else s

/-- A PCI Express link of port `p` reaches a training state. -/
def State.pcieTrain (s : State) (p : Nat) (t : PcieReport) : State :=
  let st := t.state
  let conf := s.confWidth p
  let rate := s.pcieRate p t
  let w := pcieWidth conf t.width
  let use := s.pcieL0p p w t
  let was := s.bit (R.PRT_STATUS p) F.PRT_STATUS_LINK_UP
  let up := st == LS.L0 || (was && (st == 0x05 || st == 0x06 || st == LS.RECOVERY || st == 0x08))
  let s := s.wr (R.PRT_LINKSTAT p) (rate + w * 2 ^ 3 + use * 2 ^ 8 + bit01 t.flit * 2 ^ 13 + st * 2 ^ 14
    + s.get (R.PRT_LINKSTAT p) F.PRT_LINKSTAT_DOWNS * 2 ^ 32)
  let s := s.put (R.PRT_STATUS p) F.PRT_STATUS_LINK_UP (bit01 up)
  let s := if st = LS.DETECT then s else s.put (R.PRT_CTL p) F.PRT_CTL_RETRAIN 0
  let s := if s.role p = ROLE.UPSTREAM then s.put (R.PTN_STATE (s.portPt p)) F.PTN_STATE_UPLINK (bit01 up) else s
  let s := if st = 0x01 ∨ st = 0x08 then s.laneShadows p else s
  (s.portLanes p).zipIdx.foldl (fun s e => s.pcieLane conf w use rate t e.1 e.2) s

/-- PCIE_TRAINING: a PCI Express link reaches a training state; in L0 its data link layer is up. A held port and a port with ENABLE = 0 do not train
(R236, R267), nor does any without REFCLK (R390), in reset, or without trim (R34). -/
def execPcieTraining (p : Fin 256) (state : Fin 12) (rate : Fin 6) (width l0p : Fin 17) (flit reversed : Bool) (lanes : PcieLanes)
    (s : State) : Host.Outcome State Fault Refusal :=
  let p := p.val
  let st := state.val
  let t : PcieReport := ⟨st, rate.val, width.val, l0p.val, flit, reversed, lanes.invert.toNat,
    lanes.eq.map (fun e => (e.1.val, e.2.1.val, e.2.2.val)), lanes.l0sTx, lanes.l0sRx⟩
  if s.caneMode p || !s.portUsed p || !s.bit (R.PRT_CTL p) F.PRT_CTL_ENABLE || (s.portHeld p && st != LS.DISABLED) ||
      s.blockReset 7 || s.bit (R.PRT_STATUS p) F.PRT_STATUS_TRIM_WAIT || s.pcieRefused p t ||
      (!s.bit R.EMB_STATUS F.EMB_STATUS_REFCLK_OK && st != LS.DETECT && st != LS.DISABLED) then .next s
  else .next (s.pcieTrain p t)

/-- PORT_RETRAIN: PRT_CTL RETRAIN starts a retrain of the link; on a cane port with its width and rate as they are (R267, R303). -/
def execPortRetrain (p : Fin 256) (s : State) : Host.Outcome State Fault Refusal :=
  let p := p.val
  if s.caneMode p then
    if s.linkState p = CN.ACTIVE ∧ (s.cane p).ownRetrain.isNone then .next (s.askRetrain p (s.caneWidth p) (s.caneRate p) false)
    else .next s
  else if s.linkState p = LS.L0 then .next (((s.setLinkState p LS.RECOVERY).put (R.PRT_CTL p) F.PRT_CTL_RETRAIN 0).emit (.link p LK.RETRAIN))
  else .next s

/-- PORT_DOWN: the link of a downstream port goes down and the port is held; a cane link whose ENABLE has been cleared goes down with
cause HELD (R236, R297). -/
def execPortDown (p : Fin 256) (s : State) : Host.Outcome State Fault Refusal :=
  let p := p.val
  if s.caneMode p then .next (if s.bit (R.PRT_CTL p) F.PRT_CTL_ENABLE then s else s.linkFails p 11)
  else if s.role p ≠ ROLE.DOWNSTREAM ∨ !s.bit (R.PRT_STATUS p) F.PRT_STATUS_LINK_UP then .next s
  else .next (((s.linkLost p).holdPort p 2 dpcByHold).report FC.PORT_DOWN UK.port p 0 0 0)

end Sys2Proof.Machine
end

