-- ==== Sys2Proof/Machine/Power.lean ====
section
/-!
DEFINITION. Power entry (R418 to R425), the reservoir (R432, R433), the quench (R434 to R438) and the loss of the rails (R448). GATE_x and
PWRFAIL_N follow from the state. A command says that a time has passed or a voltage has been reached, and carries the reading.
-/
namespace Sys2Proof.Machine

/-- States of a feed (R420). -/
def FD.OFF : Nat := 0
def FD.WAIT : Nat := 1
def FD.QUAL : Nat := 2
def FD.READY : Nat := 3
def FD.PRECHG : Nat := 4
def FD.ON : Nat := 5
def FD.RETRY : Nat := 6

def State.feed (s : State) (x : Nat) : Nat := s.get (R.PWR_FEEDSTAT x) F.PWR_FEEDSTAT_STATE
def State.vin (s : State) (x : Nat) : Nat := s.get (R.PWR_FEEDSTAT x) F.PWR_FEEDSTAT_VIN
def State.sel (s : State) : Nat := s.get R.PWR_STATUS F.PWR_STATUS_SEL
def State.setSel (s : State) (v : Nat) : State := s.put R.PWR_STATUS F.PWR_STATUS_SEL v
def State.vbus (s : State) : Nat := s.get R.PWR_STATUS F.PWR_STATUS_VBUS
def State.feedEn (s : State) (x : Nat) : Bool := s.bit (R.PWR_FEEDCFG x) F.PWR_FEEDCFG_EN

/-- A feed enters a state; its breaker no longer regulates. -/
def State.setFeed (s : State) (x v : Nat) : State := (s.put (R.PWR_FEEDSTAT x) F.PWR_FEEDSTAT_STATE v).setLimiting x false

/-! ### PWRFAIL_N, the holdup converter and the quench's start (R433 to R435, R438, R450) -/

/-- PWRFAIL_N is low: during the quench, and while ember does not run. -/
def State.pwrfailLow (s : State) : Bool := s.rst.quench != 0 || !s.rst.ember

/-- The holdup converter drives VBUS: an episode, with the charger off (R432, R433). -/
def State.holdupStart (s : State) : State :=
  let r := R.HLD_STATUS
  let s := s.put r F.HLD_STATUS_CHARGING 0
  if s.bit r F.HLD_STATUS_HOLDING then s else (s.setBit r F.HLD_STATUS_HOLDING).bump r F.HLD_STATUS_HOLDS 1

/-- CHARGING follows: the charger runs with CHG_EN while no converter draws and the bank is below 36.0 V (R432). -/
def State.chargerSettle (s : State) : State :=
  s.put R.HLD_STATUS F.HLD_STATUS_CHARGING (bit01 (s.bit R.HLD_CFG F.HLD_CFG_CHG_EN && !s.bit R.HLD_STATUS F.HLD_STATUS_HOLDING &&
    s.rst.quench == 0 && decide (s.get R.HLD_STATUS F.HLD_STATUS_VRES < 3600)))

/-- HLD_OK follows (R432). HLD_LOW can be reported again once its cause has gone. -/
def State.hldSettle (s : State) : State :=
  let r := R.HLD_STATUS
  let ok := decide (3500 ≤ s.get r F.HLD_STATUS_VRES) && s.bit r F.HLD_STATUS_CAP_VALID &&
    decide (s.get R.HLD_CFG F.HLD_CFG_CMIN ≤ s.get r F.HLD_STATUS_CAP)
  let s := s.put r F.HLD_STATUS_HLD_OK (bit01 ok)
  if ok then { s with pow := { s.pow with hldLow := false } } else s

/-- The power-fail message: Requester ID, Vendor ID 0xF3C5, Message Code 0x7F, byte 12, byte 13 (R438). -/
def powerFailMsg (rid fid : Nat) : Nat := rid * 2 ^ 40 + 0xF3C57F0100 + fid

/-- Requester ID of the upstream switch port that is port `p`. -/
def State.upId (s : State) (p : Nat) : Nat := (s.bridge (upKey (s.portPt p))).pri % 256 * 256

/-- Upstream ports of enabled partitions whose link is in L0, which includes L0p (R435). -/
def State.failPorts (s : State) : List Nat :=
  (List.range 64).filterMap (fun pt =>
    if s.bitAct (R.PTN_CFG pt) F.PTN_CFG_EN then
      match s.upPort pt with
      | some p => if !s.caneMode p && s.linkState p == LS.L0 then some p else none
      | none => none
    else none)

/-- The quench starts (R434, R435): no feed is selected, gates stay OFF, channels go OFF, the charger stops, the converter holds VBUS. -/
def State.quenchStart (s : State) : State :=
  if s.rst.quench ≠ 0 then s
  else
    let s := s.failPorts.foldl (fun s p => s.emit (.message p (powerFailMsg (s.upId p) s.fid))) s
    let s := { s with rst := { s.rst with quench := 1 }, pow := { s.pow with making := none, gap := false } }
    let s := ((s.setSel 0).put R.PWR_STATUS F.PWR_STATUS_BREAK 0).holdupStart
    let s := (s.setFeed 0 FD.OFF).setFeed 1 FD.OFF
    (List.range 32).foldl (fun s k => s.setChan k CH.OFF) s

/-! ### Windows, selection and switchover (R420 to R422) -/

/-- A feed is within its window, or has left it, by the limits in force (R420). -/
def State.feedWithin (s : State) (x v : Nat) : Bool :=
  let c := R.PWR_FEEDCFG x
  let h := s.getAct c F.PWR_FEEDCFG_HYST
  decide (s.getAct c F.PWR_FEEDCFG_UV + h ≤ v) && decide (v + h ≤ s.getAct c F.PWR_FEEDCFG_OV)
def State.feedLeft (s : State) (x v : Nat) : Bool :=
  let c := R.PWR_FEEDCFG x
  decide (v < s.getAct c F.PWR_FEEDCFG_UV) || decide (s.getAct c F.PWR_FEEDCFG_OV < v)

/-- A reading of a feed's voltage: between the limits and the limits with hysteresis the window stands as it was. -/
def State.seeVin (s : State) (x v : Nat) : State :=
  let s := s.put (R.PWR_FEEDSTAT x) F.PWR_FEEDSTAT_VIN v
  let set (b : Nat) : State := { s with pow := { s.pow with win := SMap.set s.pow.win 0 x b } }
  if s.feedWithin x v then set 1 else if s.feedLeft x v then set 0 else s

/-- A feed enters WAIT: its shadowed limits take effect, and within the window it passes to QUAL (R420). -/
def State.toWait (s : State) (x : Nat) : State :=
  let s := s.wrAct (R.PWR_FEEDCFG x) (s.rd (R.PWR_FEEDCFG x))
  let s := s.seeVin x (s.vin x)
  s.setFeed x (if SMap.get s.pow.win 0 x = 1 then FD.QUAL else FD.WAIT)

/-- A feed enters RETRY with FEED_ILIM (R420, R423). -/
def State.toRetry (s : State) (x detail : Nat) : State :=
  ((s.setFeed x FD.RETRY).bump (R.PWR_FEEDSTAT x) F.PWR_FEEDSTAT_TRIPS 1).report FC.FEED_ILIM UK.feed x 0 detail 0

/-- A feed is ON; a switchover to it ends (R422). -/
def State.feedOn (s : State) (x : Nat) : State :=
  let s := s.setFeed x FD.ON
  if s.pow.making = some x then
    let s := { s with pow := { s.pow with making := none, gap := false } }
    let s := (s.put R.PWR_STATUS F.PWR_STATUS_BREAK 0).bump R.PWR_STATUS F.PWR_STATUS_BREAKS 1
    (s.put R.HLD_STATUS F.HLD_STATUS_HOLDING 0).chargerSettle
  else s

/-- A READY feed is selected: to PRECHG with VBUS below half of VIN, else to ON (R420). -/
def State.selectFeed (s : State) (x : Nat) : State :=
  let s := s.setSel (x + 1)
  if 2 * s.vbus < s.vin x then s.setFeed x FD.PRECHG else s.feedOn x

/-- The feed taken when both are READY: feed B with PRIO 1, else feed A (R421). -/
def State.firstFeed (s : State) : Nat := if s.get R.PWR_CTL F.PWR_CTL_PRIO = 1 then 1 else 0

/-- With no feed selected a READY feed is selected (R421). -/
def State.feedSettle (s : State) : State :=
  if s.sel ≠ 0 ∨ s.pow.making.isSome ∨ s.rst.quench ≠ 0 then s
  else
    let x := s.firstFeed
    if s.feed x = FD.READY then s.selectFeed x else if s.feed (1 - x) = FD.READY then s.selectFeed (1 - x) else s

/-- A switchover to feed `y` begins: the converter holds VBUS, no gate is out of OFF, and the dead time runs (R422). -/
def State.switchTo (s : State) (y : Nat) : State :=
  let s := ((s.setBit R.PWR_STATUS F.PWR_STATUS_BREAK).setSel 0).holdupStart
  { s with pow := { s.pow with making := some y, gap := true } }

/-- The selected feed has left ON (R421). -/
def State.feedLost (s : State) (x : Nat) : State :=
  if s.feed (1 - x) = FD.READY then s.switchTo (1 - x) else s.quenchStart

/-- A switchover fails to make (R422). -/
def State.makeFails (s : State) (y : Nat) : State := (s.toRetry y 1).quenchStart

/-- EN of a feed is written: OFF with EN = 1 passes to WAIT, and a clear opens the gate at once (R420). -/
def State.feedEnWrite (s : State) (x : Nat) : State :=
  if s.rst.quench ≠ 0 then s
  else if s.feedEn x then (if s.feed x = FD.OFF then s.toWait x else s)
  else
    let was := s.feed x
    let mine := s.sel = x + 1
    let s := s.setFeed x FD.OFF
    if mine ∧ was = FD.ON then s.feedLost x
    else if s.pow.making = some x then s.quenchStart
    else if mine then (s.setSel 0).feedSettle
    else s

/-! ### Feed commands -/

/-- START_CIRCUIT: before ember runs the first feed within the reset window is brought up, feed A first. After a thermal trip this waits for
COLD_N, or for both feeds below 3.0 V, which loses the latch (R376, R419). -/
def execStartCircuit (a b : BitVec 12) (s : State) : Host.Outcome State Fault Refusal :=
  rated (busRated a && busRated b) (
    if s.rst.ember then .next s
    else
      let (a, b) := (a.toNat, b.toNat)
      let s := (s.seeVin 0 a).seeVin 1 b
      if a < 300 ∧ b < 300 then .next { s with rst := { s.rst with trip := 0 } }
      else if s.rst.trip ≠ 0 ∧ !s.rst.cold ∧ !s.rst.freed then .next s
      else
        let pick := if s.feedWithin 0 a then some 0 else if s.feedWithin 1 b then some 1 else none
        match pick with
        | none => .next s
        | some x => .next ((((s.setFeed x FD.ON).setSel (x + 1)).seeVbus (s.vin x)).toWait (1 - x)))

/-- FEED_WINDOW_ENTER (R420). -/
def execFeedWindowEnter (x : Fin 2) (vin : BitVec 12) (s : State) : Host.Outcome State Fault Refusal :=
  rated (busRated vin) (
    let x := x.val
    let s := s.seeVin x vin.toNat
    .next (if s.rst.quench ≠ 0 ∨ !s.feedEn x then s
      else if s.feed x = FD.OFF then s.toWait x
      else if s.feed x = FD.WAIT ∧ s.feedWithin x vin.toNat then s.setFeed x FD.QUAL
      else s))

/-- FEED_WINDOW_EXIT: a departure ends a qualification, and opens the gate of a feed that is ON (R420, R421). -/
def execFeedWindowExit (x : Fin 2) (vin : BitVec 12) (s : State) : Host.Outcome State Fault Refusal :=
  rated (busRated vin) (
    let x := x.val
    let s := s.seeVin x vin.toNat
    if s.rst.quench ≠ 0 ∨ !s.feedLeft x vin.toNat then .next s
    else if s.feed x = FD.QUAL then .next (s.toWait x)
    else if s.feed x = FD.ON then
      let s := (s.report FC.FEED_WINDOW UK.feed x 0 vin.toNat 0).toWait x
      .next (if s.sel = x + 1 then s.feedLost x else s)
    else .next s)

/-- QUAL_DONE (R420, R421). -/
def execQualDone (x : Fin 2) (both : Bool) (s : State) : Host.Outcome State Fault Refusal :=
  if s.rst.quench ≠ 0 ∨ s.feed x.val ≠ FD.QUAL then .next s
  else
    let s := s.setFeed x.val FD.READY
    let s := if both && s.feed (1 - x.val) == FD.QUAL then s.setFeed (1 - x.val) FD.READY else s
    .next s.feedSettle

/-- FEED_PRECHG_DONE: VBUS is at 90 % of VIN or more (R420). -/
def execFeedPrechgDone (x : Fin 2) (vbus : BitVec 12) (s : State) : Host.Outcome State Fault Refusal :=
  rated (busRated vbus) (
    let s := s.seeVbus vbus.toNat
    .next (if s.rst.quench = 0 ∧ s.feed x.val = FD.PRECHG ∧ 9 * s.vin x.val ≤ 10 * vbus.toNat then s.feedOn x.val else s))

/-- FEED_PRECHG_TIMEOUT (R420). -/
def execFeedPrechgTimeout (x : Fin 2) (s : State) : Host.Outcome State Fault Refusal :=
  let x := x.val
  if s.rst.quench ≠ 0 ∨ s.feed x ≠ FD.PRECHG then .next s
  else if s.pow.making = some x then .next (s.makeFails x)
  else .next (((s.toRetry x 1).setSel 0).feedSettle)

/-- FEED_RETRY_DONE (R420). -/
def execFeedRetryDone (x : Fin 2) (s : State) : Host.Outcome State Fault Refusal :=
  .next (if s.rst.quench = 0 ∧ s.feed x.val = FD.RETRY then s.toWait x.val else s)

/-- REVERT_TIMER: the preferred feed has been READY for REVERT_DLY; the feed that was selected qualifies again (R421). -/
def execRevertTimer (x : Fin 2) (s : State) : Host.Outcome State Fault Refusal :=
  let x := x.val
  .next (if s.rst.quench = 0 ∧ s.pow.making.isNone ∧ s.get R.PWR_CTL F.PWR_CTL_PRIO = x ∧ s.bit R.PWR_CTL F.PWR_CTL_REVERT ∧
      s.feed x = FD.READY ∧ s.sel = 2 - x then (s.toWait (1 - x)).switchTo x
    else s)

/-- BBM_GAP_END: the new feed goes to PRECHG or ON (R422). -/
def execBbmGapEnd (s : State) : Host.Outcome State Fault Refusal :=
  match s.pow.making with
  | none => .next s
  | some y =>
    if !s.pow.gap then .next s
    else
      let s := { s with pow := { s.pow with gap := false } }
      .next (if s.feed y = FD.READY then s.selectFeed y else s.quenchStart)

/-- MAKE_TIMEOUT: 100 µs have passed and the new feed is not ON (R422). -/
def execMakeTimeout (s : State) : Host.Outcome State Fault Refusal :=
  match s.pow.making with
  | none => .next s
  | some y => .next (if s.pow.gap then s else s.makeFails y)

/-! ### Breakers (R423) -/

/-- Current limit of a breaker, in the unit of the current measured: 0.1 A of a feed, 0.02 A of a channel. -/
def State.breakerLimit (s : State) : Breaker → Nat
  | .feed x => 10 * min 90 (s.get (R.PWR_FEEDCFG x.val) F.PWR_FEEDCFG_ILIM)
  | .slot k => 5 * min 120 (s.get (R.SLT_CFG k.val) F.SLT_CFG_ILIM)

/-- The main gate conducts: a feed ON, a channel in RAMP or ON. -/
def State.breakerOn (s : State) : Breaker → Bool
  | .feed x => s.feed x.val == FD.ON
  | .slot k => s.chan k.val == CH.RAMP || s.chan k.val == CH.ON

def State.seeAmps (s : State) (b : Breaker) (i : Nat) : State :=
  match b with
  | .feed x => s.put (R.PWR_FEEDSTAT x.val) F.PWR_FEEDSTAT_IIN i
  | .slot k => s.put (R.SLT_STAT k.val) F.SLT_STAT_IOUT i

/-- BREAKER_LIMIT: the current reaches ILIM, the gate regulates, and the fault timer starts. -/
def execBreakerLimit (b : Breaker) (amps : BitVec 10) (s : State) : Host.Outcome State Fault Refusal :=
  let s := s.seeAmps b amps.toNat
  .next (if s.breakerOn b && decide (s.breakerLimit b ≤ amps.toNat) then s.setLimiting (breakerKey b) true else s)

/-- FAULT_TIMER_CLEAR: the current falls below 95 % of ILIM first. -/
def execFaultTimerClear (b : Breaker) (amps : BitVec 10) (s : State) : Host.Outcome State Fault Refusal :=
  let s := s.seeAmps b amps.toNat
  .next (if 100 * amps.toNat < 95 * s.breakerLimit b then s.setLimiting (breakerKey b) false else s)

/-- BREAKER_TIMEOUT: the fault timer runs out and the gate turns OFF (R420, R423, R428). -/
def execBreakerTimeout (b : Breaker) (s : State) : Host.Outcome State Fault Refusal :=
  if !s.limits (breakerKey b) ∨ !s.breakerOn b then .next s
  else match b with
    | .feed x =>
      let s := s.toRetry x.val 0
      .next (if s.sel = x.val + 1 then s.feedLost x.val else s)
    | .slot k => .next (s.chanTrip k.val FC.BREAKER_TRIP 0 CX.BREAKER)

/-! ### Low input voltage and shedding (R424, R425) -/

/-- PWR_CAP is reported when its cause appears. -/
def State.capSettle (s : State) : State :=
  let above := s.overCap
  let was := s.pow.capOver
  let s := { s with pow := { s.pow with capOver := above } }
  if above && !was then s.report FC.PWR_CAP UK.module 0 0 (s.get R.PWR_STATUS F.PWR_STATUS_P_MOD) 0 else s

/-- LOWV_SET: VBUS has stayed below 9.60 V for 100 µs. -/
def execLowvSet (vbus : BitVec 12) (s : State) : Host.Outcome State Fault Refusal :=
  rated (busRated vbus) (
    let s := s.seeVbus vbus.toNat
    .next (if vbus.toNat < 960 then (s.setBit R.PWR_STATUS F.PWR_STATUS_LOWV).capSettle else s))

/-- LOWV_CLEAR: VBUS has stayed at or above 9.90 V for 10 ms. -/
def execLowvClear (vbus : BitVec 12) (s : State) : Host.Outcome State Fault Refusal :=
  rated (busRated vbus) (
    let s := s.seeVbus vbus.toNat
    .next (if 990 ≤ vbus.toNat then (s.put R.PWR_STATUS F.PWR_STATUS_LOWV 0).capSettle else s))

/-- Octets that carry a lane of MGMT_PORT. -/
def State.mgmtOctets (s : State) : List Nat :=
  let p := s.get R.PTN_MGMT F.PTN_MGMT_MGMT_PORT
  (s.portLanes p).map (· / 9) ++ s.spareOctets p

/-- The highest octet that may be shed (R425). -/
def State.shedNext (s : State) : Option Nat :=
  (List.range 64).reverse.find? (fun n => bitOf (s.rd R.PWR_SHED) n && !bitOf (s.rd R.PWR_SHEDSTAT) n && !s.mgmtOctets.contains n)

/-- An octet is shed: its nine lanes are OFF in both directions, and their ports treat them as failed (R271, R425). -/
def State.shed (s : State) (n : Nat) : State :=
  let s := s.wr R.PWR_SHEDSTAT (Nat.lor (s.rd R.PWR_SHEDSTAT) (2 ^ n))
  let s := (List.range 9).foldl (fun s i => s.laneDead (9 * n + i)) s
  (List.range 9).foldl (fun s i => if (s.laneOwner (9 * n + i)).isSome then s.laneFails (9 * n + i) true else s) s

/-- PMOD_AVERAGE: the average of module power ends, and one octet may be shed (R424, R425). -/
def execPmodAverage (p vbus : BitVec 12) (iin : BitVec 10) (iout : List (Fin 32 × BitVec 10)) (vres : BitVec 12) (s : State) :
    Host.Outcome State Fault Refusal :=
  rated (busRated vbus && resRated vres) (
    let s := (s.put R.PWR_STATUS F.PWR_STATUS_P_MOD p.toNat).seeVbus vbus.toNat
    let s := if s.sel = 0 then s else s.seeAmps (.feed (if s.sel = 1 then 0 else 1)) iin.toNat
    let s := iout.foldl (fun s e => s.seeAmps (.slot e.1) e.2.toNat) s
    let s := ((s.put R.HLD_STATUS F.HLD_STATUS_VRES vres.toNat).hldSettle).chargerSettle
    let s := s.capSettle
    .next (if s.overCap && s.bit R.PWR_CTL F.PWR_CTL_SHED_AUTO then
      match s.shedNext with
      | some n => s.shed n
      | none => s
      else s))

/-- A write of PWR_SHEDSTAT: bits written as 1 clear, unless LOWV stands (R425). -/
def State.shedRestore (s : State) (m : Nat) : State :=
  if s.bit R.PWR_STATUS F.PWR_STATUS_LOWV then s.setBit R.PWR_STATUS F.PWR_STATUS_CFG_REFUSED
  else
    let v := s.rd R.PWR_SHEDSTAT
    s.wr R.PWR_SHEDSTAT (v - Nat.land v m)

/-- SHED_RESTORE (R425). -/
def execShedRestore (m : BitVec 64) (s : State) : Host.Outcome State Fault Refusal := .next (s.shedRestore m.toNat)

/-! ### The reservoir (R432, R433) -/

/-- CAP_MEASURED: `t` µs of charging from 30 V to 35 V; CAP = ICHG × t / 5 V (R432). -/
def execCapMeasured (t : BitVec 32) (s : State) : Host.Outcome State Fault Refusal :=
  let r := R.HLD_STATUS
  if !s.bit R.HLD_CFG F.HLD_CFG_CHG_EN ∨ s.bit r F.HLD_STATUS_HOLDING ∨ s.rst.quench ≠ 0 then .next s
  else
    let cap := max 1 (s.get R.HLD_CFG F.HLD_CFG_ICHG) * t.toNat / 50
    let s := ((s.put r F.HLD_STATUS_CAP (min cap 65535)).setBit r F.HLD_STATUS_CAP_VALID).put r F.HLD_STATUS_VRES 3500
    .next (s.hldSettle).chargerSettle

/-- HLD_LOW: CHG_TO after the end of the lehr sequence HLD_OK is 0 (R432). -/
def execHldLow (vres : BitVec 12) (s : State) : Host.Outcome State Fault Refusal :=
  rated (resRated vres) (
    let s := (s.put R.HLD_STATUS F.HLD_STATUS_VRES vres.toNat).hldSettle
    if s.bit R.HLD_STATUS F.HLD_STATUS_HLD_OK ∨ s.pow.hldLow ∨ s.get R.RST_DOMAIN F.RST_DOMAIN_IN_RESET ≠ 0 then .next s
    else .next ({ s with pow := { s.pow with hldLow := true } }.report FC.HLD_LOW UK.module 0 0 vres.toNat 0))

/-! ### The end of power (R435, R437, R448) -/

/-- Power is removed: everything but NAND, pins, the levels of the feeds and a trip latch is lost. -/
def State.powerOff (s : State) (trip : Nat) : State :=
  let t : State := {
    mem := SMap.keep s.mem (memKept true), freeCtr := s.freeCtr, out := s.out, pending := s.pending
    prt := { perst := s.prt.perst }
    rst := { cold := s.rst.cold, warm := s.rst.warm, trip := trip }
    pow := { win := s.pow.win } }
  [0, 1].foldl (fun t x => t.put (R.PWR_FEEDSTAT x) F.PWR_FEEDSTAT_VIN (s.vin x)) t

/-- RAIL_COLLAPSE: VBUS has stayed below 3.80 V and no holdup converter keeps it up (R433, R448). -/
def execRailCollapse (s : State) : Host.Outcome State Fault Refusal :=
  .next (if s.bit R.HLD_STATUS F.HLD_STATUS_HOLDING then s else s.powerOff s.rst.trip)

/-- HOLDUP_STOP: VRES falls to 12.0 V; during a quench the save is abandoned and power is removed (R433, R435). -/
def execHoldupStop (s : State) : Host.Outcome State Fault Refusal :=
  if !s.bit R.HLD_STATUS F.HLD_STATUS_HOLDING then .next s
  else
    let s := ((s.put R.HLD_STATUS F.HLD_STATUS_HOLDING 0).put R.HLD_STATUS F.HLD_STATUS_VRES 1200).hldSettle
    .next (if s.rst.quench = 0 then s else s.powerOff s.rst.trip)

/-- QUENCH_STOP: 4 µs into the quench ports stop, links go down, and lanes are OFF (R435). -/
def execQuenchStop (s : State) : Host.Outcome State Fault Refusal :=
  if s.rst.quench ≠ 1 then .next s
  else
    let s := { s.stopAll with rst := { s.rst with quench := 2 } }
    .next ((List.range 576).foldl (fun s l => s.laneDead l) s)

/-- The snapshot of a keep save command is dropped (R131). -/
def State.snapDrop (s : State) : State := { s with gst := { s.gst with snap := [], snapErr := [], snapOn := false } }

/-- Every command ends and its slot is cleared (R353). -/
def State.endCommands (s : State) : State :=
  let s := (List.range 16).foldl (fun s k =>
    (((s.wr (R.CMD_SLOT k) (R.CMD_SLOT k).rst).wr (R.CMD_RESA k) 0).wr (R.CMD_RESB k) 0).wr (R.CMD_RESC k) 0) s
  { s.snapDrop with cmd := {} }

/-- QUENCH_DRAIN_DONE: the drain ends and the keep save begins; the DRAM leaves self-refresh for it (R435). -/
def execQuenchDrainDone (s : State) : Host.Outcome State Fault Refusal :=
  if s.rst.quench ≠ 2 then .next s
  else
    let s := s.drainCores.endCommands
    let s := if s.get R.GST_KEEP F.GST_KEEP_PAGES = 0 then s else s.put R.GST_STATUS F.GST_STATUS_SELFREF 0
    .next { s with rst := { s.rst with quench := 3 } }

/-- Pages of the keep region (R130). -/
def State.keepCount (s : State) : Nat := min 8 (s.get R.GST_KEEP F.GST_KEEP_PAGES)

/-- A 4 KiB block of a keep image, with its CRC-32 (R130). -/
def State.keepBlock (s : State) (area b : Nat) (bs : List Byte) : State :=
  (s.store (keepData area + 4096 * b) bs).storeWord (keepCrc area b) (crc32 bs) 4

/-- The keep area that a save writes (R355). -/
def State.keepTarget (s : State) : Nat := match s.newestKeep with | some i => 1 - i | none => 0

/-- The image of `n` pages is complete: its sequence number is IMG_SEQ + 1, written last (R355). -/
def State.keepSeal (s : State) (area n : Nat) : State :=
  let q := (s.get R.GST_KEEPSTAT F.GST_KEEPSTAT_IMG_SEQ + 1) % 2 ^ 32
  ((s.storeWord (NAND.keep area + 4) n 4).storeWord (NAND.keep area) q 4).wr R.GST_KEEPSTAT (1 + n * 2 + q * 2 ^ 32)

/-- The keep region is copied to NAND, its words as decoded (R111, R130, R435). -/
def State.keepSave (s : State) : State :=
  let n := s.keepCount
  let base := s.get R.GST_KEEP F.GST_KEEP_BASE_PAGE * 2 ^ 21
  let s := (s.errsIn base (n * 2 ^ 21)).foldl (fun s e =>
    let d := s.decoded e
    (s.eccEvent d (8 * e.1) s.scrubOrigin false).writeBack e d) s
  let area := s.keepTarget
  ((List.range (512 * n)).foldl (fun s b => s.keepBlock area b (s.bytes (MB.gst + base + 4096 * b) 4096)) s).keepSeal area n

/-- QUENCH_SAVE_DONE: the save ends and power is removed (R435). -/
def execQuenchSaveDone (s : State) : Host.Outcome State Fault Refusal :=
  .next (if s.rst.quench ≠ 3 then s
    else if s.keepCount = 0 then s.powerOff s.rst.trip
    else s.keepSave.powerOff s.rst.trip)

end Sys2Proof.Machine
end

