-- ==== Sys2Proof/Machine/Monitors.lean ====
section
/-!
DEFINITION. The monitor converter with its alarms and the thermal trip (R373 to R376), and the reads of TAL (R380, R381, R385).
-/
namespace Sys2Proof.Machine

/-- Kinds of monitor (R373). -/
def monTemp (i : Nat) : Bool := decide (i < 24)
def monVolt (i : Nat) : Bool := decide (24 ≤ i) && decide (i < 64)

/-- Monitors that a -48 part does not have (R373). -/
def State.monAbsent (s : State) (i : Nat) : Bool := s.half && [18, 19, 58, 59].contains i

/-- The order of readings: signed for temperature, unsigned otherwise (R373). -/
def monValue (i v : Nat) : Int := if monTemp i then signedOf v 16 else (v % 2 ^ 16 : Nat)

/-- The state of an alarm after a reading (R375). -/
def alarmNext (i : Nat) (b was : Bool) (v lim hyst : Nat) : Bool :=
  let x := monValue i v
  let l := monValue i lim
  let h : Int := (hyst : Nat)
  let (sets, clears) :=
    if monTemp i then (decide (l ≤ x), decide (x < l - h))
    else if b then (decide (l < x), decide (x ≤ l - h))
    else (decide (x < l), decide (l + h ≤ x))
  if was then !clears else sets

/-- Fault of an alarm (R375). -/
def alarmCode (i : Nat) (b : Bool) : Nat := if !monTemp i then FC.MON_VOLT else if b then FC.MON_TEMP_CRIT else FC.MON_TEMP_HI

/-- Alarm A or B of monitor `i` meets reading `v`: when it sets with its enable 1 it is reported, with event bit 39 (R375). -/
def State.alarm (s : State) (i v : Nat) (b : Bool) : State :=
  let r := R.MON_VAL i
  let t := R.MON_THR i
  let f := if b then F.MON_VAL_ALARM_B else F.MON_VAL_ALARM_A
  let was := s.bit r f
  let now := alarmNext i b was v (s.get t (if b then F.MON_THR_LIM_B else F.MON_THR_LIM_A)) (s.get t F.MON_THR_HYST)
  let s := s.put r f (bit01 now)
  if now && !was && s.bit t (if b then F.MON_THR_EN_B else F.MON_THR_EN_A) then
    (s.report (alarmCode i b) UK.monitor i 0 v 0).event 39
  else s

/-- Reading of a thermal trip: 125.0 °C (R376). -/
def tripLimit : Int := 0x03E8

/-- A second reading in a row at the trip limit sets the trip latch and starts the quench (R376). -/
def State.thermal (s : State) (i v : Nat) : State :=
  let above := monTemp i && decide (tripLimit ≤ monValue i v)
  let was := SMap.get s.pow.hot 0 i == 1
  let s := { s with pow := { s.pow with hot := SMap.set s.pow.hot 0 i (bit01 above) } }
  if above && was && s.rst.quench == 0 then { s with rst := { s.rst with trip := i + 1 } }.quenchStart else s

/-- MONITOR_CONVERSION: the converter takes the next monitor in turn (R374). -/
def execMonitorConversion (v : BitVec 16) (s : State) : Host.Outcome State Fault Refusal :=
  if !s.bit R.EMB_STATUS F.EMB_STATUS_XTAL_OK then .next s
  else
    let i := s.pow.next
    let s := { s with pow := { s.pow with next := (i + 1) % 80 } }
    let r := R.MON_VAL i
    let v := if s.monAbsent i then 0x8000 else v.toNat
    let peak := if monValue i (s.get r F.MON_VAL_PEAK) < monValue i v then v else s.get r F.MON_VAL_PEAK
    let low := if monValue i v < monValue i (s.get r F.MON_VAL_LOW) then v else s.get r F.MON_VAL_LOW
    let s := ((s.put r F.MON_VAL_VALUE v).put r F.MON_VAL_PEAK peak).put r F.MON_VAL_LOW low
    if s.monAbsent i || decide (64 ≤ i) then .next s
    else .next (((s.alarm i v false).alarm i v true).thermal i v)

/-- A write of MON_THR[i]: LIM_B of a temperature monitor stores at most 0x03C0 (R375). -/
def clampThr (i v : Nat) : Nat :=
  if monTemp i && decide (0x03C0 < signedOf (fieldOf v 16 16) 16) then putField v 16 16 0x03C0 else v

/-! ### Reads of TAL (R380, R381) -/

/-- The register of a counter. -/
def tallyReg : TallyRef → RegRef
  | .general i => R.TAL_CNT i.val
  | .port p k => R.TAL_PORT p.val k.val

/-- A register of the TAL and MON blocks, and what a task-level access of it needs beside GATE22 (R380). -/
def talBlock (a : Nat) : Bool := decide (0x2C00000 ≤ a) && decide (a < 0x3000000)
def State.taskMayRead (s : State) (a : Nat) : Bool :=
  if 0x2C40000 ≤ a ∧ a < 0x2C41000 then bitOf (s.rd R.TAL_UACC) ((a - 0x2C40000) / 64)
  else decide (0x2C50000 ≤ a) && decide (a < 0x2C50000 + 64 * 257) && s.bit R.TAL_CTL F.TAL_CTL_PORT_EN

/-- The gate in front of an offset of control space (R148). -/
def controlGate (a : Nat) : Nat := 20 + a / 2 ^ 24

/-- An access of control space under origin tag `o` by `who` passes its gate and the rule of R380; user privilege does not reach control
space (R148, R171). -/
def State.controlAllowed (s : State) (o who a len kind : Nat) : Bool × State :=
  let task := oEng o == 4 && oPriv o == 1
  if oEng o == 4 && oPriv o == 2 then (false, s)
  else
    let (ok, s) := s.gateArrive (controlGate a) a len kind o who
    (ok && (!task || !talBlock a || (kind == AK.read && s.taskMayRead a)), s)

/-- A write of the sample buffer's RD: ignored beyond WR (R385). -/
def State.writeSampleRd (s : State) (v : Nat) : State :=
  let ahead := (s.get R.TAL_SMPPTR F.TAL_SMPPTR_WR + 8192 - v % 8192) % 8192
  if 4096 < ahead then s.setBit R.TAL_STATUS F.TAL_STATUS_CFG_REFUSED else s.put R.TAL_SMPPTR F.TAL_SMPPTR_RD v

/-- SAMPLE_RD_WRITE (R385). -/
def execSampleRdWrite (v : BitVec 13) (s : State) : Host.Outcome State Fault Refusal := .next (s.writeSampleRd v.toNat)

end Sys2Proof.Machine
end

