-- ==== Sys2Proof/Machine/Clocks.lean ====
section
/-!
DEFINITION. Clocks and the ember domain (R387 to R398): locks, the beat, clock gating of tiles and Jack groups, the start of cores,
self-refresh by request, and the watchdog.
-/
namespace Sys2Proof.Machine

/-! ### Oscillator, PLL, reference (R387, R389, R390) -/

/-- XTAL_OK: the ember oscillator has run 65,536 stable cycles (R387). -/
def execXtalOk (s : State) : Host.Outcome State Fault Refusal := .next (s.setBit R.EMB_STATUS F.EMB_STATUS_XTAL_OK)

/-- PLL_LOCK: the core PLL locks after the strap read (R389). -/
def execPllLock (s : State) : Host.Outcome State Fault Refusal :=
  .next (if s.bit R.EMB_STATUS F.EMB_STATUS_XTAL_OK && s.get R.RST_STATUS F.RST_STATUS_LOAD_PHASE != 1 then
    s.setBit R.EMB_STATUS F.EMB_STATUS_PLL_LOCK else s)

/-- REFCLK_LOSS: every lane loses lock (R390). -/
def execRefclkLoss (s : State) : Host.Outcome State Fault Refusal :=
  .next ((List.range 576).foldl State.lockLoss (s.put R.EMB_STATUS F.EMB_STATUS_REFCLK_OK 0))

/-- REFCLK_LOCK: the lane PLLs are locked (R390). -/
def execRefclkLock (s : State) : Host.Outcome State Fault Refusal := .next (s.setBit R.EMB_STATUS F.EMB_STATUS_REFCLK_OK)

/-! ### The beat (R391, R397) -/

/-- What a kbeat brings: the watchdog counts down, except while Gaffer is in reset, and a waiting request is counted (R394, R397, R398). The
last step of the count is WATCHDOG_EXPIRY. -/
def State.kbeat (s : State) : State :=
  let s := if s.bit R.EMB_WDCFG F.EMB_WDCFG_EN && !s.gafInReset && decide (1 < s.get R.EMB_WDSTAT F.EMB_WDSTAT_REMAIN) then
      s.put R.EMB_WDSTAT F.EMB_WDSTAT_REMAIN (s.get R.EMB_WDSTAT F.EMB_WDSTAT_REMAIN - 1) else s
  if s.que.wakeJack.isSome then s.bump R.QUE_REQSTAT F.QUE_REQSTAT_LANE_WAIT 1 else s

/-- One beat passes: the beat counter rises once the PLL is locked, and tally class 0x00 counts it (R377, R391). -/
def State.beat (s : State) : State :=
  let s := { s with now := s.now + 1 }
  if s.bit R.EMB_STATUS F.EMB_STATUS_PLL_LOCK then
    let s := s.wr R.EMB_BEAT (s.rd R.EMB_BEAT + 1)
    let s := s.tally (ev 0x00 1 none none 0)
    if s.rd R.EMB_BEAT % 1024 = 0 then s.kbeat else s
  else s

/-! ### Tiles (R393) -/

/-- The port controller lets its tile rest. -/
def State.portRests (s : State) (p : Nat) : Bool :=
  let st := s.linkState p
  let link := !s.portUsed p || !s.bit (R.PRT_CTL p) F.PRT_CTL_ENABLE ||
    (if s.caneMode p then st == CN.RESET || st == CN.DOWN else st == 0x06 || st == LS.DISABLED)
  link && (List.range 8).all (fun c => (s.coq (coqOfPort p c)).isEmpty && (s.staged p c).isEmpty) && !s.cru.holds.any (fun h => h.port == p)

/-- TILE_RUN of a tile takes a value. -/
def State.setTile (s : State) (k : Nat) (v : Bool) : State :=
  let r := s.get R.EMB_CLKSTAT F.EMB_CLKSTAT_TILE_RUN
  s.put R.EMB_CLKSTAT F.EMB_CLKSTAT_TILE_RUN (putField r k 1 (bit01 v))

/-- TILE_GATE: the tile has been idle for TILE_IDLE. -/
def execTileGate (k : Fin 16) (s : State) : Host.Outcome State Fault Refusal :=
  let k := k.val
  let may := s.bit R.EMB_CLKPOL F.EMB_CLKPOL_TILE_AUTO && !bitOf (s.get R.EMB_CLKFORCE F.EMB_CLKFORCE_TILE_ON) k &&
    (List.range 16).all (fun i => s.portRests (16 * k + i))
  .next (if may then s.setTile k false else s)

/-- A gated tile runs again (R392). -/
def State.tileWake (s : State) (k : Nat) : State :=
  if bitOf (s.get R.EMB_CLKSTAT F.EMB_CLKSTAT_TILE_RUN) k then s
  else (s.setTile k true).bump R.EMB_CLKSTAT F.EMB_CLKSTAT_TILE_WAKES 1

/-- TILE_WAKE: 64 beats after a wake source. -/
def execTileWake (k : Fin 16) (s : State) : Host.Outcome State Fault Refusal := .next (s.tileWake k.val)

/-! ### Jack groups (R394) -/

/-- Groups that never gate. -/
def State.jackKept (s : State) (g : Nat) : Bool :=
  !s.bit R.EMB_CLKPOL F.EMB_CLKPOL_JACK_AUTO || decide (g < min 8 (s.get R.EMB_CLKPOL F.EMB_CLKPOL_JACK_MIN)) ||
    bitOf (s.get R.EMB_CLKFORCE F.EMB_CLKFORCE_JACK_ON) g

def State.jackRuns (s : State) (g : Nat) : Bool := bitOf (s.get R.EMB_CLKSTAT F.EMB_CLKSTAT_JACK_RUN) g
def State.setJack (s : State) (g : Nat) (v : Bool) : State :=
  s.put R.EMB_CLKSTAT F.EMB_CLKSTAT_JACK_RUN (putField (s.get R.EMB_CLKSTAT F.EMB_CLKSTAT_JACK_RUN) g 1 (bit01 v))

/-- JACK_GROUP_GATE: the group has received no request for JACK_IDLE; a lane that still works keeps it running. -/
def execJackGroupGate (g : Fin 8) (s : State) : Host.Outcome State Fault Refusal :=
  .next (if s.jackKept g.val || s.que.jack.any (fun r => r.lane / 32 == g.val) then s else s.setJack g.val false)

/-- JACK_GROUP_WAKE: the lowest gated group that must run, or the lowest gated group when a request waits, runs and takes the request. -/
def execJackGroupWake (s : State) : Host.Outcome State Fault Refusal :=
  let gated := (List.range 8).filter (fun g => !s.jackRuns g)
  let pick := match gated.find? s.jackKept with
    | some g => some g
    | none => if s.que.wakeJack.isSome then gated.head? else none
  let s := match pick with
    | some g => (s.setJack g true).bump R.EMB_CLKSTAT F.EMB_CLKSTAT_JACK_WAKES 1
    | none => s
  .next (match s.que.wakeJack with
    | some q => { s with que := { s.que with wakeJack := none } }.dispatch q
    | none => s)

/-! ### Cores (R184, R201, R213, R214, R395) -/

/-- CORE_START: a woken core issues its first instruction: at syllable 0 when it has not run since the last reset, at syllable 1 after a swap,
else after the WAIT that stopped it, which returns 0. A spare starts as its takeover says. -/
def execCoreStart (c : Fin 32) (s : State) : Host.Outcome State Fault Refusal :=
  let x := s.core c.val
  match x.run with
  | .starting rd =>
    .next (s.setCore c.val (
      if !x.ran then { x with run := .running, ran := true, switched := false, pc := 0 }
      else if x.switched then { x with run := .running, switched := false, pc := 1 }
      else { x.wg rd 0 with run := .running }))
  | .taking => .next (s.spareStart c.val)
  | _ => .next s

/-! ### Self-refresh by request (R392, GST_CTL) -/

/-- SELF_REFRESH_ENTRY: SR_REQ is set and no request is in flight. -/
def execSelfRefreshEntry (s : State) : Host.Outcome State Fault Refusal :=
  .next (if s.bit R.GST_CTL F.GST_CTL_SR_REQ && s.gst.copying.isEmpty then s.setBit R.GST_STATUS F.GST_STATUS_SELFREF else s)

/-- SELF_REFRESH_EXIT: SR_REQ is clear again, and no reset holds the DRAM in self-refresh (R129). -/
def execSelfRefreshExit (s : State) : Host.Outcome State Fault Refusal :=
  .next (if s.bit R.GST_CTL F.GST_CTL_SR_REQ || bitOf (s.get R.RST_DOMAIN F.RST_DOMAIN_IN_RESET) 3 then s
    else s.put R.GST_STATUS F.GST_STATUS_SELFREF 0)

/-! ### Watchdog (R397, R398) -/

/-- PERIOD, where 0 acts as 1. -/
def State.wdPeriod (s : State) : Nat := max 1 (s.get R.EMB_WDCFG F.EMB_WDCFG_PERIOD)
def State.wdLoad (s : State) : State := s.put R.EMB_WDSTAT F.EMB_WDSTAT_REMAIN s.wdPeriod

/-- A write of EMB_WDKICK. -/
def State.wdKick (s : State) (key : Nat) : State :=
  if key = 0xA5C3 then s.wdLoad else s.bump R.EMB_WDSTAT F.EMB_WDSTAT_BADKICK 1

/-- WATCHDOG_KICK (R397). -/
def execWatchdogKick (key : BitVec 16) (s : State) : Host.Outcome State Fault Refusal := .next (s.wdKick key.toNat)

/-- WATCHDOG_EXPIRY: REMAIN reaches 0 (R397). -/
def execWatchdogExpiry (s : State) : Host.Outcome State Fault Refusal :=
  if !s.bit R.EMB_WDCFG F.EMB_WDCFG_EN || s.gafInReset then .next s
  else
    let s := (s.put R.EMB_WDSTAT F.EMB_WDSTAT_REMAIN 0).bump R.EMB_WDSTAT F.EMB_WDSTAT_EXPIRIES 1
    .next (s.warmSource RC.WATCHDOG)

/-- A write of EMB_WDCFG: with LOCK set, EN and PERIOD stay and CFG_REFUSED sets; setting EN loads REMAIN (R397). -/
def State.writeWdcfg (s : State) (v : Nat) : State :=
  let r := R.EMB_WDCFG
  let lock := max (s.get r F.EMB_WDCFG_LOCK) (fieldOf v 1 1)
  if s.bit r F.EMB_WDCFG_LOCK then s.setBit R.EMB_STATUS F.EMB_STATUS_CFG_REFUSED
  else
    let was := s.bit r F.EMB_WDCFG_EN
    let s := ((s.put r F.EMB_WDCFG_EN v).put r F.EMB_WDCFG_PERIOD (fieldOf v 8 24)).put r F.EMB_WDCFG_LOCK lock
    if !was && fieldOf v 0 1 == 1 then s.wdLoad else s

end Sys2Proof.Machine
end

