-- ==== Sys2Proof/Machine/Commands.lean ====
section
/-!
DEFINITION. Long commands (R346 to R356): what ISSUE checks, the resources a command holds, its start, its units of work, and suspension
and cancellation. `Job.aux` keeps what a command fixed when it started: the image length, the bank, the keep area and pages, or the pool
map entries it has cleared.
-/
namespace Sys2Proof.Machine

/-! ### Results -/

def State.progress (s : State) (k : Nat) : Nat := s.get (R.CMD_RESA k) F.CMD_RESA_PROGRESS
def State.setProgress (s : State) (k n : Nat) : State := s.put (R.CMD_RESA k) F.CMD_RESA_PROGRESS n
def State.total (s : State) (k : Nat) : Nat := s.get (R.CMD_RESB k) F.CMD_RESB_TOTAL
def State.setTotal (s : State) (k n : Nat) : State := s.put (R.CMD_RESB k) F.CMD_RESB_TOTAL n
def State.addErrors (s : State) (k n : Nat) : State := s.bump (R.CMD_RESB k) F.CMD_RESB_ERRORS n

/-- ADDR takes the first failing address (R356). -/
def State.firstAddr (s : State) (k a : Nat) (errors : Nat) : State :=
  if errors = 0 then s.put (R.CMD_RESC k) F.CMD_RESC_ADDR a else s

def State.jobD (s : State) (k : Nat) : Job := (s.job k).getD ⟨0, false, 0, 0, false, false, 0⟩
def State.setAux (s : State) (k aux : Nat) : State := s.setJob k (some { s.jobD k with aux := aux, started := true })

/-- Arguments by their names in R354. -/
def State.argGsa (s : State) (k i : Nat) : Nat := s.cmdArg k i 0 37
def State.argPage (s : State) (k : Nat) : Nat := s.cmdArg k 0 0 16
def State.argPages (s : State) (k : Nat) : Nat := s.cmdArg k 1 0 16
def State.moveSrc (s : State) (k : Nat) : Nat := s.cmdArg k 0 0 13
def State.moveDst (s : State) (k : Nat) : Nat := s.cmdArg k 0 16 13
def State.moveKind (s : State) (k : Nat) : Nat := s.cmdArg k 0 32 2

/-- Origin tag of the command engine working for slot `k` (R23): ENG 0x5, with the partition and function of the issuer. -/
def State.engine (s : State) (k : Nat) : Nat := mkOrigin s.fid (oPt (s.jobD k).issuer) (oFn (s.jobD k).issuer) 5 0

/-! ### Accesses of the command engine (R113, R127, R356) -/

/-- How an access of the engine ends: it waits, it ends its command with a status and an address, or it is done. -/
inductive EngRes where
  | wait
  | fail (status addr : Nat)
  | ok
  deriving DecidableEq, Repr

/-- GST_LOCKED of a command that a host issued names the issuing function (R358). -/
def State.engineReports (s : State) (k : Nat) : State :=
  let o := s.engine k
  if oEng (s.jobD k).issuer = 0 ∧ oFn o ≠ noFn then
    { s with reports := s.reports.map (fun r => if r.code = FC.GST_LOCKED ∧ r.origin = o then { r with kind := UK.function, index := oFn o } else r) }
  else s

/-- The engine at work for slot `k`, as gates and sequences know it. -/
def engWho (k : Nat) : Nat := 300 + k

/-- Gates and region locks let the engine read, and with `write` also write, `n` bytes at `a` (R127, R156, R160). An unmapped page is refused
(R113). -/
def State.engGate (s : State) (k : Nat) (write : Bool) (a n : Nat) : EngRes × State :=
  let o := s.engine k
  let g := s.gateOfGst a
  if !s.gstMapped a then (.fail CST.DATA_ERR a, s)
  else
    let (r, s) := s.gateArrive g a n AK.read o (engWho k)
    let (w, s) := if r && write then s.gateArrive g a n AK.write o (engWho k) else (true, s)
    if !(r && w) then (.fail CST.DENIED a, s)
    else
      let s := s.gateBind g a n AK.read o (engWho k)
      let s := if write then s.gateBind g a n AK.write o (engWho k) else s
      if s.gstBusy a n (engWho k) then (.wait, s)
      else match (if write then s.lockAgainst a n o else none) with
        | some i => (.fail CST.DENIED a, (s.reportLocked i a o).engineReports k)
        | none => (.ok, s)

/-- Pieces that are let through, from the first on, and how the next one ends. -/
def State.engGates (s : State) (k : Nat) (write : Bool) : List (Nat × Nat) → Nat × EngRes × State
  | [] => (0, .ok, s)
  | p :: t => match s.engGate k write p.1 p.2 with
    | (.ok, s) =>
      let (i, r, s) := s.engGates k write t
      (i + 1, r, s)
    | (r, s) => (0, r, s)

/-- The words of the pieces as read: the first unusable one ends the command with DATA_ERR (R112, R356). -/
def State.engData (s : State) (k : Nat) : List (Nat × Nat) → EngRes × State
  | [] => (.ok, s)
  | (a, n) :: t =>
    let bad := ((s.errsIn a n).find? (fun e => !(s.decoded e).ok)).map (fun e => 8 * e.1)
    match s.gstRead a n (s.engine k) with
    | (_, true, s) => s.engData k t
    | (_, false, s) => (.fail CST.DATA_ERR (bad.getD a), s)

/-- The engine's accesses to a list of pieces, `use` of those let through included: they wait while the controller does not serve (R113) and
for their turn (R120), and the first that does not end well decides. -/
def State.engAccess (s : State) (k : Nat) (write : Bool) (ps : List (Nat × Nat)) (use : List (Nat × Nat) → State → EngRes × State) :
    EngRes × State :=
  if !s.gstServes then (.wait, s)
  else
    let (i, r, s) := s.engGates k write ps
    if r = .wait then (.wait, s)
    else match s.gstTurn (some GC.C) (engWho k) (ps.take i) with
      | none => (.wait, s)
      | some t => match use (ps.take i) (t.gateDone (engWho k)) with
        | (.ok, t) => (r, t)
        | u => u

/-- The engine reads a list of pieces. -/
def State.engReads (s : State) (k : Nat) (ps : List (Nat × Nat)) : EngRes × State := s.engAccess k false ps (fun ps s => s.engData k ps)

/-- `n` bytes at `a` in pieces that do not cross a multiple of 4 KiB. -/
def blocks (a n : Nat) : List (Nat × Nat) := cutPieces (n / 4096 + 2) a n 4096

/-- The engine may work on `n` bytes at `a` of one page, reading and, with `write`, writing them. -/
def State.engOpen (s : State) (k a n : Nat) (write : Bool) : EngRes × State := s.engAccess k write [(a, n)] (fun _ s => (.ok, s))

/-! ### Checks of ISSUE (R354, R355) -/

/-- Pages of ranges that MEMTEST must not touch: payload buffer, flow area, keep region, gather-store tables of either bank. -/
def State.busyPages (s : State) : List (Nat × Nat) :=
  let table (current : Bool) (t : Nat) : List (Nat × Nat) :=
    let d := s.tbl current t
    if d.type ≠ 0 ∧ d.place = 1 then [(d.base, ceilDiv (2 * d.footprint) (2 ^ 21))] else []
  [(s.get R.QUE_PBUF F.QUE_PBUF_BASE_PAGE, s.get R.QUE_PBUF F.QUE_PBUF_PAGES),
   (s.get R.POL_FLOWBASE F.POL_FLOWBASE_BASE_PAGE, if s.bit R.POL_CTL F.POL_CTL_ENABLE then ceilDiv (64 * s.flowCount) (2 ^ 21) else 0),
   (s.get R.GST_KEEP F.GST_KEEP_BASE_PAGE, s.keepCount)] ++
  (List.range 256).flatMap (fun t => table true t ++ table false t)

/-- Pages that valid pool map entries name. -/
def State.mappedPages (s : State) : List Nat :=
  s.regs.filterMap (fun e =>
    if (R.GST_POOLMAP 0).addr ≤ e.1 ∧ e.1 < (R.GST_POOLMAP 65536).addr then
      let i := (e.1 - (R.GST_POOLMAP 0).addr) / 8
      if s.bit (R.GST_POOLMAP i) F.GST_POOLMAP_VALID then some (s.get (R.GST_POOLMAP i) F.GST_POOLMAP_PAGE) else none
    else none)

/-- The page ranges share a page. -/
def pagesMeet (a n b m : Nat) : Bool := decide (a < b + m) && decide (b < a + n)

/-- A page is under a MEMTEST that has been issued and has not ended (R355). -/
def State.underTest (s : State) (page : Nat) : Bool :=
  (List.range 16).any (fun k => s.slotOpc k == OPC.MEMTEST && decide (CS.QUEUED ≤ s.slotState k) && decide (s.slotState k ≤ CS.CANCELLING) &&
    decide (s.argPage k ≤ page) && decide (page < s.argPage k + s.argPages k))

/-- Queues of a queue set. -/
def setQueues (n : Nat) : List Nat := (List.range 16).map (· + 16 * n)

/-- The target of a pool MOVE has room: R121 holds and no target entry is valid. -/
def State.poolRoom (s : State) (k : Nat) : Bool :=
  let d := R.GST_FNPOOL (s.moveDst k)
  let top := s.get d F.GST_FNPOOL_MAP_BASE + s.get d F.GST_FNPOOL_PAGES
  let n := s.argPages k
  decide (top + n ≤ 65536) && decide (s.get d F.GST_FNPOOL_PAGES + n ≤ 32768) &&
    (List.range n).all (fun i => !s.bit (R.GST_POOLMAP (top + i)) F.GST_POOLMAP_VALID)

/-- The arguments of the command in slot `k` pass. -/
def State.argsOk (s : State) (k opc : Nat) : Bool :=
  if opc = OPC.FW_UPDATE then s.gstMapped (s.argGsa k 0)
  else if opc = OPC.IMG_SWAP then
    s.cmdArg k 0 0 2 != 3 && !s.bit R.GAF_STATUS F.GAF_STATUS_SWAP_BUSY && (s.cmdArg k 0 0 2 != 2 || s.gstMapped (s.argGsa k 1))
  else if opc = OPC.SCRUB then decide (s.argPage k + s.argPages k ≤ s.gstPages)
  else if opc = OPC.MOVE then
    decide (s.moveSrc k ≤ 4096) && decide (s.moveDst k ≤ 4096) &&
    (match s.moveKind k with
     | 0 => decide (s.argPages k < 4096) && (setQueues (s.argPages k)).all (fun q => s.get (R.QCTX q 0) F.QCTX_OWNER_FN == s.moveSrc k)
     | 1 => decide (s.argPages k ≤ s.get (R.GST_FNPOOL (s.moveSrc k)) F.GST_FNPOOL_PAGES) && s.poolRoom k
     | 2 => decide (s.argPages k < 18432) && s.get (R.QEP_NODEOWN (s.argPages k)) F.QEP_NODEOWN_OWNER_FN == s.moveSrc k
     | _ => false)
  else if opc = OPC.RETRIM then true
  else if opc = OPC.MEMTEST then
    decide (s.argPage k + s.argPages k ≤ s.gstPages) &&
      !s.busyPages.any (fun r => pagesMeet (s.argPage k) (s.argPages k) r.1 r.2) &&
      !s.mappedPages.any (fun p => pagesMeet (s.argPage k) (s.argPages k) p 1)
  else if opc = OPC.KEEP_SAVE then s.keepCount != 0
  else false

/-- ISSUE, accepted from the holder of a RESERVED slot (R347, R349, R350, R354). -/
def State.slotIssue (s : State) (o k gen opc : Nat) (notify : Bool) (vec : Nat) : State :=
  if s.get (R.CMD_SLOT k) F.CMD_SLOT_GEN ≠ gen ∨ !s.holdsSlot k o ∨ s.slotState k ≠ CS.RESERVED then s.cmdBad
  else
    let s := (s.renewSlot k o).put (R.CMD_SLOT k) F.CMD_SLOT_OPC opc
    let s := s.setJob k (some ⟨o, notify, vec, s.cmd.nextOrder, false, false, 0⟩)
    let s := { s with cmd := { s.cmd with nextOrder := s.cmd.nextOrder + 1 } }
    if s.argsOk k opc then s.setSlot k CS.QUEUED else s.slotEnd k CS.FAILED CST.BADARG

/-- ISSUE of FW_UPDATE. -/
def execFwUpdate (o : Origin) (k : Fin 16) (gen : BitVec 12) (notify : Bool) (vec : BitVec 11) (s : State) : Host.Outcome State Fault Refusal :=
  .next (s.slotIssue o.toNat k.val gen.toNat OPC.FW_UPDATE notify vec.toNat)

/-- ISSUE of IMG_SWAP. -/
def execImgSwap (o : Origin) (k : Fin 16) (gen : BitVec 12) (notify : Bool) (vec : BitVec 11) (s : State) : Host.Outcome State Fault Refusal :=
  .next (s.slotIssue o.toNat k.val gen.toNat OPC.IMG_SWAP notify vec.toNat)

/-- ISSUE of SCRUB. -/
def execScrub (o : Origin) (k : Fin 16) (gen : BitVec 12) (notify : Bool) (vec : BitVec 11) (s : State) : Host.Outcome State Fault Refusal :=
  .next (s.slotIssue o.toNat k.val gen.toNat OPC.SCRUB notify vec.toNat)

/-- ISSUE of MOVE. -/
def execMove (o : Origin) (k : Fin 16) (gen : BitVec 12) (notify : Bool) (vec : BitVec 11) (s : State) : Host.Outcome State Fault Refusal :=
  .next (s.slotIssue o.toNat k.val gen.toNat OPC.MOVE notify vec.toNat)

/-- ISSUE of RETRIM. -/
def execRetrim (o : Origin) (k : Fin 16) (gen : BitVec 12) (notify : Bool) (vec : BitVec 11) (s : State) : Host.Outcome State Fault Refusal :=
  .next (s.slotIssue o.toNat k.val gen.toNat OPC.RETRIM notify vec.toNat)

/-- ISSUE of MEMTEST. -/
def execMemtest (o : Origin) (k : Fin 16) (gen : BitVec 12) (notify : Bool) (vec : BitVec 11) (s : State) : Host.Outcome State Fault Refusal :=
  .next (s.slotIssue o.toNat k.val gen.toNat OPC.MEMTEST notify vec.toNat)

/-- ISSUE of KEEP_SAVE. -/
def execKeepSave (o : Origin) (k : Fin 16) (gen : BitVec 12) (notify : Bool) (vec : BitVec 11) (s : State) : Host.Outcome State Fault Refusal :=
  .next (s.slotIssue o.toNat k.val gen.toNat OPC.KEEP_SAVE notify vec.toNat)

/-! ### Resources (R352) -/

/-- A resource of R352. -/
inductive Res where
  | nand | bank | keep
  | octet (n : Nat)
  | queueSet (n : Nat)
  | poolRange (f : Nat)
  | node (n : Nat)
  deriving DecidableEq, Repr

/-- Octet of a RETRIM. -/
def State.trimOctet (s : State) (k : Nat) : Nat := s.cmdArg k 0 0 6
def State.trimLane (s : State) (k : Nat) : Nat := s.cmdArg k 0 8 3

/-- Resources the command in slot `k` needs. -/
def State.needs (s : State) (k : Nat) : List Res :=
  let opc := s.slotOpc k
  if opc = OPC.FW_UPDATE then [.nand]
  else if opc = OPC.IMG_SWAP then if s.cmdArg k 0 0 2 = 2 then [.bank] else [.bank, .nand]
  else if opc = OPC.MOVE then
    (match s.moveKind k with
     | 0 => [.queueSet (s.argPages k)]
     | 1 => [.poolRange (s.moveSrc k), .poolRange (s.moveDst k)]
     | _ => [.node (s.argPages k)])
  else if opc = OPC.RETRIM then [.octet (s.trimOctet k)]
  else if opc = OPC.KEEP_SAVE then [.nand, .keep]
  else []

/-- Resources the command in slot `k` holds: a SUSPENDED one has released NAND and octets; a resumed one keeps the rest. -/
def State.holds (s : State) (k : Nat) : List Res :=
  let st := s.slotState k
  if st = CS.RUNNING ∨ st = CS.SUSPENDING ∨ st = CS.CANCELLING then s.needs k
  else if (st = CS.SUSPENDED ∨ st = CS.QUEUED) ∧ (s.jobD k).started then
    (s.needs k).filter (fun r => match r with
      | .nand => false
      | .octet _ => false
      | _ => true)
  else []

/-- Another command holds a resource that slot `k` needs, or was issued earlier and waits for one. -/
def State.blocked (s : State) (k : Nat) : Bool :=
  let mine := s.needs k
  (List.range 16).any (fun j => j != k &&
    ((s.holds j).any mine.contains ||
      (s.slotState j == CS.QUEUED && decide ((s.jobD j).order < (s.jobD k).order) && (s.needs j).any mine.contains)))

/-! ### Ends -/

/-- What a command leaves behind when it ends before its time: a MOVE gives back, a KEEP_SAVE drops its snapshot, a RETRIM writes
ABORT (R355). -/
def State.slotDrop (s : State) (k : Nat) : State :=
  let opc := s.slotOpc k
  if !(s.jobD k).started then s
  else if opc = OPC.MOVE then s.moveUndo k
  else if opc = OPC.KEEP_SAVE then
    s.snapDrop.put R.GST_STATUS F.GST_STATUS_KEEP_BUSY 0
  else if opc = OPC.RETRIM then
    (if s.retrimRuns (s.trimOctet k) then s.endRetrim (s.trimOctet k) RT.ABORTED else s)
  else s

/-- DETAIL of a RETRIM holds the final state of its run. -/
def State.trimDetail (s : State) (k : Nat) : State :=
  if s.slotOpc k = OPC.RETRIM ∧ (s.jobD k).started then s.put (R.CMD_RESA k) F.CMD_RESA_DETAIL (s.retrim (s.trimOctet k)) else s

def State.slotFail (s : State) (k status addr : Nat) : State :=
  ((((s.slotDrop k).gateDone (engWho k)).put (R.CMD_RESC k) F.CMD_RESC_ADDR addr).trimDetail k).slotEnd k CS.FAILED status
def State.slotCancelled (s : State) (k : Nat) : State := (((s.slotDrop k).gateDone (engWho k)).trimDetail k).slotEnd k CS.CANCELLED CST.CANCELLED
def State.slotDone (s : State) (k : Nat) : State := s.slotEnd k CS.DONE CST.OK

/-- A unit is done and a safe point is reached (R350, R354). -/
def State.safePoint (s : State) (k : Nat) : State :=
  let s := s.setProgress k (s.progress k + 1)
  let st := s.slotState k
  if st = CS.CANCELLING then s.slotCancelled k
  else if s.total k ≤ s.progress k then s.slotDone k
  else if st = CS.SUSPENDING then s.setSlot k CS.SUSPENDED
  else s

/-! ### FW_UPDATE and IMG_SWAP (R200, R355) -/

/-- Bytes of an image of LENGTH `n`, with its header, and its 4 KiB units. -/
def imageBytes (n : Nat) : Nat := 32 + 5 * n
def imageUnits (n : Nat) : Nat := ceilDiv (imageBytes n) 4096

/-- The header at `a` is one of an image: MAGIC, FORMAT, LENGTH. -/
def State.headerOk (s : State) (a : Nat) : Bool :=
  s.word a 2 == 0x6A5F && s.word (a + 2) 2 == 1 && decide (1 ≤ s.word (a + 8) 4) && decide (s.word (a + 8) 4 ≤ gafSyllables)

/-- FW_UPDATE starts: the staged image is read and checked; the target's header is erased, so that it fails its check until DONE. -/
def State.fwBegin (s : State) (k : Nat) : Bool × State :=
  let a := s.argGsa k 0
  match s.engReads k (blocks a (if s.headerOk (MB.gst + a) then imageBytes (s.word (MB.gst + a + 8) 4) else 32)) with
  | (.wait, s) => (false, s)
  | (.fail st x, s) => (true, s.slotFail k st x)
  | (.ok, s) =>
    if !s.headerOk (MB.gst + a) || !s.imageOk (MB.gst + a) then (true, s.slotFail k CST.BADIMG 0)
    else
      let n := s.word (MB.gst + a + 8) 4
      let s := s.store (NAND.image (s.cmdArg k 1 0 1)) (List.replicate 4096 255)
      (true, (s.setTotal k (imageUnits n)).setAux k n)

/-- Length of unit `b` of an image. -/
def unitLen (n b : Nat) : Nat := min 4096 (imageBytes n - 4096 * b)

/-- One unit of FW_UPDATE: the blocks after the header's in order, then the header's. -/
def State.fwUnit (s : State) (k : Nat) (nandFail : Bool) : State :=
  let n := (s.jobD k).aux
  let p := s.progress k
  let b := if p + 1 < s.total k then p + 1 else 0
  let a := s.argGsa k 0 + 4096 * b
  let target := NAND.image (s.cmdArg k 1 0 1) + 4096 * b
  match s.engReads k (blocks a (unitLen n b)) with
  | (.wait, s) => s
  | (.fail st x, s) => s.slotFail k st x
  | (.ok, s) =>
    if nandFail then
      let s := { s.store target (freeBytes s.freeCtr (unitLen n b)) with freeCtr := s.freeCtr + unitLen n b }
      s.slotFail k CST.NAND_ERR (target - MB.nand)
    else (s.store target (s.bytes (MB.gst + a) (unitLen n b))).safePoint k

/-- Where IMG_SWAP reads its image. -/
def State.swapSource (s : State) (k : Nat) : Nat := if s.cmdArg k 0 0 2 = 2 then MB.gst + s.argGsa k 1 else NAND.image (s.cmdArg k 0 0 2)

/-- The engine reads `n` bytes at offset `off` of the image; reads of NAND do not pass a gate. -/
def State.swapRead (s : State) (k off n : Nat) : EngRes × State :=
  if s.cmdArg k 0 0 2 = 2 then s.engReads k (blocks (s.argGsa k 1 + off) n) else (.ok, s)

/-- A Gaffer program bank is active or the target of a pending swap, so that it takes no write (R213). -/
def State.bankInUse (s : State) (bank : Nat) : Bool :=
  s.bit R.GAF_STATUS F.GAF_STATUS_SWAP_BUSY || s.get R.GAF_STATUS F.GAF_STATUS_ACTIVE_BANK == bank

/-- GAF_CORECMD SWAP to the loaded bank; the step is indivisible until SWAP_BUSY clears (R213). A refused swap ends the command. -/
def State.swapGo (s : State) (k : Nat) : State :=
  let bank := (s.jobD k).aux / 2 ^ 32
  if s.bankInUse bank then
    (s.setBit R.GAF_STATUS F.GAF_STATUS_CFG_REFUSED).slotFail k CST.NOT_READY 0
  else (s.firmwareSwap (bank == 1)).setJob k (some { s.jobD k with indivisible := true })

/-- IMG_SWAP starts: the header gives the number of units; a command resumed before its swap starts the swap. -/
def State.swapBegin (s : State) (k : Nat) : Bool × State :=
  match s.swapRead k 0 32 with
  | (.wait, s) => (false, s)
  | (.fail st x, s) => (true, s.slotFail k st x)
  | (.ok, s) =>
    let a := s.swapSource k
    if !s.headerOk a then (true, s.slotFail k CST.BADIMG 0)
    else
      let n := s.word (a + 8) 4
      (true, (s.setTotal k (imageUnits n + 1)).setAux k (n + (1 - s.get R.GAF_STATUS F.GAF_STATUS_ACTIVE_BANK) * 2 ^ 32))

/-- One unit of IMG_SWAP: 4 KiB of the image loaded into the bank fixed at its start, or refused where that bank is in use by now; after the last the CRC is checked and the swap starts; the swap itself
ends when SWAP_BUSY clears. -/
def State.swapUnit (s : State) (k : Nat) : State :=
  let n := (s.jobD k).aux % 2 ^ 32
  let bank := (s.jobD k).aux / 2 ^ 32
  let p := s.progress k
  if imageUnits n ≤ p then (if s.bit R.GAF_STATUS F.GAF_STATUS_SWAP_BUSY then s else s.safePoint k)
  else
    match s.swapRead k (4096 * p) (unitLen n p) with
    | (.wait, s) => s
    | (.fail st x, s) => s.slotFail k st x
    | (.ok, s) =>
      let a := s.swapSource k
      let skip := if p = 0 then 32 else 0
      let s := if s.bankInUse bank then s.setBit R.GAF_STATUS F.GAF_STATUS_CFG_REFUSED
        else s.store (MB.gprog bank + (4096 * p + skip - 32)) (s.bytes (a + 4096 * p + skip) (unitLen n p - skip))
      if p + 1 < imageUnits n then s.safePoint k
      else if crc32 (s.bytes (MB.gprog bank) (5 * n)) ≠ s.word (a + 12) 4 then s.slotFail k CST.BADIMG 0
      else
        let s := s.safePoint k
        if s.slotState k = CS.RUNNING then s.swapGo k else s

/-! ### SCRUB and MEMTEST (R115, R355) -/

/-- One gob of SCRUB: each word as patrol scrub treats it; the words that are not clean count (R115, R355, R356). -/
def State.scrubUnit (s : State) (k : Nat) : State :=
  let a := s.argPage k * 2 ^ 21 + 256 * s.progress k
  let es := (s.errsIn a 256).filter (fun e => s.decoded e != .clean)
  match s.engOpen k a 256 (!es.isEmpty) with
  | (.wait, s) => s
  | (.fail st x, s) => s.slotFail k st x
  | (.ok, s) =>
    let s := s.gstBurst a 256 (s.engine k)
    let before := s.get (R.CMD_RESB k) F.CMD_RESB_ERRORS
    let s := match es with
      | e :: _ => s.firstAddr k (8 * e.1) before
      | [] => s
    ((es.foldl State.scrubWord s).addErrors k es.length).safePoint k

/-- One page of MEMTEST: four patterns are written and read back and the page is left zero, with valid check bits; the words that fail are
given, by word number. -/
def State.memtestUnit (s : State) (k : Nat) (bad : List Nat) : State :=
  let page := s.argPage k + s.progress k
  let a := page * 2 ^ 21
  match s.engOpen k a (2 ^ 21) true with
  | (.wait, s) => s
  | (.fail st x, s) => s.slotFail k st x
  | (.ok, s) =>
    let bad := bad.filter (fun w => w / 2 ^ 18 == page)
    let s := (List.range 9).foldl (fun (t : State) _ => t.gstBurst a (2 ^ 21) (t.engine k)) s
    let before := s.get (R.CMD_RESB k) F.CMD_RESB_ERRORS
    let s := { s with mem := SMap.keep s.mem (fun x => !(decide (MB.gst + a ≤ x) && decide (x < MB.gst + a + 2 ^ 21)))
                      err := SMap.keep s.err (fun w => w / 2 ^ 18 != page) }
    let s := match bad with
      | w :: _ => s.firstAddr k (8 * w) before
      | [] => s
    let s := s.addErrors k bad.length
    let s := if s.cmdArg k 2 0 1 = 1 then bad.foldl (fun s w => s.retireBlock (w / 512)) s else s
    s.safePoint k

/-! ### MOVE (R84, R257, R258) -/

/-- A pool MOVE clears VALID of its source entries when it starts. -/
def State.moveBegin (s : State) (k : Nat) : State :=
  let s := s.setTotal k 2
  if s.moveKind k = 1 then
    let es := (s.moveEntries k).zipIdx
    let mask := es.foldl (fun m e => if s.bit (R.GST_POOLMAP e.1) F.GST_POOLMAP_VALID then m + 2 ^ e.2 else m) 0
    (es.foldl (fun s e => s.put (R.GST_POOLMAP e.1) F.GST_POOLMAP_VALID 0) s).setAux k mask
  else s.setAux k 0

/-- The resource is ready (R84, R257). Queues locked by another master are not. -/
def State.moveReady (s : State) (k : Nat) : Bool :=
  match s.moveKind k with
  | 0 => (setQueues (s.argPages k)).all (fun q => (s.qstate q == QS.DRAINED || s.qstate q == QS.DISABLED) && match s.qlock q with
      | none => true
      | some l => l.holder == s.engine k)
  | 1 => true
  | _ => !s.nodeActive (s.argPages k) && s.getAct (R.SCH_NODECFG (s.argPages k)) F.SCH_NODECFG_EN == 0

/-- The engine's locks on the queues of a set, and their release. -/
def State.moveLock (s : State) (k : Nat) (on : Bool) : State :=
  if s.moveKind k = 0 then
    (setQueues (s.argPages k)).foldl (fun s q => s.setQlock q (if on then some ⟨s.engine k, 65535, false⟩ else none)) s
  else s

/-- The move itself. -/
def State.moveGo (s : State) (k : Nat) : State :=
  let dst := s.moveDst k
  match s.moveKind k with
  | 0 =>
    let s := (setQueues (s.argPages k)).foldl (fun s q =>
      let s := ((s.put (R.QCTX q 0) F.QCTX_OWNER_PT (s.fnHome dst)).put (R.QCTX q 0) F.QCTX_OWNER_FN dst).clearBlock q
      ([4, 5, 6, 7].foldl (fun s w => s.wr (R.QCTX q w) 0) s).setQstate q QS.DISABLED) s
    s.moveLock k false
  | 1 =>
    let es := (s.moveEntries k).map (fun e => s.get (R.GST_POOLMAP e) F.GST_POOLMAP_PAGE)
    let src := R.GST_FNPOOL (s.moveSrc k)
    let d := R.GST_FNPOOL dst
    let s := s.put src F.GST_FNPOOL_PAGES (s.get src F.GST_FNPOOL_PAGES - es.length)
    let top := s.get d F.GST_FNPOOL_MAP_BASE + s.get d F.GST_FNPOOL_PAGES
    let s := es.zipIdx.foldl (fun s e =>
      (s.put (R.GST_POOLMAP (top + e.2)) F.GST_POOLMAP_PAGE e.1).put (R.GST_POOLMAP (top + e.2)) F.GST_POOLMAP_VALID
        (bit01 (bitOf (s.jobD k).aux e.2))) s
    s.put d F.GST_FNPOOL_PAGES (s.get d F.GST_FNPOOL_PAGES + es.length)
  | _ => s.put (R.QEP_NODEOWN (s.argPages k)) F.QEP_NODEOWN_OWNER_FN dst

/-- A unit of MOVE: the wait, which ends when the resource is ready or WAIT has run out (`late`), then the move, which is indivisible. -/
def State.moveUnit (s : State) (k : Nat) (late : Bool) : State :=
  let cancelling := s.slotState k == CS.CANCELLING
  if s.moveKind k = 0 ∧ (setQueues (s.argPages k)).any (fun q => s.qstate q == QS.HELD) then s.slotFail k CST.HELD 0
  else if (s.jobD k).indivisible then
    (if s.moveKind k = 1 ∧ !s.poolRoom k then s.slotFail k CST.BADARG 0 else (s.moveGo k).safePoint k)
  else if cancelling then s.slotCancelled k
  else if !s.moveReady k then (if late then s.slotFail k CST.NOT_READY 0 else s)
  else
    let s := if s.progress k = 0 then s.safePoint k else s
    if s.slotState k = CS.RUNNING then (s.moveLock k true).setJob k (some { s.jobD k with indivisible := true }) else s

/-! ### RETRIM (R276, R355) -/

/-- RETRIM starts: START is written; a refused START ends the command. -/
def State.trimBegin (s : State) (k : Nat) : State :=
  let n := s.trimOctet k
  let s := s.setTotal k 5
  if s.retrimRefused n (s.trimLane k) then (s.setBit (R.LNE_OCTSTAT n) F.LNE_OCTSTAT_BADCMD).slotFail k CST.ABORTED 0
  else (s.setAux k 0).retrimStart n (s.trimLane k)

/-- RETRIM follows its run: stages done so far, and the run's end, which ends the command in any state. -/
def State.trimUnit (s : State) (k : Nat) : State :=
  let r := s.retrim (s.trimOctet k)
  let st := s.slotState k
  if 6 ≤ r then
    let s := s.trimDetail k
    if st = CS.CANCELLING then s.slotCancelled k
    else if r = RT.DONE then (s.setProgress k 5).slotDone k
    else s.slotFail k CST.ABORTED 0
  else
    let s := s.setProgress k (r - 1)
    if st = CS.SUSPENDING then s.setSlot k CS.SUSPENDED else s

/-! ### KEEP_SAVE (R131, R355) -/

/-- KEEP_SAVE starts: the region is taken as it stands, with the wrong bits of its words. -/
def State.keepBegin (s : State) (k : Nat) : State :=
  let n := s.keepCount
  let base := s.get R.GST_KEEP F.GST_KEEP_BASE_PAGE
  let snap := (List.range n).map (fun i => (i, s.bytes (MB.gst + (base + i) * 2 ^ 21) (2 ^ 21)))
  let errs := SMap.keep s.err (fun w => decide (base * 2 ^ 18 ≤ w) && decide (w < (base + n) * 2 ^ 18))
  let s := { s with gst := { s.gst with snap := snap, snapErr := errs, snapOn := true } }.setBit R.GST_STATUS F.GST_STATUS_KEEP_BUSY
  (s.setTotal k (512 * n)).setAux k (s.keepTarget + 2 * n)

/-- A word of the snapshot is decoded as it is copied (R111): its bytes lie in `bs`, which starts at `a`. The first unusable word is kept. -/
def State.snapDecode (k a : Nat) (acc : List Byte × Option Nat × State) (e : Nat × Nat) : List Byte × Option Nat × State :=
  let (bs, bad, s) := acc
  let off := 8 * e.1 - a
  let d := eccDecode (Nat.xor (eccEncode (leValue (((bs.drop off).take 8).map (·.toNat))) (e.2 % 2 == 1)) (e.2 / 2))
  let s := s.eccEvent d (8 * e.1) (s.engine k) false
  if !d.ok then (bs, some (bad.getD (8 * e.1)), s)
  else if 4 ≤ popcount (e.2 / 2) then
    let (v, s) := s.free
    (bs.take off ++ leBytes v 8 ++ bs.drop (off + 8), bad, s)
  else (bs, bad, s)

/-- The 4 KiB of the snapshot at `a`, its block `b`, as the engine reads them: data, first unusable word (R112, R131). -/
def State.snapRead (s : State) (k a b : Nat) : List Byte × Option Nat × State :=
  let page := ((s.gst.snap.find? (fun e => e.1 == b / 512)).map (·.2)).getD []
  (s.gst.snapErr.filter (fun e => decide (a / 8 ≤ e.1) && decide (e.1 < a / 8 + 512))).foldl (State.snapDecode k a)
    ((page.drop (4096 * (b % 512))).take 4096, none, s.gstBurst a 4096 (s.engine k))

/-- One 4 KiB block of KEEP_SAVE; after the last the sequence number is written (R355). -/
def State.keepUnit (s : State) (k : Nat) (nandFail : Bool) : State :=
  let area := (s.jobD k).aux % 2
  let n := (s.jobD k).aux / 2
  let b := s.progress k
  let a := (s.get R.GST_KEEP F.GST_KEEP_BASE_PAGE + b / 512) * 2 ^ 21 + 4096 * (b % 512)
  match s.engOpen k a 4096 false with
  | (.wait, s) => s
  | (.fail st x, s) => s.slotFail k st x
  | (.ok, s) =>
    match s.snapRead k a b with
    | (_, some x, s) => s.slotFail k CST.DATA_ERR x
    | (bs, none, s) =>
      if nandFail then
        let s := { s.store (keepData area + 4096 * b) (freeBytes s.freeCtr 4096) with freeCtr := s.freeCtr + 4096 }
        s.slotFail k CST.NAND_ERR (keepData area + 4096 * b - MB.nand)
      else
        let s := s.keepBlock area b bs
        if b + 1 < s.total k ∨ s.slotState k = CS.CANCELLING then s.safePoint k
        else ((s.snapDrop.put R.GST_STATUS F.GST_STATUS_KEEP_BUSY 0).keepSeal area n).safePoint k

/-! ### Start and units (R350, R352, R354) -/

/-- What a command does when it first runs, and whether it has; it may have to wait. -/
def State.cmdBegin (s : State) (k : Nat) : Bool × State :=
  let opc := s.slotOpc k
  if opc = OPC.FW_UPDATE then s.fwBegin k
  else if opc = OPC.IMG_SWAP then s.swapBegin k
  else if opc = OPC.SCRUB then (true, (s.setTotal k (8192 * s.argPages k)).setAux k 0)
  else if opc = OPC.MOVE then (true, s.moveBegin k)
  else if opc = OPC.RETRIM then (true, s.trimBegin k)
  else if opc = OPC.MEMTEST then (true, (s.setTotal k (s.argPages k)).setAux k 0)
  else (true, s.keepBegin k)

/-- What a resumed command does when it runs again: an image that is loaded whole is swapped, a ready resource is moved by its next unit. -/
def State.cmdAgain (s : State) (k : Nat) : State :=
  if s.slotOpc k = OPC.IMG_SWAP ∧ imageUnits ((s.jobD k).aux % 2 ^ 32) ≤ s.progress k then s.swapGo k else s

/-- A command with no unit to do is done as soon as it runs. -/
def State.cmdEmpty (s : State) (k : Nat) : State := if s.slotState k = CS.RUNNING ∧ s.total k = 0 then s.slotDone k else s

/-- CMD_START: a QUEUED command starts once nothing holds it back; commands that need NAND wait for the keep check (R352, R409). -/
def execCmdStart (k : Fin 16) (s : State) : Host.Outcome State Fault Refusal :=
  let k := k.val
  let nand := (s.needs k).contains .nand && !s.bit R.RST_TRIMSTAT F.RST_TRIMSTAT_KEEP_DONE
  if s.slotState k ≠ CS.QUEUED ∨ !s.bit R.CMD_CTL F.CMD_CTL_ENABLE ∨ nand ∨ s.blocked k then .next s
  else
    let s' := s.setSlot k CS.RUNNING
    if (s.jobD k).started then .next (s'.cmdAgain k)
    else .next (match s.cmdBegin k with
      | (false, t) => t
      | (true, _) => (s'.cmdBegin k).2.cmdEmpty k)

/-- CMD_UNIT_DONE: a running command finishes a unit. `flips`: wrong bits met; `nandFail`: the NAND program fails; `bad`: words that fail a
MEMTEST; `late`: the WAIT of a MOVE has run out. -/
def execCmdUnitDone (k : Fin 16) (flips : List (Nat × Nat)) (nandFail : Bool) (bad : List Nat) (late : Bool) (s : State) :
    Host.Outcome State Fault Refusal :=
  let k := k.val
  let st := s.slotState k
  let opc := s.slotOpc k
  let runs := st == CS.RUNNING || st == CS.SUSPENDING || st == CS.CANCELLING
  if opc = OPC.RETRIM ∧ (s.jobD k).started ∧ CS.QUEUED ≤ st ∧ st ≤ CS.CANCELLING then .next (s.trimUnit k)
  else if !runs then .next s
  else
    let s := s.flip flips
    .next (if opc = OPC.FW_UPDATE then s.fwUnit k nandFail
      else if opc = OPC.IMG_SWAP then s.swapUnit k
      else if opc = OPC.SCRUB then s.scrubUnit k
      else if opc = OPC.MOVE then s.moveUnit k late
      else if opc = OPC.MEMTEST then s.memtestUnit k bad
      else s.keepUnit k nandFail)

/-! ### SUSPEND, RESUME, CANCEL (R350) -/

/-- The command is in an indivisible step. -/
def State.fixed (s : State) (k : Nat) : Bool := (s.jobD k).indivisible

/-- CMD_SUSPEND. -/
def execCmdSuspend (o : Origin) (k : Fin 16) (gen : BitVec 12) (s : State) : Host.Outcome State Fault Refusal :=
  .next (s.slotOp o.toNat k.val gen.toNat (fun s =>
    let s' := s.renewSlot k.val o.toNat
    if s.slotState k.val = CS.QUEUED then s'.setSlot k.val CS.SUSPENDED
    else if s.slotState k.val = CS.RUNNING ∧ !s.fixed k.val then s'.setSlot k.val CS.SUSPENDING
    else s.cmdBad))

/-- CMD_RESUME. -/
def execCmdResume (o : Origin) (k : Fin 16) (gen : BitVec 12) (s : State) : Host.Outcome State Fault Refusal :=
  .next (s.slotOp o.toNat k.val gen.toNat (fun s =>
    let s' := s.renewSlot k.val o.toNat
    if s.slotState k.val = CS.SUSPENDING then s'.setSlot k.val CS.RUNNING
    else if s.slotState k.val = CS.SUSPENDED then s'.setSlot k.val CS.QUEUED
    else s.cmdBad))

/-- CMD_CANCEL; a RETRIM writes ABORT at once. -/
def execCmdCancel (o : Origin) (k : Fin 16) (gen : BitVec 12) (s : State) : Host.Outcome State Fault Refusal :=
  .next (s.slotOp o.toNat k.val gen.toNat (fun s =>
    let st := s.slotState k.val
    let s' := s.renewSlot k.val o.toNat
    if st = CS.QUEUED ∨ st = CS.SUSPENDED then s'.slotCancelled k.val
    else if (st = CS.RUNNING ∨ st = CS.SUSPENDING) ∧ !s.fixed k.val then
      (if s.slotOpc k.val = OPC.RETRIM then s'.slotDrop k.val else s').setSlot k.val CS.CANCELLING
    else s.cmdBad))

end Sys2Proof.Machine
end

