-- ==== Sys2Proof/Machine/Functions.lean ====
section
/-!
DEFINITION. The functions of the queue endpoint: attachment (R243), VF Enable (R251), node ownership (R258), and the configuration
space of the functions (R241, R245 to R251). Offsets inside a capability, capability IDs and register layouts that
the manual takes from the PCI Express Base Specification are presumed from it (log entry 30).
-/
namespace Sys2Proof.Machine

/-! ### Attachment (R243) -/

/-- Attached VFs of a partition. -/
def State.vfsIn (s : State) (pt : Nat) : List Nat :=
  s.regIndices 0xD10000 8 4097 (fun _ => 0) (fun v x => decide (0 < v) && fieldOf x 0 1 == 1 && fieldOf x 2 6 == pt)

def State.vfPlace (s : State) (v : Nat) : Nat × Nat :=
  (s.get (R.QEP_VFMAP v) F.QEP_VFMAP_BUSOFF, s.get (R.QEP_VFMAP v) F.QEP_VFMAP_FNUM)

def State.vfBad (s : State) : State := s.setBit R.QEP_STATUS F.QEP_STATUS_BADCMD

/-- ATTACH of VF `v` (R243): an accepted one gives the function its reset values. -/
def execVfAttach (v : Fin 4097) (pt : Fin 64) (busoff : BitVec 4) (fnum : BitVec 8) (bar2Log2 : BitVec 6) (s : State) :
    Host.Outcome State Fault Refusal :=
  let place := (busoff.toNat, fnum.toNat)
  let others := (s.vfsIn pt.val).map s.vfPlace
  let away := pt.val ≠ s.mgmtPt
  if v.val = 0 ∨ s.bit (R.QEP_VFMAP v.val) F.QEP_VFMAP_ATTACHED ∨ !s.bitAct (R.PTN_CFG pt.val) F.PTN_CFG_EN ∨
      (away ∧ (others.contains place ∨ (place ≠ (0, 0) ∧ !others.contains (0, 0)))) then
    .next s.vfBad
  else
    let w := if away then busoff.toNat * 2 ^ 8 + fnum.toNat * 2 ^ 12 + bar2Log2.toNat * 2 ^ 20 else 0
    let s := s.wr (R.QEP_VFMAP v.val) (1 + pt.val * 2 ^ 2 + w)
    .next ((s.fnReset v.val).msixReset v.val)

/-- DETACH of VF `v` (R243): its function-level reset comes first, and the VF is detached when that ends. -/
def execVfDetach (v : Fin 4097) (s : State) : Host.Outcome State Fault Refusal :=
  let pt := s.get (R.QEP_VFMAP v.val) F.QEP_VFMAP_PT
  let owns := (List.range 4096).any (fun n => s.qOwnerFn (16 * n) == v.val)
  let first := pt ≠ s.mgmtPt ∧ s.vfPlace v.val = (0, 0) ∧ (s.vfsIn pt).any (fun x => x != v.val)
  if v.val = 0 ∨ !s.bit (R.QEP_VFMAP v.val) F.QEP_VFMAP_ATTACHED ∨ owns ∨ s.flrActive v.val ∨ first then .next s.vfBad
  else
    let s := s.setBit R.QEP_STATUS F.QEP_STATUS_CMD_BUSY
    let s := { s with prt := { s.prt with detach := v.val :: s.prt.detach } }
    .next (s.flrSource [v.val])

/-! ### SR-IOV (R251) -/

/-- VF Enable is set: the VFs up to NumVFs exist, or ARI_ERR is set when the hierarchy is not ARI capable. -/
def State.vfEnableSet (s : State) : State :=
  let c := s.fn 0
  if c.vfEn then s
  else
    let s := s.setFn 0 { c with vfEn := true }
    if c.ari then s else s.setBit R.QEP_STATUS F.QEP_STATUS_ARI_ERR

/-- VF Enable is cleared: every existing VF is reset, and the VFs cease to exist. -/
def State.vfEnableClear (s : State) : State :=
  let s := s.flrSource s.vfs
  s.setFn 0 { s.fn 0 with vfEn := false }

def execVfEnableSet (s : State) : Host.Outcome State Fault Refusal := .next s.vfEnableSet

def execVfEnableClear (s : State) : Host.Outcome State Fault Refusal := .next s.vfEnableClear

/-! ### Node ownership (R257, R258) -/

/-- A scheduler node may change owner: inactive, with EN = 0 in the active bank (R257). -/
def State.nodeReady (s : State) (n : Nat) : Bool := !s.nodeActive n && !s.nodeEn n

def execNodeownWrite (n : Fin 18432) (fn : BitVec 13) (s : State) : Host.Outcome State Fault Refusal :=
  .next (if s.nodeReady n.val then s.put (R.QEP_NODEOWN n.val) F.QEP_NODEOWN_OWNER_FN fn.toNat
    else s.setBit R.QEP_STATUS F.QEP_STATUS_CFG_REFUSED)

/-! ### Configuration space of a function (R245, R248 to R251, R254) -/

/-- 32-bit half of a value. -/
def lo32 (v : Nat) : Nat := v % 2 ^ 32
def hi32 (v : Nat) : Nat := v / 2 ^ 32 % 2 ^ 32

/-- Next Function Number of a presented function (R248). -/
def State.nextFn (s : State) (pt f : Nat) : Nat :=
  let (b, n) := s.vfPlace f
  let later := ((s.vfsIn pt).filter (fun v => s.vfExists v)).filterMap (fun v =>
    let (b', n') := s.vfPlace v
    if b' = b ∧ n < n' then some n' else none)
  later.foldl (fun m x => if m = 0 ∨ x < m then x else m) 0

/-- The bits of a function's dword that the manual leaves to the standard: bits of the link registers, the AER header log, and the Link 2
registers. -/
def State.cfgOpen (s : State) (pt off : Nat) : Nat :=
  match off with
  | 0x7C => match s.upPort pt with | some p => (s.linkCaps p false).2 | none => 0xFFFFFFFF
  | 0x80 => match s.upPort pt with | some p => (s.linkStat p false).2 | none => 0xFFFF0000
  | 0x118 => 0x1F
  | 0x9C | 0xA0 | 0x11C | 0x120 | 0x124 | 0x128 | 0x12C | 0x130 | 0x134 | 0x138 => 0xFFFFFFFF
  | _ => 0

/-- Bits of Device Control without an effect here that a host may write: error reporting, relaxed ordering, extended tags, no snoop. -/
def devCtlRw : Nat := 0x091F

/-- A dword of the configuration space of function `f` in partition `pt`. -/
def State.cfgRead (s : State) (pt f off : Nat) : Nat :=
  let c := s.fn f
  let pf := f == 0
  let vf := s.isSriov f
  let hdr (v : Nat) : Nat := if vf then 0 else v
  let first := !pf && !vf && s.vfPlace f == (0, 0) && (s.vfsIn pt).any (fun v => v != f && s.vfExists v)
  let rom := s.bit R.QEP_ID F.QEP_ID_ROM_PRESENT
  let vecs := msixVectors f
  match off with
  | 0x00 => if vf then 0xFFFFFFFF else 0xF3C5 + (if pf then 0x5120 else 0x5124) * 2 ^ 16
  | 0x04 => bit01 (c.mse && !vf) * 2 + bit01 c.bme * 4 + bit01 c.perr * 2 ^ 6 + bit01 c.serr * 2 ^ 8 + 2 ^ 20 + c.status % 2 ^ 16 * 2 ^ 16
  | 0x08 => s.get R.QEP_ID F.QEP_ID_REV + 0x028000 * 2 ^ 8
  | 0x0C => c.cacheLine + (if first then 0x80 else 0) * 2 ^ 16
  | 0x10 => hdr (lo32 c.bar0 + 4)
  | 0x14 => hdr (hi32 c.bar0)
  | 0x18 => hdr (lo32 c.bar2 + 12)
  | 0x1C => hdr (hi32 c.bar2)
  | 0x20 => hdr (lo32 c.bar4 + 4)
  | 0x24 => hdr (hi32 c.bar4)
  | 0x2C => 0xF3C5 + s.get R.QEP_ID F.QEP_ID_SUBSYS * 2 ^ 16
  | 0x30 => if rom && !vf then c.rom + bit01 c.romEn else 0
  | 0x34 => if vf then 0x50 else 0x40
  | 0x3C => c.intLine
  | 0x40 => hdr (0x01 + 0x50 * 2 ^ 8 + 3 * 2 ^ 16)
  | 0x44 => hdr ((if c.d3 then 3 else 0) + 2 ^ 3)
  | 0x50 => 0x11 + 0x70 * 2 ^ 8 + (vecs - 1) * 2 ^ 16 + bit01 c.fmask * 2 ^ 30 + bit01 c.msixEn * 2 ^ 31
  | 0x54 => if pf then 0x0E00000 else 0
  | 0x58 => if pf then 0x0E08000 else 0x800
  | 0x70 => 0x10 + 2 * 2 ^ 16
  | 0x74 => 5 + 2 ^ 5 + 2 ^ 15 + 2 ^ 28
  | 0x78 => hdr (c.mps * 2 ^ 5 + c.mrrs * 2 ^ 12 + Nat.land c.devCtl devCtlRw) + c.devStat % 16 * 2 ^ 16
  | 0x7C => match s.upPort pt with | some p => (s.linkCaps p false).1 | none => 0
  | 0x80 => match s.upPort pt with | some p => (s.linkStat p false).1 | none => 0
  | 0x94 => 0xF + 2 ^ 4 + 2 ^ 8 + 2 ^ 16 + 2 ^ 17
  | 0x98 => hdr (c.ctoVal + bit01 c.ctoDis * 2 ^ 4)
  | 0x100 => 0x0001 + 2 * 2 ^ 16 + (if vf then 0x150 else 0x148) * 2 ^ 20
  | 0x104 => c.aerUnc
  | 0x108 => hdr c.aerMask
  | 0x10C => hdr c.aerSev
  | 0x110 => c.aerCor
  | 0x114 => hdr c.aerCorMask
  | 0x148 => hdr (0x000D + 2 ^ 16 + 0x150 * 2 ^ 20)
  | 0x150 => 0x000E + 2 ^ 16 + (if pf then 0x160 else if vf then 0 else 0x1A0) * 2 ^ 20
  | 0x154 => if pf || vf then 0 else s.nextFn pt f * 2 ^ 8
  | 0x160 => if pf then 0x0010 + 2 ^ 16 + 0x1A0 * 2 ^ 20 else 0
  | 0x168 => if pf then bit01 c.vfEn + bit01 c.vfMse * 2 ^ 3 + bit01 c.ari * 2 ^ 4 else 0
  | 0x16C => if pf then 4096 + 4096 * 2 ^ 16 else 0
  | 0x170 => if pf then c.numVfs else 0
  | 0x174 => if pf then 1 + 2 ^ 16 else 0
  | 0x178 => if pf then 0x5124 * 2 ^ 16 else 0
  | 0x17C => if pf then 1 else 0
  | 0x180 => if pf then 1 else 0
  | 0x184 => if pf then lo32 c.vfBar0 + 4 else 0
  | 0x188 => if pf then hi32 c.vfBar0 else 0
  | 0x18C => if pf then lo32 c.vfBar2 + 12 else 0
  | 0x190 => if pf then hi32 c.vfBar2 else 0
  | 0x194 => if pf then lo32 c.vfBar4 + 4 else 0
  | 0x198 => if pf then hi32 c.vfBar4 else 0
  | 0x1A0 => hdr (0x0003 + 2 ^ 16)
  | 0x1A4 => hdr (lo32 (s.rd R.QEP_DSN))
  | 0x1A8 => hdr (hi32 (s.rd R.QEP_DSN))
  | _ => 0

/-- A BAR with one half written, aligned to its size. -/
def barWrite (bar size v : Nat) (high : Bool) : Nat :=
  let w := if high then bar % 2 ^ 32 + v * 2 ^ 32 else bar / 2 ^ 32 * 2 ^ 32 + v
  w / size * size

/-- A write of dword `off` of the configuration space of `f`: `v` is the new value of the whole dword, `m` the ones that are written, which clear
the error bits. -/
def State.cfgWrite (s : State) (f off v m : Nat) : State :=
  let c := s.fn f
  let pf := f == 0
  let vf := s.isSriov f
  let size0 := if pf then 2 ^ 26 else 2 ^ 14
  let set (c : FnCfg) : State := s.setFn f c
  let fld (lo w : Nat) : Nat := fieldOf v lo w
  let size2 := 2 ^ c.vf2Log2
  let c := if off = 0x04 then { c with status := c.status - Nat.land c.status (fieldOf m 16 16) }
    else if off = 0x78 then { c with devStat := c.devStat - Nat.land c.devStat (fieldOf m 16 4) } else c
  match off with
  | 0x04 =>
    (if vf then set { c with bme := bitOf v 2 }
      else set { c with mse := bitOf v 1, bme := bitOf v 2, perr := bitOf v 6, serr := bitOf v 8 }).msixRetry f
  | 0x0C => set { c with cacheLine := fld 0 8 }
  | 0x10 => if vf then s else set { c with bar0 := barWrite c.bar0 size0 v false }
  | 0x14 => if vf then s else set { c with bar0 := barWrite c.bar0 size0 v true }
  | 0x18 => if vf then s else set { c with bar2 := barWrite c.bar2 (2 ^ c.bar2Log2) v false }
  | 0x1C => if vf then s else set { c with bar2 := barWrite c.bar2 (2 ^ c.bar2Log2) v true }
  | 0x20 => if vf then s else set { c with bar4 := barWrite c.bar4 (2 ^ 24) v false }
  | 0x24 => if vf then s else set { c with bar4 := barWrite c.bar4 (2 ^ 24) v true }
  | 0x30 => if vf || !s.bit R.QEP_ID F.QEP_ID_ROM_PRESENT then s else set { c with rom := fld 20 12 * 2 ^ 20, romEn := bitOf v 0 }
  | 0x3C => set { c with intLine := fld 0 8 }
  | 0x44 => if vf then s else if fld 0 2 = 3 then set { c with d3 := true } else if fld 0 2 = 0 then (set { c with d3 := false }).msixRetry f else s
  | 0x50 => (set { c with fmask := bitOf v 30, msixEn := bitOf v 31 }).msixRetry f
  | 0x78 =>
    let s := set (if vf then c else { c with mps := fld 5 3, mrrs := fld 12 3, devCtl := Nat.land v devCtlRw })
    if bitOf v 15 then s.flrInitiate f else s
  | 0x98 => if vf then s else set { c with ctoVal := fld 0 4, ctoDis := bitOf v 4 }
  | 0x104 => set { c with aerUnc := c.aerUnc - Nat.land c.aerUnc m }
  | 0x108 => if vf then s else set { c with aerMask := Nat.land v 0x07FFF030 }
  | 0x10C => if vf then s else set { c with aerSev := Nat.land v 0x07FFF030 }
  | 0x110 => set { c with aerCor := c.aerCor - Nat.land c.aerCor m }
  | 0x114 => if vf then s else set { c with aerCorMask := Nat.land v 0xF1C1 }
  | 0x168 =>
    if !pf then s
    else
      let s := set { c with vfMse := bitOf v 3, ari := if c.vfEn then c.ari else bitOf v 4 }
      if bitOf v 0 then s.vfEnableSet else if c.vfEn then s.vfEnableClear else s
  | 0x170 => if pf && !c.vfEn && decide (fld 0 16 ≤ 4096) then set { c with numVfs := fld 0 16 } else s
  | 0x184 => if pf then set { c with vfBar0 := barWrite c.vfBar0 (2 ^ 14) v false } else s
  | 0x188 => if pf then set { c with vfBar0 := barWrite c.vfBar0 (2 ^ 14) v true } else s
  | 0x18C => if pf then set { c with vfBar2 := barWrite c.vfBar2 size2 v false } else s
  | 0x190 => if pf then set { c with vfBar2 := barWrite c.vfBar2 size2 v true } else s
  | 0x194 => if pf then set { c with vfBar4 := barWrite c.vfBar4 (2 ^ 24) v false } else s
  | 0x198 => if pf then set { c with vfBar4 := barWrite c.vfBar4 (2 ^ 24) v true } else s
  | _ => s

/-! ### Configuration requests (R235, R237, R241, R245, R255) -/

/-- The function at an ID of a partition (R240, R241). -/
def State.fnAt (s : State) (pt dest : Nat) : Option Nat := (s.fnsOf pt).find? (fun f => s.routingId f pt == dest)

/-- A configuration request of a partition's host: retry status while the partition or the function is in reset (R235, R255), Unsupported
Request where no bridge and no function appears (R222, R241), else the access. `w` is a write with its byte enables. -/
def execConfigRequest (pt : Fin 64) (rid : BitVec 16) (tag : BitVec 10) (target : CfgTarget) (dw : Fin 1024)
    (w : Option (BitVec 32 × BitVec 4)) (s : State) : Host.Outcome State Fault Refusal :=
  let p := pt.val
  let off := 4 * dw.val
  let reply (s : State) (st : CplStatus) (data : List Byte) : State := s.cfgReply p rid.toNat tag.toNat st data
  let bridge := match target with
    | .bridge b => some b
    | .id dest => s.bridgeAt p dest.toNat
  match bridge, target with
  | some b, _ =>
    if !s.bridgeExists p b then .next (reply s .ur [])
    else if s.cfgNotReady p then .next (reply s .crs [])
    else .next (s.bridgeRequest p rid.toNat tag.toNat b off w)
  | none, .bridge _ => .next (reply s .ur [])
  | none, .id dest =>
    if s.cfgNotReady p then .next (reply s .crs [])
    else match s.fnAt p dest.toNat with
      | none => .next (reply s .ur [])
      | some f =>
        if s.flrActive f then .next (reply s .crs [])
        else match w with
          | none =>
            let (v, s) := s.openBits (s.cfgRead p f off) (s.cfgOpen p off)
            .next (reply s .sc (leBytes v 4))
          | some (v, be) =>
            let m := merge32 0 v.toNat be.toNat
            let s := reply s .sc []
            .next (s.cfgWrite f off (merge32 (s.cfgRead p f off) v.toNat be.toNat) m)

end Sys2Proof.Machine
end

