-- ==== Sys2Proof/Machine/RegView.lean ====
section
/-!
DEFINITION. What a register read returns (R11, R14, R15): the map of control space (R462, R463) with the lehr step that holds each
region, the fields whose value is computed from the block's state at the read, and the clearing of RC fields.
-/
namespace Sys2Proof.Machine

/-! ### The map (R462) -/

/-- Regions of control space: first offset, first offset after, and the lehr step that holds the region (0: none). -/
def regions : List (Nat × Nat × Nat) :=
  [(0, 0x1000, 0), (0x100000, 0x102000, 2), (0x200000, 0x210800, 1), (0x220000, 0x221000, 1), (0x400000, 0x500000, 6),
   (0x800000, 0x900200, 7), (0xC00000, 0x1000000, 10), (0x1000000, 0x1400000, 5), (0x1400000, 0x2000000, 8),
   (0x2000000, 0x2400000, 4), (0x2400000, 0x2600000, 3), (0x2600000, 0x2A00000, 9), (0x2A00000, 0x2C08000, 2),
   (0x2C08000, 0x3000000, 9), (0x3000000, 0x3080000, 3), (0x3080000, 0x3100000, 8), (0x3100000, 0x3300000, 3),
   (0x3300000, 0x3400000, 8), (0x3400000, 0x3600000, 3), (0x3600000, 0x3800000, 8), (0x3800000, 0x3C00000, 9),
   (0x3C00000, 0x3D00000, 7), (0x3D00000, 0x4000000, 8)]

/-- The lehr step of the region of an offset, or none outside every region. Control blocks of BAR4 belong to step 8. -/
def regionStep (a : Nat) : Option Nat :=
  if 2 ^ 32 ≤ a then some 8
  else (regions.find? (fun r => decide (r.1 ≤ a) && decide (a < r.2.1))).map (·.2.2)

/-- The lehr step is held in reset (RST_DOMAIN). Step 4 is not while its bit stands for self-refresh: Warm does not reset the gather-store
controller (R129). -/
def State.stepHeld (s : State) (k : Nat) : Bool :=
  k != 0 && s.blockReset k && !(k == 4 && s.bit R.GST_STATUS F.GST_STATUS_SELFREF)

/-- Host frames of mailboxes stand 0x2_0000 above the firmware frames and have the same cards (R338). -/
def hostFrame (a : Nat) : Bool := decide (0x2630000 ≤ a) && decide (a < 0x2650000)

/-- Indices of a register of the card. -/
def Card.index (c : Card) (a : Nat) : Nat × Nat :=
  match c.dims with
  | [] => (0, 0)
  | [d] => ((a - c.base) / d.stride, 0)
  | d :: e :: _ => ((a - c.base) / d.stride, (a - c.base) % d.stride / e.stride)

/-- A register that an address names: its card, itself, and its indices. -/
structure RegAt where
  card : Card
  ref : RegRef
  i : Nat
  j : Nat

/-- The register of an 8-byte aligned address, if there is one. -/
def regAt (a : Nat) : Option RegAt :=
  let b := if hostFrame a then a - 0x20000 else a
  match cardAt b with
  | none => none
  | some c =>
    let (i, j) := c.index b
    let i := if hostFrame a then i + 512 else i
    some ⟨c, ⟨a, c.rst i j⟩, i, j⟩

/-- Bits of the fields that `p` picks. -/
def Card.maskOf (c : Card) (p : FieldRow → Bool) : Nat :=
  (c.fields.filter p).foldl (fun m f => m + (2 ^ f.f.w - 1) * 2 ^ f.f.lo) 0

/-! ### Blocks at rest (R18) -/

def State.cruIdle (s : State) : Bool := s.cru.refs.isEmpty && !s.bit R.CRU_CTL F.CRU_CTL_ENABLE
def State.queIdle (s : State) : Bool := s.que.descs.isEmpty && s.que.linked.isEmpty && !s.bit R.QUE_CTL F.QUE_CTL_ENABLE
def State.schIdle (s : State) : Bool := s.que.decs.isEmpty && !s.bit R.SCH_CTL F.SCH_CTL_ENABLE
def State.polIdle (s : State) : Bool :=
  s.pol.filling.isEmpty && s.pol.cmd.isNone && !s.pol.cache.any (·.dirty) && !s.bit R.POL_CTL F.POL_CTL_ENABLE
def State.portIdle (s : State) (p : Nat) : Bool :=
  !s.bit (R.PRT_STATUS p) F.PRT_STATUS_LINK_UP && (List.range 8).all (fun c => (s.staged p c).isEmpty) &&
    !s.bit (R.PRT_CTL p) F.PRT_CTL_ENABLE
def State.ftxIdle (s : State) : Bool := s.fab.recs.isEmpty && !s.bit R.FTX_CTL F.FTX_CTL_ENABLE
def State.lthIdle (s : State) : Bool := s.lth.reqs.isEmpty && !s.bit R.LTH_CTL F.LTH_CTL_ENABLE
def State.cmdIdle (s : State) : Bool :=
  !(List.range 16).any (fun k => [CS.RUNNING, CS.SUSPENDING, CS.CANCELLING].contains (s.slotState k)) &&
    !s.bit R.CMD_CTL F.CMD_CTL_ENABLE

/-! ### Computed fields -/

/-- Open general records of a class (FLT_STATUS). -/
def State.openOfClass (s : State) (cls : Nat) : Nat :=
  ((List.range 64).filter (fun r => r != 0 && s.recOpen r && s.get (R.FLT_RECA r) F.FLT_RECA_CLASS == cls)).length

/-- FAULT_N is driven low (R369, and by ember when no trim copy passes, R414). -/
def State.faultPin (s : State) : Bool :=
  s.recOpen 0 || s.bit R.RST_STATUS F.RST_STATUS_TRIM_FAIL || (s.bit R.FLT_CTL F.FLT_CTL_PIN_CE && decide (0 < s.openOfClass 1)) ||
    (s.bit R.FLT_CTL F.FLT_CTL_PIN_CT && (decide (0 < s.openOfClass 2) || !s.flt.norec.isEmpty))

/-- A core's clock runs (GAF_CORE). -/
def Core.clockRuns (x : Core) : Bool :=
  match x.run with
  | .running => true
  | .waiting _ _ _ => true
  | .held _ => true
  | .faulting _ => true
  | _ => false

/-- The port is held with its partition: PRT_STATUS shows HOLD_SRC 3 (R236; that its link stays is a DESIGN CHOICE, log entry 126). -/
def State.heldByPartition (s : State) (p : Nat) : Bool :=
  !s.portHeld p && (s.role p == ROLE.UPSTREAM || s.role p == ROLE.DOWNSTREAM) && s.ptHeld (s.portPt p)

/-- Fields whose value a read computes, for a reader with tag `o`. -/
def State.computed (s : State) (o : Nat) (reg : Reg) (i : Nat) : List (Fld × Nat) :=
  match reg with
  | .CRU_STATUS => [(F.CRU_STATUS_IDLE, bit01 s.cruIdle)]
  | .CRU_POOLSTAT => [(F.CRU_POOLSTAT_SHARED_FREE, s.freeShared), (F.CRU_POOLSTAT_RESV_SUM, s.sumRes),
      (F.CRU_POOLSTAT_SHARED_SIZE, s.poolS)]
  | .CRU_ALLOCSTAT => [(F.CRU_ALLOCSTAT_PKTREC_FREE, 262144 - s.cru.recs), (F.CRU_ALLOCSTAT_RETIRED, s.retired.length)]
  | .CRU_COQCFG => if 2056 ≤ i then [(F.CRU_COQCFG_MODE, 1)] else []
  | .CRU_COQSTAT => [(F.CRU_COQSTAT_OCC, s.occ i), (F.CRU_COQSTAT_PEAK, max (s.get (R.CRU_COQSTAT i) F.CRU_COQSTAT_PEAK) (s.occ i)),
      (F.CRU_COQSTAT_PKTS, (s.coq i).length), (F.CRU_COQSTAT_HELD, bit01 (decide (i < 2048) && s.portHeld (i / 8)))]
  | .QUE_STATUS => [(F.QUE_STATUS_IDLE, bit01 s.queIdle)]
  | .QUE_PBUFSTAT => [(F.QUE_PBUFSTAT_FREE, s.pbufFree),
      (F.QUE_PBUFSTAT_LOW, min (s.get R.QUE_PBUFSTAT F.QUE_PBUFSTAT_LOW) s.pbufFree)]
  | .QUE_SQSTAT => [(F.QUE_SQSTAT_FREE, 65536 - s.que.slotsUsed)]
  | .QUE_LOCKSTAT => (match s.qlock (s.get R.QUE_CTXSEL F.QUE_CTXSEL_QUEUE) with
      | some l => [(F.QUE_LOCKSTAT_HELD, 1), (F.QUE_LOCKSTAT_EXPIRED, bit01 l.expired), (F.QUE_LOCKSTAT_DEADLINE, l.deadline),
          (F.QUE_LOCKSTAT_HOLDER, l.holder)]
      | none => [(F.QUE_LOCKSTAT_HELD, 0), (F.QUE_LOCKSTAT_EXPIRED, 0), (F.QUE_LOCKSTAT_DEADLINE, 0), (F.QUE_LOCKSTAT_HOLDER, 0)])
  | .QUE_QINFO => [(F.QUE_QINFO_STATE, s.qstate i),
      (F.QUE_QINFO_SQ_FREE, s.get (R.QCTX i 2) F.QCTX_SQ_MAX - s.get (R.QCTX i 3) F.QCTX_SQ_USED)]
  | .QUE_QLOCK => (match s.qlock i with
      | some l => [(F.QUE_QLOCK_HELD, 1), (F.QUE_QLOCK_MINE, bit01 (l.holder == o)), (F.QUE_QLOCK_EXPIRED, bit01 l.expired)]
      | none => [(F.QUE_QLOCK_HELD, 0), (F.QUE_QLOCK_MINE, 0), (F.QUE_QLOCK_EXPIRED, 0)])
  | .SCH_STATUS => [(F.SCH_STATUS_IDLE, bit01 s.schIdle)]
  | .POL_STATUS => [(F.POL_STATUS_IDLE, bit01 s.polIdle)]
  | .GST_STATUS => [(F.GST_STATUS_IDLE, bit01 (!s.bit R.GST_CTL F.GST_CTL_ENABLE)),
      (F.GST_STATUS_REMAP_BUSY, bit01 (!s.gst.copying.isEmpty))]
  | .GST_RETSTAT => [(F.GST_RETSTAT_RETIRED, s.remapUsed.length)]
  | .GAT_EPOCH =>
    let h := s.getAct (R.GAT_XCFG (i - 24)) F.GAT_XCFG_HOST
    let g := if 24 ≤ i ∧ s.attached true h (i - 24) then h else i
    (F.GAT_EPOCH_OLD_INFLIGHT, min 65535 (s.gateOld g)) ::
      (if g = i then [] else [(F.GAT_EPOCH_EPOCH, s.get (R.GAT_EPOCH g) F.GAT_EPOCH_EPOCH)])
  | .GAF_EPSTAT => [(F.GAF_EPSTAT_OLD_INFLIGHT, min 65535 (s.oldInflight i))]
  | .GAF_CORE => [(F.GAF_CORE_RUN, bit01 (s.core i).clockRuns)]
  | .JCK_STATUS => [(F.JCK_STATUS_LANES_BUSY, s.que.jack.length)]
  | .PTN_STATE => [(F.PTN_STATE_DSPORTS, (s.downPorts i).length),
      (F.PTN_STATE_PEER_TAGS, 1024 - (s.prt.peerTags.filter (fun t => t.destPt == i)).length)]
  | .QEP_VFMAP => [(F.QEP_VFMAP_EXISTS, bit01 (s.vfExists i))]
  | .QEP_FNSTAT => [(F.QEP_FNSTAT_MSE, bit01 (s.decodes i)), (F.QEP_FNSTAT_BME, bit01 (s.canMaster i)),
      (F.QEP_FNSTAT_D3, bit01 (s.fn i).d3), (F.QEP_FNSTAT_MSIX_EN, bit01 (s.fn i).msixEn),
      (F.QEP_FNSTAT_FMASK, bit01 (s.fn i).fmask), (F.QEP_FNSTAT_OUTRD, SMap.get s.prt.abandoned 0 i)]
  | .PRT_STATUS => (F.PRT_STATUS_IDLE, bit01 (s.portIdle i)) ::
      (if s.heldByPartition i then [(F.PRT_STATUS_HELD, 1), (F.PRT_STATUS_HOLD_SRC, 3)] else [])
  | .PRT_LINKSTAT => [(F.PRT_LINKSTAT_STATE,
      if !s.portUsed i || !s.bit (R.PRT_CTL i) F.PRT_CTL_ENABLE then 0x3F else s.linkState i)]
  | .CAN_RXSEQ => [(F.CAN_RXSEQ_CULLET_USED, (s.txNext i + seqMod - s.txAcked i) % seqMod)]
  | .FTX_STATUS => [(F.FTX_STATUS_IDLE, bit01 s.ftxIdle), (F.FTX_STATUS_PEND_FREE, pendMax - s.fab.recs.length)]
  | .FTX_FIDSTAT => [(F.FTX_FIDSTAT_PEND, (s.fab.recs.filter (fun r => r.dst == i)).length)]
  | .LTH_STATUS => [(F.LTH_STATUS_IDLE, bit01 s.lthIdle), (F.LTH_STATUS_TAGS_FREE, s.sideTags)]
  | .CMD_STATUS => [(F.CMD_STATUS_IDLE, bit01 s.cmdIdle), (F.CMD_STATUS_FREE_SLOTS, s.freeSlots.length)]
  | .FLT_STATUS => [(F.FLT_STATUS_FATAL, bit01 (s.recOpen 0)), (F.FLT_STATUS_PIN, bit01 s.faultPin),
      (F.FLT_STATUS_FREE, s.freeRecs.length), (F.FLT_STATUS_OPEN_CE, s.openOfClass 1), (F.FLT_STATUS_OPEN_CT, s.openOfClass 2),
      (F.FLT_STATUS_NOREC_HELD, s.flt.norec.length)]
  | .FLT_OPENMAP => [(F.FLT_OPENMAP_OPEN, ((List.range 64).map (fun r => if s.recOpen r then 2 ^ r else 0)).sum)]
  | .FLT_RECA => [(F.FLT_RECA_ACTIVE, bit01 (s.recActive i))]
  | .TAL_SMPPTR => [(F.TAL_SMPPTR_COUNT, s.smpCount)]
  | _ => []

/-- The whole value a reader sees: stored fields, with those a read computes, and WO fields as zero (R11, R15). -/
def State.view (s : State) (o : Nat) (x : RegAt) : Nat :=
  let wo := x.card.maskOf (fun f => f.acc == .wo)
  let v := (s.computed o x.card.reg x.i).foldl (fun v e => putField v e.1.lo e.1.w e.2) (s.rd x.ref)
  v - Nat.land v wo

/-! ### Reads that change something -/

/-- The bits that a read of `len` bytes at `a` covers in its register (R11). -/
def coverMask (a len : Nat) : Nat := (2 ^ (8 * len) - 1) * 2 ^ (8 * (a % 8))

/-- What the covered RC bits become: PEAK and LOW of a monitor return to their reset value, LOW of QUE_PBUFSTAT starts from FREE, all
others read zero next (R15, MON_VAL, QUE_PBUFSTAT). -/
def State.rcClear (s : State) (x : RegAt) (mask : Nat) : State :=
  let m := Nat.land mask (x.card.maskOf (fun f => f.acc == .rc))
  if m = 0 then s
  else
    let fresh := match x.card.reg with
      | .MON_VAL => x.ref.rst
      | .QUE_PBUFSTAT => putField 0 32 29 s.pbufFree
      | _ => 0
    let old := s.rd x.ref
    s.wr x.ref (old - Nat.land old m + Nat.land fresh m)

/-- A register that exists only in the cane mode of its octet: in PCI Express mode its reset value stands and writes are ignored. -/
def State.caneOff (s : State) (x : RegAt) : Bool :=
  decide (0x3C00000 ≤ x.ref.addr) && decide (x.ref.addr < 0x3D00000) && !s.caneMode x.i

/-- A read of one register: its 64-bit value, and the state after it (R11, R15, R346). -/
def State.readReg (s : State) (o : Nat) (x : RegAt) (mask : Nat) : Nat × State :=
  if s.caneOff x then (x.ref.rst, s)
  else if x.card.reg = .CMD_ALLOC then (if bitOf mask 0 then s.cmdAlloc o else (0, s))
  else (s.view o x, s.rcClear x mask)

/-- The value of a register whose step is held: what its reset gives it (R400). -/
def State.resetView (s : State) (x : RegAt) : Nat :=
  let v := Nat.xor x.ref.rst (SMap.get s.rst.given 0 x.ref.addr)
  v - Nat.land v (x.card.maskOf (fun f => f.acc == .wo))

/-! ### MSI-X tables (R252, R254) -/

/-- The 8-byte word at offset `off` of a function's MSI-X table. -/
def msixWord (f off : Nat) : RegRef := R.MSIX f (off / 16) (off % 16 / 8)

/-- The 64-bit word `k` of a function's pending bits. -/
def State.pbaWord (s : State) (f k : Nat) : Nat :=
  ((List.range 64).map (fun b => if s.pendingBit f (64 * k + b) then 2 ^ b else 0)).sum

/-- The part of a 64-bit word that an access covers. -/
def partOf (v a len : Nat) : Nat := fieldOf v (8 * (a % 8)) (8 * len)

/-- A write of the covered bits of an MSI-X table word: of the vector control only the mask bit is kept, and a vector that is unmasked
sends what is pending (R254). -/
def State.writeMsix (s : State) (f off mask v : Nat) : State :=
  let r := msixWord f off
  let old := s.rd r
  let v := old - Nat.land old mask + Nat.land v mask
  let v := if off % 16 / 8 = 1 then v % 2 ^ 33 else v
  (s.wr r v).msixRetry f

/-- Functions reach an enabled mailbox that is assigned to them through its frame in their window (R338, R252). -/
def State.frameOf (s : State) (f pt slot : Nat) : Option Nat :=
  (List.range 512).find? (fun m => s.bit (R.MBX_CFG m) F.MBX_CFG_EN && s.mbxFn m == f && s.mbxPt m == pt &&
    s.get (R.MBX_CFG m) F.MBX_CFG_SLOT == slot)

/-- The host frame of a mailbox is open to a master: enabled and assigned to its function (R338). -/
def State.frameOpen (s : State) (m o : Nat) : Bool :=
  oEng o == 0 && s.mbxMeets m o

end Sys2Proof.Machine
end

