-- ==== Sys2Proof/Machine/RegRules.lean ====
section
/-!
DEFINITION. The rules a register write is judged by (R17, R210, R157, R467): when a quiesce-only field may change, where a refusal is
recorded, which registers are banked, and when their domain is being committed.
-/
namespace Sys2Proof.Machine

/-- Ports of an octet, and the port whose status register stands for it. -/
def octetPorts (n : Nat) : List Nat := [4 * n, 4 * n + 1, 4 * n + 2, 4 * n + 3]

/-- A port's quiesce-only fields may change: it is idle (R18). -/
def State.portQuiet (s : State) (p : Nat) : Bool := s.portIdle p

/-- Controllers that may serve an octet: its own four, and for the upper octet of a x16 port the one of the lower octet (R216, R217). -/
def octetServers (s : State) (n : Nat) : List Nat :=
  octetPorts n ++ (if n % 2 = 1 ∧ s.get (R.PRT_OCTCFG (n - 1)) F.PRT_OCTCFG_SPLIT = 6 then [4 * (n - 1)] else [])

/-- Quiesce-only fields of a register may change now, as its card says (R17). -/
def State.quiet (s : State) (reg : Reg) (i : Nat) : Bool :=
  match reg with
  | .CRU_MINSHARED => s.cruIdle
  | .QUE_PBUF => s.queIdle && s.que.pbuf.isEmpty
  | .QUE_CQCFG => !s.bit (R.QUE_CQCFG i) F.QUE_CQCFG_CQ_EN
  | .QUE_RXCFG => !s.bit (R.QUE_RXCFG i) F.QUE_RXCFG_RX_EN
  | .POL_FLOWBASE => s.polIdle
  | .GST_KEEP => !s.bit R.GST_STATUS F.GST_STATUS_KEEP_BUSY
  | .PRT_LINKCFG | .PRT_SLOT | .CAN_LINKCFG | .CAN_CRDCFG => s.portQuiet i
  | .PRT_OCTCFG => (octetPorts i ++ octetPorts (Nat.xor i 1)).all s.portQuiet
  | .QEP_VFBAR => !(s.fn 0).vfEn
  | .LNE_OCTCTL => (octetServers s i).all (fun p => !s.bit (R.PRT_CTL p) F.PRT_CTL_ENABLE)
  | .FTX_CTL => s.ftxIdle &&
      (List.range 256).all (fun p => s.role p != ROLE.CANE || s.linkState p == CN.RESET)
  | .FTX_LEP => !s.nodeActive (portNode (256 + i))
  | .LTH_SBCFG => !s.bit (R.LTH_SBCFG i) F.LTH_SBCFG_EN
  | .MBX_CFG => !s.bit (R.MBX_CFG i) F.MBX_CFG_EN
  | .TAL_SMPCFG => !s.bit R.TAL_SMPCFG F.TAL_SMPCFG_EN
  | .TAL_SEL | .TAL_MATCH | .TAL_ALO | .TAL_AHI => !s.bit (R.TAL_SEL i) F.TAL_SEL_EN
  | .SLT_CFG | .SLT_AUX => s.chan i == CH.OFF || s.chan i == CH.LATCHED
  | _ => true

/-- CFG_REFUSED of the block that a register belongs to. -/
def refusedAt (reg : Reg) (i : Nat) : Option (RegRef × Fld) :=
  match reg with
  | .CRU_MINSHARED | .CRU_MIRSESS | .CRU_MIRBASE | .CRU_MIRPORT => some (R.CRU_STATUS, F.CRU_STATUS_CFG_REFUSED)
  | .QUE_PBUF => some (R.QUE_STATUS, F.QUE_STATUS_CFG_REFUSED)
  | .QUE_CQCFG | .QUE_RXCFG | .QUE_IRQCFG => some (R.QUE_QINFO i, F.QUE_QINFO_REFUSED)
  | .SCH_NODECFG | .SCH_QATT => some (R.SCH_STATUS, F.SCH_STATUS_CFG_REFUSED)
  | .POL_FLOWBASE | .POL_FLOWCMD | .POL_PROFA | .POL_PROFB => some (R.POL_STATUS, F.POL_STATUS_CFG_REFUSED)
  | .GST_KEEP | .GST_FNPOOL | .GST_POOLMAP => some (R.GST_STATUS, F.GST_STATUS_CFG_REFUSED)
  | .GAT_XCFG | .GAT_MSET | .GAT_RGNA | .GAT_RGNB => some (R.GAT_STATUS, F.GAT_STATUS_CFG_REFUSED)
  | .JCK_SLOT | .JCK_TBLA | .JCK_TBLB => some (R.JCK_STATUS, F.JCK_STATUS_CFG_REFUSED)
  | .PRT_ROLE | .PRT_LINKCFG | .PRT_SLOT => some (R.PRT_STATUS i, F.PRT_STATUS_CFG_REFUSED)
  | .PRT_OCTCFG => some (R.PRT_STATUS (4 * i), F.PRT_STATUS_CFG_REFUSED)
  | .PTN_CFG | .PTN_PEERA | .PTN_PEERB => some (R.PTN_STATUS, F.PTN_STATUS_CFG_REFUSED)
  | .QEP_VFBAR => some (R.QEP_STATUS, F.QEP_STATUS_CFG_REFUSED)
  | .LNE_OCTCTL => some (R.LNE_OCTSTAT i, F.LNE_OCTSTAT_CFG_REFUSED)
  | .CAN_LINKCFG | .CAN_CRDCFG => some (R.CAN_STATUS i, F.CAN_STATUS_CFG_REFUSED)
  | .FTX_CTL | .FTX_LEP => some (R.FTX_STATUS, F.FTX_STATUS_CFG_REFUSED)
  | .LTH_SBCFG => some (R.LTH_STATUS, F.LTH_STATUS_CFG_REFUSED)
  | .MBX_CFG => some (R.MBX_STATUS, F.MBX_STATUS_CFG_REFUSED)
  | .TAL_SMPCFG | .TAL_SEL | .TAL_MATCH | .TAL_ALO | .TAL_AHI => some (R.TAL_STATUS, F.TAL_STATUS_CFG_REFUSED)
  | .SLT_CFG | .SLT_AUX => some (R.SLT_STAT i, F.SLT_STAT_CFG_REFUSED)
  | _ => none

/-- A write to a register is recorded as refused. -/
def State.refuse (s : State) (x : RegAt) : State :=
  match refusedAt x.card.reg x.i with
  | some e => s.setBit e.1 e.2
  | none => s

/-! ### Banked registers (R28, R157, R210) -/

/-- Gate whose records a register holds: a gate, or an extension at 24 + j. -/
def gateOf (x : RegAt) : Option Nat :=
  match x.card.reg with
  | .GAT_XCFG => some (24 + x.i)
  | .GAT_MSET | .GAT_RGNA | .GAT_RGNB => some x.i
  | _ => none

/-- A gate or an extension is in a commit: its own COMMIT_PEND, or that of the host an extension is attached to (R157). -/
def State.gatePending (s : State) (g : Nat) : Bool :=
  s.bit (R.GAT_GSTAT g) F.GAT_GSTAT_COMMIT_PEND ||
    (decide (24 ≤ g) && (let h := s.getAct (R.GAT_XCFG (g - 24)) F.GAT_XCFG_HOST
      s.attached true h (g - 24) && s.bit (R.GAT_GSTAT h) F.GAT_GSTAT_COMMIT_PEND))

/-- The bank that a register belongs to is being committed, so that its banked fields do not change. -/
def State.bankPending (s : State) (x : RegAt) : Bool :=
  match gateOf x with
  | some g => s.gatePending g
  | none => match domainOf x.ref.addr with
    | some d => s.bit (R.GAF_EPSTAT d) F.GAF_EPSTAT_COMMIT_PEND
    | none => false

/-- The register has banked fields. -/
def banked (x : RegAt) : Bool := (gateOf x).isSome || (domainOf x.ref.addr).isSome

/-! ### One write, field by field (R11, R15, R467) -/

/-- The value of one field after a write whose bits `w` lie under mask `m`, before any refusal; RO, RC and WO fields keep theirs. -/
def fieldAfter (acc : Acc) (cur w m : Nat) : Nat :=
  match acc with
  | .rw => cur - Nat.land cur m + Nat.land w m
  | .rw1c | .rw1cs => cur - Nat.land cur (Nat.land w m)
  | .rw1s => Nat.lor cur (Nat.land w m)
  | .ro | .wo | .rc => cur

/-- The field is refused: a quiesce-only field that would change while its block is not quiet, or a banked field during a commit. -/
def fieldRefused (quiet bank pend : Bool) (f : FieldRow) (cur new m : Nat) : Bool :=
  match f.cls with
  | .quiesce => !quiet && new != cur
  | .shadow => bank && pend && m != 0
  | .live => false

/-- The new value of a register, and whether some field was refused. -/
def writeValue (c : Card) (quiet bank pend : Bool) (old mask v : Nat) : Nat × Bool :=
  c.fields.foldl (fun (a : Nat × Bool) f =>
    let cur := fieldOf old f.f.lo f.f.w
    let m := fieldOf mask f.f.lo f.f.w
    let new := fieldAfter f.acc cur (fieldOf v f.f.lo f.f.w) m
    if fieldRefused quiet bank pend f cur new m then (a.1, true) else (putField a.1 f.f.lo f.f.w new, a.2)) (old, false)

end Sys2Proof.Machine
end

