-- ==== Sys2Proof/Machine/RegWrite.lean ====
section
/-!
DEFINITION. The effect of a register write: commit registers (R12), registers whose write has rules of its own, banked registers with
direct-write mode (R210 to R212, R159), and what follows a change of a live field.
-/
namespace Sys2Proof.Machine

/-- The state an outcome leaves. -/
def settled (r : Host.Outcome State Fault Refusal) (s : State) : State :=
  match r with
  | .next t => t
  | _ => s

/-! ### Commit registers (R12) -/

/-- QUE_STATECMD: OP in bits [18:16] on a queue or its set (R82). -/
def State.queStateCmd (s : State) (o : Origin) (v : Nat) : State :=
  let q : Fin 65536 := Fin.ofNat 65536 v
  let set := bitOf v 19
  match fieldOf v 16 3 with
  | 1 => settled (execQueueEnable o q set s) s
  | 2 => settled (execQueueFreeze o q set s) s
  | 3 => settled (execQueueDrain o q set s) s
  | 4 => settled (execQueueDisable o q set s) s
  | 5 => settled (execQueueFlush o q set s) s
  | _ => s.setBit R.QUE_STATUS F.QUE_STATUS_BADCMD

/-- ACQUIRE, RENEW and RELEASE of a queue's lock (R85). -/
def State.queLockCmd (s : State) (o : Origin) (q op deadline : Nat) : State :=
  let q : Fin 65536 := Fin.ofNat 65536 q
  match op with
  | 1 => settled (execQueueLockAcquire o q (.ofNat 16 deadline) s) s
  | 2 => settled (execQueueLockRenew o q (.ofNat 16 deadline) s) s
  | 3 => settled (execQueueLockRelease o q s) s
  | _ => s.setBit R.QUE_STATUS F.QUE_STATUS_BADCMD

/-- POL_FLOWCMD (R106). -/
def State.polFlowCmd (s : State) (o : Origin) (op : Nat) : State := if op = 0 then s.flowRefused else s.flowCommand op o.toNat

/-- GST_LOCKCMD (R126, R127). -/
def State.gstLockCmd (s : State) (o : Origin) (v : Nat) : State :=
  let lock : Fin 256 := Fin.ofNat 256 (fieldOf v 54 8)
  let deadline : BitVec 16 := .ofNat 16 (fieldOf v 38 16)
  match fieldOf v 0 3 with
  | 1 => settled (execRegionLockAcquire o lock (.ofNat 31 (fieldOf v 7 31)) (Fin.ofNat 16 (fieldOf v 3 4)) deadline s) s
  | 2 => settled (execRegionLockRenew o lock deadline s) s
  | 3 => settled (execRegionLockRelease o lock s) s
  | _ => s.badLock

/-- JCK_TBLCMD, and whether it is over. OP 0 sets RESULT to BADARG (R207). -/
def State.jckTblCmd (s : State) (o op : Nat) : Bool × State :=
  match op with
  | 1 => s.tblRead o
  | 2 => s.tblWrite o
  | 3 => s.tblDelete o
  | _ => (true, if s.bit (R.GAF_EPSTAT 1) F.GAF_EPSTAT_COMMIT_PEND then s.setBit R.JCK_STATUS F.JCK_STATUS_CFG_REFUSED
      else s.tblResult TR.BADARG)

/-- PTN_RSTCMD (R233, R234). -/
def State.ptnRstCmd (s : State) (v : Nat) : State :=
  let pt : Fin 64 := Fin.ofNat 64 v
  match fieldOf v 8 2 with
  | 1 => settled (execPtnFundAssert pt s) s
  | 2 => settled (execPtnFundRelease pt s) s
  | 3 => settled (execPtnHot pt s) s
  | _ => s.setBit R.PTN_STATUS F.PTN_STATUS_BADCMD

/-- QEP_VFCMD (R243). -/
def State.qepVfCmd (s : State) (v : Nat) : State :=
  let n := fieldOf v 2 13
  let vf : Fin 4097 := Fin.ofNat 4097 n
  if n = 0 ∨ 4096 < n then s.vfBad
  else match fieldOf v 0 2 with
    | 1 => settled (execVfAttach vf (Fin.ofNat 64 (fieldOf v 15 6)) (.ofNat 4 (fieldOf v 21 4)) (.ofNat 8 (fieldOf v 25 8))
        (.ofNat 6 (fieldOf v 33 6)) s) s
    | 2 => settled (execVfDetach vf s) s
    | _ => s.vfBad

/-- FTX_CMD (R318, R320). -/
def State.ftxCmd (s : State) (v : Nat) : State :=
  let f : Fin 16 := Fin.ofNat 16 (fieldOf v 4 4)
  match fieldOf v 0 3 with
  | 1 => settled (execFtxApply f s) s
  | 2 => settled (execFtxRehome f s) s
  | 3 => settled (execFabricTakeover f s) s
  | 4 => settled (execFabricRestore f s) s
  | _ => s.setBit R.FTX_STATUS F.FTX_STATUS_BADCMD

/-- MBX_CMD of frame `x` (R339 to R344). -/
def State.mbxFrameCmd (s : State) (o : Origin) (x v : Nat) : State :=
  let m : Fin 512 := Fin.ofNat 512 x
  let host := mbxHost x
  let arg : BitVec 16 := .ofNat 16 (fieldOf v 16 16)
  match fieldOf v 0 3 with
  | 1 => settled (execMbxSend o m host arg s) s
  | 2 => settled (execMbxAck o m host (.ofNat 16 (fieldOf v 32 16)) arg s) s
  | 3 => settled (execMbxClaim o m host (.ofNat 16 (fieldOf v 48 16)) s) s
  | 4 => settled (execMbxRelease o m host s) s
  | 5 => settled (execMbxReset o m host s) s
  | _ => s.mbxCmd o.toNat m.val host (fun s x => s.mbxBad x)

/-- CMD_OP of slot `k`: the handle must be valid and name the slot (R347). -/
def State.cmdOp (s : State) (o : Origin) (k v : Nat) : State :=
  let slot : Fin 16 := Fin.ofNat 16 k
  let gen : BitVec 12 := .ofNat 12 (fieldOf v 4 12)
  if fieldOf v 0 4 ≠ k ∨ !bitOf v 16 then s.cmdBad
  else match fieldOf v 17 3 with
    | 1 => s.slotIssue o.toNat k (fieldOf v 4 12) (fieldOf v 20 8) (bitOf v 28) (fieldOf v 29 11)
    | 2 => settled (execCmdSuspend o slot gen s) s
    | 3 => settled (execCmdResume o slot gen s) s
    | 4 => settled (execCmdCancel o slot gen s) s
    | 5 => settled (execCmdRetire o slot gen s) s
    | _ => s.cmdBad

/-- FLT_CMD (R367, R370, R371). -/
def State.fltCmd (s : State) (o : Origin) (v : Nat) : State :=
  let kind : BitVec 4 := .ofNat 4 (fieldOf v 16 4)
  let index : BitVec 16 := .ofNat 16 (fieldOf v 20 16)
  match fieldOf v 0 3 with
  | 1 => s.clearRec (fieldOf v 8 6)
  | 2 => settled (execFltLift kind index s) s
  | 3 => settled (execFltHold o kind index s) s
  | 4 => settled (execFltFatal o s) s
  | 5 => settled (execFltReset s) s
  | _ => s.fltBad

/-- RST_CMD (R399, R416). -/
def State.rstCmd (s : State) (v : Nat) : State :=
  let key : BitVec 16 := .ofNat 16 (fieldOf v 16 16)
  match fieldOf v 0 2 with
  | 1 => settled (execRstWarm key s) s
  | 2 => settled (execStartCore0 key s) s
  | _ => s.setBit R.RST_STATUS F.RST_STATUS_BADCMD

/-- The effect of a 64-bit write of a commit register other than JCK_TBLCMD. -/
def State.commitWrite (s : State) (o : Origin) (x : RegAt) (v : Nat) : State :=
  let n : Fin 64 := Fin.ofNat 64 x.i
  match x.card.reg with
  | .CRU_COMMIT => (settled (execCruCommit (bitOf v 0) s) s)
  | .QUE_CTXCMD => (match fieldOf v 0 2 with
      | 1 => settled (execCtxRead o s) s
      | 2 => settled (execCtxWrite o s) s
      | _ => s.setBit R.QUE_STATUS F.QUE_STATUS_CFG_REFUSED)
  | .QUE_STATECMD => (s.queStateCmd o v)
  | .QUE_LOCKCMD => (s.queLockCmd o (fieldOf v 16 16) (fieldOf v 0 2) (fieldOf v 32 16))
  | .QUE_LOCKFORCE => (s.forceQueueLocks (lo32 v) (hi32 v))
  | .QUE_QLOCK => (if fieldOf v 0 2 = 0 then s else s.queLockCmd o x.i (fieldOf v 0 2) (fieldOf v 16 16))
  | .POL_FLOWCMD => (s.polFlowCmd o (fieldOf v 0 2))
  | .GST_LOCKCMD => (s.gstLockCmd o v)
  | .GST_FORCE => (s.forceGst (lo32 v) (hi32 v))
  | .GAF_COMMIT => (settled (execGafCommit (bitOf v 0) (bitOf v 1) (bitOf v 2) (bitOf v 3) (.ofNat 32 (hi32 v)) s) s)
  | .GAF_CORECMD => (match fieldOf v 0 2 with
      | 1 => s.firmwareSwap (bitOf v 2)
      | 2 => settled (execCoreTakeover (Fin.ofNat 32 (fieldOf v 8 5)) s) s
      | _ => s)
  | .PTN_RSTCMD => (s.ptnRstCmd v)
  | .QEP_VFCMD => (s.qepVfCmd v)
  | .LNE_RETRIM => (match fieldOf v 0 2 with
      | 1 => settled (execRetrimStart n (Fin.ofNat 8 (fieldOf v 2 3)) s) s
      | 2 => settled (execRetrimAbort n s) s
      | _ => s)
  | .LNE_MARGCMD => (match fieldOf v 0 2 with
      | 1 => settled (execMarginRun n (Fin.ofNat 9 x.j) s) s
      | 2 => settled (execMarginAbort n (Fin.ofNat 9 x.j) s) s
      | _ => s)
  | .CAN_CMD => (if fieldOf v 0 2 = 1 then
      settled (execCaneRetrain (Fin.ofNat 256 x.i) (Fin.ofNat 32 (fieldOf v 2 5)) (Fin.ofNat 4 (fieldOf v 7 2)) (bitOf v 9) s) s else s)
  | .FTX_CMD => (s.ftxCmd v)
  | .MBX_FORCE => (s.forceMbx (lo32 v) (hi32 v))
  | .MBX_CMD => (s.mbxFrameCmd o x.i v)
  | .CMD_FORCE => (s.forceCmd (lo32 v) (hi32 v))
  | .CMD_OP => (s.cmdOp o x.i v)
  | .FLT_CMD => (s.fltCmd o v)
  | .EMB_WDKICK => (s.wdKick (fieldOf v 0 16))
  | .RST_CMD => (s.rstCmd v)
  | _ => s

/-! ### Registers with rules of their own -/

/-- An enabled mailbox of the same PT, FN and SLOT exists; the PF's frames are not told apart by SLOT (MBX_CFG). -/
def State.mbxTwin (s : State) (m v : Nat) : Bool :=
  bitOf v 0 && fieldOf v 7 13 != 0 && (List.range 512).any (fun k => k != m && s.bit (R.MBX_CFG k) F.MBX_CFG_EN &&
    s.mbxPt k == fieldOf v 1 6 && s.mbxFn k == fieldOf v 7 13 && s.get (R.MBX_CFG k) F.MBX_CFG_SLOT == fieldOf v 20 4)

/-- The held part of a WO field and whether GO is written: CRU_RETADD and GST_RETADD (R11). -/
def State.writeHeld (s : State) (x : RegAt) (mask v : Nat) : Nat × Bool × State :=
  let keep := SMap.get s.wo 0 x.ref.addr
  let low := if bitOf mask 0 then v % 2 ^ 32 else keep
  (low, bitOf mask 63 && bitOf v 63, { s with wo := SMap.set s.wo 0 x.ref.addr low })

/-- Registers whose write follows a rule of its own in place of the general one; `nv` is the value composed of both halves (R11). A write of
MBX_CFG that would make two enabled mailboxes alike is refused whole (R467; DESIGN CHOICE, log entry 122). -/
def State.writeSpecial (s : State) (o : Origin) (x : RegAt) (mask v nv : Nat) : Option State :=
  let low (t : State) : State := if bitOf mask 0 then t else s
  match x.card.reg with
  | .GST_FNPOOL => if 65536 < fieldOf nv 0 16 + fieldOf nv 16 16 then some (low (s.refuse x)) else none
  | .GST_POOLMAP =>
    let old := s.rd x.ref
    if (bitOf old 16 && fieldOf nv 0 16 != fieldOf old 0 16) || (bitOf nv 16 && !bitOf old 16 && s.underTest (fieldOf nv 0 16)) then
      some (low (s.refuse x)) else none
  | .PRT_OCTCFG => if x.i % 2 = 1 ∧ fieldOf nv 1 3 = 6 then some (low (s.refuse x)) else none
  | .GAF_DEBUG => some (low (settled (execDirectModeWrite (.ofNat 3 nv) (bitOf nv 3) (.ofNat 16 (fieldOf v 16 16)) s) s))
  | .QEP_NODEOWN => some (low (settled (execNodeownWrite (Fin.ofNat 18432 x.i) (.ofNat 13 nv) s) s))
  | .CMD_ARG => some (settled (execCmdArgWrite o (Fin.ofNat 16 x.i) (Fin.ofNat 4 x.j) (.ofNat 64 nv) s) s)
  | .FLT_CODECFG => some (low (s.writeCodecfg x.i nv))
  | .EMB_WDCFG => some (low (s.writeWdcfg nv))
  | .PWR_SHEDSTAT => some (s.shedRestore (Nat.land v mask))
  | .LTH_RGN => some (s.writeRgn x.i nv)
  | .TAL_SMPPTR => some (low (s.writeSampleRd (fieldOf nv 16 13)))
  | .MBX_CFG => if !s.bit (R.MBX_CFG x.i) F.MBX_CFG_EN && s.mbxTwin x.i nv then some (low (s.refuse x)) else none
  | .CRU_RETADD =>
    let (low, go, s) := s.writeHeld x mask v
    some (settled (execCruRetadd (Fin.ofNat 786432 (fieldOf low 0 20)) (go && decide (fieldOf low 0 20 < 786432)) s) s)
  | .GST_RETADD =>
    let (low, go, s) := s.writeHeld x mask v
    some (settled (execGstRetadd (.ofNat 25 low) go s) s)
  | _ => none

/-! ### Banked registers -/

/-- Live fields of a banked register have one copy, which the write changes at once (R467). -/
def State.liveBoth (s : State) (x : RegAt) (nv : Nat) : State :=
  (x.card.fields.filter (fun f => f.cls == .live && f.acc == .rw)).foldl (fun s f =>
    (s.put x.ref f.f (fieldOf nv f.f.lo f.f.w)).putAct x.ref f.f (fieldOf nv f.f.lo f.f.w)) s

/-- What a partial write of a record's word is composed with in direct-write mode: the word as last written (R11, R212). -/
def State.lastWritten (s : State) (x : RegAt) : Nat := (SMap.get s.gaf.holding none x.ref.addr).getD (s.rd x.ref)

/-- An attachment written in direct-write mode: into both banks, unless a commit would refuse it (R154, R159). -/
def State.xcfgDirect (s : State) (x : RegAt) (nv : Nat) : State :=
  let old := s.rdAct x.ref
  let t := s.wrBoth x.ref nv
  let moved := bitOf old 5 && bitOf nv 5 && fieldOf old 0 5 != fieldOf nv 0 5
  if moved || (List.range 64).any (fun i => t.regionFails (24 + x.i) i) then s.setBit R.GAT_STATUS F.GAT_STATUS_CFG_PAIRERR else t

/-- A write of a banked register in direct-write mode. -/
def State.writeDirect (s : State) (x : RegAt) (mask v : Nat) : State :=
  let nv := (writeValue x.card true false false (s.lastWritten x) mask v).1
  let s := s.liveBoth x nv
  match gateOf x with
  | some g => (match x.card.reg with
      | .GAT_XCFG => s.xcfgDirect x nv
      | .GAT_RGNA => { s with gaf := { s.gaf with holding := SMap.set s.gaf.holding none x.ref.addr (some nv) } }
      | .GAT_RGNB => settled (execGateRegionDirectWrite (Fin.ofNat 32 g) (Fin.ofNat 64 x.j) (.ofNat 64 nv) s) s
      | _ => s.wrBoth x.ref nv)
  | none => (match domainOf x.ref.addr with
      | some d => s.directWrite d x.ref 0 nv
      | none => s)

/-- The bank of a register is in direct-write mode (R211). -/
def State.inDirect (s : State) (x : RegAt) : Bool :=
  if (gateOf x).isSome then s.bit R.GAF_DEBUG F.GAF_DEBUG_GDIR
  else match domainOf x.ref.addr with
    | some d => s.direct d
    | none => false

/-! ### What follows a change -/

/-- ENABLE of the scheduler rises: the credit of each port node loads CREDIT_INIT (SCH_CTL). -/
def State.loadCredits (s : State) : State :=
  (List.range 512).foldl (fun s p =>
    s.setPortCredit p (s.getAct (R.SCH_NODECFG (portNode p)) F.SCH_NODECFG_CREDIT_INIT : Nat)) s

/-- ENABLE and RETRAIN of a port (PRT_CTL, R297, R300). -/
def State.portCtlEffect (s : State) (p : Nat) (was rt : Bool) : State :=
  let en := s.bit (R.PRT_CTL p) F.PRT_CTL_ENABLE
  let s := if en && !was then s.settleCane p else if was && !en && s.caneMode p then s.linkFails p 11 else s
  if rt then settled (execPortRetrain (Fin.ofNat 256 p) s) s else s

/-- What follows a general write: `s0` is the state before it, `v` the bits written under `mask`. -/
def State.regEffect (s0 s : State) (x : RegAt) (mask v : Nat) : State :=
  let r := x.ref
  let rose (f : Fld) : Bool := !s0.bit r f && s.bit r f
  let fell (f : Fld) : Bool := s0.bit r f && !s.bit r f
  let set (f : Fld) : Bool := bitOf mask f.lo && bitOf v f.lo
  match x.card.reg with
  | .CRU_COQCFG => if 2056 ≤ x.i then s.put r F.CRU_COQCFG_MODE 0 else s
  | .CRU_HOLDTO => s.endOldHolds
  | .PTN_CFG => s.perstMoved x.i (s0.get r F.PTN_CFG_PERST_SEL) (s.get r F.PTN_CFG_PERST_SEL)
  | .SCH_CTL => if rose F.SCH_CTL_ENABLE then s.loadCredits else s
  | .FTX_CTL => if rose F.FTX_CTL_ENABLE then (s.put r F.FTX_CTL_ENABLE 0).ftxEnable else s
  | .PRT_CTL =>
    (pairOctets x.i).foldl State.settleOctet (s.portCtlEffect x.i (s0.bit r F.PRT_CTL_ENABLE) (set F.PRT_CTL_RETRAIN))
  | .PRT_OCTCFG => (pairOctets (4 * x.i)).foldl State.settleOctet s
  | .LNE_OCTCTL => s.settleOctet x.i
  | .PRT_SLOT => (s.slotRequest (s0.get r F.PRT_SLOT_CHAN)).slotRequest (s.get r F.PRT_SLOT_CHAN)
  | .SLT_CTL =>
    let s := if s0.rd r = s.rd r then s else s.slotRequest x.i
    if set F.SLT_CTL_UNLATCH then s.slotUnlatch x.i else s
  | .CAN_CRDCFG => s.settleCane x.i
  | .PWR_FEEDCFG => if rose F.PWR_FEEDCFG_EN || fell F.PWR_FEEDCFG_EN then s.feedEnWrite x.i else s
  | .PWR_CTL => s.capSettle
  | .HLD_CFG => s.hldSettle.chargerSettle
  | .MON_THR => s.wr r (clampThr x.i (s.rd r))
  | .TAL_SMPCFG => if rose F.TAL_SMPCFG_EN then { s with smpSeen := 0 } else s
  | .EMB_CLKFORCE => (List.range 16).foldl (fun s k => if bitOf (s.get r F.EMB_CLKFORCE_TILE_ON) k then s.tileWake k else s) s
  | .MBX_CFG => if fell F.MBX_CFG_EN then s.mbxDisable x.i else s
  | .RST_CTL =>
    let s := s.put r F.RST_CTL_SYSTEM_READY (s0.get r F.RST_CTL_SYSTEM_READY)
    if set F.RST_CTL_SYSTEM_READY then s.systemReady else s
  | _ => s

/-! ### One write -/

/-- A write of a register by the general rule: field by field, with refusals recorded (R11, R15, R17, R467). -/
def State.writeGeneral (s : State) (x : RegAt) (mask v : Nat) : State :=
  if banked x && s.inDirect x then s.writeDirect x mask v
  else
    let (nv, bad) := writeValue x.card (s.quiet x.card.reg x.i) (banked x) (s.bankPending x) (s.rd x.ref) mask v
    let t := s.wr x.ref nv
    let t := if banked x then t.liveBoth x nv else t
    let t := s.regEffect t x mask v
    if bad then t.refuse x else t

/-- A write of the bits of `v` under `mask` to a register, and whether it is over: JCK_TBLCMD may have to wait for the gather store. A 32-bit
write of a commit register is ignored and logged (R12); ADDR of the record is the model's own base for a register of a BAR4 control block,
which has no offset in control space (DESIGN CHOICE, log entry 123). -/
def State.writeReg (s : State) (o : Origin) (x : RegAt) (mask v : Nat) : Bool × State :=
  if s.caneOff x then (true, s)
  else if x.card.commit then
    (if mask = 2 ^ 64 - 1 then
      (if x.card.reg = .JCK_TBLCMD then s.jckTblCmd o.toNat (fieldOf v 0 2) else (true, s.commitWrite o x v))
    else (true, s.report FC.REG_WIDTH UK.module 0 o.toNat 0 x.ref.addr))
  else
    let old := s.rd x.ref
    let nv := old - Nat.land old mask + Nat.land v mask
    (true, (s.writeSpecial o x mask v nv).getD (s.writeGeneral x mask v))

end Sys2Proof.Machine
end

