-- ==== Sys2Proof/Machine/Regs.lean ====
section
/-!
DEFINITION. Access to control space, function windows, control blocks and the expansion ROM: REG_WRITE and REG_READ (R11 to R15, R60,
R134, R244, R252, R253, R325, R462).
-/
namespace Sys2Proof.Machine

/-! ### Memory windows (R199, R202, R462) -/

/-- Byte memory that a window of control space shows for reads: its base, and the offset in it. -/
def State.memWindow (s : State) (a : Nat) : Option Nat :=
  if 0x3100000 ≤ a ∧ a < 0x3300000 then some (MB.gprog ((a - 0x3100000) / 0x100000) + (a - 0x3100000) % 0x100000)
  else if 0x3300000 ≤ a ∧ a < 0x33A0000 then some (MB.jprog s.shadowBank + (a - 0x3300000))
  else if 0x3400000 ≤ a ∧ a < 0x3600000 then some (MB.localMem + (a - 0x3400000))
  else if 0x3600000 ≤ a ∧ a < 0x3800000 then some (MB.jackMem + (a - 0x3600000))
  else none

/-- A write of the Jack program store: the shadow bank, ignored during an action commit; both banks in direct-write mode, unless the slot
would fail its check (R202, R210 to R212). -/
def State.writeJackStore (s : State) (off v len : Nat) : State :=
  if s.bit (R.GAF_EPSTAT 1) F.GAF_EPSTAT_COMMIT_PEND then s.setBit R.JCK_STATUS F.JCK_STATUS_CFG_REFUSED
  else
    let t := s.storeWord (MB.jprog s.shadowBank + off) v len
    if !s.direct 1 then t
    else
      let t := t.storeWord (MB.jprog (1 - s.shadowBank) + off) v len
      if t.badSlot (off / 160) then
        (s.put (R.GAF_EPSTAT 1) F.GAF_EPSTAT_CFG_PAIRERR 1).put (R.GAF_EPSTAT 1) F.GAF_EPSTAT_BAD_ITEM (off / 160)
      else t

/-- A write through a memory window; program banks take none while they are in use (R199, R213). -/
def State.writeWindow (s : State) (a v len : Nat) : State :=
  if 0x3300000 ≤ a ∧ a < 0x33A0000 then s.writeJackStore (a - 0x3300000) v len
  else if 0x3100000 ≤ a ∧ a < 0x3300000 ∧
      (s.bit R.GAF_STATUS F.GAF_STATUS_SWAP_BUSY || s.get R.GAF_STATUS F.GAF_STATUS_ACTIVE_BANK == (a - 0x3100000) / 0x100000) then
    s.setBit R.GAF_STATUS F.GAF_STATUS_CFG_REFUSED
  else match s.memWindow a with
    | some b => s.storeWord b v len
    | none => s

/-! ### One access inside a region -/

/-- Registers that the identity region shows (R463). -/
def identity (a : Nat) : Option Nat :=
  match a / 8 with
  | 0 => some R.QEP_ID.addr
  | 1 => some R.QEP_DSN.addr
  | 2 => some R.RST_TRIMSTAT.addr
  | 3 => some R.RST_STRAP.addr
  | 4 => some R.RST_STATUS.addr
  | 5 => some R.EMB_BEAT.addr
  | _ => none

/-- The tile whose port or lane registers an offset names (R392). -/
def tileOf (a : Nat) : Option Nat :=
  if 0x400000 ≤ a ∧ a < 0x500000 then some ((a - 0x400000) / 0x4000 / 4)
  else if 0x800000 ≤ a ∧ a < 0x900000 then some ((a - 0x800000) / 0x1000 / 16)
  else if 0x900000 ≤ a ∧ a < 0x900200 then some ((a - 0x900000) / 8 / 4)
  else if 0x3C00000 ≤ a ∧ a < 0x3D00000 then some ((a - 0x3C00000) / 0x1000 / 16)
  else none

/-- An access of a gated tile wakes it (R392). -/
def State.wakeFor (s : State) (a : Nat) : State :=
  match tileOf a with
  | some k => s.tileWake k
  | none => s

/-- The register may be reached by the master: a host frame only by the function it is assigned to (R338). -/
def State.regOpen (s : State) (o : Nat) (x : RegAt) : Bool := !hostFrame x.ref.addr || s.frameOpen (x.i % 512) o

/-- Read one register word: zero where no register lies (R14); a held step shows reset values. -/
def State.readWord (s : State) (o a mask : Nat) (held : Bool) : Nat × State :=
  match regAt a with
  | none => (0, s)
  | some x =>
    if !s.regOpen o x then (0, s)
    else if held then (s.resetView x, s)
    else s.readReg o x mask

/-- Read inside a region of control space or in a control block. -/
def State.readAt (s : State) (o a len : Nat) (held : Bool) : Nat × State :=
  let w := a / 8 * 8
  let mask := coverMask a len
  if a < 0x1000 then
    (match identity a with
      | some r => partOf (s.readWord o r 0 false).1 a len
      | none => 0, s)
  else if 0xE00000 ≤ a ∧ a < 0xE08000 then (partOf (if held then (msixWord 0 (w - 0xE00000)).rst else s.rd (msixWord 0 (w - 0xE00000))) a len, s)
  else if 0xE08000 ≤ a ∧ a < 0xE08100 then (if held then 0 else partOf (s.pbaWord 0 ((a - 0xE08000) / 8)) a len, s)
  else if 0x2E00000 ≤ a ∧ a < 0x2E20000 then (if held then 0 else partOf (s.rd (R.SMPBUF ((a - 0x2E00000) / 32) (a % 32 / 8))) a len, s)
  else match s.memWindow a with
    | some b => (if held then 0 else s.word b len, s)
    | none =>
      let s := s.wakeFor a
      let (v, s) := s.readWord o w mask held
      (partOf v a len, s)

/-- Write inside a region of control space or in a control block, and whether it is over: a block may not be able to carry it out yet. -/
def State.writeAt (s : State) (o : Origin) (a len v : Nat) : Bool × State :=
  let w := a / 8 * 8
  let mask := coverMask a len
  let wide := v % 2 ^ (8 * len) * 2 ^ (8 * (a % 8))
  if a < 0x1000 ∨ (0xE08000 ≤ a ∧ a < 0xE08100) ∨ (0x2E00000 ≤ a ∧ a < 0x2E20000) then (true, s)
  else if 0xE00000 ≤ a ∧ a < 0xE08000 then (true, s.writeMsix 0 (w - 0xE00000) mask wide)
  else if (s.memWindow a).isSome then (true, s.writeWindow a v len)
  else
    let s := s.wakeFor a
    match regAt w with
    | none => (true, s)
    | some x => if s.regOpen o.toNat x then s.writeReg o x mask wide else (true, s)

/-- A write is acknowledged once it is over. -/
def written : Bool × State → RegRes
  | (true, t) => .done 0 t
  | (false, t) => .wait t

/-! ### The side window (R325) -/

/-- The offset lies in the window, and the side address it names. -/
def sideWindow (a : Nat) : Bool := decide (0x3A00000 ≤ a) && decide (a < 0x3C00000)
def State.sideAddr (s : State) (a : Nat) : Nat := s.get R.LTH_WIN F.LTH_WIN_BASE * 2 ^ 21 + (a - 0x3A00000)

/-! ### Access to control space (R11 to R14, R148) -/

/-- The access is not 4 or 8 bytes, or not naturally aligned (R13). -/
def badShape (a len : Nat) : Bool := !(len == 4 || len == 8) || a % len != 0

/-- R13: misshapen, or outside every region. -/
def badAccess (a len : Nat) : Bool := badShape a len || (regionStep a).isNone

/-- REG_ALIGN is logged. -/
def State.logAlign (s : State) (o a : Nat) : State := s.report FC.REG_ALIGN UK.module 0 o 0 a

/-- What becomes of the decision of the gate in front of control space: it stands for an access that waits (R156). -/
def RegRes.gated (r : RegRes) (a len kind o who : Nat) : RegRes :=
  let free (t : State) : State := t.gateFree (controlGate a) a len kind o who
  match r with
  | .wait t => .wait (t.gateBind (controlGate a) a len kind o who)
  | .denied t => .denied (free t)
  | .err t => .err (free t)
  | .none' t => .none' (free t)
  | .out t => .out (free t)
  | .done v t => .done v (free t)

/-- A read of control space past its gate. The side window of a held bridge answers with an error status (R34). -/
def State.regServe (s : State) (o : Nat) (who : SideWho) (a len : Nat) : RegRes :=
  if badAccess a len then .err (s.logAlign o a)
  else
    let held := s.stepHeld ((regionStep a).getD 0)
    if sideWindow a then (if held then .err s else s.sideLoad o (s.sideAddr a) len who)
    else
      let (v, t) := s.readAt o a len held
      .done v t

/-- A read of control space under origin tag `o`. -/
def State.regRead (s : State) (o : Nat) (who : SideWho) (a len : Nat) : RegRes :=
  let (ok, s1) := s.controlAllowed o who.no a len AK.read
  if !ok then .denied s1 else (s1.regServe o who a len).gated a len AK.read o who.no

/-- A write of control space past its gate: a block that is held in reset ignores it, a held side bridge answers with an error (R34). -/
def State.regTake (s : State) (o : Nat) (who : SideWho) (a len v : Nat) : RegRes :=
  if badAccess a len then .err (s.logAlign o a)
  else if s.stepHeld ((regionStep a).getD 0) then (if sideWindow a then .err s else .done 0 s)
  else if sideWindow a then s.sideStore o (s.sideAddr a) len v who
  else written (s.writeAt (.ofNat 32 o) a len v)

/-- A write of control space under origin tag `o`. -/
def State.regWrite (s : State) (o : Nat) (who : SideWho) (a len v : Nat) : RegRes :=
  let (ok, s1) := s.controlAllowed o who.no a len AK.write
  if !ok then .denied s1 else (s1.regTake o who a len v).gated a len AK.write o who.no

/-! ### Windows of the host (R60, R244, R252, R253) -/

/-- What BAR0 of a function other than the PF shows at an offset (R252). -/
inductive FnWord where
  | msix (off : Nat)
  | pba
  | frame (m off : Nat)
  | empty

def State.fnWord (s : State) (f pt off : Nat) : FnWord :=
  if off < 0x400 then .msix off
  else if off = 0x800 then .pba
  else if 0x1000 ≤ off ∧ off < 0x2000 then
    (match s.frameOf f pt ((off - 0x1000) / 0x100) with
      | some m => .frame m (off % 0x100)
      | none => .empty)
  else .empty

/-- Address of a register in the host frame of mailbox `m`. -/
def frameAddr (m off : Nat) : Nat := 0x2630000 + 0x100 * m + off

/-- A read of a function window. -/
def State.fnRead (s : State) (o a len : Nat) : RegRes :=
  let f := oFn o
  if 0x4000 ≤ a then .none' s
  else if badShape a len then .err (s.logAlign o a)
  else if s.stepHeld 10 then .done 0 s
  else match s.fnWord f (oPt o) (a / 8 * 8) with
    | .msix off => .done (partOf (s.rd (msixWord f off)) a len) s
    | .pba => .done (partOf (s.pbaWord f 0) a len) s
    | .frame m off =>
      let (v, t) := s.readWord o (frameAddr m off) (coverMask a len) (s.stepHeld 9)
      .done (partOf v a len) t
    | .empty => .done 0 s

/-- A write of a function window. -/
def State.fnWrite (s : State) (o a len v : Nat) : RegRes :=
  let f := oFn o
  let mask := coverMask a len
  let wide := v % 2 ^ (8 * len) * 2 ^ (8 * (a % 8))
  if 0x4000 ≤ a then .none' s
  else if badShape a len then .err (s.logAlign o a)
  else if s.stepHeld 10 then .done 0 s
  else match s.fnWord f (oPt o) (a / 8 * 8) with
    | .msix off => .done 0 (s.writeMsix f off mask wide)
    | .frame m off =>
      if s.stepHeld 9 then .done 0 s
      else (match regAt (frameAddr m off) with
        | some x => written (s.writeReg (.ofNat 32 o) x mask wide)
        | none => .done 0 s)
    | .pba | .empty => .done 0 s

/-- Queue of a BAR4 offset, and the offset in its half of the page: doorbell below 0x800, control blocks above (R60). -/
def pageQueue (a : Nat) : Nat := 16 * (a / 4096) + a % 2048 / 128
def inBlocks (a : Nat) : Bool := decide (2048 ≤ a % 4096)

/-- Address of a control block register in the model's map. -/
def blockAddr (a : Nat) : Nat := 2 ^ 32 + 0x80 * pageQueue a + a % 128

/-- A read in BAR4: doorbells and blocks of pages that are not the function's read zero, whatever the access (R60, R61, R244). -/
def State.pageRead (s : State) (o a len : Nat) : RegRes :=
  if !inBlocks a || !s.ownsPage (oFn o) (pageQueue a) then .done 0 s
  else if badShape a len then .err (s.logAlign o a)
  else
    let (v, t) := s.readAt o (blockAddr a) len (s.stepHeld 8)
    .done v t

/-- A control block is locked against the writer: ring and interrupt registers stay as they are (R86). -/
def State.blockLocked (s : State) (o a : Nat) : Bool :=
  (a % 128 / 8 == 0 || a % 128 / 8 == 2 || a % 128 / 8 == 4) && s.lockedOut (pageQueue a) o

/-- A write of a control block: of a page that is not the function's it is dropped and counted, whatever the access (R60, R86, R244). -/
def State.blockWrite (s : State) (o a len v : Nat) : RegRes :=
  let q := pageQueue a
  if !s.ownsPage (oFn o) q then .done 0 (if s.stepHeld 8 then s else (s.badWrite (oFn o)).queErrLog q 3 (oFn o) (oPt o))
  else if badShape a len then .err (s.logAlign o a)
  else if s.stepHeld 8 then .done 0 s
  else if s.blockLocked o a then .done 0 (s.setBit (R.QUE_QINFO q) F.QUE_QINFO_REFUSED)
  else written (s.writeAt (.ofNat 32 o) (blockAddr a) len v)

/-- A write of a doorbell slot, which the endpoint takes from held functions too, to drop and count it (R32, R61). -/
def State.doorbell (s : State) (o a len v : Nat) : State :=
  settled (execDoorbellWrite (.ofNat 32 o) (Fin.ofNat 65536 (pageQueue a)) (Fin.ofNat 128 a) (leBytes v len) true s) s

/-- Bytes of the host option image, from its PCI expansion ROM header (R253). -/
def State.romLength (s : State) : Nat := 512 * (s.byte (NAND.option + s.word (NAND.option + 0x18) 2 + 0x10)).toNat

/-- A byte of the expansion ROM: of the image as it lies in NAND, zero beyond it. -/
def State.romByte (s : State) (a : Nat) : Byte := if a < s.romLength then s.byte (NAND.option + a) else 0

/-- The expansion ROM of a function answers (R253). -/
def State.romOn (s : State) (f : Nat) : Bool := (s.fn f).romEn && s.bit R.QEP_ID F.QEP_ID_ROM_PRESENT && !s.isSriov f

/-- A host read through one of the windows of its function. -/
def State.hostRead (s : State) (o : Nat) (who : SideWho) (bar : BarRef) (a len : Nat) : RegRes :=
  match bar with
  | .bar0 => if oFn o = 0 then s.regRead o who a len else s.fnRead o a len
  | .bar4 => if a < 2 ^ 24 then s.pageRead o a len else .none' s
  | .rom => if s.romOn (oFn o) && decide (a < 2 ^ 20) then .done (leValue ((List.range len).map (fun i => (s.romByte (a + i)).toNat))) s else .none' s

/-- A host write through one of the windows of its function, doorbell slots apart. -/
def State.hostWrite (s : State) (o : Nat) (who : SideWho) (bar : BarRef) (a len v : Nat) : RegRes :=
  match bar with
  | .bar0 => if oFn o = 0 then s.regWrite o who a len v else s.fnWrite o a len v
  | .bar4 => if a < 2 ^ 24 then s.blockWrite o a len v else .none' s
  | .rom => .done 0 s

/-! ### REG_WRITE and REG_READ -/

/-- REG_READ: `len` bytes at offset `a` of a window (R15). -/
def execRegRead (m : Master) (bar : BarRef) (a : BitVec 26) (len : Fin 4097) (s : State) : Host.Outcome State Fault Refusal :=
  let o := s.masterOrigin m
  .next (s.masterRead m len.val (fun s => match m with
    | .core _ => if bar = .bar0 then s.regRead o (sideOf m) a.toNat len.val else .err s
    | .host _ _ => s.hostRead o (sideOf m) bar a.toNat len.val))

/-- A host write lands in a doorbell slot. -/
def toDoorbell (m : Master) (bar : BarRef) (a : Nat) : Bool :=
  match m with
  | .core _ => false
  | .host _ _ => bar == .bar4 && decide (a < 2 ^ 24) && !inBlocks a

/-- REG_WRITE: the low `len` bytes of `v` at offset `a` of a window (R11). -/
def execRegWrite (m : Master) (bar : BarRef) (a : BitVec 26) (len : Fin 4097) (v : BitVec 64) (s : State) :
    Host.Outcome State Fault Refusal :=
  let o := s.masterOrigin m
  .next (if toDoorbell m bar a.toNat then s.doorbell o a.toNat len.val v.toNat
    else s.masterWrite m (fun s => match m with
      | .core _ => if bar = .bar0 then s.regWrite o (sideOf m) a.toNat len.val v.toNat else .err s
      | .host _ _ => s.hostWrite o (sideOf m) bar a.toNat len.val v.toNat))

/-! ### Reads with a row of their own: their registers serve them one at a time -/

/-- A read of the word of register `r`, which `f` serves once it is allowed; a block held in reset shows the reset value (R400). -/
def State.readOne (s : State) (m : Master) (r : RegRef) (f : State → Nat × State) : State :=
  s.masterRead m 8 (fun s =>
    let (ok, s) := s.controlAllowed (s.masterOrigin m) (sideOf m).no r.addr 8 AK.read
    if !ok then .denied s
    else if s.stepHeld ((regionStep r.addr).getD 0) then .done r.rst s
    else
      let (v, t) := f s
      .done v t)

/-- TALLY_READ: TAL serves the read with the value of this beat (R381). -/
def execTallyRead (m : Master) (c : TallyRef) (s : State) : Host.Outcome State Fault Refusal :=
  .next (s.readOne m (tallyReg c) (fun s => (s.rd (tallyReg c), s)))

/-- CMD_ALLOC: the reader receives the handle (R346). -/
def execCmdAlloc (m : Master) (s : State) : Host.Outcome State Fault Refusal :=
  .next (s.readOne m R.CMD_ALLOC (fun s => s.cmdAlloc (s.masterOrigin m)))

end Sys2Proof.Machine
end

