-- ==== Sys2Proof/Machine/LoadStore.lean ====
section
/-!
DEFINITION. LD and ST (R171, R172), the performance of buffered normal stores (R135 to R137), the acknowledgement of device stores
(R133, R134), and stores that fail after the core has gone on (R190).
-/
namespace Sys2Proof.Machine

/-- Sizes of the spaces of R171 (space 0 by R197 and R198). -/
def spaceSize : Nat → Nat
  | 0 => 2 ^ 21
  | 1 => 2 ^ 37
  | 2 => 2 ^ 26
  | 3 => 2 ^ 28
  | 4 => 2 ^ 32
  | _ => 0

/-- A listed space, with the offset inside it. -/
def openAddr (a : Nat) : Bool := decide (offOf a < spaceSize (spaceOf a))

/-- Effective address of LD and ST: gA + sext(DISP), modulo 2^64 (R172). -/
def effAddr (base disp : Nat) : Nat := (base + sext disp 20) % 2 ^ 64

/-- The exception an access of `n` bytes at `a` raises before it is made (R171, R172, R195). -/
def accessExc (ag : Agent) (x : Core) (a n : Nat) : Option Nat :=
  if a % n ≠ 0 then some EX.ALIGN
  else match ag with
    | .lane _ => if normalAddr a then none else some EX.BUS_ERR
    | .core _ =>
      if x.priv = 2 ∧ 2 ≤ spaceOf a ∧ spaceOf a ≤ 4 then some EX.PRIV
      else if openAddr a then none else some EX.BUS_ERR

/-- The value a load of `n` bytes writes. -/
def loaded (v n : Nat) (sx : Bool) : Nat := if sx then sext (v % 2 ^ (8 * n)) (8 * n) else v % 2 ^ (8 * n)

/-- A counted device load (class 0x02) or store (class 0x03) of a core (R377). -/
def State.countDevice (s : State) (c : Nat) (cls origin a : Nat) : State :=
  s.tally (ev cls 1 (some origin) (some (spaceOf a, offOf a)) (s.phys c))

/-! ### The crucible management port (R148, GATE17) -/

/-- Gate in front of the management port, and the bytes of cell data behind it. -/
def gateCells : Nat := 17
def cellBytes : Nat := 256 * cellCount

/-- A read of `n` bytes of cell data; the manual gives the link memory no layout, so beyond the cells a free value returns. -/
def State.cellLoad (s : State) (o a n : Nat) : RegRes :=
  let (ok, s1) := s.gateCheck gateCells a n AK.read o
  if !ok then .denied s1
  else if a + n ≤ cellBytes then .done (s1.word (MB.cell + a) n) s1
  else
    let (v, t) := s1.free
    .done v t

/-- A write of `n` bytes of cell data; beyond the cells nothing that the model holds changes. -/
def State.cellStore (s : State) (o a n v : Nat) : RegRes :=
  let (ok, s1) := s.gateCheck gateCells a n AK.write o
  if !ok then .denied s1
  else if a + n ≤ cellBytes then .done 0 (s1.storeWord (MB.cell + a) v n)
  else .done 0 s1

/-! ### LD -/

/-- A load of a device space (R133): it waits for the core's device stores, and for a side access until the bridge answers. -/
def State.deviceLoad (s : State) (c : Fin 32) (rd a n : Nat) (sx : Bool) (insn origin : Nat) : IRes :=
  let ag : Agent := .core c
  let who : SideWho := .load c.val rd sx insn a
  let r := match spaceOf a with
    | 2 => s.regRead origin who (offOf a) n
    | 3 => s.cellLoad origin (offOf a) n
    | _ => s.sideLoad origin (offOf a) n who
  match r with
  | .wait t => .waits t
  | .denied t | .err t | .none' t => .exc t EX.BUS_ERR a
  | .out t => .hold (t.setCore c.val { t.core c.val with run := .held rd })
  | .done v t => .next ((t.countDevice c.val 0x02 origin a).setG ag rd (loaded v n sx))

/-- What the store buffer has for a load: nothing that overlaps it, a store that serves it, or one it must wait for (R136). -/
inductive Forward where
  | none'
  | waits
  | serves (bytes : List Byte)

def Core.forward (x : Core) (a n : Nat) : Forward :=
  match x.sb.reverse.find? (fun e => e.overlaps a n) with
  | none => .none'
  | some e => if e.atom.isNone && decide (e.addr ≤ a) && decide (a + n ≤ e.addr + e.data.length) then
      .serves ((e.data.drop (a - e.addr)).take n) else .waits

/-- A load of normal memory, device-ordered with TA (R132, R135, R136). -/
def State.normalLoad (s : State) (ag : Agent) (rd a n : Nat) (sx ta : Bool) (origin : Nat) : IRes :=
  let x := s.agent ag
  let fwd := x.forward a n
  match (if ta && (x.deviceWaits || x.sbOverlaps a n) then Forward.waits else fwd) with
  | .waits => .wait
  | .serves bs => .next ((s.countAccess ag origin a (.read n)).setG ag rd (loaded (leValue (bs.map (·.toNat))) n sx))
  | .none' => match s.memAccess ag (agentWho ag) origin a (.read n) with
    | (.wait, t) => .waits t
    | (.fail _, t) => .exc t EX.BUS_ERR a
    | (.ok bs, t) => .next (t.setG ag rd (loaded (leValue (bs.map (·.toNat))) n sx))

/-- LD: loads 2^SZ bytes from gA + sext(DISP) into gD (R172). -/
def execLd (iss : By Agent) (rd ra : Fin 32) (sz : Fin 4) (sx ta : Bool) (disp : BitVec 20) (s : State) : Host.Outcome State Fault Refusal :=
  let insn := syl 0x10 rd.val ra.val 0 0 + sz.val * 2 ^ 16 + bit01 sx * 2 ^ 18 + bit01 ta * 2 ^ 19 + disp.toNat * 2 ^ 20
  .next (s.ifDecodes iss.who iss.rsv (s.issue iss.who insn (fun s =>
    let x := s.agent iss.who
    let n := 2 ^ sz.val
    let a := effAddr (x.rg ra.val) disp.toNat
    if sx && sz.val == 3 then .exc s EX.ILLEGAL 0
    else match accessExc iss.who x a n with
      | some code => .exc s code a
      | none =>
        if normalAddr a then s.normalLoad iss.who rd.val a n sx ta (s.agentOrigin iss.who)
        else match iss.who with
          | .core c => if x.deviceWaits then .wait else s.deviceLoad c rd.val a n sx insn (s.agentOrigin iss.who)
          | .lane _ => .exc s EX.BUS_ERR a)))

/-! ### ST -/

/-- ST: stores the low 2^SZ bytes of gD at gA + sext(DISP). A core's store enters its store buffer; a lane's is performed at once
(R136, R138, R172, R195). -/
def execSt (iss : By Agent) (rd ra : Fin 32) (sz : Fin 4) (ta : Bool) (disp : BitVec 20) (s : State) : Host.Outcome State Fault Refusal :=
  let insn := syl 0x11 rd.val ra.val 0 0 + sz.val * 2 ^ 16 + bit01 ta * 2 ^ 19 + disp.toNat * 2 ^ 20
  .next (s.ifDecodes iss.who iss.rsv (s.issue iss.who insn (fun s =>
    let x := s.agent iss.who
    let n := 2 ^ sz.val
    let a := effAddr (x.rg ra.val) disp.toNat
    let origin := s.agentOrigin iss.who
    match accessExc iss.who x a n with
    | some code => .exc s code a
    | none =>
      let bs := leBytes (x.rg rd.val) n
      match iss.who with
      | .core _ => s.buffer iss.who ⟨a, bs, !normalAddr a || ta, none, 0, false, false, origin, false, 0⟩
      | .lane _ => match s.memAccess iss.who (agentWho iss.who) origin a (.write bs) with
        | (.wait, t) => .waits t
        | (.fail _, t) => .exc t EX.BUS_ERR a
        | (.ok _, t) => .next t)))

/-! ### Buffered normal stores (R135, R137, R190) -/

/-- Whether the access of entry `i` of core `c` succeeds; none while it must wait. -/
def State.entrySucceeds (s : State) (c i : Nat) : Option Bool :=
  match (s.core c).sb[i]? with
  | none => none
  | some e => match (s.entryAccess c e).1 with
    | .wait => none
    | .fail _ => some false
    | .ok _ => some true

/-- STORE_PERFORMED: entry `i` of the store buffer of core `c`, a store that succeeds, is performed (R137). One that waits at its target
keeps what a gate has decided on it (R156). -/
def execStorePerformed (c : Fin 32) (i : Fin 16) (s : State) : Host.Outcome State Fault Refusal :=
  .next (if (s.core c.val).mayPerform i.val && s.entrySucceeds c.val i.val != some false then (s.performStore c.val i.val).2 else s)

/-! ### Device stores (R133, R134) -/

/-- How a device store ends at its target. -/
inductive AckRes where
  | wait (s : State)
  | sent (s : State)              -- a side-bridge write whose transfer must end first
  | done (s : State)
  | fail (kind : Nat) (s : State)

/-- Carry out the device store `e` of core `c`. -/
def State.deviceStore (s : State) (c : Nat) (e : StoreEnt) : AckRes :=
  if normalAddr e.addr then
    match s.memAccess (coreAgent c) (storeWho c) e.origin e.addr (.write e.data) with
    | (.wait, t) => .wait t
    | (.fail k, t) => .fail k t
    | (.ok _, t) => .done t
  else
    let v := leValue (e.data.map (·.toNat))
    let n := e.data.length
    let r := match spaceOf e.addr with
      | 2 => s.regWrite e.origin (.store c) (offOf e.addr) n v
      | 3 => s.cellStore e.origin (offOf e.addr) n v
      | _ => s.sideStore e.origin (offOf e.addr) n v (.store c)
    match r with
    | .wait t => .wait t
    | .denied t => .fail 0 t
    | .err t | .none' t => .fail 2 t
    | .out t => .sent t
    | .done _ t => .done (t.countDevice c 0x03 e.origin e.addr)

/-- Index of the device store that is performed next: the oldest one, once no normal store that a FENCE.D or a shared byte puts before
it is buffered, and unless it is at the side bridge (R133, R139). -/
def Core.nextDevice (x : Core) : Option (Nat × StoreEnt) :=
  let i := x.sb.findIdx (·.device)
  match x.sb[i]? with
  | some e => if e.sent = 0 ∧ !(x.sb.take i).any (fun o => o.fenced || o.overlaps e.addr e.len) then some (i, e) else none
  | none => none

/-- Entry `i` of core `c` has become the newest side-bridge request. -/
def State.markSent (s : State) (c i : Nat) : State :=
  let x := s.core c
  s.setCore c { x with sb := x.sb.modify i (fun e => { e with sent := s.lth.nextId }) }

/-- DEVICE_STORE_ACK: the next device store of core `c` is applied by its target and acknowledged (R134). One that fails stays for
STORE_ERR. -/
def execDeviceStoreAck (c : Fin 32) (s : State) : Host.Outcome State Fault Refusal :=
  .next (match (s.core c.val).nextDevice with
    | none => s
    | some (i, e) => match s.deviceStore c.val e with
      | .fail _ _ => s
      | .wait t => t
      | .done t => t.dropStore c.val i
      | .sent t => t.markSent c.val i)

/-- STORE_ERR: entry `i` of the store buffer of core `c` fails at its target: it has no effect there, and SERR_ADDR, SERR_INFO and event
bit 63 record it (R190). -/
def execStoreErr (c : Fin 32) (i : Fin 16) (s : State) : Host.Outcome State Fault Refusal :=
  .next (if (s.core c.val).mayPerform i.val then
      (if s.entrySucceeds c.val i.val == some false then (s.performStore c.val i.val).2 else s)
    else match (s.core c.val).nextDevice with
      | none => s
      | some (j, e) =>
        if j ≠ i.val then s
        else match s.deviceStore c.val e with
          | .fail k t => (t.dropStore c.val j).storeErr c.val e.addr k
          | _ => s)

end Sys2Proof.Machine
end

