-- ==== Sys2Proof/Machine/Dispatch.lean ====
section
/-!
DEFINITION. One arm for each command: its meaning, or its rejection by name.
-/
namespace Sys2Proof.Machine

def exec (cmd : Instr) (s : State) : Host.Outcome State Fault Refusal :=
  match cmd with
  | .regWrite m bar a len v => Sys2Proof.Machine.execRegWrite m bar a len v s
  | .deviceStoreAck c => Sys2Proof.Machine.execDeviceStoreAck c s
  | .storePerformed c i => Sys2Proof.Machine.execStorePerformed c i s
  | .leaseExpired l => Sys2Proof.Machine.execLeaseExpired l s
  | .tlpReceive p t credit err => Sys2Proof.Machine.execTlpReceive p t credit err s
  | .admissionRetry w => Sys2Proof.Machine.execAdmissionRetry w s
  | .holdTimeout p c => Sys2Proof.Machine.execHoldTimeout p c s
  | .cutThroughAbort p c => Sys2Proof.Machine.execCutThroughAbort p c s
  | .egressStage p room => Sys2Proof.Machine.execEgressStage p room s
  | .egressTransmit p lack errs => Sys2Proof.Machine.execEgressTransmit p lack errs s
  | .linkAck p => Sys2Proof.Machine.execLinkAck p s
  | .cruCommit go => Sys2Proof.Machine.execCruCommit go s
  | .cruRetadd cell go => Sys2Proof.Machine.execCruRetadd cell go s
  | .doorbellWrite o q start data full => Sys2Proof.Machine.execDoorbellWrite o q start data full s
  | .payloadFetchStart q => Sys2Proof.Machine.execPayloadFetchStart q s
  | .fetchReadCompletion q d r status data poison => Sys2Proof.Machine.execFetchReadCompletion q d r status data poison s
  | .fetchTimeout q d r => Sys2Proof.Machine.execFetchTimeout q d r s
  | .enqueueRequestDispatch q => Sys2Proof.Machine.execEnqueueRequestDispatch q s
  | .dequeueDecision pl => Sys2Proof.Machine.execDequeueDecision pl s
  | .dequeueName pl => Sys2Proof.Machine.execDequeueName pl s
  | .deliveryRead d flips => Sys2Proof.Machine.execDeliveryRead d flips s
  | .rxHeaderIssue d => Sys2Proof.Machine.execRxHeaderIssue d s
  | .modTimeExpiry q rx => Sys2Proof.Machine.execModTimeExpiry q rx s
  | .queueEnable o q set => Sys2Proof.Machine.execQueueEnable o q set s
  | .queueFreeze o q set => Sys2Proof.Machine.execQueueFreeze o q set s
  | .queueDrain o q set => Sys2Proof.Machine.execQueueDrain o q set s
  | .queueDisable o q set => Sys2Proof.Machine.execQueueDisable o q set s
  | .queueFlush o q set => Sys2Proof.Machine.execQueueFlush o q set s
  | .queueDrained q => Sys2Proof.Machine.execQueueDrained q s
  | .ctxRead o => Sys2Proof.Machine.execCtxRead o s
  | .ctxWrite o => Sys2Proof.Machine.execCtxWrite o s
  | .queueLockAcquire o q deadline => Sys2Proof.Machine.execQueueLockAcquire o q deadline s
  | .queueLockRenew o q deadline => Sys2Proof.Machine.execQueueLockRenew o q deadline s
  | .queueLockRelease o q => Sys2Proof.Machine.execQueueLockRelease o q s
  | .queLockforce origin mask => Sys2Proof.Machine.execQueLockforce origin mask s
  | .refillTick => Sys2Proof.Machine.execRefillTick s
  | .flowCacheFill f flips => Sys2Proof.Machine.execFlowCacheFill f flips s
  | .flowRead o => Sys2Proof.Machine.execFlowRead o s
  | .flowWrite o => Sys2Proof.Machine.execFlowWrite o s
  | .flowWriteback o => Sys2Proof.Machine.execFlowWriteback o s
  | .poolAccess o rid tag cls off acc flips => Sys2Proof.Machine.execPoolAccess o rid tag cls off acc flips s
  | .gstAccess o a acc flips remapUe => Sys2Proof.Machine.execGstAccess o a acc flips remapUe s
  | .gstInitDone => Sys2Proof.Machine.execGstInitDone s
  | .scrubStep cg flips => Sys2Proof.Machine.execScrubStep cg flips s
  | .trackerWindowClose block => Sys2Proof.Machine.execTrackerWindowClose block s
  | .remapCopyDone block flips => Sys2Proof.Machine.execRemapCopyDone block flips s
  | .gstRetadd block go => Sys2Proof.Machine.execGstRetadd block go s
  | .regionLockAcquire o lock base sizeLog2 deadline => Sys2Proof.Machine.execRegionLockAcquire o lock base sizeLog2 deadline s
  | .regionLockRenew o lock deadline => Sys2Proof.Machine.execRegionLockRenew o lock deadline s
  | .regionLockRelease o lock => Sys2Proof.Machine.execRegionLockRelease o lock s
  | .gstForce origin mask => Sys2Proof.Machine.execGstForce origin mask s
  | .selfRefreshEntry => Sys2Proof.Machine.execSelfRefreshEntry s
  | .selfRefreshExit => Sys2Proof.Machine.execSelfRefreshExit s
  | .gateDrained g => Sys2Proof.Machine.execGateDrained g s
  | .gateCopyDone g => Sys2Proof.Machine.execGateCopyDone g s
  | .gateRegionDirectWrite g i v => Sys2Proof.Machine.execGateRegionDirectWrite g i v s
  | .gafCommit fwd act sch all gates => Sys2Proof.Machine.execGafCommit fwd act sch all gates s
  | .epochDrained d => Sys2Proof.Machine.execEpochDrained d s
  | .epochCopyDone d => Sys2Proof.Machine.execEpochCopyDone d s
  | .directModeWrite direct gdir key => Sys2Proof.Machine.execDirectModeWrite direct gdir key s
  | .directRecordWrite item v => Sys2Proof.Machine.execDirectRecordWrite item v s
  | .firmwareSwap bank => Sys2Proof.Machine.execFirmwareSwap bank s
  | .gafSwapForced c => Sys2Proof.Machine.execGafSwapForced c s
  | .coreTakeover c => Sys2Proof.Machine.execCoreTakeover c s
  | .gafStall c => Sys2Proof.Machine.execGafStall c s
  | .gafCoreUe c => Sys2Proof.Machine.execGafCoreUe c s
  | .spareStart c => Sys2Proof.Machine.execSpareStart c s
  | .tblRead o => Sys2Proof.Machine.execTblRead o s
  | .tblWrite o => Sys2Proof.Machine.execTblWrite o s
  | .tblDelete o => Sys2Proof.Machine.execTblDelete o s
  | .iAdd ag rd ra rb => Sys2Proof.Machine.execIAdd ag rd ra rb s
  | .iSub ag rd ra rb => Sys2Proof.Machine.execISub ag rd ra rb s
  | .aluAnd ag rd ra rb => Sys2Proof.Machine.execAluAnd ag rd ra rb s
  | .aluOr ag rd ra rb => Sys2Proof.Machine.execAluOr ag rd ra rb s
  | .aluXor ag rd ra rb => Sys2Proof.Machine.execAluXor ag rd ra rb s
  | .andn ag rd ra rb => Sys2Proof.Machine.execAndn ag rd ra rb s
  | .sll ag rd ra rb => Sys2Proof.Machine.execSll ag rd ra rb s
  | .srl ag rd ra rb => Sys2Proof.Machine.execSrl ag rd ra rb s
  | .sra ag rd ra rb => Sys2Proof.Machine.execSra ag rd ra rb s
  | .mul ag rd ra rb => Sys2Proof.Machine.execMul ag rd ra rb s
  | .mulhu ag rd ra rb => Sys2Proof.Machine.execMulhu ag rd ra rb s
  | .iMin ag rd ra rb => Sys2Proof.Machine.execIMin ag rd ra rb s
  | .iMax ag rd ra rb => Sys2Proof.Machine.execIMax ag rd ra rb s
  | .minu ag rd ra rb => Sys2Proof.Machine.execMinu ag rd ra rb s
  | .maxu ag rd ra rb => Sys2Proof.Machine.execMaxu ag rd ra rb s
  | .addi ag rd ra imm => Sys2Proof.Machine.execAddi ag rd ra imm s
  | .andi ag rd ra imm => Sys2Proof.Machine.execAndi ag rd ra imm s
  | .ori ag rd ra imm => Sys2Proof.Machine.execOri ag rd ra imm s
  | .xori ag rd ra imm => Sys2Proof.Machine.execXori ag rd ra imm s
  | .slli ag rd ra imm => Sys2Proof.Machine.execSlli ag rd ra imm s
  | .srli ag rd ra imm => Sys2Proof.Machine.execSrli ag rd ra imm s
  | .srai ag rd ra imm => Sys2Proof.Machine.execSrai ag rd ra imm s
  | .muli ag rd ra imm => Sys2Proof.Machine.execMuli ag rd ra imm s
  | .movi ag rd sh keep imm => Sys2Proof.Machine.execMovi ag rd sh keep imm s
  | .extu ag rd ra pos wm1 => Sys2Proof.Machine.execExtu ag rd ra pos wm1 s
  | .exts ag rd ra pos wm1 => Sys2Proof.Machine.execExts ag rd ra pos wm1 s
  | .ins ag rd ra pos wm1 => Sys2Proof.Machine.execIns ag rd ra pos wm1 s
  | .cmp ag pd cc ra rb => Sys2Proof.Machine.execCmp ag pd cc ra rb s
  | .cmpi ag pd cc ra imm => Sys2Proof.Machine.execCmpi ag pd cc ra imm s
  | .plogAnd ag pd pa pb => Sys2Proof.Machine.execPlogAnd ag pd pa pb s
  | .plogOr ag pd pa pb => Sys2Proof.Machine.execPlogOr ag pd pa pb s
  | .plogXor ag pd pa pb => Sys2Proof.Machine.execPlogXor ag pd pa pb s
  | .plogAndn ag pd pa pb => Sys2Proof.Machine.execPlogAndn ag pd pa pb s
  | .plogMov ag pd pa pb => Sys2Proof.Machine.execPlogMov ag pd pa pb s
  | .plogNot ag pd pa pb => Sys2Proof.Machine.execPlogNot ag pd pa pb s
  | .kmov ag d ra => Sys2Proof.Machine.execKmov ag d ra s
  | .kbyt ag d ra => Sys2Proof.Machine.execKbyt ag d ra s
  | .kgob ag d ra => Sys2Proof.Machine.execKgob ag d ra s
  | .kadd ag d ka kb => Sys2Proof.Machine.execKadd ag d ka kb s
  | .ksub ag d ka kb => Sys2Proof.Machine.execKsub ag d ka kb s
  | .gmov ag rd ka => Sys2Proof.Machine.execGmov ag rd ka s
  | .ld ag rd ra sz sx ta disp => Sys2Proof.Machine.execLd ag rd ra sz sx ta disp s
  | .st ag rd ra sz ta disp => Sys2Proof.Machine.execSt ag rd ra sz ta disp s
  | .storeErr c i => Sys2Proof.Machine.execStoreErr c i s
  | .atomFadd ag rd ra rb nr opn cls => Sys2Proof.Machine.execAtomFadd ag rd ra rb nr opn cls s
  | .atomSwap ag rd ra rb nr opn cls => Sys2Proof.Machine.execAtomSwap ag rd ra rb nr opn cls s
  | .atomCas ag rd ra rb nr opn cls => Sys2Proof.Machine.execAtomCas ag rd ra rb nr opn cls s
  | .atomAnd ag rd ra rb nr opn cls => Sys2Proof.Machine.execAtomAnd ag rd ra rb nr opn cls s
  | .atomOr ag rd ra rb nr opn cls => Sys2Proof.Machine.execAtomOr ag rd ra rb nr opn cls s
  | .atomXor ag rd ra rb nr opn cls => Sys2Proof.Machine.execAtomXor ag rd ra rb nr opn cls s
  | .atomUmin ag rd ra rb nr opn cls => Sys2Proof.Machine.execAtomUmin ag rd ra rb nr opn cls s
  | .atomUmax ag rd ra rb nr opn cls => Sys2Proof.Machine.execAtomUmax ag rd ra rb nr opn cls s
  | .fenceN ag => Sys2Proof.Machine.execFenceN ag s
  | .fenceD ag => Sys2Proof.Machine.execFenceD ag s
  | .fenceAll ag => Sys2Proof.Machine.execFenceAll ag s
  | .lkpIx ag rd ra tb pd => Sys2Proof.Machine.execLkpIx ag rd ra tb pd s
  | .lkpEm ag rd ra rb tb pd => Sys2Proof.Machine.execLkpEm ag rd ra rb tb pd s
  | .lkpLpm ag rd ra tb pd => Sys2Proof.Machine.execLkpLpm ag rd ra tb pd s
  | .tknFill ag ra => Sys2Proof.Machine.execTknFill ag ra s
  | .tknPeek ag rd ra => Sys2Proof.Machine.execTknPeek ag rd ra s
  | .tknTake ag ra debt kb pd => Sys2Proof.Machine.execTknTake ag ra debt kb pd s
  | .tknTakeMeter ag rd ra rb rc pd => Sys2Proof.Machine.execTknTakeMeter ag rd ra rb rc pd s
  | .pushT ag ra rb => Sys2Proof.Machine.execPushT ag ra rb s
  | .pushH ag ra rb => Sys2Proof.Machine.execPushH ag ra rb s
  | .pop ag rd ra pd => Sys2Proof.Machine.execPop ag rd ra pd s
  | .enq l ra rb => Sys2Proof.Machine.execEnq l ra rb s
  | .drop l reason => Sys2Proof.Machine.execDrop l reason s
  | .markC ag ra rc => Sys2Proof.Machine.execMarkC ag ra rc s
  | .markM ag ra rc => Sys2Proof.Machine.execMarkM ag ra rc s
  | .deq c rd rb ra => Sys2Proof.Machine.execDeq c rd rb ra s
  | .fwEnq c rd ra rb rc => Sys2Proof.Machine.execFwEnq c rd ra rb rc s
  | .fwDrop c rc reason => Sys2Proof.Machine.execFwDrop c rc reason s
  | .signal ag ra rb => Sys2Proof.Machine.execSignal ag ra rb s
  | .wait ag rd ra rb => Sys2Proof.Machine.execWait ag rd ra rb s
  | .waitTimeout c => Sys2Proof.Machine.execWaitTimeout c s
  | .wake ag ra => Sys2Proof.Machine.execWake ag ra s
  | .crr ag rd csr => Sys2Proof.Machine.execCrr ag rd csr s
  | .crw ag ra csr => Sys2Proof.Machine.execCrw ag ra csr s
  | .crx ag rd ra csr => Sys2Proof.Machine.execCrx ag rd ra csr s
  | .br ag rd off => Sys2Proof.Machine.execBr ag rd off s
  | .jr ag rd ra => Sys2Proof.Machine.execJr ag rd ra s
  | .ecall ag => Sys2Proof.Machine.execEcall ag s
  | .eret ag => Sys2Proof.Machine.execEret ag s
  | .pred ag n s0 s1 s2 s3 => Sys2Proof.Machine.execPred ag n s0 s1 s2 s3 s
  | .eventInterrupt c => Sys2Proof.Machine.execEventInterrupt c s
  | .portRetrain p => Sys2Proof.Machine.execPortRetrain p s
  | .pcieTraining p state rate width l0p flit reversed lanes => Sys2Proof.Machine.execPcieTraining p state rate width l0p flit reversed lanes s
  | .ptnFundAssert pt => Sys2Proof.Machine.execPtnFundAssert pt s
  | .ptnFundRelease pt => Sys2Proof.Machine.execPtnFundRelease pt s
  | .ptnHot pt => Sys2Proof.Machine.execPtnHot pt s
  | .perstAssert i => Sys2Proof.Machine.execPerstAssert i s
  | .perstRelease i => Sys2Proof.Machine.execPerstRelease i s
  | .hotResetReceived p => Sys2Proof.Machine.execHotResetReceived p s
  | .bridgeConfigWrite pt rid tag b f => Sys2Proof.Machine.execBridgeConfigWrite pt rid tag b f s
  | .configRequest pt rid tag target dw w => Sys2Proof.Machine.execConfigRequest pt rid tag target dw w s
  | .portDpc p reason => Sys2Proof.Machine.execPortDpc p reason s
  | .portDown p => Sys2Proof.Machine.execPortDown p s
  | .ptnUplink p => Sys2Proof.Machine.execPtnUplink p s
  | .dpcClear p => Sys2Proof.Machine.execDpcClear p s
  | .flrInitiate f => Sys2Proof.Machine.execFlrInitiate f s
  | .flrEnd f => Sys2Proof.Machine.execFlrEnd f s
  | .vfEnableSet => Sys2Proof.Machine.execVfEnableSet s
  | .vfEnableClear => Sys2Proof.Machine.execVfEnableClear s
  | .vfAttach v pt busoff fnum bar2Log2 => Sys2Proof.Machine.execVfAttach v pt busoff fnum bar2Log2 s
  | .vfDetach v => Sys2Proof.Machine.execVfDetach v s
  | .nodeownWrite n fn => Sys2Proof.Machine.execNodeownWrite n fn s
  | .retrimStart n m => Sys2Proof.Machine.execRetrimStart n m s
  | .retrimAbort n => Sys2Proof.Machine.execRetrimAbort n s
  | .retrimStageDone n ok => Sys2Proof.Machine.execRetrimStageDone n ok s
  | .marginRun n i => Sys2Proof.Machine.execMarginRun n i s
  | .marginAbort n i => Sys2Proof.Machine.execMarginAbort n i s
  | .marginRunDone n i errors => Sys2Proof.Machine.execMarginRunDone n i errors s
  | .laneMarginCommand n i release => Sys2Proof.Machine.execLaneMarginCommand n i release s
  | .lockLoss n i => Sys2Proof.Machine.execLockLoss n i s
  | .failWindowEnd n i count => Sys2Proof.Machine.execFailWindowEnd n i count s
  | .lanePowerRequest n i tx leave enter => Sys2Proof.Machine.execLanePowerRequest n i tx leave enter s
  | .lanePowerExitDone n i tx => Sys2Proof.Machine.execLanePowerExitDone n i tx s
  | .adaptationDone n i heights taps => Sys2Proof.Machine.execAdaptationDone n i heights taps s
  | .spareReadapt n heights taps => Sys2Proof.Machine.execSpareReadapt n heights taps s
  | .frameSend p marker errs => Sys2Proof.Machine.execFrameSend p marker errs s
  | .frameReceive p slot => Sys2Proof.Machine.execFrameReceive p slot s
  | .checkWindowEnd p => Sys2Proof.Machine.execCheckWindowEnd p s
  | .replayTimeout p => Sys2Proof.Machine.execReplayTimeout p s
  | .retrainReq p => Sys2Proof.Machine.execRetrainReq p s
  | .retrainAck p => Sys2Proof.Machine.execRetrainAck p s
  | .subReq p => Sys2Proof.Machine.execSubReq p s
  | .subDone p => Sys2Proof.Machine.execSubDone p s
  | .subEnd p => Sys2Proof.Machine.execSubEnd p s
  | .standby p => Sys2Proof.Machine.execStandby p s
  | .down p => Sys2Proof.Machine.execDown p s
  | .subSwitch l => Sys2Proof.Machine.execSubSwitch l s
  | .subTimeout p => Sys2Proof.Machine.execSubTimeout p s
  | .standbyEntry p => Sys2Proof.Machine.execStandbyEntry p s
  | .caneRetrain p width rate eq => Sys2Proof.Machine.execCaneRetrain p width rate eq s
  | .retrainFail p => Sys2Proof.Machine.execRetrainFail p s
  | .twIdentify p ws peerNoLock => Sys2Proof.Machine.execTwIdentify p ws peerNoLock s
  | .twRate p ws => Sys2Proof.Machine.execTwRate p ws s
  | .twEqualise p ws => Sys2Proof.Machine.execTwEqualise p ws s
  | .twEnterActive p => Sys2Proof.Machine.execTwEnterActive p s
  | .twRetrain p ws => Sys2Proof.Machine.execTwRetrain p ws s
  | .twDown p => Sys2Proof.Machine.execTwDown p s
  | .twCopyPreamble p m => Sys2Proof.Machine.execTwCopyPreamble p m s
  | .caneTrainTimeout p => Sys2Proof.Machine.execCaneTrainTimeout p s
  | .fabricSend d flips => Sys2Proof.Machine.execFabricSend d flips s
  | .transitForward p c => Sys2Proof.Machine.execTransitForward p c s
  | .parisonPacket c errs => Sys2Proof.Machine.execParisonPacket c errs s
  | .parisonReport c errs => Sys2Proof.Machine.execParisonReport c errs s
  | .parisonRepl c errs => Sys2Proof.Machine.execParisonRepl c errs s
  | .parisonProbe c errs => Sys2Proof.Machine.execParisonProbe c errs s
  | .probeSend => Sys2Proof.Machine.execProbeSend s
  | .fabMemberLost f => Sys2Proof.Machine.execFabMemberLost f s
  | .pendTimeout f seq => Sys2Proof.Machine.execPendTimeout f seq s
  | .reportSend f => Sys2Proof.Machine.execReportSend f s
  | .ftxApply f => Sys2Proof.Machine.execFtxApply f s
  | .ftxRehome f => Sys2Proof.Machine.execFtxRehome f s
  | .routeChangeEffect f => Sys2Proof.Machine.execRouteChangeEffect f s
  | .fabricTakeover f => Sys2Proof.Machine.execFabricTakeover f s
  | .fabricRestore f => Sys2Proof.Machine.execFabricRestore f s
  | .ftxEnable => Sys2Proof.Machine.execFtxEnable s
  | .sideRead m a log2 => Sys2Proof.Machine.execSideRead m a log2 s
  | .sideWrite m a log2 v => Sys2Proof.Machine.execSideWrite m a log2 v s
  | .lathTransfer => Sys2Proof.Machine.execLathTransfer s
  | .sideBusTransfer b => Sys2Proof.Machine.execSideBusTransfer b s
  | .sideTransferDone q status data => Sys2Proof.Machine.execSideTransferDone q status data s
  | .pollRead e => Sys2Proof.Machine.execPollRead e s
  | .prefetchExpiry word => Sys2Proof.Machine.execPrefetchExpiry word s
  | .lthRgnWrite r v => Sys2Proof.Machine.execLthRgnWrite r v s
  | .mbxSend o m host type => Sys2Proof.Machine.execMbxSend o m host type s
  | .mbxAck o m host seq rcode => Sys2Proof.Machine.execMbxAck o m host seq rcode s
  | .mbxClaim o m host deadline => Sys2Proof.Machine.execMbxClaim o m host deadline s
  | .mbxRelease o m host => Sys2Proof.Machine.execMbxRelease o m host s
  | .mbxReset o m host => Sys2Proof.Machine.execMbxReset o m host s
  | .mbxForce origin mask => Sys2Proof.Machine.execMbxForce origin mask s
  | .mbxDisable m => Sys2Proof.Machine.execMbxDisable m s
  | .cmdAlloc m => Sys2Proof.Machine.execCmdAlloc m s
  | .cmdArgWrite o k i v => Sys2Proof.Machine.execCmdArgWrite o k i v s
  | .fwUpdate o k gen notify vec => Sys2Proof.Machine.execFwUpdate o k gen notify vec s
  | .imgSwap o k gen notify vec => Sys2Proof.Machine.execImgSwap o k gen notify vec s
  | .scrub o k gen notify vec => Sys2Proof.Machine.execScrub o k gen notify vec s
  | .move o k gen notify vec => Sys2Proof.Machine.execMove o k gen notify vec s
  | .retrim o k gen notify vec => Sys2Proof.Machine.execRetrim o k gen notify vec s
  | .memtest o k gen notify vec => Sys2Proof.Machine.execMemtest o k gen notify vec s
  | .keepSave o k gen notify vec => Sys2Proof.Machine.execKeepSave o k gen notify vec s
  | .cmdSuspend o k gen => Sys2Proof.Machine.execCmdSuspend o k gen s
  | .cmdResume o k gen => Sys2Proof.Machine.execCmdResume o k gen s
  | .cmdCancel o k gen => Sys2Proof.Machine.execCmdCancel o k gen s
  | .cmdRetire o k gen => Sys2Proof.Machine.execCmdRetire o k gen s
  | .cmdStart k => Sys2Proof.Machine.execCmdStart k s
  | .cmdUnitDone k flips nandFail bad late => Sys2Proof.Machine.execCmdUnitDone k flips nandFail bad late s
  | .cmdForce origin mask => Sys2Proof.Machine.execCmdForce origin mask s
  | .faultRecord => Sys2Proof.Machine.execFaultRecord s
  | .unitHold r => Sys2Proof.Machine.execUnitHold r s
  | .fatalReset => Sys2Proof.Machine.execFatalReset s
  | .fltClear r => Sys2Proof.Machine.execFltClear r s
  | .fltLift kind index => Sys2Proof.Machine.execFltLift kind index s
  | .fltHold o kind index => Sys2Proof.Machine.execFltHold o kind index s
  | .fltFatal o => Sys2Proof.Machine.execFltFatal o s
  | .fltReset => Sys2Proof.Machine.execFltReset s
  | .fltCodecfgWrite c v => Sys2Proof.Machine.execFltCodecfgWrite c v s
  | .monitorConversion v => Sys2Proof.Machine.execMonitorConversion v s
  | .tallyRead m c => Sys2Proof.Machine.execTallyRead m c s
  | .sampleRdWrite v => Sys2Proof.Machine.execSampleRdWrite v s
  | .xtalOk => Sys2Proof.Machine.execXtalOk s
  | .pllLock => Sys2Proof.Machine.execPllLock s
  | .refclkLoss => Sys2Proof.Machine.execRefclkLoss s
  | .tileGate k => Sys2Proof.Machine.execTileGate k s
  | .tileWake k => Sys2Proof.Machine.execTileWake k s
  | .jackGroupGate g => Sys2Proof.Machine.execJackGroupGate g s
  | .jackGroupWake => Sys2Proof.Machine.execJackGroupWake s
  | .coreStart c => Sys2Proof.Machine.execCoreStart c s
  | .watchdogKick key => Sys2Proof.Machine.execWatchdogKick key s
  | .watchdogExpiry => Sys2Proof.Machine.execWatchdogExpiry s
  | .powerOn => Sys2Proof.Machine.execPowerOn s
  | .coldNAssert => Sys2Proof.Machine.execColdNAssert s
  | .coldNRelease => Sys2Proof.Machine.execColdNRelease s
  | .warmNAssert => Sys2Proof.Machine.execWarmNAssert s
  | .warmNRelease => Sys2Proof.Machine.execWarmNRelease s
  | .rstWarm key => Sys2Proof.Machine.execRstWarm key s
  | .startCore0 key => Sys2Proof.Machine.execStartCore0 key s
  | .warmDrainDone => Sys2Proof.Machine.execWarmDrainDone s
  | .drainTimeout => Sys2Proof.Machine.execDrainTimeout s
  | .pulseSourceEnd => Sys2Proof.Machine.execPulseSourceEnd s
  | .lehrStepRelease => Sys2Proof.Machine.execLehrStepRelease s
  | .strapRead adc => Sys2Proof.Machine.execStrapRead adc s
  | .trimLoad copy t startOk => Sys2Proof.Machine.execTrimLoad copy t startOk s
  | .imageLoad => Sys2Proof.Machine.execImageLoad s
  | .optionImageLoad => Sys2Proof.Machine.execOptionImageLoad s
  | .keepCheck => Sys2Proof.Machine.execKeepCheck s
  | .systemReadyWrite => Sys2Proof.Machine.execSystemReadyWrite s
  | .startCircuit a b => Sys2Proof.Machine.execStartCircuit a b s
  | .feedWindowEnter x vin => Sys2Proof.Machine.execFeedWindowEnter x vin s
  | .feedWindowExit x vin => Sys2Proof.Machine.execFeedWindowExit x vin s
  | .qualDone x both => Sys2Proof.Machine.execQualDone x both s
  | .feedPrechgDone x vbus => Sys2Proof.Machine.execFeedPrechgDone x vbus s
  | .feedPrechgTimeout x => Sys2Proof.Machine.execFeedPrechgTimeout x s
  | .feedRetryDone x => Sys2Proof.Machine.execFeedRetryDone x s
  | .revertTimer x => Sys2Proof.Machine.execRevertTimer x s
  | .bbmGapEnd => Sys2Proof.Machine.execBbmGapEnd s
  | .makeTimeout => Sys2Proof.Machine.execMakeTimeout s
  | .breakerLimit b amps => Sys2Proof.Machine.execBreakerLimit b amps s
  | .breakerTimeout b => Sys2Proof.Machine.execBreakerTimeout b s
  | .lowvSet vbus => Sys2Proof.Machine.execLowvSet vbus s
  | .lowvClear vbus => Sys2Proof.Machine.execLowvClear vbus s
  | .pmodAverage p vbus iin iout vres => Sys2Proof.Machine.execPmodAverage p vbus iin iout vres s
  | .shedRestore m => Sys2Proof.Machine.execShedRestore m s
  | .presenceAssert k => Sys2Proof.Machine.execPresenceAssert k s
  | .presenceLost k => Sys2Proof.Machine.execPresenceLost k s
  | .slotRequestChange k host on => Sys2Proof.Machine.execSlotRequestChange k host on s
  | .slotWindowExit k vbus => Sys2Proof.Machine.execSlotWindowExit k vbus s
  | .slotInsertDone k => Sys2Proof.Machine.execSlotInsertDone k s
  | .slotPrechgDone k iout => Sys2Proof.Machine.execSlotPrechgDone k iout s
  | .slotPrechgTimeout k => Sys2Proof.Machine.execSlotPrechgTimeout k s
  | .slotRampDone k => Sys2Proof.Machine.execSlotRampDone k s
  | .slotRampTimeout k => Sys2Proof.Machine.execSlotRampTimeout k s
  | .slotRetryDone k => Sys2Proof.Machine.execSlotRetryDone k s
  | .slotUnlatch k => Sys2Proof.Machine.execSlotUnlatch k s
  | .capMeasured t => Sys2Proof.Machine.execCapMeasured t s
  | .hldLow vres => Sys2Proof.Machine.execHldLow vres s
  | .holdupStop => Sys2Proof.Machine.execHoldupStop s
  | .quenchStop => Sys2Proof.Machine.execQuenchStop s
  | .quenchDrainDone => Sys2Proof.Machine.execQuenchDrainDone s
  | .quenchSaveDone => Sys2Proof.Machine.execQuenchSaveDone s
  | .regRead m bar a len => Sys2Proof.Machine.execRegRead m bar a len s
  | .clockRecoveryLock n i => Sys2Proof.Machine.execClockRecoveryLock n i s
  | .refclkLock => Sys2Proof.Machine.execRefclkLock s
  | .gpioInputChange v => Sys2Proof.Machine.execGpioInputChange v s
  | .railCollapse => Sys2Proof.Machine.execRailCollapse s
  | .faultTimerClear b amps => Sys2Proof.Machine.execFaultTimerClear b amps s
  | .slotWindowEnter k vbus => Sys2Proof.Machine.execSlotWindowEnter k vbus s

end Sys2Proof.Machine
end

