-- ==== Sys2Proof/Machine/Step.lean ====
section
/-!
DEFINITION. One step of the block: the command at the front of the queue is carried out with the rest of the queue; with no command
waiting, one beat passes.
-/
namespace Sys2Proof.Machine

/-- The command a word spells, if any, is put at the front of the queue. -/
def State.withFetchWord (s : State) (nbits w : Nat) : State :=
  match decodeTableWord nbits w with
  | some c => { s with pending := c :: s.pending }
  | none => s

/-- One step. An empty queue: one beat of R5 passes (log entry 11). -/
def step (s : State) : Host.Outcome State Fault Refusal :=
  match s.pending with
  | [] => .next s.beat
  | c :: rest => exec c { s with pending := rest }

end Sys2Proof.Machine
end

