-- ==== Sys2Proof/WellFormed.lean ====
section
/-!
DEFINITION. What a command must be to be one that can reach the module, beside what its operand types already say. `exec` does not
ask for it: it gives every term of `Instr` an effect.
-/
namespace Sys2Proof

/-- A TLP holds no more bytes of data than its own length (R6, R42). -/
def Tlp.wf (t : Tlp) : Bool := decide (t.data.length ≤ t.len)

/-- An error in cell data is one of at least one wrong bit (R56). -/
def CellErr.wf : CellErr → Bool
  | .data _ _ bits => decide (1 ≤ bits)
  | .link _ | .record => true

/-- An atomic has one of the sizes of R124, and a read or a write has at least one byte. -/
def GstAcc.wf : GstAcc → Bool
  | .read n => decide (1 ≤ n)
  | .write data => decide (1 ≤ data.length)
  | .atomic _ size _ _ => size == 4 || size == 8 || size == 16

/-- A frame slot of a cane link has 272 bytes (R283). -/
def CaneSlot.wf : CaneSlot → Bool
  | .frame bytes => bytes.length == 272
  | .marker _ => true

/-- Each word that is named as wrong has at least one wrong bit (R110). -/
def flipsWf (l : List (Nat × Nat)) : Bool := l.all (fun e => decide (1 ≤ e.2))

/-- The command can reach the module. -/
def Instr.wf : Instr → Bool
  | .regWrite _ _ _ len _ => decide (1 ≤ len.val)
  | .deviceStoreAck .. => true
  | .storePerformed .. => true
  | .leaseExpired .. => true
  | .tlpReceive _ t _ _ => t.wf
  | .admissionRetry .. => true
  | .holdTimeout .. => true
  | .cutThroughAbort .. => true
  | .egressStage .. => true
  | .egressTransmit _ _ errs => errs.all CellErr.wf
  | .linkAck .. => true
  | .cruCommit .. => true
  | .cruRetadd .. => true
  | .doorbellWrite _ _ _ data _ => decide (1 ≤ data.length) && decide (data.length ≤ 4096)
  | .payloadFetchStart .. => true
  | .fetchReadCompletion _ _ _ _ data _ => decide (data.length ≤ 4096)
  | .fetchTimeout .. => true
  | .enqueueRequestDispatch .. => true
  | .dequeueDecision .. => true
  | .dequeueName .. => true
  | .deliveryRead _ flips => flipsWf flips
  | .rxHeaderIssue .. => true
  | .modTimeExpiry .. => true
  | .queueEnable .. => true
  | .queueFreeze .. => true
  | .queueDrain .. => true
  | .queueDisable .. => true
  | .queueFlush .. => true
  | .queueDrained .. => true
  | .ctxRead .. => true
  | .ctxWrite .. => true
  | .queueLockAcquire .. => true
  | .queueLockRenew .. => true
  | .queueLockRelease .. => true
  | .queLockforce .. => true
  | .refillTick => true
  | .flowCacheFill _ flips => flipsWf flips
  | .flowRead .. => true
  | .flowWrite .. => true
  | .flowWriteback .. => true
  | .poolAccess _ _ _ _ _ acc flips => acc.wf && flipsWf flips
  | .gstAccess _ _ acc flips _ => acc.wf && flipsWf flips
  | .gstInitDone => true
  | .scrubStep _ flips => flipsWf flips
  | .trackerWindowClose .. => true
  | .remapCopyDone _ flips => flipsWf flips
  | .gstRetadd .. => true
  | .regionLockAcquire .. => true
  | .regionLockRenew .. => true
  | .regionLockRelease .. => true
  | .gstForce .. => true
  | .selfRefreshEntry => true
  | .selfRefreshExit => true
  | .gateDrained .. => true
  | .gateCopyDone .. => true
  | .gateRegionDirectWrite .. => true
  | .gafCommit .. => true
  | .epochDrained .. => true
  | .epochCopyDone .. => true
  | .directModeWrite .. => true
  | .directRecordWrite .. => true
  | .firmwareSwap .. => true
  | .gafSwapForced .. => true
  | .coreTakeover .. => true
  | .gafStall .. => true
  | .gafCoreUe .. => true
  | .spareStart .. => true
  | .tblRead .. => true
  | .tblWrite .. => true
  | .tblDelete .. => true
  | .iAdd .. => true
  | .iSub .. => true
  | .aluAnd .. => true
  | .aluOr .. => true
  | .aluXor .. => true
  | .andn .. => true
  | .sll .. => true
  | .srl .. => true
  | .sra .. => true
  | .mul .. => true
  | .mulhu .. => true
  | .iMin .. => true
  | .iMax .. => true
  | .minu .. => true
  | .maxu .. => true
  | .addi .. => true
  | .andi .. => true
  | .ori .. => true
  | .xori .. => true
  | .slli .. => true
  | .srli .. => true
  | .srai .. => true
  | .muli .. => true
  | .movi .. => true
  | .extu .. => true
  | .exts .. => true
  | .ins .. => true
  | .cmp .. => true
  | .cmpi .. => true
  | .plogAnd .. => true
  | .plogOr .. => true
  | .plogXor .. => true
  | .plogAndn .. => true
  | .plogMov .. => true
  | .plogNot .. => true
  | .kmov .. => true
  | .kbyt .. => true
  | .kgob .. => true
  | .kadd .. => true
  | .ksub .. => true
  | .gmov .. => true
  | .ld .. => true
  | .st .. => true
  | .storeErr .. => true
  | .atomFadd .. => true
  | .atomSwap .. => true
  | .atomCas .. => true
  | .atomAnd .. => true
  | .atomOr .. => true
  | .atomXor .. => true
  | .atomUmin .. => true
  | .atomUmax .. => true
  | .fenceN .. => true
  | .fenceD .. => true
  | .fenceAll .. => true
  | .lkpIx .. => true
  | .lkpEm .. => true
  | .lkpLpm .. => true
  | .tknFill .. => true
  | .tknPeek .. => true
  | .tknTake .. => true
  | .tknTakeMeter .. => true
  | .pushT .. => true
  | .pushH .. => true
  | .pop .. => true
  | .enq .. => true
  | .drop .. => true
  | .markC .. => true
  | .markM .. => true
  | .deq .. => true
  | .fwEnq .. => true
  | .fwDrop .. => true
  | .signal .. => true
  | .wait .. => true
  | .waitTimeout .. => true
  | .wake .. => true
  | .crr .. => true
  | .crw .. => true
  | .crx .. => true
  | .br .. => true
  | .jr .. => true
  | .ecall .. => true
  | .eret .. => true
  | .pred .. => true
  | .eventInterrupt .. => true
  | .portRetrain .. => true
  | .pcieTraining .. => true
  | .ptnFundAssert .. => true
  | .ptnFundRelease .. => true
  | .ptnHot .. => true
  | .perstAssert .. => true
  | .perstRelease .. => true
  | .hotResetReceived .. => true
  | .bridgeConfigWrite .. => true
  | .configRequest .. => true
  | .portDpc .. => true
  | .portDown .. => true
  | .ptnUplink .. => true
  | .dpcClear .. => true
  | .flrInitiate .. => true
  | .flrEnd .. => true
  | .vfEnableSet => true
  | .vfEnableClear => true
  | .vfAttach .. => true
  | .vfDetach .. => true
  | .nodeownWrite .. => true
  | .retrimStart .. => true
  | .retrimAbort .. => true
  | .retrimStageDone .. => true
  | .marginRun .. => true
  | .marginAbort .. => true
  | .marginRunDone .. => true
  | .laneMarginCommand .. => true
  | .lockLoss .. => true
  | .failWindowEnd .. => true
  | .lanePowerRequest .. => true
  | .lanePowerExitDone .. => true
  | .adaptationDone _ _ heights _ => heights.length == 16
  | .spareReadapt _ heights _ => heights.length == 16
  | .frameSend _ _ errs => errs.all CellErr.wf
  | .frameReceive _ slot => slot.wf
  | .checkWindowEnd .. => true
  | .replayTimeout .. => true
  | .retrainReq .. => true
  | .retrainAck .. => true
  | .subReq .. => true
  | .subDone .. => true
  | .subEnd .. => true
  | .standby .. => true
  | .down .. => true
  | .subSwitch .. => true
  | .subTimeout .. => true
  | .standbyEntry .. => true
  | .caneRetrain .. => true
  | .retrainFail .. => true
  | .twIdentify .. => true
  | .twRate .. => true
  | .twEqualise .. => true
  | .twEnterActive .. => true
  | .twRetrain .. => true
  | .twDown .. => true
  | .twCopyPreamble .. => true
  | .caneTrainTimeout .. => true
  | .fabricSend _ flips => flipsWf flips
  | .transitForward .. => true
  | .parisonPacket _ errs => errs.all CellErr.wf
  | .parisonReport _ errs => errs.all CellErr.wf
  | .parisonRepl _ errs => errs.all CellErr.wf
  | .parisonProbe _ errs => errs.all CellErr.wf
  | .probeSend => true
  | .fabMemberLost .. => true
  | .pendTimeout .. => true
  | .reportSend .. => true
  | .ftxApply .. => true
  | .ftxRehome .. => true
  | .routeChangeEffect .. => true
  | .fabricTakeover .. => true
  | .fabricRestore .. => true
  | .ftxEnable => true
  | .sideRead .. => true
  | .sideWrite .. => true
  | .lathTransfer => true
  | .sideBusTransfer .. => true
  | .sideTransferDone .. => true
  | .pollRead .. => true
  | .prefetchExpiry .. => true
  | .lthRgnWrite .. => true
  | .mbxSend .. => true
  | .mbxAck .. => true
  | .mbxClaim .. => true
  | .mbxRelease .. => true
  | .mbxReset .. => true
  | .mbxForce .. => true
  | .mbxDisable .. => true
  | .cmdAlloc .. => true
  | .cmdArgWrite .. => true
  | .fwUpdate .. => true
  | .imgSwap .. => true
  | .scrub .. => true
  | .move .. => true
  | .retrim .. => true
  | .memtest .. => true
  | .keepSave .. => true
  | .cmdSuspend .. => true
  | .cmdResume .. => true
  | .cmdCancel .. => true
  | .cmdRetire .. => true
  | .cmdStart .. => true
  | .cmdUnitDone _ flips _ _ _ => flipsWf flips
  | .cmdForce .. => true
  | .faultRecord => true
  | .unitHold .. => true
  | .fatalReset => true
  | .fltClear .. => true
  | .fltLift .. => true
  | .fltHold .. => true
  | .fltFatal .. => true
  | .fltReset => true
  | .fltCodecfgWrite .. => true
  | .monitorConversion .. => true
  | .tallyRead .. => true
  | .sampleRdWrite .. => true
  | .xtalOk => true
  | .pllLock => true
  | .refclkLoss => true
  | .tileGate .. => true
  | .tileWake .. => true
  | .jackGroupGate .. => true
  | .jackGroupWake => true
  | .coreStart .. => true
  | .watchdogKick .. => true
  | .watchdogExpiry => true
  | .powerOn => true
  | .coldNAssert => true
  | .coldNRelease => true
  | .warmNAssert => true
  | .warmNRelease => true
  | .rstWarm .. => true
  | .startCore0 .. => true
  | .warmDrainDone => true
  | .drainTimeout => true
  | .pulseSourceEnd => true
  | .lehrStepRelease => true
  | .strapRead adc => adc.length == 64
  | .trimLoad .. => true
  | .imageLoad => true
  | .optionImageLoad => true
  | .keepCheck => true
  | .systemReadyWrite => true
  | .startCircuit .. => true
  | .feedWindowEnter .. => true
  | .feedWindowExit .. => true
  | .qualDone .. => true
  | .feedPrechgDone .. => true
  | .feedPrechgTimeout .. => true
  | .feedRetryDone .. => true
  | .revertTimer .. => true
  | .bbmGapEnd => true
  | .makeTimeout => true
  | .breakerLimit .. => true
  | .breakerTimeout .. => true
  | .lowvSet .. => true
  | .lowvClear .. => true
  | .pmodAverage .. => true
  | .shedRestore .. => true
  | .presenceAssert .. => true
  | .presenceLost .. => true
  | .slotRequestChange .. => true
  | .slotWindowExit .. => true
  | .slotInsertDone .. => true
  | .slotPrechgDone .. => true
  | .slotPrechgTimeout .. => true
  | .slotRampDone .. => true
  | .slotRampTimeout .. => true
  | .slotRetryDone .. => true
  | .slotUnlatch .. => true
  | .capMeasured .. => true
  | .hldLow .. => true
  | .holdupStop => true
  | .quenchStop => true
  | .quenchDrainDone => true
  | .quenchSaveDone => true
  | .regRead _ _ _ len => decide (1 ≤ len.val)
  | .clockRecoveryLock .. => true
  | .refclkLock => true
  | .gpioInputChange .. => true
  | .railCollapse => true
  | .faultTimerClear .. => true
  | .slotWindowEnter .. => true

end Sys2Proof
end

