-- ==== Sys2Proof/Safety.lean ====
section
/-!
DEFINITION. The terms in which the statements speak: memory in its canonical form, a step that completes, an agent that may issue an
instruction, what counting may change beside an instruction's effect, and the entry of an exception.
-/
namespace Sys2Proof

/-- The command carries a reading beyond the ratings of R446: VIN or VBUS above 24 V, VRES above 40 V (in units of 10 mV). -/
def Instr.beyondRatings : Instr → Bool
  | .startCircuit a b => decide (2400 < a.toNat) || decide (2400 < b.toNat)
  | .feedWindowEnter _ v | .feedWindowExit _ v | .feedPrechgDone _ v => decide (2400 < v.toNat)
  | .lowvSet v | .lowvClear v | .slotWindowEnter _ v | .slotWindowExit _ v => decide (2400 < v.toNat)
  | .pmodAverage _ v _ _ w => decide (2400 < v.toNat) || decide (4000 < w.toNat)
  | .hldLow v => decide (4000 < v.toNat)
  | _ => false

end Sys2Proof

namespace Sys2Proof.Machine

/-- The canonical form of the byte memories: addresses strictly rising, no entry equal to what an unlisted address reads as. -/
abbrev Memory.wf (m : SMap Byte) : Bool := SMap.wf emptyByte m

/-- The byte memories stand in their canonical form. -/
abbrev State.memOk (s : State) : Prop := Memory.wf s.mem = true

/-- The step gives a next state. -/
def State.completes (s : State) : Bool :=
  match step s with
  | .next _ => true
  | .fault _ | .refused _ => false

/-- `t` is `u` but for registers of the list: every other register reads as it does in `u`, and everything else is equal. -/
def Only (rs : List RegRef) (u t : State) : Prop :=
  { t with regs := u.regs } = u ∧ ∀ r : RegRef, (∀ x ∈ rs, r.addr ≠ x.addr) → t.rd r = u.rd r

/-! ### Instructions -/

/-- The Jack program of a lane has a syllable behind the current one, so that it goes on (R69); a core always goes on. -/
def State.goesOn (s : State) : Agent → Bool
  | .core _ => true
  | .lane l => match s.laneReq l.val with
    | some r => decide ((s.lane l.val).pc + 1 < s.laneLen r)
    | none => false

/-- The agent issues an instruction that no PRED covers (R187), and goes on behind it. -/
abbrev State.ready (s : State) (ag : Agent) : Prop := s.live ag = true ∧ (s.agent ag).slots = [] ∧ s.goesOn ag = true

/-- The agent after an instruction with effect `f` on its registers, moved on to the next one. -/
def State.past (s : State) (ag : Agent) (f : Core → Core) : State := s.setAgent ag (f { s.agent ag with skip := 0 }).advance

/-- The agent has begun an instruction: a skip count that a branch into a range left is gone (R187). -/
def State.begun (s : State) (ag : Agent) : State := s.setAgent ag { s.agent ag with skip := 0 }

/-- A core or lane without its event bits. -/
def Core.besideEvents (x : Core) : Core := x.wcsr CSR.EVPEND 0

/-- Registers of TAL and of its sample buffer. -/
def RegRef.counts (r : RegRef) : Prop := 0x2C00000 ≤ r.addr ∧ r.addr < 0x3000000

/-- `t` is `u` but for what counting an event may change (R377 to R385): registers of TAL, the sampling counter and the free value of
LATENCY, and the event bits through which it tells firmware. -/
def CountsOnly (u t : State) : Prop :=
  { t with regs := u.regs, gaf := u.gaf, freeCtr := u.freeCtr, smpSeen := u.smpSeen } = u ∧
  { t.gaf with cores := u.gaf.cores } = u.gaf ∧
  (∀ r : RegRef, ¬ r.counts → t.rd r = u.rd r) ∧
  (∀ c : Nat, (u.core c).run = .running → (t.core c).besideEvents = (u.core c).besideEvents ∧
    ((t.core c).rcsr CSR.EVPEND = (u.core c).rcsr CSR.EVPEND ∨
      (t.core c).rcsr CSR.EVPEND = Nat.lor ((u.core c).rcsr CSR.EVPEND) (2 ^ 40) % 2 ^ 64))

/-- The command gives a next state that is `u` but for counting. -/
def Completes (s : State) (i : Instr) (u : State) : Prop := ∃ t, exec i s = .next t ∧ CountsOnly u t

/-- `t` is `u` but for counting, for the turn of an access among the classes of its channel group (R120), and for decisions of a gate that are
forgotten once the access is over (R156). -/
def Served (u t : State) : Prop :=
  (∀ b ∈ t.gst.bound, b ∈ u.gst.bound) ∧
  CountsOnly { u with gst := { u.gst with deficit := t.gst.deficit, turn := t.gst.turn, bound := t.gst.bound } } t

/-- The command, an access of memory, gives a next state that is `u` once it is served. -/
def Accesses (s : State) (i : Instr) (u : State) : Prop := ∃ t, exec i s = .next t ∧ Served u t

/-- Core `c` would enter an exception now: it is ready, its store buffer is empty, and EXL is clear (R188, R191). -/
abbrev State.mayTrap (s : State) (c : Fin 32) : Prop :=
  s.ready (.core c) ∧ (s.core c.val).sb = [] ∧ (s.core c.val).exl = false

/-- The command takes core `c` into an exception, and changes nothing else; what a gate has decided on an access of it is forgotten (R156). -/
def Enters (s : State) (i : Instr) (c : Fin 32) (code addr : Nat) : Prop :=
  ∃ t, exec i s = .next t ∧ t.core c.val = ({ s.core c.val with skip := 0 } : Core).enter code addr ∧
    (∀ d : Nat, d ≠ c.val → t.core d = s.core d) ∧ { t with gaf := s.gaf, gst := { t.gst with bound := s.gst.bound } } = s ∧
    t.gst.bound = s.gst.bound.filter (fun b => b.who != c.val + 1) ∧ { t.gaf with cores := s.gaf.cores } = s.gaf

/-- The instruction of lane `l` ends its request in place of raising an exception (R195). -/
def EndsRequest (s : State) (i : Instr) (l : Fin 256) (code addr : Nat) : Prop :=
  exec i s = .next ((s.begun (.lane l)).laneExc l.val code addr)

/-- An access of a master to a register is carried out: a core's behind its device stores, a host's through a function that decodes memory and
is not held, and its read behind the function's writes (R32, R133, R134, R246). -/
def State.mayReach (s : State) (m : Master) (write : Bool) : Prop :=
  match m with
  | .core _ => s.behindWrites m write = false
  | .host o _ => s.flt.stopped = false ∧ s.decodes (oFn o.toNat) = true ∧ s.requesterShut o.toNat = false ∧
    (write = false → s.behindWrites m write = false)

/-! ### Memory of an agent -/

/-- Where the byte memories hold address `a` of an agent (R171, R197, R198): the gather store, local memory, or Jack data memory. -/
def State.home (ag : Agent) (a : Nat) : Nat :=
  if spaceOf a = 1 then MB.gst + offOf a
  else match ag with
    | .core _ => MB.localMem + offOf a
    | .lane _ => MB.jackMem + offOf a

/-- No class beside that of the origin tag asks for bursts of a channel group, so that an access need not wait for its turn (R120). -/
def State.undisputed (s : State) (origin : Nat) : Prop := ∀ g x : Nat, x < 4 → gstClass origin ≠ some x → s.gstBacklog g x = false

/-- The agent reaches the `n` bytes at `a` with a kind of access: normal memory that serves, past its gate and its locks, in its turn; the
words are free of errors and not replicated. -/
def State.mayAccess (s : State) (ag : Agent) (a n kind : Nat) : Prop :=
  (s.reach ag a n kind).1 = .ok [] ∧ (spaceOf a = 1 → s.errsIn (offOf a) n = [] ∧ s.replicated (offOf a) = false)

/-- No packet stands in the crucible or in a receive buffer, and no request waits for a completion. -/
abbrev State.noTraffic (s : State) : Prop :=
  s.cru.coqs = [] ∧ s.cru.staged = [] ∧ s.cru.unacked = [] ∧ s.cru.epHeld = [] ∧ s.cru.holds = [] ∧ s.can.rx = [] ∧ s.prt.pend = []

/-- No lease is held: no region lock, no sequence, no queue lock, no command slot, no claim of a mailbox. -/
abbrev State.noLeases (s : State) : Prop :=
  s.locksHeld = [] ∧ s.gst.seqs = [] ∧ s.que.locks = [] ∧ s.cmd.leases = [] ∧ s.mbx.claims = []

/-- Nothing but the gate, a region lock, an error or a turn stands against an access of `who` at gather-store address `a`: the page exists,
the controller serves and is initialised, no copy runs and no sequence of another core holds a line (R109, R113, R118, R125). -/
abbrev State.gstOpen (s : State) (a n who : Nat) : Prop :=
  s.gstMapped a = true ∧ s.gstServes = true ∧ s.gstBusy a n who = false

/-- The bytes stand in the gather store, and go to the partner of a redundant pair when the region is replicated (R321). -/
def State.wrote (s : State) (a o : Nat) (d : List Byte) : State :=
  if s.replicated a && oEng o != 7 then { s.store a d with gst := { s.gst with repl := s.gst.repl ++ [(a, o, d)] } } else s.store a d

/-- A buffered store of core `c`, which carries its own origin tag (R190), may be performed. -/
abbrev State.mayStore (s : State) (c : Fin 32) (e : StoreEnt) : Prop :=
  e.atom = none ∧ normalAddr e.addr = true ∧
  (spaceOf e.addr = 0 → (s.gateCheck gateLocal (offOf e.addr) e.data.length AK.write e.origin).1 = true) ∧
  (spaceOf e.addr = 1 → s.gstOpen (offOf e.addr) e.data.length (storeWho c.val) ∧ s.undisputed e.origin ∧
    (s.gateArrive (s.gateOfGst (offOf e.addr)) (offOf e.addr) e.data.length AK.write e.origin (storeWho c.val)).1 = true ∧
    s.lockAgainst (offOf e.addr) e.data.length e.origin = none ∧ s.errsIn (offOf e.addr) e.data.length = [] ∧
    s.replicated (offOf e.addr) = false)

end Sys2Proof.Machine
end

