-- ==== Sys2Proof/Certificates/Slice0/Obligations.lean ====
section
/-!
DEFINITION. The statements. They speak in the terms of Safety.lean: `Completes s i u` says that command `i` gives a next state which is
`u` but for what counting an event may change.
-/
open Sys2Proof Sys2Proof.Machine

/-! ### The queue of commands -/

/-- A step with a command at the front of the queue carries out that command with the rest of the queue; with no command waiting, one
beat passes (the model's choice, log entry 11), and EMB_BEAT counts it once the PLL is locked (R391). -/
def Obligations.StepRunsTheFrontCommand : Prop :=
  (∀ (s : State) (c : Instr) (rest : List Instr), s.pending = c :: rest → step s = exec c { s with pending := rest }) ∧
  (∀ s : State, s.pending = [] → ∃ t, step s = .next t ∧ t.now = s.now + 1 ∧ t.pending = [] ∧ t.mem = s.mem ∧
    (s.bit R.EMB_STATUS F.EMB_STATUS_PLL_LOCK = false → t = { s with now := s.now + 1 }) ∧
    (s.bit R.EMB_STATUS F.EMB_STATUS_PLL_LOCK = true → t.rd R.EMB_BEAT = (s.rd R.EMB_BEAT + 1) % 2 ^ 64))

/-! ### Integer instructions (R167 to R170) -/

/-- The register forms of R167 with their functions of gA and gB. -/
def Claims.aluOps : List ((By Agent → Fin 32 → Fin 32 → Fin 32 → Instr) × (BitVec 64 → BitVec 64 → BitVec 64)) :=
  [(.iAdd, fun a b => a + b), (.iSub, fun a b => a - b), (.aluAnd, fun a b => a &&& b), (.aluOr, fun a b => a ||| b),
   (.aluXor, fun a b => a ^^^ b), (.andn, fun a b => a &&& ~~~b), (.sll, fun a b => a <<< (b.toNat % 64)),
   (.srl, fun a b => a >>> (b.toNat % 64)), (.sra, fun a b => a.sshiftRight (b.toNat % 64)), (.mul, fun a b => a * b),
   (.mulhu, fun a b => .ofNat 64 (a.toNat * b.toNat / 2 ^ 64)), (.iMin, fun a b => if a.toInt ≤ b.toInt then a else b),
   (.iMax, fun a b => if a.toInt ≤ b.toInt then b else a), (.minu, fun a b => if a.toNat ≤ b.toNat then a else b),
   (.maxu, fun a b => if a.toNat ≤ b.toNat then b else a)]

/-- The immediate forms of R167 without the shifts, with their functions of gA and sext(IMM). -/
def Claims.aluImmOps : List ((By Agent → Fin 32 → Fin 32 → BitVec 20 → Instr) × (BitVec 64 → BitVec 64 → BitVec 64)) :=
  [(.addi, fun a b => a + b), (.andi, fun a b => a &&& b), (.ori, fun a b => a ||| b), (.xori, fun a b => a ^^^ b),
   (.muli, fun a b => a * b)]

/-- The shifts by an immediate. -/
def Claims.aluShiftOps : List ((By Agent → Fin 32 → Fin 32 → BitVec 20 → Instr) × (BitVec 64 → Nat → BitVec 64)) :=
  [(.slli, fun a n => a <<< n), (.srli, fun a n => a >>> n), (.srai, fun a n => a.sshiftRight n)]

/-- R167: each register form of ALU writes its function of gA and gB to gD (g0 discards it), moves on by one, and changes nothing else; each
ALUI form does so with gA and the sign-extended immediate, a shift with its amount IMM[5:0], and a shift whose IMM[19:6] is not zero
raises ILLEGAL, which on a lane ends the request (R195). -/
def Obligations.AluInstructionsWriteTheirFunction : Prop :=
  (∀ e ∈ Claims.aluOps, ∀ (s : State) (ag : Agent) (rd ra rb : Fin 32), s.ready ag →
    Completes s (e.1 ⟨ag, 0⟩ rd ra rb)
      (s.past ag (fun x => x.wg rd.val (e.2 (.ofNat 64 (x.rg ra.val)) (.ofNat 64 (x.rg rb.val))).toNat))) ∧
  ((∀ e ∈ Claims.aluImmOps, ∀ (s : State) (ag : Agent) (rd ra : Fin 32) (imm : BitVec 20), s.ready ag →
    Completes s (e.1 ⟨ag, 0⟩ rd ra imm)
      (s.past ag (fun x => x.wg rd.val (e.2 (.ofNat 64 (x.rg ra.val)) (imm.signExtend 64)).toNat))) ∧
  (∀ e ∈ Claims.aluShiftOps, ∀ (s : State) (ag : Agent) (rd ra : Fin 32) (imm : BitVec 20), s.ready ag → imm.toNat < 64 →
    Completes s (e.1 ⟨ag, 0⟩ rd ra imm)
      (s.past ag (fun x => x.wg rd.val (e.2 (.ofNat 64 (x.rg ra.val)) imm.toNat).toNat))) ∧
  (∀ e ∈ Claims.aluShiftOps, ∀ (s : State) (c : Fin 32) (rd ra : Fin 32) (imm : BitVec 20), s.mayTrap c → 64 ≤ imm.toNat →
    Enters s (e.1 ⟨.core c, 0⟩ rd ra imm) c EX.ILLEGAL 0) ∧
  (∀ e ∈ Claims.aluShiftOps, ∀ (s : State) (l : Fin 256) (rd ra : Fin 32) (imm : BitVec 20), s.ready (.lane l) → 64 ≤ imm.toNat →
    EndsRequest s (e.1 ⟨.lane l, 0⟩ rd ra imm) l EX.ILLEGAL 0))

/-- A 64-bit value with its bits [pos + w - 1 : pos] replaced by the low `w` bits of `v`. -/
def Claims.insert (old v : BitVec 64) (pos w : Nat) : BitVec 64 :=
  let m : BitVec 64 := .ofNat 64 ((2 ^ w - 1) * 2 ^ pos)
  (old &&& ~~~m) ||| ((v <<< pos) &&& m)

/-- R168: MOVI, EXTU, EXTS and INS write the values the rule gives; a field that ends above bit 63 raises ILLEGAL; and four MOVI build
any constant. -/
def Obligations.MoviAndFieldInstructionsWriteTheirFields : Prop :=
  (∀ (s : State) (ag : Agent) (rd : Fin 32) (sh : Fin 4) (keep : Bool) (imm : BitVec 16), s.ready ag →
    Completes s (.movi ⟨ag, 0⟩ rd sh keep imm) (s.past ag (fun x => x.wg rd.val
      (Claims.insert (if keep then .ofNat 64 (x.rg rd.val) else 0) (imm.setWidth 64) (16 * sh.val) 16).toNat))) ∧
  (∀ (s : State) (ag : Agent) (rd ra : Fin 32) (pos wm1 : Fin 64), s.ready ag → pos.val + wm1.val ≤ 63 →
    Completes s (.extu ⟨ag, 0⟩ rd ra pos wm1) (s.past ag (fun x => x.wg rd.val (x.rg ra.val / 2 ^ pos.val % 2 ^ (wm1.val + 1)))) ∧
    Completes s (.exts ⟨ag, 0⟩ rd ra pos wm1) (s.past ag (fun x => x.wg rd.val
      ((BitVec.ofNat (wm1.val + 1) (x.rg ra.val / 2 ^ pos.val)).signExtend 64).toNat)) ∧
    Completes s (.ins ⟨ag, 0⟩ rd ra pos wm1) (s.past ag (fun x => x.wg rd.val
      (Claims.insert (.ofNat 64 (x.rg rd.val)) (.ofNat 64 (x.rg ra.val)) pos.val (wm1.val + 1)).toNat))) ∧
  (∀ (s : State) (c : Fin 32) (rd ra : Fin 32) (pos wm1 : Fin 64), s.mayTrap c → 63 < pos.val + wm1.val →
    Enters s (.extu ⟨.core c, 0⟩ rd ra pos wm1) c EX.ILLEGAL 0 ∧ Enters s (.exts ⟨.core c, 0⟩ rd ra pos wm1) c EX.ILLEGAL 0 ∧
    Enters s (.ins ⟨.core c, 0⟩ rd ra pos wm1) c EX.ILLEGAL 0) ∧
  (∀ (s : State) (l : Fin 256) (rd ra : Fin 32) (pos wm1 : Fin 64), s.ready (.lane l) → 63 < pos.val + wm1.val →
    EndsRequest s (.extu ⟨.lane l, 0⟩ rd ra pos wm1) l EX.ILLEGAL 0 ∧ EndsRequest s (.exts ⟨.lane l, 0⟩ rd ra pos wm1) l EX.ILLEGAL 0 ∧
    EndsRequest s (.ins ⟨.lane l, 0⟩ rd ra pos wm1) l EX.ILLEGAL 0) ∧
  (∀ (s : State) (c : Fin 32) (rd : Fin 32) (v : BitVec 64), s.ready (.core c) → rd ≠ 0 →
    ∃ t0 t1 t2 t3, exec (.movi ⟨.core c, 0⟩ rd 0 false (v.extractLsb' 0 16)) s = .next t0 ∧
      exec (.movi ⟨.core c, 0⟩ rd 1 true (v.extractLsb' 16 16)) t0 = .next t1 ∧
      exec (.movi ⟨.core c, 0⟩ rd 2 true (v.extractLsb' 32 16)) t1 = .next t2 ∧
      exec (.movi ⟨.core c, 0⟩ rd 3 true (v.extractLsb' 48 16)) t2 = .next t3 ∧ (t3.core c.val).rg rd.val = v.toNat)

/-- The condition a CC value of R169 stands for; none for the others. -/
def Claims.holds (cc : Nat) (a b : BitVec 64) : Option Bool :=
  match cc with
  | 0 => some (a == b)
  | 1 => some (a != b)
  | 2 => some (a.slt b)
  | 3 => some (b.sle a)
  | 4 => some (a.ult b)
  | 5 => some (b.ule a)
  | 6 => some (a &&& b != 0)
  | _ => none

/-- The functions of PLOG. -/
def Claims.plogOps : List ((By Agent → Fin 8 → Fin 8 → Fin 8 → Instr) × (Bool → Bool → Bool)) :=
  [(.plogAnd, fun a b => a && b), (.plogOr, fun a b => a || b), (.plogXor, fun a b => a != b), (.plogAndn, fun a b => a && !b),
   (.plogMov, fun a _ => a), (.plogNot, fun a _ => !a)]

/-- R169, R170: CMP and CMPI set pD by the condition of CC, other CC values raise ILLEGAL, and PLOG sets pD from pA and pB; the operations on
gob counters saturate at 0 and 2^48 - 1, and a destination above k7 raises ILLEGAL. -/
def Obligations.PredicatesAndGobCountersAreWritten : Prop :=
  ((∀ (s : State) (ag : Agent) (pd : Fin 8) (cc : Fin 16) (ra rb : Fin 32), s.ready ag →
    ∀ v, Claims.holds cc.val (.ofNat 64 ((s.agent ag).rg ra.val)) (.ofNat 64 ((s.agent ag).rg rb.val)) = some v →
      Completes s (.cmp ⟨ag, 0⟩ pd cc ra rb) (s.past ag (fun x => x.wp pd.val v))) ∧
  (∀ (s : State) (ag : Agent) (pd : Fin 8) (cc : Fin 16) (ra : Fin 32) (imm : BitVec 20), s.ready ag →
    ∀ v, Claims.holds cc.val (.ofNat 64 ((s.agent ag).rg ra.val)) (imm.signExtend 64) = some v →
      Completes s (.cmpi ⟨ag, 0⟩ pd cc ra imm) (s.past ag (fun x => x.wp pd.val v))) ∧
  (∀ (s : State) (c : Fin 32) (pd : Fin 8) (cc : Fin 16) (ra rb : Fin 32) (imm : BitVec 20), s.mayTrap c → 6 < cc.val →
    Enters s (.cmp ⟨.core c, 0⟩ pd cc ra rb) c EX.ILLEGAL 0 ∧ Enters s (.cmpi ⟨.core c, 0⟩ pd cc ra imm) c EX.ILLEGAL 0) ∧
  (∀ (s : State) (l : Fin 256) (pd : Fin 8) (cc : Fin 16) (ra rb : Fin 32) (imm : BitVec 20), s.ready (.lane l) → 6 < cc.val →
    EndsRequest s (.cmp ⟨.lane l, 0⟩ pd cc ra rb) l EX.ILLEGAL 0 ∧ EndsRequest s (.cmpi ⟨.lane l, 0⟩ pd cc ra imm) l EX.ILLEGAL 0) ∧
  (∀ e ∈ Claims.plogOps, ∀ (s : State) (ag : Agent) (pd pa pb : Fin 8), s.ready ag →
    Completes s (e.1 ⟨ag, 0⟩ pd pa pb) (s.past ag (fun x => x.wp pd.val (e.2 (x.rp pa.val) (x.rp pb.val)))))) ∧
  ((∀ (s : State) (ag : Agent) (d ra : Fin 32) (ka kb : Fin 8), s.ready ag → d.val < 8 →
    Completes s (.kmov ⟨ag, 0⟩ d ra) (s.past ag (fun x => x.wk d.val (min (x.rg ra.val) (2 ^ 48 - 1)))) ∧
    Completes s (.kbyt ⟨ag, 0⟩ d ra) (s.past ag (fun x => x.wk d.val (min (x.rg ra.val * 256) (2 ^ 48 - 1)))) ∧
    Completes s (.kgob ⟨ag, 0⟩ d ra) (s.past ag (fun x => x.wk d.val (min ((x.rg ra.val + 255) / 256 * 65536) (2 ^ 48 - 1)))) ∧
    Completes s (.kadd ⟨ag, 0⟩ d ka kb) (s.past ag (fun x => x.wk d.val (min (x.rk ka.val + x.rk kb.val) (2 ^ 48 - 1)))) ∧
    Completes s (.ksub ⟨ag, 0⟩ d ka kb) (s.past ag (fun x => x.wk d.val (x.rk ka.val - x.rk kb.val)))) ∧
  (∀ (s : State) (ag : Agent) (rd : Fin 32) (ka : Fin 8), s.ready ag →
    Completes s (.gmov ⟨ag, 0⟩ rd ka) (s.past ag (fun x => x.wg rd.val (x.rk ka.val)))) ∧
  (∀ (s : State) (c : Fin 32) (d ra : Fin 32) (ka kb : Fin 8), s.mayTrap c → 8 ≤ d.val →
    Enters s (.kmov ⟨.core c, 0⟩ d ra) c EX.ILLEGAL 0 ∧ Enters s (.kbyt ⟨.core c, 0⟩ d ra) c EX.ILLEGAL 0 ∧
    Enters s (.kgob ⟨.core c, 0⟩ d ra) c EX.ILLEGAL 0 ∧ Enters s (.kadd ⟨.core c, 0⟩ d ka kb) c EX.ILLEGAL 0 ∧
    Enters s (.ksub ⟨.core c, 0⟩ d ka kb) c EX.ILLEGAL 0) ∧
  (∀ (s : State) (l : Fin 256) (d ra : Fin 32) (ka kb : Fin 8), s.ready (.lane l) → 8 ≤ d.val →
    EndsRequest s (.kmov ⟨.lane l, 0⟩ d ra) l EX.ILLEGAL 0 ∧ EndsRequest s (.kbyt ⟨.lane l, 0⟩ d ra) l EX.ILLEGAL 0 ∧
    EndsRequest s (.kgob ⟨.lane l, 0⟩ d ra) l EX.ILLEGAL 0 ∧ EndsRequest s (.kadd ⟨.lane l, 0⟩ d ka kb) l EX.ILLEGAL 0 ∧
    EndsRequest s (.ksub ⟨.lane l, 0⟩ d ka kb) l EX.ILLEGAL 0))

/-! ### Branches, predication, exceptions (R186 to R189) -/

/-- Where BR goes. -/
def Claims.branchTarget (pc : Nat) (off : BitVec 29) : Nat := (((pc : Int) + off.toInt) % 2 ^ 32).toNat

/-- R186 and R187 on a core: BR and JR link PC + 1 and go to their targets, a target beyond the program memory raises BUS_ERR, ECALL
raises ECALL, ERET restores STATUS and PC, and PRED covers the instructions behind it. -/
def Obligations.BranchesAndSystemInstructionsOfACore : Prop :=
  (∀ (s : State) (c : Fin 32) (rd : Fin 32) (off : BitVec 29), s.ready (.core c) →
    Claims.branchTarget (s.core c.val).pc off < 209715 →
    Completes s (.br ⟨.core c, 0⟩ rd off) (s.setCore c.val
      { ({ s.core c.val with skip := 0 } : Core).wg rd.val ((s.core c.val).pc + 1) with pc := Claims.branchTarget (s.core c.val).pc off })) ∧
  (∀ (s : State) (c : Fin 32) (rd : Fin 32) (off : BitVec 29), s.mayTrap c →
    209715 ≤ Claims.branchTarget (s.core c.val).pc off →
    Enters s (.br ⟨.core c, 0⟩ rd off) c EX.BUS_ERR (Claims.branchTarget (s.core c.val).pc off)) ∧
  (∀ (s : State) (c : Fin 32) (rd ra : Fin 32), s.ready (.core c) → (s.core c.val).rg ra.val % 2 ^ 32 < 209715 →
    Completes s (.jr ⟨.core c, 0⟩ rd ra) (s.setCore c.val
      { ({ s.core c.val with skip := 0 } : Core).wg rd.val ((s.core c.val).pc + 1) with pc := (s.core c.val).rg ra.val % 2 ^ 32 })) ∧
  (∀ (s : State) (c : Fin 32) (rd ra : Fin 32), s.mayTrap c → 209715 ≤ (s.core c.val).rg ra.val % 2 ^ 32 →
    Enters s (.jr ⟨.core c, 0⟩ rd ra) c EX.BUS_ERR ((s.core c.val).rg ra.val % 2 ^ 32)) ∧
  (∀ (s : State) (c : Fin 32), s.mayTrap c → Enters s (.ecall ⟨.core c, 0⟩) c EX.ECALL 0) ∧
  (∀ (s : State) (c : Fin 32), s.ready (.core c) → (s.core c.val).priv = 0 → bitOf ((s.core c.val).rcsr CSR.ECAUSE) 10 = false →
    s.bit (R.GAF_CORE c.val) F.GAF_CORE_SWAP_PEND = false →
    Completes s (.eret ⟨.core c, 0⟩) (s.setCore c.val
      { (s.core c.val).wcsr CSR.STATUS ((s.core c.val).rcsr CSR.ESTATUS) with
        pc := (s.core c.val).rcsr CSR.EPC % 2 ^ 32, skip := 0 })) ∧
  (∀ (s : State) (c : Fin 32), s.mayTrap c → (s.core c.val).priv ≠ 0 → Enters s (.eret ⟨.core c, 0⟩) c EX.PRIV 0) ∧
  (∀ (s : State) (c : Fin 32) (n : Fin 4) (s0 s1 s2 s3 : Fin 16), s.ready (.core c) → (s.core c.val).skip = 0 →
    (∀ i : Nat, n.val < i → i < 4 → [s0, s1, s2, s3][i]? = some 0) →
    Completes s (.pred ⟨.core c, 0⟩ n s0 s1 s2 s3) (s.setCore c.val
      { s.core c.val with
        pc := ((s.core c.val).pc + 1) % 2 ^ 32
        slots := [s0.val, s1.val, s2.val, s3.val].take (n.val + 1)
        predPc := (s.core c.val).pc, predDone := 0 })) ∧
  (∀ (s : State) (c : Fin 32), (s.core c.val).run = .running → (s.core c.val).ie = true → (s.core c.val).exl = false →
    Nat.land ((s.core c.val).rcsr CSR.EVPEND) ((s.core c.val).rcsr CSR.EVIE) ≠ 0 → (s.core c.val).sb = [] →
    (s.core c.val).skip = 0 → Enters s (.eventInterrupt c) c EX.EVENT 0)

/-- R188: entering an exception saves STATUS, the PC of the instruction or of the PRED that covers it, the cause and the address, makes
the core firm with EXL set and IE clear, and goes to EVEC; no general register, gob counter or predicate changes. -/
def Obligations.ExceptionEntrySavesAndGoesToTheHandler : Prop :=
  ∀ (x : Core) (code addr : Nat), code < 256 → x.predDone < 4 →
    let y := x.enter code addr
    y.rcsr CSR.ESTATUS = x.rcsr CSR.STATUS % 2 ^ 64 ∧
    y.rcsr CSR.EPC = (if x.slots = [] then x.pc else x.predPc) % 2 ^ 64 ∧
    y.rcsr CSR.ECAUSE = (if x.slots = [] then code else code + x.predDone * 2 ^ 8 + 2 ^ 10) ∧
    y.rcsr CSR.EADDR = addr % 2 ^ 64 ∧ y.priv = 0 ∧ y.exl = true ∧ y.ie = false ∧ y.pc = x.rcsr CSR.EVEC % 2 ^ 32 ∧
    (∀ r, y.rg r = x.rg r) ∧ (∀ k, y.rk k = x.rk k) ∧ (∀ p, y.rp p = x.rp p) ∧ y.sb = x.sb ∧
    (∀ n, n ≠ CSR.STATUS → n ≠ CSR.ESTATUS → n ≠ CSR.EPC → n ≠ CSR.ECAUSE → n ≠ CSR.EADDR → y.rcsr n = x.rcsr n)

/-- Who issues a command that is an instruction, and the reserved bits of its syllable. -/
def Claims.issued : Instr → Option (Agent × BitVec 40)
  | .ld i _ _ _ _ _ _ | .st i _ _ _ _ _ | .iAdd i _ _ _ | .iSub i _ _ _ | .aluAnd i _ _ _ | .aluOr i _ _ _ | .aluXor i _ _ _
  | .andn i _ _ _ | .sll i _ _ _ | .srl i _ _ _ | .sra i _ _ _ | .mul i _ _ _ | .mulhu i _ _ _ | .iMin i _ _ _ | .iMax i _ _ _
  | .minu i _ _ _ | .maxu i _ _ _ | .addi i _ _ _ | .andi i _ _ _ | .ori i _ _ _ | .xori i _ _ _ | .muli i _ _ _ | .slli i _ _ _
  | .srli i _ _ _ | .srai i _ _ _ | .cmp i _ _ _ _ | .cmpi i _ _ _ _ | .movi i _ _ _ _ | .extu i _ _ _ _ | .exts i _ _ _ _ | .ins i _ _ _ _
  | .plogAnd i _ _ _ | .plogOr i _ _ _ | .plogXor i _ _ _ | .plogAndn i _ _ _ | .plogMov i _ _ _ | .plogNot i _ _ _ | .kmov i _ _
  | .kbyt i _ _ | .kgob i _ _ | .kadd i _ _ _ | .ksub i _ _ _ | .gmov i _ _ | .br i _ _ | .jr i _ _ | .ecall i | .eret i
  | .pred i _ _ _ _ _ | .signal i _ _ | .wait i _ _ _ | .wake i _ | .crr i _ _ | .crw i _ _ | .crx i _ _ _ | .atomFadd i _ _ _ _ _ _
  | .atomSwap i _ _ _ _ _ _ | .atomCas i _ _ _ _ _ _ | .atomAnd i _ _ _ _ _ _ | .atomOr i _ _ _ _ _ _ | .atomXor i _ _ _ _ _ _
  | .atomUmin i _ _ _ _ _ _ | .atomUmax i _ _ _ _ _ _ | .fenceN i | .fenceD i | .fenceAll i | .tknFill i _ | .tknPeek i _ _
  | .tknTake i _ _ _ _ | .tknTakeMeter i _ _ _ _ _ | .pushT i _ _ | .pushH i _ _ | .pop i _ _ _ | .markC i _ _ | .markM i _ _
  | .lkpIx i _ _ _ _ | .lkpEm i _ _ _ _ _ | .lkpLpm i _ _ _ _ => some (i.who, i.rsv)
  | .enq i _ _ | .drop i _ => some (.lane i.who, i.rsv)
  | .deq i _ _ _ | .fwEnq i _ _ _ _ | .fwDrop i _ _ => some (.core i.who, i.rsv)
  | _ => none

/-- R165, R187: an instruction that a PRED covers with a false predicate has no effect and raises nothing; any other whose syllable has a bit set
in a reserved field, or in one the instruction does not name, raises ILLEGAL,
on a core as an exception and on a Jack lane as the end of its request. -/
def Obligations.FalsePredicateLeavesOnlyThePcMoved : Prop :=
  (∀ (s : State) (c : Fin 32) (slot : Nat) (rest : List Nat) (i : Instr) (r : BitVec 40), s.live (.core c) = true →
    (s.core c.val).slots = slot :: rest → (s.core c.val).slotTrue slot = false → Claims.issued i = some (.core c, r) →
    exec i s = .next (s.setCore c.val { s.core c.val with
      pc := ((s.core c.val).pc + 1) % 2 ^ 32, slots := rest, predDone := (s.core c.val).predDone + 1 })) ∧
  (∀ (s : State) (i : Instr) (r : BitVec 40), r ≠ 0 →
    (∀ c : Fin 32, s.mayTrap c → Claims.issued i = some (.core c, r) → Enters s i c EX.ILLEGAL 0) ∧
    (∀ l : Fin 256, s.ready (.lane l) → Claims.issued i = some (.lane l, r) → EndsRequest s i l EX.ILLEGAL 0))


/-! ### Events, control registers (R183 to R185) -/

/-- Who may read a control register, as the greatest PRIV code that may (0 firm, 1 task, 2 user). -/
def Claims.csrReaders : List (Nat × Nat) :=
  [(0x000, 1), (0x001, 0), (0x002, 0), (0x003, 0), (0x004, 0), (0x005, 0), (0x006, 1), (0x007, 1), (0x008, 0), (0x009, 0), (0x00A, 0),
   (0x00B, 2), (0x00C, 2), (0x00D, 2), (0x00E, 2), (0x00F, 2), (0x010, 0)]

/-- Who may write a control register, with the bits that a write changes. -/
def Claims.csrWriters : List (Nat × Nat × BitVec 64) :=
  [(0x000, 0, 0xC), (0x001, 0, 0xF), (0x002, 0, 0xFFFFFFFF), (0x003, 0, 0x7FF), (0x004, 0, 0xFFFFFFFFFFFFFFFF), (0x005, 0, 0xFFFFFFFF),
   (0x006, 1, 0xFFFFFFFFFFFFFFFF), (0x007, 1, 0xFFFFFFFFFFFFFFFF), (0x008, 0, 0x7FFFF), (0x009, 0, 0xFFFFFFFFFFFFFFFF), (0x00A, 0, 0xF),
   (0x010, 0, 0xFFFFFFFFFFFFFFFF)]

/-- What a control register of core `c` reads as. CYCLE counts two cycles a beat; where it starts, and which of the two cycles
of a beat a read finds, is left open (log entry 124). -/
def Claims.csrValue (s : State) (c n : Nat) : Nat :=
  if n = 0x00B then c + s.get (R.GAF_CORE c) F.GAF_CORE_PHYS * 2 ^ 8
  else if n = 0x00C then
    (Config.cycleStart (s.get (R.GAF_CORE c) F.GAF_CORE_PHYS) + 2 * s.beats + Config.free s.freeCtr % 2) % 2 ^ 64
  else if n = 0x00D then s.rd R.EMB_BEAT
  else if n = 0x00E then s.rd R.EMB_BEAT / 16
  else if n = 0x00F then 0
  else (s.core c).rcsr n

/-- A control register after a write of `v` under a mask. -/
def Claims.csrNew (old v : Nat) (mask : BitVec 64) : Nat := ((.ofNat 64 v &&& mask) ||| (.ofNat 64 old &&& ~~~mask)).toNat

/-- R185: CRR, CRW and CRX of a core read and write the registers of the table at the privilege it gives; below it they raise PRIV; a
number not in the table and a write of a read-only register raise ILLEGAL. A Jack lane reads BEAT, TICK and LANE. -/
def Obligations.ControlRegistersAreReadAndWritten : Prop :=
  (∀ e ∈ Claims.csrReaders, ∀ (s : State) (c rd : Fin 32), s.ready (.core c) → (s.core c.val).priv ≤ e.2 →
    Completes s (.crr ⟨.core c, 0⟩ rd (.ofNat 12 e.1)) (s.past (.core c) (fun x => x.wg rd.val (Claims.csrValue s c.val e.1)))) ∧
  (∀ e ∈ Claims.csrWriters, ∀ (s : State) (c rd ra : Fin 32), s.ready (.core c) → (s.core c.val).priv ≤ e.2.1 →
    Completes s (.crw ⟨.core c, 0⟩ ra (.ofNat 12 e.1))
      (s.past (.core c) (fun x => x.wcsr e.1 (Claims.csrNew (x.rcsr e.1) (x.rg ra.val) e.2.2))) ∧
    Completes s (.crx ⟨.core c, 0⟩ rd ra (.ofNat 12 e.1))
      (s.past (.core c) (fun x => (x.wcsr e.1 (Claims.csrNew (x.rcsr e.1) (x.rg ra.val) e.2.2)).wg rd.val (x.rcsr e.1)))) ∧
  (∀ e ∈ Claims.csrReaders, ∀ (s : State) (c rd : Fin 32), s.mayTrap c → e.2 < (s.core c.val).priv →
    Enters s (.crr ⟨.core c, 0⟩ rd (.ofNat 12 e.1)) c EX.PRIV 0) ∧
  (∀ e ∈ Claims.csrWriters, ∀ (s : State) (c rd ra : Fin 32), s.mayTrap c → e.2.1 < (s.core c.val).priv →
    Enters s (.crw ⟨.core c, 0⟩ ra (.ofNat 12 e.1)) c EX.PRIV 0 ∧ Enters s (.crx ⟨.core c, 0⟩ rd ra (.ofNat 12 e.1)) c EX.PRIV 0) ∧
  (∀ (n : BitVec 12) (s : State) (c rd ra : Fin 32), s.mayTrap c →
    (0x10 < n.toNat → Enters s (.crr ⟨.core c, 0⟩ rd n) c EX.ILLEGAL 0) ∧
    (0x10 < n.toNat ∨ (0xB ≤ n.toNat ∧ n.toNat ≤ 0xF) →
      Enters s (.crw ⟨.core c, 0⟩ ra n) c EX.ILLEGAL 0 ∧ Enters s (.crx ⟨.core c, 0⟩ rd ra n) c EX.ILLEGAL 0)) ∧
  (∀ (s : State) (l : Fin 256) (rd : Fin 32), s.ready (.lane l) →
    Completes s (.crr ⟨.lane l, 0⟩ rd 0x00D) (s.past (.lane l) (fun x => x.wg rd.val (s.rd R.EMB_BEAT))) ∧
    Completes s (.crr ⟨.lane l, 0⟩ rd 0x00E) (s.past (.lane l) (fun x => x.wg rd.val (s.rd R.EMB_BEAT / 16))) ∧
    Completes s (.crr ⟨.lane l, 0⟩ rd 0x00F) (s.past (.lane l) (fun x => x.wg rd.val l.val)))

/-- R183 and R184: SIGNAL sets an event bit of a logical core, WAIT returns and clears masked bits or sleeps, a timeout returns 0, WAIT
with mask 0 stops the clock, and WAKE starts a stopped core. -/
def Obligations.EventsSignalWaitAndWake : Prop :=
  (∀ (s : State) (ag : Agent) (ra rb : Fin 32), s.ready ag → (s.agent ag).deviceWaits = false →
    (((s.agent ag).rg ra.val % 64 < 32 ∧ (s.agent ag).rg rb.val % 64 ≠ 63 ∧ (∀ c, ag = .core c → c.val ≠ (s.agent ag).rg ra.val % 64)) →
      Completes s (.signal ⟨ag, 0⟩ ra rb) ((s.setCore ((s.agent ag).rg ra.val % 64)
        ((s.core ((s.agent ag).rg ra.val % 64)).setEvent ((s.agent ag).rg rb.val % 64))).past ag id)) ∧
    ((31 < (s.agent ag).rg ra.val % 64 ∨ (s.agent ag).rg rb.val % 64 = 63) → Completes s (.signal ⟨ag, 0⟩ ra rb) (s.past ag id))) ∧
  (∀ (s : State) (c rd ra rb : Fin 32), s.ready (.core c) →
    (∀ hit, Nat.land ((s.core c.val).rcsr CSR.EVPEND) ((s.core c.val).rg ra.val) = hit → hit ≠ 0 →
      Completes s (.wait ⟨.core c, 0⟩ rd ra rb) (s.past (.core c)
        (fun x => (x.wcsr CSR.EVPEND (Nat.xor (x.rcsr CSR.EVPEND) hit)).wg rd.val hit))) ∧
    ((s.core c.val).rg ra.val ≠ 0 → bitOf ((s.core c.val).rg ra.val) 40 = false →
      Nat.land ((s.core c.val).rcsr CSR.EVPEND) ((s.core c.val).rg ra.val) = 0 →
      ∃ t, exec (.wait ⟨.core c, 0⟩ rd ra rb) s = .next t ∧
        (t.core c.val).run = .waiting ((s.core c.val).rg ra.val) rd.val ((s.core c.val).rg rb.val != 0)) ∧
    ((s.core c.val).rg ra.val = 0 → s.bit (R.GAF_CORE c.val) F.GAF_CORE_SWAP_PEND = false →
      bitOf (s.rd R.EMB_WAKEMASK) 40 = false →
      ∃ t, exec (.wait ⟨.core c, 0⟩ rd ra rb) s = .next t ∧ (t.core c.val).run = .stopped rd.val)) ∧
  (∀ (s : State) (c : Fin 32) (mask rd : Nat), (s.core c.val).run = .waiting mask rd true →
    exec (.waitTimeout c) s = .next (s.setCore c.val { (s.core c.val).wg rd 0 with run := .running })) ∧
  (∀ (x : Core) (b mask rd : Nat) (lim : Bool), x.run = .waiting mask rd lim → bitOf mask b = true → b < 64 →
    mask < 2 ^ 64 → (x.setEvent b).run = .running ∧
      (rd ≠ 0 → (x.setEvent b).rg rd = Nat.land (Nat.lor (x.rcsr CSR.EVPEND) (2 ^ b)) mask) ∧
      Nat.land ((x.setEvent b).rcsr CSR.EVPEND) mask = 0) ∧
  (∀ (s : State) (c ra : Fin 32), s.ready (.core c) → (s.core c.val).priv = 0 → (s.core c.val).deviceWaits = false →
    ((s.core c.val).rg ra.val % 64 < 32 → (s.core c.val).rg ra.val % 64 ≠ c.val →
      Completes s (.wake ⟨.core c, 0⟩ ra) ((s.setCore ((s.core c.val).rg ra.val % 64)
        (s.core ((s.core c.val).rg ra.val % 64)).startClock).past (.core c) id)) ∧
    (31 < (s.core c.val).rg ra.val % 64 → Completes s (.wake ⟨.core c, 0⟩ ra) (s.past (.core c) id))) ∧
  (∀ (s : State) (c ra : Fin 32), s.mayTrap c → (s.core c.val).priv ≠ 0 → Enters s (.wake ⟨.core c, 0⟩ ra) c EX.PRIV 0)

/-! ### Loads, stores, atomics, fences (R135 to R139, R171 to R175, R190) -/

/-- The address of LD and ST. -/
def Claims.address (s : State) (ag : Agent) (ra : Fin 32) (disp : BitVec 20) : Nat :=
  (BitVec.ofNat 64 ((s.agent ag).rg ra.val) + disp.signExtend 64).toNat

/-- What a load of `n` bytes makes of their value. -/
def Claims.extend (v n : Nat) (sx : Bool) : Nat := if sx then ((BitVec.ofNat (8 * n) v).signExtend 64).toNat else v % 2 ^ (8 * n)

/-- R136, R172: LD gives gD the 2^SZ bytes at its address, of memory or of the newest store of its own that covers them; a misaligned
address raises ALIGN, SX with SZ 3 ILLEGAL, a user access of a device space PRIV, and a space that does not exist BUS_ERR. ST of a core puts
an entry at the end of its store buffer and changes no memory; a store of a lane is performed at once, in exactly its 2^SZ bytes. -/
def Obligations.LoadsReadAndStoresEnterTheStoreBuffer : Prop :=
  ((∀ (s : State) (ag : Agent) (rd ra : Fin 32) (sz : Fin 4) (sx ta : Bool) (disp : BitVec 20) (a n : Nat), s.ready ag →
    a = Claims.address s ag ra disp → n = 2 ^ sz.val → ¬ (sx = true ∧ sz.val = 3) → a % n = 0 →
    (ta = true → (s.agent ag).deviceWaits = false) →
    ((s.agent ag).sbOverlaps a n = false → s.mayAccess ag a n AK.read →
      Accesses s (.ld ⟨ag, 0⟩ rd ra sz sx ta disp) (s.past ag (fun x => x.wg rd.val (Claims.extend (s.word (State.home ag a) n) n sx)))) ∧
    (∀ (older : List StoreEnt) (e : StoreEnt), (s.agent ag).sb = older ++ [e] → e.atom = none → e.addr ≤ a →
      a + n ≤ e.addr + e.data.length → ta = false → normalAddr a = true →
      Completes s (.ld ⟨ag, 0⟩ rd ra sz sx ta disp)
        (s.past ag (fun x => x.wg rd.val (Claims.extend (leValue (((e.data.drop (a - e.addr)).take n).map (·.toNat))) n sx))))) ∧
  (∀ (s : State) (c rd ra : Fin 32) (sz : Fin 4) (sx ta : Bool) (disp : BitVec 20) (a : Nat), s.mayTrap c →
    a = Claims.address s (.core c) ra disp →
    (sx = true → sz.val = 3 → Enters s (.ld ⟨.core c, 0⟩ rd ra sz sx ta disp) c EX.ILLEGAL 0) ∧
    (¬ (sx = true ∧ sz.val = 3) → a % 2 ^ sz.val ≠ 0 → Enters s (.ld ⟨.core c, 0⟩ rd ra sz sx ta disp) c EX.ALIGN a) ∧
    (¬ (sx = true ∧ sz.val = 3) → a % 2 ^ sz.val = 0 → (s.core c.val).priv = 2 → 2 ≤ a / 2 ^ 48 → a / 2 ^ 48 ≤ 4 →
      Enters s (.ld ⟨.core c, 0⟩ rd ra sz sx ta disp) c EX.PRIV a) ∧
    (¬ (sx = true ∧ sz.val = 3) → a % 2 ^ sz.val = 0 → 4 < a / 2 ^ 48 →
      Enters s (.ld ⟨.core c, 0⟩ rd ra sz sx ta disp) c EX.BUS_ERR a))) ∧
  ((∀ (s : State) (c rd ra : Fin 32) (sz : Fin 4) (ta : Bool) (disp : BitVec 20) (a : Nat), s.ready (.core c) →
    a = Claims.address s (.core c) ra disp → a % 2 ^ sz.val = 0 → (a / 2 ^ 48 ≤ 1 ∨ (a / 2 ^ 48 ≤ 4 ∧ (s.core c.val).priv ≠ 2)) →
    openAddr a = true → (s.core c.val).sb.length < 16 →
    Completes s (.st ⟨.core c, 0⟩ rd ra sz ta disp) (s.past (.core c) (fun x =>
      { x with sb := x.sb ++ [({
          addr := a, data := leBytes (x.rg rd.val) (2 ^ sz.val), device := !normalAddr a || ta, atom := none, operand := 0
          openSeq := false, closeSeq := false, origin := s.agentOrigin (.core c), fenced := false, sent := 0 } : StoreEnt)] }))) ∧
  (∀ (s : State) (l : Fin 256) (rd ra : Fin 32) (sz : Fin 4) (ta : Bool) (disp : BitVec 20) (a : Nat), s.ready (.lane l) →
    a = Claims.address s (.lane l) ra disp → a % 2 ^ sz.val = 0 → s.mayAccess (.lane l) a (2 ^ sz.val) AK.write →
    Accesses s (.st ⟨.lane l, 0⟩ rd ra sz ta disp)
      ((s.store (State.home (.lane l) a) (leBytes ((s.lane l.val).rg rd.val) (2 ^ sz.val))).past (.lane l) id)) ∧
  (∀ (s : State) (c rd ra : Fin 32) (sz : Fin 4) (ta : Bool) (disp : BitVec 20), s.mayTrap c →
    Claims.address s (.core c) ra disp % 2 ^ sz.val ≠ 0 →
    Enters s (.st ⟨.core c, 0⟩ rd ra sz ta disp) c EX.ALIGN (Claims.address s (.core c) ra disp)))

/-- R135, R137, R139, R175, R190: a buffered normal store with no older entry on its bytes is performed in exactly its bytes and leaves the
buffer; one its gate denies leaves it with SERR_ADDR, SERR_INFO and event bit 63 set and writes nothing; a device-ordered store is
acknowledged in its turn. FENCE.N completes when no normal store of the agent is buffered, FENCE.D when no device store is, putting later
device accesses behind the normal stores before it, FENCE.ALL when the buffer is empty; until then each waits. -/
def Obligations.BufferedStoresArePerformedAndFencesWait : Prop :=
  ((∀ (s : State) (c : Fin 32) (i : Fin 16) (e : StoreEnt), (s.core c.val).sb[i.val]? = some e → e.device = false →
    (∀ o ∈ (s.core c.val).sb.take i.val, o.overlaps e.addr e.len = false) → s.mayStore c e →
    (∀ a, (s.core c.val).run ≠ .faulting a) → Accesses s (.storePerformed c i) ((s.store (State.home (.core c) e.addr) e.data).setCore c.val
      { s.core c.val with sb := (s.core c.val).sb.eraseIdx i.val })) ∧
  (∀ (s : State) (c : Fin 32) (i : Fin 16) (e : StoreEnt), (s.core c.val).sb[i.val]? = some e → e.device = false →
    (∀ o ∈ (s.core c.val).sb.take i.val, o.overlaps e.addr e.len = false) → e.atom = none → normalAddr e.addr = true →
    spaceOf e.addr = 0 → (s.gateCheck gateLocal (offOf e.addr) e.data.length AK.write e.origin).1 = false →
    (s.core c.val).run = .running → bitOf ((s.core c.val).rcsr CSR.SERR_INFO) 0 = false →
    ∃ t, exec (.storeErr c i) s = .next t ∧ t.mem = s.mem ∧ (t.core c.val).sb = (s.core c.val).sb.eraseIdx i.val ∧
      (t.core c.val).rcsr CSR.SERR_ADDR = e.addr % 2 ^ 64 ∧ (t.core c.val).rcsr CSR.SERR_INFO % 16 =
        1 + (s.core c.val).rcsr CSR.SERR_INFO % 4 / 2 * 2 ∧ bitOf ((t.core c.val).rcsr CSR.EVPEND) 63 = true) ∧
  (∀ (s : State) (c : Fin 32) (older newer : List StoreEnt) (e : StoreEnt), (s.core c.val).sb = older ++ e :: newer →
    e.device = true → e.sent = 0 → (∀ o ∈ older, o.device = false ∧ o.fenced = false ∧ o.overlaps e.addr e.len = false) →
    s.mayStore c e →
    Accesses s (.deviceStoreAck c) ((s.store (State.home (.core c) e.addr) e.data).setCore c.val
      { s.core c.val with sb := older ++ newer }))) ∧
  (∀ (s : State) (ag : Agent), s.ready ag →
    ((∀ e ∈ (s.agent ag).sb, e.device = true) → Completes s (.fenceN ⟨ag, 0⟩) (s.past ag id)) ∧
    ((∃ e ∈ (s.agent ag).sb, e.device = false) → exec (.fenceN ⟨ag, 0⟩) s = .next s) ∧
    ((∀ e ∈ (s.agent ag).sb, e.device = false) →
      Completes s (.fenceD ⟨ag, 0⟩) (s.past ag (fun x => { x with sb := x.sb.map (fun e => { e with fenced := true }) }))) ∧
    ((∃ e ∈ (s.agent ag).sb, e.device = true) → exec (.fenceD ⟨ag, 0⟩) s = .next s) ∧
    ((s.agent ag).sb = [] → Completes s (.fenceAll ⟨ag, 0⟩) (s.past ag id)) ∧
    ((s.agent ag).sb ≠ [] → exec (.fenceAll ⟨ag, 0⟩) s = .next s))

/-- A store that is performed changes no byte of memory outside the bytes of its entry. -/
def Obligations.PerformedStoreChangesOnlyItsBytes : Prop :=
  ∀ (s t : State) (c : Fin 32) (i : Fin 16) (e : StoreEnt), (s.core c.val).sb[i.val]? = some e →
    (spaceOf e.addr = 1 → s.errsIn (offOf e.addr) e.len = []) → exec (.storePerformed c i) s = .next t →
    ∀ x, x < State.home (.core c) e.addr ∨ State.home (.core c) e.addr + e.len ≤ x → t.byte x = s.byte x

/-- The atomics of R173 with the new value of the word from old, gB and gD. -/
def Claims.atomicOps : List ((By Agent → Fin 32 → Fin 32 → Fin 32 → Bool → Bool → Bool → Instr) × AtomOp ×
    (BitVec 64 → BitVec 64 → BitVec 64 → BitVec 64)) :=
  [(.atomFadd, .fadd, fun old b _ => old + b), (.atomSwap, .swap, fun _ b _ => b),
   (.atomCas, .cas, fun old b d => if old = d then b else old), (.atomAnd, .and, fun old b _ => old &&& b),
   (.atomOr, .or, fun old b _ => old ||| b), (.atomXor, .xor, fun old b _ => old ^^^ b),
   (.atomUmin, .umin, fun old b _ => if old.ule b then old else b), (.atomUmax, .umax, fun old b _ => if old.ule b then b else old)]

/-- Open sequences after an atomic of core `c` on a line with its OPEN and CLOSE marks (R174). -/
def Claims.seqsAfter (s : State) (c : Fin 32) (line : Nat) (opn cls : Bool) : List (Nat × Nat × Lease) :=
  let l := if opn then s.gst.seqs ++
      [(line, c.val, ({ holder := s.agentOrigin (.core c), deadline := s.get R.GST_SEQCFG F.GST_SEQCFG_SEQ_TO, expired := false } : Lease))]
    else s.gst.seqs
  if cls then l.filter (fun e => !(e.1 == line && e.2.1 == c.val)) else l

/-- R173 and R174: a returning atomic replaces the 64-bit word by its function and returns the old value, and its OPEN and CLOSE marks open
and close the sequence of the line; with NR it enters the store buffer of a core; the forms the rules forbid raise their exceptions. -/
def Obligations.AtomicsReplaceTheWordAndReturnItsOldValue : Prop :=
  (∀ op ∈ Claims.atomicOps, ∀ (s : State) (c rd ra rb : Fin 32) (opn cls : Bool) (a old : Nat), s.ready (.core c) →
    a = (s.core c.val).rg ra.val → a % 8 = 0 → (s.core c.val).sbOverlaps a 8 = false → s.mayAccess (.core c) a 8 AK.atomic →
    ((opn = true ∨ cls = true) → spaceOf a = 1) → (opn = true → s.seqFull (offOf a / 64) = false) →
    old = s.word (State.home (.core c) a) 8 →
    Accesses s (op.1 ⟨.core c, 0⟩ rd ra rb false opn cls)
      ({ (s.storeWord (State.home (.core c) a) (op.2.2 (.ofNat 64 old) (.ofNat 64 ((s.core c.val).rg rb.val))
          (.ofNat 64 ((s.core c.val).rg rd.val))).toNat 8) with
        gst := { s.gst with seqs := Claims.seqsAfter s c (offOf a / 64) opn cls } }.past (.core c) (fun x => x.wg rd.val old))) ∧
  (∀ op ∈ Claims.atomicOps, ∀ (s : State) (l : Fin 256) (rd ra rb : Fin 32) (nr : Bool) (a old : Nat), s.ready (.lane l) →
    a = (s.lane l.val).rg ra.val → a % 8 = 0 → (nr = true → op.2.1 ≠ .cas) → s.mayAccess (.lane l) a 8 AK.atomic →
    old = s.word (State.home (.lane l) a) 8 →
    Accesses s (op.1 ⟨.lane l, 0⟩ rd ra rb nr false false)
      ((s.storeWord (State.home (.lane l) a) (op.2.2 (.ofNat 64 old) (.ofNat 64 ((s.lane l.val).rg rb.val))
          (.ofNat 64 ((s.lane l.val).rg rd.val))).toNat 8).past (.lane l) (fun x => if nr then x else x.wg rd.val old))) ∧
  (∀ op ∈ Claims.atomicOps, ∀ (s : State) (c rd ra rb : Fin 32) (opn cls : Bool) (a : Nat), s.ready (.core c) → op.2.1 ≠ .cas →
    a = (s.core c.val).rg ra.val → a % 8 = 0 → normalAddr a = true → ((opn = true ∨ cls = true) → spaceOf a = 1) →
    (s.core c.val).sb.length < 16 →
    Completes s (op.1 ⟨.core c, 0⟩ rd ra rb true opn cls) (s.past (.core c) (fun x => { x with sb := x.sb ++ [({
          addr := a, data := [], device := false, atom := some op.2.1, operand := x.rg rb.val, openSeq := opn, closeSeq := cls
          origin := s.agentOrigin (.core c), fenced := false, sent := 0 } : StoreEnt)] }))) ∧
  (∀ op ∈ Claims.atomicOps, ∀ (s : State) (c rd ra rb : Fin 32) (nr opn cls : Bool) (a : Nat), s.mayTrap c →
    a = (s.core c.val).rg ra.val → (nr = true → op.2.1 ≠ .cas) →
    (a % 8 ≠ 0 → Enters s (op.1 ⟨.core c, 0⟩ rd ra rb nr opn cls) c EX.ALIGN a) ∧
    (a % 8 = 0 → (normalAddr a = false ∨ ((opn = true ∨ cls = true) ∧ spaceOf a = 0)) →
      Enters s (op.1 ⟨.core c, 0⟩ rd ra rb nr opn cls) c EX.BUS_ERR a)) ∧
  (∀ (s : State) (c rd ra rb : Fin 32) (opn cls : Bool), s.mayTrap c →
    Enters s (.atomCas ⟨.core c, 0⟩ rd ra rb true opn cls) c EX.ILLEGAL 0)

/-! ### Tables, tokens, lists, packets (R176 to R182) -/

/-- What a lookup does to the registers of its agent: the value and pD = 1 on a hit, the default and pD = 0 on a miss. -/
def Claims.looked (s : State) (d : Tbl) (hit : Option Nat) (rd : Fin 32) (pd : Fin 8) (x : Core) : Core :=
  match hit with
  | some i => (x.wg rd.val (d.value (s.entry d i))).wp pd.val true
  | none => (x.wg rd.val d.default).wp pd.val false

/-- R176: each lookup gives gD the entry's value and pD = 1 on a hit, the default value and pD = 0 on a miss, in the bank of the agent; for
a table on the die, and for one in the gather store whose entry or buckets the agent reaches. -/
def Obligations.LookupsReturnTheEntryOrTheDefault : Prop :=
  ∀ (s : State) (ag : Agent) (rd ra rb : Fin 32) (tb : Fin 256) (pd : Fin 8) (d : Tbl), s.ready ag →
    d = s.tbl (s.agentCurrent ag) tb.val →
    (d.place = 0 ∨ (s.undisputed (s.agentOrigin ag) ∧
      ∀ e ∈ d.ranges ((s.agent ag).rg ra.val) (d.key ((s.agent ag).rg ra.val) ((s.agent ag).rg rb.val)),
        (s.agent ag).sbOverlaps (2 ^ 48 + e.1) e.2 = false ∧ s.mayAccess ag (2 ^ 48 + e.1) e.2 AK.read)) →
    Accesses s (.lkpIx ⟨ag, 0⟩ rd ra tb pd)
      (s.past ag (Claims.looked s d (s.lookup d 0 ((s.agent ag).rg ra.val) 0) rd pd)) ∧
    Accesses s (.lkpEm ⟨ag, 0⟩ rd ra rb tb pd)
      (s.past ag (Claims.looked s d (s.lookup d 1 ((s.agent ag).rg ra.val) ((s.agent ag).rg rb.val)) rd pd)) ∧
    Accesses s (.lkpLpm ⟨ag, 0⟩ rd ra tb pd)
      (s.past ag (Claims.looked s d (s.lookup d 2 ((s.agent ag).rg ra.val) 0) rd pd))

/-- R176: what each form of lookup finds: the valid entry of an index inside the table, a valid entry with exactly the key among the
places of the key, a valid prefix that matches and that no longer valid one matches beside. -/
def Obligations.LookupFindsTheEntryOfItsForm : Prop :=
  ∀ (s : State) (d : Tbl) (a b : Nat),
    (d.type = 1 → ∀ i, s.lookup d 0 a b = some i ↔ i = a ∧ a < 2 ^ d.cap ∧ d.valid (s.entry d a) = true) ∧
    (d.type = 2 → ∀ i, s.lookup d 1 a b = some i → i ∈ d.buckets (d.key a b) ∧ d.valid (s.entry d i) = true ∧
      recWord (s.entry d i) 0 + recWord (s.entry d i) 1 * 2 ^ 64 = (a + (if 64 < d.width then b * 2 ^ 64 else 0)) % 2 ^ d.width) ∧
    (d.type = 2 → s.lookup d 1 a b = none → ∀ i ∈ d.buckets (d.key a b), d.valid (s.entry d i) = true →
      recWord (s.entry d i) 0 + recWord (s.entry d i) 1 * 2 ^ 64 ≠ d.key a b) ∧
    (d.type = 3 → ∀ fits : Nat → Prop, (∀ i, fits i ↔ i < 2 ^ d.cap ∧ d.valid (s.entry d i) = true ∧ plenOf (s.entry d i) ≤ min d.width 64 ∧
        topBits (topBits a d.width) (plenOf (s.entry d i)) = recWord (s.entry d i) 0) →
      (∀ i, s.lookup d 2 a b = some i → fits i ∧ ∀ j, fits j → plenOf (s.entry d j) ≤ plenOf (s.entry d i)) ∧
      (s.lookup d 2 a b = none → ∀ j, ¬ fits j)) ∧
    (∀ form, form + 1 ≠ d.type → s.lookup d form a b = none)

/-- Word `i` of a record at `a`. -/
def Claims.recordWord (s : State) (ag : Agent) (a i : Nat) : Nat := s.word (State.home ag a + 8 * i) 8

/-- The level of a token bucket at `a` after its refill (R177). -/
def Claims.level (s : State) (ag : Agent) (a : Nat) : Int :=
  let w := Claims.recordWord s ag a
  min ((BitVec.ofNat 64 (w 1)).toInt + ((w 2 % 2 ^ 24 * ((s.rd R.EMB_BEAT / 16 % 2 ^ 56 + 2 ^ 56 - w 0 % 2 ^ 56) % 2 ^ 56) : Nat) : Int)) (w 3 : Int)

/-- The state with the bucket at `a` updated to a level: LAST is the current tick, B the level, and nothing else of it changes. -/
def Claims.bucketSet (s : State) (ag : Agent) (a : Nat) (b : Int) : State :=
  (s.storeWord (State.home ag a) (s.rd R.EMB_BEAT / 16 % 2 ^ 56 + Claims.recordWord s ag a 0 / 2 ^ 56 * 2 ^ 56) 8).storeWord
    (State.home ag a + 8) (BitVec.ofInt 64 b).toNat 8

/-- R177, R103, R104, R178: FILL, PEEK and TAKE of a token bucket the agent reaches, where the charge is taken when it is there, or with DEBT
when anything is; a meter on a record beyond the flow area or while ENABLE is clear answers red, charges nothing and counts BADREC, on a
cached valid record gives the colour of the marker and pD and stores what the marker makes of it, and waits for one not cached. -/
def Obligations.TokenBucketsAndMetersFollowTheirRecords : Prop :=
  ((∀ (s : State) (ag : Agent) (rd ra : Fin 32) (debt : Bool) (kb pd : Fin 8) (a : Nat), s.ready ag → a = (s.agent ag).rg ra.val →
    a % 32 = 0 → (s.agent ag).sbOverlaps a 32 = false →
    (s.mayAccess ag a 32 AK.atomic → Accesses s (.tknFill ⟨ag, 0⟩ ra) ((Claims.bucketSet s ag a (Claims.level s ag a)).past ag id)) ∧
    (s.mayAccess ag a 32 AK.read →
      Accesses s (.tknPeek ⟨ag, 0⟩ rd ra) (s.past ag (fun x => x.wg rd.val (BitVec.ofInt 64 (Claims.level s ag a)).toNat))) ∧
    (s.mayAccess ag a 32 AK.atomic →
      (((s.agent ag).rk kb.val : Int) ≤ Claims.level s ag a ∨ (debt = true ∧ 0 < Claims.level s ag a) →
        Accesses s (.tknTake ⟨ag, 0⟩ ra debt kb pd)
          ((Claims.bucketSet s ag a (Claims.level s ag a - ((s.agent ag).rk kb.val : Int))).past ag (fun x => x.wp pd.val true))) ∧
      (¬ (((s.agent ag).rk kb.val : Int) ≤ Claims.level s ag a ∨ (debt = true ∧ 0 < Claims.level s ag a)) →
        Accesses s (.tknTake ⟨ag, 0⟩ ra debt kb pd)
          ((Claims.bucketSet s ag a (Claims.level s ag a)).past ag (fun x => x.wp pd.val false))))) ∧
  (∀ (s : State) (c rd ra : Fin 32) (debt : Bool) (kb pd : Fin 8) (a : Nat), s.mayTrap c → a = (s.core c.val).rg ra.val →
    (a % 32 ≠ 0 → Enters s (.tknFill ⟨.core c, 0⟩ ra) c EX.ALIGN a ∧ Enters s (.tknPeek ⟨.core c, 0⟩ rd ra) c EX.ALIGN a ∧
      Enters s (.tknTake ⟨.core c, 0⟩ ra debt kb pd) c EX.ALIGN a) ∧
    (a % 32 = 0 → 1 < a / 2 ^ 48 → Enters s (.tknFill ⟨.core c, 0⟩ ra) c EX.BUS_ERR a ∧ Enters s (.tknPeek ⟨.core c, 0⟩ rd ra) c EX.BUS_ERR a ∧
      Enters s (.tknTake ⟨.core c, 0⟩ ra debt kb pd) c EX.BUS_ERR a))) ∧
  (∀ (s : State) (ag : Agent) (rd ra rb rc : Fin 32) (pd : Fin 8) (f : Nat), s.ready ag → f = (s.agent ag).rg ra.val →
    (s.bit R.POL_CTL F.POL_CTL_ENABLE = false ∨ s.flowCount ≤ f →
      Completes s (.tknTakeMeter ⟨ag, 0⟩ rd ra rb rc pd)
        ((s.bump R.POL_STATUS F.POL_STATUS_BADREC 1).past ag (fun x => (x.wg rd.val 2).wp pd.val false))) ∧
    (∀ l, s.bit R.POL_CTL F.POL_CTL_ENABLE = true → f < s.flowCount → (∀ w ∈ s.pol.filling, w.idx ≠ f) →
      s.pol.cache.find? (fun x => x.idx == f) = some l → s.pol.cache.length ≤ 16 → recValid l.words = true →
      ∀ c ws, s.meter (s.agentCurrent ag) l.words ((s.agent ag).rg rb.val % 2 ^ 14) ((s.agent ag).rg rc.val % 4) = (c, ws) →
      Completes s (.tknTakeMeter ⟨ag, 0⟩ rd ra rb rc pd)
        ({ (s.bump R.POL_CACHESTAT F.POL_CACHESTAT_HITS 1) with
            pol := { s.pol with cache := { l with words := ws, dirty := true } :: s.pol.cache.filter (fun x => x.idx != l.idx) } }.past
          ag (fun x => (x.wg rd.val c).wp pd.val (c != 2)))) ∧
    (s.bit R.POL_CTL F.POL_CTL_ENABLE = true → f < s.flowCount → (∀ x ∈ s.pol.cache, x.idx ≠ f) →
      ∃ t, exec (.tknTakeMeter ⟨ag, 0⟩ rd ra rb rc pd) s = .next t ∧ (t.agent ag).run = .held rd.val ∧ t.mem = s.mem))

/-- R179: PUSH.T, PUSH.H and POP on a list whose header and elements the agent reaches. -/
def Obligations.ListsPushAndPop : Prop :=
  ∀ (s : State) (ag : Agent) (rd ra rb : Fin 32) (pd : Fin 8) (h e head tail count : Nat) (put : State → Nat → Nat → State), s.ready ag →
    h = (s.agent ag).rg ra.val → e = (s.agent ag).rg rb.val → head = Claims.recordWord s ag h 0 → tail = Claims.recordWord s ag h 1 →
    count = Claims.recordWord s ag h 2 → (∀ (u : State) (a v : Nat), put u a v = u.storeWord (State.home ag a) v 8) →
    (s.agent ag).sb = [] → h % 32 = 0 → (spaceOf h = 1 → s.undisputed (s.agentOrigin ag)) → s.mayAccess ag h 32 AK.atomic →
    (e % 8 = 0 → spaceOf e = spaceOf h → s.mayAccess ag e 8 AK.atomic →
      (tail = 0 → Accesses s (.pushT ⟨ag, 0⟩ ra rb)
        ((put (put (put (put s e 0) h e) (h + 8) e) (h + 16) ((count + 1) % 2 ^ 64)).past ag id)) ∧
      (tail ≠ 0 → tail % 8 = 0 → spaceOf tail = spaceOf h → s.mayAccess ag tail 8 AK.atomic → Accesses s (.pushT ⟨ag, 0⟩ ra rb)
        ((put (put (put (put s e 0) tail e) (h + 8) e) (h + 16) ((count + 1) % 2 ^ 64)).past ag id)) ∧
      (tail = 0 → Accesses s (.pushH ⟨ag, 0⟩ ra rb)
        ((put (put (put (put s e head) h e) (h + 8) e) (h + 16) ((count + 1) % 2 ^ 64)).past ag id)) ∧
      (tail ≠ 0 → Accesses s (.pushH ⟨ag, 0⟩ ra rb)
        ((put (put (put s e head) h e) (h + 16) ((count + 1) % 2 ^ 64)).past ag id))) ∧
    (head = 0 → Accesses s (.pop ⟨ag, 0⟩ rd ra pd) (s.past ag (fun x => (x.wg rd.val 0).wp pd.val false))) ∧
    (head ≠ 0 → head % 8 = 0 → spaceOf head = spaceOf h → s.mayAccess ag head 8 AK.atomic →
      ∀ nxt, nxt = Claims.recordWord s ag head 0 →
      (nxt ≠ 0 → Accesses s (.pop ⟨ag, 0⟩ rd ra pd)
        ((put (put s h nxt) (h + 16) ((count + 2 ^ 64 - 1) % 2 ^ 64)).past ag (fun x => (x.wg rd.val head).wp pd.val true))) ∧
      (nxt = 0 → Accesses s (.pop ⟨ag, 0⟩ rd ra pd)
        ((put (put (put s h nxt) (h + 8) 0) (h + 16) ((count + 2 ^ 64 - 1) % 2 ^ 64)).past ag
          (fun x => (x.wg rd.val head).wp pd.val true))))

/-- R180: in a Jack program ENQ ends the request and enqueues its packet to gA[19:0] with META gB and its marks, DROP ends it as PROG_DROP with
REASON, MARK.C and MARK.M set the marks of its own packet; ENQ waits while an earlier request of its source queue has not ended. -/
def Obligations.JackProgramsEnqueueDropAndMark : Prop :=
  ∀ (s : State) (l : Fin 256) (ra rb : Fin 32) (reason : BitVec 8) (r : JackReq), s.ready (.lane l) → s.laneReq l.val = some r →
    (s.earlierRequest l.val r = false → exec (.enq ⟨l, 0⟩ ra rb) s = .next (((s.begun (.lane l)).jackEnd r).enqueue
      { r.pkt with mdat := (s.lane l.val).rg rb.val, colour := (s.lane l.val).colour, mirror := (s.lane l.val).mirror }
      ((s.lane l.val).rg ra.val % 2 ^ 20)).2) ∧
    (s.earlierRequest l.val r = true → exec (.enq ⟨l, 0⟩ ra rb) s = .next s) ∧
    exec (.drop ⟨l, 0⟩ reason) s = .next (((s.begun (.lane l)).jackEnd r).dropPkt r.pkt ST.PROG_DROP reason.toNat) ∧
    Completes s (.markC ⟨.lane l, 0⟩ ra 0) (s.past (.lane l) (fun x => { x with colour := x.rg ra.val % 256 })) ∧
    Completes s (.markM ⟨.lane l, 0⟩ ra 0) (s.past (.lane l) (fun x => { x with mirror := some (x.rg ra.val % 4) }))

/-- R181: firmware takes the head packet of a queue by DEQ and gets 0 from a closed or empty one; ENQ, DROP and the MARKs act on the held packet
that the handle names; other privilege raises PRIV, a handle of no held packet BUS_ERR. -/
def Obligations.FirmwareActsOnHeldPackets : Prop :=
  (∀ (s : State) (c rd rb ra : Fin 32) (q : Nat), s.ready (.core c) → (s.core c.val).priv = 0 → q = (s.core c.val).rg ra.val % 65536 →
    ((s.qstate q ∉ [QS.ACTIVE, QS.FROZEN, QS.DRAINING, QS.HELD] ∨ s.nextOf q = none) →
      Completes s (.deq ⟨c, 0⟩ rd rb ra) (s.past (.core c) (fun x => x.wg rd.val 0))) ∧
    (s.qstate q ∈ [QS.ACTIVE, QS.FROZEN, QS.DRAINING, QS.HELD] → ∀ p, s.nextOf q = some p → ∀ u,
      u = (s.begun (.core c)).setLinked q ((s.linked q).filter (fun x => x.id != p.id)) →
      (rd ≠ rb → Completes s (.deq ⟨c, 0⟩ rd rb ra) ((((u.setHeld (u.gaf.held ++ [p])).setG (.core c) rd.val
        (p.gobs.headD 0 % 2 ^ 32 + p.len % 2 ^ 14 * 2 ^ 32 + 2 ^ 63)).setG (.core c) rb.val p.mdat).complete1 (.core c))) ∧
      (rd = rb → ∃ t, exec (.deq ⟨c, 0⟩ rd rb ra) s = .next t))) ∧
  (∀ (s : State) (c rd ra rb rc : Fin 32) (reason : BitVec 8) (h : Nat) (p : QPkt), s.ready (.core c) → (s.core c.val).priv = 0 →
    h = (s.core c.val).rg rc.val → s.heldPkt h = some p →
    (∀ r, r = ((s.begun (.core c)).unheld h).enqueue { p with mdat := (s.core c.val).rg rb.val } ((s.core c.val).rg ra.val % 2 ^ 20) →
      Completes s (.fwEnq ⟨c, 0⟩ rd ra rb rc) ((r.2.setG (.core c) rd.val (r.1.getD 0)).complete1 (.core c))) ∧
    Completes s (.fwDrop ⟨c, 0⟩ rc reason) ((((s.begun (.core c)).unheld h).dropPkt p ST.PROG_DROP reason.toNat).complete1 (.core c)) ∧
    Completes s (.markC ⟨.core c, 0⟩ ra rc) ((s.setHeld (s.gaf.held.map (fun x => if handleOf x = h then
      { x with colour := (s.core c.val).rg ra.val % 256 } else x))).past (.core c) id) ∧
    Completes s (.markM ⟨.core c, 0⟩ ra rc) ((s.setHeld (s.gaf.held.map (fun x => if handleOf x = h then
      { x with mirror := some ((s.core c.val).rg ra.val % 4) } else x))).past (.core c) id)) ∧
  (∀ (s : State) (c rd ra rb rc : Fin 32) (reason : BitVec 8), s.mayTrap c →
    ((s.core c.val).priv ≠ 0 → Enters s (.deq ⟨c, 0⟩ rd rb ra) c EX.PRIV 0 ∧ Enters s (.fwEnq ⟨c, 0⟩ rd ra rb rc) c EX.PRIV 0 ∧
      Enters s (.fwDrop ⟨c, 0⟩ rc reason) c EX.PRIV 0 ∧ Enters s (.markC ⟨.core c, 0⟩ ra rc) c EX.PRIV 0 ∧
      Enters s (.markM ⟨.core c, 0⟩ ra rc) c EX.PRIV 0) ∧
    ((s.core c.val).priv = 0 → s.heldPkt ((s.core c.val).rg rc.val) = none →
      Enters s (.fwEnq ⟨c, 0⟩ rd ra rb rc) c EX.BUS_ERR ((s.core c.val).rg rc.val) ∧
      Enters s (.fwDrop ⟨c, 0⟩ rc reason) c EX.BUS_ERR ((s.core c.val).rg rc.val) ∧
      Enters s (.markC ⟨.core c, 0⟩ ra rc) c EX.BUS_ERR ((s.core c.val).rg rc.val) ∧
      Enters s (.markM ⟨.core c, 0⟩ ra rc) c EX.BUS_ERR ((s.core c.val).rg rc.val)))

/-! ### Cane links (R283 to R303) -/

/-- R283, R284: the frame of a transmitter is 272 bytes long, and a receiver that expects its number finds it good and reads back its type,
its header fields, its acknowledgement and its payload. -/
def Obligations.FrameReadsBackAsItWasMade : Prop :=
  ∀ (type pri vlen crdPri crdLim ack seq : Nat) (sop eop bad nak hold : Bool) (payload f : List Byte), type ≤ 3 → pri < 8 → vlen < 256 →
    crdPri < 8 → crdLim < 2 ^ 20 → ack < 2 ^ 32 → payload.length ≤ 256 →
    f = frameBytes type ⟨pri, sop, eop, bad, vlen⟩ nak hold crdPri crdLim ack seq payload →
    f.length = 272 ∧ crcOk f seq = true ∧ frType f = type ∧ fieldOf (frWord0 f) 4 3 = pri ∧ bitOf (frWord0 f) 7 = sop ∧
    bitOf (frWord0 f) 8 = eop ∧ bitOf (frWord0 f) 9 = bad ∧ fieldOf (frWord0 f) 10 8 = vlen ∧ bitOf (frWord0 f) 18 = nak ∧
    bitOf (frWord0 f) 19 = hold ∧ fieldOf (frWord0 f) 20 3 = crdPri ∧ fieldOf (frWord0 f) 23 20 = crdLim ∧ frAck f = ack ∧
    (frPayload f).length = 256 ∧ (frPayload f).take payload.length = payload

/-- R310, R311, R317: the fields of a train that a module makes read back from its header, its end-to-end check holds, and the check does
not change when a transit module raises HOPS. -/
def Obligations.ParisonHeaderReadsBackAndSurvivesTransit : Prop :=
  (∀ (kind src dst seq srcq dstq colour gen mt origin : Nat) (payload h : List Byte), kind < 16 → src < 16 → dst < 16 → seq < 2 ^ 32 →
    srcq < 2 ^ 16 → dstq < 2 ^ 16 → colour < 256 → gen < 256 → mt < 2 ^ 64 → origin < 2 ^ 32 → payload.length < 2 ^ 14 →
    h = mkParison kind src dst seq srcq dstq colour gen mt origin payload →
    parVer h = 1 ∧ parHops h = 0 ∧ parKind h = kind ∧ parSrc h = src ∧ parDst h = dst ∧ parLen h = payload.length ∧ parSeq h = seq ∧
    parSrcQ h = srcq ∧ parDstQ h = dstq ∧ parColour h = colour ∧ parGen h = gen ∧ parMeta h = mt ∧ parOrigin h = origin ∧
    parPayload h = payload ∧ parCheck h = parCrc h) ∧
  (∀ (b : Byte) (t h : List Byte), h = b :: t → parHops h < 3 →
    parHops (raiseHops h) = parHops h + 1 ∧ parCheck (raiseHops h) = parCheck h ∧ parCrc (raiseHops h) = parCrc h)

/-- The message a port has accepted is the oldest of its inbox and of the given code, and frames flow. -/
abbrev Claims.accepts (s : State) (p : Nat) (code m : Nat) (rest : List Nat) : Prop :=
  (s.cane p).inbox = m :: rest ∧ m % 256 = code ∧ (s.linkState p = 0x27 ∨ s.linkState p = 0x28)

/-- R275, R287, R293 to R296, R303: retrain, substitution (switch, done and end; a request for a spare that carries a lane is dropped) and
standby of a link whose other exchanges rest, by the message accepted or the command given. -/
def Obligations.LinkMessagesHaveTheirEffects : Prop :=
  ∀ (s : State) (p : Fin 256) (m : Nat) (rest : List Nat) (c : Cane), c = s.cane p.val →
    (Claims.accepts s p.val 1 m rest → c.ownRetrain = none → c.subRx = [] → c.subTx = [] →
      exec (.retrainReq p) s = .next (s.setCane p.val { c with
        inbox := rest, newWidth := m / 2 ^ 8 % 32, newRate := s.rateCode (min 2 (m / 2 ^ 13 % 4)), newEq := bitOf m 15, waitRetrain := none
        outbox := c.outbox ++ [2] })) ∧
    (∀ m', Claims.accepts s p.val 2 m rest → c.ownRetrain = some m' → exec (.retrainAck p) s =
      .next ((s.setCane p.val { c with inbox := rest }).enterRetrain p.val (m' / 2 ^ 8 % 32) (min 2 (m' / 2 ^ 13 % 4)) (bitOf m' 15))) ∧
    (∀ lane n, lane = m / 2 ^ 16 % 16 → n = s.spareOctet p.val lane →
      (Claims.accepts s p.val 3 m rest → c.ownRetrain = none → s.spareServing p.val lane = true →
        (s.txSub n = 0xF → exec (.subReq p) s = .next (((((s.setCane p.val { c with inbox := rest }).askPwr (9 * n + 8) true PWR.ACTIVE).setTxSub n
          (s.octLane p.val lane)).setCane p.val { c with inbox := rest, subTx := c.subTx ++ [⟨lane, n, false, false⟩] }).emit
            (.link p.val (LK.WORDS 7)))) ∧
        (s.txSub n ≠ 0xF → exec (.subReq p) s = .next (s.setCane p.val { c with inbox := rest }))) ∧
      (∀ r, Claims.accepts s p.val 4 m rest → c.subTx = [r] → r.lane = lane → c.waitRetrain = none → exec (.subDone p) s =
        .next (s.setCane p.val { c with inbox := rest, subTx := [{ r with done := true }] })) ∧
      (∀ r, Claims.accepts s p.val 5 m rest → c.subTx = [r] → r.lane = lane → s.spareServes p.val lane = true →
        s.txSub n = s.octLane p.val lane → exec (.subEnd p) s =
        .next (((s.setCane p.val { c with inbox := rest, subTx := [] }).setTxSub n 0xF).restSpare n true))) ∧
    (Claims.accepts s p.val 6 m rest →
      exec (.standby p) s = .next (s.setCane p.val { c with inbox := rest, peerStby := true })) ∧
    (∀ r (lane : Fin 16), c.subRx = [r] → r.lane = lane.val →
      exec (.twCopyPreamble p lane) s = .next (s.setCane p.val { c with subRx := [{ r with heard := true }] })) ∧
    (∀ r (lane : Fin 16), c.subRx = [r] → r.lane = lane.val → r.octet = s.spareOctet p.val lane.val → s.spareServes p.val lane.val = true →
      r.done = false → r.heard = true → s.adapted (9 * r.octet + 8) = true → s.pwr (9 * r.octet + 8) false = PWR.ACTIVE →
      s.bit (laneReg R.LNE_STAT (9 * r.octet + 8)) F.LNE_STAT_LOCK = true →
      (∀ k, k < s.caneWidth p.val → k ≠ lane.val → ∃ l, s.physLane p.val k = some l ∧ s.bit (laneReg R.LNE_STAT l) F.LNE_STAT_LOCK = true) →
      ∃ t, exec (.subSwitch ⟨p, lane⟩) s = .next t ∧ t.rxSub r.octet = s.octLane p.val lane.val % 16 ∧
        (t.cane p.val).outbox = c.outbox ++ [lmWord 4 0 0 false lane.val 0 c.chk] ∧ t.bit (R.CAN_STATUS p.val) F.CAN_STATUS_RX_HOLD = false ∧
        (s.bit (R.CAN_STATUS p.val) F.CAN_STATUS_RX_HOLD = true → t.bit (R.CAN_STATUS p.val) F.CAN_STATUS_REPLAY_WAIT = true) ∧
        Only [R.LNE_OCTSTAT r.octet, R.CAN_EVCNT p.val, R.CAN_STATUS p.val] { s with can := t.can } t) ∧
    (s.linkState p.val = 0x27 → s.bit (R.CAN_CTL p.val) F.CAN_CTL_LP_EN = true →
      s.bit (R.CAN_STATUS p.val) F.CAN_STATUS_TX_STBY = false → s.caneWants p.val = false → s.txNext p.val = s.txAcked p.val →
      exec (.standbyEntry p) s = .next (s.setCane p.val { c with outbox := c.outbox ++ [6] })) ∧
    (∀ (w : Fin 32) (r : Fin 4) (eq : Bool), s.linkState p.val = 0x27 → s.bit (R.CAN_STATUS p.val) F.CAN_STATUS_CMD_BUSY = false →
      (w.val ∈ [2, 4, 8, 16] ∧ s.minWidth p.val ≤ w.val ∧ w.val ≤ s.confWidth p.val) → r.val ≤ s.caneMaxRate p.val → r.val < 3 →
      exec (.caneRetrain p w r eq) s = .next ((s.setBit (R.CAN_STATUS p.val) F.CAN_STATUS_CMD_BUSY).setCane p.val { c with
        outbox := c.outbox ++ [lmWord 1 w.val r.val eq 0 0 0], ownRetrain := some (lmWord 1 w.val r.val eq 0 0 0) })) ∧
    (∀ (w : Fin 32) (r : Fin 4) (eq : Bool), s.linkState p.val ≠ 0x27 ∨ s.bit (R.CAN_STATUS p.val) F.CAN_STATUS_CMD_BUSY = true →
      exec (.caneRetrain p w r eq) s = .next (s.setBit (R.CAN_STATUS p.val) F.CAN_STATUS_BADCMD))

/-- R287, R297: a replay starts at A after REPLAY_TO, REPLAY_MAX of them without progress take the link down; the causes that take it down
report PORT_DOWN and hold the port; the end of a check window clears its count. -/
def Obligations.ReplaysAndFailuresOfALink : Prop :=
  ∀ (s : State) (p : Fin 256) (c : Cane) (fails : Nat → State), c = s.cane p.val →
    (∀ cause, fails cause = ((s.caneDown p.val cause).holdPort p.val 2 0).report FC.PORT_DOWN UK.port p.val 0 cause 0) →
    (s.linkState p.val = 0x27 → s.txNext p.val ≠ s.txAcked p.val → s.bit (R.CAN_STATUS p.val) F.CAN_STATUS_PEER_HOLD = false →
      s.bit (R.CAN_STATUS p.val) F.CAN_STATUS_RX_HOLD = false →
      (c.stalled < max 1 (s.get (R.CAN_LINKCFG p.val) F.CAN_LINKCFG_REPLAY_MAX) → exec (.replayTimeout p) s =
        .next ((s.setCane p.val { c with replay := some (s.txAcked p.val, true), replayFrom := some (s.txAcked p.val, s.now),
                                         stalled := c.stalled + 1 }).bump (R.CAN_REPCNT p.val) F.CAN_REPCNT_REPLAYS 1)) ∧
      (max 1 (s.get (R.CAN_LINKCFG p.val) F.CAN_LINKCFG_REPLAY_MAX) ≤ c.stalled → exec (.replayTimeout p) s = .next (fails 2))) ∧
    (s.linkState p.val = 0x28 → exec (.retrainFail p) s = .next (fails 6)) ∧
    ((s.linkState p.val = 0x27 ∨ s.linkState p.val = 0x28) → exec (.twDown p) s = .next (fails 7) ∧
      (s.bit (R.CAN_STATUS p.val) F.CAN_STATUS_RX_HOLD = true → exec (.subTimeout p) s = .next (fails 3))) ∧
    (∀ m rest u, Claims.accepts s p.val 7 m rest → u = s.setCane p.val { c with inbox := rest } → exec (.down p) s =
      .next (((u.caneDown p.val 7).holdPort p.val 2 0).report FC.PORT_DOWN UK.port p.val 0 7 0)) ∧
    (∃ t, exec (.checkWindowEnd p) s = .next t ∧ t.get (R.CAN_ERRCNT p.val) F.CAN_ERRCNT_WIN_FAILS = 0 ∧
      (∀ f ∈ [F.CAN_ERRCNT_CHKFAIL, F.CAN_ERRCNT_WIN_PEAK, F.CAN_ERRCNT_TRAINERR],
        t.get (R.CAN_ERRCNT p.val) f = s.get (R.CAN_ERRCNT p.val) f) ∧ Only [R.CAN_ERRCNT p.val] s t)

/-- R285 to R288, R296: what a transmitter sends in a slot and what a receiver does with a frame. -/
def Obligations.FramesAreSentAndReceived : Prop :=
  ∀ (s : State) (p : Fin 256) (c : Cane), c = s.cane p.val → s.linkState p.val = 0x27 →
    (s.flt.stopped = false → s.gst.repl = [] →
      (s.bit (R.CAN_STATUS p.val) F.CAN_STATUS_TX_STBY = true → s.caneWants p.val = true → ∀ mk errs, exec (.frameSend p mk errs) s =
        .next (((s.put (R.CAN_STATUS p.val) F.CAN_STATUS_TX_STBY 0).linkPwr p.val true PWR.ACTIVE).emit (.frame p.val []))) ∧
      (s.bit (R.CAN_STATUS p.val) F.CAN_STATUS_TX_STBY = false → s.linkRests p.val true = false →
        (∀ errs, exec (.frameSend p true errs) s = .next (s.emit (.frame p.val []))) ∧
        (∀ errs, s.bit (R.CAN_STATUS p.val) F.CAN_STATUS_PEER_HOLD = true → exec (.frameSend p false errs) s =
          .next (s.sendFrame p.val 0 plainHdr (s.txNext p.val) [])) ∧
        (∀ errs m rest, s.bit (R.CAN_STATUS p.val) F.CAN_STATUS_PEER_HOLD = false → c.replay = none → s.culletRoom p.val = true →
          c.outbox = m :: rest → m % 256 ≠ 2 → m % 256 ≠ 6 → ∃ t, exec (.frameSend p false errs) s = .next t ∧
            t.txNext p.val = (s.txNext p.val + 1) % 2 ^ 32 ∧ (t.cane p.val).outbox = rest ∧
            ((t.cane p.val).cullets.map (fun e => (e.seq, e.lmsg))) =
              (c.cullets.map (fun e => (e.seq, e.lmsg))) ++ [(s.txNext p.val, some m)]))) ∧
    (∀ slot, s.linkRests p.val false = true → exec (.frameReceive p slot) s =
      .next ((s.setCane p.val { c with peerStby := false }).linkPwr p.val false PWR.ACTIVE)) ∧
    (s.linkRests p.val false = false → s.bit (R.CAN_STATUS p.val) F.CAN_STATUS_RX_HOLD = false → ∀ f : List Byte,
      (crcOk f c.chk = false → (frType f = 3 → crcOk f (frStart f) = false) →
        s.bit (R.CAN_STATUS p.val) F.CAN_STATUS_REPLAY_WAIT = true → exec (.frameReceive p (.frame f)) s = .next s) ∧
      (crcOk f c.chk = false → (frType f = 3 → crcOk f (frStart f) = false) →
        s.bit (R.CAN_STATUS p.val) F.CAN_STATUS_REPLAY_WAIT = false →
        s.get (R.CAN_ERRCNT p.val) F.CAN_ERRCNT_WIN_FAILS + 1 ≤ s.get (R.CAN_LINKCFG p.val) F.CAN_LINKCFG_CHK_LIMIT →
        ∃ t, exec (.frameReceive p (.frame f)) s = .next t ∧ t.bit (R.CAN_STATUS p.val) F.CAN_STATUS_REPLAY_WAIT = true ∧
          t.rxExpect p.val = s.rxExpect p.val ∧ Only [R.CAN_ERRCNT p.val, R.CAN_STATUS p.val] s t) ∧
      (crcOk f c.chk = true → frType f = 2 → c.chk = s.rxExpect p.val → frAck f = s.txAcked p.val → bitOf (frWord0 f) 18 = false →
        (fieldOf (frWord0 f) 23 20 + 2 ^ 20 - s.get (R.CAN_CRDSTAT p.val (fieldOf (frWord0 f) 20 3)) F.CAN_CRDSTAT_TX_SENT) % 2 ^ 20
          < 2 ^ 19 → 1 ≤ frMsg f % 256 → frMsg f % 256 ≤ 7 →
        ∃ t, exec (.frameReceive p (.frame f)) s = .next t ∧ t.rxExpect p.val = (s.rxExpect p.val + 1) % 2 ^ 32 ∧
          (t.cane p.val).inbox = c.inbox ++ [frMsg f] ∧ (t.cane p.val).chk = (c.chk + 1) % 2 ^ 32)) ∧
    (s.linkRests p.val false = false → s.bit (R.CAN_STATUS p.val) F.CAN_STATUS_RX_HOLD = true →
      ∀ f, exec (.frameReceive p (.frame f)) s = .next s)

/-- R300 to R303, R317: training moves a port from state to state on the words of its partner, and a train for another module is forwarded. -/
def Obligations.TrainingMovesAPortFromStateToState : Prop :=
  ∀ (s : State) (p : Fin 256) (ws : List TrainWord) (no : BitVec 16) (c : Cane), c = s.cane p.val →
    (0x22 ≤ s.linkState p.val → s.linkState p.val ≤ 0x26 → exec (.caneTrainTimeout p) s =
      .next ((s.bump (R.CAN_EVCNT p.val) F.CAN_EVCNT_TRAIN_FAILS 1).enterDetect p.val)) ∧
    (s.mayTrain p.val = true → s.allLocked p.val ws = true →
      (s.linkState p.val = 0x22 → exec (.twIdentify p ws no) s = .next (s.setLinkState p.val 0x23)) ∧
      (s.linkState p.val = 0x23 → exec (.twIdentify p ws no) s = .next ((s.setPolarity p.val ws).setLinkState p.val 0x24))) ∧
    (s.linkState p.val = 0x25 → c.newWidth ≤ (ws.filter (·.ack)).length → exec (.twRate p ws) s =
      .next (((s.put (R.PRT_LINKSTAT p.val) F.PRT_LINKSTAT_RATE c.newRate).enterEq p.val).setLinkState p.val 0x26)) ∧
    (∀ u, u = ws.foldl (fun s w => match s.wordLane p.val w with | some l => s.applyEq l w.pre.val w.main.val w.post.val | none => s) s → s.linkState p.val = 0x26 →
      u.eqDone p.val = true → c.newWidth ≤ (ws.filter (·.eqDone)).length → exec (.twEqualise p ws) s =
      .next ((u.setCane p.val { u.cane p.val with step := 4 }).emit (.link p.val (LK.WORDS 4)))) ∧
    ((s.linkState p.val = 0x26 ∨ s.linkState p.val = 0x28) → c.step = 4 → exec (.twEnterActive p) s = .next (s.enterActive p.val)) ∧
    (s.linkState p.val = 0x28 → c.step = 5 → c.newWidth ≤ (ws.filter (·.ack)).length →
      s.minWidth p.val ≤ widthOf c.newWidth (s.laneWorks p.val) → c.newRate ≠ s.caneRate p.val → exec (.twRetrain p ws) s =
      .next ((s.setCane p.val { c with peerWords := true, step := 2 }).emit (.link p.val (LK.WORDS 2)))) ∧
    (∀ (k : Fin 8) (t : RxTrain), s.headTrain p.val k.val = some t → t.mode = .held → parDst t.data ≠ s.fid →
      exec (.transitForward p k) s = .next (s.forwardTrain t))

/-! ### Slot power, power entry, reservoir, quench (R418 to R438) -/

/-- Channel `k` changes only its own state: registers of the channel, its bridge, and what State holds of power. -/
def Claims.channelOnly (s t : State) (k : Nat) : Prop := Only [R.SLT_STAT k, R.SLT_CTL k, R.PWR_STATUS] { s with pow := t.pow } t

/-- R427, R428, R430: a channel of no port passes from OFF to INSERT with request, presence and window, from state to state as its times end, and
from ON to OFF when one of the three goes, with the cause in LAST. -/
def Obligations.SlotChannelsFollowRequestPresenceAndWindow : Prop :=
  ∀ (s : State) (k : Fin 32), s.slotPort k.val = none → s.rst.quench = 0 →
    (s.chan k.val = 0 → s.chanPresent k.val = true → s.chanInside k.val = true →
      ∃ t, exec (.slotRequestChange k false true) s = .next t ∧ t.chan k.val = 1 ∧ t.bit (R.SLT_CTL k.val) F.SLT_CTL_ON = true ∧
        t.bit (R.SLT_STAT k.val) F.SLT_STAT_REQ = true ∧ Claims.channelOnly s t k.val) ∧
    (s.chan k.val = 0 → s.chanPresent k.val = false → s.chanInside k.val = true → s.bit (R.SLT_CTL k.val) F.SLT_CTL_ON = true →
      ∃ t, exec (.presenceAssert k) s = .next t ∧ t.chan k.val = 1 ∧ t.chanPresent k.val = true ∧ Claims.channelOnly s t k.val) ∧
    (s.chan k.val = 4 → s.chanPresent k.val = true →
      (∃ t, exec (.presenceLost k) s = .next t ∧ t.chan k.val = 0 ∧ t.chanPresent k.val = false ∧
        t.get (R.SLT_STAT k.val) F.SLT_STAT_LAST = 4 ∧ Claims.channelOnly s t k.val) ∧
      (s.chanInside k.val = true → ∃ t, exec (.slotRequestChange k false false) s = .next t ∧ t.chan k.val = 0 ∧
        t.get (R.SLT_STAT k.val) F.SLT_STAT_LAST = 5 ∧ Claims.channelOnly s t k.val) ∧
      (∀ v : BitVec 12, v.toNat ≤ 2400 → s.chanWithin k.val v.toNat = false → ∃ t, exec (.slotWindowExit k v) s = .next t ∧
        t.chan k.val = 0 ∧ t.get (R.SLT_STAT k.val) F.SLT_STAT_LAST = 3 ∧ t.vbus = v.toNat ∧ Claims.channelOnly s t k.val)) ∧
    (∀ v : BitVec 12, v.toNat ≤ 2400 → s.chanWithin k.val v.toNat = true → s.chan k.val = 0 → s.chanPresent k.val = true →
      s.bit (R.SLT_CTL k.val) F.SLT_CTL_ON = true → ∃ t, exec (.slotWindowEnter k v) s = .next t ∧ t.chan k.val = 1 ∧ t.vbus = v.toNat ∧
        Claims.channelOnly s t k.val) ∧
    (s.chan k.val = 1 → ∃ t, exec (.slotInsertDone k) s = .next t ∧ t.chan k.val = 2 ∧ Claims.channelOnly s t k.val) ∧
    (∀ i : BitVec 10, s.chan k.val = 2 → 2 * i.toNat * s.get (R.SLT_AUX k.val) F.SLT_AUX_RPRE ≤ s.vbus →
      ∃ t, exec (.slotPrechgDone k i) s = .next t ∧ t.chan k.val = 3 ∧ t.get (R.SLT_STAT k.val) F.SLT_STAT_IOUT = i.toNat ∧
        Claims.channelOnly s t k.val) ∧
    (s.chan k.val = 3 → s.chanPresent k.val = true → s.chanInside k.val = true → s.bit (R.SLT_CTL k.val) F.SLT_CTL_ON = true →
      ∃ t, exec (.slotRampDone k) s = .next t ∧ t.chan k.val = 4 ∧ t.get (R.SLT_STAT k.val) F.SLT_STAT_FAILS = 0 ∧
        Claims.channelOnly s t k.val)

/-- R428, R429, R232, R427: a channel that fails to precharge or to ramp is counted and reported and enters RETRY; from RETRY it starts again,
or latches after RETRY_MAX failures; UNLATCH frees it; the host of the port that names it writes its Power Controller Control, and the
request is looked at again. -/
def Obligations.SlotChannelsRetryLatchAndFollowTheHost : Prop :=
  (∀ (s : State) (k : Fin 32), s.slotPort k.val = none → s.rst.quench = 0 →
    (s.chan k.val = 2 → ∃ t, exec (.slotPrechgTimeout k) s = .next t ∧ t.chan k.val = 5 ∧
      t.get (R.SLT_STAT k.val) F.SLT_STAT_LAST = 2 ∧
      t.reports = s.reports ++ [⟨FC.PRECHG_TIMEOUT, UK.slot, k.val, 0, 0, 0, s.now, false⟩] ∧
      Claims.channelOnly { s with reports := t.reports } t k.val) ∧
    (s.chan k.val = 3 → ∃ t, exec (.slotRampTimeout k) s = .next t ∧ t.chan k.val = 5 ∧
      t.get (R.SLT_STAT k.val) F.SLT_STAT_LAST = 6 ∧
      t.reports = s.reports ++ [⟨FC.BREAKER_TRIP, UK.slot, k.val, 0, 1, 0, s.now, false⟩] ∧
      Claims.channelOnly { s with reports := t.reports } t k.val) ∧
    (s.chan k.val = 5 → s.get (R.SLT_AUX k.val) F.SLT_AUX_RETRY_MAX = 0 → s.chanPresent k.val = true → s.chanInside k.val = true →
      s.bit (R.SLT_CTL k.val) F.SLT_CTL_ON = true →
      ∃ t, exec (.slotRetryDone k) s = .next t ∧ t.chan k.val = 1 ∧ Claims.channelOnly s t k.val) ∧
    (s.chan k.val = 5 → s.get (R.SLT_AUX k.val) F.SLT_AUX_RETRY_MAX ≠ 0 →
      s.get (R.SLT_AUX k.val) F.SLT_AUX_RETRY_MAX ≤ s.get (R.SLT_STAT k.val) F.SLT_STAT_FAILS →
      ∃ t, exec (.slotRetryDone k) s = .next t ∧ t.chan k.val = 6 ∧ Claims.channelOnly s t k.val) ∧
    (s.chan k.val = 6 → s.chanPresent k.val = false → ∃ t, exec (.slotUnlatch k) s = .next t ∧ t.chan k.val = 0 ∧
      Claims.channelOnly s t k.val) ∧
    (s.chan k.val ≠ 6 → exec (.slotUnlatch k) s = .next s)) ∧
  (∀ (s : State) (k : Fin 32) (p : Nat) (on : Bool), s.slotPort k.val = some p →
    exec (.slotRequestChange k true on) s =
      .next ((s.setBridge (s.portBridge p) { s.bridge (s.portBridge p) with pwrOff := !on }).slotRequest k.val))

/-- R419 to R422: feeds from reset to ON, selection, switchover and revert, each under the conditions of its state. -/
def Obligations.FeedsAreQualifiedSelectedAndSwitched : Prop :=
  ∀ (s : State) (x : Fin 2), s.rst.quench = 0 →
    (∀ (a b : BitVec 12) (u : State), a.toNat ≤ 2400 → b.toNat ≤ 2400 → 300 ≤ a.toNat → s.rst.ember = false → s.rst.trip = 0 →
      u = (s.seeVin 0 a.toNat).seeVin 1 b.toNat → u.feedWithin 0 a.toNat = true →
      exec (.startCircuit a b) s = .next ((((u.setFeed 0 5).setSel 1).seeVbus a.toNat).toWait 1)) ∧
    (∀ v : BitVec 12, v.toNat ≤ 2400 → s.feedEn x.val = true → s.feed x.val = 1 → s.feedWithin x.val v.toNat = true →
      exec (.feedWindowEnter x v) s = .next ((s.seeVin x.val v.toNat).setFeed x.val 2)) ∧
    (∀ (v : BitVec 12) (u : State), v.toNat ≤ 2400 → u = s.seeVin x.val v.toNat → s.feedLeft x.val v.toNat = true →
      (s.feed x.val = 2 → exec (.feedWindowExit x v) s = .next (u.toWait x.val)) ∧
      (s.feed x.val = 5 → s.sel = x.val + 1 → s.feed (1 - x.val) = 3 → exec (.feedWindowExit x v) s =
        .next (((u.report FC.FEED_WINDOW UK.feed x.val 0 v.toNat 0).toWait x.val).switchTo (1 - x.val))) ∧
      (s.feed x.val = 5 → s.sel = x.val + 1 → s.feed (1 - x.val) ≠ 3 → exec (.feedWindowExit x v) s =
        .next (((u.report FC.FEED_WINDOW UK.feed x.val 0 v.toNat 0).toWait x.val).quenchStart))) ∧
    (s.feed x.val = 2 → s.sel ≠ 0 → exec (.qualDone x false) s = .next (s.setFeed x.val 3)) ∧
    (s.feed x.val = 2 → s.sel = 0 → s.pow.making = none → s.feed (1 - x.val) ≠ 3 →
      exec (.qualDone x false) s = .next ((s.setFeed x.val 3).selectFeed x.val)) ∧
    (∀ v : BitVec 12, v.toNat ≤ 2400 → s.feed x.val = 4 → 9 * s.vin x.val ≤ 10 * v.toNat →
      exec (.feedPrechgDone x v) s = .next ((s.seeVbus v.toNat).feedOn x.val)) ∧
    (s.feed x.val = 4 → s.pow.making = none → exec (.feedPrechgTimeout x) s = .next (((s.toRetry x.val 1).setSel 0).feedSettle)) ∧
    (s.feed x.val = 6 → exec (.feedRetryDone x) s = .next (s.toWait x.val)) ∧
    (s.pow.making = none → s.get R.PWR_CTL F.PWR_CTL_PRIO = x.val → s.bit R.PWR_CTL F.PWR_CTL_REVERT = true → s.feed x.val = 3 →
      s.sel = 2 - x.val → exec (.revertTimer x) s = .next ((s.toWait (1 - x.val)).switchTo x.val)) ∧
    (∀ y, s.pow.making = some y → s.pow.gap = true → s.feed y = 3 →
      exec .bbmGapEnd s = .next (({ s with pow := { s.pow with gap := false } } : State).selectFeed y)) ∧
    (∀ y, s.pow.making = some y → s.pow.gap = false → exec .makeTimeout s = .next ((s.toRetry y 1).quenchStart))

/-- R423 to R425: a breaker regulates at its limit, stops below 95 % of it, and opens when its timer ends; LOWV, shedding and its end. -/
def Obligations.BreakersLowVoltageAndShedding : Prop :=
  (∀ (s : State) (b : Breaker) (i : BitVec 10), s.breakerOn b = true →
    (s.breakerLimit b ≤ i.toNat → exec (.breakerLimit b i) s = .next ((s.seeAmps b i.toNat).setLimiting (breakerKey b) true)) ∧
    (100 * i.toNat < 95 * s.breakerLimit b →
      exec (.faultTimerClear b i) s = .next ((s.seeAmps b i.toNat).setLimiting (breakerKey b) false))) ∧
  (∀ (s : State) (x : Fin 2), s.limits (breakerKey (.feed x)) = true → s.feed x.val = 5 → s.sel ≠ x.val + 1 →
    exec (.breakerTimeout (.feed x)) s = .next (s.toRetry x.val 0)) ∧
  (∀ (s : State) (k : Fin 32), s.limits (breakerKey (.slot k)) = true → (s.chan k.val = 3 ∨ s.chan k.val = 4) →
    exec (.breakerTimeout (.slot k)) s = .next (s.chanTrip k.val FC.BREAKER_TRIP 0 1)) ∧
  (∀ (s : State) (v : BitVec 12), v.toNat ≤ 2400 →
    (v.toNat < 960 → exec (.lowvSet v) s = .next (((s.seeVbus v.toNat).setBit R.PWR_STATUS F.PWR_STATUS_LOWV).capSettle)) ∧
    (990 ≤ v.toNat → exec (.lowvClear v) s = .next (((s.seeVbus v.toNat).put R.PWR_STATUS F.PWR_STATUS_LOWV 0).capSettle))) ∧
  (∀ (s : State) (p v : BitVec 12) (iin : BitVec 10) (w : BitVec 12), v.toNat ≤ 2400 → w.toNat ≤ 4000 → s.sel = 0 →
    s.bit R.PWR_CTL F.PWR_CTL_SHED_AUTO = false →
    ∃ t, exec (.pmodAverage p v iin [] w) s = .next t ∧ t.get R.PWR_STATUS F.PWR_STATUS_P_MOD = p.toNat ∧ t.vbus = v.toNat ∧
      t.get R.HLD_STATUS F.HLD_STATUS_VRES = w.toNat) ∧
  (∀ (s : State) (m : BitVec 64),
    (s.bit R.PWR_STATUS F.PWR_STATUS_LOWV = false → ∃ t, exec (.shedRestore m) s = .next t ∧
      (∀ n, n < 64 → bitOf (t.rd R.PWR_SHEDSTAT) n = (bitOf (s.rd R.PWR_SHEDSTAT) n && !bitOf m.toNat n)) ∧ Only [R.PWR_SHEDSTAT] s t) ∧
    (s.bit R.PWR_STATUS F.PWR_STATUS_LOWV = true → exec (.shedRestore m) s = .next (s.setBit R.PWR_STATUS F.PWR_STATUS_CFG_REFUSED)))

/-- R432 to R438, R448: the reservoir, the end of holdup, and the stages of a quench up to the removal of power, which keeps NAND. -/
def Obligations.ReservoirAndQuench : Prop :=
  (∀ (s : State) (us : BitVec 32), s.bit R.HLD_CFG F.HLD_CFG_CHG_EN = true → s.bit R.HLD_STATUS F.HLD_STATUS_HOLDING = false →
    s.rst.quench = 0 → ∃ t, exec (.capMeasured us) s = .next t ∧ t.bit R.HLD_STATUS F.HLD_STATUS_CAP_VALID = true ∧
      t.get R.HLD_STATUS F.HLD_STATUS_CAP = min (max 1 (s.get R.HLD_CFG F.HLD_CFG_ICHG) * us.toNat / 50) 65535 ∧
      Only [R.HLD_STATUS] { s with pow := t.pow } t) ∧
  (∀ (s : State) (v : BitVec 12), v.toNat < 3500 → s.pow.hldLow = false → s.get R.RST_DOMAIN F.RST_DOMAIN_IN_RESET = 0 →
    ∃ t, exec (.hldLow v) s = .next t ∧ t.reports = s.reports ++ [⟨FC.HLD_LOW, UK.module, 0, 0, v.toNat, 0, s.now, false⟩] ∧
      t.pow.hldLow = true ∧ Only [R.HLD_STATUS] { s with pow := t.pow, reports := t.reports } t) ∧
  (∀ s : State, s.bit R.HLD_STATUS F.HLD_STATUS_HOLDING = false → ∃ t, exec .railCollapse s = .next t ∧ t.rst.ember = false ∧
    (∀ a, MB.nand ≤ a → t.byte a = s.byte a) ∧ (∀ a, a < MB.nand → t.byte a = emptyByte) ∧
    (∀ x : Fin 2, t.vin x.val = s.vin x.val) ∧ t.rst.trip = s.rst.trip) ∧
  (∀ s : State, s.bit R.HLD_STATUS F.HLD_STATUS_HOLDING = true → s.rst.quench = 0 → ∃ t, exec .holdupStop s = .next t ∧
    t.bit R.HLD_STATUS F.HLD_STATUS_HOLDING = false ∧ Only [R.HLD_STATUS] { s with pow := t.pow } t) ∧
  (∀ s : State, s.rst.quench = 1 → ∃ t, exec .quenchStop s = .next t ∧ t.rst.quench = 2) ∧
  (∀ s : State, s.rst.quench = 2 → (∀ c : Nat, c < 32 → (s.core c).sb = []) → ∃ t, exec .quenchDrainDone s = .next t ∧ t.rst.quench = 3 ∧
    t.mem = s.mem ∧ t.cmd = {}) ∧
  (∀ s : State, s.rst.quench = 3 → s.get R.GST_KEEP F.GST_KEEP_PAGES = 0 → ∃ t, exec .quenchSaveDone s = .next t ∧ t.rst.ember = false ∧
    t.rst.quench = 0 ∧ (∀ a, MB.nand ≤ a → t.byte a = s.byte a))

/-- R446: a reading beyond the ratings has no effect in the manual, and the model stops with a fault of its own (log entry 90); every other
command, in every state, gives a next state. -/
def Obligations.OnlyReadingsBeyondTheRatingsStop : Prop :=
  ∀ (s : State) (i : Instr),
    (i.beyondRatings = true → exec i s = .fault .outsideRatings) ∧ (i.beyondRatings = false → ∃ t, exec i s = .next t)

/-! ### Clocks and monitors (R373 to R398) -/

/-- R387 to R398: locks, gating and waking of tiles and Jack groups, the start of a core, self-refresh, and the watchdog. -/
def Obligations.ClocksGateWakeAndWatch : Prop :=
  ∀ s : State,
    exec .xtalOk s = .next (s.setBit R.EMB_STATUS F.EMB_STATUS_XTAL_OK) ∧
    (s.bit R.EMB_STATUS F.EMB_STATUS_XTAL_OK = true → s.get R.RST_STATUS F.RST_STATUS_LOAD_PHASE ≠ 1 →
      exec .pllLock s = .next (s.setBit R.EMB_STATUS F.EMB_STATUS_PLL_LOCK)) ∧
    exec .refclkLoss s = .next ((List.range 576).foldl State.lockLoss (s.put R.EMB_STATUS F.EMB_STATUS_REFCLK_OK 0)) ∧
    exec .refclkLock s = .next (s.setBit R.EMB_STATUS F.EMB_STATUS_REFCLK_OK) ∧
    (∀ k : Fin 16, s.bit R.EMB_CLKPOL F.EMB_CLKPOL_TILE_AUTO = true → bitOf (s.get R.EMB_CLKFORCE F.EMB_CLKFORCE_TILE_ON) k.val = false →
      (∀ i, i < 16 → s.portRests (16 * k.val + i) = true) → ∃ t, exec (.tileGate k) s = .next t ∧
        (∀ j, j < 16 → bitOf (t.get R.EMB_CLKSTAT F.EMB_CLKSTAT_TILE_RUN) j =
          (bitOf (s.get R.EMB_CLKSTAT F.EMB_CLKSTAT_TILE_RUN) j && j != k.val)) ∧ Only [R.EMB_CLKSTAT] s t) ∧
    (∀ k : Fin 16, ∃ t, exec (.tileWake k) s = .next t ∧ (∀ j, j < 16 → bitOf (t.get R.EMB_CLKSTAT F.EMB_CLKSTAT_TILE_RUN) j =
      (bitOf (s.get R.EMB_CLKSTAT F.EMB_CLKSTAT_TILE_RUN) j || j == k.val)) ∧ Only [R.EMB_CLKSTAT] s t) ∧
    (∀ g : Fin 8, s.jackKept g.val = false → (∀ r ∈ s.que.jack, r.lane / 32 ≠ g.val) → ∃ t, exec (.jackGroupGate g) s = .next t ∧
      t.jackRuns g.val = false ∧ (∀ j, j < 8 → j ≠ g.val → t.jackRuns j = s.jackRuns j) ∧ Only [R.EMB_CLKSTAT] s t) ∧
    (∀ g, g < 8 → s.que.wakeJack = none → s.jackRuns g = false → s.jackKept g = true →
      (∀ j, j < g → s.jackRuns j = true ∨ s.jackKept j = false) → ∃ t, exec .jackGroupWake s = .next t ∧ t.jackRuns g = true ∧
        (∀ j, j < 8 → j ≠ g → t.jackRuns j = s.jackRuns j) ∧ Only [R.EMB_CLKSTAT] s t) ∧
    (∀ (c : Fin 32) (rd : Nat), (s.core c.val).run = .starting rd →
      ((s.core c.val).ran = false → exec (.coreStart c) s = .next (s.setCore c.val
        { s.core c.val with run := .running, ran := true, switched := false, pc := 0 })) ∧
      ((s.core c.val).ran = true → (s.core c.val).switched = true → exec (.coreStart c) s = .next (s.setCore c.val
        { s.core c.val with run := .running, switched := false, pc := 1 })) ∧
      ((s.core c.val).ran = true → (s.core c.val).switched = false → exec (.coreStart c) s = .next (s.setCore c.val
        { (s.core c.val).wg rd 0 with run := .running }))) ∧
    (s.bit R.GST_CTL F.GST_CTL_SR_REQ = true → s.gst.copying = [] →
      exec .selfRefreshEntry s = .next (s.setBit R.GST_STATUS F.GST_STATUS_SELFREF)) ∧
    (s.bit R.GST_CTL F.GST_CTL_SR_REQ = false → bitOf (s.get R.RST_DOMAIN F.RST_DOMAIN_IN_RESET) 3 = false →
      exec .selfRefreshExit s = .next (s.put R.GST_STATUS F.GST_STATUS_SELFREF 0)) ∧
    (∀ key : BitVec 16, key.toNat = 0xA5C3 →
      exec (.watchdogKick key) s = .next (s.put R.EMB_WDSTAT F.EMB_WDSTAT_REMAIN (max 1 (s.get R.EMB_WDCFG F.EMB_WDCFG_PERIOD)))) ∧
    (∀ key : BitVec 16, key.toNat ≠ 0xA5C3 → exec (.watchdogKick key) s = .next (s.bump R.EMB_WDSTAT F.EMB_WDSTAT_BADKICK 1)) ∧
    (s.bit R.EMB_WDCFG F.EMB_WDCFG_EN = true → s.gafInReset = false → exec .watchdogExpiry s =
      .next (((s.put R.EMB_WDSTAT F.EMB_WDSTAT_REMAIN 0).bump R.EMB_WDSTAT F.EMB_WDSTAT_EXPIRIES 1).warmSource RC.WATCHDOG))

/-- R373 to R376, R380, R385: a conversion stores the reading, its extremes and its alarms in the monitor whose turn it is; a read of a tally
counter answers the counter; a write of RD moves it up to WR. -/
def Obligations.MonitorsConvertAndCountersRead : Prop :=
  (∀ (s : State) (v : BitVec 16) (i : Nat), s.bit R.EMB_STATUS F.EMB_STATUS_XTAL_OK = true → i = s.pow.next → i < 80 →
    s.monAbsent i = false → s.rst.quench ≠ 0 ∨ 24 ≤ i →
    ∃ t, exec (.monitorConversion v) s = .next t ∧ t.get (R.MON_VAL i) F.MON_VAL_VALUE = v.toNat ∧ t.pow.next = (i + 1) % 80 ∧
      monValue i (s.get (R.MON_VAL i) F.MON_VAL_PEAK) ≤ monValue i (t.get (R.MON_VAL i) F.MON_VAL_PEAK) ∧
      monValue i v.toNat ≤ monValue i (t.get (R.MON_VAL i) F.MON_VAL_PEAK) ∧
      monValue i (t.get (R.MON_VAL i) F.MON_VAL_LOW) ≤ monValue i v.toNat ∧
      (64 ≤ i → Only [R.MON_VAL i] { s with pow := t.pow } t) ∧
      (i < 64 → t.bit (R.MON_VAL i) F.MON_VAL_ALARM_A = alarmNext i false (s.bit (R.MON_VAL i) F.MON_VAL_ALARM_A) v.toNat
        (s.get (R.MON_THR i) F.MON_THR_LIM_A) (s.get (R.MON_THR i) F.MON_THR_HYST))) ∧
  (∀ (s s1 : State) (m : Master) (c : TallyRef), s.mayReach m false → s1.stepHeld 9 = false →
    s.controlAllowed (s.masterOrigin m) (sideOf m).no (tallyReg c).addr 8 AK.read = (true, s1) →
    exec (.tallyRead m c) s = .next (s1.replyRead m (s1.rd (tallyReg c)) 8) ∧ CountsOnly s s1 ∧
      (s.bit R.TAL_CTL F.TAL_CTL_FREEZE = true → s1.rd (tallyReg c) = s.rd (tallyReg c))) ∧
  (∀ (s : State) (v : BitVec 13),
    ((s.get R.TAL_SMPPTR F.TAL_SMPPTR_WR + 8192 - v.toNat) % 8192 ≤ 4096 →
      exec (.sampleRdWrite v) s = .next (s.put R.TAL_SMPPTR F.TAL_SMPPTR_RD v.toNat)) ∧
    (4096 < (s.get R.TAL_SMPPTR F.TAL_SMPPTR_WR + 8192 - v.toNat) % 8192 →
      exec (.sampleRdWrite v) s = .next (s.setBit R.TAL_STATUS F.TAL_STATUS_CFG_REFUSED)))

/-! ### Reset (R399 to R417) -/

/-- R399 to R406: pins and commands start and end resets; a Cold assertion puts steps 3 to 10 in reset and leaves only NAND in memory; a key that
is not the key of RST_CMD sets BADCMD. -/
def Obligations.ResetSourcesAreRecognisedAndReleased : Prop :=
  ∀ s : State,
    (s.rst.cold = false → s.rst.quench = 0 → ∃ t, exec .coldNAssert s = .next t ∧ t.rst.cold = true ∧
      t.get R.RST_DOMAIN F.RST_DOMAIN_IN_RESET = 0x3FC ∧ (RC.COLD_PIN, true) ∈ t.rst.held ∧
      (∀ a, MB.nand ≤ a → t.byte a = s.byte a) ∧ (∀ a, a < MB.nand → t.byte a = emptyByte) ∧
      t.gaf = {} ∧ t.que = {} ∧ t.cru = {} ∧ t.gst = {} ∧ t.cmd = {} ∧ t.mbx = {}) ∧
    (s.rst.cold = true → exec .coldNAssert s = .next s) ∧
    exec .coldNRelease s = .next { s with rst := { s.rst with
      cold := false, held := s.rst.held.filter (fun e => e.1 != RC.COLD_PIN) } } ∧
    (s.rst.warm = false → exec .warmNAssert s = .next (({ s with rst := { s.rst with warm := true } } : State).warmSource RC.WARM_PIN)) ∧
    exec .warmNRelease s = .next { s with rst := { s.rst with
      warm := false, held := s.rst.held.filter (fun e => e.1 != RC.WARM_PIN) } } ∧
    (∀ key : BitVec 16, key.toNat = 0x5A17 → exec (.rstWarm key) s = .next (s.warmSource RC.CMD_WARM)) ∧
    (∀ key : BitVec 16, key.toNat ≠ 0x5A17 → exec (.rstWarm key) s = .next (s.setBit R.RST_STATUS F.RST_STATUS_BADCMD) ∧
      exec (.startCore0 key) s = .next (s.setBit R.RST_STATUS F.RST_STATUS_BADCMD)) ∧
    (∀ b, s.rst.quench = 0 → s.widened = false → s.get R.RST_DOMAIN F.RST_DOMAIN_IN_RESET = 0 →
      s.bit R.RST_STATUS F.RST_STATUS_WARM_ENTRY = false → s.warmSource b =
        ((((s.cause b).holdSource b false).reached 1).setBit R.RST_STATUS F.RST_STATUS_WARM_ENTRY).stopAll) ∧
    (s.bit R.RST_STATUS F.RST_STATUS_WARM_ENTRY = true → s.rst.quench = 0 →
      ((∀ e ∈ s.gaf.cores, e.2.sb = []) → (∀ l ∈ s.pol.cache, l.dirty = false) →
        ∃ t, exec .warmDrainDone s = .next t ∧ t.bit R.RST_STATUS F.RST_STATUS_WARM_ENTRY = false ∧
        Nat.land (t.get R.RST_DOMAIN F.RST_DOMAIN_IN_RESET) 0x3FC = 0x3FC ∧ t.bit R.GST_STATUS F.GST_STATUS_SELFREF = true) ∧
      (∃ t, exec .drainTimeout s = .next t ∧ t.bit R.RST_STATUS F.RST_STATUS_DRAIN_LATE = true ∧
        Nat.land (t.get R.RST_DOMAIN F.RST_DOMAIN_IN_RESET) 0x3FC = 0x3FC)) ∧
    (s.bit R.RST_STATUS F.RST_STATUS_WARM_ENTRY = false → ∃ t, exec .pulseSourceEnd s = .next t ∧
      (∀ e, e ∈ t.rst.held ↔ e ∈ s.rst.held ∧ e.1 ∉ [RC.WATCHDOG, RC.FATAL, RC.CMD_WARM]) ∧
      { t with rst := s.rst } = s) ∧
    (∀ key : BitVec 16, key.toNat = 0x5A17 → s.bit R.RST_STATUS F.RST_STATUS_NO_IMAGE = true → s.rst.core0 = false →
      ∃ t, exec (.startCore0 key) s = .next t ∧ t.rst.core0 = true ∧
        (s.phys 0 ≠ 0x3F → (t.core 0).run = .running ∧ (t.core 0).pc = 0) ∧ (s.phys 0 = 0x3F → t.gaf = s.gaf))

/-- R410: the strap code of a reading is the multiple of 120 mV nearest to it, with 0 below 60 mV and 15 from 1740 mV up; the reading in mV is
ADC × 1800 / 4096. -/
def Obligations.StrapCodeIsTheNearestStep : Prop :=
  ∀ adc : Nat, adc < 4096 →
    (strapCode adc = 0 ↔ adc * 1800 < 60 * 4096) ∧ (strapCode adc = 15 ↔ 1740 * 4096 ≤ adc * 1800) ∧
    (∀ k, 1 ≤ k → k ≤ 14 → (strapCode adc = k ↔ (120 * k - 60) * 4096 ≤ adc * 1800 ∧ adc * 1800 < (120 * k + 60) * 4096))

/-- R399, R406 to R417: power-on, the strap read, the load of trim and images, and the release of the steps of the lehr sequence. -/
def Obligations.PowerOnLoadAndLehrSequence : Prop :=
  (∀ s : State, ∃ t, exec .powerOn s = .next t ∧ t.rst.ember = true ∧ (∀ a, MB.nand ≤ a → t.byte a = s.byte a) ∧
    (∀ a, a < MB.nand → t.byte a = emptyByte) ∧ t.act = [] ∧ t.gaf = {} ∧ t.que = {} ∧
    (∀ r : RegRef, r.addr ≠ R.PWR_STATUS.addr → r.addr ≠ (R.PWR_FEEDSTAT 0).addr → r.addr ≠ (R.PWR_FEEDSTAT 1).addr →
      r.addr ≠ R.MON_STATUS.addr → t.rd r = r.rst)) ∧
  (∀ (s : State) (a b c d : BitVec 12) (l : List (BitVec 12)), s.get R.RST_STATUS F.RST_STATUS_LOAD_PHASE = 1 →
    s.bit R.EMB_STATUS F.EMB_STATUS_XTAL_OK = true → s.coldHeld = false → s.rst.quench = 0 →
    strapCode a.toNat = strapCode d.toNat → strapCode b.toNat = strapCode d.toNat → strapCode c.toNat = strapCode d.toNat →
    ∃ t, exec (.strapRead (a :: b :: c :: d :: l)) s = .next t ∧ t.get R.RST_STRAP F.RST_STRAP_CODE = strapCode d.toNat ∧
      t.get R.RST_STATUS F.RST_STATUS_LOAD_PHASE = 2) ∧
  (∀ (s : State) (tr : Trim) (ok : Bool), s.get R.RST_STATUS F.RST_STATUS_LOAD_PHASE = 2 → s.coldHeld = false → s.rst.quench = 0 →
    (∀ c : Fin 2, ∃ t, exec (.trimLoad (some c) tr ok) s = .next t ∧ t.bit R.RST_STATUS F.RST_STATUS_TRIM_VALID = true ∧
      t.get R.RST_STATUS F.RST_STATUS_LOAD_PHASE = 3 ∧ t.half = tr.half ∧
      t.word NAND.start 8 = ((if ok then s.word NAND.start 8 else 0) + 1) % 2 ^ 64) ∧
    (s.get R.RST_TRIMSTAT F.RST_TRIMSTAT_PASSES = 2 → ∃ t, exec (.trimLoad none tr ok) s = .next t ∧
      t.bit R.RST_STATUS F.RST_STATUS_TRIM_FAIL = true ∧ t.get R.RST_STATUS F.RST_STATUS_LOAD_PHASE = 6)) ∧
  (∀ s : State, s.get R.RST_STATUS F.RST_STATUS_LOAD_PHASE = 3 → s.coldHeld = false → s.rst.quench = 0 →
    (∀ i, i = s.get R.RST_STRAP F.RST_STRAP_IMAGE → s.imageOk (NAND.image i) = true → ∃ t, exec .imageLoad s = .next t ∧
      t.bytes (MB.gprog 0) (5 * s.word (NAND.image i + 8) 4) = s.bytes (NAND.image i + 32) (5 * s.word (NAND.image i + 8) 4)) ∧
    (s.imageOk (NAND.image 0) = false → s.imageOk (NAND.image 1) = false → ∃ t, exec .imageLoad s = .next t ∧
      t.bit R.RST_STATUS F.RST_STATUS_NO_IMAGE = true ∧ t.mem = s.mem)) ∧
  (∀ s : State, s.coldHeld = false → s.rst.quench = 0 →
    (s.get R.RST_STATUS F.RST_STATUS_LOAD_PHASE = 4 → ∃ t, exec .optionImageLoad s = .next t ∧
      t.bit R.RST_TRIMSTAT F.RST_TRIMSTAT_OPT_DONE = true ∧ t.get R.RST_STATUS F.RST_STATUS_LOAD_PHASE = 5 ∧
      (s.optionOk = true → t.bit R.QEP_ID F.QEP_ID_ROM_PRESENT = true)) ∧
    (∀ i, s.get R.RST_STATUS F.RST_STATUS_LOAD_PHASE = 5 → s.gstReady = true → s.newestKeep = some i → ∃ t, exec .keepCheck s = .next t ∧
      t.bit R.RST_TRIMSTAT F.RST_TRIMSTAT_KEEP_DONE = true ∧
      t.bytes ((s.gstPages - 8) * 2 ^ 21) (s.keepPages i * 2 ^ 21) = s.bytes (keepData i) (s.keepPages i * 2 ^ 21))) ∧
  (∀ s : State, (s.bit R.RST_STATUS F.RST_STATUS_TRIM_VALID = true → s.bit R.RST_STATUS F.RST_STATUS_TEST = false →
      exec .systemReadyWrite s = .next (s.setBit R.RST_CTL F.RST_CTL_SYSTEM_READY)) ∧
    (s.bit R.RST_STATUS F.RST_STATUS_TRIM_VALID = false →
      exec .systemReadyWrite s = .next (s.setBit R.RST_STATUS F.RST_STATUS_CFG_REFUSED))) ∧
  (∀ (s : State) (i : Nat), i < 10 → firstSet (s.get R.RST_DOMAIN F.RST_DOMAIN_IN_RESET) 0 10 = some i → s.rst.held = [] →
    s.bit R.RST_STATUS F.RST_STATUS_WARM_ENTRY = false → s.rst.quench = 0 → s.get R.RST_STATUS F.RST_STATUS_LOAD_PHASE ≠ 1 →
    s.stepReady (i + 1) = true → ∃ t, exec .lehrStepRelease s = .next t ∧
      t.get R.RST_DOMAIN F.RST_DOMAIN_IN_RESET = s.get R.RST_DOMAIN F.RST_DOMAIN_IN_RESET - 2 ^ i ∧
      t.get R.RST_STATUS F.RST_STATUS_LEHR_STEP = i + 1)

/-! ### Command slots and mailboxes (R338 to R356) -/

/-- R346 to R350, R354: ALLOC gives the lowest free slot to its reader with a handle, its holder writes arguments and issues, a command with bad
arguments ends FAILED with BADARG, and RETIRE frees the slot with a new generation. -/
def Obligations.CommandSlotsAreAllocatedIssuedAndRetired : Prop :=
  (∀ (s s1 : State) (m : Master), s.mayReach m false →
    s.controlAllowed (s.masterOrigin m) (sideOf m).no R.CMD_ALLOC.addr 8 AK.read = (true, s1) → s1.stepHeld 9 = false →
    (∀ k : Nat, k < 16 → s.slotState k = 0 → (∀ j, j < k → s.slotState j ≠ 0) → s.job k = none →
      ∃ u : State, exec (.cmdAlloc m) s = .next (u.replyRead m (k + s.get (R.CMD_SLOT k) F.CMD_SLOT_GEN * 2 ^ 4 + 2 ^ 16) 8) ∧
        u.slotState k = 1 ∧ u.holdsSlot k (s.masterOrigin m) = true) ∧
    ((∀ j, j < 16 → s.slotState j ≠ 0) → exec (.cmdAlloc m) s = .next (s1.replyRead m 0 8))) ∧
  (∀ (s : State) (o : Origin) (k : Fin 16) (i : Fin 4) (v : BitVec 64), s.slotState k.val = 1 → s.holdsSlot k.val o.toNat = true →
    ∃ t, exec (.cmdArgWrite o k i v) s = .next t ∧ t.rd (R.CMD_ARG k.val i.val) = v.toNat ∧ t.slotState k.val = 1 ∧
      Only [R.CMD_ARG k.val i.val, R.CMD_SLOT k.val] { s with cmd := t.cmd } t) ∧
  (∀ e ∈ ([(.fwUpdate, 1), (.imgSwap, 2), (.scrub, 3), (.move, 4), (.retrim, 5), (.memtest, 6), (.keepSave, 7)] :
      List ((Origin → Fin 16 → BitVec 12 → Bool → BitVec 11 → Instr) × Nat)), ∀ (s u : State) (o : Origin) (k : Fin 16) (gen : BitVec 12) (notify : Bool) (vec : BitVec 11),
    s.get (R.CMD_SLOT k.val) F.CMD_SLOT_GEN = gen.toNat → s.holdsSlot k.val o.toNat = true → s.slotState k.val = 1 →
    u = (let w := ((s.renewSlot k.val o.toNat).put (R.CMD_SLOT k.val) F.CMD_SLOT_OPC e.2).setJob k.val
          (some ⟨o.toNat, notify, vec.toNat, s.cmd.nextOrder, false, false, 0⟩)
        { w with cmd := { w.cmd with nextOrder := s.cmd.nextOrder + 1 } }) →
    (u.argsOk k.val e.2 = true → exec (e.1 o k gen notify vec) s = .next (u.setSlot k.val 2)) ∧
    (u.argsOk k.val e.2 = false → exec (e.1 o k gen notify vec) s = .next (u.slotEnd k.val 8 2))) ∧
  (∀ (s : State) (o : Origin) (k : Fin 16) (gen : BitVec 12), s.get (R.CMD_SLOT k.val) F.CMD_SLOT_GEN = gen.toNat →
    (s.holdsSlot k.val o.toNat = true ∨ firmCore o.toNat = true) →
    (s.slotState k.val ∈ [1, 7, 8, 9] → exec (.cmdRetire o k gen) s = .next (s.slotFreed k.val)) ∧
    (s.slotState k.val ∈ [2, 3, 4, 5, 6] → exec (.cmdRetire o k gen) s = .next (s.setBit R.CMD_STATUS F.CMD_STATUS_BADCMD))) ∧
  (∀ (s : State) (k : Nat), k < 16 → s.job k = none → (s.slotFreed k).slotState k = 0 ∧ (s.slotFreed k).slotLease k = none ∧
    (s.slotFreed k).get (R.CMD_SLOT k) F.CMD_SLOT_GEN = (s.get (R.CMD_SLOT k) F.CMD_SLOT_GEN + 1) % 2 ^ 12) ∧
  (∀ (s : State) (o m : BitVec 32), s.cmd.leases = [] → exec (.cmdForce o m) s = .next s) ∧
  (∀ (s : State) (o m : BitVec 32) (k : Nat) (l : Lease), s.cmd.leases = [(k, some l)] →
    Nat.land l.holder m.toNat = Nat.land o.toNat m.toNat → exec (.cmdForce o m) s = .next (s.slotRevoke k))

/-- R350, R352, R354: a queued command starts once nothing holds it back, works unit by unit, is suspended, resumed and cancelled by its
holder. -/
def Obligations.CommandsStartWorkAndStop : Prop :=
  (∀ (s : State) (k : Fin 16), s.slotState k.val = 2 → s.bit R.CMD_CTL F.CMD_CTL_ENABLE = true → s.blocked k.val = false →
    s.slotOpc k.val = 3 → (s.jobD k.val).started = false → (s.jobD k.val).notify = false → 0 < s.argPages k.val →
    exec (.cmdStart k) s = .next (((s.setSlot k.val 3).setTotal k.val (8192 * s.argPages k.val)).setAux k.val 0)) ∧
  (∀ (s : State) (k : Fin 16), s.slotState k.val = 2 → (s.bit R.CMD_CTL F.CMD_CTL_ENABLE = false ∨ s.blocked k.val = true) →
    exec (.cmdStart k) s = .next s) ∧
  (∀ (s u : State) (k : Fin 16) (bad : List Nat) (nf late : Bool) (a : Nat), s.slotState k.val = 3 → s.slotOpc k.val = 3 →
    a = s.argPage k.val * 2 ^ 21 + 256 * s.progress k.val → s.errsIn a 256 = [] → s.engOpen k.val a 256 false = (.ok, u) →
    exec (.cmdUnitDone k [] nf bad late) s = .next (((u.gstBurst a 256 (u.engine k.val)).addErrors k.val 0).safePoint k.val)) ∧
  (∀ (s u : State) (o : Origin) (k : Fin 16) (gen : BitVec 12), s.get (R.CMD_SLOT k.val) F.CMD_SLOT_GEN = gen.toNat →
    (s.holdsSlot k.val o.toNat = true ∨ firmCore o.toNat = true) → u = s.renewSlot k.val o.toNat →
    (s.slotState k.val = 2 → exec (.cmdSuspend o k gen) s = .next (u.setSlot k.val 5)) ∧
    (s.slotState k.val = 3 → (s.jobD k.val).indivisible = false → exec (.cmdSuspend o k gen) s = .next (u.setSlot k.val 4)) ∧
    (s.slotState k.val = 4 → exec (.cmdResume o k gen) s = .next (u.setSlot k.val 3)) ∧
    (s.slotState k.val = 5 → exec (.cmdResume o k gen) s = .next (u.setSlot k.val 2)) ∧
    ((s.slotState k.val = 2 ∨ s.slotState k.val = 5) → exec (.cmdCancel o k gen) s = .next (u.slotCancelled k.val)) ∧
    ((s.slotState k.val = 3 ∨ s.slotState k.val = 4) → (s.jobD k.val).indivisible = false → s.slotOpc k.val ≠ 5 →
      exec (.cmdCancel o k gen) s = .next (u.setSlot k.val 6)) ∧
    (s.slotState k.val ∈ [7, 8, 9] → exec (.cmdSuspend o k gen) s = .next (s.setBit R.CMD_STATUS F.CMD_STATUS_BADCMD) ∧
      exec (.cmdResume o k gen) s = .next (s.setBit R.CMD_STATUS F.CMD_STATUS_BADCMD) ∧
      exec (.cmdCancel o k gen) s = .next (s.setBit R.CMD_STATUS F.CMD_STATUS_BADCMD)))

/-- R339 to R344: an end claims, sends, acknowledges, releases and resets; a message from the host reaches the firmware end word for word with
its number and event bit 32; commands without the claim set BADCMD. -/
def Obligations.MailboxesClaimSendAndAcknowledge : Prop :=
  (∀ (s : State) (o : Origin) (m : Fin 512) (host : Bool) (x : Nat), s.mbxGate o.toNat m.val host = .open → x = mbxFrame m.val host →
    (∀ d : BitVec 16, s.claimOf x = none ∨ s.holdsClaim x o.toNat = true →
      ∃ t, exec (.mbxClaim o m host d) s = .next t ∧ t.claimOf x = some ⟨o.toNat, d.toNat, false⟩ ∧
        t.bit (R.MBX_ESTAT x) F.MBX_ESTAT_CLAIMED = true ∧ Only [R.MBX_ESTAT x] { s with mbx := t.mbx } t) ∧
    (s.holdsClaim x o.toNat = true →
      (∃ t, exec (.mbxRelease o m host) s = .next t ∧ t.claimOf x = none ∧ t.bit (R.MBX_ESTAT x) F.MBX_ESTAT_CLAIMED = false ∧
        Only [R.MBX_ESTAT x] { s with mbx := t.mbx } t) ∧
      (∀ ty : BitVec 16, exec (.mbxSend o m host ty) s = .next (s.mbxSend x ty.toNat)) ∧
      (∀ seq rc : BitVec 16, s.bit (R.MBX_ESTAT x) F.MBX_ESTAT_RX_FULL = true → s.get (R.MBX_RXMSG x 0) ⟨0, 16⟩ = seq.toNat →
        rc.toNat < 0xFF00 → exec (.mbxAck o m host seq rc) s = .next (s.mbxAcknowledge x rc.toNat))) ∧
    (s.holdsClaim x o.toNat = false → ∀ ty seq rc : BitVec 16,
      exec (.mbxSend o m host ty) s = .next (s.setBit (R.MBX_ESTAT x) F.MBX_ESTAT_BADCMD) ∧
      exec (.mbxAck o m host seq rc) s = .next (s.setBit (R.MBX_ESTAT x) F.MBX_ESTAT_BADCMD) ∧
      exec (.mbxRelease o m host) s = .next (s.setBit (R.MBX_ESTAT x) F.MBX_ESTAT_BADCMD)) ∧
    (s.bit (R.MBX_ESTAT x) F.MBX_ESTAT_RX_FULL = false → ∃ t, exec (.mbxReset o m host) s = .next t ∧ t.claimOf x = none ∧
      t.bit (R.MBX_ESTAT x) F.MBX_ESTAT_TX_FULL = false ∧ t.bit (R.MBX_ESTAT (mbxOther x)) F.MBX_ESTAT_RX_FULL = false)) ∧
  (∀ (s : State) (m ty seq : Nat), m < 512 → ty < 2 ^ 16 → s.bit (R.MBX_ESTAT (512 + m)) F.MBX_ESTAT_TX_FULL = false →
    seq = (s.get (R.MBX_ESTAT (512 + m)) F.MBX_ESTAT_TX_SEQ + 1) % 2 ^ 16 → ∀ t, t = s.mbxSend (512 + m) ty →
      t.rd (R.MBX_RXMSG m 0) = seq + ty * 2 ^ 16 ∧
      (∀ i, i < 7 → t.rd (R.MBX_RXMSG m (i + 1)) = s.rd (R.MBX_TXMSG (512 + m) (i + 1)) % 2 ^ 64) ∧
      t.bit (R.MBX_ESTAT m) F.MBX_ESTAT_RX_FULL = true ∧ t.bit (R.MBX_ESTAT (512 + m)) F.MBX_ESTAT_TX_FULL = true ∧
      t.get (R.MBX_ESTAT (512 + m)) F.MBX_ESTAT_TX_SEQ = seq) ∧
  (∀ (s : State) (m : Fin 512), ∃ t, exec (.mbxDisable m) s = .next t ∧ t.bit (R.MBX_CFG m.val) F.MBX_CFG_EN = false ∧
    t.claimOf m.val = none ∧ t.claimOf (512 + m.val) = none) ∧
  (∀ (s : State) (o m : BitVec 32) (x : Nat) (l : Lease), s.mbx.claims = [(x, some l)] →
    Nat.land l.holder m.toNat = Nat.land o.toNat m.toNat → exec (.mbxForce o m) s = .next (s.mbxResetEnd x))

/-! ### Tables and flow records by register command (R105, R106, R207) -/

/-- R106, R207: the commands of JCK_TBLCMD and POL_FLOWCMD read, write and remove what the selection registers name. -/
def Obligations.TableAndFlowCommandsReadAndWrite : Prop :=
  (∀ (s : State) (o : Origin) (d : Tbl) (i : Nat), d = s.tbl false (s.get R.JCK_TBLSEL F.JCK_TBLSEL_TABLE) → d.type = 1 → d.place = 0 →
    s.bit (R.GAF_EPSTAT 1) F.GAF_EPSTAT_COMMIT_PEND = false → i = s.get R.JCK_TBLSEL F.JCK_TBLSEL_INDEX → i < d.size →
    bitOf (s.get R.GAF_DEBUG F.GAF_DEBUG_DIRECT) 1 = false →
    (∃ t, exec (.tblRead o) s = .next t ∧ (∀ k, k < 4 → t.rd (R.JCK_TBLDATA k) = recWord (s.entry d i) k) ∧
      t.get R.JCK_TBLSEL F.JCK_TBLSEL_RESULT = 0 ∧ t.mem = s.mem) ∧
    (∃ t, exec (.tblWrite o) s = .next t ∧ t.entry d i = [s.rd (R.JCK_TBLDATA 0) % 2 ^ 64, s.rd (R.JCK_TBLDATA 1) % 2, 0, 0] ∧
      t.get R.JCK_TBLSEL F.JCK_TBLSEL_RESULT = 0 ∧
      (∀ a, a < d.addr i ∨ d.addr i + 16 ≤ a → t.byte a = s.byte a)) ∧
    (∃ t, exec (.tblDelete o) s = .next t ∧ t.entry d i = [0, 0, 0, 0] ∧ t.get R.JCK_TBLSEL F.JCK_TBLSEL_RESULT = 0 ∧
      (∀ a, a < d.addr i ∨ d.addr i + 16 ≤ a → t.byte a = s.byte a))) ∧
  (∀ (s : State) (o : Origin) (f : Nat) (ws : List Nat), f = s.get R.POL_FLOWSEL F.POL_FLOWSEL_RECORD → s.pol.cmd = none →
    ws = (List.range 8).map (fun i => s.rd (R.POL_FLOWDATA i)) → s.gstMapped (s.flowAddr f) = true →
    ((∀ w ∈ s.pol.filling, w.idx ≠ f) →
      (∀ l, s.flowFind f = some l → s.flowVictim f = none → (∀ i, i < 8 → recWord l.words i < 2 ^ 64) →
        ∃ t, exec (.flowRead o) s = .next t ∧ (∀ i, i < 8 → t.rd (R.POL_FLOWDATA i) = recWord l.words i) ∧ t.pol = s.pol ∧ t.mem = s.mem) ∧
      (∀ u, s.flowTurn (s.flowRanges f false) = some u → exec (.flowWrite o) s = .next (u.flowPut ⟨f, ws, true⟩ o.toNat)) ∧
      (s.pol.cache = [] → ∃ t, exec (.flowWrite o) s = .next t ∧ t.flowFind f = some ⟨f, ws, true⟩ ∧ t.regs = s.regs ∧ t.mem = s.mem)) ∧
    ((∃ w ∈ s.pol.filling, w.idx = f) → ∃ t c, exec (.flowWrite o) s = .next t ∧ t.pol = { s.pol with cmd := some c } ∧ c.words = ws ∧
      Only [R.POL_STATUS] { s with pol := t.pol } t ∧ t.bit R.POL_STATUS F.POL_STATUS_CMD_BUSY = true)) ∧
  (∀ (s : State) (o : Origin), s.pol.cmd ≠ none → ∀ i ∈ [Instr.flowRead, Instr.flowWrite, Instr.flowWriteback],
    exec (i o) s = .next (s.setBit R.POL_STATUS F.POL_STATUS_CFG_REFUSED)) ∧
  (∀ (s u : State) (o : Origin), s.pol.cmd = none → s.flowTurn s.dirtyRanges = some u → ∃ t, exec (.flowWriteback o) s = .next t ∧
    (∀ l ∈ t.pol.cache, l.dirty = false) ∧ t.pol.cache.map (fun l => (l.idx, l.words)) = s.pol.cache.map (fun l => (l.idx, l.words))) ∧
  (∀ (s u v : State) (f : BitVec 20) (w : MeterWait) (r : Option (List Nat) × State), s.pol.cmd = none → s.pol.filling = [w] →
    w.idx = f.toNat → s.flowFind f.toNat = none → s.flowTurn (s.flowRanges f.toNat true) = some u →
    v = { u with pol := { u.pol with filling := [] } } → r = v.flowFill f.toNat (v.agentOrigin (agentOfNo w.lane)) →
    (∀ ws, r.1 = some ws → exec (.flowCacheFill f []) s = .next (r.2.meterWaited w)) ∧
    (r.1 = none → exec (.flowCacheFill f []) s = .next (r.2.meterDone w 2)))

/-! ### Live change: banks (R28, R29, R150, R154, R157, R159, R208 to R212) and RESV (R44, R57) -/

/-- R28, R29, R157, R208 to R210: an accepted commit exchanges the banks of the domain or gate, a refused one leaves both and says why; once
nothing is bound to the old bank it is drained, and the copy makes both banks equal and ends the commit with event bit 42. R44, R57: RESV of
every COQ is applied as one change or not at all, and a named cell is retired. -/
def Obligations.BanksAreCommittedDrainedAndCopied : Prop :=
  (∀ (s : State) (d : Fin 3) (all : Bool),
    (s.domainRefusal d.val = none →
      ∃ t, exec (.gafCommit (decide (d.val = 0)) (decide (d.val = 1)) (decide (d.val = 2)) all 0) s = .next t ∧
        (∀ r : RegRef, inDomain d.val r.addr = true → t.rdAct r = s.rd r ∧ t.rd r = s.rdAct r) ∧
        (∀ r : RegRef, inDomain d.val r.addr = false → t.rdAct r = s.rdAct r ∧
          (r.addr ≠ (R.GAF_EPSTAT d.val).addr →
            (d.val = 2 → r.addr ≠ R.SCH_STATUS.addr ∧ ∀ p, p < 512 → r.addr ≠ (R.SCH_PORTCR p).addr) → t.rd r = s.rd r)) ∧
        t.get (R.GAF_EPSTAT d.val) F.GAF_EPSTAT_EPOCH = (s.get (R.GAF_EPSTAT d.val) F.GAF_EPSTAT_EPOCH + 1) % 2 ^ 16 ∧
        t.bit (R.GAF_EPSTAT d.val) F.GAF_EPSTAT_DRAINED = false ∧ t.bit (R.GAF_EPSTAT d.val) F.GAF_EPSTAT_COMMIT_PEND = true ∧
        t.mem = s.mem) ∧
    (∀ why item, s.domainRefusal d.val = some (why, item) →
      ∃ t, exec (.gafCommit (decide (d.val = 0)) (decide (d.val = 1)) (decide (d.val = 2)) all 0) s = .next t ∧ t.act = s.act ∧
        t.bit (R.GAF_EPSTAT d.val) F.GAF_EPSTAT_COMMIT_BAD = true ∧
        t.get (R.GAF_EPSTAT d.val) F.GAF_EPSTAT_BAD_WHY = why % 2 ^ 4 ∧
        t.get (R.GAF_EPSTAT d.val) F.GAF_EPSTAT_BAD_ITEM = item % 2 ^ 16 ∧
        (∀ r : RegRef, r.addr ≠ (R.GAF_EPSTAT d.val).addr → r.addr ≠ R.GAF_STATUS.addr → t.rd r = s.rd r) ∧
        (all = true → t.bit R.GAF_STATUS F.GAF_STATUS_ALL_REFUSED = true) ∧ t.mem = s.mem) ∧
    ((s.domainRefusal d.val).isSome = true → ∃ t, exec (.gafCommit true true true true 0) s = .next t ∧ t.act = s.act ∧
      t.bit R.GAF_STATUS F.GAF_STATUS_ALL_REFUSED = true)) ∧
  (∀ (s : State) (g : Fin 32) (all : Bool) (gs : BitVec 32), gs = BitVec.ofNat 32 (2 ^ g.val) →
    (s.gateRefusal g.val = none → ∃ t, exec (.gafCommit false false false all gs) s = .next t ∧
      (∀ r : RegRef, inRanges (gateRanges g.val (s.gateExts g.val)) r.addr = true → t.rdAct r = s.rd r) ∧
      (∀ r : RegRef, inRanges (gateRanges g.val (s.gateExts g.val)) r.addr = false →
        (∀ j ∈ s.gateLeaves g.val, r.addr ≠ (R.GAT_XCFG j).addr) → t.rdAct r = s.rdAct r) ∧
      (∀ j ∈ s.gateLeaves g.val, t.getAct (R.GAT_XCFG j) F.GAT_XCFG_EN = 0) ∧
      (∀ b ∈ t.gst.bound, b.gate = g.val → b.old = true) ∧
      t.get (R.GAT_EPOCH g.val) F.GAT_EPOCH_EPOCH = (s.get (R.GAT_EPOCH g.val) F.GAT_EPOCH_EPOCH + 1) % 2 ^ 16 ∧
      t.bit (R.GAT_EPOCH g.val) F.GAT_EPOCH_DRAINED = false ∧ t.bit (R.GAT_GSTAT g.val) F.GAT_GSTAT_COMMIT_PEND = true ∧
      t.bit (R.GAT_GSTAT g.val) F.GAT_GSTAT_BOOT = false ∧ t.mem = s.mem) ∧
    (∀ why x, s.gateRefusal g.val = some (why, x) → ∃ t, exec (.gafCommit false false false all gs) s = .next t ∧ t.act = s.act ∧
      t.bit (R.GAT_GSTAT g.val) F.GAT_GSTAT_COMMIT_BAD = true ∧ t.get (R.GAT_GSTAT g.val) F.GAT_GSTAT_BAD_WHY = why % 4 ∧
      (∀ r : RegRef, r.addr ≠ (R.GAT_GSTAT g.val).addr → t.rd r = s.rd r) ∧ t.mem = s.mem)) ∧
  (∀ (s : State) (d : Fin 3),
    (s.bit (R.GAF_EPSTAT d.val) F.GAF_EPSTAT_COMMIT_PEND = true → s.oldInflight d.val = 0 →
      ∃ t, exec (.epochDrained d) s = .next t ∧ t.bit (R.GAF_EPSTAT d.val) F.GAF_EPSTAT_DRAINED = true ∧ Only [R.GAF_EPSTAT d.val] s t) ∧
    (s.bit (R.GAF_EPSTAT d.val) F.GAF_EPSTAT_COMMIT_PEND = false → exec (.epochDrained d) s = .next s) ∧
    (s.bit (R.GAF_EPSTAT d.val) F.GAF_EPSTAT_COMMIT_PEND = true → s.bit (R.GAF_EPSTAT d.val) F.GAF_EPSTAT_DRAINED = true →
      ∃ u, exec (.epochCopyDone d) s = .next (if d.val = 0 then u.answerConfigs else u) ∧ u.act = s.act ∧
        (∀ r : RegRef, inDomain d.val r.addr = true → u.rd r = s.rdAct r) ∧
        (∀ r : RegRef, inDomain d.val r.addr = false → r.addr ≠ (R.GAF_EPSTAT d.val).addr →
          (d.val = 2 → r.addr ≠ R.SCH_STATUS.addr) → u.rd r = s.rd r) ∧
        u.bit (R.GAF_EPSTAT d.val) F.GAF_EPSTAT_COMMIT_PEND = false ∧ u.gaf = (s.event 42).gaf ∧ (d.val ≠ 1 → u.mem = s.mem)) ∧
    (s.bit (R.GAF_EPSTAT d.val) F.GAF_EPSTAT_DRAINED = false → exec (.epochCopyDone d) s = .next s)) ∧
  (∀ (s : State) (g : Fin 32),
    (s.bit (R.GAT_GSTAT g.val) F.GAT_GSTAT_COMMIT_PEND = true → s.gateOld g.val = 0 →
      ∃ t, exec (.gateDrained g) s = .next t ∧ t.bit (R.GAT_EPOCH g.val) F.GAT_EPOCH_DRAINED = true ∧ Only [R.GAT_EPOCH g.val] s t) ∧
    (s.gateOld g.val ≠ 0 → exec (.gateDrained g) s = .next s) ∧
    (s.bit (R.GAT_GSTAT g.val) F.GAT_GSTAT_COMMIT_PEND = true → s.bit (R.GAT_EPOCH g.val) F.GAT_EPOCH_DRAINED = true →
      ∀ exts, exts = (List.range 8).filter (fun j => s.attached true g.val j) →
      ∃ t, exec (.gateCopyDone g) s = .next t ∧ t.act = s.act ∧
        (∀ r : RegRef, inRanges (gateRanges g.val exts) r.addr = true → t.rd r = s.rdAct r) ∧
        (∀ r : RegRef, inRanges (gateRanges g.val exts) r.addr = false → r.addr ≠ (R.GAT_GSTAT g.val).addr → t.rd r = s.rd r) ∧
        t.bit (R.GAT_GSTAT g.val) F.GAT_GSTAT_COMMIT_PEND = false ∧ t.gaf = (s.event 42).gaf ∧ t.mem = s.mem) ∧
    (s.bit (R.GAT_EPOCH g.val) F.GAT_EPOCH_DRAINED = false → exec (.gateCopyDone g) s = .next s)) ∧
  (∀ (s u : State), u = { s with cru := { s.cru with resv := s.newResv } } →
    (u.sumRes + s.retired.length + s.get R.CRU_MINSHARED F.CRU_MINSHARED_MIN_SHARED ≤ cellCount →
      exec (.cruCommit true) s = .next u ∧ ∀ q, q < 2064 → u.res q = s.get (R.CRU_COQCFG q) F.CRU_COQCFG_RESV) ∧
    (cellCount < u.sumRes + s.retired.length + s.get R.CRU_MINSHARED F.CRU_MINSHARED_MIN_SHARED →
      exec (.cruCommit true) s = .next (s.setBit R.CRU_STATUS F.CRU_STATUS_COMMIT_BAD)) ∧
    exec (.cruCommit false) s = .next s) ∧
  (∀ (s : State) (c : Fin 786432),
    (s.retired.contains c.val = true ∨ s.cru.due.contains c.val = true → exec (.cruRetadd c true) s = .next s) ∧
    (s.retired.contains c.val = false → s.cru.due.contains c.val = false →
      (SMap.get s.cru.refs 0 c.val ≠ 0 →
        exec (.cruRetadd c true) s = .next { s with cru := { s.cru with due := c.val :: s.cru.due } }) ∧
      (SMap.get s.cru.refs 0 c.val = 0 → s.retired.length < 1024 → ∃ t, exec (.cruRetadd c true) s = .next t ∧
        t.rd (R.CRU_RETLIST s.retired.length) = c.val + 2 ^ 20 ∧ t.cru.due = s.cru.due ∧
        Only [R.CRU_RETLIST s.retired.length] { s with cru := t.cru } t)) ∧
    exec (.cruRetadd c false) s = .next s)

/-- R159, R211, R212: in direct-write mode the highest word of a record writes both banks, unless the record would fail the checks of a
commit. R213 to R215: a firmware swap reaches running cores by event 36 and stopped ones at once; a core that does not switch is restarted
from the new bank; a failed core is taken over by a spare, which starts at syllable 2. -/
def Obligations.DirectWritesSwapsAndTakeovers : Prop :=
  (∀ (s : State) (d : BitVec 3) (g : Bool) (key : BitVec 16),
    (key ≠ 0x5120#16 → exec (.directModeWrite d g key) s = .next s) ∧
    ((∀ i, i < 3 → s.bit (R.GAF_EPSTAT i) F.GAF_EPSTAT_COMMIT_PEND = false) →
      (∀ i, i < 32 → s.bit (R.GAT_GSTAT i) F.GAT_GSTAT_COMMIT_PEND = false) →
      ∃ t, exec (.directModeWrite d g 0x5120#16) s = .next t ∧ t.get R.GAF_DEBUG F.GAF_DEBUG_DIRECT = d.toNat ∧
        t.bit R.GAF_DEBUG F.GAF_DEBUG_GDIR = g ∧ Only [R.GAF_DEBUG] { s with gaf := { s.gaf with holding := t.gaf.holding } } t) ∧
    (∀ i, i < 3 → s.bit (R.GAF_EPSTAT i) F.GAF_EPSTAT_COMMIT_PEND = true → s.direct i = false → bitOf d.toNat i = true →
      exec (.directModeWrite d g 0x5120#16) s = .next (s.setBit R.GAF_STATUS F.GAF_STATUS_CFG_REFUSED))) ∧
  (∀ (s : State) (item : DirectRec) (v : BitVec 64), s.direct (recordRef item).1 = false →
    exec (.directRecordWrite item v) s = .next s) ∧
  (∀ (s : State) (p : Fin 256) (v : BitVec 64), s.direct 0 = true → ∃ t, exec (.directRecordWrite (.mirrorPort p) v) s = .next t ∧
    t.rd (R.CRU_MIRPORT p.val) = Nat.land v.toNat (cardMask Card.CRU_MIRPORT) ∧
    t.rdAct (R.CRU_MIRPORT p.val) = Nat.land v.toNat (cardMask Card.CRU_MIRPORT) ∧
    Only [R.CRU_MIRPORT p.val] { s with act := t.act } t) ∧
  (∀ (s u : State) (i : Fin 4096) (lo : Nat) (v : BitVec 64), s.direct 1 = true → lo < 2 ^ 64 →
    SMap.get s.gaf.holding none (R.POL_PROFA i.val).addr = some lo →
    u = (s.wrBoth (R.POL_PROFA i.val) lo).wrBoth (R.POL_PROFB i.val) (Nat.land v.toNat (cardMask Card.POL_PROFB)) →
    (u.badProfile i.val = false → ∃ t, exec (.directRecordWrite (.profile i) v) s = .next t ∧
      t.rd (R.POL_PROFA i.val) = lo ∧ t.rdAct (R.POL_PROFA i.val) = lo ∧
      t.rd (R.POL_PROFB i.val) = Nat.land v.toNat (cardMask Card.POL_PROFB) ∧
      t.rdAct (R.POL_PROFB i.val) = Nat.land v.toNat (cardMask Card.POL_PROFB)) ∧
    (u.badProfile i.val = true → ∃ t, exec (.directRecordWrite (.profile i) v) s = .next t ∧ t.act = s.act ∧
      t.bit (R.GAF_EPSTAT 1) F.GAF_EPSTAT_CFG_PAIRERR = true ∧ t.get (R.GAF_EPSTAT 1) F.GAF_EPSTAT_BAD_ITEM = i.val ∧
      Only [R.GAF_EPSTAT 1] { s with gaf := t.gaf } t)) ∧
  (∀ (s u : State) (g : Fin 32) (i : Fin 64) (lo : Nat) (v : BitVec 64), lo < 2 ^ 64 →
    SMap.get s.gaf.holding none (R.GAT_RGNA g.val i.val).addr = some lo →
    u = (s.wrBoth (R.GAT_RGNA g.val i.val) lo).wrBoth (R.GAT_RGNB g.val i.val) (Nat.land v.toNat (cardMask Card.GAT_RGNB)) →
    (s.bit R.GAF_DEBUG F.GAF_DEBUG_GDIR = false → exec (.gateRegionDirectWrite g i v) s = .next s) ∧
    (s.bit R.GAF_DEBUG F.GAF_DEBUG_GDIR = true → u.regionFails g.val i.val = false →
      ∃ t, exec (.gateRegionDirectWrite g i v) s = .next t ∧
        t.rd (R.GAT_RGNA g.val i.val) = lo ∧ t.rdAct (R.GAT_RGNA g.val i.val) = lo ∧
        t.rd (R.GAT_RGNB g.val i.val) = Nat.land v.toNat (cardMask Card.GAT_RGNB) ∧
        t.rdAct (R.GAT_RGNB g.val i.val) = Nat.land v.toNat (cardMask Card.GAT_RGNB)) ∧
    (s.bit R.GAF_DEBUG F.GAF_DEBUG_GDIR = true → u.regionFails g.val i.val = true →
      ∃ t, exec (.gateRegionDirectWrite g i v) s = .next t ∧ t.act = s.act ∧
        t.bit R.GAT_STATUS F.GAT_STATUS_CFG_PAIRERR = true ∧ Only [R.GAT_STATUS] { s with gaf := t.gaf } t)) ∧
  (∀ (s : State) (b : Bool),
    (s.bit R.GAF_STATUS F.GAF_STATUS_SWAP_BUSY = true ∨ s.bit R.GAF_STATUS F.GAF_STATUS_ACTIVE_BANK = b →
      exec (.firmwareSwap b) s = .next (s.setBit R.GAF_STATUS F.GAF_STATUS_CFG_REFUSED)) ∧
    (s.bit R.GAF_STATUS F.GAF_STATUS_SWAP_BUSY = false → s.bit R.GAF_STATUS F.GAF_STATUS_ACTIVE_BANK = !b →
      ∃ t, exec (.firmwareSwap b) s = .next t ∧
        (∀ c, c < 32 → (s.core c).isStopped = true → t.core c = { s.core c with switched := true } ∧
          t.bit (R.GAF_CORE c) F.GAF_CORE_BANK = b) ∧
        (∀ c, c < 32 → (s.core c).isStopped = false → t.core c = (s.core c).setEvent 36 ∧
          t.bit (R.GAF_CORE c) F.GAF_CORE_SWAP_PEND = true ∧ t.bit R.GAF_STATUS F.GAF_STATUS_SWAP_BUSY = true ∧
          t.bit R.GAF_STATUS F.GAF_STATUS_ACTIVE_BANK = !b) ∧
        ((∀ c, c < 32 → (s.core c).isStopped = true ∧ s.bit (R.GAF_CORE c) F.GAF_CORE_SWAP_PEND = false) →
          t.bit R.GAF_STATUS F.GAF_STATUS_SWAP_BUSY = false ∧ t.bit R.GAF_STATUS F.GAF_STATUS_ACTIVE_BANK = b) ∧
        Only (R.GAF_STATUS :: (List.range 32).map R.GAF_CORE) { s with gaf := t.gaf } t)) ∧
  (∀ (s : State) (c : Fin 32), s.bit (R.GAF_CORE c.val) F.GAF_CORE_SWAP_PEND = true → (s.core c.val).sb = [] →
    (s.core c.val).run ≠ .taking → ∃ t, exec (.gafSwapForced c) s = .next t ∧
      t.core c.val = { csr := SMap.set [] 0 CSR.EVPEND ((s.core c.val).rcsr CSR.EVPEND), pc := 1, run := .running, ran := true } ∧
      (∀ d, d ≠ c.val → t.core d = s.core d) ∧ t.bit (R.GAF_CORE c.val) F.GAF_CORE_SWAP_PEND = false ∧
      t.bit (R.GAF_CORE c.val) F.GAF_CORE_BANK = !s.bit (R.GAF_CORE c.val) F.GAF_CORE_BANK ∧
      t.reports = s.reports ++ [⟨FC.GAF_SWAP_FORCED, UK.core, c.val, 0, s.phys c.val, (s.core c.val).pc, s.now, false⟩] ∧
      t.mem = s.mem) ∧
  (∀ (s : State) (c : Fin 32) (n : Nat), n = s.get R.GAF_STATUS F.GAF_STATUS_SPARES →
    (s.hasCore c.val = false → exec (.coreTakeover c) s = .next s ∧ exec (.gafStall c) s = .next s ∧ exec (.gafCoreUe c) s = .next s) ∧
    (s.hasCore c.val = true → n ≠ 0 →
      (∃ t, exec (.coreTakeover c) s = .next t ∧ t.core c.val = { s.core c.val with run := .taking } ∧ t.phys c.val = 34 - n ∧
        t.get R.GAF_STATUS F.GAF_STATUS_SPARES = n - 1 ∧ t.get R.GAF_STATUS F.GAF_STATUS_FAILED_MASK =
          Nat.lor (s.get R.GAF_STATUS F.GAF_STATUS_FAILED_MASK) (2 ^ s.phys c.val) % 2 ^ 34 ∧
        Only [R.GAF_STATUS, R.GAF_CORE c.val] { s with gaf := t.gaf, gst := { s.gst with bound := t.gst.bound } } t ∧
        t.gst.bound = s.gst.bound.filter (fun b => b.who != c.val + 1)) ∧
      (s.bit R.GAF_CTL F.GAF_CTL_AUTO_TK = true → (s.core c.val).run = .running →
        ∃ t, exec (.gafStall c) s = .next t ∧ t.core c.val = { s.core c.val with run := .taking } ∧ t.phys c.val = 34 - n ∧
          t.reports = s.reports ++ [⟨FC.GAF_STALL, UK.core, c.val, 0, s.phys c.val, (s.core c.val).pc, s.now, false⟩]) ∧
      (s.bit R.GAF_CTL F.GAF_CTL_AUTO_TK = true →
        ∃ t, exec (.gafCoreUe c) s = .next t ∧ t.core c.val = { s.core c.val with sb := [], run := .taking } ∧ t.phys c.val = 34 - n ∧
          t.reports = s.reports ++ [⟨FC.GAF_CORE_UE, UK.core, c.val, 0, s.phys c.val + 2 ^ 15, 0, s.now, false⟩])) ∧
    (s.hasCore c.val = true → n = 0 → ∃ t, exec (.coreTakeover c) s = .next t ∧
      t.core c.val = { s.core c.val with run := .failed } ∧ t.phys c.val = 0x3F ∧
      t.reports = s.reports ++ [⟨FC.GAF_NOSPARE, UK.core, c.val, 0, s.phys c.val, 0, s.now, false⟩]) ∧
    (s.bit R.GAF_CTL F.GAF_CTL_AUTO_TK = false → exec (.gafStall c) s = .next s ∧ (s.hasCore c.val = true →
      exec (.gafCoreUe c) s = .next (s.report FC.GAF_CORE_UE UK.core c.val 0 (s.phys c.val) 0))) ∧
    ((s.core c.val).run = .taking → (s.core c.val).sb = [] → ∃ t, exec (.spareStart c) s = .next t ∧
      t.core c.val = { csr := SMap.set [] 0 CSR.EVPEND (Nat.lor ((s.core c.val).rcsr CSR.EVPEND) (2 ^ 37)), pc := 2,
                       run := .running, ran := true } ∧
      t.bit (R.GAF_CORE c.val) F.GAF_CORE_SWAP_PEND = false ∧ (∀ d, d ≠ c.val → t.core d = s.core d) ∧ t.mem = s.mem) ∧
    ((s.core c.val).run ≠ .taking ∨ (s.core c.val).sb ≠ [] → exec (.spareStart c) s = .next s))

/-! ### Gather store (R109, R111 to R119, R122, R124, R126 to R128) and gates (R151 to R155) -/

/-- R109, R111 to R119, R121, R122, R124, R160: accesses past the gate read, write or change exactly their bytes; a denied, locked, refused
or uncorrectable one returns no data and writes nothing; scrub corrects and poisons; retirement copies into a spare block. -/
def Obligations.GatherStoreServesScrubsAndRetires : Prop :=
  (∀ (s : State) (o : Origin) (a : BitVec 37) (n : Nat), n = a.toNat → s.gstMapped n = true → s.gstServes = true →
    (∀ acc : GstAcc, accLen acc ≠ 0 → (s.gateArrive (s.gateOfGst n) n (accLen acc) (accKind acc) o.toNat 0).1 = true →
      s.gstBusy n (accLen acc) 0 = false → s.undisputed o.toNat → s.errsIn n (accLen acc) = [] →
      (accKind acc ≠ AK.read → s.lockAgainst n (accLen acc) o.toNat = none) →
      match acc with
      | .read k => Accesses s (.gstAccess o a acc [] none) (s.emit (.readData (s.word n k)))
      | .write d => Accesses s (.gstAccess o a acc [] none) ((s.wrote n o.toNat d).emit .writeDone)
      | .atomic op z x c => z = 8 → Accesses s (.gstAccess o a acc [] none)
          ((s.wrote n o.toNat (leBytes (atomResult op (s.word n 8) x.toNat c.toNat) 8)).emit (.readData (s.word n 8)))) ∧
    (∀ acc : GstAcc, (s.gateArrive (s.gateOfGst n) n (accLen acc) (accKind acc) o.toNat 0).1 = false →
      ∃ t, exec (.gstAccess o a acc [] none) s = .next t ∧ t.out = .accessError :: s.out ∧ t.mem = s.mem ∧ t.err = s.err ∧ t.gst = s.gst) ∧
    (∀ (acc : GstAcc) (g : Bool × State), g = s.gateArrive (s.gateOfGst n) n (accLen acc) (accKind acc) o.toNat 0 → g.1 = true →
      s.gstBusy n (accLen acc) 0 = true → exec (.gstAccess o a acc [] none) s =
        .next (g.2.gateBind (s.gateOfGst n) n (accLen acc) (accKind acc) o.toNat 0)) ∧
    (∀ (acc : GstAcc) (i : Nat), accKind acc ≠ AK.read → s.gstBusy n (accLen acc) 0 = false →
      (s.gateArrive (s.gateOfGst n) n (accLen acc) (accKind acc) o.toNat 0).1 = true → s.lockAgainst n (accLen acc) o.toNat = some i →
      ∃ t, exec (.gstAccess o a acc [] none) s = .next t ∧ t.out = .accessError :: s.out ∧ t.mem = s.mem ∧
        t.reports = s.reports ++ [⟨FC.GST_LOCKED, (masterUnit o.toNat).1, (masterUnit o.toNat).2, o.toNat, i, n, s.now, false⟩]) ∧
    (∀ (k w m : Nat), k ≠ 0 → s.gstBusy n k 0 = false → s.undisputed o.toNat → s.errsIn n k = [(w, m, false)] →
      s.decoded (w, m, false) = .ue →
      (s.gateArrive (s.gateOfGst n) n k AK.read o.toNat 0).1 = true → ∃ t rest, exec (.gstAccess o a (.read k) [] none) s = .next t ∧
        t.out = .accessError :: s.out ∧ t.mem = s.mem ∧ t.err = s.err ∧
        t.reports = s.reports ++ ⟨FC.GST_UE, UK.module, 0, o.toNat, s.cgOf (8 * w), 8 * w, s.now, false⟩ :: rest ∧
        t.get R.GST_ECCSTAT F.GST_ECCSTAT_UE = satAdd (s.get R.GST_ECCSTAT F.GST_ECCSTAT_UE) 1 (2 ^ 16 - 1))) ∧
  (∀ (s : State) (o : Origin) (a : BitVec 37) (acc : GstAcc),
    (s.gstMapped a.toNat = false ∨ s.gstServes = false → exec (.gstAccess o a acc [] none) s = .next (s.emit .accessError)) ∧
    ∀ (e : Fin 12288) (fl : List (Nat × Nat)), exec (.gstAccess o a acc fl (some e)) s =
      .next (s.report FC.GST_REMAP_UE UK.module 0 o.toNat (s.cgOf a.toNat) e.val)) ∧
  (∀ (s : State) (o : Origin) (rid : BitVec 16) (tag : BitVec 10) (cls : Fin 8) (off : BitVec 48) (f : Nat) (h : HostReq),
    f = oFn o.toNat → h = ⟨o.toNat, rid.toNat, tag.toNat, cls⟩ →
    (∀ acc, (s.flt.stopped = true ∨ accPosted acc = true ∧ s.rst.quench ≠ 0) → exec (.poolAccess o rid tag cls off acc []) s = .next s) ∧
    (∀ acc, s.flt.stopped = false → (accPosted acc = true → s.rst.quench = 0) →
      (s.decodes f = false ∨ s.bar2Size f ≤ off.toNat →
        exec (.poolAccess o rid tag cls off acc []) s = .next (s.hostFail h (accPosted acc) .ur)) ∧
      (s.decodes f = true → off.toNat < s.bar2Size f →
        (s.requesterShut o.toNat = true → (∀ a, s.poolTranslate f off.toNat = some a → s.pastGate a acc o.toNat = false) →
          exec (.poolAccess o rid tag cls off acc []) s = .next (s.hostFail h (accPosted acc) .ca)) ∧
        (s.requesterShut o.toNat = false → hostAtomicOk acc off.toNat = true →
          (s.poolTranslate f off.toNat = none → exec (.poolAccess o rid tag cls off acc []) s =
            .next ((s.report FC.POOL_UNMAPPED UK.function f o.toNat 0 off.toNat).hostFail h (accPosted acc) .ur)) ∧
          (∀ a g, s.poolTranslate f off.toNat = some a → s.gstMapped a = true → s.gstServes = true →
            g = s.gateArrive (s.gateOfGst a) a (accLen acc) (accKind acc) o.toNat 0 →
            (g.1 = false → exec (.poolAccess o rid tag cls off acc []) s = .next (g.2.hostFail h (accPosted acc) .ca)) ∧
            (g.1 = true → accLen acc ≠ 0 → s.gstBusy a (accLen acc) 0 = false → s.undisputed o.toNat →
              match acc with
              | .read k => ∃ u, Served s u ∧ exec (.poolAccess o rid tag cls off acc []) s =
                  .next (u.hostReadPieces h a k (sizeCode (s.fnShared f).mps))
              | .write d => s.errsIn a d.length = [] → s.lockAgainst a d.length o.toNat = none →
                  Accesses s (.poolAccess o rid tag cls off acc []) (s.wrote a o.toNat d)
              | .atomic op _ x c => s.errsIn a 8 = [] → s.lockAgainst a 8 o.toNat = none →
                  ∃ u, Served (s.wrote a o.toNat (leBytes (atomResult op (s.word a 8) x.toNat c.toNat) 8)) u ∧
                    exec (.poolAccess o rid tag cls off acc []) s =
                      .next (u.answer (s.replyPt o.toNat) rid.toNat tag.toNat cls .sc (s.bytes a 8) o.toNat .endpoint))))))) ∧
  (∀ s : State,
    (s.gstReady = true → exec .gstInitDone s = .next s) ∧
    (s.gstReady = false → s.bit R.GST_STATUS F.GST_STATUS_TRIM_WAIT = false → ∃ t, exec .gstInitDone s = .next t ∧
      t.gstReady = true ∧ (∀ a, a < MB.cell → t.byte a = 0) ∧ (∀ a, MB.cell ≤ a → t.byte a = s.byte a) ∧
      Only [R.GST_STATUS] { s with mem := t.mem, err := [] } t)) ∧
  (∀ (s : State) (cg : Fin 16) (i a : Nat), i = SMap.get s.gst.scrubAt 0 cg.val → a = s.walkAddr cg.val i →
    (s.bit R.GST_CTL F.GST_CTL_SCRUB_EN = false → exec (.scrubStep cg []) s = .next s) ∧
    (s.bit R.GST_CTL F.GST_CTL_SCRUB_EN = true → s.gstReady = true → s.bit R.GST_STATUS F.GST_STATUS_SELFREF = false →
      cg.val < s.groups → (s.gstBusy a 256 0 = true → exec (.scrubStep cg []) s = .next s) ∧ (s.gstBusy a 256 0 = false →
      (s.errsIn a 256 = [] → i + 1 < s.walkLength cg.val → Completes s (.scrubStep cg [])
        { s with gst := { s.gst with scrubAt := SMap.set s.gst.scrubAt 0 cg.val (i + 1) } }) ∧
      (∀ w m, s.errsIn a 256 = [(w, m, false)] → popcount m < 4 → s.decoded (w, m, false) = .corr1 → ∃ t, exec (.scrubStep cg []) s = .next t ∧ SMap.get t.err 0 w = 0 ∧ t.mem = s.mem ∧
        t.get R.GST_SCRUBSTAT F.GST_SCRUBSTAT_FOUND = satAdd (s.get R.GST_SCRUBSTAT F.GST_SCRUBSTAT_FOUND) 1 (2 ^ 32 - 1) ∧
        t.get R.GST_ECCSTAT F.GST_ECCSTAT_CE1 = satAdd (s.get R.GST_ECCSTAT F.GST_ECCSTAT_CE1) 1 (2 ^ 32 - 1)) ∧
      (∀ w m, s.errsIn a 256 = [(w, m, false)] → s.decoded (w, m, false) = .ue → ∃ t, exec (.scrubStep cg []) s = .next t ∧
        SMap.get t.err 0 w = 1 ∧ t.word (8 * w) 8 = Nat.xor (s.word (8 * w) 8) (fieldOf m 14 64) ∧
        ∀ x, x / 8 ≠ w → t.byte x = s.byte x)))) ∧
  (∀ (s : State) (b : BitVec 25) (cg : Nat), cg = s.cgOf (b.toNat * 4096) →
    (∃ t, exec (.trackerWindowClose b) s = .next t ∧
      SMap.get t.gst.track [] cg = (SMap.get s.gst.track [] cg).filter (fun e => e.1 != b.toNat) ∧
      (∀ k, k ≠ cg → SMap.get t.gst.track [] k = SMap.get s.gst.track [] k) ∧
      { t with gst := { t.gst with track := s.gst.track } } = s) ∧
    (s.gst.copying.find? (fun e => e.1 == b.toNat) = none → exec (.remapCopyDone b []) s = .next s) ∧
    (∀ e, s.gst.copying.find? (fun e => e.1 == b.toNat) = some e → s.errsIn (b.toNat * 4096) 4096 = [] →
      exec (.remapCopyDone b []) s = .next ((State.wr { s with
          gst := { s.gst with copying := s.gst.copying.filter (fun c => c.1 != b.toNat) } }
        (R.GST_REMAP e.2) (b.toNat + 2 ^ 25)).event 41)) ∧
    (s.gstMapped (b.toNat * 4096) = true →
      (s.blockGone b.toNat = true → exec (.gstRetadd b true) s = .next s) ∧
      (s.blockGone b.toNat = false → ∀ e, s.freeSpare cg = some e → exec (.gstRetadd b true) s =
        .next { s with gst := { s.gst with copying := s.gst.copying ++ [(b.toNat, e)] } }) ∧
      (s.blockGone b.toNat = false → s.freeSpare cg = none → ∃ t, exec (.gstRetadd b true) s = .next t ∧
        t.reports = s.reports ++ [⟨FC.GST_SPAREOUT, UK.module, 0, 0, cg, b.toNat, s.now, false⟩] ∧ t.gaf = (s.event 41).gaf)) ∧
    (s.gstMapped (b.toNat * 4096) = false → ∀ go, exec (.gstRetadd b go) s = .next s))

/-- Two held entries of the lock table share no byte. -/
def LocksDisjoint (s : State) : Prop :=
  ∀ i j, i < 256 → j < 256 → i ≠ j → s.bit (R.GST_LOCKA i) F.GST_LOCKA_VALID = true → s.bit (R.GST_LOCKA j) F.GST_LOCKA_VALID = true →
    (s.lockRange i).1 + (s.lockRange i).2 ≤ (s.lockRange j).1 ∨ (s.lockRange j).1 + (s.lockRange j).2 ≤ (s.lockRange i).1

/-- R126 to R128: ACQUIRE of a free entry over an aligned range within a page that meets no held one gives the entry to the writer; RENEW
and RELEASE are the holder's; a force frees the entries of a tag; held ranges never come to overlap. -/
def Obligations.RegionLocksAreHeldByOneMasterAndNeverOverlap : Prop :=
  (∀ (s : State) (o : Origin) (i : Fin 256) (b : BitVec 31) (z : Fin 16) (d : BitVec 16) (n : Nat), n = 2 ^ (6 + z.val) →
    (s.bit (R.GST_LOCKA i.val) F.GST_LOCKA_VALID = false → b.toNat * 64 % n = 0 → b.toNat * 64 / 2 ^ 21 = (b.toNat * 64 + n - 1) / 2 ^ 21 →
      (∀ j ∈ s.locksHeld, b.toNat * 64 + n ≤ (s.lockRange j).1 ∨ (s.lockRange j).1 + (s.lockRange j).2 ≤ b.toNat * 64) →
      ∃ t, exec (.regionLockAcquire o i b z d) s = .next t ∧ t.holdsLock i.val o.toNat = true ∧ t.lockRange i.val = (b.toNat * 64, n) ∧
        t.get (R.GST_LOCKA i.val) F.GST_LOCKA_DEADLINE = d.toNat ∧ t.bit (R.GST_LOCKA i.val) F.GST_LOCKA_EXPIRED = false ∧
        Only [R.GST_LOCKA i.val, R.GST_LOCKB i.val] s t) ∧
    (s.bit (R.GST_LOCKA i.val) F.GST_LOCKA_VALID = true ∨ b.toNat * 64 % n ≠ 0 ∨
        (∃ j, j < 256 ∧ s.bit (R.GST_LOCKA j) F.GST_LOCKA_VALID = true ∧
          b.toNat * 64 < (s.lockRange j).1 + (s.lockRange j).2 ∧ (s.lockRange j).1 < b.toNat * 64 + n) →
      exec (.regionLockAcquire o i b z d) s = .next (s.bump R.GST_LOCKSTAT F.GST_LOCKSTAT_BADCMD 1)) ∧
    (s.holdsLock i.val o.toNat = true →
      (∃ t, exec (.regionLockRenew o i d) s = .next t ∧ t.get (R.GST_LOCKA i.val) F.GST_LOCKA_DEADLINE = d.toNat ∧
        t.bit (R.GST_LOCKA i.val) F.GST_LOCKA_EXPIRED = false ∧ t.holdsLock i.val o.toNat = true ∧
        t.lockRange i.val = s.lockRange i.val ∧ Only [R.GST_LOCKA i.val] s t) ∧
      (∃ t, exec (.regionLockRelease o i) s = .next t ∧ t.bit (R.GST_LOCKA i.val) F.GST_LOCKA_VALID = false ∧
        Only [R.GST_LOCKA i.val] s t)) ∧
    (s.holdsLock i.val o.toNat = false →
      exec (.regionLockRenew o i d) s = .next (s.bump R.GST_LOCKSTAT F.GST_LOCKSTAT_BADCMD 1) ∧
      exec (.regionLockRelease o i) s = .next (s.bump R.GST_LOCKSTAT F.GST_LOCKSTAT_BADCMD 1)) ∧
    (LocksDisjoint s → ∀ t,
      exec (.regionLockAcquire o i b z d) s = .next t ∨ exec (.regionLockRenew o i d) s = .next t ∨
        exec (.regionLockRelease o i) s = .next t → LocksDisjoint t)) ∧
  (∀ (s : State) (o m : BitVec 32), ∃ t, exec (.gstForce o m) s = .next t ∧
    (∀ i, i < 256 → s.bit (R.GST_LOCKA i) F.GST_LOCKA_VALID = true →
      (Nat.land (s.get (R.GST_LOCKB i) F.GST_LOCKB_HOLDER) m.toNat = Nat.land o.toNat m.toNat →
        t.bit (R.GST_LOCKA i) F.GST_LOCKA_VALID = false) ∧
      (Nat.land (s.get (R.GST_LOCKB i) F.GST_LOCKB_HOLDER) m.toNat ≠ Nat.land o.toNat m.toNat →
        t.rd (R.GST_LOCKA i) = s.rd (R.GST_LOCKA i))) ∧
    (∀ e ∈ t.gst.seqs, e ∈ s.gst.seqs ∧ Nat.land e.2.2.holder m.toNat ≠ Nat.land o.toNat m.toNat) ∧ t.mem = s.mem) ∧
  (∀ (s t : State) (o m : BitVec 32), LocksDisjoint s → exec (.gstForce o m) s = .next t → LocksDisjoint t)

/-- R151 to R153, R155: a checked master's access is granted exactly when every byte of it lies in a region of the gate's active bank, or of
its attached extensions, that grants its kind to a set of the master; before the first commit exactly the masters of the boot rule are. -/
def Obligations.GatesGrantWhatEveryByteIsGranted : Prop :=
  ∀ (s : State) (g a n kind o : Nat),
    (gateChecks o = false → (s.gateCheck g a n kind o).1 = true) ∧
    (gateChecks o = true → s.bit (R.GAT_GSTAT g) F.GAT_GSTAT_BOOT = true → ((s.gateCheck g a n kind o).1 = true ↔ s.bootGrants o = true)) ∧
    (gateChecks o = true → s.bit (R.GAT_GSTAT g) F.GAT_GSTAT_BOOT = false → ((s.gateCheck g a n kind o).1 = true ↔
      ∀ b, a ≤ b → b < a + n → ∃ r ∈ s.gateRegions true g, r.base ≤ b ∧ b < r.base + 2 ^ r.log2 ∧
        ∃ k, k < 16 ∧ bitOf r.perm (3 * k + kind) = true ∧
          Nat.land o (fieldOf (s.rdAct (R.GAT_MSET g k)) 32 32) =
            Nat.land (fieldOf (s.rdAct (R.GAT_MSET g k)) 0 32) (fieldOf (s.rdAct (R.GAT_MSET g k)) 32 32))) ∧
    (s.gateCheck g a n kind o).2.mem = s.mem ∧ (s.gateCheck g a n kind o).2.err = s.err ∧
    ((s.gateCheck g a n kind o).1 = false → ∃ r, (s.gateCheck g a n kind o).2.reports = s.reports ++ [r] ∧
      r.code = FC.GAT_VIOLATION ∧ r.origin = o ∧ r.detail = g ∧ r.addr = a)

/-! ### Clear path (R24, R32, R38, R42, R45 to R49, R224, R229, R230) -/

/-- R24, R38, R42, R45 to R49, R229, R230: a TLP that its port may take is admitted and linked with its charge, cut through, dropped or held;
holds retry and end at HOLD_TO; a port stages, sends and, on the acknowledgement, frees. -/
def Obligations.TlpsAreAdmittedHeldStagedSentAndFreed : Prop :=
  (∀ (s : State) (p q : Fin 256) (tl : Tlp) (cr : Bool) (pt Q : Nat), pt = s.portPt p.val → Q = coqOfPort q.val tl.cls.val →
    (s.pciePort p.val = false → ∀ e, exec (.tlpReceive p tl cr e) s = .next s) ∧
    (s.pciePort p.val = true → s.arrivesShut p.val pt tl = true → ∀ e,
      (tl.kind ≠ .cfg ∨ s.portHeld p.val = true → exec (.tlpReceive p tl cr e) s = .next (s.portCount p.val PC.DROPS 1)) ∧
      (tl.kind = .cfg → s.portHeld p.val = false → s.role p.val = ROLE.UPSTREAM → exec (.tlpReceive p tl cr e) s =
        .next (s.answer pt tl.rid tl.tag tl.cls .crs [] (s.origin pt noFn 0 0) .synthetic))) ∧
    (s.pciePort p.val = true → s.arrivesShut p.val pt tl = false → s.flt.stopped = false → tl.kind ≠ .cpl →
      (s.route p.val pt tl = .ur → nonPosted tl = false → ∀ k, k = (if s.role p.val = ROLE.UPSTREAM then upKey pt else dnKey pt p.val) →
        ∃ t, exec (.tlpReceive p tl cr none) s = .next t ∧ (t.bridge k).aerUnc = Nat.lor (s.bridge k).aerUnc (2 ^ 20) ∧ t.cru = s.cru) ∧
      (s.route p.val pt tl = .port q.val → s.portHeld q.val = false → s.bufferWaits p.val tl.cls.val = false →
        (s.admissible Q (gobsOf tl.len) = true →
          (s.mayCut p.val tl.cls.val Q cr = false → ∃ t x, exec (.tlpReceive p tl cr none) s = .next t ∧ t.coq Q = s.coq Q ++ [x] ∧
            x.body = .tlp (s.sentForm q.val pt tl) ∧ x.bytes = tl.len ∧ x.coq = Q ∧ x.inPort = p.val ∧ x.epoch = s.fwdEpoch ∧
            t.occ Q = s.occ Q + gobsOf tl.len) ∧
          (s.mayCut p.val tl.cls.val Q cr = true → ∃ t x, exec (.tlpReceive p tl cr none) s = .next t ∧ t.coq Q = s.coq Q ∧
            t.unacked q.val = s.unacked q.val ++ [x] ∧ x.body = .tlp (s.sentForm q.val pt tl) ∧ x.cutting = true ∧ t.occ Q = s.occ Q + gobsOf tl.len)) ∧
        (s.admissible Q (gobsOf tl.len) = false → nonPosted tl = false →
          (s.dropMode Q = true → ∃ t, exec (.tlpReceive p tl cr none) s = .next t ∧ t.coq Q = s.coq Q ∧ t.occ Q = s.occ Q ∧
            t.get (R.CRU_COQDROP Q) F.CRU_COQDROP_DROP_PKTS =
              satAdd (s.get (R.CRU_COQDROP Q) F.CRU_COQDROP_DROP_PKTS) 1 (2 ^ 32 - 1)) ∧
          (s.dropMode Q = false → ∃ t h, exec (.tlpReceive p tl cr none) s = .next t ∧ t.cru.holds = s.cru.holds ++ [h] ∧
            h.port = p.val ∧ h.cls = tl.cls.val ∧ h.pkt.coq = Q ∧ h.pkt.body = .tlp (s.sentForm q.val pt tl) ∧ h.refused = true ∧ t.coq Q = s.coq Q))))) ∧
  (∀ (s : State) (p : Fin 256) (c : Fin 8),
    (∀ h, s.headHold p.val c.val = some h →
      (s.waitersUpTo (.port p c) = [.port p c] → h.peer = none → s.destShut h.pkt h.pkt.coq h.pkt.pt = false → h.pkt.coq < 2056 →
        (s.admissible h.pkt.coq h.pkt.gobs = true → ∃ t x, exec (.admissionRetry (.port p c)) s = .next t ∧
          t.coq h.pkt.coq = s.coq h.pkt.coq ++ [x] ∧ x.id = h.pkt.id ∧ x.body = h.pkt.body ∧
          t.cru.holds = s.cru.holds.filter (fun x => x.pkt.id != h.pkt.id) ∧ t.occ h.pkt.coq = s.occ h.pkt.coq + h.pkt.gobs) ∧
        (s.admissible h.pkt.coq h.pkt.gobs = false → ∃ t, exec (.admissionRetry (.port p c)) s = .next t ∧
          (s.dropMode h.pkt.coq = false → t.cru.coqs = s.cru.coqs ∧ t.cru.occ = s.cru.occ ∧ t.cru.holds = (if h.refused then s.cru.holds
            else s.cru.holds.map (fun x => if x.pkt.id = h.pkt.id then { h with refused := true, since := s.now } else x))) ∧
          (s.dropMode h.pkt.coq = true → t.cru.holds = s.cru.holds.filter (fun x => x.pkt.id != h.pkt.id)))) ∧
      (s.get R.CRU_HOLDTO F.CRU_HOLDTO_HOLD_TO ≠ 0 → h.refused = true → (∀ tl, h.pkt.body = .tlp tl → nonPosted tl = false) →
        ∃ t, exec (.holdTimeout p c) s = .next t ∧ t.cru.holds = s.cru.holds.filter (fun x => x.pkt.id != h.pkt.id) ∧
          t.reports = s.reports ++ [⟨FC.HOLD_TIMEOUT, UK.port, p.val, h.pkt.origin, h.pkt.coq, 0, s.now, false⟩] ∧
          t.cru.occ = s.cru.occ)) ∧
    (s.get R.CRU_HOLDTO F.CRU_HOLDTO_HOLD_TO = 0 → exec (.holdTimeout p c) s = .next s) ∧
    (s.get R.CRU_HOLDTO F.CRU_HOLDTO_HOLD_TO ≠ 0 →
      (∀ h, s.headHold p.val c.val = some h → h.refused = true → exec (.holdTimeout p c) s = .next (s.timeoutHold h)) ∧
      (s.headHold p.val c.val = none → ∀ t, s.headTrain p.val c.val = some t → exec (.holdTimeout p c) s = .next (s.trainTimeout t))) ∧
    (∀ x, s.cru.epHeld.find? (fun x => x.coq % 8 == c.val) = some x → s.waitersUpTo (.endpoint c) = [.endpoint c] → s.admissible x.coq x.gobs = true →
      ∃ t y, exec (.admissionRetry (.endpoint c)) s = .next t ∧ t.coq x.coq = s.coq x.coq ++ [y] ∧ y.body = x.body ∧
        t.cru.epHeld = s.cru.epHeld.filter (fun y => y.id != x.id))) ∧
  (∀ (s : State) (p : Fin 256) (c : Fin 8) (isIt : Pkt → Bool), isIt = (fun x => x.cutting && x.inPort == p.val && x.inCls == c.val) →
    (s.cru.unacked.find? (fun e => e.2.any isIt) = none → exec (.cutThroughAbort p c) s = .next s) ∧
    (∀ e x, s.cru.unacked.find? (fun e => e.2.any isIt) = some e → e.2.find? isIt = some x →
      ∃ t, exec (.cutThroughAbort p c) s = .next t ∧ t.unacked e.1 = e.2.filter (fun y => y.id != x.id) ∧
        t.out = .nullified e.1 x.id :: s.out ∧ t.occ x.coq = s.occ x.coq - x.gobs)) ∧
  (∀ (s : State) (p : Fin 257) (room : BitVec 8) (c : Nat) (x : Pkt) (rest : List Pkt),
    s.leavesPcie p.val x = true → s.tileGated p.val = false →
    c < 8 → s.coq (coqOfPort p.val c) = x :: rest → bitOf room.toNat c = true →
    (∀ d, d < 8 → d ≠ c → s.coq (coqOfPort p.val d) = [] ∨ bitOf room.toNat d = false) →
    ∃ t, exec (.egressStage p room) s = .next t ∧ t.coq (coqOfPort p.val c) = rest ∧ t.staged p.val c = s.staged p.val c ++ [x] ∧
      SMap.get t.cru.lastStage 0 p.val = c + 1 ∧ t.regs = s.regs ∧ t.mem = s.mem) ∧
  (∀ (s : State) (p : Fin 257) (c : Nat) (x : Pkt) (tl : Tlp),
    (p.val < 256 → s.bit (R.PRT_STATUS p.val) F.PRT_STATUS_LINK_UP = true) → s.leavesPcie p.val x = true → s.tileGated p.val = false → c < 8 → s.staged p.val c = [x] → x.body = .tlp tl →
    x.role = .clear → (∀ d, d < 8 → d ≠ c → s.staged p.val d = []) →
    (s.strict p.val c = true ∨ 0 < SMap.get s.cru.deficit 0 (8 * p.val + c)) →
    s.getBank (x.epoch == s.fwdEpoch) (R.CRU_MIRPORT p.val) F.CRU_MIRPORT_EGR_EN = 0 →
    ∃ t, exec (.egressTransmit p [] []) s = .next t ∧ t.staged p.val c = [] ∧ t.unacked p.val = s.unacked p.val ++ [x] ∧
      t.out = (if p.val = 256 then Out.toEndpoint { tl with data := s.pktData x tl.data } x.origin
        else Out.tlp p.val { tl with data := s.pktData x tl.data }) :: s.out ∧ t.mem = s.mem) ∧
  (∀ (s : State) (p : Fin 257),
    (s.unacked p.val = [] → exec (.linkAck p) s = .next s) ∧
    (∀ x rest, s.unacked p.val = x :: rest → x.cutting = false → x.role = .clear → ∃ t, exec (.linkAck p) s = .next t ∧
      t.unacked p.val = rest ∧ t.occ x.coq = s.occ x.coq - x.gobs ∧ t.cru.recs = s.cru.recs - 1 ∧
      (∀ k, SMap.get t.cru.refs 0 k = SMap.get s.cru.refs 0 k - x.cells.count k) ∧ t.cru.coqs = s.cru.coqs ∧ t.mem = s.mem))

/-! ### Fabric transport (R304 to R323) -/

/-- The first word of a PROBE: the sender's next number, and the member it takes over (R312, R320). -/
def probeWord (h : List Byte) : Nat := leValue (((parPayload h).take 8).map (·.toNat))

/-- R306 to R315: a packet for a remote queue leaves as a numbered parison train with a pending record; an arrived PACKET is enqueued and
reported, reports end the records they cover, REPL writes through its gate, and PROBE shows what was lost. -/
def Obligations.FabricPacketsReportsAndProbes : Prop :=
  (∀ (s : State) (d f p q : Nat) (x : Delivery) (bs : List Byte), s.del d = some x → x.phase = .reading → s.flt.stopped = false →
    s.goesRemote x.pkt = true → (s.que.dels.takeWhile (fun y => y.id != d)).any (fun y => y.q == x.q && s.goesRemote y.pkt) = false →
    s.bit R.FTX_CTL F.FTX_CTL_ENABLE = true → s.overTarget (x.pkt.dq / 65536 % 16) 17 = some f → f ≠ s.fid →
    (s.isMember f = false → exec (.fabricSend d []) s = .next (s.fabricDrop x ST.DEST_UNKNOWN)) ∧
    (s.isMember f = true → s.memberState f = MS.LOST → exec (.fabricSend d []) s = .next (s.fabricDrop x ST.LINK_DOWN)) ∧
    (s.isMember f = true → s.memberState f = MS.WAITING → exec (.fabricSend d []) s = .next s) ∧
    (s.isMember f = true → s.memberState f = MS.UP → s.fab.recs.length < 131072 →
      ∀ u, s.gobTurn (s.gobRanges x.pkt.gobs x.pkt.len) = some u → s.routePort f = some p → q = coqOfPort p (s.qTc x.q) → s.admissible q (gobsOf (32 + x.pkt.len)) = true → s.gst.repl = [] →
      (∀ g ∈ x.pkt.gobs, s.gstMapped (s.gobAddr g) = true) → bs = (u.readChain (s.qOrigin x.q 2) x.pkt.gobs x.pkt.len).1 →
      (u.readChain (s.qOrigin x.q 2) x.pkt.gobs x.pkt.len).2.1 = true → bs.length = x.pkt.len →
      ∃ t y, exec (.fabricSend d []) s = .next t ∧
        t.fab.recs = s.fab.recs ++ [⟨f, s.txSeq f, x.pkt, x.pnode, x.charge, s.cru.nextPkt⟩] ∧
        t.txSeq f = (s.txSeq f + 1) % 2 ^ 32 ∧ t.del d = none ∧ t.coq q = s.coq q ++ [y] ∧
        y.body = .par (s.parison PK.PACKET f (s.txSeq f) (x.pkt.src % 65536) (x.pkt.dq % 65536) x.pkt.colour x.pkt.mdat x.pkt.origin
          bs))) ∧
  (∀ (s : State) (d : Nat), s.del d = none → exec (.fabricSend d []) s = .next s) ∧
  (∀ (s v : State) (c : Fin 8) (x : Pkt) (h : List Byte) (f : Nat), h = s.cellData x.cells x.bytes → v = s.queueReads 256 s.now x.cells →
    (s.arrived c.val PK.PACKET = some x → f = parSrc x.data →
      (s.pbufFree < gobsOf (parLen x.data) → exec (.parisonPacket c []) s = .next s) ∧
      (gobsOf (parLen x.data) ≤ s.pbufFree → s.flt.stopped = false →
        ∀ u, s.gobTurn (s.gobRanges (s.pbufTake (gobsOf (parLen x.data))).1 (parLen x.data)) = some u →
        (enqStatus (s.shownState (parDstQ h)) = none → ∃ t p, exec (.parisonPacket c []) s = .next t ∧
          SMap.get t.fab.reports [] f = SMap.get s.fab.reports [] f ++ [(parSeq x.data, ST.OK, 0)] ∧
          t.linked (parDstQ h) = s.linked (parDstQ h) ++ [p] ∧ p.len = parLen h ∧ p.mdat = parMeta h ∧ p.colour = parColour h ∧
          p.origin = parOrigin h ∧ p.remote = true ∧ t.coq (coqEndpoint c.val) = (s.coq (coqEndpoint c.val)).tail) ∧
        (∀ st, enqStatus (s.shownState (parDstQ h)) = some st → ∃ t, exec (.parisonPacket c []) s = .next t ∧
          SMap.get t.fab.reports [] f = SMap.get s.fab.reports [] f ++ [(parSeq x.data, st, 0)] ∧
          t.linked (parDstQ h) = s.linked (parDstQ h) ∧ t.coq (coqEndpoint c.val) = (s.coq (coqEndpoint c.val)).tail))) ∧
    (s.arrived c.val PK.REPORT = some x → (parPayload h).length = 8 →
      exec (.parisonReport c []) s =
        .next ((v.takeArrived c.val x).applyReport (parSrc h) (leValue ((parPayload h).map (·.toNat))))) ∧
    (s.arrived c.val PK.REPL = some x → ∀ tag, tag = mkOrigin (oFid (parOrigin h)) (oPt (parOrigin h)) (oFn (parOrigin h)) 7 0 →
      (∀ u, v.gstAccess tag 0 (parMeta h % 2 ^ 37) (.write (parPayload h)) = (.done, u) →
        exec (.parisonRepl c []) s = .next (u.takeArrived c.val x)) ∧
      (∀ u, v.gstAccess tag 0 (parMeta h % 2 ^ 37) (.write (parPayload h)) = (.wait, u) →
        exec (.parisonRepl c []) s = .next { s with gst := { s.gst with bound := u.gst.bound } }) ∧
      (∀ u, v.gstAccess tag 0 (parMeta h % 2 ^ 37) (.write (parPayload h)) = (.denied, u) →
        exec (.parisonRepl c []) s = .next ((u.takeArrived c.val x).bump R.FTX_RPTCNT F.FTX_RPTCNT_REPL_DROP 1))) ∧
    (s.arrived c.val PK.PROBE = some x → f = parSrc h → s.get (R.FTX_FIDSTAT f) F.FTX_FIDSTAT_GEN_RX = parGen h →
      ∀ n e k, n = fieldOf (probeWord h) 0 32 → e = s.get (R.FTX_FIDSEQ f) F.FTX_FIDSEQ_RX_EXPECT → k = (n + 2 ^ 32 - e) % 2 ^ 32 →
      (k ≠ 0 → k < 2 ^ 31 → bitOf (probeWord h) 36 = false → ∃ t, exec (.parisonProbe c []) s = .next t ∧
        t.get (R.FTX_FIDSEQ f) F.FTX_FIDSEQ_RX_EXPECT = n ∧
        SMap.get t.fab.reports [] f = SMap.get s.fab.reports [] f ++ gapEntries (k / 65536 + 1) e k ∧
        t.coq (coqEndpoint c.val) = (s.coq (coqEndpoint c.val)).tail) ∧
      (k = 0 → bitOf (probeWord h) 36 = true → ∀ a, a = fieldOf (probeWord h) 32 4 → s.bitAct (R.FTX_FIDMAP a) F.FTX_FIDMAP_ALT_EN = true →
        s.getAct (R.FTX_FIDMAP a) F.FTX_FIDMAP_ALT_FID = f → exec (.parisonProbe c []) s = .next ((v.takeArrived c.val x).setOver a)))) ∧
  (∀ (s : State) (f w : Nat), ∀ r ∈ (s.applyReport f w).fab.recs, r ∈ s.fab.recs ∧
    ¬ (r.dst = f ∧ (r.seq + 2 ^ 32 - fieldOf w 0 32) % 2 ^ 32 ≤ fieldOf w 40 16)) ∧
  (∀ (s : State) (f : Fin 16) (p q : Nat) (es : List (Nat × Nat × Nat)), s.routePort f.val = some p → q = coqOfPort p ctlPri →
    (es = SMap.get s.fab.reports [] f.val → es ≠ [] → s.flt.stopped = false → s.bit R.FTX_CTL F.FTX_CTL_ENABLE = true → s.admissible q (gobsOf (32 + 8 * min 28 es.length)) = true →
      ∃ t y, exec (.reportSend f) s = .next t ∧ SMap.get t.fab.reports [] f.val = es.drop 28 ∧ t.coq q = s.coq q ++ [y] ∧
        y.body = .par (s.parison PK.REPORT f.val 0 0 0 0 0 0
          ((es.take 28).flatMap (fun e => leBytes (e.1 % 2 ^ 32 + e.2.1 % 2 ^ 8 * 2 ^ 32 + e.2.2 % 2 ^ 16 * 2 ^ 40) 8)))) ∧
    (s.cru.epHeld = [] → s.admissible q 1 = true → ∃ y, (s.sendProbe f.val none).coq q = s.coq q ++ [y] ∧
      y.body = .par (s.parison PK.PROBE f.val 0 0 0 0 0 0 (leBytes (s.txSeq f.val) 8)))) ∧
  (∀ s : State,
    (s.bit R.FTX_CTL F.FTX_CTL_ENABLE = false ∨ s.flt.stopped = true → exec .probeSend s = .next s) ∧
    (s.bit R.FTX_CTL F.FTX_CTL_ENABLE = true → s.flt.stopped = false → s.gst.repl = [] →
      exec .probeSend s = .next (s.sendProbes s.fab.taking)))

/-- R306, R315, R318 to R320, R323: a silent member is LOST and its records end; FTX_CMD puts maps and routes in force, waits for a route
change, takes over and restores; a rise of ENABLE starts a new generation. -/
def Obligations.FabricMembersRoutesAndTakeover : Prop :=
  (∀ (s : State) (f : Fin 16),
    (s.memberState f.val ≠ MS.UP → exec (.fabMemberLost f) s = .next s) ∧
    (s.memberState f.val = MS.UP → ∃ u, exec (.fabMemberLost f) s = .next (u.downRecords (fun r => r.dst == f.val)) ∧
      u.memberState f.val = MS.LOST ∧ u.memberOver f.val = (s.memberOver f.val ||
        (s.bit R.FTX_CTL F.FTX_CTL_AUTO_OVER && s.bitAct (R.FTX_FIDMAP f.val) F.FTX_FIDMAP_ALT_EN)) ∧
      u.reports = s.reports ++ [⟨FC.FAB_MEMBER_LOST, UK.fabric, f.val, 0, 0, 0, s.now, false⟩] ∧
      Only [R.FTX_FIDSTAT f.val] { s with reports := u.reports } u) ∧
    (∀ n : BitVec 32, exec (.pendTimeout f n) s = .next (s.downRecords (fun r => r.dst == f.val && r.seq == n.toNat)))) ∧
  (∀ (s : State) (p : PendRec → Bool), (∀ r ∈ (s.downRecords p).fab.recs, r ∈ s.fab.recs ∧ p r = false) ∧
    ((∀ r ∈ s.fab.recs, p r = false) → s.downRecords p = s)) ∧
  (∀ (s : State) (f : Fin 16) (new old : Nat × Nat), new = fqRange (s.rd (R.FTX_FIDMAP f.val)) → old = fqRange (s.rdAct (R.FTX_FIDMAP f.val)) →
    (65536 < new.1 + new.2 → exec (.ftxApply f) s = .next (s.setBit R.FTX_STATUS F.FTX_STATUS_BADCMD)) ∧
    (new.1 + new.2 ≤ 65536 → s.bitAct (R.FTX_FIDMAP f.val) F.FTX_FIDMAP_MEMBER = false → ∃ t, exec (.ftxApply f) s = .next t ∧
      t.rdAct (R.FTX_FIDMAP f.val) = s.rd (R.FTX_FIDMAP f.val) % 2 ^ 64 ∧
      t.memberState f.val = (if f.val ≠ s.fid ∧ s.bit (R.FTX_FIDMAP f.val) F.FTX_FIDMAP_MEMBER = true then MS.WAITING else MS.ABSENT) ∧
      (s.trainStands f.val = false → t.rdAct (R.FTX_ROUTE f.val) = s.rd (R.FTX_ROUTE f.val) % 2 ^ 64 ∧ t.fab = s.fab) ∧
      (s.trainStands f.val = true → t.rdAct (R.FTX_ROUTE f.val) = s.rdAct (R.FTX_ROUTE f.val) ∧
        t.fab.changes = s.fab.changes ++ [(f.val, true)] ∧ t.bit R.FTX_STATUS F.FTX_STATUS_CMD_BUSY = true) ∧
      t.mem = s.mem) ∧
    (s.trainStands f.val = false → exec (.ftxRehome f) s =
      .next ((s.put (R.FTX_FIDSTAT f.val) F.FTX_FIDSTAT_ACTIVE 0).refreshRoute f.val)) ∧
    (s.trainStands f.val = true → (∃ t, exec (.ftxRehome f) s = .next t ∧ t.fab.changes = s.fab.changes ++ [(f.val, false)] ∧
        t.bit R.FTX_STATUS F.FTX_STATUS_CMD_BUSY = true ∧ Only [R.FTX_STATUS] { s with fab := t.fab } t) ∧
      exec (.routeChangeEffect f) s = .next s) ∧
    (s.trainStands f.val = false → s.fab.changes = [(f.val, true)] → ∃ t, exec (.routeChangeEffect f) s = .next t ∧
      t.fab.changes = [] ∧ t.bit R.FTX_STATUS F.FTX_STATUS_CMD_BUSY = false ∧
      t.rdAct (R.FTX_ROUTE f.val) = s.rd (R.FTX_ROUTE f.val) % 2 ^ 64) ∧
    (s.fab.taking.contains f.val = false → exec (.fabricTakeover f) s =
      .next (State.sendProbes { s with fab := { s.fab with taking := s.fab.taking ++ [f.val] } } [f.val])) ∧
    (s.fab.taking.contains f.val = true → exec (.fabricTakeover f) s = .next (s.sendProbes [f.val])) ∧
    (∃ t, exec (.fabricRestore f) s = .next t ∧ t.memberOver f.val = false ∧ t.fab.taking = s.fab.taking.filter (· != f.val) ∧
      Only [R.FTX_FIDSTAT f.val] { s with fab := t.fab } t)) ∧
  (∀ s : State,
    (s.bit R.FTX_CTL F.FTX_CTL_ENABLE = true → exec .ftxEnable s = .next s) ∧
    (s.bit R.FTX_CTL F.FTX_CTL_ENABLE = false → ∃ t, exec .ftxEnable s = .next t ∧ t.bit R.FTX_CTL F.FTX_CTL_ENABLE = true ∧
      t.get R.FTX_GEN F.FTX_GEN_GEN = s.get R.FTX_GEN F.FTX_GEN_GEN / 16 * 16 + (s.get R.FTX_GEN F.FTX_GEN_GEN + 1) % 16 ∧
      (∀ f, f < 16 → t.txSeq f = 0 ∧ (s.isMember f = true → t.memberState f = MS.WAITING) ∧
        (s.isMember f = false → t.memberState f = s.memberState f)) ∧
      Only (R.FTX_CTL :: R.FTX_GEN :: (List.range 16).map R.FTX_FIDSEQ ++ (List.range 16).map R.FTX_FIDSTAT) s t))

/-! ### Faults (R357 to R371) and leases (R30) -/

/-- R30, R236, R238, R357 to R371: each of these commands answers a next state, and which one. FAULT_RECORD: with nothing reported nothing;
else the first report opens a record, merges or is counted as lost, and a device-fatal one stops the module. UNIT_HOLD: from every state, the
unit of a record that is reacting is held and the record says so. FATAL_RESET and FLT RESET: the warm reset of a fatal record, or BADCMD.
FLT CLEAR: a closed record is BADCMD, a live cause re-latches it, else it is cleared and its unit lifted. FLT LIFT, FLT HOLD, FLT FATAL and a
write of FLT_CODECFG: lift, report, or refuse. DPC_CLEAR: from every state. LEASE_EXPIRED: the lease of a region, queue, mailbox, line or slot
is marked expired and stays held. -/
def Obligations.FaultsAreRecordedHeldClearedAndLifted : Prop :=
  (∀ s : State, s.reports = [] → exec .faultRecord s = .next s) ∧
  (∀ (s : State) (x : Report), firstReport s.reports = some x →
    exec .faultRecord s = .next (State.place { s with reports := s.reports.erase x } x)) ∧
  (∀ (s : State) (x : Report) (cls : Nat), firstReport s.reports = some x → x.code < 64 → cls = s.classOf x →
    (∀ r rs, s.recOf x.kind x.index = none → s.freeRecs = r :: rs → cls ≠ 3 →
      ((cls = 2 ∨ (min 62 (s.get R.FLT_CTL F.FLT_CTL_RESV) < rs.length + 1 ∧ s.bit (R.FLT_CODECFG x.code) F.FLT_CODECFG_MUTE = false)) →
        ∃ t, exec .faultRecord s = .next t ∧ t.reports = s.reports.erase x ∧
          t.rd (R.FLT_RECA r) = (x.code + cls * 2 ^ 6 + 2 ^ 8 + x.kind % 16 * 2 ^ 12 + x.index % 2 ^ 16 * 2 ^ 16 + 2 ^ 32) % 2 ^ 64 ∧
          t.rd (R.FLT_RECB r) = 2 ^ x.code ∧ t.rd (R.FLT_RECC r) = s.beats % 2 ^ 32 ∧
          t.rd (R.FLT_RECD r) = x.origin % 2 ^ 32 + x.detail % 2 ^ 16 * 2 ^ 32 ∧ t.rd (R.FLT_RECE r) = x.addr % 2 ^ 48 ∧
          (∀ k, k < 64 → k ≠ r → t.rd (R.FLT_RECA k) = s.rd (R.FLT_RECA k)) ∧ t.mem = s.mem ∧
          (cls = 2 → holdable (x.kind % 16) = true → (∀ e ∈ s.flt.reacting, e.1 ≠ r) → t.flt.reacting = s.flt.reacting ++ [(r, x.code)])) ∧
      (cls = 1 → (rs.length + 1 ≤ min 62 (s.get R.FLT_CTL F.FLT_CTL_RESV) ∨ s.bit (R.FLT_CODECFG x.code) F.FLT_CODECFG_MUTE = true) →
        ∃ t, exec .faultRecord s = .next t ∧
          t.get R.FLT_CNT F.FLT_CNT_CE_LOST = satAdd (s.get R.FLT_CNT F.FLT_CNT_CE_LOST) 1 (2 ^ 32 - 1) ∧
          (∀ k, k < 64 → t.rd (R.FLT_RECA k) = s.rd (R.FLT_RECA k)) ∧ t.flt = s.flt)) ∧
    (s.recOf x.kind x.index = none → s.freeRecs = [] → cls = 1 → ∃ t, exec .faultRecord s = .next t ∧
      t.get R.FLT_CNT F.FLT_CNT_CE_LOST = satAdd (s.get R.FLT_CNT F.FLT_CNT_CE_LOST) 1 (2 ^ 32 - 1) ∧ t.flt = s.flt) ∧
    (∀ r, s.recOf x.kind x.index = some r → cls ≠ 3 → ∃ t, exec .faultRecord s = .next t ∧
      t.get (R.FLT_RECA r) F.FLT_RECA_COUNT = satAdd (s.get (R.FLT_RECA r) F.FLT_RECA_COUNT) 1 (2 ^ 16 - 1) ∧
      t.get (R.FLT_RECA r) F.FLT_RECA_CLASS = max cls (s.get (R.FLT_RECA r) F.FLT_RECA_CLASS) % 4 ∧
      bitOf (t.rd (R.FLT_RECB r)) x.code = true ∧ t.get (R.FLT_RECC r) F.FLT_RECC_LAST = s.beats % 2 ^ 32 ∧
      t.recOpen r = true ∧ (∀ k, k < 64 → k ≠ r → t.rd (R.FLT_RECA k) = s.rd (R.FLT_RECA k))) ∧
    (cls = 3 → (s.flt.stopped = true ∨ ∀ p, p < 256 → s.role p = ROLE.DISABLED) → ∃ t, exec .faultRecord s = .next t ∧
      t.recOpen 0 = true ∧ bitOf (t.rd (R.FLT_RECB 0)) x.code = true ∧ t.flt.stopped = true)) ∧
  (∀ (s : State) (r : Fin 64), s.flt.reacting.find? (fun e => e.1 == r.val) = none → exec (.unitHold r) s = .next s) ∧
  (∀ (s u : State) (r : Fin 64) (code k : Nat), s.flt.reacting.find? (fun e => e.1 == r.val) = some (k, code) →
    u = State.put (State.holdUnit { s with flt := { s.flt with reacting := s.flt.reacting.filter (fun e => e.1 != r.val) } }
      (s.recKind r.val) (s.recIndex r.val) code) (R.FLT_RECA r.val) F.FLT_RECA_HELD 1 →
    ∃ t, exec (.unitHold r) s = .next t ∧ t = u.revokeIf (u.recKind r.val) (u.recIndex r.val) code ∧
      (code < 64 → u.bit (R.FLT_CODECFG code) F.FLT_CODECFG_REVOKE = false → t.bit (R.FLT_RECA r.val) F.FLT_RECA_HELD = true)) ∧
  (∀ (s : State) (r : Fin 64) (p code k : Nat), s.flt.reacting.find? (fun e => e.1 == r.val) = some (k, code) →
    s.recKind r.val = UK.port → s.recIndex r.val = p → p < 256 → s.portHeld p = false → s.caneMode p = false → s.noTraffic →
    bitOf (SMap.get (s.bridge (s.portBridge p)).raw 0 0x154) 19 = false →
    ∃ t, exec (.unitHold r) s = .next t ∧ t.portHeld p = true ∧ t.get (R.PRT_STATUS p) F.PRT_STATUS_HOLD_SRC = holdSrc code ∧
      t.bit (R.FLT_RECA r.val) F.FLT_RECA_HELD = true ∧ t.flt.reacting = s.flt.reacting.filter (fun e => e.1 != r.val) ∧
      Out.link p LK.DISABLED ∈ t.out ∧ (s.role p = ROLE.DOWNSTREAM → (t.bridge (s.portBridge p)).dpcTrig = true)) ∧
  (∀ s : State,
    (s.flt.stopped = true → (s.widened = true ∨ s.bit R.FLT_CTL F.FLT_CTL_FATAL_WAIT = false) →
      exec .fatalReset s = .next (s.warmSource RC.FATAL)) ∧
    (s.flt.stopped = false ∨ s.widened = false ∧ s.bit R.FLT_CTL F.FLT_CTL_FATAL_WAIT = true →
      exec .fatalReset s = .next s) ∧
    (s.recOpen 0 = false → exec .fltReset s = .next (s.setBit R.FLT_STATUS F.FLT_STATUS_BADCMD)) ∧
    (s.recOpen 0 = true → s.bit R.FLT_CTL F.FLT_CTL_FATAL_WAIT = true → exec .fltReset s = .next (s.warmSource RC.FATAL))) ∧
  (∀ (s : State) (r : Fin 64),
    (s.recOpen r.val = false → exec (.fltClear r) s = .next (s.setBit R.FLT_STATUS F.FLT_STATUS_BADCMD)) ∧
    (s.recOpen r.val = true → (s.recActive r.val = true ∨ 1 < s.get (R.FLT_RECA r.val) F.FLT_RECA_COUNT ∧
        s.get (R.FLT_RECC r.val) F.FLT_RECC_LAST = s.beats % 2 ^ 32) → ∃ t, exec (.fltClear r) s = .next t ∧ t.recOpen r.val = true ∧
      t.get (R.FLT_RECA r.val) F.FLT_RECA_RELATCH = satAdd (s.get (R.FLT_RECA r.val) F.FLT_RECA_RELATCH) 1 (2 ^ 8 - 1) ∧
      t.get R.FLT_CNT F.FLT_CNT_RELATCH = satAdd (s.get R.FLT_CNT F.FLT_CNT_RELATCH) 1 (2 ^ 16 - 1) ∧
      Only [R.FLT_RECA r.val, R.FLT_CNT] s t) ∧
    (s.recOpen r.val = true → s.recActive r.val = false → (s.get (R.FLT_RECA r.val) F.FLT_RECA_COUNT ≤ 1 ∨
        s.get (R.FLT_RECC r.val) F.FLT_RECC_LAST ≠ s.beats % 2 ^ 32) →
      ∃ u, u.recOpen r.val = false ∧ u.bit (R.FLT_RECA r.val) F.FLT_RECA_HELD = false ∧ Only [R.FLT_RECA r.val] s u ∧
        (s.bit (R.FLT_RECA r.val) F.FLT_RECA_HELD = false → exec (.fltClear r) s = .next u) ∧
        (s.bit (R.FLT_RECA r.val) F.FLT_RECA_HELD = true → exec (.fltClear r) s = .next (State.liftUnit
          { u with flt := { u.flt with norec := u.flt.norec.filter (fun e => !(e.1 == s.recKind r.val && e.2.1 == s.recIndex r.val)) } }
          (s.recKind r.val) (s.recIndex r.val))))) ∧
  (∀ (s : State) (k : BitVec 4) (i : BitVec 16) (o : Origin) (find : Option (Nat × Nat × Nat)),
    find = s.flt.norec.find? (fun e => e.1 == k.toNat && e.2.1 == i.toNat) →
    (find = none → exec (.fltLift k i) s = .next (s.setBit R.FLT_STATUS F.FLT_STATUS_BADCMD)) ∧
    (∀ e, find = some e → s.recOf k.toNat i.toNat = none → s.causeLives e.2.2 k.toNat i.toNat = false →
      exec (.fltLift k i) s = .next (State.liftUnit
        { s with flt := { s.flt with norec := s.flt.norec.filter (fun e => !(e.1 == k.toNat && e.2.1 == i.toNat)) } } k.toNat i.toNat)) ∧
    (i.toNat < unitCount k.toNat → exec (.fltHold o k i) s = .next (s.report FC.FW_HOLD k.toNat i.toNat o.toNat 0 0)) ∧
    (unitCount k.toNat ≤ i.toNat → exec (.fltHold o k i) s = .next (s.setBit R.FLT_STATUS F.FLT_STATUS_BADCMD)) ∧
    exec (.fltFatal o) s = .next (s.report FC.FW_FATAL UK.module 0 o.toNat 0 0)) ∧
  (∀ (s : State) (c : Fin 64) (v : BitVec 64),
    (v.toNat % 4 ≠ 0 → v.toNat % 4 < lowClass c.val → exec (.fltCodecfgWrite c v) s = .next (s.setBit R.FLT_STATUS F.FLT_STATUS_CFG_REFUSED)) ∧
    (v.toNat % 4 = 2 → lowClass c.val < 2 → canHold c.val = false →
      exec (.fltCodecfgWrite c v) s = .next (s.setBit R.FLT_STATUS F.FLT_STATUS_CFG_REFUSED)) ∧
    ((v.toNat % 4 = 0 ∨ (lowClass c.val ≤ v.toNat % 4 ∧ (v.toNat % 4 = 2 → lowClass c.val < 2 → canHold c.val = true))) →
      ∃ t, exec (.fltCodecfgWrite c v) s = .next t ∧ t.rd (R.FLT_CODECFG c.val) = v.toNat % 32 ∧ Only [R.FLT_CODECFG c.val] s t)) ∧
  (∀ (s u : State) (p : Fin 256), u = s.setBridge (s.portBridge p.val) { s.bridge (s.portBridge p.val) with dpcTrig := false } →
    (s.bit (R.PRT_CTL p.val) F.PRT_CTL_HOST_LIFT = false ∨ s.portHeld p.val = false ∨
        (s.get (R.PRT_STATUS p.val) F.PRT_STATUS_HOLD_SRC ≠ 1 ∧ s.get (R.PRT_STATUS p.val) F.PRT_STATUS_HOLD_SRC ≠ 2) → exec (.dpcClear p) s = .next u) ∧
    (s.bit (R.PRT_CTL p.val) F.PRT_CTL_HOST_LIFT = true → s.portHeld p.val = true →
      (s.get (R.PRT_STATUS p.val) F.PRT_STATUS_HOLD_SRC = 1 ∨ s.get (R.PRT_STATUS p.val) F.PRT_STATUS_HOLD_SRC = 2) →
      (∀ r, s.recOf UK.port p.val = some r →
        ((u.clearRec r).portHeld p.val = false → exec (.dpcClear p) s = .next (u.clearRec r)) ∧
        ((u.clearRec r).portHeld p.val = true → ∃ t, exec (.dpcClear p) s = .next t ∧ t.regs = (u.clearRec r).regs ∧
          (t.bridge (s.portBridge p.val)).dpcTrig = true)) ∧
      (s.recOf UK.port p.val = none → exec (.dpcClear p) s = .next ((u.liftNorec UK.port p.val).getD u)))) ∧
  (∀ s : State,
    (∀ (i : Fin 256), s.bit (R.GST_LOCKA i.val) F.GST_LOCKA_VALID = true → s.bit (R.GST_LOCKA i.val) F.GST_LOCKA_EXPIRED = false →
      ∃ t, exec (.leaseExpired (.region i)) s = .next t ∧ t.bit (R.GST_LOCKA i.val) F.GST_LOCKA_EXPIRED = true ∧
        t.bit (R.GST_LOCKA i.val) F.GST_LOCKA_VALID = true ∧ t.rd (R.GST_LOCKB i.val) = s.rd (R.GST_LOCKB i.val) ∧
        t.gaf = (s.event 35).gaf ∧ t.reports = (s.reportMaster FC.LEASE_EXPIRED (s.rd (R.GST_LOCKB i.val) % 2 ^ 32) 2 i.val).reports) ∧
    (∀ (i : Fin 256), s.bit (R.GST_LOCKA i.val) F.GST_LOCKA_VALID = false → exec (.leaseExpired (.region i)) s = .next s) ∧
    (∀ q x, SMap.get s.que.locks none q = some x → x.expired = false → ∀ f : Fin 65536, f.val = q →
      ∃ t, exec (.leaseExpired (.queue f)) s = .next t ∧ SMap.get t.que.locks none q = some { x with expired := true } ∧
        t.gaf = (s.event 35).gaf ∧ t.reports = (s.reportMaster FC.LEASE_EXPIRED x.holder 1 q).reports) ∧
    (∀ (m : Fin 512) (host : Bool) (x : Lease), s.claimOf (mbxFrame m.val host) = some x → x.expired = false →
      ∃ t, exec (.leaseExpired (.mailbox m host)) s = .next t ∧ t.claimOf (mbxFrame m.val host) = some { x with expired := true } ∧
        t.bit (R.MBX_ESTAT (mbxFrame m.val host)) F.MBX_ESTAT_EXPIRED = true ∧ t.gaf = (s.event 35).gaf ∧
        t.reports = (s.reportMaster FC.LEASE_EXPIRED x.holder 3 m.val).reports) ∧
    (∀ (l : BitVec 31) (e : Nat × Nat × Lease), s.gst.seqs.find? (fun e => e.1 == l.toNat) = some e → e.2.2.expired = false →
      ∃ t, exec (.leaseExpired (.line l)) s = .next t ∧ t.gst.seqs = s.gst.seqs.map (fun e =>
          if e.1 = l.toNat then (e.1, e.2.1, { e.2.2 with expired := true }) else e) ∧
        t.gaf = (s.event 35).gaf ∧ t.reports = (s.reportMaster FC.LEASE_EXPIRED e.2.2.holder 4 (64 * l.toNat)).reports) ∧
    (∀ (k : Fin 16) (x : Lease), s.slotLease k.val = some x → x.expired = false →
      ∃ t, exec (.leaseExpired (.slot k)) s = .next t ∧ t.slotLease k.val = some { x with expired := true } ∧
        t.bit (R.CMD_SLOT k.val) F.CMD_SLOT_EXPIRED = true ∧ t.gaf = (s.event 35).gaf ∧
        t.reports = (s.reportMaster FC.LEASE_EXPIRED x.holder 5 k.val).reports))

/-! ### Functions (R240 to R258) -/

/-- R240, R241, R243, R245, R251, R255 to R258: a function-level reset begins and ends; a VF is attached and detached; VF Enable makes VFs
exist; node ownership; configuration requests are answered by the function or bridge they name. -/
def Obligations.FunctionsAreResetAttachedAndConfigured : Prop :=
  (∀ (s : State) (f : Fin 4097),
    (s.flrActive f.val = true → exec (.flrInitiate f) s = .next s) ∧
    (s.flrActive f.val = false → s.rst.quench ≠ 0 → exec (.flrInitiate f) s = .next (s.cause RC.FLR)) ∧
    (s.flrActive f.val = false → s.rst.quench = 0 → s.widened = true →
      exec (.flrInitiate f) s = .next ((s.cause RC.FLR).cause RC.AS_COLD).coldAssert) ∧
    (s.flrActive f.val = false → s.rst.quench = 0 → s.widened = false → exec (.flrInitiate f) s =
      .next ((f.val :: (if f.val = 0 then s.vfs else [])).foldl State.flrBegin ((s.cause RC.FLR).reached 3))) ∧
    (s.flrActive f.val = false → s.rst.quench = 0 → s.widened = false → f.val ≠ 0 → s.ownQueues f.val = [] → s.cmd.jobs = [] →
      ∃ t, exec (.flrInitiate f) s = .next t ∧ t.flrActive f.val = true ∧ bitOf (t.rd R.RST_CAUSE) RC.FLR = true ∧
        Only [R.RST_CAUSE, R.QEP_FNSTAT f.val] s t) ∧
    (s.flrActive f.val = false → exec (.flrEnd f) s = .next s) ∧
    (s.flrActive f.val = true → ∃ t, exec (.flrEnd f) s = .next t ∧ t.flrActive f.val = false ∧ (t.fn f.val).bme = false ∧
      (t.fn f.val).mse = false ∧ (t.fn f.val).msixEn = false ∧ (t.fn f.val).aerUnc = (s.fn f.val).aerUnc ∧
      (∀ v, v < 2048 → t.pendingBit f.val v = false ∧ t.rd (R.MSIX f.val v 1) = 2 ^ 32) ∧ t.prt.detach.contains f.val = false ∧
      (s.prt.detach.contains f.val = true → t.rd (R.QEP_VFMAP f.val) = 0) ∧ (s.noLeases → t.mem = s.mem))) ∧
  (∀ (s : State) (v : Fin 4097) (pt : Fin 64) (b : BitVec 4) (n : BitVec 8) (z : BitVec 6),
    (v.val = 0 ∨ s.bit (R.QEP_VFMAP v.val) F.QEP_VFMAP_ATTACHED = true ∨ s.bitAct (R.PTN_CFG pt.val) F.PTN_CFG_EN = false →
      exec (.vfAttach v pt b n z) s = .next (s.setBit R.QEP_STATUS F.QEP_STATUS_BADCMD)) ∧
    (v.val ≠ 0 → s.bit (R.QEP_VFMAP v.val) F.QEP_VFMAP_ATTACHED = false → s.bitAct (R.PTN_CFG pt.val) F.PTN_CFG_EN = true →
      (pt.val = s.mgmtPt ∨ ((s.vfsIn pt.val).map s.vfPlace).contains (b.toNat, n.toNat) = false ∧
        ((b.toNat, n.toNat) = (0, 0) ∨ ((s.vfsIn pt.val).map s.vfPlace).contains (0, 0) = true)) →
      ∃ t, exec (.vfAttach v pt b n z) s = .next t ∧ t.bit (R.QEP_VFMAP v.val) F.QEP_VFMAP_ATTACHED = true ∧
        t.get (R.QEP_VFMAP v.val) F.QEP_VFMAP_PT = pt.val ∧
        (pt.val ≠ s.mgmtPt → t.vfPlace v.val = (b.toNat, n.toNat) ∧ (t.fn v.val).bar2Log2 = clampLog2 z.toNat) ∧
        (t.fn v.val).bme = false ∧ t.mem = s.mem) ∧
    (v.val = 0 ∨ s.bit (R.QEP_VFMAP v.val) F.QEP_VFMAP_ATTACHED = false ∨ s.flrActive v.val = true →
      exec (.vfDetach v) s = .next (s.setBit R.QEP_STATUS F.QEP_STATUS_BADCMD)) ∧
    (v.val ≠ 0 → s.bit (R.QEP_VFMAP v.val) F.QEP_VFMAP_ATTACHED = true → s.flrActive v.val = false →
      (∀ k, k < 4096 → s.qOwnerFn (16 * k) ≠ v.val) →
      (s.get (R.QEP_VFMAP v.val) F.QEP_VFMAP_PT = s.mgmtPt ∨ s.vfPlace v.val ≠ (0, 0) ∨
        (s.vfsIn (s.get (R.QEP_VFMAP v.val) F.QEP_VFMAP_PT)).any (fun x => x != v.val) = false) →
      exec (.vfDetach v) s = .next (State.flrSource { s.setBit R.QEP_STATUS F.QEP_STATUS_CMD_BUSY with
        prt := { s.prt with detach := v.val :: s.prt.detach } } [v.val]))) ∧
  (∀ s : State,
    ((s.fn 0).vfEn = true → exec .vfEnableSet s = .next s) ∧
    ((s.fn 0).vfEn = false → ∃ t, exec .vfEnableSet s = .next t ∧ t.fn 0 = { s.fn 0 with vfEn := true } ∧
      ((s.fn 0).ari = true → t.regs = s.regs) ∧ ((s.fn 0).ari = false → t.bit R.QEP_STATUS F.QEP_STATUS_ARI_ERR = true)) ∧
    (∃ t, exec .vfEnableClear s = .next t ∧ (t.fn 0).vfEn = false)) ∧
  (∀ (s : State) (n : Fin 18432) (f : BitVec 13),
    (s.nodeReady n.val = true → ∃ t, exec (.nodeownWrite n f) s = .next t ∧
      t.get (R.QEP_NODEOWN n.val) F.QEP_NODEOWN_OWNER_FN = f.toNat ∧ Only [R.QEP_NODEOWN n.val] s t) ∧
    (s.nodeReady n.val = false → exec (.nodeownWrite n f) s = .next (s.setBit R.QEP_STATUS F.QEP_STATUS_CFG_REFUSED))) ∧
  (∀ (s : State) (pt : Fin 64) (rid dest : BitVec 16) (tag : BitVec 10) (dw : Fin 1024) (ans : State → CplStatus → List Byte → State),
    ans = (fun s st d => s.answer pt.val rid.toNat tag.toNat 0 st d 0 .endpoint) →
    (s.bridgeAt pt.val dest.toNat = none →
      (s.cfgNotReady pt.val = true → ∀ w, exec (.configRequest pt rid tag (.id dest) dw w) s = .next (ans s .crs [])) ∧
      (s.cfgNotReady pt.val = false →
        (s.fnAt pt.val dest.toNat = none → ∀ w, exec (.configRequest pt rid tag (.id dest) dw w) s = .next (ans s .ur [])) ∧
        (∀ f, s.fnAt pt.val dest.toNat = some f →
          (s.flrActive f = true → ∀ w, exec (.configRequest pt rid tag (.id dest) dw w) s = .next (ans s .crs [])) ∧
          (s.flrActive f = false →
            (s.cfgOpen pt.val (4 * dw.val) = 0 →
              exec (.configRequest pt rid tag (.id dest) dw none) s = .next (ans s .sc (leBytes (s.cfgRead pt.val f (4 * dw.val)) 4))) ∧
            (∀ e, e = s.openBits (s.cfgRead pt.val f (4 * dw.val)) (s.cfgOpen pt.val (4 * dw.val)) →
              exec (.configRequest pt rid tag (.id dest) dw none) s = .next (ans e.2 .sc (leBytes e.1 4))) ∧
            (s.cfgRead pt.val f (4 * dw.val) < 2 ^ 32 → ∀ v : BitVec 32, exec (.configRequest pt rid tag (.id dest) dw (some (v, 15#4))) s =
              .next ((ans s .sc []).cfgWrite f (4 * dw.val) v.toNat v.toNat)) ∧
            (∀ (v : BitVec 32) (be : BitVec 4), exec (.configRequest pt rid tag (.id dest) dw (some (v, be))) s =
              .next ((ans s .sc []).cfgWrite f (4 * dw.val) (merge32 (s.cfgRead pt.val f (4 * dw.val)) v.toNat be.toNat)
                (merge32 0 v.toNat be.toNat))))))) ∧
    (∀ b, s.bridgeAt pt.val dest.toNat = some b → ∀ w,
      exec (.configRequest pt rid tag (.id dest) dw w) s = exec (.configRequest pt rid tag (.bridge b) dw w) s) ∧
    (∀ b w, (s.bridgeExists pt.val b = false → exec (.configRequest pt rid tag (.bridge b) dw w) s = .next (ans s .ur [])) ∧
      (s.bridgeExists pt.val b = true → s.cfgNotReady pt.val = true →
        exec (.configRequest pt rid tag (.bridge b) dw w) s = .next (ans s .crs []))) ∧
    (∀ b, s.bridgeExists pt.val b = true → s.cfgNotReady pt.val = false →
      exec (.configRequest pt rid tag (.bridge b) dw none) s =
        .next (ans (s.bridgeRead pt.val b (4 * dw.val)).2 .sc (leBytes (s.bridgeRead pt.val b (4 * dw.val)).1 4))) ∧
    (s.bridgeRead pt.val .up 0).1 = 0x5121F3C5 ∧ (s.bridgeRead pt.val .ep 0).1 = 0x5122F3C5 ∧ s.cfgRead pt.val 0 0 = 0x5120F3C5)

/-! ### Partitions and their ports (R222, R223, R233 to R237) -/

/-- R223, R233 to R237: a partition is reset by PERST_N, by command or hot, and released when no source is left; a DPC trigger or the loss of
the upstream link contains; a host writes its bridges. What a fundamental, hot or PERST_N reset leaves, register by register, is said of a partition without ports,
functions and traffic; every other clause holds of every partition. -/
def Obligations.PartitionsAreResetReleasedAndContained : Prop :=
  (∀ (s : State) (pt : Fin 64) (now : Nat), s.noTraffic → s.noLeases → s.rst.quench = 0 → s.widened = false → s.upPort pt.val = none → s.downPorts pt.val = [] →
    s.fnsOf pt.val = [] → (∀ f, f < 4097 → s.flrActive f = false) → now = s.get (R.PTN_STATE pt.val) F.PTN_STATE_RST_SRC →
    (bitOf now RS.FUND = false → ∃ t, exec (.ptnFundAssert pt) s = .next t ∧
      bitOf (t.get (R.PTN_STATE pt.val) F.PTN_STATE_RST_SRC) RS.FUND = true ∧ t.ptInReset pt.val = true ∧
      bitOf (t.rd R.RST_CAUSE) RC.PTN_FUND = true ∧ SMap.get t.prt.fundCmd 0 pt.val = 1 ∧ (∀ k, k / 1024 = pt.val → t.bridge k = {}) ∧
      Only [R.RST_CAUSE, R.PTN_STATE pt.val] { s with prt := t.prt } t) ∧
    (now = 0 → ∃ t, exec (.ptnHot pt) s = .next t ∧ t.ptInReset pt.val = false ∧ bitOf (t.rd R.RST_CAUSE) RC.PTN_HOT = true ∧
      (∀ k, k / 1024 = pt.val → t.bridge k = {}) ∧ (∀ k, k / 1024 ≠ pt.val → t.bridge k = s.bridge k) ∧
      Only [R.RST_CAUSE, R.PTN_STATE pt.val] { s with prt := t.prt } t) ∧
    (∀ i : Fin 16, SMap.get s.prt.perst 0 i.val ≠ 1 → s.perstParts i.val = [pt.val] → bitOf now RS.PERST = false →
      ∃ t, exec (.perstAssert i) s = .next t ∧ bitOf (t.get (R.PTN_STATE pt.val) F.PTN_STATE_RST_SRC) RS.PERST = true ∧
        t.ptInReset pt.val = true ∧ SMap.get t.prt.perst 0 i.val = 1 ∧ bitOf (t.rd R.RST_CAUSE) RC.PERST = true)) ∧
  (∀ (s : State) (pt : Fin 64),
    (s.rst.quench ≠ 0 → exec (.ptnFundAssert pt) s = .next (s.cause RC.PTN_FUND) ∧ exec (.ptnHot pt) s = .next (s.cause RC.PTN_HOT)) ∧
    (s.rst.quench = 0 → s.widened = true →
      exec (.ptnFundAssert pt) s = .next ((s.cause RC.PTN_FUND).cause RC.AS_COLD).coldAssert ∧
      exec (.ptnHot pt) s = .next ((s.cause RC.PTN_HOT).cause RC.AS_COLD).coldAssert) ∧
    (∀ u, s.rst.quench = 0 → s.widened = false → u = (s.cause RC.PTN_FUND).reached 2 → exec (.ptnFundAssert pt) s =
      .next (State.ptnReset { u with prt := { u.prt with fundCmd := SMap.set u.prt.fundCmd 0 pt.val 1 } } pt.val RS.FUND true)) ∧
    (s.rst.quench = 0 → s.widened = false →
      exec (.ptnHot pt) s = .next (((s.cause RC.PTN_HOT).reached 2).ptnReset pt.val RS.HOT false)) ∧
    (SMap.get s.prt.fundCmd 0 pt.val ≠ 0 → ∀ u, u = { s with prt := { s.prt with fundCmd := SMap.set s.prt.fundCmd 0 pt.val 0 } } →
      exec (.ptnFundRelease pt) s = .next (u.ptnRelease pt.val RS.FUND)) ∧
    (SMap.get s.prt.fundCmd 0 pt.val = 0 → exec (.ptnFundRelease pt) s = .next (s.setBit R.PTN_STATUS F.PTN_STATUS_BADCMD)) ∧
    (SMap.get s.prt.fundCmd 0 pt.val ≠ 0 → s.get (R.PTN_STATE pt.val) F.PTN_STATE_RST_SRC = 2 → (∀ f, f < 4097 → s.flrActive f = false) →
      ∃ t, exec (.ptnFundRelease pt) s = .next t ∧ t.get (R.PTN_STATE pt.val) F.PTN_STATE_RST_SRC = 0 ∧ t.ptInReset pt.val = false ∧
        SMap.get t.prt.fundCmd 0 pt.val = 0 ∧ Only [R.PTN_STATE pt.val] { s with prt := t.prt } t)) ∧
  (∀ (s : State) (i : Fin 16),
    (SMap.get s.prt.perst 0 i.val = 1 → exec (.perstAssert i) s = .next s) ∧
    (SMap.get s.prt.perst 0 i.val ≠ 1 → s.perstParts i.val = [] → exec (.perstAssert i) s =
      .next { s with prt := { s.prt with perst := SMap.set s.prt.perst 0 i.val 1 } }) ∧
    (SMap.get s.prt.perst 0 i.val ≠ 1 → s.perstParts i.val ≠ [] → s.rst.quench = 0 → ∀ u,
      u = State.cause { s with prt := { s.prt with perst := SMap.set s.prt.perst 0 i.val 1 } } RC.PERST →
      (s.widened = false → exec (.perstAssert i) s =
        .next ((s.perstParts i.val).foldl (fun t pt => t.ptnReset pt RS.PERST true) (u.reached 2))) ∧
      (s.widened = true → exec (.perstAssert i) s = .next (((u.cause RC.AS_COLD).coldAssert).holdSource (16 + i.val) true))) ∧
    (SMap.get s.prt.perst 0 i.val = 0 → exec (.perstRelease i) s = .next s) ∧
    (SMap.get s.prt.perst 0 i.val ≠ 0 → (∀ f, f < 4097 → s.flrActive f = false) → ∃ t, exec (.perstRelease i) s = .next t ∧
      SMap.get t.prt.perst 0 i.val = 0 ∧ (∀ pt, pt < 64 →
        (s.get (R.PTN_CFG pt) F.PTN_CFG_PERST_SEL = i.val → s.get (R.PTN_STATE pt) F.PTN_STATE_RST_SRC = 1 →
          t.get (R.PTN_STATE pt) F.PTN_STATE_RST_SRC = 0 ∧ t.ptInReset pt = false) ∧
        (s.get (R.PTN_CFG pt) F.PTN_CFG_PERST_SEL ≠ i.val → t.rd (R.PTN_STATE pt) = s.rd (R.PTN_STATE pt))) ∧ t.mem = s.mem)) ∧
  (∀ (s : State) (p : Fin 256),
    (s.role p.val = ROLE.UPSTREAM → exec (.hotResetReceived p) s = .next (s.ptnHot (s.portPt p.val) false)) ∧
    (s.role p.val ≠ ROLE.UPSTREAM → exec (.hotResetReceived p) s = .next s ∧ exec (.ptnUplink p) s = .next s) ∧
    (s.role p.val ≠ ROLE.DOWNSTREAM → ∀ r, exec (.portDpc p r) s = .next s) ∧
    (s.role p.val = ROLE.DOWNSTREAM → (s.bridge (s.portBridge p.val)).dpcEn = true → ∀ r : Fin 3,
      exec (.portDpc p r) s = .next ((s.holdPort p.val 1 r.val).report FC.PORT_DPC UK.port p.val 0 0 0)) ∧
    (s.role p.val = ROLE.DOWNSTREAM → (s.bridge (s.portBridge p.val)).dpcEn = true → s.portHeld p.val = false → s.caneMode p.val = false →
      s.noTraffic → bitOf (SMap.get (s.bridge (s.portBridge p.val)).raw 0 0x154) 19 = false → ∀ r : Fin 3, ∃ t, exec (.portDpc p r) s = .next t ∧ t.portHeld p.val = true ∧
        t.get (R.PRT_STATUS p.val) F.PRT_STATUS_HOLD_SRC = 1 ∧ (t.bridge (s.portBridge p.val)).dpcTrig = true ∧
        (t.bridge (s.portBridge p.val)).dpcReason = r.val ∧
        t.reports = s.reports ++ [⟨FC.PORT_DPC, UK.port, p.val, 0, 0, 0, s.now, false⟩] ∧ Only [R.PRT_STATUS p.val]
          { s with cru := t.cru, prt := t.prt, out := t.out, reports := t.reports } t) ∧
    (s.role p.val = ROLE.UPSTREAM → s.bit (R.PRT_STATUS p.val) F.PRT_STATUS_LINK_UP = true → exec (.ptnUplink p) s =
      .next (State.ptnHot (State.report (State.holdPartition ((s.linkLost p.val).put (R.PTN_STATE (s.portPt p.val)) F.PTN_STATE_UPLINK 0)
        (s.portPt p.val)) FC.PTN_UPLINK UK.partition (s.portPt p.val) 0 p.val 0) (s.portPt p.val) true))) ∧
  (∀ (s : State) (pt : Fin 64) (rid : BitVec 16) (tag : BitVec 10) (b : BridgeRef) (f : BridgeField) (k : Nat)
    (ans : State → CplStatus → State), k = refKey pt.val b →
    ans = (fun s st => s.answer pt.val rid.toNat tag.toNat 0 st [] 0 .endpoint) →
    (s.bridgeExists pt.val b = false → exec (.bridgeConfigWrite pt rid tag b f) s = .next (ans s .ur)) ∧
    (s.bridgeExists pt.val b = true → s.cfgNotReady pt.val = true → exec (.bridgeConfigWrite pt rid tag b f) s = .next (ans s .crs)) ∧
    (s.bridgeExists pt.val b = true → s.cfgNotReady pt.val = false → bridgeRoutes f = false →
      exec (.bridgeConfigWrite pt rid tag b f) s =
        .next (ans (State.bridgeEffect (s.setBridge k ((s.bridge k).write f)) pt.val b f (s.bridge k)) .sc)) ∧
    (s.bridgeExists pt.val b = true → s.cfgNotReady pt.val = false → f ≠ .sbr true → (∀ o, f ≠ .power o) → (∀ v, f ≠ .linkCtl v) →
      (s.bit (R.GAF_EPSTAT 0) F.GAF_EPSTAT_COMMIT_PEND = false ∨ bridgeRoutes f = false →
        exec (.bridgeConfigWrite pt rid tag b f) s = .next (ans (s.setBridge k ((s.bridge k).write f)) .sc)) ∧
      (s.bit (R.GAF_EPSTAT 0) F.GAF_EPSTAT_COMMIT_PEND = true → bridgeRoutes f = true → ∃ t,
        exec (.bridgeConfigWrite pt rid tag b f) s = .next t ∧ t.bridge k = (s.bridge k).write f ∧
        t.prt.cfgWait = s.prt.cfgWait ++ [(pt.val, rid.toNat, tag.toNat)] ∧ t.out = s.out ∧ t.regs = s.regs)) ∧
    (s.bridgeExists pt.val b = true → s.cfgNotReady pt.val = false → (∃ v, f = .linkCtl v) → ∃ t,
      exec (.bridgeConfigWrite pt rid tag b f) s = .next t ∧ t.bridge k = (s.bridge k).write f) ∧
    (s.bridgeExists pt.val b = true → s.cfgNotReady pt.val = false → b = .up → f = .sbr true → (s.bridge k).sbr = false →
      exec (.bridgeConfigWrite pt rid tag b f) s = .next (ans (State.ptnHot (s.setBridge k ((s.bridge k).write f)) pt.val false) .sc)))

/-! ### Lanes (R259 to R280) and training of PCI Express ports (R267) -/

/-- R264, R270 to R273, R276 to R280: a direction of a lane changes its power state; an adaptation and a lock are recorded; lock loss and a
bad window fail a lane; a re-trim runs through its stages; a margin run holds the error slicer. -/
def Obligations.LanesChangePowerAdaptFailRetrimAndMargin : Prop :=
  (∀ (s : State) (n : Fin 64) (i : Fin 9) (tx : Bool) (l : Nat), l = 9 * n.val + i.val →
    (s.laneOff l = false →
      (s.exitOf l tx = 0 →
        (∀ v : Fin 4, v.val ≠ PWR.ACTIVE →
          (s.pwr l tx ≠ PWR.OFF ∨ v.val = PWR.OFF → ∃ t, exec (.lanePowerRequest n i tx false (some v)) s = .next t ∧
            t.pwr l tx = v.val ∧ (tx = false → 2 ≤ v.val → t.bit (R.LNE_STAT n.val i.val) F.LNE_STAT_LOCK = false) ∧
            (tx = false → v.val = 3 → t.adapted l = false) ∧ Only [R.LNE_STAT n.val i.val] { s with lnk := t.lnk } t) ∧
          (s.pwr l tx = PWR.OFF → v.val ≠ PWR.OFF → exec (.lanePowerRequest n i tx false (some v)) s = .next (s.setExit l tx (v.val + 2)))) ∧
        exec (.lanePowerExitDone n i tx) s = .next s) ∧
      (∀ e, s.pwr l tx ≠ PWR.ACTIVE → exec (.lanePowerRequest n i tx true e) s = .next (s.setExit l tx 1)) ∧
      (∀ e, s.pwr l tx = PWR.ACTIVE → exec (.lanePowerRequest n i tx true e) s = .next s) ∧
      exec (.lanePowerRequest n i tx false none) s = .next s ∧
      (s.exitOf l tx ≠ 0 → ∀ v : Fin 4, v.val ≠ PWR.ACTIVE →
        exec (.lanePowerRequest n i tx false (some v)) s = .next (s.setExit l tx (v.val + 2))) ∧
      (s.exitOf l tx = 1 → ∃ t, exec (.lanePowerExitDone n i tx) s = .next t ∧ t.pwr l tx = PWR.ACTIVE ∧
        t.exitOf l tx = 0 ∧ Only [R.LNE_STAT n.val i.val] { s with lnk := t.lnk } t) ∧
      (∀ v, v < 4 → s.exitOf l tx = v + 2 → ∃ t, exec (.lanePowerExitDone n i tx) s = .next t ∧ t.pwr l tx = v ∧
        t.exitOf l tx = 0 ∧ Only [R.LNE_STAT n.val i.val] { s with lnk := t.lnk } t)) ∧
    (s.laneOff l = true → ∀ (leave : Bool) (e : Option (Fin 4)), leave = true ∨ e ≠ none → ∃ t,
      exec (.lanePowerRequest n i tx leave e) s = .next t ∧ t.pwr l tx = PWR.OFF ∧ t.exitOf l tx = 0 ∧
      Only [R.LNE_STAT n.val i.val] { s with lnk := t.lnk } t)) ∧
  (∀ (s u : State) (n : Fin 64) (i : Fin 9) (hs : List Nat) (taps : BitVec 64) (l : Nat), l = 9 * n.val + i.val → hs.length = 16 →
    u = (s.adapt l hs taps.toNat).2 →
    u.adapted l = true ∧ Only [R.LNE_STAT n.val i.val, R.LNE_DFE n.val i.val] { s with lnk := u.lnk } u ∧
    (s.bitAct (R.LNE_CTL n.val i.val) F.LNE_CTL_CTLE_OVR = false →
      u.get (R.LNE_STAT n.val i.val) F.LNE_STAT_CTLE_USED = bestStep hs ∧ ∀ j, j < 16 → hs.getD j 0 ≤ hs.getD (bestStep hs) 0) ∧
    (s.bitAct (R.LNE_CTL n.val i.val) F.LNE_CTL_CTLE_OVR = true →
      u.get (R.LNE_STAT n.val i.val) F.LNE_STAT_CTLE_USED = s.getAct (R.LNE_CTL n.val i.val) F.LNE_CTL_CTLE_STEP) ∧
    (∀ p, s.laneOwner l = some p → s.pam4 p = true →
      u.rd (R.LNE_DFE n.val i.val) =
        (if s.bit (R.LNE_CTL n.val i.val) F.LNE_CTL_DFE_FREEZE then s.rd (R.LNE_DFE n.val i.val) else taps.toNat)) ∧
    (∀ p, s.laneOwner l = some p → s.pam4 p = false → u.rd (R.LNE_DFE n.val i.val) = 0) ∧
    (s.pwr l false ≠ PWR.ACTIVE → exec (.adaptationDone n i hs taps) s = .next s ∧ exec (.clockRecoveryLock n i) s = .next s) ∧
    (s.pwr l false = PWR.ACTIVE → s.background l = true → exec (.adaptationDone n i hs taps) s = .next (s.adaptDfe l taps.toNat)) ∧
    (s.pwr l false = PWR.ACTIVE →
      (s.laneOwner l = none → exec (.adaptationDone n i hs taps) s = .next u) ∧
      (∀ p, s.laneOwner l = some p → s.background l = false → s.linkState p ≠ CN.EQ → s.linkState p ≠ CN.RETRAIN →
        exec (.adaptationDone n i hs taps) s = .next (u.settleCane p)) ∧
      (s.bit R.EMB_STATUS F.EMB_STATUS_REFCLK_OK = true →
        (s.laneOwner l = none → exec (.clockRecoveryLock n i) s = .next (s.put (R.LNE_STAT n.val i.val) F.LNE_STAT_LOCK 1)) ∧
        (∀ p, s.laneOwner l = some p →
          exec (.clockRecoveryLock n i) s = .next ((s.put (R.LNE_STAT n.val i.val) F.LNE_STAT_LOCK 1).settleCane p)))) ∧
    (i.val = 8 → s.octetCane n.val = true → s.bit (R.LNE_OCTCTL n.val) F.LNE_OCTCTL_SPARE_WARM = true → s.rxSub n.val = 15 →
      s.pwr l false = PWR.STANDBY → exec (.spareReadapt n hs taps) s = .next u)) ∧
  (∀ (s : State) (n : Fin 64) (i : Fin 9) (l : Nat), l = 9 * n.val + i.val →
    (s.bit (R.LNE_STAT n.val i.val) F.LNE_STAT_LOCK = false → exec (.lockLoss n i) s = .next s) ∧
    (s.bit (R.LNE_STAT n.val i.val) F.LNE_STAT_LOCK = true →
      (s.laneOwner l = none → ∃ t, exec (.lockLoss n i) s = .next t ∧ t.bit (R.LNE_STAT n.val i.val) F.LNE_STAT_LOCK = false ∧
        t.get (R.LNE_ERRCNT n.val i.val) F.LNE_ERRCNT_LOCKLOSS =
          satAdd (s.get (R.LNE_ERRCNT n.val i.val) F.LNE_ERRCNT_LOCKLOSS) 1 (2 ^ 16 - 1) ∧
        t.get (R.LNE_ERRCNT n.val i.val) F.LNE_ERRCNT_FAILS = satAdd (s.get (R.LNE_ERRCNT n.val i.val) F.LNE_ERRCNT_FAILS) 1 (2 ^ 16 - 1) ∧
        Only [R.LNE_STAT n.val i.val, R.LNE_ERRCNT n.val i.val] s t) ∧
      (∀ p, s.laneOwner l = some p → s.caneMode p = true → (s.cane p).peerStby = true →
        exec (.lockLoss n i) s = .next (s.askPwr l false PWR.STANDBY)) ∧
      (∀ p, s.laneOwner l = some p → s.caneMode p = false → s.linkState p = LS.L0 → p < 256 → ∃ t, exec (.lockLoss n i) s = .next t ∧
        t.bit (R.LNE_STAT n.val i.val) F.LNE_STAT_LOCK = false ∧ t.linkState p = LS.RECOVERY ∧ t.out = .link p LK.RETRAIN :: s.out ∧
        t.reports = s.reports ++ [⟨FC.LANE_FAIL, UK.port, p, 0, n.val + i.val * 64, 0, s.now, false⟩])) ∧
    (∀ c : Nat, s.slicer l = 0 → SMap.get s.lnk.winCnt 0 l = 0 →
      (c ≤ s.get (R.LNE_FAILCFG n.val) F.LNE_FAILCFG_FAIL_THRESH → ∃ t, exec (.failWindowEnd n i c) s = .next t ∧
        t.get (R.LNE_ERRCNT n.val i.val) F.LNE_ERRCNT_LOWMARGIN =
          satAdd (s.get (R.LNE_ERRCNT n.val i.val) F.LNE_ERRCNT_LOWMARGIN) c (2 ^ 32 - 1) ∧
        Only [R.LNE_ERRCNT n.val i.val] { s with lnk := t.lnk } t) ∧
      (s.get (R.LNE_FAILCFG n.val) F.LNE_FAILCFG_FAIL_THRESH < c → ∃ u : State, exec (.failWindowEnd n i c) s = .next (u.laneFails l false) ∧
        u.get (R.LNE_ERRCNT n.val i.val) F.LNE_ERRCNT_LOWMARGIN =
          satAdd (s.get (R.LNE_ERRCNT n.val i.val) F.LNE_ERRCNT_LOWMARGIN) c (2 ^ 32 - 1)))) ∧
  (∀ (s : State) (n : Fin 64) (m : Fin 8),
    (s.retrimRefused n.val m.val = true →
      exec (.retrimStart n m) s = .next (s.setBit (R.LNE_OCTSTAT n.val) F.LNE_OCTSTAT_BADCMD)) ∧
    (s.retrimRefused n.val m.val = false → ∃ t, exec (.retrimStart n m) s = .next t ∧
      t.get (R.LNE_RETRIMSTAT n.val) F.LNE_RETRIMSTAT_LANE = m.val ∧
      t.retrim n.val = (if s.pwr (9 * n.val + 8) false = PWR.STANDBY ∧ s.adapted (9 * n.val + 8) = true then 3 else 1) ∧
      (s.laneOff (9 * n.val + 8) = false → s.pwr (9 * n.val + 8) false ≠ PWR.ACTIVE → t.exitOf (9 * n.val + 8) false = 1) ∧
      ∀ p, s.laneOwner (9 * n.val + 8) = some p → Only (R.LNE_RETRIMSTAT n.val :: R.LNE_STAT n.val 8 ::
        (s.physLane p (s.logicalOf p n.val m.val)).toList.map (laneReg R.LNE_STAT)) { s with lnk := t.lnk } t) ∧
    (s.retrimRuns n.val = true → ∃ t, exec (.retrimAbort n) s = .next t ∧ t.retrim n.val = 9 ∧
      Only [R.LNE_RETRIMSTAT n.val, R.LNE_STAT n.val 8] { s with lnk := t.lnk } t) ∧
    (s.retrimRuns n.val = false → exec (.retrimAbort n) s = .next s ∧ ∀ ok, exec (.retrimStageDone n ok) s = .next s) ∧
    (∀ p, s.laneOwner (9 * n.val + 8) = some p → ∀ ok,
      (s.retrim n.val = 1 → ∃ t, exec (.retrimStageDone n ok) s = .next t ∧ t.retrim n.val = 2 ∧
        Only [R.LNE_RETRIMSTAT n.val, R.LNE_STAT n.val 8] { s with lnk := t.lnk } t) ∧
      (s.retrim n.val = 2 → ∃ t, exec (.retrimStageDone n ok) s = .next t ∧ t.retrim n.val = 3 ∧ t.adapted (9 * n.val + 8) = true ∧
        Only [R.LNE_RETRIMSTAT n.val] { s with lnk := t.lnk } t) ∧
      (s.retrim n.val = 5 → (s.checkLane n.val = none ∨ ∃ l, s.checkLane n.val = some l ∧ s.slicer l = 3) → m.val = s.get (R.LNE_RETRIMSTAT n.val) F.LNE_RETRIMSTAT_LANE →
        (ok = false → ∃ t, exec (.retrimStageDone n ok) s = .next t ∧ t.retrim n.val = 8 ∧
          bitOf (t.rd (R.LNE_FAILED n.val)) m.val = true ∧ Only [R.LNE_RETRIMSTAT n.val, R.LNE_FAILED n.val,
            R.LNE_STAT n.val 8] { s with lnk := t.lnk, reports := t.reports } t) ∧
        (ok = true → ∃ t, exec (.retrimStageDone n ok) s = .next t ∧ t.retrim n.val = 6 ∧ t.rxSub n.val = 15 ∧
          bitOf (t.rd (R.LNE_FAILED n.val)) m.val = false ∧ (s.rxSub n.val = 15 →
            Only [R.LNE_RETRIMSTAT n.val, R.LNE_FAILED n.val, R.LNE_STAT n.val 8] { s with lnk := t.lnk } t))))) ∧
  (∀ (s : State) (n : Fin 64) (i : Fin 9) (l : Nat) (e : BitVec 40), l = 9 * n.val + i.val →
    (s.slicer l = 0 → ∃ t, exec (.marginRun n i) s = .next t ∧ t.slicer l = 1 ∧ t.rd (R.LNE_MARGRES n.val i.val) = 2 ^ 43 ∧
      (s.laneOff l = false → s.pwr l false ≠ PWR.ACTIVE → t.exitOf l false = 1) ∧
      Only [R.LNE_MARGRES n.val i.val, R.LNE_STAT n.val i.val] { s with lnk := t.lnk } t) ∧
    (s.slicer l ≠ 0 → exec (.marginRun n i) s = .next (s.setBit (R.LNE_MARGRES n.val i.val) F.LNE_MARGRES_BUSY)) ∧
    (s.slicer l = 1 → (∃ t, exec (.marginAbort n i) s = .next t ∧ t.slicer l = 0 ∧
        t.bit (R.LNE_MARGRES n.val i.val) F.LNE_MARGRES_ACTIVE = false ∧ t.bit (R.LNE_MARGRES n.val i.val) F.LNE_MARGRES_ABORTED = true ∧
        Only [R.LNE_MARGRES n.val i.val] { s with lnk := t.lnk } t) ∧
      (s.exitOf l false = 0 → ∃ t, exec (.marginRunDone n i e) s = .next t ∧ t.slicer l = 0 ∧
        t.rd (R.LNE_MARGRES n.val i.val) = e.toNat + 2 ^ 40 ∧ Only [R.LNE_MARGRES n.val i.val] { s with lnk := t.lnk } t) ∧
      (s.exitOf l false ≠ 0 → exec (.marginRunDone n i e) s = .next s)) ∧
    (s.slicer l ≠ 1 → exec (.marginAbort n i) s = .next s ∧ exec (.marginRunDone n i e) s = .next s ∧
      exec (.laneMarginCommand n i false) s = .next (((s.setSlicer l 2).askPwr l false PWR.ACTIVE).emit (.margin l [1, 1, 1, 0, 32, 50, 64, 25, 15]))) ∧
    (s.slicer l = 1 → exec (.laneMarginCommand n i false) s =
      .next ((((s.marginEnd l).setSlicer l 2).askPwr l false PWR.ACTIVE).emit (.margin l [1, 1, 1, 0, 32, 50, 64, 25, 15]))) ∧
    (s.slicer l = 2 → exec (.laneMarginCommand n i true) s = .next (s.setSlicer l 0)) ∧
    (s.slicer l ≠ 2 → exec (.laneMarginCommand n i true) s = .next s)) ∧
  (∀ (s : State) (p : Fin 256), s.caneMode p.val = false →
    (∀ (st : Fin 12) (r : Fin 6) (w z : Fin 17) (fl rv : Bool) (l : PcieLanes) (x : PcieReport),
      x = ⟨st.val, r.val, w.val, z.val, fl, rv, l.invert.toNat, l.eq.map (fun e => (e.1.val, e.2.1.val, e.2.2.val)), l.l0sTx, l.l0sRx⟩ →
      (s.portUsed p.val = false ∨ s.bit (R.PRT_CTL p.val) F.PRT_CTL_ENABLE = false ∨ s.blockReset 7 = true ∨ s.pcieRefused p.val x = true ∨
        s.bit (R.PRT_STATUS p.val) F.PRT_STATUS_TRIM_WAIT = true ∨ (s.portHeld p.val = true ∧ st.val ≠ LS.DISABLED) →
        exec (.pcieTraining p st r w z fl rv l) s = .next s) ∧
      (s.portUsed p.val = true → s.bit (R.PRT_CTL p.val) F.PRT_CTL_ENABLE = true → s.portHeld p.val = false ∨ st.val = LS.DISABLED →
        s.blockReset 7 = false → s.bit (R.PRT_STATUS p.val) F.PRT_STATUS_TRIM_WAIT = false → s.pcieRefused p.val x = false →
        s.bit R.EMB_STATUS F.EMB_STATUS_REFCLK_OK = true → ∃ t, exec (.pcieTraining p st r w z fl rv l) s = .next t ∧
          t = s.pcieTrain p.val x ∧ t.get (R.PRT_LINKSTAT p.val) F.PRT_LINKSTAT_STATE = st.val ∧
          t.get (R.PRT_LINKSTAT p.val) F.PRT_LINKSTAT_WIDTH = pcieWidth (s.confWidth p.val) w.val ∧
          t.bit (R.PRT_LINKSTAT p.val) F.PRT_LINKSTAT_FLIT = fl ∧
          (s.bit (R.PRT_STATUS p.val) F.PRT_STATUS_LINK_UP = false → t.get (R.PRT_LINKSTAT p.val) F.PRT_LINKSTAT_RATE = 0) ∧
          (s.bit (R.PRT_STATUS p.val) F.PRT_STATUS_LINK_UP = true → st.val = LS.RECOVERY → t.get (R.PRT_LINKSTAT p.val) F.PRT_LINKSTAT_RATE =
            min (min r.val (s.pcieMaxRate p.val)) (if fl then 5 else 4)) ∧
          (st.val ≠ LS.DETECT → t.bit (R.PRT_CTL p.val) F.PRT_CTL_RETRAIN = false) ∧
          (st.val = LS.L0 → t.bit (R.PRT_STATUS p.val) F.PRT_STATUS_LINK_UP = true ∧
            (s.role p.val = ROLE.UPSTREAM → t.bit (R.PTN_STATE (s.portPt p.val)) F.PTN_STATE_UPLINK = true)) ∧ t.mem = s.mem)) ∧
    (s.linkState p.val = LS.L0 → ∃ t, exec (.portRetrain p) s = .next t ∧ t.linkState p.val = LS.RECOVERY ∧
      t.bit (R.PRT_CTL p.val) F.PRT_CTL_RETRAIN = false ∧ t.out = .link p.val LK.RETRAIN :: s.out ∧
      Only [R.PRT_LINKSTAT p.val, R.PRT_CTL p.val] { s with out := t.out } t) ∧
    (s.linkState p.val ≠ LS.L0 → exec (.portRetrain p) s = .next s) ∧
    (s.role p.val ≠ ROLE.DOWNSTREAM → exec (.portDown p) s = .next s) ∧
    (s.role p.val = ROLE.DOWNSTREAM → s.bit (R.PRT_STATUS p.val) F.PRT_STATUS_LINK_UP = true → exec (.portDown p) s =
      .next (((s.linkLost p.val).holdPort p.val 2 dpcByHold).report FC.PORT_DOWN UK.port p.val 0 0 0)) ∧
    (s.role p.val = ROLE.DOWNSTREAM → s.bit (R.PRT_STATUS p.val) F.PRT_STATUS_LINK_UP = true → s.portHeld p.val = false → s.noTraffic →
      bitOf (SMap.get (s.bridge (s.portBridge p.val)).raw 0 0x154) 19 = false →
      ∃ t, exec (.portDown p) s = .next t ∧ t.portHeld p.val = true ∧ t.get (R.PRT_STATUS p.val) F.PRT_STATUS_HOLD_SRC = 2 ∧
        t.bit (R.PRT_STATUS p.val) F.PRT_STATUS_LINK_UP = false ∧
        t.reports = s.reports ++ [⟨FC.PORT_DOWN, UK.port, p.val, 0, 0, 0, s.now, false⟩])) ∧
  (∀ (s : State) (p : Fin 256), s.caneMode p.val = true →
    (s.linkState p.val = CN.ACTIVE → (s.cane p.val).ownRetrain = none →
      exec (.portRetrain p) s = .next (s.askRetrain p.val (s.caneWidth p.val) (s.caneRate p.val) false)) ∧
    (s.bit (R.PRT_CTL p.val) F.PRT_CTL_ENABLE = true → exec (.portDown p) s = .next s) ∧
    (s.bit (R.PRT_CTL p.val) F.PRT_CTL_ENABLE = false → exec (.portDown p) s = .next (s.linkFails p.val 11)))

/-! ### Queue path (R58 to R77) -/

/-- R60 to R66: a doorbell is dropped, refused or accepted into a slot; a payload takes gobs and is copied or fetched; a failed fetch
ends its descriptor. -/
def Obligations.DescriptorsAreAcceptedAndTheirPayloadsFetched : Prop :=
  (∀ (s : State) (o : Origin) (q : Fin 65536) (start : Fin 128) (data : List Byte) (full : Bool) (fn pt : Nat),
    fn = oFn o.toNat → pt = oPt o.toNat → s.flt.stopped = false →
    (s.decodes fn = false → exec (.doorbellWrite o q start data full) s = .next (s.fnUnsupported fn)) ∧
    (s.decodes fn = true → s.bit R.QUE_CTL F.QUE_CTL_ENABLE = false →
      exec (.doorbellWrite o q start data full) s = .next (s.badWrite fn)) ∧
    (s.decodes fn = true → s.bit R.QUE_CTL F.QUE_CTL_ENABLE = true → s.ownsPage fn q.val = false →
      exec (.doorbellWrite o q start data full) s = .next ((s.badWrite fn).queErrLog q.val 3 fn pt)) ∧
    (s.decodes fn = true → s.bit R.QUE_CTL F.QUE_CTL_ENABLE = true → s.ownsPage fn q.val = true →
      (dbFormatOk start.val data full = false → ∃ t, exec (.doorbellWrite o q start data full) s = .next t ∧ t.que = s.que ∧
        t.reports = s.reports ++ [⟨FC.DB_FORMAT, UK.function, fn, o.toNat, 0, q.val, s.now, false⟩]) ∧
      (dbFormatOk start.val data full = true → s.ownerShut q.val = false → s.flrActive fn = false →
        s.ptShut pt = false →
        (s.qstate q.val = QS.DISABLED ∨ s.qstate q.val = QS.HELD →
          exec (.doorbellWrite o q start data full) s = .next (s.badWrite fn)) ∧
        (s.qstate q.val = QS.FROZEN ∨ s.qstate q.val = QS.DRAINING ∨ s.qstate q.val = QS.DRAINED →
          exec (.doorbellWrite o q start data full) s =
            .next (s.complete q.val (fieldOf (dbWord data 0) 32 16) ST.FROZEN 0 0 (fieldOf (dbWord data 0) 16 14))) ∧
        (s.qstate q.val = QS.ACTIVE → badDesc data (s.get (R.QCTX q.val 0) F.QCTX_INLINE_MAX) = false → s.que.slotsUsed < 65536 →
          s.get (R.QCTX q.val 3) F.QCTX_SQ_USED < s.get (R.QCTX q.val 2) F.QCTX_SQ_MAX →
          ∃ (t : State) (d : Desc), exec (.doorbellWrite o q start data full) s = .next t ∧ t.descs q.val = s.descs q.val ++ [d] ∧
            d.inl = bitOf (dbWord data 0) 8 ∧ d.cmpl = bitOf (dbWord data 0) 9 ∧ d.len = fieldOf (dbWord data 0) 16 14 ∧
            d.tag = fieldOf (dbWord data 0) 32 16 ∧ d.addr = dbWord data 1 ∧ d.mdat = dbWord data 2 ∧ d.fkey = dbWord data 3 ∧
            d.phase = .waiting ∧ (d.inl = true → d.inlData = (data.drop 32).take d.len) ∧
            t.que.slotsUsed = s.que.slotsUsed + 1 ∧
            t.get (R.QCTX q.val 3) F.QCTX_SQ_USED = s.get (R.QCTX q.val 3) F.QCTX_SQ_USED + 1 ∧
            t.rd (R.QCTX q.val 4) = (s.rd (R.QCTX q.val 4) + 1) % 2 ^ 64 ∧ t.mem = s.mem ∧
            (∀ c : Nat, c ≠ q.val → t.descs c = s.descs c))))) ∧
  (∀ (s : State) (q : Fin 65536) (d : Desc), (s.descs q.val).find? s.fetchResumes = some d → fetches (s.qstate q.val) = true →
    s.flt.stopped = false → exec (.payloadFetchStart q) s = .next (s.issueReads q.val d)) ∧
  (∀ (s : State) (q : Fin 65536) (d : Desc) (need lim : Nat), (s.descs q.val).find? s.fetchResumes = none →
    (s.descs q.val).find? (fun d => d.phase == .waiting) = some d → need = gobsOf d.len →
    lim = s.get (R.QCTX q.val 0) F.QCTX_PBUF_MAX → fetches (s.qstate q.val) = true → s.flt.stopped = false →
    (lim = 0 ∨ s.get (R.QCTX q.val 3) F.QCTX_PBUF_USED + need ≤ lim) →
    (s.pbufFree < need → ∃ t, exec (.payloadFetchStart q) s = .next t ∧ q.val ∈ t.que.wait ∧ t.que.descs = s.que.descs) ∧
    (need ≤ s.pbufFree → (s.que.wait = [] ∨ s.que.wait.head? = some q.val) →
      (d.inl = true → s.gobTurn (s.gobRanges (s.pbufTake need).1 d.len) = none → exec (.payloadFetchStart q) s = .next s) ∧
      (d.inl = true → s.gobTurn (s.gobRanges (s.pbufTake need).1 d.len) ≠ none → ∃ t, exec (.payloadFetchStart q) s = .next t ∧
        q.val ∉ t.que.wait ∧ ((∀ g ∈ (s.pbufTake need).1, s.gstMapped (s.gobAddr g) = true) →
          t.descs q.val = replaceDesc (s.descs q.val) { d with gobs := (s.pbufTake need).1, phase := .whole } ∧
          t.que.pbuf = (s.pbufTake need).2.que.pbuf) ∧
        ((∃ g ∈ (s.pbufTake need).1, s.gstMapped (s.gobAddr g) = false) → ∀ x ∈ t.descs q.val, x.id ≠ d.id)) ∧
      (d.inl = false → d.len ≠ 0 → s.canMaster (s.qOwnerFn q.val) = true → s.fetchEngines < 512 →
        ∃ t, exec (.payloadFetchStart q) s = .next t ∧ q.val ∉ t.que.wait ∧
          (s.upPort (s.qOwnerPt q.val) = none → ∀ x ∈ t.descs q.val, x.id ≠ d.id) ∧
          (∀ p, s.upPort (s.qOwnerPt q.val) = some p → (t.descs q.val).map (·.id) = (s.descs q.val).map (·.id) ∧
            ∀ x ∈ t.descs q.val, x.id = d.id → x.phase = .fetching ∧ x.gobs = (s.pbufTake need).1)))) ∧
  (∀ (s : State) (q : Fin 65536) (d r : Nat) (x : Desc) (y : FetchRead) (st : CplStatus) (data : List Byte) (poison : Bool),
    (s.descs q.val).find? (fun x => x.id == d) = some x → x.reads.find? (fun y => y.no == r && y.issued) = some y →
    (st ≠ .sc ∨ poison = true → ∃ t, exec (.fetchReadCompletion q d r st data poison) s = .next t ∧
      t = (s.fetchStatus (s.qOwnerFn q.val) st poison).fetchErr q.val { x with reads := x.reads.filter (fun z => z.no != r) } ∧
      ∀ z ∈ t.descs q.val, z.id ≠ d) ∧
    (st = .sc → poison = false → s.gobTurn ((s.fetchPieces x.gobs y.off (data.take y.len)).map (fun e => (e.1, e.2.length))) = none →
      exec (.fetchReadCompletion q d r st data poison) s = .next s) ∧
    (st = .sc → poison = false → s.gobTurn ((s.fetchPieces x.gobs y.off (data.take y.len)).map (fun e => (e.1, e.2.length))) ≠ none →
      s.err = [] → x.gobs.all (fun g => s.gstMapped (s.gobAddr g)) = true → x.reads.filter (fun z => z.no != r) = [] → ∃ t, exec (.fetchReadCompletion q d r st data poison) s = .next t ∧
        t.descs q.val = replaceDesc (s.descs q.val) { x with reads := [], phase := .whole } ∧
        (∀ g, x.gobs = [g] → y.off + (data.take y.len).length ≤ 256 → ∀ (i : Nat) (b : Byte), (data.take y.len)[i]? = some b →
          t.byte (s.gobAddr g + y.off + i) = b)) ∧
    ((s.fnShared (s.qOwnerFn q.val)).ctoDis = true → exec (.fetchTimeout q d r) s = .next s) ∧
    ((s.fnShared (s.qOwnerFn q.val)).ctoDis = false → ∃ t, exec (.fetchTimeout q d r) s = .next t ∧
      t = (s.fnUncorr (s.qOwnerFn q.val) AB.TIMEOUT).fetchErr q.val { x with reads := x.reads.filter (fun z => z.no != r) } ∧
      ∀ z ∈ t.descs q.val, z.id ≠ d)) ∧
  (∀ (s : State) (q : Fin 65536) (d r : Nat), (s.descs q.val).find? (fun x => x.id == d) = none →
    ((s.fnShared (s.qOwnerFn q.val)).ctoDis = false → exec (.fetchTimeout q d r) s = .next (s.tagBack (s.qOwnerFn q.val))) ∧
    ∀ (st : CplStatus) (data : List Byte) (poison : Bool),
      (SMap.get s.prt.abandoned 0 (s.qOwnerFn q.val) ≠ 0 →
        exec (.fetchReadCompletion q d r st data poison) s = .next (s.tagBack (s.qOwnerFn q.val))) ∧
      (SMap.get s.prt.abandoned 0 (s.qOwnerFn q.val) = 0 →
        exec (.fetchReadCompletion q d r st data poison) s = .next (s.fnUncorr (s.qOwnerFn q.val) AB.UNEXPECTED)))

/-- R67, R68, R71, R73, R77: a whole payload goes to the lowest free lane, or its request ends when the slot holds no program; a delivery
reads its payload, frees the gobs, issues its writes and, once they are gone, its header; MOD_TIME sends the message due. -/
def Obligations.RequestsAreDispatchedAndPacketsDelivered : Prop :=
  (∀ (s : State) (q : Fin 65536) (d : Desc) (rest : List Desc), s.descs q.val = d :: rest → d.phase = .whole →
    fetches (s.qstate q.val) = true → s.flt.stopped = false →
    (∀ l, s.freeLane = some l → ∀ (p : QPkt) (slot : RegRef),
      p = ⟨d.id, s.globalQ q.val, d.tag, d.cmpl, d.len, d.mdat, d.fkey, 0, 0, s.qOrigin q.val 1, d.gobs, none, false, 0, 0⟩ →
      slot = R.JCK_SLOT (s.get (R.QCTX q.val 0) F.QCTX_JPROG) →
      (s.bitAct slot F.JCK_SLOT_VALID = true → s.getAct slot F.JCK_SLOT_LEN ≠ 0 →
        ∃ t, exec (.enqueueRequestDispatch q) s = .next t ∧ t.descs q.val = rest ∧
          t.que.jack = s.que.jack ++ [⟨l, p, s.actEpoch⟩] ∧ t.lane l = jackStart p (s.get (R.QCTX q.val 1) F.QCTX_DEF_DQ) ∧
          t.get R.QUE_REQSTAT F.QUE_REQSTAT_DISPATCHED =
            satAdd (s.get R.QUE_REQSTAT F.QUE_REQSTAT_DISPATCHED) 1 (2 ^ F.QUE_REQSTAT_DISPATCHED.w - 1)) ∧
      (s.bitAct slot F.JCK_SLOT_VALID = false ∨ s.getAct slot F.JCK_SLOT_LEN = 0 →
        ∃ t, exec (.enqueueRequestDispatch q) s = .next t ∧ t.descs q.val = rest ∧ t.que.jack = s.que.jack ∧ t.lane l = {} ∧
          t.que.pbuf = s.que.pbuf.filter (fun g => !d.gobs.contains g))) ∧
    (s.freeLane = none → s.que.wakeJack = none → ∃ t, exec (.enqueueRequestDispatch q) s = .next t ∧
      t.que.wakeJack = some q.val ∧ t.que.descs = s.que.descs ∧ t.que.jack = s.que.jack)) ∧
  (∀ (s : State) (d : Nat) (x : Delivery), s.del d = some x → x.phase = .reading → s.flt.stopped = false →
    s.goesRemote x.pkt = false → s.gobTurn (s.gobRanges x.pkt.gobs x.pkt.len) ≠ none → s.err = [] →
    ∃ t, exec (.deliveryRead d []) s = .next t ∧ t.que.pbuf = s.que.pbuf.filter (fun g => !x.pkt.gobs.contains g) ∧
      (x.pkt.gobs.all (fun g => s.gstMapped (s.gobAddr g)) = false →
        t.del d = some { x with err := true, toAdmit := [], phase := .writing }) ∧
      (x.pkt.gobs.all (fun g => s.gstMapped (s.gobAddr g)) = true → ∃ (ws : List (Nat × List Byte)) (k : Nat),
        (ws.map (·.2)).flatten = (s.readChain (s.qOrigin x.q 2) x.pkt.gobs x.pkt.len).1 ∧
        (∀ w ∈ ws, w.1 % 4096 + w.2.length ≤ 4096) ∧ k ≤ ws.length ∧
        t.del d = some { x with phase := .writing, toAdmit := ws.drop k, inFlight := x.inFlight + k })) ∧
  (∀ (s : State) (d : Nat) (x : Delivery), s.del d = some x → x.phase = .writing → x.toAdmit = [] → x.inFlight = 0 →
    (∀ y ∈ s.que.dels.takeWhile (fun y => y.id != d), y.q = x.q → y.phase = .header ∨ y.phase = .headerSent) →
    ∀ p, s.upPort (s.qOwnerPt x.q) = some p → s.portHeld p = false →
    s.canMaster (s.qOwnerFn x.q) = true → ∀ Q, Q = coqOfPort p (s.qTc x.q) →
    (s.admissible Q 1 = true → ∃ t k tl, exec (.rxHeaderIssue d) s = .next t ∧ t.coq Q = s.coq Q ++ [k] ∧ k.role = .header d ∧
      k.body = .tlp tl ∧ tl.kind = .memWr ∧ tl.data = rxHeader x ∧
      tl.addr = s.get (R.QUE_RXCFG x.q) F.QUE_RXCFG_RX_BASE * 2 ^ 12 + x.slot * s.slotSize x.q ∧
      t.del d = some { x with phase := .header }) ∧
    (s.admissible Q 1 = false → exec (.rxHeaderIssue d) s = .next s)) ∧
  (∀ (s : State) (q : Fin 65536) (rx : Bool) (n f v : Nat), n = SMap.get (if rx then s.que.rxMod else s.que.cqMod) 0 q.val →
    f = s.qOwnerFn q.val → v = s.getAct (R.QUE_IRQCFG q.val) (if rx then F.QUE_IRQCFG_RX_VEC else F.QUE_IRQCFG_CQ_VEC) →
    (n = 0 ∨ s.getAct (R.QUE_IRQCFG q.val) F.QUE_IRQCFG_MOD_TIME = 0 → exec (.modTimeExpiry q rx) s = .next s) ∧
    (n ≠ 0 → s.getAct (R.QUE_IRQCFG q.val) F.QUE_IRQCFG_MOD_TIME ≠ 0 → ∃ t, exec (.modTimeExpiry q rx) s = .next t ∧
      SMap.get (if rx then t.que.rxMod else t.que.cqMod) 0 q.val = 0 ∧
      (∀ pt, v < msixVectors f → s.fnPt f = some pt →
        (s.msixBlocked f v = true → t.pendingBit f v = true) ∧
        (∀ p Q, s.msixBlocked f v = false → s.upPort pt = some p → s.portHeld p = false → Q = coqOfPort p (s.qTc q.val) →
          s.cru.epHeld = [] → s.admissible Q 1 = true → ∃ k, t.coq Q = s.coq Q ++ [k] ∧ k.role = .msix f v))))

/-! ### Queue states, locks and the scheduler (R59, R80 to R97, R470) -/

/-- R59, R80 to R82, R85, R86: a state command moves every queue it names, or none and sets BADCMD; a flush ends what a queue holds; a
context record is read and written whole; locks are granted, renewed, released and forced. -/
def Obligations.QueuesChangeStateByCommandAndLock : Prop :=
  (∀ (s : State) (o : Origin) (q : Fin 65536) (set : Bool),
    (∀ e ∈ [(Instr.queueEnable, [QS.DISABLED, QS.FROZEN, QS.DRAINED], QS.ACTIVE), (Instr.queueFreeze, [QS.ACTIVE], QS.FROZEN),
        (Instr.queueDrain, [QS.ACTIVE, QS.FROZEN], QS.DRAINING), (Instr.queueDisable, [QS.DRAINED], QS.DISABLED)],
      ((∀ c ∈ named q.val set, s.qstate c ∈ e.2.1 ∧ s.lockedOut c o.toNat = false) → ∃ t, exec (e.1 o q set) s = .next t ∧
        Only ((named q.val set).map (fun c => R.QCTX c 0)) s t ∧
        ∀ c ∈ named q.val set, t.qstate c = e.2.2 ∧ t.qOwnerFn c = s.qOwnerFn c ∧ t.qOwnerPt c = s.qOwnerPt c) ∧
      (∀ c ∈ named q.val set, s.qstate c ∉ e.2.1 ∨ s.lockedOut c o.toNat = true →
        exec (e.1 o q set) s = .next (s.setBit R.QUE_STATUS F.QUE_STATUS_BADCMD))) ∧
    ((∀ c ∈ named q.val set, s.qstate c ∈ [QS.ACTIVE, QS.FROZEN, QS.DRAINING, QS.HELD] ∧ s.lockedOut c o.toNat = false) →
      ∃ t, exec (.queueFlush o q set) s = .next t ∧ ∀ c ∈ named q.val set, t.descs c = [] ∧ t.linked c = [] ∧
        (s.qstate c ≠ QS.HELD → t.qstate c = QS.DRAINED) ∧ (s.qstate c = QS.HELD → t.qstate c = QS.HELD)) ∧
    (∀ c ∈ named q.val set, s.qstate c ∉ [QS.ACTIVE, QS.FROZEN, QS.DRAINING, QS.HELD] ∨ s.lockedOut c o.toNat = true →
      exec (.queueFlush o q set) s = .next (s.setBit R.QUE_STATUS F.QUE_STATUS_BADCMD)) ∧
    (s.drainDone q.val = true → ∃ t, exec (.queueDrained q) s = .next t ∧ Only [R.QCTX q.val 0] s t ∧ t.qstate q.val = QS.DRAINED) ∧
    (s.drainDone q.val = false → exec (.queueDrained q) s = .next s)) ∧
  (∀ (s : State) (o : Origin) (q w0 w1 w2 : Nat), q = s.get R.QUE_CTXSEL F.QUE_CTXSEL_QUEUE → w0 = s.rd (R.QUE_CTXDATA 0) →
    w1 = s.rd (R.QUE_CTXDATA 1) → w2 = s.rd (R.QUE_CTXDATA 2) →
    (∃ t, exec (.ctxRead o) s = .next t ∧ Only ((List.range 8).map R.QUE_CTXDATA) s t ∧
      ∀ i, i < 8 → t.rd (R.QUE_CTXDATA i) = s.rd (R.QCTX q i) % 2 ^ 64) ∧
    (s.qstate q = QS.DISABLED → fieldOf w0 28 7 ≤ 96 → fieldOf w2 0 13 ≠ 0 → fieldOf w2 0 13 ≤ 4096 → fieldOf w1 20 14 ≤ 16383 →
      s.lockedOut q o.toNat = false → ∃ t, exec (.ctxWrite o) s = .next t ∧
        Only [R.QCTX q 0, R.QCTX q 1, R.QCTX q 2] s t ∧ t.rd (R.QCTX q 0) = ctxWord 0 w0 QS.DISABLED ∧
        t.rd (R.QCTX q 1) = ctxWord 1 w1 0 ∧ t.rd (R.QCTX q 2) = ctxWord 2 w2 0) ∧
    (s.qstate q ≠ QS.DISABLED ∨ 96 < fieldOf w0 28 7 ∨ fieldOf w2 0 13 = 0 ∨ 4096 < fieldOf w2 0 13 ∨ s.lockedOut q o.toNat = true →
      exec (.ctxWrite o) s = .next (s.setBit R.QUE_STATUS F.QUE_STATUS_CFG_REFUSED))) ∧
  (∀ (s : State) (o : Origin) (q : Fin 65536) (dl : BitVec 16) (bad : State), bad = s.setBit R.QUE_STATUS F.QUE_STATUS_BADCMD →
    (s.qlock q.val = none → exec (.queueLockRenew o q dl) s = .next bad ∧ exec (.queueLockRelease o q) s = .next bad ∧
      ∃ t, exec (.queueLockAcquire o q dl) s = .next t ∧ t.qlock q.val = some ⟨o.toNat, dl.toNat, false⟩ ∧
        ∀ c : Nat, c ≠ q.val → t.qlock c = s.qlock c) ∧
    (∀ l, s.qlock q.val = some l → exec (.queueLockAcquire o q dl) s = .next bad ∧
      (l.holder ≠ o.toNat → exec (.queueLockRenew o q dl) s = .next bad ∧ exec (.queueLockRelease o q) s = .next bad) ∧
      (l.holder = o.toNat →
        (∃ t, exec (.queueLockRenew o q dl) s = .next t ∧ t.qlock q.val = some ⟨l.holder, dl.toNat, false⟩ ∧ t.regs = s.regs) ∧
        (∃ t, exec (.queueLockRelease o q) s = .next t ∧ t.qlock q.val = none ∧ t.regs = s.regs)))) ∧
  (∀ (s : State) (origin mask : BitVec 32), ∃ t, exec (.queLockforce origin mask) s = .next t ∧ t.regs = s.regs ∧
    (∀ (q : Nat) (l : Lease), t.qlock q = some l → Nat.land l.holder mask.toNat ≠ Nat.land origin.toNat mask.toNat) ∧
    (∀ (q : Nat) (l : Lease), s.qlock q = some l → Nat.land l.holder mask.toNat ≠ Nat.land origin.toNat mask.toNat →
      t.qlock q = some l))

/-- R88, R90, R94 to R97, R470: a decision selects a packet and charges its path; a packet is named, dropped at dequeue or left; a refill
tick fills every bucket up to its BURST. -/
def Obligations.TheSchedulerDecidesNamesAndRefills : Prop :=
  (∀ (s : State) (pl : Fin 32),
    (s.bit R.SCH_CTL F.SCH_CTL_ENABLE = false ∨ s.flt.stopped = true ∨ s.nextPortNode pl.val = none →
      exec (.dequeueDecision pl) s = .next s) ∧
    (∀ (p v u q : Nat) (s0 s1 s2 s3 : State) (pk : QPkt), s.bit R.SCH_CTL F.SCH_CTL_ENABLE = true → s.flt.stopped = false →
      s.nextPortNode pl.val = some p → s0 = { s with sch := { s.sch with served := SMap.set s.sch.served 0 pl.val (p + 1) } } →
      s0.selectChild (portNode p) (fun c => s0.svcEligible (c - 65536)) = (some v, s1) →
      s1.selectChild (v - 65536) (fun c => s1.subEligible (c - 65536)) = (some u, s2) →
      s2.selectChild (u - 65536) s2.queueEligible = (some q, s3) → s3.nextOf q = some pk →
      q < 65536 → 65536 ≤ u → u < v → v < 65536 + nodeCount → p < 512 →
      ∃ (t : State) (d : Decision), exec (.dequeueDecision pl) s = .next t ∧ t.que.decs = s.que.decs ++ [d] ∧ d.pipe = pl.val ∧ d.pnode = p ∧
        d.queue = q ∧ d.pktId = pk.id ∧ d.len = pk.len ∧ d.epoch = s.schEpoch ∧
        d.charged = ([u - 65536, v - 65536, portNode p].filter s.shaped).map (fun n => (n, s.shapeUnits n pk.len)) ∧
        (∀ c ∈ [q, u, v], t.deficit c = s3.deficit c - (pk.len : Nat)) ∧
        (-131072 ≤ s.portCredit p - (gobsOf pk.len : Nat) → t.portCredit p = s.portCredit p - (gobsOf pk.len : Nat)) ∧
        t.mem = s.mem ∧ t.que.linked = s.que.linked)) ∧
  (∀ (s : State) (pl : Fin 32) (d : Decision) (s0 : State), s.que.decs.find? (fun d => d.pipe == pl.val) = some d → d.queue < 65536 →
    d.pnode < 512 → (∀ e ∈ d.charged, e.1 < nodeCount) →
    s0 = { s with que := { s.que with decs := s.que.decs.filter (fun e => !(e.queue == d.queue && e.pktId == d.pktId)) } } →
    (((s.linked d.queue).find? (fun p => p.id == d.pktId) = none ∨ s.qstate d.queue = QS.HELD) →
      exec (.dequeueName pl) s = .next (s0.undoDecision d)) ∧
    (∀ p, (s.linked d.queue).find? (fun p => p.id == d.pktId) = some p → s.dequeueDrop d p = none → s.cannotDeliver d p = true →
      exec (.dequeueName pl) s = .next (s0.undoDecision d)) ∧
    (∀ p, (s.linked d.queue).find? (fun p => p.id == d.pktId) = some p → s.qstate d.queue ≠ QS.HELD →
      s.dequeueDrop d p ≠ none ∨ s.cannotDeliver d p = false →
      ∃ t, exec (.dequeueName pl) s = .next t ∧ t.que.decs = s0.que.decs ∧
        t.linked d.queue = (s.linked d.queue).filter (fun x => x.id != p.id) ∧
        (s.dequeueDrop d p = none → t.get R.SCH_DECSTAT F.SCH_DECSTAT_DECISIONS =
            satAdd (s.get R.SCH_DECSTAT F.SCH_DECSTAT_DECISIONS) 1 (2 ^ F.SCH_DECSTAT_DECISIONS.w - 1) ∧
          ∃ x : Delivery, t.que.dels = s.que.dels ++ [x] ∧ x.q = d.queue ∧ x.pkt = p ∧ x.phase = .reading ∧
            (s.goesRemote p = false → x.slot = s.claim d.queue ∧ x.slots = s.slotsFor d.queue p.len ∧
              t.claim d.queue = (s.claim d.queue + s.slotsFor d.queue p.len) % s.ringSize d.queue)) ∧
        (∀ st, s.dequeueDrop d p = some st → t.que.dels = s.que.dels ∧
          t.que.pbuf = s.que.pbuf.filter (fun g => !p.gobs.contains g) ∧
          t.get R.SCH_DECSTAT F.SCH_DECSTAT_DEQDROPS =
            satAdd (s.get R.SCH_DECSTAT F.SCH_DECSTAT_DEQDROPS) 1 (2 ^ F.SCH_DECSTAT_DEQDROPS.w - 1)) ∧
        (s.pathOk d p = false → ∃ r, t.reports = s.reports ++ [r] ∧ r.code = FC.SCH_PATH ∧ r.kind = UK.queue ∧ r.index = d.queue ∧
          r.detail = d.pnode))) ∧
  (∀ (s : State), ∃ t, exec .refillTick s = .next t ∧ t.que = s.que ∧ t.mem = s.mem ∧ ∀ n, n < nodeCount →
    t.rdAct (R.SCH_SHAPE n) = s.rd (R.SCH_SHAPE n) ∧ t.rd (R.SCH_SHAPE n) = s.rd (R.SCH_SHAPE n) ∧
    t.bucket n = min (s.bucket n + (s.get (R.SCH_SHAPE n) F.SCH_SHAPE_RATE : Nat)) (s.get (R.SCH_SHAPE n) F.SCH_SHAPE_BURST : Nat))

/-! ### Side bridge (R324 to R337) -/

/-- R324 to R336: accesses that decode enter their queue with a tag or a write sequence number, or wait; a word that is prefetched serves each
byte once; transfers start in their turn, with the words
of the lath bus or the transaction of a side bus, and end with a status that answers the requester or stands in the late-error log; polling,
prefetch expiry, GPIO levels and region records follow their rules. -/
def Obligations.SideAccessesAreQueuedTransferredAndAnswered : Prop :=
  (∀ (s s1 u : State) (m : Master) (a : BitVec 32) (k : Fin 4) (n A o w : Nat) (ok : Bool), n = 2 ^ k.val → A = a.toNat / n * n →
    o = s.masterOrigin m → w = (sideOf m).no → s.mayReach m false → s.gateArrive gateSide A n AK.read o w = (ok, s1) →
    u = s1.gateFree gateSide A n AK.read o w →
    (ok = false → exec (.sideRead m a k) s = .next (s1.replyFail m .ca)) ∧
    (ok = true → s1.sideDecode A n = none → exec (.sideRead m a k) s = .next (u.replyFail m .ur)) ∧
    (∀ d, ok = true → s1.sideDecode A n = some d →
      (∀ b, d.2.2 ≠ 0 → bitOf d.2.1 41 = true → s1.prefHit A n = some b → ∃ t : State,
        exec (.sideRead m a k) s = .next (t.replyRead m (fieldOf b.data (8 * (A % 8)) (8 * n)) n) ∧ t.out = u.out ∧ t.lth.reqs = u.lth.reqs ∧
        (∀ x ∈ t.lth.pref, x = b ∨ x ∈ s1.lth.pref ∨ x = { b with served := Nat.lor b.served (byteMask A n) }) ∧
        t.get R.LTH_PREFDISC F.LTH_PREFDISC_HITS =
          satAdd (s1.get R.LTH_PREFDISC F.LTH_PREFDISC_HITS) 1 (2 ^ F.LTH_PREFDISC_HITS.w - 1)) ∧
      (d.2.2 = 0 ∨ bitOf d.2.1 41 = false ∨ s1.prefHit A n = none →
        (s1.sideTags = 0 → exec (.sideRead m a k) s = .next (s1.gateBind gateSide A n AK.read o w)) ∧
        (s1.sideTags ≠ 0 → ∃ (t : State) (r : SideReq), exec (.sideRead m a k) s = .next t ∧ t.lth.reqs = s1.lth.reqs ++ [r] ∧
          r.write = false ∧ r.addr = A ∧ r.size = n ∧ r.q = d.1 ∧ r.origin = o ∧ r.who = sideOf m ∧ r.running = false ∧
          t.out = s1.out ∧ t.regs = s1.regs)))) ∧
  (∀ (s s1 u : State) (m : Master) (a : BitVec 32) (k : Fin 4) (v : BitVec 64) (n A o w : Nat) (ok : Bool), n = 2 ^ k.val →
    A = a.toNat / n * n → o = s.masterOrigin m → w = (sideOf m).no → s.mayReach m true → s.gateArrive gateSide A n AK.write o w = (ok, s1) →
    u = s1.gateFree gateSide A n AK.write o w →
    (ok = false → (∀ h x, m = .host h x → exec (.sideWrite m a k v) s = .next s1) ∧
      (∀ c, m = .core c → exec (.sideWrite m a k v) s = .next (s1.storeErr c.val (4 * 2 ^ 48 + A) 0))) ∧
    (ok = true → s1.sideDecode A n = none →
      (∀ h x, m = .host h x → exec (.sideWrite m a k v) s = .next (u.fnUnsupported (oFn h.toNat))) ∧
      (∀ c, m = .core c → exec (.sideWrite m a k v) s = .next (u.storeErr c.val (4 * 2 ^ 48 + A) 2))) ∧
    (∀ d p, ok = true → s1.sideDecode A n = some d → p = sidePosted d.2.1 d.2.2 → (∀ r ∈ s1.lth.reqs, r.id < s1.lth.nextId) →
      ((if p then s1.sidePostedFree else s1.sideTags) = 0 →
        exec (.sideWrite m a k v) s = .next (s1.gateBind gateSide A n AK.write o w)) ∧
      ((if p then s1.sidePostedFree else s1.sideTags) ≠ 0 → ∃ (t : State) (r : SideReq), exec (.sideWrite m a k v) s = .next t ∧
        t.lth.reqs = s1.lth.reqs ++ [r] ∧ r.write = true ∧ r.addr = A ∧ r.size = n ∧ r.data = v.toNat % 2 ^ (8 * n) ∧ r.q = d.1 ∧
        r.posted = p ∧ r.wsn = s1.get R.LTH_STATUS F.LTH_STATUS_NEXT_WSN ∧
        t.get R.LTH_STATUS F.LTH_STATUS_NEXT_WSN = (s1.get R.LTH_STATUS F.LTH_STATUS_NEXT_WSN + 1) % 65536 ∧
        t.out = (if p then .writeDone :: s1.out else s1.out) ∧ ∀ x ∈ t.lth.pref, x.word ≠ A / 8))) ∧
  (∀ (s : State) (c : Fin 32) (a : BitVec 32) (k : Fin 4) (v : BitVec 64), (s.core c.val).deviceWaits = true →
    exec (.sideRead (.core c) a k) s = .next s ∧ exec (.sideWrite (.core c) a k v) s = .next s) ∧
  (∀ (s : State),
    ((s.lth.reqs.any (fun r => r.running && decide (r.q < 4)) = true ∨ ∀ q, q < 4 → s.sideHead q = none) →
      exec .lathTransfer s = .next s) ∧
    (∀ b : Fin 8, (s.sideHead (4 + b.val) = none ∨ (∃ r, s.sideHead (4 + b.val) = some r ∧ r.running = true)) →
      exec (.sideBusTransfer b) s = .next s) ∧
    (∀ (q : Nat) (r : SideReq) (i : Instr), s.sideHead q = some r → s.sideOff r = false →
      ((q < 4 ∧ i = .lathTransfer ∧ s.lth.reqs.any (fun r => r.running && decide (r.q < 4)) = false ∧
          ((List.range 4).map (fun i => (s.lth.last + i) % 4)).find? (fun q => (s.sideHead q).isSome) = some q) ∨
        (∃ b : Fin 8, q = 4 + b.val ∧ i = .sideBusTransfer b ∧ r.running = false)) →
      ∃ t, exec i s = .next t ∧ t.lth.reqs = s.lth.reqs.map (fun x => if x.id = r.id then { x with running := true } else x) ∧
        t.regs = s.regs ∧ (i = .lathTransfer → t.lth.last = (q + 1) % 4) ∧ ∀ (a n : Nat),
        a = (if r.pref && !r.write then r.addr / 8 * 8 else r.addr) → n = (if r.pref && !r.write then 8 else r.size) →
        (r.rgn ≠ 0 → t.out = .lath r.q (fieldOf r.cfg 32 8) (lathWords r.write (a - rgnBase r.cfg) n)
          (if r.write then leBytes r.data n else []) :: s.out) ∧
        (r.rgn = 0 → ∀ mode, mode = fieldOf r.cfg 1 2 → t.out = .sideBus (q - 4) mode (decide (mode ≠ 3) && bitOf r.cfg 3) r.write
          (if mode = 3 then .i3c n else if n = 1 then .byte else if n = 2 then .word else .block n) (fieldOf a 16 7) (fieldOf a 8 8)
          (if r.write then leBytes r.data n else []) :: s.out))) ∧
  (∀ (w : Bool) (a n : Nat), lathWords w a n =
    [bit01 w * 2 ^ 15 + (if n = 4 then 1 else if n = 8 then 3 else max 1 (n / 2) - 1) * 2 ^ 13 +
      (if n = 1 then (if a % 2 = 0 then 1 else 2) else 3) * (2 ^ 11 + 2 ^ 9), a / 2 ^ 16 % 2 ^ 8, a % 2 ^ 16 - a % 2]) ∧
  (∀ (s : State) (q : Fin 12) (st : Fin 8) (data : BitVec 64),
    (s.sideHead q.val = none → exec (.sideTransferDone q st data) s = .next s) ∧
    (∀ r, s.sideHead q.val = some r →
      (r.running = false → exec (.sideTransferDone q st data) s = .next s) ∧
      (r.running = true → ∀ u : State, u = { s with lth := { s.lth with reqs := s.lth.reqs.filter (fun x => x.id != r.id) } } →
        (∀ x, r.who = .host x → r.write = false →
          (st.val ≠ SS.OK → exec (.sideTransferDone q st data) s = .next (u.replyFail (.host (.ofNat 32 r.origin) x) .ca)) ∧
          (st.val = SS.OK → r.pref = false → exec (.sideTransferDone q st data) s =
            .next (u.replyRead (.host (.ofNat 32 r.origin) x) (data.toNat % 2 ^ (8 * r.size)) r.size))) ∧
        (∀ c, r.who = .core c → r.write = false →
          (st.val ≠ SS.OK → exec (.sideTransferDone q st data) s = .next (u.emit .accessError)) ∧
          (st.val = SS.OK → r.pref = false →
            exec (.sideTransferDone q st data) s = .next (u.emit (.readData (data.toNat % 2 ^ (8 * r.size)))))) ∧
        (∀ c, r.who = .core c → r.write = true → r.posted = false → st.val ≠ SS.OK →
          exec (.sideTransferDone q st data) s = .next (u.storeErr c (4 * 2 ^ 48 + r.addr) 2)) ∧
        ∃ t, exec (.sideTransferDone q st data) s = .next t ∧
        (∀ x ∈ t.lth.reqs, x ∈ s.lth.reqs ∧ x.id ≠ r.id) ∧
        (∀ x, r.who = .host x → r.write = true → st.val = SS.OK → t.out = (if r.posted then s.out else .writeDone :: s.out)) ∧
        (∀ c, r.who = .store c → r.write = true → r.posted = false → st.val = SS.OK →
          (t.core c).sb = (s.core c).sb.filter (fun e => e.sent != r.id + 1)) ∧
        (r.write = true → r.posted = true → st.val ≠ SS.OK → ∃ x, t.reports = s.reports ++ [x] ∧ x.code = FC.LTH_WRFAIL ∧
          x.detail = r.wsn ∧ ∀ i, (List.range 16).find? (fun i => !s.bit (R.LTH_LELOGA i) F.LTH_LELOGA_VALID) = some i →
            t.rd (R.LTH_LELOGA i) = r.addr % 2 ^ 32 + st.val * 2 ^ 32 + 2 ^ 62)))) ∧
  (∀ (s : State) (e : Fin 16) (r : RegRef), r = R.LTH_POLL e.val →
    (s.bit r F.LTH_POLL_EN = false → exec (.pollRead e) s = .next s) ∧
    (s.bit r F.LTH_POLL_EN = true →
      (s.bit r F.LTH_POLL_SRC = true → ∃ t, exec (.pollRead e) s = .next t ∧
        t.rd (R.LTH_POLLVAL e.val) = s.rd R.LTH_GPIOIN % 2 ^ 64 ∧
        ∀ mask old new, mask = s.rd (R.LTH_POLLMASK e.val) % 2 ^ 64 → old = Nat.land (s.rd (R.LTH_POLLVAL e.val)) mask →
          new = Nat.land (s.rd R.LTH_GPIOIN) mask →
          bitOf (t.get R.LTH_POLLSTAT F.LTH_POLLSTAT_PEND) e.val =
            (bitOf (s.get R.LTH_POLLSTAT F.LTH_POLLSTAT_PEND) e.val ||
              (if s.get r F.LTH_POLL_MODE = 0 then new != old else new != 0))) ∧
      (s.bit r F.LTH_POLL_SRC = false → ∀ n A, n = 2 ^ s.get r F.LTH_POLL_SIZE → A = s.get r F.LTH_POLL_ADDR / n * n →
        (s.sideDecode A n = none → ∃ t, exec (.pollRead e) s = .next t ∧
          bitOf (t.get R.LTH_POLLSTAT F.LTH_POLLSTAT_ERR) e.val = true ∧ t.lth = s.lth) ∧
        (∀ d, s.sideDecode A n = some d → d.2.2 = 0 ∨ bitOf d.2.1 41 = false → s.sideTags ≠ 0 →
          ∃ (t : State) (x : SideReq), exec (.pollRead e) s = .next t ∧ t.lth.reqs = s.lth.reqs ++ [x] ∧ x.who = .poll e.val ∧
            x.write = false ∧ x.addr = A ∧ x.size = n ∧ x.q = d.1)))) ∧
  (∀ (s : State) (w : BitVec 29) (g v : BitVec 64) (r : Fin 16) (z : Nat), z = putField v.toNat 53 11 0 →
    (∃ t, exec (.prefetchExpiry w) s = .next t ∧ t.lth.pref = s.lth.pref.filter (fun b => !(b.word == w.toNat)) ∧
      t.lth.reqs = s.lth.reqs ∧ t.get R.LTH_PREFDISC F.LTH_PREFDISC_DISCARDS = satAdd (s.get R.LTH_PREFDISC F.LTH_PREFDISC_DISCARDS)
        (s.lth.pref.filter (fun b => b.word == w.toNat && b.served != 255)).length (2 ^ F.LTH_PREFDISC_DISCARDS.w - 1)) ∧
    (∃ t, exec (.gpioInputChange g) s = .next t ∧ Only [R.LTH_GPIOIN] s t ∧ t.rd R.LTH_GPIOIN = g.toNat) ∧
    ((∃ i, i < 16 ∧ i ≠ r.val ∧ fieldOf z 0 1 = 1 ∧ fieldOf (s.rd (R.LTH_RGN i)) 0 1 = 1 ∧
        rgnBase (s.rd (R.LTH_RGN i)) < rgnBase z + 2 ^ rgnLog2 z ∧
        rgnBase z < rgnBase (s.rd (R.LTH_RGN i)) + 2 ^ rgnLog2 (s.rd (R.LTH_RGN i))) →
      exec (.lthRgnWrite r v) s = .next (s.setBit R.LTH_STATUS F.LTH_STATUS_CFG_REFUSED)) ∧
    ((∀ i, i < 16 → i ≠ r.val → fieldOf z 0 1 = 0 ∨ fieldOf (s.rd (R.LTH_RGN i)) 0 1 = 0 ∨
        rgnBase z + 2 ^ rgnLog2 z ≤ rgnBase (s.rd (R.LTH_RGN i)) ∨
        rgnBase (s.rd (R.LTH_RGN i)) + 2 ^ rgnLog2 (s.rd (R.LTH_RGN i)) ≤ rgnBase z) →
      ∃ t, exec (.lthRgnWrite r v) s = .next t ∧ t.rd (R.LTH_RGN r.val) = z ∧ t.rdAct (R.LTH_RGN r.val) = z ∧
        t.lth.pref = s.lth.pref.filter (fun b => !(b.rgn == r.val)) ∧
        ∀ i, i < 16 → i ≠ r.val → t.rd (R.LTH_RGN i) = s.rd (R.LTH_RGN i)))

/-! ### Registers (R11 to R15, R61, R148, R462) -/

/-- R11 to R15, R34, R133, R148: REG_READ and REG_WRITE answer a next state. An access of control space that its gate denies, or of a wrong
size or alignment, is answered with an error; while the block's lehr step is held a read gives the reset view and a write is dropped; where no
register lies a read gives zero; a register reads as it stands and a write puts its bytes into it and nothing else; a commit register ignores
a write of half of it; a core's access waits for the device stores buffered before it. A write of a doorbell page is a doorbell (R60). -/
def Obligations.RegistersAreReadAndWrittenUnderTheirGate : Prop :=
  (∀ (s s1 u : State) (m : Master) (a : BitVec 26) (len : Fin 4097) (o A w who : Nat), o = s.masterOrigin m → A = a.toNat → w = A / 8 * 8 →
    who = (sideOf m).no → s.mayReach m false → (∀ h x, m = .host h x → oFn h.toNat = 0) →
    u = s1.gateFree (controlGate A) A len.val AK.read o who →
    (s.controlAllowed o who A len.val AK.read = (false, s1) → exec (.regRead m .bar0 a len) s = .next (s1.replyFail m .ca)) ∧
    (s.controlAllowed o who A len.val AK.read = (true, s1) → CountsOnly s s1 ∧
      (badAccess A len.val = true → exec (.regRead m .bar0 a len) s =
        .next (((s1.report FC.REG_ALIGN UK.module 0 o 0 A).gateFree (controlGate A) A len.val AK.read o who).replyFail m .ca)) ∧
      (badAccess A len.val = false → sideWindow A = false → 0x1000 ≤ A → tileOf A = none →
        ¬ (0xE00000 ≤ A ∧ A < 0xE08100) → ¬ (0x2E00000 ≤ A ∧ A < 0x2E20000) →
        (∀ x, s1.memWindow A = none → s1.stepHeld ((regionStep A).getD 0) = true → regAt w = some x → hostFrame w = false →
          exec (.regRead m .bar0 a len) s = .next (u.replyRead m (partOf (s1.resetView x) A len.val) len.val)) ∧
        (s1.stepHeld ((regionStep A).getD 0) = false →
          (∀ b, s1.memWindow A = some b → exec (.regRead m .bar0 a len) s = .next (u.replyRead m (s1.word b len.val) len.val)) ∧
          (s1.memWindow A = none →
            (regAt w = none → exec (.regRead m .bar0 a len) s = .next (u.replyRead m 0 len.val)) ∧
            (∀ x, regAt w = some x → hostFrame w = false → s1.caneOff x = false → x.card.reg ≠ .CMD_ALLOC →
              (∀ f ∈ x.card.fields, f.acc ≠ .wo ∧ f.acc ≠ .rc) → s1.computed o x.card.reg x.i = [] →
              exec (.regRead m .bar0 a len) s = .next (u.replyRead m (partOf (s1.rd x.ref) A len.val) len.val))))))) ∧
  (∀ (s s1 u : State) (m : Master) (a : BitVec 26) (len : Fin 4097) (v : BitVec 64) (o A w who mask wide : Nat), o = s.masterOrigin m →
    A = a.toNat → w = A / 8 * 8 → who = (sideOf m).no → s.mayReach m true → (∀ h x, m = .host h x → oFn h.toNat = 0) →
    mask = coverMask A len.val → wide = v.toNat % 2 ^ (8 * len.val) * 2 ^ (8 * (A % 8)) →
    u = s1.gateFree (controlGate A) A len.val AK.write o who →
    (s.controlAllowed o who A len.val AK.write = (false, s1) →
      (∀ h x, m = .host h x → exec (.regWrite m .bar0 a len v) s = .next s1) ∧
      (∀ c, m = .core c → exec (.regWrite m .bar0 a len v) s = .next (s1.emit .accessError))) ∧
    (s.controlAllowed o who A len.val AK.write = (true, s1) → CountsOnly s s1 ∧
      (badAccess A len.val = true → ∃ t, exec (.regWrite m .bar0 a len v) s = .next t ∧ t.regs = s1.regs ∧ t.mem = s1.mem ∧
        t.reports = s1.reports ++ [⟨FC.REG_ALIGN, UK.module, 0, o, 0, A, s1.now, false⟩]) ∧
      (badAccess A len.val = false → sideWindow A = false → s1.stepHeld ((regionStep A).getD 0) = true →
        exec (.regWrite m .bar0 a len v) s = .next (u.emit .writeDone)) ∧
      (badAccess A len.val = false → s1.stepHeld ((regionStep A).getD 0) = false → sideWindow A = false → 0x1000 ≤ A → tileOf A = none →
        ¬ (0xE00000 ≤ A ∧ A < 0xE08100) → ¬ (0x2E00000 ≤ A ∧ A < 0x2E20000) → s1.memWindow A = none →
        (regAt w = none → exec (.regWrite m .bar0 a len v) s = .next (u.emit .writeDone)) ∧
        (∀ x, regAt w = some x → hostFrame w = false →
          (∀ t, s1.writeReg (.ofNat 32 o) x mask wide = (true, t) → exec (.regWrite m .bar0 a len v) s =
            .next ((t.gateFree (controlGate A) A len.val AK.write o who).emit .writeDone)) ∧
          (∀ t, s1.writeReg (.ofNat 32 o) x mask wide = (false, t) → exec (.regWrite m .bar0 a len v) s =
            .next (t.gateBind (controlGate A) A len.val AK.write o who)) ∧
          (s1.caneOff x = true → exec (.regWrite m .bar0 a len v) s = .next (u.emit .writeDone)) ∧
          (s1.caneOff x = false → x.card.commit = true → len.val = 4 → exec (.regWrite m .bar0 a len v) s = .next
            (((s1.report FC.REG_WIDTH UK.module 0 (o % 2 ^ 32) 0 x.ref.addr).gateFree (controlGate A) A len.val AK.write o who).emit .writeDone)) ∧
          (s1.caneOff x = false → x.card.commit = false → banked x = false → s1.quiet x.card.reg x.i = true →
            x.card.reg ∉ ([.GST_FNPOOL, .GST_POOLMAP, .PRT_OCTCFG, .GAF_DEBUG, .QEP_NODEOWN, .CMD_ARG, .FLT_CODECFG, .EMB_WDCFG, .PWR_SHEDSTAT,
              .LTH_RGN, .TAL_SMPPTR, .MBX_CFG, .CRU_RETADD, .GST_RETADD, .CRU_COQCFG, .CRU_HOLDTO, .PTN_CFG, .SCH_CTL, .FTX_CTL, .PRT_CTL,
              .LNE_OCTCTL, .PRT_SLOT, .SLT_CTL, .CAN_CRDCFG, .PWR_FEEDCFG, .PWR_CTL, .HLD_CFG, .MON_THR, .TAL_SMPCFG, .EMB_CLKFORCE,
              .RST_CTL] : List Reg) →
            exec (.regWrite m .bar0 a len v) s = .next
              (((s1.wr x.ref (writeValue x.card true false (s1.bankPending x) (s1.rd x.ref) mask wide).1).gateFree (controlGate A) A len.val
                AK.write o who).emit .writeDone)) ∧
          (s1.caneOff x = false → banked x = false →
            (x.card = Card.QUE_CTXDATA ∨ x.card = Card.LTH_GPIOOE ∨ x.card = Card.LTH_GPIOOUT ∨ x.card = Card.MBX_TXMSG) →
            ∃ t, exec (.regWrite m .bar0 a len v) s = .next t ∧ Only [x.ref] u { t with out := s1.out } ∧
              t.out = .writeDone :: s1.out ∧
              (len.val = 8 → t.rd x.ref = v.toNat) ∧
              (len.val = 4 → A % 8 = 0 → t.rd x.ref = s1.rd x.ref % 2 ^ 64 / 2 ^ 32 * 2 ^ 32 + v.toNat % 2 ^ 32) ∧
              (len.val = 4 → A % 8 = 4 → t.rd x.ref = s1.rd x.ref % 2 ^ 32 + v.toNat % 2 ^ 32 * 2 ^ 32)))))) ∧
  (∀ (s : State) (c : Fin 32) (b : BarRef) (a : BitVec 26) (len : Fin 4097) (v : BitVec 64), (s.core c.val).deviceWaits = true →
    exec (.regRead (.core c) b a len) s = .next s ∧ exec (.regWrite (.core c) b a len v) s = .next s) ∧
  (∀ (s u : State) (o : Origin) (x : Txn) (a : BitVec 26) (len : Fin 4097) (v : BitVec 64), a.toNat < 2 ^ 24 → inBlocks a.toNat = false →
    exec (.doorbellWrite o (Fin.ofNat 65536 (pageQueue a.toNat)) (Fin.ofNat 128 a.toNat) (leBytes v.toNat len.val) true) s = .next u →
    exec (.regWrite (.host o x) .bar4 a len v) s = .next u)

/-! ### Whole-machine invariant and reset -/

/-- After reset every register reads the value of its card's Reset column, nothing waits, nothing is reported, and memory is in its
canonical form (what an unlisted byte reads as is log entry 2, a design choice). -/
def Obligations.ResetLeavesEveryRegisterAtItsResetValue : Prop :=
  State.reset.memOk ∧ (∀ r : RegRef, State.reset.rd r = r.rst ∧ State.reset.rdAct r = r.rst) ∧ State.reset.pending = [] ∧
  State.reset.reports = [] ∧ (∀ a, State.reset.byte a = emptyByte) ∧ (∀ q, State.reset.qstate q = QS.DISABLED) ∧
  (∀ c n, (State.reset.core c).rg n = 0) ∧ (∀ p, State.reset.coq p = []) ∧ step State.reset = .next { State.reset with now := 1 }

/-- The byte memories stay in their canonical form: from every state in which they are so, whatever command is at the front of the
queue, the next state has them so. -/
def Obligations.EveryStepKeepsMemoryCanonical : Prop :=
  ∀ (s t : State), s.memOk → step s = .next t → t.memOk
end

