-- ==== Sys2Proof/Laws/Checks.lean ====
section
/-!
SUPPORT. Lemmas about the checks of frames and trains (R284, R311): a CRC is a word of 32 bits, and a number stored byte by byte reads
back.
-/
namespace Sys2Proof.Machine

theorem crcBits_lt (n c : Nat) (h : c < 2 ^ 32) : crcBits n c < 2 ^ 32 := by
  induction n generalizing c with
  | zero => exact h
  | succ n ih =>
    unfold crcBits
    have h2 : c / 2 < 2 ^ 32 := by omega
    split
    · exact ih _ (Nat.xor_lt_two_pow h2 (by decide))
    · exact ih _ h2

theorem crc32_lt (bs : List Byte) : crc32 bs < 2 ^ 32 := by
  have h : ∀ (bs : List Byte) (c : Nat), c < 2 ^ 32 → bs.foldl (fun c b => crcBits 8 (Nat.xor c b.toNat)) c < 2 ^ 32 := by
    intro bs
    induction bs with
    | nil => exact fun c h => h
    | cons b bs ih => exact fun c hc => ih _ (crcBits_lt 8 _ (Nat.xor_lt_two_pow hc (by have := b.isLt; omega)))
  exact Nat.xor_lt_two_pow (h bs _ (by decide)) (by decide)

theorem leValue_leBytes (v n : Nat) (h : v < 2 ^ (8 * n)) : leValue ((leBytes v n).map (·.toNat)) = v := by
  induction n generalizing v with
  | zero => simp only [Nat.mul_zero, pow_zero] at h; simp [leBytes, bytesOf, leValue]; omega
  | succ n ih =>
    have h8 : v / 256 < 2 ^ (8 * n) := by
      rw [Nat.mul_succ, pow_add] at h; exact Nat.div_lt_of_lt_mul (by rw [Nat.mul_comm]; exact h)
    have e := ih (v / 256) h8
    simp only [leBytes, bytesOf, List.map_cons, leValue] at e ⊢
    rw [e]; simp; omega
end Sys2Proof.Machine
end

