-- ==== Sys2Proof/Laws/SMap.lean ====
section
/-!
SUPPORT. Sparse tables: reading after writing, and that every operation on one keeps the canonical form.
-/
namespace Sys2Proof.Machine
variable {β : Type}

/-! ### Reading after writing -/

theorem SMap.get_del_same (m : SMap β) (d : β) (k : Nat) : SMap.get (SMap.del m k) d k = d := by
  induction m with
  | nil => rfl
  | cons e t ih =>
    simp only [SMap.del]
    split
    · exact ih
    · rename_i h
      simp only [SMap.get, if_neg h, ih]

theorem SMap.get_del_other (m : SMap β) (d : β) (k j : Nat) (h : j ≠ k) : SMap.get (SMap.del m k) d j = SMap.get m d j := by
  induction m with
  | nil => rfl
  | cons e t ih =>
    simp only [SMap.del]
    split
    · rename_i hk
      simp only [SMap.get, hk, if_neg (Ne.symm h), ih]
    · simp only [SMap.get, ih]

theorem SMap.get_ins_same (m : SMap β) (d : β) (k : Nat) (v : β) (h : SMap.get (SMap.del m k) d k = d) (hk : ∀ e ∈ m, e.1 ≠ k) :
    SMap.get (SMap.ins m k v) d k = v := by
  induction m with
  | nil => simp [SMap.ins, SMap.get]
  | cons e t ih =>
    simp only [SMap.ins]
    split
    · simp [SMap.get]
    · have he : e.1 ≠ k := hk e (by simp)
      simp only [SMap.get, if_neg he]
      exact ih (SMap.get_del_same t d k) (fun x hx => hk x (by simp [hx]))

theorem SMap.get_ins_other (m : SMap β) (d : β) (k j : Nat) (v : β) (h : j ≠ k) : SMap.get (SMap.ins m k v) d j = SMap.get m d j := by
  induction m with
  | nil => simp [SMap.ins, SMap.get, Ne.symm h]
  | cons e t ih =>
    simp only [SMap.ins]
    split
    · simp only [SMap.get, if_neg (Ne.symm h)]
    · simp only [SMap.get, ih]

theorem SMap.mem_del (m : SMap β) (k : Nat) (e : Nat × β) (h : e ∈ SMap.del m k) : e ∈ m ∧ e.1 ≠ k := by
  induction m with
  | nil => simp [SMap.del] at h
  | cons x t ih =>
    simp only [SMap.del] at h
    split at h
    · exact ⟨List.mem_cons_of_mem _ (ih h).1, (ih h).2⟩
    · rename_i hx
      rcases List.mem_cons.1 h with rfl | h
      · exact ⟨by simp, hx⟩
      · exact ⟨List.mem_cons_of_mem _ (ih h).1, (ih h).2⟩

variable [DecidableEq β]

/-- A key reads as what was last written to it. -/
@[simp] theorem SMap.get_set_same (m : SMap β) (d : β) (k : Nat) (v : β) : SMap.get (SMap.set m d k v) d k = v := by
  unfold SMap.set
  split
  · rename_i h
    rw [h]
    exact SMap.get_del_same m d k
  · exact SMap.get_ins_same _ d k v (SMap.get_del_same _ d k) (fun e he => (SMap.mem_del m k e he).2)

/-- Other keys read as before. -/
theorem SMap.get_set_other (m : SMap β) (d : β) (k j : Nat) (v : β) (h : j ≠ k) : SMap.get (SMap.set m d k v) d j = SMap.get m d j := by
  unfold SMap.set
  split
  · exact SMap.get_del_other m d k j h
  · rw [SMap.get_ins_other _ d k j v h, SMap.get_del_other m d k j h]

/-! ### The canonical form -/

theorem SMap.wfFrom_mono (d : β) (lo lo' : Nat) (m : SMap β) (h : lo' ≤ lo) (hm : SMap.wfFrom d lo m = true) : SMap.wfFrom d lo' m = true := by
  cases m with
  | nil => rfl
  | cons e t =>
    simp only [SMap.wfFrom, Bool.and_eq_true, decide_eq_true_eq] at hm ⊢
    exact ⟨⟨by omega, hm.1.2⟩, hm.2⟩

theorem SMap.wfFrom_del (d : β) (k lo : Nat) (m : SMap β) (hm : SMap.wfFrom d lo m = true) : SMap.wfFrom d lo (SMap.del m k) = true := by
  induction m generalizing lo with
  | nil => rfl
  | cons e t ih =>
    simp only [SMap.wfFrom, Bool.and_eq_true, decide_eq_true_eq] at hm
    simp only [SMap.del]
    split
    · exact SMap.wfFrom_mono d (e.1 + 1) lo _ (by omega) (ih _ hm.2)
    · simp only [SMap.wfFrom, Bool.and_eq_true, decide_eq_true_eq]
      exact ⟨hm.1, ih _ hm.2⟩

theorem SMap.wfFrom_ins (d : β) (k lo : Nat) (v : β) (m : SMap β) (hv : v ≠ d) (hlo : lo ≤ k) (hk : ∀ e ∈ m, e.1 ≠ k)
    (hm : SMap.wfFrom d lo m = true) : SMap.wfFrom d lo (SMap.ins m k v) = true := by
  induction m generalizing lo with
  | nil => simp [SMap.ins, SMap.wfFrom, hv, hlo]
  | cons e t ih =>
    simp only [SMap.wfFrom, Bool.and_eq_true, decide_eq_true_eq] at hm
    have he : e.1 ≠ k := hk e (by simp)
    simp only [SMap.ins]
    split
    · simp only [SMap.wfFrom, Bool.and_eq_true, decide_eq_true_eq]
      exact ⟨⟨hlo, by simp [hv]⟩, ⟨by omega, hm.1.2⟩, hm.2⟩
    · simp only [SMap.wfFrom, Bool.and_eq_true, decide_eq_true_eq]
      exact ⟨hm.1, ih _ (by omega) (fun x hx => hk x (by simp [hx])) hm.2⟩

/-- Writing a key keeps the canonical form. -/
theorem SMap.wf_set (m : SMap β) (d : β) (k : Nat) (v : β) (h : SMap.wf d m = true) : SMap.wf d (SMap.set m d k v) = true := by
  unfold SMap.set
  split
  · exact SMap.wfFrom_del d k 0 m h
  · rename_i hv
    exact SMap.wfFrom_ins d k 0 v _ hv (Nat.zero_le k) (fun e he => (SMap.mem_del m k e he).2) (SMap.wfFrom_del d k 0 m h)

theorem SMap.wfFrom_filter (d : β) (p : Nat × β → Bool) (lo : Nat) (m : SMap β) (hm : SMap.wfFrom d lo m = true) :
    SMap.wfFrom d lo (m.filter p) = true := by
  induction m generalizing lo with
  | nil => rfl
  | cons e t ih =>
    simp only [SMap.wfFrom, Bool.and_eq_true, decide_eq_true_eq] at hm
    simp only [List.filter]
    split
    · simp only [SMap.wfFrom, Bool.and_eq_true, decide_eq_true_eq]
      exact ⟨hm.1, ih _ hm.2⟩
    · exact SMap.wfFrom_mono d (e.1 + 1) lo _ (by omega) (ih _ hm.2)

/-- Dropping keys keeps the canonical form. -/
theorem SMap.wf_keep (m : SMap β) (d : β) (p : Nat → Bool) (h : SMap.wf d m = true) : SMap.wf d (SMap.keep m p) = true :=
  SMap.wfFrom_filter d _ 0 m h

end Sys2Proof.Machine
end

