-- ==== Sys2Proof/Laws/Memory.lean ====
section
/-!
SUPPORT. Byte memory: reading after storing, bytes outside a store, and the canonical form under every operation on it.
-/
namespace Sys2Proof.Machine

/-- A store keeps the canonical form. -/
theorem memStore_wf (m : SMap Byte) (a : Nat) (bs : List Byte) (h : Memory.wf m = true) : Memory.wf (memStore m a bs) = true := by
  induction bs generalizing m a with
  | nil => exact h
  | cons b t ih => exact ih _ _ (SMap.wf_set m emptyByte a b h)

/-- A byte outside the stored bytes reads as before. -/
theorem get_memStore_outside (m : SMap Byte) (a x : Nat) (bs : List Byte) (h : x < a ∨ a + bs.length ≤ x) :
    SMap.get (memStore m a bs) emptyByte x = SMap.get m emptyByte x := by
  induction bs generalizing m a with
  | nil => rfl
  | cons b t ih =>
    simp only [List.length_cons] at h
    rw [memStore, ih _ _ (by omega), SMap.get_set_other _ _ _ _ _ (by omega)]

/-- A stored byte reads as it was stored. -/
theorem get_memStore_inside (m : SMap Byte) (a i : Nat) (bs : List Byte) (h : i < bs.length) :
    SMap.get (memStore m a bs) emptyByte (a + i) = bs[i] := by
  induction bs generalizing m a i with
  | nil => simp at h
  | cons b t ih =>
    cases i with
    | zero => rw [memStore, Nat.add_zero, get_memStore_outside _ _ _ _ (by omega)]; simp
    | succ i =>
      have := ih (SMap.set m emptyByte a b) (a + 1) i (by simpa using h)
      rw [memStore, show a + (i + 1) = a + 1 + i by omega, this]
      rfl

theorem State.store_memOk (s : State) (a : Nat) (bs : List Byte) (h : s.memOk) : (s.store a bs).memOk := memStore_wf _ _ _ h

theorem State.storeWord_memOk (s : State) (a v n : Nat) (h : s.memOk) : (s.storeWord a v n).memOk := memStore_wf _ _ _ h

/-- A byte of a store reads back, other bytes are unchanged. -/
theorem State.byte_store (s : State) (a x : Nat) (bs : List Byte) :
    (s.store a bs).byte x = if h : a ≤ x ∧ x - a < bs.length then bs[x - a] else s.byte x := by
  unfold State.byte State.store
  split
  · rename_i h
    have := get_memStore_inside s.mem a (x - a) bs h.2
    rwa [show a + (x - a) = x by omega] at this
  · rename_i h
    exact get_memStore_outside _ _ _ _ (by omega)

/-- Bytes that all lie outside a store read as before. -/
theorem State.bytes_store_outside (s : State) (a x n : Nat) (bs : List Byte) (h : x + n ≤ a ∨ a + bs.length ≤ x) :
    (s.store a bs).bytes x n = s.bytes x n := by
  induction n generalizing x with
  | zero => rfl
  | succ n ih =>
    rw [State.bytes, State.bytes, ih (x + 1) (by omega), State.byte, State.store, get_memStore_outside _ _ _ _ (by omega)]
    rfl

end Sys2Proof.Machine
end

