-- ==== Sys2Proof/Laws/State.lean ====
section
/-!
SUPPORT. The shared updates of State, field by field: what each leaves as it was, and what a read after a write gives.
-/
namespace Sys2Proof.Machine

/-! ### wr -/

@[simp] theorem State.wr_act (s : State) (r : RegRef) (v : Nat) : (s.wr r v).act = s.act := rfl
@[simp] theorem State.wr_wo (s : State) (r : RegRef) (v : Nat) : (s.wr r v).wo = s.wo := rfl
@[simp] theorem State.wr_mem (s : State) (r : RegRef) (v : Nat) : (s.wr r v).mem = s.mem := rfl
@[simp] theorem State.wr_err (s : State) (r : RegRef) (v : Nat) : (s.wr r v).err = s.err := rfl
@[simp] theorem State.wr_now (s : State) (r : RegRef) (v : Nat) : (s.wr r v).now = s.now := rfl
@[simp] theorem State.wr_freeCtr (s : State) (r : RegRef) (v : Nat) : (s.wr r v).freeCtr = s.freeCtr := rfl
@[simp] theorem State.wr_out (s : State) (r : RegRef) (v : Nat) : (s.wr r v).out = s.out := rfl
@[simp] theorem State.wr_reports (s : State) (r : RegRef) (v : Nat) : (s.wr r v).reports = s.reports := rfl
@[simp] theorem State.wr_cru (s : State) (r : RegRef) (v : Nat) : (s.wr r v).cru = s.cru := rfl
@[simp] theorem State.wr_prt (s : State) (r : RegRef) (v : Nat) : (s.wr r v).prt = s.prt := rfl
@[simp] theorem State.wr_que (s : State) (r : RegRef) (v : Nat) : (s.wr r v).que = s.que := rfl
@[simp] theorem State.wr_sch (s : State) (r : RegRef) (v : Nat) : (s.wr r v).sch = s.sch := rfl
@[simp] theorem State.wr_pol (s : State) (r : RegRef) (v : Nat) : (s.wr r v).pol = s.pol := rfl
@[simp] theorem State.wr_gst (s : State) (r : RegRef) (v : Nat) : (s.wr r v).gst = s.gst := rfl
@[simp] theorem State.wr_gaf (s : State) (r : RegRef) (v : Nat) : (s.wr r v).gaf = s.gaf := rfl
@[simp] theorem State.wr_mbx (s : State) (r : RegRef) (v : Nat) : (s.wr r v).mbx = s.mbx := rfl
@[simp] theorem State.wr_cmd (s : State) (r : RegRef) (v : Nat) : (s.wr r v).cmd = s.cmd := rfl
@[simp] theorem State.wr_flt (s : State) (r : RegRef) (v : Nat) : (s.wr r v).flt = s.flt := rfl
@[simp] theorem State.wr_lnk (s : State) (r : RegRef) (v : Nat) : (s.wr r v).lnk = s.lnk := rfl
@[simp] theorem State.wr_can (s : State) (r : RegRef) (v : Nat) : (s.wr r v).can = s.can := rfl
@[simp] theorem State.wr_fab (s : State) (r : RegRef) (v : Nat) : (s.wr r v).fab = s.fab := rfl
@[simp] theorem State.wr_lth (s : State) (r : RegRef) (v : Nat) : (s.wr r v).lth = s.lth := rfl
@[simp] theorem State.wr_rst (s : State) (r : RegRef) (v : Nat) : (s.wr r v).rst = s.rst := rfl
@[simp] theorem State.wr_pow (s : State) (r : RegRef) (v : Nat) : (s.wr r v).pow = s.pow := rfl
@[simp] theorem State.wr_smpSeen (s : State) (r : RegRef) (v : Nat) : (s.wr r v).smpSeen = s.smpSeen := rfl
@[simp] theorem State.wr_smpBeat (s : State) (r : RegRef) (v : Nat) : (s.wr r v).smpBeat = s.smpBeat := rfl
@[simp] theorem State.wr_pending (s : State) (r : RegRef) (v : Nat) : (s.wr r v).pending = s.pending := rfl

/-! ### wrAct -/

@[simp] theorem State.wrAct_regs (s : State) (r : RegRef) (v : Nat) : (s.wrAct r v).regs = s.regs := rfl
@[simp] theorem State.wrAct_wo (s : State) (r : RegRef) (v : Nat) : (s.wrAct r v).wo = s.wo := rfl
@[simp] theorem State.wrAct_mem (s : State) (r : RegRef) (v : Nat) : (s.wrAct r v).mem = s.mem := rfl
@[simp] theorem State.wrAct_err (s : State) (r : RegRef) (v : Nat) : (s.wrAct r v).err = s.err := rfl
@[simp] theorem State.wrAct_now (s : State) (r : RegRef) (v : Nat) : (s.wrAct r v).now = s.now := rfl
@[simp] theorem State.wrAct_freeCtr (s : State) (r : RegRef) (v : Nat) : (s.wrAct r v).freeCtr = s.freeCtr := rfl
@[simp] theorem State.wrAct_out (s : State) (r : RegRef) (v : Nat) : (s.wrAct r v).out = s.out := rfl
@[simp] theorem State.wrAct_reports (s : State) (r : RegRef) (v : Nat) : (s.wrAct r v).reports = s.reports := rfl
@[simp] theorem State.wrAct_cru (s : State) (r : RegRef) (v : Nat) : (s.wrAct r v).cru = s.cru := rfl
@[simp] theorem State.wrAct_prt (s : State) (r : RegRef) (v : Nat) : (s.wrAct r v).prt = s.prt := rfl
@[simp] theorem State.wrAct_que (s : State) (r : RegRef) (v : Nat) : (s.wrAct r v).que = s.que := rfl
@[simp] theorem State.wrAct_sch (s : State) (r : RegRef) (v : Nat) : (s.wrAct r v).sch = s.sch := rfl
@[simp] theorem State.wrAct_pol (s : State) (r : RegRef) (v : Nat) : (s.wrAct r v).pol = s.pol := rfl
@[simp] theorem State.wrAct_gst (s : State) (r : RegRef) (v : Nat) : (s.wrAct r v).gst = s.gst := rfl
@[simp] theorem State.wrAct_gaf (s : State) (r : RegRef) (v : Nat) : (s.wrAct r v).gaf = s.gaf := rfl
@[simp] theorem State.wrAct_mbx (s : State) (r : RegRef) (v : Nat) : (s.wrAct r v).mbx = s.mbx := rfl
@[simp] theorem State.wrAct_cmd (s : State) (r : RegRef) (v : Nat) : (s.wrAct r v).cmd = s.cmd := rfl
@[simp] theorem State.wrAct_flt (s : State) (r : RegRef) (v : Nat) : (s.wrAct r v).flt = s.flt := rfl
@[simp] theorem State.wrAct_lnk (s : State) (r : RegRef) (v : Nat) : (s.wrAct r v).lnk = s.lnk := rfl
@[simp] theorem State.wrAct_can (s : State) (r : RegRef) (v : Nat) : (s.wrAct r v).can = s.can := rfl
@[simp] theorem State.wrAct_fab (s : State) (r : RegRef) (v : Nat) : (s.wrAct r v).fab = s.fab := rfl
@[simp] theorem State.wrAct_lth (s : State) (r : RegRef) (v : Nat) : (s.wrAct r v).lth = s.lth := rfl
@[simp] theorem State.wrAct_rst (s : State) (r : RegRef) (v : Nat) : (s.wrAct r v).rst = s.rst := rfl
@[simp] theorem State.wrAct_pow (s : State) (r : RegRef) (v : Nat) : (s.wrAct r v).pow = s.pow := rfl
@[simp] theorem State.wrAct_smpSeen (s : State) (r : RegRef) (v : Nat) : (s.wrAct r v).smpSeen = s.smpSeen := rfl
@[simp] theorem State.wrAct_smpBeat (s : State) (r : RegRef) (v : Nat) : (s.wrAct r v).smpBeat = s.smpBeat := rfl
@[simp] theorem State.wrAct_pending (s : State) (r : RegRef) (v : Nat) : (s.wrAct r v).pending = s.pending := rfl

/-! ### put -/

@[simp] theorem State.put_act (s : State) (r : RegRef) (f : Fld) (v : Nat) : (s.put r f v).act = s.act := rfl
@[simp] theorem State.put_wo (s : State) (r : RegRef) (f : Fld) (v : Nat) : (s.put r f v).wo = s.wo := rfl
@[simp] theorem State.put_mem (s : State) (r : RegRef) (f : Fld) (v : Nat) : (s.put r f v).mem = s.mem := rfl
@[simp] theorem State.put_err (s : State) (r : RegRef) (f : Fld) (v : Nat) : (s.put r f v).err = s.err := rfl
@[simp] theorem State.put_now (s : State) (r : RegRef) (f : Fld) (v : Nat) : (s.put r f v).now = s.now := rfl
@[simp] theorem State.put_freeCtr (s : State) (r : RegRef) (f : Fld) (v : Nat) : (s.put r f v).freeCtr = s.freeCtr := rfl
@[simp] theorem State.put_out (s : State) (r : RegRef) (f : Fld) (v : Nat) : (s.put r f v).out = s.out := rfl
@[simp] theorem State.put_reports (s : State) (r : RegRef) (f : Fld) (v : Nat) : (s.put r f v).reports = s.reports := rfl
@[simp] theorem State.put_cru (s : State) (r : RegRef) (f : Fld) (v : Nat) : (s.put r f v).cru = s.cru := rfl
@[simp] theorem State.put_prt (s : State) (r : RegRef) (f : Fld) (v : Nat) : (s.put r f v).prt = s.prt := rfl
@[simp] theorem State.put_que (s : State) (r : RegRef) (f : Fld) (v : Nat) : (s.put r f v).que = s.que := rfl
@[simp] theorem State.put_sch (s : State) (r : RegRef) (f : Fld) (v : Nat) : (s.put r f v).sch = s.sch := rfl
@[simp] theorem State.put_pol (s : State) (r : RegRef) (f : Fld) (v : Nat) : (s.put r f v).pol = s.pol := rfl
@[simp] theorem State.put_gst (s : State) (r : RegRef) (f : Fld) (v : Nat) : (s.put r f v).gst = s.gst := rfl
@[simp] theorem State.put_gaf (s : State) (r : RegRef) (f : Fld) (v : Nat) : (s.put r f v).gaf = s.gaf := rfl
@[simp] theorem State.put_mbx (s : State) (r : RegRef) (f : Fld) (v : Nat) : (s.put r f v).mbx = s.mbx := rfl
@[simp] theorem State.put_cmd (s : State) (r : RegRef) (f : Fld) (v : Nat) : (s.put r f v).cmd = s.cmd := rfl
@[simp] theorem State.put_flt (s : State) (r : RegRef) (f : Fld) (v : Nat) : (s.put r f v).flt = s.flt := rfl
@[simp] theorem State.put_lnk (s : State) (r : RegRef) (f : Fld) (v : Nat) : (s.put r f v).lnk = s.lnk := rfl
@[simp] theorem State.put_can (s : State) (r : RegRef) (f : Fld) (v : Nat) : (s.put r f v).can = s.can := rfl
@[simp] theorem State.put_fab (s : State) (r : RegRef) (f : Fld) (v : Nat) : (s.put r f v).fab = s.fab := rfl
@[simp] theorem State.put_lth (s : State) (r : RegRef) (f : Fld) (v : Nat) : (s.put r f v).lth = s.lth := rfl
@[simp] theorem State.put_rst (s : State) (r : RegRef) (f : Fld) (v : Nat) : (s.put r f v).rst = s.rst := rfl
@[simp] theorem State.put_pow (s : State) (r : RegRef) (f : Fld) (v : Nat) : (s.put r f v).pow = s.pow := rfl
@[simp] theorem State.put_smpSeen (s : State) (r : RegRef) (f : Fld) (v : Nat) : (s.put r f v).smpSeen = s.smpSeen := rfl
@[simp] theorem State.put_smpBeat (s : State) (r : RegRef) (f : Fld) (v : Nat) : (s.put r f v).smpBeat = s.smpBeat := rfl
@[simp] theorem State.put_pending (s : State) (r : RegRef) (f : Fld) (v : Nat) : (s.put r f v).pending = s.pending := rfl

/-! ### putAct -/

@[simp] theorem State.putAct_regs (s : State) (r : RegRef) (f : Fld) (v : Nat) : (s.putAct r f v).regs = s.regs := rfl
@[simp] theorem State.putAct_wo (s : State) (r : RegRef) (f : Fld) (v : Nat) : (s.putAct r f v).wo = s.wo := rfl
@[simp] theorem State.putAct_mem (s : State) (r : RegRef) (f : Fld) (v : Nat) : (s.putAct r f v).mem = s.mem := rfl
@[simp] theorem State.putAct_err (s : State) (r : RegRef) (f : Fld) (v : Nat) : (s.putAct r f v).err = s.err := rfl
@[simp] theorem State.putAct_now (s : State) (r : RegRef) (f : Fld) (v : Nat) : (s.putAct r f v).now = s.now := rfl
@[simp] theorem State.putAct_freeCtr (s : State) (r : RegRef) (f : Fld) (v : Nat) : (s.putAct r f v).freeCtr = s.freeCtr := rfl
@[simp] theorem State.putAct_out (s : State) (r : RegRef) (f : Fld) (v : Nat) : (s.putAct r f v).out = s.out := rfl
@[simp] theorem State.putAct_reports (s : State) (r : RegRef) (f : Fld) (v : Nat) : (s.putAct r f v).reports = s.reports := rfl
@[simp] theorem State.putAct_cru (s : State) (r : RegRef) (f : Fld) (v : Nat) : (s.putAct r f v).cru = s.cru := rfl
@[simp] theorem State.putAct_prt (s : State) (r : RegRef) (f : Fld) (v : Nat) : (s.putAct r f v).prt = s.prt := rfl
@[simp] theorem State.putAct_que (s : State) (r : RegRef) (f : Fld) (v : Nat) : (s.putAct r f v).que = s.que := rfl
@[simp] theorem State.putAct_sch (s : State) (r : RegRef) (f : Fld) (v : Nat) : (s.putAct r f v).sch = s.sch := rfl
@[simp] theorem State.putAct_pol (s : State) (r : RegRef) (f : Fld) (v : Nat) : (s.putAct r f v).pol = s.pol := rfl
@[simp] theorem State.putAct_gst (s : State) (r : RegRef) (f : Fld) (v : Nat) : (s.putAct r f v).gst = s.gst := rfl
@[simp] theorem State.putAct_gaf (s : State) (r : RegRef) (f : Fld) (v : Nat) : (s.putAct r f v).gaf = s.gaf := rfl
@[simp] theorem State.putAct_mbx (s : State) (r : RegRef) (f : Fld) (v : Nat) : (s.putAct r f v).mbx = s.mbx := rfl
@[simp] theorem State.putAct_cmd (s : State) (r : RegRef) (f : Fld) (v : Nat) : (s.putAct r f v).cmd = s.cmd := rfl
@[simp] theorem State.putAct_flt (s : State) (r : RegRef) (f : Fld) (v : Nat) : (s.putAct r f v).flt = s.flt := rfl
@[simp] theorem State.putAct_lnk (s : State) (r : RegRef) (f : Fld) (v : Nat) : (s.putAct r f v).lnk = s.lnk := rfl
@[simp] theorem State.putAct_can (s : State) (r : RegRef) (f : Fld) (v : Nat) : (s.putAct r f v).can = s.can := rfl
@[simp] theorem State.putAct_fab (s : State) (r : RegRef) (f : Fld) (v : Nat) : (s.putAct r f v).fab = s.fab := rfl
@[simp] theorem State.putAct_lth (s : State) (r : RegRef) (f : Fld) (v : Nat) : (s.putAct r f v).lth = s.lth := rfl
@[simp] theorem State.putAct_rst (s : State) (r : RegRef) (f : Fld) (v : Nat) : (s.putAct r f v).rst = s.rst := rfl
@[simp] theorem State.putAct_pow (s : State) (r : RegRef) (f : Fld) (v : Nat) : (s.putAct r f v).pow = s.pow := rfl
@[simp] theorem State.putAct_smpSeen (s : State) (r : RegRef) (f : Fld) (v : Nat) : (s.putAct r f v).smpSeen = s.smpSeen := rfl
@[simp] theorem State.putAct_smpBeat (s : State) (r : RegRef) (f : Fld) (v : Nat) : (s.putAct r f v).smpBeat = s.smpBeat := rfl
@[simp] theorem State.putAct_pending (s : State) (r : RegRef) (f : Fld) (v : Nat) : (s.putAct r f v).pending = s.pending := rfl

/-! ### setBit -/

@[simp] theorem State.setBit_act (s : State) (r : RegRef) (f : Fld) : (s.setBit r f).act = s.act := rfl
@[simp] theorem State.setBit_wo (s : State) (r : RegRef) (f : Fld) : (s.setBit r f).wo = s.wo := rfl
@[simp] theorem State.setBit_mem (s : State) (r : RegRef) (f : Fld) : (s.setBit r f).mem = s.mem := rfl
@[simp] theorem State.setBit_err (s : State) (r : RegRef) (f : Fld) : (s.setBit r f).err = s.err := rfl
@[simp] theorem State.setBit_now (s : State) (r : RegRef) (f : Fld) : (s.setBit r f).now = s.now := rfl
@[simp] theorem State.setBit_freeCtr (s : State) (r : RegRef) (f : Fld) : (s.setBit r f).freeCtr = s.freeCtr := rfl
@[simp] theorem State.setBit_out (s : State) (r : RegRef) (f : Fld) : (s.setBit r f).out = s.out := rfl
@[simp] theorem State.setBit_reports (s : State) (r : RegRef) (f : Fld) : (s.setBit r f).reports = s.reports := rfl
@[simp] theorem State.setBit_cru (s : State) (r : RegRef) (f : Fld) : (s.setBit r f).cru = s.cru := rfl
@[simp] theorem State.setBit_prt (s : State) (r : RegRef) (f : Fld) : (s.setBit r f).prt = s.prt := rfl
@[simp] theorem State.setBit_que (s : State) (r : RegRef) (f : Fld) : (s.setBit r f).que = s.que := rfl
@[simp] theorem State.setBit_sch (s : State) (r : RegRef) (f : Fld) : (s.setBit r f).sch = s.sch := rfl
@[simp] theorem State.setBit_pol (s : State) (r : RegRef) (f : Fld) : (s.setBit r f).pol = s.pol := rfl
@[simp] theorem State.setBit_gst (s : State) (r : RegRef) (f : Fld) : (s.setBit r f).gst = s.gst := rfl
@[simp] theorem State.setBit_gaf (s : State) (r : RegRef) (f : Fld) : (s.setBit r f).gaf = s.gaf := rfl
@[simp] theorem State.setBit_mbx (s : State) (r : RegRef) (f : Fld) : (s.setBit r f).mbx = s.mbx := rfl
@[simp] theorem State.setBit_cmd (s : State) (r : RegRef) (f : Fld) : (s.setBit r f).cmd = s.cmd := rfl
@[simp] theorem State.setBit_flt (s : State) (r : RegRef) (f : Fld) : (s.setBit r f).flt = s.flt := rfl
@[simp] theorem State.setBit_lnk (s : State) (r : RegRef) (f : Fld) : (s.setBit r f).lnk = s.lnk := rfl
@[simp] theorem State.setBit_can (s : State) (r : RegRef) (f : Fld) : (s.setBit r f).can = s.can := rfl
@[simp] theorem State.setBit_fab (s : State) (r : RegRef) (f : Fld) : (s.setBit r f).fab = s.fab := rfl
@[simp] theorem State.setBit_lth (s : State) (r : RegRef) (f : Fld) : (s.setBit r f).lth = s.lth := rfl
@[simp] theorem State.setBit_rst (s : State) (r : RegRef) (f : Fld) : (s.setBit r f).rst = s.rst := rfl
@[simp] theorem State.setBit_pow (s : State) (r : RegRef) (f : Fld) : (s.setBit r f).pow = s.pow := rfl
@[simp] theorem State.setBit_smpSeen (s : State) (r : RegRef) (f : Fld) : (s.setBit r f).smpSeen = s.smpSeen := rfl
@[simp] theorem State.setBit_smpBeat (s : State) (r : RegRef) (f : Fld) : (s.setBit r f).smpBeat = s.smpBeat := rfl
@[simp] theorem State.setBit_pending (s : State) (r : RegRef) (f : Fld) : (s.setBit r f).pending = s.pending := rfl

/-! ### bump -/

@[simp] theorem State.bump_act (s : State) (r : RegRef) (f : Fld) (n : Nat) : (s.bump r f n).act = s.act := rfl
@[simp] theorem State.bump_wo (s : State) (r : RegRef) (f : Fld) (n : Nat) : (s.bump r f n).wo = s.wo := rfl
@[simp] theorem State.bump_mem (s : State) (r : RegRef) (f : Fld) (n : Nat) : (s.bump r f n).mem = s.mem := rfl
@[simp] theorem State.bump_err (s : State) (r : RegRef) (f : Fld) (n : Nat) : (s.bump r f n).err = s.err := rfl
@[simp] theorem State.bump_now (s : State) (r : RegRef) (f : Fld) (n : Nat) : (s.bump r f n).now = s.now := rfl
@[simp] theorem State.bump_freeCtr (s : State) (r : RegRef) (f : Fld) (n : Nat) : (s.bump r f n).freeCtr = s.freeCtr := rfl
@[simp] theorem State.bump_out (s : State) (r : RegRef) (f : Fld) (n : Nat) : (s.bump r f n).out = s.out := rfl
@[simp] theorem State.bump_reports (s : State) (r : RegRef) (f : Fld) (n : Nat) : (s.bump r f n).reports = s.reports := rfl
@[simp] theorem State.bump_cru (s : State) (r : RegRef) (f : Fld) (n : Nat) : (s.bump r f n).cru = s.cru := rfl
@[simp] theorem State.bump_prt (s : State) (r : RegRef) (f : Fld) (n : Nat) : (s.bump r f n).prt = s.prt := rfl
@[simp] theorem State.bump_que (s : State) (r : RegRef) (f : Fld) (n : Nat) : (s.bump r f n).que = s.que := rfl
@[simp] theorem State.bump_sch (s : State) (r : RegRef) (f : Fld) (n : Nat) : (s.bump r f n).sch = s.sch := rfl
@[simp] theorem State.bump_pol (s : State) (r : RegRef) (f : Fld) (n : Nat) : (s.bump r f n).pol = s.pol := rfl
@[simp] theorem State.bump_gst (s : State) (r : RegRef) (f : Fld) (n : Nat) : (s.bump r f n).gst = s.gst := rfl
@[simp] theorem State.bump_gaf (s : State) (r : RegRef) (f : Fld) (n : Nat) : (s.bump r f n).gaf = s.gaf := rfl
@[simp] theorem State.bump_mbx (s : State) (r : RegRef) (f : Fld) (n : Nat) : (s.bump r f n).mbx = s.mbx := rfl
@[simp] theorem State.bump_cmd (s : State) (r : RegRef) (f : Fld) (n : Nat) : (s.bump r f n).cmd = s.cmd := rfl
@[simp] theorem State.bump_flt (s : State) (r : RegRef) (f : Fld) (n : Nat) : (s.bump r f n).flt = s.flt := rfl
@[simp] theorem State.bump_lnk (s : State) (r : RegRef) (f : Fld) (n : Nat) : (s.bump r f n).lnk = s.lnk := rfl
@[simp] theorem State.bump_can (s : State) (r : RegRef) (f : Fld) (n : Nat) : (s.bump r f n).can = s.can := rfl
@[simp] theorem State.bump_fab (s : State) (r : RegRef) (f : Fld) (n : Nat) : (s.bump r f n).fab = s.fab := rfl
@[simp] theorem State.bump_lth (s : State) (r : RegRef) (f : Fld) (n : Nat) : (s.bump r f n).lth = s.lth := rfl
@[simp] theorem State.bump_rst (s : State) (r : RegRef) (f : Fld) (n : Nat) : (s.bump r f n).rst = s.rst := rfl
@[simp] theorem State.bump_pow (s : State) (r : RegRef) (f : Fld) (n : Nat) : (s.bump r f n).pow = s.pow := rfl
@[simp] theorem State.bump_smpSeen (s : State) (r : RegRef) (f : Fld) (n : Nat) : (s.bump r f n).smpSeen = s.smpSeen := rfl
@[simp] theorem State.bump_smpBeat (s : State) (r : RegRef) (f : Fld) (n : Nat) : (s.bump r f n).smpBeat = s.smpBeat := rfl
@[simp] theorem State.bump_pending (s : State) (r : RegRef) (f : Fld) (n : Nat) : (s.bump r f n).pending = s.pending := rfl

/-! ### store -/

@[simp] theorem State.store_regs (s : State) (a : Nat) (bs : List Byte) : (s.store a bs).regs = s.regs := rfl
@[simp] theorem State.store_act (s : State) (a : Nat) (bs : List Byte) : (s.store a bs).act = s.act := rfl
@[simp] theorem State.store_wo (s : State) (a : Nat) (bs : List Byte) : (s.store a bs).wo = s.wo := rfl
@[simp] theorem State.store_err (s : State) (a : Nat) (bs : List Byte) : (s.store a bs).err = s.err := rfl
@[simp] theorem State.store_now (s : State) (a : Nat) (bs : List Byte) : (s.store a bs).now = s.now := rfl
@[simp] theorem State.store_freeCtr (s : State) (a : Nat) (bs : List Byte) : (s.store a bs).freeCtr = s.freeCtr := rfl
@[simp] theorem State.store_out (s : State) (a : Nat) (bs : List Byte) : (s.store a bs).out = s.out := rfl
@[simp] theorem State.store_reports (s : State) (a : Nat) (bs : List Byte) : (s.store a bs).reports = s.reports := rfl
@[simp] theorem State.store_cru (s : State) (a : Nat) (bs : List Byte) : (s.store a bs).cru = s.cru := rfl
@[simp] theorem State.store_prt (s : State) (a : Nat) (bs : List Byte) : (s.store a bs).prt = s.prt := rfl
@[simp] theorem State.store_que (s : State) (a : Nat) (bs : List Byte) : (s.store a bs).que = s.que := rfl
@[simp] theorem State.store_sch (s : State) (a : Nat) (bs : List Byte) : (s.store a bs).sch = s.sch := rfl
@[simp] theorem State.store_pol (s : State) (a : Nat) (bs : List Byte) : (s.store a bs).pol = s.pol := rfl
@[simp] theorem State.store_gst (s : State) (a : Nat) (bs : List Byte) : (s.store a bs).gst = s.gst := rfl
@[simp] theorem State.store_gaf (s : State) (a : Nat) (bs : List Byte) : (s.store a bs).gaf = s.gaf := rfl
@[simp] theorem State.store_mbx (s : State) (a : Nat) (bs : List Byte) : (s.store a bs).mbx = s.mbx := rfl
@[simp] theorem State.store_cmd (s : State) (a : Nat) (bs : List Byte) : (s.store a bs).cmd = s.cmd := rfl
@[simp] theorem State.store_flt (s : State) (a : Nat) (bs : List Byte) : (s.store a bs).flt = s.flt := rfl
@[simp] theorem State.store_lnk (s : State) (a : Nat) (bs : List Byte) : (s.store a bs).lnk = s.lnk := rfl
@[simp] theorem State.store_can (s : State) (a : Nat) (bs : List Byte) : (s.store a bs).can = s.can := rfl
@[simp] theorem State.store_fab (s : State) (a : Nat) (bs : List Byte) : (s.store a bs).fab = s.fab := rfl
@[simp] theorem State.store_lth (s : State) (a : Nat) (bs : List Byte) : (s.store a bs).lth = s.lth := rfl
@[simp] theorem State.store_rst (s : State) (a : Nat) (bs : List Byte) : (s.store a bs).rst = s.rst := rfl
@[simp] theorem State.store_pow (s : State) (a : Nat) (bs : List Byte) : (s.store a bs).pow = s.pow := rfl
@[simp] theorem State.store_smpSeen (s : State) (a : Nat) (bs : List Byte) : (s.store a bs).smpSeen = s.smpSeen := rfl
@[simp] theorem State.store_smpBeat (s : State) (a : Nat) (bs : List Byte) : (s.store a bs).smpBeat = s.smpBeat := rfl
@[simp] theorem State.store_pending (s : State) (a : Nat) (bs : List Byte) : (s.store a bs).pending = s.pending := rfl

/-! ### storeWord -/

@[simp] theorem State.storeWord_regs (s : State) (a v n : Nat) : (s.storeWord a v n).regs = s.regs := rfl
@[simp] theorem State.storeWord_act (s : State) (a v n : Nat) : (s.storeWord a v n).act = s.act := rfl
@[simp] theorem State.storeWord_wo (s : State) (a v n : Nat) : (s.storeWord a v n).wo = s.wo := rfl
@[simp] theorem State.storeWord_err (s : State) (a v n : Nat) : (s.storeWord a v n).err = s.err := rfl
@[simp] theorem State.storeWord_now (s : State) (a v n : Nat) : (s.storeWord a v n).now = s.now := rfl
@[simp] theorem State.storeWord_freeCtr (s : State) (a v n : Nat) : (s.storeWord a v n).freeCtr = s.freeCtr := rfl
@[simp] theorem State.storeWord_out (s : State) (a v n : Nat) : (s.storeWord a v n).out = s.out := rfl
@[simp] theorem State.storeWord_reports (s : State) (a v n : Nat) : (s.storeWord a v n).reports = s.reports := rfl
@[simp] theorem State.storeWord_cru (s : State) (a v n : Nat) : (s.storeWord a v n).cru = s.cru := rfl
@[simp] theorem State.storeWord_prt (s : State) (a v n : Nat) : (s.storeWord a v n).prt = s.prt := rfl
@[simp] theorem State.storeWord_que (s : State) (a v n : Nat) : (s.storeWord a v n).que = s.que := rfl
@[simp] theorem State.storeWord_sch (s : State) (a v n : Nat) : (s.storeWord a v n).sch = s.sch := rfl
@[simp] theorem State.storeWord_pol (s : State) (a v n : Nat) : (s.storeWord a v n).pol = s.pol := rfl
@[simp] theorem State.storeWord_gst (s : State) (a v n : Nat) : (s.storeWord a v n).gst = s.gst := rfl
@[simp] theorem State.storeWord_gaf (s : State) (a v n : Nat) : (s.storeWord a v n).gaf = s.gaf := rfl
@[simp] theorem State.storeWord_mbx (s : State) (a v n : Nat) : (s.storeWord a v n).mbx = s.mbx := rfl
@[simp] theorem State.storeWord_cmd (s : State) (a v n : Nat) : (s.storeWord a v n).cmd = s.cmd := rfl
@[simp] theorem State.storeWord_flt (s : State) (a v n : Nat) : (s.storeWord a v n).flt = s.flt := rfl
@[simp] theorem State.storeWord_lnk (s : State) (a v n : Nat) : (s.storeWord a v n).lnk = s.lnk := rfl
@[simp] theorem State.storeWord_can (s : State) (a v n : Nat) : (s.storeWord a v n).can = s.can := rfl
@[simp] theorem State.storeWord_fab (s : State) (a v n : Nat) : (s.storeWord a v n).fab = s.fab := rfl
@[simp] theorem State.storeWord_lth (s : State) (a v n : Nat) : (s.storeWord a v n).lth = s.lth := rfl
@[simp] theorem State.storeWord_rst (s : State) (a v n : Nat) : (s.storeWord a v n).rst = s.rst := rfl
@[simp] theorem State.storeWord_pow (s : State) (a v n : Nat) : (s.storeWord a v n).pow = s.pow := rfl
@[simp] theorem State.storeWord_smpSeen (s : State) (a v n : Nat) : (s.storeWord a v n).smpSeen = s.smpSeen := rfl
@[simp] theorem State.storeWord_smpBeat (s : State) (a v n : Nat) : (s.storeWord a v n).smpBeat = s.smpBeat := rfl
@[simp] theorem State.storeWord_pending (s : State) (a v n : Nat) : (s.storeWord a v n).pending = s.pending := rfl

/-! ### emit -/

@[simp] theorem State.emit_regs (s : State) (o : Out) : (s.emit o).regs = s.regs := rfl
@[simp] theorem State.emit_act (s : State) (o : Out) : (s.emit o).act = s.act := rfl
@[simp] theorem State.emit_wo (s : State) (o : Out) : (s.emit o).wo = s.wo := rfl
@[simp] theorem State.emit_mem (s : State) (o : Out) : (s.emit o).mem = s.mem := rfl
@[simp] theorem State.emit_err (s : State) (o : Out) : (s.emit o).err = s.err := rfl
@[simp] theorem State.emit_now (s : State) (o : Out) : (s.emit o).now = s.now := rfl
@[simp] theorem State.emit_freeCtr (s : State) (o : Out) : (s.emit o).freeCtr = s.freeCtr := rfl
@[simp] theorem State.emit_reports (s : State) (o : Out) : (s.emit o).reports = s.reports := rfl
@[simp] theorem State.emit_cru (s : State) (o : Out) : (s.emit o).cru = s.cru := rfl
@[simp] theorem State.emit_prt (s : State) (o : Out) : (s.emit o).prt = s.prt := rfl
@[simp] theorem State.emit_que (s : State) (o : Out) : (s.emit o).que = s.que := rfl
@[simp] theorem State.emit_sch (s : State) (o : Out) : (s.emit o).sch = s.sch := rfl
@[simp] theorem State.emit_pol (s : State) (o : Out) : (s.emit o).pol = s.pol := rfl
@[simp] theorem State.emit_gst (s : State) (o : Out) : (s.emit o).gst = s.gst := rfl
@[simp] theorem State.emit_gaf (s : State) (o : Out) : (s.emit o).gaf = s.gaf := rfl
@[simp] theorem State.emit_mbx (s : State) (o : Out) : (s.emit o).mbx = s.mbx := rfl
@[simp] theorem State.emit_cmd (s : State) (o : Out) : (s.emit o).cmd = s.cmd := rfl
@[simp] theorem State.emit_flt (s : State) (o : Out) : (s.emit o).flt = s.flt := rfl
@[simp] theorem State.emit_lnk (s : State) (o : Out) : (s.emit o).lnk = s.lnk := rfl
@[simp] theorem State.emit_can (s : State) (o : Out) : (s.emit o).can = s.can := rfl
@[simp] theorem State.emit_fab (s : State) (o : Out) : (s.emit o).fab = s.fab := rfl
@[simp] theorem State.emit_lth (s : State) (o : Out) : (s.emit o).lth = s.lth := rfl
@[simp] theorem State.emit_rst (s : State) (o : Out) : (s.emit o).rst = s.rst := rfl
@[simp] theorem State.emit_pow (s : State) (o : Out) : (s.emit o).pow = s.pow := rfl
@[simp] theorem State.emit_smpSeen (s : State) (o : Out) : (s.emit o).smpSeen = s.smpSeen := rfl
@[simp] theorem State.emit_smpBeat (s : State) (o : Out) : (s.emit o).smpBeat = s.smpBeat := rfl
@[simp] theorem State.emit_pending (s : State) (o : Out) : (s.emit o).pending = s.pending := rfl

/-! ### report -/

@[simp] theorem State.report_regs (s : State) (c k i o d a : Nat) : (s.report c k i o d a).regs = s.regs := rfl
@[simp] theorem State.report_act (s : State) (c k i o d a : Nat) : (s.report c k i o d a).act = s.act := rfl
@[simp] theorem State.report_wo (s : State) (c k i o d a : Nat) : (s.report c k i o d a).wo = s.wo := rfl
@[simp] theorem State.report_mem (s : State) (c k i o d a : Nat) : (s.report c k i o d a).mem = s.mem := rfl
@[simp] theorem State.report_err (s : State) (c k i o d a : Nat) : (s.report c k i o d a).err = s.err := rfl
@[simp] theorem State.report_now (s : State) (c k i o d a : Nat) : (s.report c k i o d a).now = s.now := rfl
@[simp] theorem State.report_freeCtr (s : State) (c k i o d a : Nat) : (s.report c k i o d a).freeCtr = s.freeCtr := rfl
@[simp] theorem State.report_out (s : State) (c k i o d a : Nat) : (s.report c k i o d a).out = s.out := rfl
@[simp] theorem State.report_cru (s : State) (c k i o d a : Nat) : (s.report c k i o d a).cru = s.cru := rfl
@[simp] theorem State.report_prt (s : State) (c k i o d a : Nat) : (s.report c k i o d a).prt = s.prt := rfl
@[simp] theorem State.report_que (s : State) (c k i o d a : Nat) : (s.report c k i o d a).que = s.que := rfl
@[simp] theorem State.report_sch (s : State) (c k i o d a : Nat) : (s.report c k i o d a).sch = s.sch := rfl
@[simp] theorem State.report_pol (s : State) (c k i o d a : Nat) : (s.report c k i o d a).pol = s.pol := rfl
@[simp] theorem State.report_gst (s : State) (c k i o d a : Nat) : (s.report c k i o d a).gst = s.gst := rfl
@[simp] theorem State.report_gaf (s : State) (c k i o d a : Nat) : (s.report c k i o d a).gaf = s.gaf := rfl
@[simp] theorem State.report_mbx (s : State) (c k i o d a : Nat) : (s.report c k i o d a).mbx = s.mbx := rfl
@[simp] theorem State.report_cmd (s : State) (c k i o d a : Nat) : (s.report c k i o d a).cmd = s.cmd := rfl
@[simp] theorem State.report_flt (s : State) (c k i o d a : Nat) : (s.report c k i o d a).flt = s.flt := rfl
@[simp] theorem State.report_lnk (s : State) (c k i o d a : Nat) : (s.report c k i o d a).lnk = s.lnk := rfl
@[simp] theorem State.report_can (s : State) (c k i o d a : Nat) : (s.report c k i o d a).can = s.can := rfl
@[simp] theorem State.report_fab (s : State) (c k i o d a : Nat) : (s.report c k i o d a).fab = s.fab := rfl
@[simp] theorem State.report_lth (s : State) (c k i o d a : Nat) : (s.report c k i o d a).lth = s.lth := rfl
@[simp] theorem State.report_rst (s : State) (c k i o d a : Nat) : (s.report c k i o d a).rst = s.rst := rfl
@[simp] theorem State.report_pow (s : State) (c k i o d a : Nat) : (s.report c k i o d a).pow = s.pow := rfl
@[simp] theorem State.report_smpSeen (s : State) (c k i o d a : Nat) : (s.report c k i o d a).smpSeen = s.smpSeen := rfl
@[simp] theorem State.report_smpBeat (s : State) (c k i o d a : Nat) : (s.report c k i o d a).smpBeat = s.smpBeat := rfl
@[simp] theorem State.report_pending (s : State) (c k i o d a : Nat) : (s.report c k i o d a).pending = s.pending := rfl

/-! ### setCore -/

@[simp] theorem State.setCore_regs (s : State) (c : Nat) (x : Core) : (s.setCore c x).regs = s.regs := rfl
@[simp] theorem State.setCore_act (s : State) (c : Nat) (x : Core) : (s.setCore c x).act = s.act := rfl
@[simp] theorem State.setCore_wo (s : State) (c : Nat) (x : Core) : (s.setCore c x).wo = s.wo := rfl
@[simp] theorem State.setCore_mem (s : State) (c : Nat) (x : Core) : (s.setCore c x).mem = s.mem := rfl
@[simp] theorem State.setCore_err (s : State) (c : Nat) (x : Core) : (s.setCore c x).err = s.err := rfl
@[simp] theorem State.setCore_now (s : State) (c : Nat) (x : Core) : (s.setCore c x).now = s.now := rfl
@[simp] theorem State.setCore_freeCtr (s : State) (c : Nat) (x : Core) : (s.setCore c x).freeCtr = s.freeCtr := rfl
@[simp] theorem State.setCore_out (s : State) (c : Nat) (x : Core) : (s.setCore c x).out = s.out := rfl
@[simp] theorem State.setCore_reports (s : State) (c : Nat) (x : Core) : (s.setCore c x).reports = s.reports := rfl
@[simp] theorem State.setCore_cru (s : State) (c : Nat) (x : Core) : (s.setCore c x).cru = s.cru := rfl
@[simp] theorem State.setCore_prt (s : State) (c : Nat) (x : Core) : (s.setCore c x).prt = s.prt := rfl
@[simp] theorem State.setCore_que (s : State) (c : Nat) (x : Core) : (s.setCore c x).que = s.que := rfl
@[simp] theorem State.setCore_sch (s : State) (c : Nat) (x : Core) : (s.setCore c x).sch = s.sch := rfl
@[simp] theorem State.setCore_pol (s : State) (c : Nat) (x : Core) : (s.setCore c x).pol = s.pol := rfl
@[simp] theorem State.setCore_gst (s : State) (c : Nat) (x : Core) : (s.setCore c x).gst = s.gst := rfl
@[simp] theorem State.setCore_mbx (s : State) (c : Nat) (x : Core) : (s.setCore c x).mbx = s.mbx := rfl
@[simp] theorem State.setCore_cmd (s : State) (c : Nat) (x : Core) : (s.setCore c x).cmd = s.cmd := rfl
@[simp] theorem State.setCore_flt (s : State) (c : Nat) (x : Core) : (s.setCore c x).flt = s.flt := rfl
@[simp] theorem State.setCore_lnk (s : State) (c : Nat) (x : Core) : (s.setCore c x).lnk = s.lnk := rfl
@[simp] theorem State.setCore_can (s : State) (c : Nat) (x : Core) : (s.setCore c x).can = s.can := rfl
@[simp] theorem State.setCore_fab (s : State) (c : Nat) (x : Core) : (s.setCore c x).fab = s.fab := rfl
@[simp] theorem State.setCore_lth (s : State) (c : Nat) (x : Core) : (s.setCore c x).lth = s.lth := rfl
@[simp] theorem State.setCore_rst (s : State) (c : Nat) (x : Core) : (s.setCore c x).rst = s.rst := rfl
@[simp] theorem State.setCore_pow (s : State) (c : Nat) (x : Core) : (s.setCore c x).pow = s.pow := rfl
@[simp] theorem State.setCore_smpSeen (s : State) (c : Nat) (x : Core) : (s.setCore c x).smpSeen = s.smpSeen := rfl
@[simp] theorem State.setCore_smpBeat (s : State) (c : Nat) (x : Core) : (s.setCore c x).smpBeat = s.smpBeat := rfl
@[simp] theorem State.setCore_pending (s : State) (c : Nat) (x : Core) : (s.setCore c x).pending = s.pending := rfl

/-! ### setLane -/

@[simp] theorem State.setLane_regs (s : State) (l : Nat) (x : Core) : (s.setLane l x).regs = s.regs := rfl
@[simp] theorem State.setLane_act (s : State) (l : Nat) (x : Core) : (s.setLane l x).act = s.act := rfl
@[simp] theorem State.setLane_wo (s : State) (l : Nat) (x : Core) : (s.setLane l x).wo = s.wo := rfl
@[simp] theorem State.setLane_mem (s : State) (l : Nat) (x : Core) : (s.setLane l x).mem = s.mem := rfl
@[simp] theorem State.setLane_err (s : State) (l : Nat) (x : Core) : (s.setLane l x).err = s.err := rfl
@[simp] theorem State.setLane_now (s : State) (l : Nat) (x : Core) : (s.setLane l x).now = s.now := rfl
@[simp] theorem State.setLane_freeCtr (s : State) (l : Nat) (x : Core) : (s.setLane l x).freeCtr = s.freeCtr := rfl
@[simp] theorem State.setLane_out (s : State) (l : Nat) (x : Core) : (s.setLane l x).out = s.out := rfl
@[simp] theorem State.setLane_reports (s : State) (l : Nat) (x : Core) : (s.setLane l x).reports = s.reports := rfl
@[simp] theorem State.setLane_cru (s : State) (l : Nat) (x : Core) : (s.setLane l x).cru = s.cru := rfl
@[simp] theorem State.setLane_prt (s : State) (l : Nat) (x : Core) : (s.setLane l x).prt = s.prt := rfl
@[simp] theorem State.setLane_que (s : State) (l : Nat) (x : Core) : (s.setLane l x).que = s.que := rfl
@[simp] theorem State.setLane_sch (s : State) (l : Nat) (x : Core) : (s.setLane l x).sch = s.sch := rfl
@[simp] theorem State.setLane_pol (s : State) (l : Nat) (x : Core) : (s.setLane l x).pol = s.pol := rfl
@[simp] theorem State.setLane_gst (s : State) (l : Nat) (x : Core) : (s.setLane l x).gst = s.gst := rfl
@[simp] theorem State.setLane_mbx (s : State) (l : Nat) (x : Core) : (s.setLane l x).mbx = s.mbx := rfl
@[simp] theorem State.setLane_cmd (s : State) (l : Nat) (x : Core) : (s.setLane l x).cmd = s.cmd := rfl
@[simp] theorem State.setLane_flt (s : State) (l : Nat) (x : Core) : (s.setLane l x).flt = s.flt := rfl
@[simp] theorem State.setLane_lnk (s : State) (l : Nat) (x : Core) : (s.setLane l x).lnk = s.lnk := rfl
@[simp] theorem State.setLane_can (s : State) (l : Nat) (x : Core) : (s.setLane l x).can = s.can := rfl
@[simp] theorem State.setLane_fab (s : State) (l : Nat) (x : Core) : (s.setLane l x).fab = s.fab := rfl
@[simp] theorem State.setLane_lth (s : State) (l : Nat) (x : Core) : (s.setLane l x).lth = s.lth := rfl
@[simp] theorem State.setLane_rst (s : State) (l : Nat) (x : Core) : (s.setLane l x).rst = s.rst := rfl
@[simp] theorem State.setLane_pow (s : State) (l : Nat) (x : Core) : (s.setLane l x).pow = s.pow := rfl
@[simp] theorem State.setLane_smpSeen (s : State) (l : Nat) (x : Core) : (s.setLane l x).smpSeen = s.smpSeen := rfl
@[simp] theorem State.setLane_smpBeat (s : State) (l : Nat) (x : Core) : (s.setLane l x).smpBeat = s.smpBeat := rfl
@[simp] theorem State.setLane_pending (s : State) (l : Nat) (x : Core) : (s.setLane l x).pending = s.pending := rfl

/-! ### setBridge -/

@[simp] theorem State.setBridge_regs (s : State) (k : Nat) (b : Bridge) : (s.setBridge k b).regs = s.regs := rfl
@[simp] theorem State.setBridge_act (s : State) (k : Nat) (b : Bridge) : (s.setBridge k b).act = s.act := rfl
@[simp] theorem State.setBridge_wo (s : State) (k : Nat) (b : Bridge) : (s.setBridge k b).wo = s.wo := rfl
@[simp] theorem State.setBridge_mem (s : State) (k : Nat) (b : Bridge) : (s.setBridge k b).mem = s.mem := rfl
@[simp] theorem State.setBridge_err (s : State) (k : Nat) (b : Bridge) : (s.setBridge k b).err = s.err := rfl
@[simp] theorem State.setBridge_now (s : State) (k : Nat) (b : Bridge) : (s.setBridge k b).now = s.now := rfl
@[simp] theorem State.setBridge_freeCtr (s : State) (k : Nat) (b : Bridge) : (s.setBridge k b).freeCtr = s.freeCtr := rfl
@[simp] theorem State.setBridge_out (s : State) (k : Nat) (b : Bridge) : (s.setBridge k b).out = s.out := rfl
@[simp] theorem State.setBridge_reports (s : State) (k : Nat) (b : Bridge) : (s.setBridge k b).reports = s.reports := rfl
@[simp] theorem State.setBridge_cru (s : State) (k : Nat) (b : Bridge) : (s.setBridge k b).cru = s.cru := rfl
@[simp] theorem State.setBridge_que (s : State) (k : Nat) (b : Bridge) : (s.setBridge k b).que = s.que := rfl
@[simp] theorem State.setBridge_sch (s : State) (k : Nat) (b : Bridge) : (s.setBridge k b).sch = s.sch := rfl
@[simp] theorem State.setBridge_pol (s : State) (k : Nat) (b : Bridge) : (s.setBridge k b).pol = s.pol := rfl
@[simp] theorem State.setBridge_gst (s : State) (k : Nat) (b : Bridge) : (s.setBridge k b).gst = s.gst := rfl
@[simp] theorem State.setBridge_gaf (s : State) (k : Nat) (b : Bridge) : (s.setBridge k b).gaf = s.gaf := rfl
@[simp] theorem State.setBridge_mbx (s : State) (k : Nat) (b : Bridge) : (s.setBridge k b).mbx = s.mbx := rfl
@[simp] theorem State.setBridge_cmd (s : State) (k : Nat) (b : Bridge) : (s.setBridge k b).cmd = s.cmd := rfl
@[simp] theorem State.setBridge_flt (s : State) (k : Nat) (b : Bridge) : (s.setBridge k b).flt = s.flt := rfl
@[simp] theorem State.setBridge_lnk (s : State) (k : Nat) (b : Bridge) : (s.setBridge k b).lnk = s.lnk := rfl
@[simp] theorem State.setBridge_can (s : State) (k : Nat) (b : Bridge) : (s.setBridge k b).can = s.can := rfl
@[simp] theorem State.setBridge_fab (s : State) (k : Nat) (b : Bridge) : (s.setBridge k b).fab = s.fab := rfl
@[simp] theorem State.setBridge_lth (s : State) (k : Nat) (b : Bridge) : (s.setBridge k b).lth = s.lth := rfl
@[simp] theorem State.setBridge_rst (s : State) (k : Nat) (b : Bridge) : (s.setBridge k b).rst = s.rst := rfl
@[simp] theorem State.setBridge_pow (s : State) (k : Nat) (b : Bridge) : (s.setBridge k b).pow = s.pow := rfl
@[simp] theorem State.setBridge_smpSeen (s : State) (k : Nat) (b : Bridge) : (s.setBridge k b).smpSeen = s.smpSeen := rfl
@[simp] theorem State.setBridge_smpBeat (s : State) (k : Nat) (b : Bridge) : (s.setBridge k b).smpBeat = s.smpBeat := rfl
@[simp] theorem State.setBridge_pending (s : State) (k : Nat) (b : Bridge) : (s.setBridge k b).pending = s.pending := rfl

/-! ### setFn -/

@[simp] theorem State.setFn_regs (s : State) (f : Nat) (c : FnCfg) : (s.setFn f c).regs = s.regs := rfl
@[simp] theorem State.setFn_act (s : State) (f : Nat) (c : FnCfg) : (s.setFn f c).act = s.act := rfl
@[simp] theorem State.setFn_wo (s : State) (f : Nat) (c : FnCfg) : (s.setFn f c).wo = s.wo := rfl
@[simp] theorem State.setFn_mem (s : State) (f : Nat) (c : FnCfg) : (s.setFn f c).mem = s.mem := rfl
@[simp] theorem State.setFn_err (s : State) (f : Nat) (c : FnCfg) : (s.setFn f c).err = s.err := rfl
@[simp] theorem State.setFn_now (s : State) (f : Nat) (c : FnCfg) : (s.setFn f c).now = s.now := rfl
@[simp] theorem State.setFn_freeCtr (s : State) (f : Nat) (c : FnCfg) : (s.setFn f c).freeCtr = s.freeCtr := rfl
@[simp] theorem State.setFn_out (s : State) (f : Nat) (c : FnCfg) : (s.setFn f c).out = s.out := rfl
@[simp] theorem State.setFn_reports (s : State) (f : Nat) (c : FnCfg) : (s.setFn f c).reports = s.reports := rfl
@[simp] theorem State.setFn_cru (s : State) (f : Nat) (c : FnCfg) : (s.setFn f c).cru = s.cru := rfl
@[simp] theorem State.setFn_que (s : State) (f : Nat) (c : FnCfg) : (s.setFn f c).que = s.que := rfl
@[simp] theorem State.setFn_sch (s : State) (f : Nat) (c : FnCfg) : (s.setFn f c).sch = s.sch := rfl
@[simp] theorem State.setFn_pol (s : State) (f : Nat) (c : FnCfg) : (s.setFn f c).pol = s.pol := rfl
@[simp] theorem State.setFn_gst (s : State) (f : Nat) (c : FnCfg) : (s.setFn f c).gst = s.gst := rfl
@[simp] theorem State.setFn_gaf (s : State) (f : Nat) (c : FnCfg) : (s.setFn f c).gaf = s.gaf := rfl
@[simp] theorem State.setFn_mbx (s : State) (f : Nat) (c : FnCfg) : (s.setFn f c).mbx = s.mbx := rfl
@[simp] theorem State.setFn_cmd (s : State) (f : Nat) (c : FnCfg) : (s.setFn f c).cmd = s.cmd := rfl
@[simp] theorem State.setFn_flt (s : State) (f : Nat) (c : FnCfg) : (s.setFn f c).flt = s.flt := rfl
@[simp] theorem State.setFn_lnk (s : State) (f : Nat) (c : FnCfg) : (s.setFn f c).lnk = s.lnk := rfl
@[simp] theorem State.setFn_can (s : State) (f : Nat) (c : FnCfg) : (s.setFn f c).can = s.can := rfl
@[simp] theorem State.setFn_fab (s : State) (f : Nat) (c : FnCfg) : (s.setFn f c).fab = s.fab := rfl
@[simp] theorem State.setFn_lth (s : State) (f : Nat) (c : FnCfg) : (s.setFn f c).lth = s.lth := rfl
@[simp] theorem State.setFn_rst (s : State) (f : Nat) (c : FnCfg) : (s.setFn f c).rst = s.rst := rfl
@[simp] theorem State.setFn_pow (s : State) (f : Nat) (c : FnCfg) : (s.setFn f c).pow = s.pow := rfl
@[simp] theorem State.setFn_smpSeen (s : State) (f : Nat) (c : FnCfg) : (s.setFn f c).smpSeen = s.smpSeen := rfl
@[simp] theorem State.setFn_smpBeat (s : State) (f : Nat) (c : FnCfg) : (s.setFn f c).smpBeat = s.smpBeat := rfl
@[simp] theorem State.setFn_pending (s : State) (f : Nat) (c : FnCfg) : (s.setFn f c).pending = s.pending := rfl

/-! ### setCane -/

@[simp] theorem State.setCane_regs (s : State) (p : Nat) (c : Cane) : (s.setCane p c).regs = s.regs := rfl
@[simp] theorem State.setCane_act (s : State) (p : Nat) (c : Cane) : (s.setCane p c).act = s.act := rfl
@[simp] theorem State.setCane_wo (s : State) (p : Nat) (c : Cane) : (s.setCane p c).wo = s.wo := rfl
@[simp] theorem State.setCane_mem (s : State) (p : Nat) (c : Cane) : (s.setCane p c).mem = s.mem := rfl
@[simp] theorem State.setCane_err (s : State) (p : Nat) (c : Cane) : (s.setCane p c).err = s.err := rfl
@[simp] theorem State.setCane_now (s : State) (p : Nat) (c : Cane) : (s.setCane p c).now = s.now := rfl
@[simp] theorem State.setCane_freeCtr (s : State) (p : Nat) (c : Cane) : (s.setCane p c).freeCtr = s.freeCtr := rfl
@[simp] theorem State.setCane_out (s : State) (p : Nat) (c : Cane) : (s.setCane p c).out = s.out := rfl
@[simp] theorem State.setCane_reports (s : State) (p : Nat) (c : Cane) : (s.setCane p c).reports = s.reports := rfl
@[simp] theorem State.setCane_cru (s : State) (p : Nat) (c : Cane) : (s.setCane p c).cru = s.cru := rfl
@[simp] theorem State.setCane_prt (s : State) (p : Nat) (c : Cane) : (s.setCane p c).prt = s.prt := rfl
@[simp] theorem State.setCane_que (s : State) (p : Nat) (c : Cane) : (s.setCane p c).que = s.que := rfl
@[simp] theorem State.setCane_sch (s : State) (p : Nat) (c : Cane) : (s.setCane p c).sch = s.sch := rfl
@[simp] theorem State.setCane_pol (s : State) (p : Nat) (c : Cane) : (s.setCane p c).pol = s.pol := rfl
@[simp] theorem State.setCane_gst (s : State) (p : Nat) (c : Cane) : (s.setCane p c).gst = s.gst := rfl
@[simp] theorem State.setCane_gaf (s : State) (p : Nat) (c : Cane) : (s.setCane p c).gaf = s.gaf := rfl
@[simp] theorem State.setCane_mbx (s : State) (p : Nat) (c : Cane) : (s.setCane p c).mbx = s.mbx := rfl
@[simp] theorem State.setCane_cmd (s : State) (p : Nat) (c : Cane) : (s.setCane p c).cmd = s.cmd := rfl
@[simp] theorem State.setCane_flt (s : State) (p : Nat) (c : Cane) : (s.setCane p c).flt = s.flt := rfl
@[simp] theorem State.setCane_lnk (s : State) (p : Nat) (c : Cane) : (s.setCane p c).lnk = s.lnk := rfl
@[simp] theorem State.setCane_fab (s : State) (p : Nat) (c : Cane) : (s.setCane p c).fab = s.fab := rfl
@[simp] theorem State.setCane_lth (s : State) (p : Nat) (c : Cane) : (s.setCane p c).lth = s.lth := rfl
@[simp] theorem State.setCane_rst (s : State) (p : Nat) (c : Cane) : (s.setCane p c).rst = s.rst := rfl
@[simp] theorem State.setCane_pow (s : State) (p : Nat) (c : Cane) : (s.setCane p c).pow = s.pow := rfl
@[simp] theorem State.setCane_smpSeen (s : State) (p : Nat) (c : Cane) : (s.setCane p c).smpSeen = s.smpSeen := rfl
@[simp] theorem State.setCane_smpBeat (s : State) (p : Nat) (c : Cane) : (s.setCane p c).smpBeat = s.smpBeat := rfl
@[simp] theorem State.setCane_pending (s : State) (p : Nat) (c : Cane) : (s.setCane p c).pending = s.pending := rfl

/-! ### gateFree -/

@[simp] theorem State.gateFree_regs (s : State) (g a n k o w : Nat) : (s.gateFree g a n k o w).regs = s.regs := rfl
@[simp] theorem State.gateFree_act (s : State) (g a n k o w : Nat) : (s.gateFree g a n k o w).act = s.act := rfl
@[simp] theorem State.gateFree_wo (s : State) (g a n k o w : Nat) : (s.gateFree g a n k o w).wo = s.wo := rfl
@[simp] theorem State.gateFree_mem (s : State) (g a n k o w : Nat) : (s.gateFree g a n k o w).mem = s.mem := rfl
@[simp] theorem State.gateFree_err (s : State) (g a n k o w : Nat) : (s.gateFree g a n k o w).err = s.err := rfl
@[simp] theorem State.gateFree_now (s : State) (g a n k o w : Nat) : (s.gateFree g a n k o w).now = s.now := rfl
@[simp] theorem State.gateFree_freeCtr (s : State) (g a n k o w : Nat) : (s.gateFree g a n k o w).freeCtr = s.freeCtr := rfl
@[simp] theorem State.gateFree_out (s : State) (g a n k o w : Nat) : (s.gateFree g a n k o w).out = s.out := rfl
@[simp] theorem State.gateFree_reports (s : State) (g a n k o w : Nat) : (s.gateFree g a n k o w).reports = s.reports := rfl
@[simp] theorem State.gateFree_cru (s : State) (g a n k o w : Nat) : (s.gateFree g a n k o w).cru = s.cru := rfl
@[simp] theorem State.gateFree_prt (s : State) (g a n k o w : Nat) : (s.gateFree g a n k o w).prt = s.prt := rfl
@[simp] theorem State.gateFree_que (s : State) (g a n k o w : Nat) : (s.gateFree g a n k o w).que = s.que := rfl
@[simp] theorem State.gateFree_sch (s : State) (g a n k o w : Nat) : (s.gateFree g a n k o w).sch = s.sch := rfl
@[simp] theorem State.gateFree_pol (s : State) (g a n k o w : Nat) : (s.gateFree g a n k o w).pol = s.pol := rfl
@[simp] theorem State.gateFree_gaf (s : State) (g a n k o w : Nat) : (s.gateFree g a n k o w).gaf = s.gaf := rfl
@[simp] theorem State.gateFree_mbx (s : State) (g a n k o w : Nat) : (s.gateFree g a n k o w).mbx = s.mbx := rfl
@[simp] theorem State.gateFree_cmd (s : State) (g a n k o w : Nat) : (s.gateFree g a n k o w).cmd = s.cmd := rfl
@[simp] theorem State.gateFree_flt (s : State) (g a n k o w : Nat) : (s.gateFree g a n k o w).flt = s.flt := rfl
@[simp] theorem State.gateFree_lnk (s : State) (g a n k o w : Nat) : (s.gateFree g a n k o w).lnk = s.lnk := rfl
@[simp] theorem State.gateFree_can (s : State) (g a n k o w : Nat) : (s.gateFree g a n k o w).can = s.can := rfl
@[simp] theorem State.gateFree_fab (s : State) (g a n k o w : Nat) : (s.gateFree g a n k o w).fab = s.fab := rfl
@[simp] theorem State.gateFree_lth (s : State) (g a n k o w : Nat) : (s.gateFree g a n k o w).lth = s.lth := rfl
@[simp] theorem State.gateFree_rst (s : State) (g a n k o w : Nat) : (s.gateFree g a n k o w).rst = s.rst := rfl
@[simp] theorem State.gateFree_pow (s : State) (g a n k o w : Nat) : (s.gateFree g a n k o w).pow = s.pow := rfl
@[simp] theorem State.gateFree_smpSeen (s : State) (g a n k o w : Nat) : (s.gateFree g a n k o w).smpSeen = s.smpSeen := rfl
@[simp] theorem State.gateFree_smpBeat (s : State) (g a n k o w : Nat) : (s.gateFree g a n k o w).smpBeat = s.smpBeat := rfl
@[simp] theorem State.gateFree_pending (s : State) (g a n k o w : Nat) : (s.gateFree g a n k o w).pending = s.pending := rfl

/-! ### setAgent -/

@[simp] theorem State.setAgent_regs (s : State) (ag : Agent) (x : Core) : (s.setAgent ag x).regs = s.regs := by cases ag <;> rfl
@[simp] theorem State.setAgent_act (s : State) (ag : Agent) (x : Core) : (s.setAgent ag x).act = s.act := by cases ag <;> rfl
@[simp] theorem State.setAgent_wo (s : State) (ag : Agent) (x : Core) : (s.setAgent ag x).wo = s.wo := by cases ag <;> rfl
@[simp] theorem State.setAgent_mem (s : State) (ag : Agent) (x : Core) : (s.setAgent ag x).mem = s.mem := by cases ag <;> rfl
@[simp] theorem State.setAgent_err (s : State) (ag : Agent) (x : Core) : (s.setAgent ag x).err = s.err := by cases ag <;> rfl
@[simp] theorem State.setAgent_now (s : State) (ag : Agent) (x : Core) : (s.setAgent ag x).now = s.now := by cases ag <;> rfl
@[simp] theorem State.setAgent_freeCtr (s : State) (ag : Agent) (x : Core) : (s.setAgent ag x).freeCtr = s.freeCtr := by cases ag <;> rfl
@[simp] theorem State.setAgent_out (s : State) (ag : Agent) (x : Core) : (s.setAgent ag x).out = s.out := by cases ag <;> rfl
@[simp] theorem State.setAgent_reports (s : State) (ag : Agent) (x : Core) : (s.setAgent ag x).reports = s.reports := by cases ag <;> rfl
@[simp] theorem State.setAgent_cru (s : State) (ag : Agent) (x : Core) : (s.setAgent ag x).cru = s.cru := by cases ag <;> rfl
@[simp] theorem State.setAgent_prt (s : State) (ag : Agent) (x : Core) : (s.setAgent ag x).prt = s.prt := by cases ag <;> rfl
@[simp] theorem State.setAgent_que (s : State) (ag : Agent) (x : Core) : (s.setAgent ag x).que = s.que := by cases ag <;> rfl
@[simp] theorem State.setAgent_sch (s : State) (ag : Agent) (x : Core) : (s.setAgent ag x).sch = s.sch := by cases ag <;> rfl
@[simp] theorem State.setAgent_pol (s : State) (ag : Agent) (x : Core) : (s.setAgent ag x).pol = s.pol := by cases ag <;> rfl
@[simp] theorem State.setAgent_gst (s : State) (ag : Agent) (x : Core) : (s.setAgent ag x).gst = s.gst := by cases ag <;> rfl
@[simp] theorem State.setAgent_mbx (s : State) (ag : Agent) (x : Core) : (s.setAgent ag x).mbx = s.mbx := by cases ag <;> rfl
@[simp] theorem State.setAgent_cmd (s : State) (ag : Agent) (x : Core) : (s.setAgent ag x).cmd = s.cmd := by cases ag <;> rfl
@[simp] theorem State.setAgent_flt (s : State) (ag : Agent) (x : Core) : (s.setAgent ag x).flt = s.flt := by cases ag <;> rfl
@[simp] theorem State.setAgent_lnk (s : State) (ag : Agent) (x : Core) : (s.setAgent ag x).lnk = s.lnk := by cases ag <;> rfl
@[simp] theorem State.setAgent_can (s : State) (ag : Agent) (x : Core) : (s.setAgent ag x).can = s.can := by cases ag <;> rfl
@[simp] theorem State.setAgent_fab (s : State) (ag : Agent) (x : Core) : (s.setAgent ag x).fab = s.fab := by cases ag <;> rfl
@[simp] theorem State.setAgent_lth (s : State) (ag : Agent) (x : Core) : (s.setAgent ag x).lth = s.lth := by cases ag <;> rfl
@[simp] theorem State.setAgent_rst (s : State) (ag : Agent) (x : Core) : (s.setAgent ag x).rst = s.rst := by cases ag <;> rfl
@[simp] theorem State.setAgent_pow (s : State) (ag : Agent) (x : Core) : (s.setAgent ag x).pow = s.pow := by cases ag <;> rfl
@[simp] theorem State.setAgent_smpSeen (s : State) (ag : Agent) (x : Core) : (s.setAgent ag x).smpSeen = s.smpSeen := by cases ag <;> rfl
@[simp] theorem State.setAgent_smpBeat (s : State) (ag : Agent) (x : Core) : (s.setAgent ag x).smpBeat = s.smpBeat := by cases ag <;> rfl
@[simp] theorem State.setAgent_pending (s : State) (ag : Agent) (x : Core) : (s.setAgent ag x).pending = s.pending := by cases ag <;> rfl

/-! ### gateBind -/

@[simp] theorem State.gateBind_regs (s : State) (g a n k o w : Nat) : (s.gateBind g a n k o w).regs = s.regs := by unfold State.gateBind; split <;> rfl
@[simp] theorem State.gateBind_act (s : State) (g a n k o w : Nat) : (s.gateBind g a n k o w).act = s.act := by unfold State.gateBind; split <;> rfl
@[simp] theorem State.gateBind_wo (s : State) (g a n k o w : Nat) : (s.gateBind g a n k o w).wo = s.wo := by unfold State.gateBind; split <;> rfl
@[simp] theorem State.gateBind_mem (s : State) (g a n k o w : Nat) : (s.gateBind g a n k o w).mem = s.mem := by unfold State.gateBind; split <;> rfl
@[simp] theorem State.gateBind_err (s : State) (g a n k o w : Nat) : (s.gateBind g a n k o w).err = s.err := by unfold State.gateBind; split <;> rfl
@[simp] theorem State.gateBind_now (s : State) (g a n k o w : Nat) : (s.gateBind g a n k o w).now = s.now := by unfold State.gateBind; split <;> rfl
@[simp] theorem State.gateBind_freeCtr (s : State) (g a n k o w : Nat) : (s.gateBind g a n k o w).freeCtr = s.freeCtr := by unfold State.gateBind; split <;> rfl
@[simp] theorem State.gateBind_out (s : State) (g a n k o w : Nat) : (s.gateBind g a n k o w).out = s.out := by unfold State.gateBind; split <;> rfl
@[simp] theorem State.gateBind_reports (s : State) (g a n k o w : Nat) : (s.gateBind g a n k o w).reports = s.reports := by unfold State.gateBind; split <;> rfl
@[simp] theorem State.gateBind_cru (s : State) (g a n k o w : Nat) : (s.gateBind g a n k o w).cru = s.cru := by unfold State.gateBind; split <;> rfl
@[simp] theorem State.gateBind_prt (s : State) (g a n k o w : Nat) : (s.gateBind g a n k o w).prt = s.prt := by unfold State.gateBind; split <;> rfl
@[simp] theorem State.gateBind_que (s : State) (g a n k o w : Nat) : (s.gateBind g a n k o w).que = s.que := by unfold State.gateBind; split <;> rfl
@[simp] theorem State.gateBind_sch (s : State) (g a n k o w : Nat) : (s.gateBind g a n k o w).sch = s.sch := by unfold State.gateBind; split <;> rfl
@[simp] theorem State.gateBind_pol (s : State) (g a n k o w : Nat) : (s.gateBind g a n k o w).pol = s.pol := by unfold State.gateBind; split <;> rfl
@[simp] theorem State.gateBind_gaf (s : State) (g a n k o w : Nat) : (s.gateBind g a n k o w).gaf = s.gaf := by unfold State.gateBind; split <;> rfl
@[simp] theorem State.gateBind_mbx (s : State) (g a n k o w : Nat) : (s.gateBind g a n k o w).mbx = s.mbx := by unfold State.gateBind; split <;> rfl
@[simp] theorem State.gateBind_cmd (s : State) (g a n k o w : Nat) : (s.gateBind g a n k o w).cmd = s.cmd := by unfold State.gateBind; split <;> rfl
@[simp] theorem State.gateBind_flt (s : State) (g a n k o w : Nat) : (s.gateBind g a n k o w).flt = s.flt := by unfold State.gateBind; split <;> rfl
@[simp] theorem State.gateBind_lnk (s : State) (g a n k o w : Nat) : (s.gateBind g a n k o w).lnk = s.lnk := by unfold State.gateBind; split <;> rfl
@[simp] theorem State.gateBind_can (s : State) (g a n k o w : Nat) : (s.gateBind g a n k o w).can = s.can := by unfold State.gateBind; split <;> rfl
@[simp] theorem State.gateBind_fab (s : State) (g a n k o w : Nat) : (s.gateBind g a n k o w).fab = s.fab := by unfold State.gateBind; split <;> rfl
@[simp] theorem State.gateBind_lth (s : State) (g a n k o w : Nat) : (s.gateBind g a n k o w).lth = s.lth := by unfold State.gateBind; split <;> rfl
@[simp] theorem State.gateBind_rst (s : State) (g a n k o w : Nat) : (s.gateBind g a n k o w).rst = s.rst := by unfold State.gateBind; split <;> rfl
@[simp] theorem State.gateBind_pow (s : State) (g a n k o w : Nat) : (s.gateBind g a n k o w).pow = s.pow := by unfold State.gateBind; split <;> rfl
@[simp] theorem State.gateBind_smpSeen (s : State) (g a n k o w : Nat) : (s.gateBind g a n k o w).smpSeen = s.smpSeen := by unfold State.gateBind; split <;> rfl
@[simp] theorem State.gateBind_smpBeat (s : State) (g a n k o w : Nat) : (s.gateBind g a n k o w).smpBeat = s.smpBeat := by unfold State.gateBind; split <;> rfl
@[simp] theorem State.gateBind_pending (s : State) (g a n k o w : Nat) : (s.gateBind g a n k o w).pending = s.pending := by unfold State.gateBind; split <;> rfl

/-! ### Reading after writing -/

theorem xor_xor_same (v r : Nat) : Nat.xor (Nat.xor v r) r = v := Nat.xor_xor_cancel_right v r

/-- A register reads as the low 64 bits written to it. -/
@[simp] theorem State.rd_wr (s : State) (r : RegRef) (v : Nat) : (s.wr r v).rd r = v % 2 ^ 64 := by
  simp only [State.rd, State.wr, SMap.get_set_same, xor_xor_same]

/-- A register at another address reads as before. -/
theorem State.rd_wr_other (s : State) (r q : RegRef) (v : Nat) (h : q.addr ≠ r.addr) : (s.wr r v).rd q = s.rd q := by
  simp only [State.rd, State.wr, SMap.get_set_other _ _ _ _ _ h]

@[simp] theorem State.rdAct_wrAct (s : State) (r : RegRef) (v : Nat) : (s.wrAct r v).rdAct r = v % 2 ^ 64 := by
  simp only [State.rdAct, State.wrAct, SMap.get_set_same, xor_xor_same]

theorem State.rdAct_wrAct_other (s : State) (r q : RegRef) (v : Nat) (h : q.addr ≠ r.addr) : (s.wrAct r v).rdAct q = s.rdAct q := by
  simp only [State.rdAct, State.wrAct, SMap.get_set_other _ _ _ _ _ h]

/-- A write of a register leaves every field of another register. -/
theorem State.get_put_other (s : State) (r q : RegRef) (f g : Fld) (v : Nat) (h : q.addr ≠ r.addr) :
    (s.put r f v).get q g = s.get q g := by
  simp only [State.get, State.put, State.rd_wr_other _ _ _ _ h]

@[simp] theorem State.core_setCore (s : State) (c : Nat) (x : Core) : (s.setCore c x).core c = x := SMap.get_set_same _ _ _ _

theorem State.core_setCore_other (s : State) (c d : Nat) (x : Core) (h : d ≠ c) : (s.setCore c x).core d = s.core d :=
  SMap.get_set_other _ _ _ _ _ h

@[simp] theorem State.lane_setLane (s : State) (l : Nat) (x : Core) : (s.setLane l x).lane l = x := SMap.get_set_same _ _ _ _

theorem State.lane_setLane_other (s : State) (l d : Nat) (x : Core) (h : d ≠ l) : (s.setLane l x).lane d = s.lane d :=
  SMap.get_set_other _ _ _ _ _ h

@[simp] theorem State.lane_setCore (s : State) (c l : Nat) (x : Core) : (s.setCore c x).lane l = s.lane l := rfl
@[simp] theorem State.core_setLane (s : State) (c l : Nat) (x : Core) : (s.setLane l x).core c = s.core c := rfl

@[simp] theorem State.agent_setAgent (s : State) (ag : Agent) (x : Core) : (s.setAgent ag x).agent ag = x := by
  cases ag <;> simp [State.setAgent, State.agent]

@[simp] theorem State.bridge_setBridge (s : State) (k : Nat) (b : Bridge) : (s.setBridge k b).bridge k = b := SMap.get_set_same _ _ _ _

theorem State.bridge_setBridge_other (s : State) (k j : Nat) (b : Bridge) (h : j ≠ k) : (s.setBridge k b).bridge j = s.bridge j :=
  SMap.get_set_other _ _ _ _ _ h

@[simp] theorem State.cane_setCane (s : State) (p : Nat) (c : Cane) : (s.setCane p c).cane p = c := SMap.get_set_same _ _ _ _

theorem State.cane_setCane_other (s : State) (p q : Nat) (c : Cane) (h : q ≠ p) : (s.setCane p c).cane q = s.cane q :=
  SMap.get_set_other _ _ _ _ _ h

/-! ### General registers of a core or lane -/

@[simp] theorem Core.rg_zero (x : Core) : x.rg 0 = 0 := rfl
@[simp] theorem Core.wg_zero (x : Core) (v : Nat) : x.wg 0 v = x := rfl

theorem Core.rg_wg_same (x : Core) (r v : Nat) (h : r ≠ 0) : (x.wg r v).rg r = v % 2 ^ 64 := by
  simp only [Core.rg, Core.wg, if_neg h, SMap.get_set_same, Nat.mod_mod]

theorem Core.rg_wg_other (x : Core) (r q v : Nat) (h : q ≠ r) : (x.wg r v).rg q = x.rg q := by
  unfold Core.rg Core.wg
  split
  · rfl
  · split
    · rfl
    · rw [SMap.get_set_other _ _ _ _ _ h]

end Sys2Proof.Machine
end

