-- ==== Sys2Proof/Tests/Slice0.lean ====
section
/-!
SUPPORT. Tests of the model. A `witness_` theorem shows a small state and operands that meet the hypotheses of a statement, clause by
clause, and where the kernel can evaluate it the effect the manual gives; a `test_` theorem checks one rule by itself.
-/
set_option Elab.async false
namespace Sys2Proof.Tests
open Sys2Proof Sys2Proof.Machine

/-- The outcome is a next state with a property. -/
def after (r : Host.Outcome State Fault Refusal) (p : State → Bool) : Bool :=
  match r with
  | .next t => p t
  | .fault _ | .refused _ => false

/-- A state with registers of which a read returns the given values. -/
def withRegs (l : List (RegRef × Nat)) (s : State) : State := l.foldl (fun s e => s.wr e.1 e.2) s
/-- The same for values in force. -/
def withAct (l : List (RegRef × Nat)) (s : State) : State := l.foldl (fun s e => s.wrAct e.1 e.2) s

/-- A running core 0. -/
def core0 (x : Core) : State := State.reset.setCore 0 { x with run := .running }
/-- General registers. -/
def gs (l : List (Nat × Nat)) : Core := l.foldl (fun x e => x.wg e.1 e.2) {}

/-- A packet of source queue `q`. -/
def pkt (q : Nat) : QPkt := ⟨1, q, 7, true, 300, 0x55, 0, 0, 0, 0, [0, 1], none, false, 0, 0⟩

/-- A running lane 0 whose program of 8 syllables is at its start. -/
def lane0 (x : Core) : State :=
  let s : State := { State.reset with que := { State.reset.que with jack := [⟨0, pkt 0, 0⟩], slotsUsed := 1 } }
  withAct [(R.JCK_SLOT 0, 2 ^ F.JCK_SLOT_VALID.lo + 8 * 2 ^ F.JCK_SLOT_LEN.lo)] (s.setLane 0 { x with run := .running })

/-- A table with no key in a range holds nothing there. -/
theorem get_outside (m : SMap Nat) (lo hi a : Nat) (hl : lo ≤ a) (hh : a < hi) (h : m.all (fun e => decide (e.1 < lo) || decide (hi ≤ e.1)) = true) :
    SMap.get m 0 a = 0 := by
  induction m with
  | nil => rfl
  | cons e m ih =>
    simp only [List.all_cons, Bool.and_eq_true, Bool.or_eq_true, decide_eq_true_eq] at h
    rw [SMap.get]
    split
    · omega
    · exact ih h.2
/-! ### Integer instructions -/

theorem witness_AluInstructionsWriteTheirFunction :
    (core0 (gs [(1, 2 ^ 64 - 1), (2, 1)])).ready (.core 0) ∧ (lane0 {}).ready (.lane 0) ∧
    (core0 {}).mayTrap 0 ∧ (63#20).toNat < 64 ∧ 64 ≤ (64#20).toNat := by decide
theorem test_add_wraps : after (exec (.iAdd ⟨.core 0, 0⟩ 3 1 2) (core0 (gs [(1, 2 ^ 64 - 1), (2, 1)])))
    (fun t => (t.core 0).rg 3 == 0 && (t.core 0).pc == 1) = true := by decide
theorem test_sra_is_signed : after (exec (.sra ⟨.core 0, 0⟩ 3 1 2) (core0 (gs [(1, 2 ^ 63), (2, 65)])))
    (fun t => (t.core 0).rg 3 == 2 ^ 63 + 2 ^ 62) = true := by decide
theorem test_min_is_signed : after (exec (.iMin ⟨.core 0, 0⟩ 3 1 2) (core0 (gs [(1, 2 ^ 64 - 1), (2, 1)])))
    (fun t => (t.core 0).rg 3 == 2 ^ 64 - 1) = true := by decide
theorem test_addi_sign_extends : after (exec (.addi ⟨.lane 0, 0⟩ 3 1 0xFFFFF#20) (lane0 (gs [(1, 5)])))
    (fun t => (t.lane 0).rg 3 == 4 && (t.lane 0).pc == 1) = true := by decide
theorem test_slli_beyond_is_illegal : after (exec (.slli ⟨.core 0, 0⟩ 3 1 64#20) (core0 (gs [(1, 5)])))
    (fun t => (t.core 0).rcsr CSR.ECAUSE == EX.ILLEGAL && (t.core 0).exl && (t.core 0).rg 3 == 0) = true := by decide
theorem test_write_to_g0_discarded : after (exec (.addi ⟨.core 0, 0⟩ 0 1 1#20) (core0 (gs [(1, 5)]))) (fun t => (t.core 0).rg 0 == 0) = true := by
  decide

theorem witness_MoviAndFieldInstructionsWriteTheirFields :
    (core0 (gs [(1, 0xFF)])).ready (.core 0) ∧ (63 : Fin 64).val + (0 : Fin 64).val ≤ 63 ∧ (core0 {}).mayTrap 0 ∧
    (lane0 {}).ready (.lane 0) ∧ 63 < (63 : Fin 64).val + (1 : Fin 64).val ∧ (1 : Fin 32) ≠ 0 := by decide
theorem test_exts : after (exec (.exts ⟨.core 0, 0⟩ 3 1 4 3) (core0 (gs [(1, 0xF80)]))) (fun t => (t.core 0).rg 3 == 2 ^ 64 - 8) = true := by decide
theorem test_ins : after (exec (.ins ⟨.core 0, 0⟩ 2 1 8 7) (core0 (gs [(1, 0x1AB), (2, 2 ^ 64 - 1)])))
    (fun t => (t.core 0).rg 2 == 2 ^ 64 - 1 - 0xFF00 + 0xAB00) = true := by decide
theorem test_movi_keeps : after (exec (.movi ⟨.core 0, 0⟩ 2 1 true 0x1234#16) (core0 (gs [(2, 0xFFFF)])))
    (fun t => (t.core 0).rg 2 == 0x1234FFFF) = true := by decide

theorem witness_PredicatesAndGobCountersAreWritten :
    (core0 (gs [(1, 2 ^ 64 - 1), (2, 1)])).ready (.core 0) ∧ Claims.holds 2 (.ofNat 64 ((core0 (gs [(1, 2 ^ 64 - 1), (2, 1)])).agent (.core 0) |>.rg 1))
      (.ofNat 64 ((core0 (gs [(1, 2 ^ 64 - 1), (2, 1)])).agent (.core 0) |>.rg 2)) = some true ∧
    Claims.holds 6 1#64 ((3#20).signExtend 64) = some true ∧ (core0 {}).mayTrap 0 ∧ (lane0 {}).ready (.lane 0) ∧ 6 < (7 : Fin 16).val ∧ (7 : Fin 32).val < 8 ∧
    8 ≤ (8 : Fin 32).val := by decide
theorem test_cmp_is_signed : after (exec (.cmp ⟨.core 0, 0⟩ 3 2 1 2) (core0 (gs [(1, 2 ^ 64 - 1), (2, 1)])))
    (fun t => (t.core 0).rp 3) = true := by decide
theorem test_cmp_reserved_is_illegal : after (exec (.cmp ⟨.core 0, 0⟩ 3 7 1 2) (core0 {}))
    (fun t => (t.core 0).rcsr CSR.ECAUSE == EX.ILLEGAL) = true := by decide
theorem test_kgob_saturates : after (exec (.kgob ⟨.core 0, 0⟩ 7 1) (core0 (gs [(1, 2 ^ 63)]))) (fun t => (t.core 0).rk 7 == 2 ^ 48 - 1) = true := by
  decide
theorem test_ksub_stops_at_zero : after (exec (.ksub ⟨.core 0, 0⟩ 1 2 3) (core0 { k := [(2, 5), (3, 6)] })) (fun t => (t.core 0).rk 1 == 0) = true := by
  decide

/-! ### Branches and exceptions -/

theorem witness_BranchesAndSystemInstructionsOfACore :
    (core0 { pc := 5 }).ready (.core 0) ∧ Claims.branchTarget ((core0 { pc := 5 }).core 0).pc (-5#29) < 209715 ∧
    (core0 { pc := 5 }).mayTrap 0 ∧ 209715 ≤ Claims.branchTarget ((core0 { pc := 5 }).core 0).pc (-6#29) ∧
    ((core0 (gs [(1, 209714)])).core 0).rg 1 % 2 ^ 32 < 209715 ∧ 209715 ≤ ((core0 (gs [(1, 209715)])).core 0).rg 1 % 2 ^ 32 ∧
    ((core0 {}).core 0).priv = 0 ∧ bitOf (((core0 {}).core 0).rcsr CSR.ECAUSE) 10 = false ∧
    (core0 {}).bit (R.GAF_CORE 0) F.GAF_CORE_SWAP_PEND = false ∧
    ((core0 { csr := [(CSR.STATUS, 1)] }).mayTrap 0 ∧ ((core0 { csr := [(CSR.STATUS, 1)] }).core 0).priv ≠ 0) ∧
    (∀ i : Fin 4, (1 : Fin 4).val < i.val → [1, 2, 0, (0 : Fin 16)][i.val]? = some 0) ∧
    (let s := core0 { csr := [(CSR.STATUS, 4), (CSR.EVPEND, 1), (CSR.EVIE, 3)] }
     (s.core 0).run = .running ∧ (s.core 0).ie = true ∧ (s.core 0).exl = false ∧
     Nat.land ((s.core 0).rcsr CSR.EVPEND) ((s.core 0).rcsr CSR.EVIE) ≠ 0 ∧ (s.core 0).sb = [] ∧ (s.core 0).skip = 0) := by decide
theorem test_br_links : after (exec (.br ⟨.core 0, 0⟩ 31 (-5#29)) (core0 { pc := 5 })) (fun t => (t.core 0).pc == 0 && (t.core 0).rg 31 == 6) = true := by
  decide
theorem test_br_beyond : after (exec (.br ⟨.core 0, 0⟩ 31 (-6#29)) (core0 { pc := 5 }))
    (fun t => (t.core 0).rcsr CSR.ECAUSE == EX.BUS_ERR && (t.core 0).rcsr CSR.EPC == 5) = true := by decide
theorem test_eret : after (exec (.eret ⟨.core 0, 0⟩) (core0 { csr := [(CSR.STATUS, 8), (CSR.ESTATUS, 5), (CSR.EPC, 9)] }))
    (fun t => (t.core 0).pc == 9 && (t.core 0).rcsr CSR.STATUS == 5) = true := by decide
theorem test_pred_covers : after (exec (.pred ⟨.core 0, 0⟩ 1 1 2 0 0) (core0 { pc := 3 }))
    (fun t => (t.core 0).slots == [1, 2] && (t.core 0).predPc == 3 && (t.core 0).pc == 4) = true := by decide
theorem test_ecall_in_a_range : after (exec (.ecall ⟨.core 0, 0⟩) (core0 { pc := 4, slots := [0], predPc := 3, csr := [(CSR.EVEC, 0x40)] }))
    (fun t => (t.core 0).pc == 0x40 && (t.core 0).rcsr CSR.EPC == 3 && bitOf ((t.core 0).rcsr CSR.ECAUSE) 10) = true := by decide

theorem witness_ExceptionEntrySavesAndGoesToTheHandler : EX.EVENT < 256 ∧ ({ predDone := 3 } : Core).predDone < 4 := by decide

theorem witness_FalsePredicateLeavesOnlyThePcMoved :
    (core0 { slots := [1, 2] }).live (.core 0) = true ∧ ((core0 { slots := [1, 2] }).core 0).slots = 1 :: [2] ∧
    ((core0 { slots := [1, 2] }).core 0).slotTrue 1 = false ∧
    Claims.issued (.ecall ⟨.core 0, 0⟩) = some (.core 0, 0) ∧ (1#40) ≠ 0 ∧ (core0 {}).mayTrap 0 ∧
    Claims.issued (.iAdd ⟨.core 0, 1⟩ 3 1 2) = some (.core 0, 1) ∧ (lane0 {}).ready (.lane 0) ∧
    Claims.issued (.drop ⟨0, 1⟩ 7) = some (.lane 0, 1) := by decide
theorem test_reserved_bits_are_illegal : after (exec (.iAdd ⟨.core 0, 1⟩ 3 1 2) (core0 (gs [(1, 5)])))
    (fun t => (t.core 0).rcsr CSR.ECAUSE == EX.ILLEGAL && (t.core 0).exl && (t.core 0).rg 3 == 0) = true := by decide
theorem test_false_predicate : after (exec (.ecall ⟨.core 0, 0⟩) (core0 { slots := [1, 2] }))
    (fun t => (t.core 0).pc == 1 && (t.core 0).slots == [2] && (t.core 0).rcsr CSR.ECAUSE == 0) = true := by decide

/-! ### Events, control registers, memory -/

/-- The gather store serves. -/
def served (s : State) : State := (s.setBit R.GST_CTL F.GST_CTL_ENABLE).setBit R.GST_STATUS F.GST_STATUS_INIT_DONE
/-- A normal store of a core that is buffered. -/
def ent (a : Nat) (d : List Byte) (dev : Bool) : StoreEnt := ⟨a, d, dev, none, 0, false, false, 0x02000000, false, 0⟩
/-- Privilege of a core by its STATUS. -/
def priv (p : Nat) (x : Core) : Core := x.wcsr CSR.STATUS p

theorem witness_ControlRegistersAreReadAndWritten :
    (∀ e ∈ Claims.csrReaders, (core0 (priv e.2 {})).ready (.core 0) ∧ ((core0 (priv e.2 {})).core 0).priv ≤ e.2) ∧
    (∀ e ∈ Claims.csrWriters, (core0 (priv e.2.1 {})).ready (.core 0) ∧ ((core0 (priv e.2.1 {})).core 0).priv ≤ e.2.1) ∧
    (∀ e ∈ Claims.csrReaders, e.2 < 2 → (core0 (priv 2 {})).mayTrap 0 ∧ e.2 < ((core0 (priv 2 {})).core 0).priv) ∧
    (∀ e ∈ Claims.csrWriters, (core0 (priv 2 {})).mayTrap 0 ∧ e.2.1 < ((core0 (priv 2 {})).core 0).priv) ∧
    (core0 {}).mayTrap 0 ∧ 0x10 < (0x11#12).toNat ∧ (0xB ≤ (0xB#12).toNat ∧ (0xF#12).toNat ≤ 0xF) ∧ (lane0 {}).ready (.lane 0) := by decide
theorem test_crw_masks : after (exec (.crw ⟨.core 0, 0⟩ 1 0x000#12) (core0 (gs [(1, 2 ^ 64 - 1)])))
    (fun t => (t.core 0).rcsr CSR.STATUS == 0xC) = true := by decide
theorem test_crr_priv : after (exec (.crr ⟨.core 0, 0⟩ 1 0x001#12) (core0 (priv 1 {})))
    (fun t => (t.core 0).rcsr CSR.ECAUSE == EX.PRIV && (t.core 0).priv == 0) = true := by decide

theorem witness_EventsSignalWaitAndWake :
    (let s := core0 (gs [(1, 1), (2, 3)])
     s.ready (.core 0) ∧ (s.agent (.core 0)).deviceWaits = false ∧ (s.agent (.core 0)).rg 1 % 64 < 32 ∧ (s.agent (.core 0)).rg 2 % 64 ≠ 63 ∧
       ((0 : Fin 32).val ≠ (s.agent (.core 0)).rg 1 % 64)) ∧
    (31 < (gs [(1, 32)]).rg 1 % 64 ∧ (gs [(2, 63)]).rg 2 % 64 = 63) ∧
    (let s := core0 ((gs [(1, 6)]).wcsr CSR.EVPEND 2)
     Nat.land ((s.core 0).rcsr CSR.EVPEND) ((s.core 0).rg 1) = 2) ∧
    (let s := core0 ((gs [(1, 4)]).wcsr CSR.EVPEND 2)
     (s.core 0).rg 1 ≠ 0 ∧ bitOf ((s.core 0).rg 1) 40 = false ∧ Nat.land ((s.core 0).rcsr CSR.EVPEND) ((s.core 0).rg 1) = 0) ∧
    ((core0 {}).bit (R.GAF_CORE 0) F.GAF_CORE_SWAP_PEND = false ∧ bitOf ((withRegs [(R.EMB_WAKEMASK, 0)] (core0 {})).rd R.EMB_WAKEMASK) 40 = false) ∧
    ((State.reset.setCore 0 { run := .waiting 6 3 true }).core 0).run = .waiting 6 3 true ∧
    (({ run := .waiting 6 3 true } : Core).run = .waiting 6 3 true ∧ bitOf 6 1 = true) ∧
    ((core0 (priv 2 {})).mayTrap 0 ∧ ((core0 (priv 2 {})).core 0).priv ≠ 0) := by decide
theorem test_wait_returns_pending : after (exec (.wait ⟨.core 0, 0⟩ 3 1 0) (core0 ((gs [(1, 6)]).wcsr CSR.EVPEND 10)))
    (fun t => (t.core 0).rg 3 == 2 && (t.core 0).rcsr CSR.EVPEND == 8) = true := by decide
theorem test_signal_wakes_sleeper : after (exec (.signal ⟨.core 0, 0⟩ 1 2)
    ((core0 (gs [(1, 1), (2, 4)])).setCore 1 { run := .waiting 0x30 5 false }))
    (fun t => (t.core 1).run == .running && (t.core 1).rg 5 == 0x10 && (t.core 1).rcsr CSR.EVPEND == 0) = true := by decide

theorem witness_LoadsReadAndStoresEnterTheStoreBuffer :
    (let s := core0 (gs [(1, 0x100)])
     s.ready (.core 0) ∧ 0x108 = Claims.address s (.core 0) 1 8#20 ∧ 8 = 2 ^ (3 : Fin 4).val ∧ (s.agent (.core 0)).sbOverlaps 0x108 8 = false ∧
       (s.agent (.core 0)).deviceWaits = false) ∧
    (let s := core0 { gs [(1, 0x100)] with sb := [ent 0x100 [1, 2, 3, 4, 5, 6, 7, 8] false] }
     (s.agent (.core 0)).sb = [] ++ [ent 0x100 [1, 2, 3, 4, 5, 6, 7, 8] false] ∧ normalAddr 0x104 = true ∧
       0x104 = Claims.address s (.core 0) 1 4#20) ∧
    (let s := core0 (gs [(1, 0x101), (2, 2 * 2 ^ 48), (3, 5 * 2 ^ 48)])
     s.mayTrap 0 ∧ Claims.address s (.core 0) 1 0#20 % 2 ^ (1 : Fin 4).val ≠ 0 ∧ 4 < Claims.address s (.core 0) 3 0#20 / 2 ^ 48) ∧
    (let s := core0 (priv 2 (gs [(2, 2 * 2 ^ 48)]))
     s.mayTrap 0 ∧ (s.core 0).priv = 2 ∧ Claims.address s (.core 0) 2 0#20 / 2 ^ 48 = 2) ∧
    openAddr (4 * 2 ^ 48 + 2 ^ 32 - 8) = true ∧ (lane0 (gs [(1, 0x100)])).ready (.lane 0) := by decide
theorem witness_LoadsReach : (core0 (gs [(1, 0x100)])).mayAccess (.core 0) 0x108 8 AK.read := ⟨rfl, by decide⟩
theorem witness_StoresReach : (lane0 (gs [(1, 0x100)])).mayAccess (.lane 0) 0x100 4 AK.write := ⟨rfl, by decide⟩
theorem test_load_forwards : after (exec (.ld ⟨.core 0, 0⟩ 3 1 1 true false 4#20)
    (core0 { gs [(1, 0x100)] with sb := [ent 0x100 [1, 2, 3, 4, 0xFF, 0x80, 7, 8] false] }))
    (fun t => (t.core 0).rg 3 == 2 ^ 64 - 2 ^ 16 + 0x80FF) = true := by decide
theorem test_load_misaligned : after (exec (.ld ⟨.core 0, 0⟩ 3 1 1 false false 0#20) (core0 (gs [(1, 0x101)])))
    (fun t => (t.core 0).rcsr CSR.ECAUSE == EX.ALIGN && (t.core 0).rcsr CSR.EADDR == 0x101) = true := by decide

theorem witness_BufferedStoresArePerformedAndFencesWait :
    (let s := core0 { sb := [ent 0x100 [1, 2] false, ent 0x200 [3] false] }
     (s.core 0).sb[(1 : Fin 16).val]? = some (ent 0x200 [3] false) ∧
       (∀ o ∈ (s.core 0).sb.take 1, o.overlaps 0x200 1 = false)) ∧
    (let e : StoreEnt := { ent 0x200 [3] false with origin := 0x0A000000 }
     let s := core0 { sb := [e] }
     e.atom = none ∧ spaceOf e.addr = 0 ∧ (s.gateCheck gateLocal (offOf e.addr) 1 AK.write e.origin).1 = false ∧
       bitOf ((s.core 0).rcsr CSR.SERR_INFO) 0 = false) ∧
    (let e := ent 0x100 [1] true
     (∀ o ∈ [ent 0x200 [3] false], o.device = false ∧ o.fenced = false ∧ o.overlaps e.addr e.len = false)) ∧
    (∃ e ∈ ((core0 { sb := [ent 0x200 [3] false] }).agent (.core 0)).sb, e.device = false) ∧
    (∃ e ∈ ((core0 { sb := [ent 0x200 [3] true] }).agent (.core 0)).sb, e.device = true) := by decide
theorem witness_StoresMayBePerformed :
    (core0 { sb := [ent 0x100 [1, 2] false, ent 0x200 [3] false] }).mayStore 0 (ent 0x200 [3] false) ∧
    (core0 { sb := [ent 0x200 [3] false, ent 0x100 [1] true] }).mayStore 0 (ent 0x100 [1] true) :=
  ⟨⟨rfl, by decide, by decide, fun h => absurd h (by decide)⟩, ⟨rfl, by decide, by decide, fun h => absurd h (by decide)⟩⟩
theorem witness_ClassesAreUndisputed : (served (core0 { sb := [ent (2 ^ 48 + 0x200) [3] false] })).undisputed 0x02000000 := by
  intro g x hx hc
  match x, hx with
  | 0, _ => rfl
  | 1, _ => rfl
  | 2, _ => exact absurd rfl hc
  | 3, _ => rfl
theorem test_store_performed : after (exec (.storePerformed 0 1) (core0 { sb := [ent 0x100 [1, 2] false, ent 0x200 [3] false] }))
    (fun t => t.byte (MB.localMem + 0x200) == 3 && t.byte (MB.localMem + 0x100) == 0 && (t.core 0).sb.length == 1) = true := by decide
theorem test_store_err : after (exec (.storeErr 0 0) (core0 { sb := [{ ent 0x200 [3] false with origin := 0x0A000000 }] }))
    (fun t => t.mem == [] && (t.core 0).sb == [] && (t.core 0).rcsr CSR.SERR_ADDR == 0x200 && (t.core 0).rcsr CSR.SERR_INFO == 1 &&
      bitOf ((t.core 0).rcsr CSR.EVPEND) 63) = true := by decide

theorem witness_PerformedStoreChangesOnlyItsBytes :
    (let e := ent (2 ^ 48 + 0x200) [3] false
     let s := served (core0 { sb := [e] })
     (s.core 0).sb[(0 : Fin 16).val]? = some e ∧ s.errsIn (offOf e.addr) e.len = []) ∧
    after (exec (.storePerformed 0 0) (served (core0 { sb := [ent (2 ^ 48 + 0x200) [3] false] })))
      (fun t => t.byte 0x200 == 3 && t.byte 0x201 == 0) = true := by decide

theorem witness_AtomicsReplaceTheWordAndReturnItsOldValue :
    (let s := served (core0 (gs [(1, 2 ^ 48 + 0x40)]))
     s.ready (.core 0) ∧ (s.core 0).rg 1 % 8 = 0 ∧ (s.core 0).sbOverlaps (2 ^ 48 + 0x40) 8 = false ∧ spaceOf (2 ^ 48 + 0x40) = 1 ∧
       s.seqFull (offOf (2 ^ 48 + 0x40) / 64) = false ∧ normalAddr (2 ^ 48 + 0x40) = true ∧ (s.core 0).sb.length < 16) ∧
    (AtomOp.fadd ≠ .cas) ∧ (lane0 (gs [(1, 0x40)])).ready (.lane 0) ∧
    (let s := core0 (gs [(1, 0x44), (2, 2 * 2 ^ 48), (3, 8)])
     s.mayTrap 0 ∧ (s.core 0).rg 1 % 8 ≠ 0 ∧ normalAddr ((s.core 0).rg 2) = false ∧ spaceOf ((s.core 0).rg 3) = 0) := by decide
theorem witness_AtomicsReach : (served (core0 (gs [(1, 2 ^ 48 + 0x40)]))).mayAccess (.core 0) (2 ^ 48 + 0x40) 8 AK.atomic := ⟨rfl, by decide⟩
theorem witness_AtomicsOfALaneReach : (lane0 (gs [(1, 0x40)])).mayAccess (.lane 0) 0x40 8 AK.atomic := ⟨rfl, by decide⟩
theorem test_fadd_opens : after (exec (.atomFadd ⟨.core 0, 0⟩ 3 1 2 false true false)
    ((served (core0 (gs [(1, 2 ^ 48 + 0x40), (2, 5)]))).storeWord 0x40 (2 ^ 64 - 2) 8))
    (fun t => (t.core 0).rg 3 == 2 ^ 64 - 2 && t.word 0x40 8 == 3 && t.gst.seqs.map (fun e => (e.1, e.2.1)) == [(1, 0)]) = true := by decide
theorem test_cas_nr_is_illegal : after (exec (.atomCas ⟨.core 0, 0⟩ 3 1 2 true false false) (core0 (gs [(1, 0x40)])))
    (fun t => (t.core 0).rcsr CSR.ECAUSE == EX.ILLEGAL) = true := by decide

/-! ### Tables, tokens, lists, packets -/

/-- A core beside an IX table 0 on the die with 4 entries of which entry 3 is valid and holds 9, and default 5. -/
def ixTable (x : Core) : State :=
  (withAct [(R.JCK_TBLA 0, 1 * 2 ^ F.JCK_TBLA_TYPE.lo + 2 * 2 ^ F.JCK_TBLA_CAP_LOG2.lo), (R.JCK_TBLB 0, 5)] (core0 x)).store (MB.table 0 + 48)
    (leBytes 9 8 ++ leBytes 1 8)

theorem witness_LookupsReturnTheEntryOrTheDefault :
    (ixTable (gs [(1, 3)])).ready (.core 0) ∧ ((ixTable (gs [(1, 3)])).tbl ((ixTable (gs [(1, 3)])).agentCurrent (.core 0)) 0).place = 0 ∧
    ((core0 {}).tbl true 7).type = 0 := by decide
theorem witness_LookupsReach : (served (core0 {})).mayAccess (.core 0) (2 ^ 48 + 0x1000) 16 AK.read := ⟨rfl, by decide⟩
theorem test_lookup_hit : after (exec (.lkpIx ⟨.core 0, 0⟩ 3 1 0 2) (ixTable (gs [(1, 3)]))) (fun t => (t.core 0).rg 3 == 9 && (t.core 0).rp 2) = true := by
  decide
theorem test_lookup_beyond : after (exec (.lkpIx ⟨.core 0, 0⟩ 3 1 0 2) (ixTable (gs [(1, 4)])))
    (fun t => (t.core 0).rg 3 == 5 && !(t.core 0).rp 2) = true := by decide
theorem test_lookup_of_another_form : after (exec (.lkpLpm ⟨.core 0, 0⟩ 3 1 0 2) (ixTable (gs [(1, 3)])))
    (fun t => (t.core 0).rg 3 == 5 && !(t.core 0).rp 2) = true := by decide

theorem witness_LookupFindsTheEntryOfItsForm :
    ((ixTable {}).tbl true 0).type = 1 ∧
    (let s := withAct [(R.JCK_TBLA 0, 2 * 2 ^ F.JCK_TBLA_TYPE.lo), (R.JCK_TBLA 1, 3 * 2 ^ F.JCK_TBLA_TYPE.lo)] State.reset
     (s.tbl true 0).type = 2 ∧ (s.tbl true 1).type = 3 ∧ 2 + 1 ≠ (s.tbl true 0).type) := by decide
theorem test_lpm_longest :
    (let s := (withAct [(R.JCK_TBLA 1, 3 * 2 ^ F.JCK_TBLA_TYPE.lo + 63 * 2 ^ F.JCK_TBLA_KEYW.lo + 1 * 2 ^ F.JCK_TBLA_CAP_LOG2.lo)] State.reset)
     let d := s.tbl true 1
     let s := (s.store (d.addr 0) (leBytes (2 ^ 63) 8 ++ leBytes (1 + 2 ^ 7) 8)).store (d.addr 1) (leBytes (2 ^ 63 + 2 ^ 62) 8 ++ leBytes (2 + 2 ^ 7) 8)
     s.lookup d 2 (2 ^ 63 + 2 ^ 62 + 1) 0 = some 1 ∧ s.lookup d 2 (2 ^ 63 + 1) 0 = some 0 ∧ s.lookup d 2 1 0 = none) := by decide

/-- A bucket at 0x40 of local memory with B = 10, RATE = 1, BURST = 100. -/
def bucket0 (x : Core) : State := (core0 x).store (MB.localMem + 0x40) (leBytes 0 8 ++ leBytes 10 8 ++ leBytes 1 8 ++ leBytes 100 8)

theorem witness_TokenBucketsAndMetersFollowTheirRecords :
    (let s := bucket0 { gs [(1, 0x40)] with k := [(2, 10), (3, 11)] }
     s.ready (.core 0) ∧ (s.core 0).rg 1 % 32 = 0 ∧ (s.core 0).sbOverlaps 0x40 32 = false ∧
       ((s.core 0).rk 2 : Int) ≤ Claims.level s (.core 0) 0x40 ∧ ¬ ((s.core 0).rk 3 : Int) ≤ Claims.level s (.core 0) 0x40) ∧
    (let s := core0 (gs [(1, 0x50), (2, 2 * 2 ^ 48)])
     s.mayTrap 0 ∧ (s.core 0).rg 1 % 32 ≠ 0 ∧ (s.core 0).rg 2 % 32 = 0 ∧ 1 < (s.core 0).rg 2 / 2 ^ 48) ∧
    (core0 {}).bit R.POL_CTL F.POL_CTL_ENABLE = false ∧
    (let l : FlowLine := ⟨5, [0, 0, 2 ^ 12, 0, 0, 0, 0, 0], false⟩
     let s : State := { (core0 (gs [(1, 5)])).setBit R.POL_CTL F.POL_CTL_ENABLE with pol := { cache := [l] } }
     s.bit R.POL_CTL F.POL_CTL_ENABLE = true ∧ 5 < s.flowCount ∧ s.pol.filling = [] ∧ s.pol.cache.find? (fun x => x.idx == 5) = some l ∧
       s.pol.cache.length ≤ 16 ∧ recValid l.words = true ∧ (s.meter true l.words 0 0).2.length = 8 ∧
       (∀ x ∈ s.pol.cache, x.idx ≠ 6)) := by decide
theorem witness_BucketsReach : (bucket0 (gs [(1, 0x40)])).mayAccess (.core 0) 0x40 32 AK.atomic ∧
    (bucket0 (gs [(1, 0x40)])).mayAccess (.core 0) 0x40 32 AK.read := ⟨⟨rfl, by decide⟩, ⟨rfl, by decide⟩⟩
theorem test_take : after (exec (.tknTake ⟨.core 0, 0⟩ 1 false 2 4) (bucket0 { gs [(1, 0x40)] with k := [(2, 10)] }))
    (fun t => (t.core 0).rp 4 && t.word (MB.localMem + 0x48) 8 == 0) = true := by decide
theorem test_take_debt : after (exec (.tknTake ⟨.core 0, 0⟩ 1 true 2 4) (bucket0 { gs [(1, 0x40)] with k := [(2, 11)] }))
    (fun t => (t.core 0).rp 4 && t.word (MB.localMem + 0x48) 8 == 2 ^ 64 - 1) = true := by decide
theorem test_meter_disabled : after (exec (.tknTakeMeter ⟨.core 0, 0⟩ 3 1 2 0 4) (core0 {}))
    (fun t => (t.core 0).rg 3 == 2 && !(t.core 0).rp 4 && t.get R.POL_STATUS F.POL_STATUS_BADREC == 1) = true := by decide

/-- A list with its header at 0x40 of local memory and one element at 0x80. -/
def list1 (x : Core) : State := (core0 x).store (MB.localMem + 0x40) (leBytes 0x80 8 ++ leBytes 0x80 8 ++ leBytes 1 8)

theorem witness_ListsPushAndPop :
    (let s := list1 (gs [(1, 0x40), (2, 0xC0)])
     s.ready (.core 0) ∧ Claims.recordWord s (.core 0) 0x40 0 = 0x80 ∧ Claims.recordWord s (.core 0) 0x40 1 = 0x80 ∧
       (s.agent (.core 0)).sb = [] ∧ spaceOf 0xC0 = spaceOf 0x40 ∧ Claims.recordWord s (.core 0) 0x80 0 = 0) ∧
    (let s := core0 (gs [(1, 0x40), (2, 0xC0)])
     s.ready (.core 0) ∧ Claims.recordWord s (.core 0) 0x40 0 = 0 ∧ Claims.recordWord s (.core 0) 0x40 1 = 0) := by decide
theorem witness_ListsReach : (list1 (gs [(1, 0x40)])).mayAccess (.core 0) 0x40 32 AK.atomic ∧
    (list1 (gs [(1, 0x40)])).mayAccess (.core 0) 0x80 8 AK.atomic ∧ (list1 (gs [(1, 0x40)])).mayAccess (.core 0) 0xC0 8 AK.atomic :=
  ⟨⟨rfl, by decide⟩, ⟨rfl, by decide⟩, ⟨rfl, by decide⟩⟩
theorem test_push_tail : after (exec (.pushT ⟨.core 0, 0⟩ 1 2) (list1 (gs [(1, 0x40), (2, 0xC0)])))
    (fun t => t.word (MB.localMem + 0x80) 8 == 0xC0 && t.word (MB.localMem + 0x48) 8 == 0xC0 && t.word (MB.localMem + 0x40) 8 == 0x80 &&
      t.word (MB.localMem + 0x50) 8 == 2) = true := by decide
theorem test_pop_last : after (exec (.pop ⟨.core 0, 0⟩ 3 1 4) (list1 (gs [(1, 0x40)])))
    (fun t => (t.core 0).rg 3 == 0x80 && (t.core 0).rp 4 && t.word (MB.localMem + 0x40) 24 == 0) = true := by decide

theorem witness_JackProgramsEnqueueDropAndMark :
    (let s := lane0 (gs [(1, 2), (2, 77)])
     s.ready (.lane 0) ∧ s.laneReq 0 = some ⟨0, pkt 0, 0⟩ ∧ s.earlierRequest 0 ⟨0, pkt 0, 0⟩ = false) ∧
    (let s : State := { lane0 {} with que := { (lane0 {}).que with jack := [⟨1, pkt 0, 0⟩, ⟨0, pkt 0, 0⟩] } }
     s.ready (.lane 0) ∧ s.laneReq 0 = some ⟨0, pkt 0, 0⟩ ∧ s.earlierRequest 0 ⟨0, pkt 0, 0⟩ = true) := by decide
theorem test_enq_links : after (exec (.enq ⟨0, 0⟩ 1 2) ((lane0 (gs [(1, 2), (2, 77)])).setQstate 2 QS.ACTIVE))
    (fun t => (t.linked 2).map (fun p => (p.id, p.mdat, p.dq)) == [(1, 77, 2)] && t.que.jack == [] && t.que.slotsUsed == 0) = true := by decide
theorem test_mark_colour : after (exec (.markC ⟨.lane 0, 0⟩ 1 0) (lane0 (gs [(1, 0x1FE)]))) (fun t => (t.lane 0).colour == 0xFE) = true := by decide

/-- Queue 2 with one linked packet. -/
def linked1 (x : Core) : State := ((core0 x).setQstate 2 QS.ACTIVE).setLinked 2 [pkt 0]

theorem witness_FirmwareActsOnHeldPackets :
    (let s := linked1 (gs [(1, 2), (2, 3)])
     s.ready (.core 0) ∧ (s.core 0).priv = 0 ∧ s.qstate 2 ∈ [QS.ACTIVE, QS.FROZEN, QS.DRAINING, QS.HELD] ∧ s.nextOf 2 = some (pkt 0) ∧
       s.qstate 3 ∉ [QS.ACTIVE, QS.FROZEN, QS.DRAINING, QS.HELD]) ∧
    (let s := (core0 (gs [(1, handleOf (pkt 0))])).setHeld [pkt 0]
     s.ready (.core 0) ∧ s.heldPkt ((s.core 0).rg 1) = some (pkt 0) ∧ s.heldPkt ((s.core 0).rg 2) = none) ∧
    ((core0 (priv 2 {})).mayTrap 0 ∧ ((core0 (priv 2 {})).core 0).priv ≠ 0) := by decide
theorem test_deq : after (exec (.deq ⟨0, 0⟩ 3 4 1) (linked1 (gs [(1, 2)])))
    (fun t => (t.core 0).rg 3 == 2 ^ 63 + 300 * 2 ^ 32 && (t.core 0).rg 4 == 0x55 && t.linked 2 == [] && t.gaf.held.length == 1) = true := by decide
theorem test_fw_enq_closed : after (exec (.fwEnq ⟨0, 0⟩ 3 5 6 1) ((core0 (gs [(1, handleOf (pkt 0)), (5, 9)])).setHeld [pkt 0]))
    (fun t => (t.core 0).rg 3 == ST.DEST_OFF && t.gaf.held == []) = true := by decide


/-! ### Cane links -/

/-- Port 0 in an x8 octet in cane mode, in a training state, with its lane 0 locked. -/
def link (st : Nat) (c : Cane) : State :=
  let s := ((State.reset.put R.RST_DOMAIN F.RST_DOMAIN_IN_RESET 0).put (R.PRT_OCTCFG 0) F.PRT_OCTCFG_SPLIT 1).setBit (R.PRT_OCTCFG 0) F.PRT_OCTCFG_MODE
  let s := (s.setBit (R.PRT_CTL 0) F.PRT_CTL_ENABLE).setBit (laneReg R.LNE_STAT 0) F.LNE_STAT_LOCK
  ((s.put (R.PRT_STATUS 0) F.PRT_STATUS_TRIM_WAIT 0).setLinkState 0 st).setCane 0 c

/-- The port at width 2 with the spare locked, adapted and ACTIVE, and the copy of lane 0 announced. -/
def spared : State :=
  let s := (((link 0x27 { subRx := [⟨0, 0, false, true⟩] }).setBit (laneReg R.LNE_STAT 8) F.LNE_STAT_LOCK).put (R.PRT_LINKSTAT 0) F.PRT_LINKSTAT_WIDTH 2)
  let s := ((s.setBit (laneReg R.LNE_STAT 1) F.LNE_STAT_LOCK).put (laneReg R.LNE_STAT 1) F.LNE_STAT_LOGICAL 1).put (laneReg R.LNE_STAT 0)
    F.LNE_STAT_LOGICAL 0
  (s.put (laneReg R.LNE_STAT 8) F.LNE_STAT_RX_PWR 0).setAdapted 8 true

/-- A training word of lane 0. -/
def word0 : TrainWord := ⟨0, false, 0, 1, 2, 8, 1, true, false, 0, 0, 0, 0, true, false⟩

theorem witness_FrameReadsBackAsItWasMade :
    (1 ≤ 3 ∧ 7 < 8 ∧ 255 < 256 ∧ 7 < 8 ∧ 2 ^ 20 - 1 < 2 ^ 20 ∧ 2 ^ 32 - 1 < 2 ^ 32) ∧ ([0x5A, 0xA5] : List Byte).length ≤ 256 := by decide +kernel
theorem test_frame_header : (leBytes (1 + 7 * 2 ^ 4 + 2 ^ 7 + 1 * 2 ^ 20) 8).take 3 = [0xF1, 0, 0x10] := by decide +kernel
/-- The check value of "123456789" under the CRC-32 of IEEE 802.3. -/
theorem test_crc32 : crc32 [0x31, 0x32, 0x33, 0x34, 0x35, 0x36, 0x37, 0x38, 0x39] = 0xCBF43926 := by decide +kernel

theorem witness_ParisonHeaderReadsBackAndSurvivesTransit :
    (4 < 16 ∧ 15 < 16 ∧ 2 < 16 ∧ 2 ^ 32 - 1 < 2 ^ 32 ∧ 9 < 2 ^ 16 ∧ 300 < 2 ^ 16 ∧ 255 < 256 ∧ 1 < 256 ∧ 5 < 2 ^ 64 ∧ 7 < 2 ^ 32 ∧
      ([1, 2] : List Byte).length < 2 ^ 14) ∧
    (parHops (0x61 :: [0x23]) = 2 ∧ parHops (0x61 :: [0x23]) < 3) := by decide +kernel

theorem witness_LinkMessagesHaveTheirEffects :
    (let m := lmWord 1 4 1 true 0 0 0
     Claims.accepts (link 0x27 { inbox := [m] }) 0 1 m []) ∧
    (Claims.accepts (link 0x27 { inbox := [2], ownRetrain := some (lmWord 1 8 0 true 0 0 0) }) 0 2 2 []) ∧
    (Claims.accepts (link 0x28 { inbox := [lmWord 3 0 0 false 5 0 0] }) 0 3 (lmWord 3 0 0 false 5 0 0) [] ∧ (link 0x28 {}).spareServing 0 5 = true ∧
      (link 0x28 {}).txSub 0 = 0xF) ∧
    (Claims.accepts (link 0x27 { inbox := [lmWord 4 0 0 false 5 0 9], subTx := [⟨5, 0, false, false⟩] }) 0 4 (lmWord 4 0 0 false 5 0 9) []) ∧
    ((link 0x27 {}).spareServes 0 5 = true ∧ ((link 0x27 {}).setTxSub 0 5).txSub 0 = (link 0x27 {}).octLane 0 5) ∧
    (Claims.accepts (link 0x27 { inbox := [5] }) 0 5 5 [] ∧ Claims.accepts (link 0x27 { inbox := [6, 7] }) 0 6 6 [7]) ∧
    (let t := spared
     (t.cane 0).subRx = [⟨0, 0, false, true⟩] ∧ t.spareOctet 0 0 = 0 ∧ t.spareServes 0 0 = true ∧ t.adapted 8 = true ∧ t.pwr 8 false = PWR.ACTIVE ∧
       t.bit (laneReg R.LNE_STAT 8) F.LNE_STAT_LOCK = true ∧ t.caneWidth 0 = 2 ∧ t.physLane 0 1 = some 1 ∧
       t.bit (laneReg R.LNE_STAT 1) F.LNE_STAT_LOCK = true) ∧
    (let s := (link 0x27 { sentLim := (List.range 8).map (fun c => (c, 257)) }).setBit (R.CAN_CTL 0) F.CAN_CTL_LP_EN
     s.linkState 0 = 0x27 ∧ s.bit (R.CAN_CTL 0) F.CAN_CTL_LP_EN = true ∧ s.bit (R.CAN_STATUS 0) F.CAN_STATUS_TX_STBY = false ∧
       s.caneWants 0 = false ∧ s.txNext 0 = s.txAcked 0) ∧
    (let s := (link 0x27 {}).put (R.PRT_LINKCFG 0) F.PRT_LINKCFG_MAX_RATE 1
     s.linkState 0 = 0x27 ∧ s.bit (R.CAN_STATUS 0) F.CAN_STATUS_CMD_BUSY = false ∧ s.minWidth 0 ≤ 8 ∧ 8 ≤ s.confWidth 0 ∧ 1 ≤ s.caneMaxRate 0) ∧
    (link 0x20 {}).linkState 0 ≠ 0x27 := by decide +kernel
theorem test_subReq_names_spare : after (exec (.subReq 0) (link 0x27 { inbox := [lmWord 3 0 0 false 5 0 0] }))
    (fun t => t.txSub 0 == 5 && t.exitOf 8 true == 1 && (t.cane 0).subTx == [⟨5, 0, false, false⟩]) = true := by decide +kernel
theorem test_badcmd : after (exec (.caneRetrain 0 8 0 false) (link 0x20 {}))
    (fun t => t.bit (R.CAN_STATUS 0) F.CAN_STATUS_BADCMD) = true := by decide +kernel

theorem witness_ReplaysAndFailuresOfALink :
    (let s := (link 0x27 {}).put (R.CAN_TXSEQ 0) F.CAN_TXSEQ_TX_NEXT 3
     s.linkState 0 = 0x27 ∧ s.txNext 0 ≠ s.txAcked 0 ∧ s.bit (R.CAN_STATUS 0) F.CAN_STATUS_PEER_HOLD = false ∧
       s.bit (R.CAN_STATUS 0) F.CAN_STATUS_RX_HOLD = false ∧
       (s.cane 0).stalled < max 1 (s.get (R.CAN_LINKCFG 0) F.CAN_LINKCFG_REPLAY_MAX) ∧
       max 1 (s.get (R.CAN_LINKCFG 0) F.CAN_LINKCFG_REPLAY_MAX) ≤ 255) ∧
    (link 0x28 {}).linkState 0 = 0x28 ∧
    ((link 0x27 {}).setBit (R.CAN_STATUS 0) F.CAN_STATUS_RX_HOLD).bit (R.CAN_STATUS 0) F.CAN_STATUS_RX_HOLD = true ∧
    Claims.accepts (link 0x27 { inbox := [7] }) 0 7 7 [] := by decide +kernel
theorem test_down_cause : after (exec (.down 0) (link 0x27 { inbox := [7] })) (fun t => t.get (R.CAN_STATUS 0) F.CAN_STATUS_DOWN_CAUSE == 7 &&
    t.linkState 0 == 0x29 && t.portHeld 0) = true := by decide +kernel
theorem test_replay_starts : after (exec (.replayTimeout 0) ((link 0x27 {}).put (R.CAN_TXSEQ 0) F.CAN_TXSEQ_TX_NEXT 3))
    (fun t => (t.cane 0).replay == some (0, true) && t.get (R.CAN_REPCNT 0) F.CAN_REPCNT_REPLAYS == 1) = true := by decide +kernel

/-- A frame of a reserved type; its check fails (R283). -/
def badFrame : List Byte := leBytes (5 + 2 ^ 19) 8 ++ List.replicate 264 0

theorem witness_FramesAreSentAndReceived :
    (let s := link 0x27 { outbox := [lmWord 5 0 0 false 1 0 0] }
     s.linkState 0 = 0x27 ∧ s.linkRests 0 true = false ∧ s.linkRests 0 false = false ∧
       (spared.put (laneReg R.LNE_STAT 1) F.LNE_STAT_RX_PWR 1).linkRests 0 false = true ∧ s.flt.stopped = false ∧ s.gst.repl = [] ∧ s.bit (R.CAN_STATUS 0) F.CAN_STATUS_TX_STBY = false ∧
       s.bit (R.CAN_STATUS 0) F.CAN_STATUS_PEER_HOLD = false ∧ (s.cane 0).replay = none ∧ s.culletRoom 0 = true ∧
       (s.setBit (R.CAN_STATUS 0) F.CAN_STATUS_TX_STBY).caneWants 0 = true ∧ lmWord 5 0 0 false 1 0 0 % 256 = 5 ∧
       s.bit (R.CAN_STATUS 0) F.CAN_STATUS_RX_HOLD = false ∧ s.bit (R.CAN_STATUS 0) F.CAN_STATUS_REPLAY_WAIT = false ∧
       s.get (R.CAN_ERRCNT 0) F.CAN_ERRCNT_WIN_FAILS + 1 ≤ s.get (R.CAN_LINKCFG 0) F.CAN_LINKCFG_CHK_LIMIT) ∧
    (crcOk badFrame 0 = false ∧ frType badFrame = 5) := by decide +kernel
theorem witness_FramesAreSentAndReceived_good :
    (let f := frameBytes 2 plainHdr false false 0 0 0 0 (leBytes 6 8)
     let s := link 0x27 {}
     frType f = 2 ∧ (s.cane 0).chk = s.rxExpect 0 ∧ frAck f = s.txAcked 0 ∧ bitOf (frWord0 f) 18 = false ∧
       (fieldOf (frWord0 f) 23 20 + 2 ^ 20 - s.get (R.CAN_CRDSTAT 0 (fieldOf (frWord0 f) 20 3)) F.CAN_CRDSTAT_TX_SENT) % 2 ^ 20 < 2 ^ 19 ∧
       frMsg f % 256 = 6) := by decide +kernel
theorem witness_FramesAreSentAndReceived_check : crcOk (frameBytes 2 plainHdr false false 0 0 0 0 (leBytes 6 8)) 0 = true := by
  have h (f : List Byte) (k : Nat) (hf : f.length = 268) (ht : frType f ≤ 3) (hk : frameCrc 0 f = k) (hlt : k < 2 ^ 32) :
      crcOk (f ++ leBytes k 4) 0 = true := by
    have e1 : frameCrc 0 (f ++ leBytes k 4) = k := by rw [← hk, frameCrc, frameCrc]; simp [← hf]
    have e2 : frCrc (f ++ leBytes k 4) = k := by
      rw [frCrc, List.drop_left' hf]; exact leValue_leBytes k 4 hlt
    have e3 : frType (f ++ leBytes k 4) = frType f := by
      rw [frType, frType, frWord0, frWord0, List.take_append_of_le_length (by omega)]
    simp [crcOk, e1, e2, e3, ht]
  exact h _ _ (by decide +kernel) (by decide +kernel) rfl (crc32_lt _)
theorem test_bad_frame_waits : after (exec (.frameReceive 0 (.frame badFrame)) (link 0x27 {}))
    (fun t => t.bit (R.CAN_STATUS 0) F.CAN_STATUS_REPLAY_WAIT && t.rxExpect 0 == 0) = true := by decide +kernel

theorem witness_TrainingMovesAPortFromStateToState :
    ((link 0x24 {}).linkState 0 = 0x24) ∧
    (let s := link 0x22 {}
     s.mayTrain 0 = true ∧ s.allLocked 0 [word0] = true ∧ s.linkState 0 = 0x22 ∧ (link 0x23 {}).linkState 0 = 0x23) ∧
    ((link 0x25 { newWidth := 1 }).linkState 0 = 0x25 ∧ 1 ≤ ([word0].filter (·.ack)).length) ∧
    ((link 0x26 {}).linkState 0 = 0x26 ∧ (link 0x26 {}).eqDone 0 = true) ∧
    (((link 0x28 { step := 4 }).cane 0).step = 4) ∧
    (let s := link 0x28 { step := 5, newWidth := 1, newRate := 1 }
     let t := s.put (R.CAN_TRAINCFG 0) F.CAN_TRAINCFG_MIN_WIDTH 0
     t.linkState 0 = 0x28 ∧ (t.cane 0).newRate ≠ t.caneRate 0) ∧
    (let x : Pkt := ⟨0, .train, .par [], 300, 0, 0, 2, 0, 0, 0, [], 0, false, 0, 0⟩
     let t : RxTrain := ⟨x, mkParison 1 2 3 0 0 0 0 0 0 0 [], 2, 2, .held, false, 0, true, false⟩
     let s : State := { link 0x27 {} with can := { (link 0x27 {}).can with rx := [t] } }
     s.headTrain 0 2 = some t ∧ parDst t.data = 3 ∧ parDst t.data ≠ s.fid) := by decide +kernel

/-! ### Power -/

/-- Slot channel 0 in a state, with a module present, VBUS inside its window and the request of firmware on. -/
def chan0 (v : Nat) : State :=
  ((State.reset.put (R.SLT_STAT 0) F.SLT_STAT_STATE v).setBit (R.SLT_STAT 0) F.SLT_STAT_PRSNT).setBit (R.SLT_CTL 0) F.SLT_CTL_ON
/-- Feed 0 in a state and selected, feed 1 in another. -/
def feeds (a b : Nat) : State := (((State.reset.setFeed 0 a).setFeed 1 b).setSel 1).setBit (R.PWR_FEEDCFG 0) F.PWR_FEEDCFG_EN
def volts (v : Nat) : BitVec 12 := BitVec.ofNat 12 v

theorem witness_SlotChannelsFollowRequestPresenceAndWindow :
    ((chan0 0).slotPort 0 = none ∧ (chan0 0).rst.quench = 0) ∧
    ((chan0 0).chan 0 = 0 ∧ (chan0 0).chanPresent 0 = true ∧ (chan0 0).chanInside 0 = true) ∧
    (let s := (chan0 0).put (R.SLT_STAT 0) F.SLT_STAT_PRSNT 0
     s.chan 0 = 0 ∧ s.chanPresent 0 = false ∧ s.chanInside 0 = true ∧ s.bit (R.SLT_CTL 0) F.SLT_CTL_ON = true) ∧
    ((chan0 4).chan 0 = 4 ∧ (chan0 4).chanPresent 0 = true ∧ (chan0 4).chanInside 0 = true) ∧
    ((volts 2400).toNat ≤ 2400 ∧ (chan0 4).chanWithin 0 (volts 2400).toNat = false) ∧
    (let v := (chan0 0).get (R.SLT_CFG 0) F.SLT_CFG_UV
     (volts v).toNat ≤ 2400 ∧ (chan0 0).chanWithin 0 (volts v).toNat = true ∧ (chan0 0).bit (R.SLT_CTL 0) F.SLT_CTL_ON = true) ∧
    ((chan0 1).chan 0 = 1 ∧ (chan0 2).chan 0 = 2 ∧ 2 * (0 : BitVec 10).toNat * (chan0 2).get (R.SLT_AUX 0) F.SLT_AUX_RPRE ≤ (chan0 2).vbus) ∧
    ((chan0 3).chan 0 = 3 ∧ (chan0 3).bit (R.SLT_CTL 0) F.SLT_CTL_ON = true) := by decide +kernel
theorem test_presence_lost : after (exec (.presenceLost 0) (chan0 4)) (fun t => t.chan 0 == 0 && t.get (R.SLT_STAT 0) F.SLT_STAT_LAST == 4) = true := by
  decide +kernel

/-- Port 8 as a downstream port that names channel 3. -/
def slotted : State :=
  ((State.reset.put (R.PRT_ROLE 8) F.PRT_ROLE_ROLE ROLE.DOWNSTREAM).wrAct (R.PRT_ROLE 8) ((State.reset.put (R.PRT_ROLE 8) F.PRT_ROLE_ROLE ROLE.DOWNSTREAM).rd (R.PRT_ROLE 8))).wr
    (R.PRT_SLOT 8) (putField (putField 0 F.PRT_SLOT_SLOT_EN.lo 1 1) F.PRT_SLOT_CHAN.lo F.PRT_SLOT_CHAN.w 3)

theorem witness_SlotChannelsRetryLatchAndFollowTheHost :
    ((chan0 2).chan 0 = 2 ∧ (chan0 3).chan 0 = 3 ∧ (chan0 5).chan 0 = 5 ∧ (chan0 5).slotPort 0 = none ∧ (chan0 5).rst.quench = 0) ∧
    (let s := (chan0 5).put (R.SLT_AUX 0) F.SLT_AUX_RETRY_MAX 0
     s.get (R.SLT_AUX 0) F.SLT_AUX_RETRY_MAX = 0 ∧ s.chanPresent 0 = true ∧ s.chanInside 0 = true ∧
       s.bit (R.SLT_CTL 0) F.SLT_CTL_ON = true) ∧
    (let s := ((chan0 5).put (R.SLT_AUX 0) F.SLT_AUX_RETRY_MAX 2).put (R.SLT_STAT 0) F.SLT_STAT_FAILS 2
     s.get (R.SLT_AUX 0) F.SLT_AUX_RETRY_MAX ≠ 0 ∧
       s.get (R.SLT_AUX 0) F.SLT_AUX_RETRY_MAX ≤ s.get (R.SLT_STAT 0) F.SLT_STAT_FAILS) ∧
    (let s := (chan0 6).put (R.SLT_STAT 0) F.SLT_STAT_PRSNT 0
     s.chan 0 = 6 ∧ s.chanPresent 0 = false) ∧
    (chan0 4).chan 0 ≠ 6 ∧ slotted.slotPort 3 = some 8 := by decide +kernel
theorem test_precharge_fails : after (exec (.slotPrechgTimeout 0) (chan0 2)) (fun t => t.chan 0 == 5 && t.reports.length == 1) = true := by
  decide +kernel

theorem witness_FeedsAreQualifiedSelectedAndSwitched :
    (let s := State.reset
     s.rst.ember = false ∧ s.rst.trip = 0 ∧ s.rst.quench = 0 ∧ (volts 1200).toNat ≤ 2400 ∧ 300 ≤ (volts 1200).toNat ∧
       ((s.seeVin 0 1200).seeVin 1 0).feedWithin 0 1200 = true) ∧
    ((feeds 1 0).feedEn 0 = true ∧ (feeds 1 0).feed 0 = 1 ∧ (feeds 1 0).feedWithin 0 1200 = true) ∧
    ((feeds 2 0).feedLeft 0 0 = true ∧ (feeds 2 0).feed 0 = 2) ∧
    ((feeds 5 3).feed 0 = 5 ∧ (feeds 5 3).sel = 1 ∧ (feeds 5 3).feed 1 = 3 ∧ (feeds 5 1).feed 1 ≠ 3 ∧ (feeds 5 3).feedLeft 0 0 = true) ∧
    ((feeds 2 0).sel ≠ 0 ∧ ((feeds 2 0).setSel 0).sel = 0 ∧ ((feeds 2 0).setSel 0).pow.making = none ∧ ((feeds 2 0).setSel 0).feed 1 ≠ 3) ∧
    ((feeds 4 0).feed 0 = 4 ∧ 9 * (feeds 4 0).vin 0 ≤ 10 * (volts 1200).toNat ∧ (feeds 4 0).pow.making = none ∧ (feeds 6 0).feed 0 = 6) ∧
    (let s := (((feeds 3 5).setSel 2).put R.PWR_CTL F.PWR_CTL_PRIO 0).setBit R.PWR_CTL F.PWR_CTL_REVERT
     s.pow.making = none ∧ s.get R.PWR_CTL F.PWR_CTL_PRIO = 0 ∧ s.bit R.PWR_CTL F.PWR_CTL_REVERT = true ∧ s.feed 0 = 3 ∧ s.sel = 2) ∧
    (let s : State := { feeds 1 3 with pow := { (feeds 1 3).pow with making := some 1, gap := true } }
     s.pow.making = some 1 ∧ s.pow.gap = true ∧ s.feed 1 = 3) := by decide +kernel
theorem test_feed_lost_switches : after (exec (.feedWindowExit 0 0) (feeds 5 3)) (fun t => t.feed 0 == 1 && t.pow.making == some 1 &&
    t.reports.length == 1) = true := by decide +kernel

theorem witness_BreakersLowVoltageAndShedding :
    ((feeds 5 0).breakerOn (.feed 0) = true ∧ (feeds 5 0).breakerLimit (.feed 0) ≤ (BitVec.ofNat 10 900).toNat ∧
      100 * (0 : BitVec 10).toNat < 95 * (feeds 5 0).breakerLimit (.feed 0)) ∧
    ((chan0 4).breakerOn (.slot 0) = true ∧ (chan0 4).breakerLimit (.slot 0) ≤ (BitVec.ofNat 10 600).toNat) ∧
    (let s := ((feeds 3 5).setSel 2).setLimiting (breakerKey (.feed 1)) true
     s.limits (breakerKey (.feed 1)) = true ∧ s.feed 1 = 5 ∧ (s.setSel 1).sel ≠ 2) ∧
    ((chan0 4).setLimiting (breakerKey (.slot 0)) true).limits (breakerKey (.slot 0)) = true ∧
    ((volts 959).toNat < 960 ∧ 990 ≤ (volts 990).toNat ∧ (volts 990).toNat ≤ 2400 ∧ (volts 4000).toNat ≤ 4000) ∧
    (State.reset.sel = 0 ∧ (State.reset.put R.PWR_CTL F.PWR_CTL_SHED_AUTO 0).bit R.PWR_CTL F.PWR_CTL_SHED_AUTO = false) ∧
    (State.reset.bit R.PWR_STATUS F.PWR_STATUS_LOWV = false ∧
      (State.reset.setBit R.PWR_STATUS F.PWR_STATUS_LOWV).bit R.PWR_STATUS F.PWR_STATUS_LOWV = true) := by decide +kernel
theorem test_lowv : after (exec (.lowvSet 959) State.reset) (fun t => t.bit R.PWR_STATUS F.PWR_STATUS_LOWV && t.vbus == 959) = true := by
  decide +kernel

theorem witness_ReservoirAndQuench :
    ((State.reset.setBit R.HLD_CFG F.HLD_CFG_CHG_EN).bit R.HLD_CFG F.HLD_CFG_CHG_EN = true ∧
      State.reset.bit R.HLD_STATUS F.HLD_STATUS_HOLDING = false ∧ State.reset.rst.quench = 0) ∧
    ((volts 3499).toNat < 3500 ∧ State.reset.pow.hldLow = false ∧
      (State.reset.put R.RST_DOMAIN F.RST_DOMAIN_IN_RESET 0).get R.RST_DOMAIN F.RST_DOMAIN_IN_RESET = 0) ∧
    ((State.reset.setBit R.HLD_STATUS F.HLD_STATUS_HOLDING).bit R.HLD_STATUS F.HLD_STATUS_HOLDING = true) ∧
    (∀ q ∈ [1, 2, 3], ({ State.reset with rst := { quench := q } } : State).rst.quench = q) ∧ State.reset.get R.GST_KEEP F.GST_KEEP_PAGES = 0 ∧
    (State.reset.core 0).sb = [] := by decide +kernel
theorem witness_ReservoirAndQuench_buffers : ∀ c : Nat, c < 32 → (State.reset.core c).sb = [] := by decide +kernel
theorem test_quench_advances : after (exec .quenchDrainDone { State.reset with rst := { quench := 2 } }) (fun t => t.rst.quench == 3) = true := by
  decide +kernel

theorem witness_OnlyReadingsBeyondTheRatingsStop :
    Instr.beyondRatings (.lowvSet 2401) = true ∧ Instr.beyondRatings (.lowvSet 2400) = false ∧ Instr.beyondRatings .railCollapse = false := by
  decide

/-! ### Clocks and monitors -/

theorem witness_ClocksGateWakeAndWatch :
    (let s := State.reset.setBit R.EMB_STATUS F.EMB_STATUS_XTAL_OK
     s.bit R.EMB_STATUS F.EMB_STATUS_XTAL_OK = true ∧ (s.put R.RST_STATUS F.RST_STATUS_LOAD_PHASE 2).get R.RST_STATUS F.RST_STATUS_LOAD_PHASE ≠ 1) ∧
    (let s := State.reset.setBit R.EMB_CLKPOL F.EMB_CLKPOL_TILE_AUTO
     s.bit R.EMB_CLKPOL F.EMB_CLKPOL_TILE_AUTO = true ∧ bitOf (s.get R.EMB_CLKFORCE F.EMB_CLKFORCE_TILE_ON) 3 = false ∧
       (∀ i, i < 16 → s.portRests (16 * 3 + i) = true)) ∧
    (let s := (State.reset.setBit R.EMB_CLKPOL F.EMB_CLKPOL_JACK_AUTO).put R.EMB_CLKPOL F.EMB_CLKPOL_JACK_MIN 1
     s.jackKept 7 = false ∧ s.que.jack = [] ∧
     (let t := (s.setJack 0 false).setJack 1 false
      t.que.wakeJack = none ∧ t.jackRuns 0 = false ∧ t.jackKept 0 = true)) ∧
    (let s := (State.reset.setCore 0 { run := .starting 3 }).setCore 1 { run := .starting 3, ran := true, switched := true }
     let t := s.setCore 2 { run := .starting 3, ran := true }
     (t.core 0).run = .starting 3 ∧ (t.core 0).ran = false ∧ (t.core 1).ran = true ∧ (t.core 1).switched = true ∧
       (t.core 2).ran = true ∧ (t.core 2).switched = false) ∧
    ((State.reset.setBit R.GST_CTL F.GST_CTL_SR_REQ).bit R.GST_CTL F.GST_CTL_SR_REQ = true ∧ State.reset.gst.copying = [] ∧
      State.reset.bit R.GST_CTL F.GST_CTL_SR_REQ = false ∧
      bitOf ((State.reset.put R.RST_DOMAIN F.RST_DOMAIN_IN_RESET 0).get R.RST_DOMAIN F.RST_DOMAIN_IN_RESET) 3 = false) ∧
    ((0xA5C3 : BitVec 16).toNat = 0xA5C3 ∧ (0xA5C4 : BitVec 16).toNat ≠ 0xA5C3) ∧
    (let s := (State.reset.setBit R.EMB_WDCFG F.EMB_WDCFG_EN).put R.RST_DOMAIN F.RST_DOMAIN_IN_RESET 0
     s.bit R.EMB_WDCFG F.EMB_WDCFG_EN = true ∧ s.gafInReset = false) := by decide +kernel
theorem test_core_start : after (exec (.coreStart 1) (State.reset.setCore 1 { run := .starting 3, ran := true, switched := true }))
    (fun t => (t.core 1).pc == 1 && (t.core 1).run == .running) = true := by decide +kernel

theorem witness_MonitorsConvertAndCountersRead :
    (let s : State := { State.reset.setBit R.EMB_STATUS F.EMB_STATUS_XTAL_OK with pow := { next := 79 } }
     s.bit R.EMB_STATUS F.EMB_STATUS_XTAL_OK = true ∧ s.pow.next = 79 ∧ s.monAbsent 79 = false) ∧
    (let s := State.reset.put R.RST_DOMAIN F.RST_DOMAIN_IN_RESET 0
     s.stepHeld 9 = false ∧ (s.core 0).deviceWaits = false ∧
       (s.controlAllowed (s.masterOrigin (.core 0)) (sideOf (.core 0)).no (tallyReg (.general 5)).addr 8 AK.read).1 = true ∧
       (s.controlAllowed (s.masterOrigin (.core 0)) (sideOf (.core 0)).no (tallyReg (.general 5)).addr 8 AK.read).2.stepHeld 9 = false ∧
     (let t := s.setFn 0 { s.fn 0 with mse := true }
      t.flt.stopped = false ∧ t.decodes 0 = true ∧ t.requesterShut 0 = false ∧ t.behindWrites (.host 0 ⟨0, 0, 0⟩) false = false)) ∧
    ((State.reset.setBit R.TAL_CTL F.TAL_CTL_FREEZE).bit R.TAL_CTL F.TAL_CTL_FREEZE = true) ∧
    ((State.reset.get R.TAL_SMPPTR F.TAL_SMPPTR_WR + 8192 - (0 : BitVec 13).toNat) % 8192 ≤ 4096 ∧
      4096 < (State.reset.get R.TAL_SMPPTR F.TAL_SMPPTR_WR + 8192 - (1 : BitVec 13).toNat) % 8192) := by decide +kernel
theorem test_conversion : after (exec (.monitorConversion 77) { State.reset.setBit R.EMB_STATUS F.EMB_STATUS_XTAL_OK with pow := { next := 79 } })
    (fun t => t.get (R.MON_VAL 79) F.MON_VAL_VALUE == 77 && t.pow.next == 0) = true := by decide +kernel

/-! ### Reset -/

/-- Every reset domain released, and a phase of the load. -/
def loading (ph : Nat) : State := State.reset.put R.RST_STATUS F.RST_STATUS_LOAD_PHASE ph
/-- NAND with an image of one syllable of zeros at image 0. -/
def imaged : State :=
  (loading 3).store (NAND.image 0) (leBytes 0x6A5F 2 ++ leBytes 1 2 ++ leBytes 0 4 ++ leBytes 1 4 ++ leBytes (crc32 [0, 0, 0, 0, 0]) 4)

theorem witness_ResetSourcesAreRecognisedAndReleased :
    (State.reset.rst.cold = false ∧ State.reset.rst.quench = 0 ∧ State.reset.rst.warm = false) ∧
    (({ State.reset with rst := { cold := true } } : State).rst.cold = true) ∧
    ((0x5A17 : BitVec 16).toNat = 0x5A17 ∧ (0x5A16 : BitVec 16).toNat ≠ 0x5A17) ∧
    (let s := (State.reset.setBit R.RST_CTL F.RST_CTL_SYSTEM_READY).put R.RST_DOMAIN F.RST_DOMAIN_IN_RESET 0
     s.widened = false ∧ s.get R.RST_DOMAIN F.RST_DOMAIN_IN_RESET = 0 ∧ s.bit R.RST_STATUS F.RST_STATUS_WARM_ENTRY = false ∧
     (s.setBit R.RST_STATUS F.RST_STATUS_WARM_ENTRY).bit R.RST_STATUS F.RST_STATUS_WARM_ENTRY = true) ∧
    (let s := State.reset.setBit R.RST_STATUS F.RST_STATUS_NO_IMAGE
     s.bit R.RST_STATUS F.RST_STATUS_NO_IMAGE = true ∧ s.rst.core0 = false) := by decide +kernel
theorem test_warm_key : after (exec (.rstWarm 0x5A16) State.reset) (fun t => t.bit R.RST_STATUS F.RST_STATUS_BADCMD) = true := by decide +kernel
theorem test_cold_pin : after (exec .coldNAssert State.reset) (fun t => t.rst.cold && t.get R.RST_DOMAIN F.RST_DOMAIN_IN_RESET == 0x3FC) = true := by
  decide +kernel

theorem witness_StrapCodeIsTheNearestStep : strapCode 136 = 0 ∧ strapCode 137 = 1 ∧ strapCode 3959 = 14 ∧ strapCode 3960 = 15 ∧ strapCode 4095 = 15 := by
  decide +kernel

theorem witness_PowerOnLoadAndLehrSequence :
    (let s := (loading 1).setBit R.EMB_STATUS F.EMB_STATUS_XTAL_OK
     s.get R.RST_STATUS F.RST_STATUS_LOAD_PHASE = 1 ∧ s.bit R.EMB_STATUS F.EMB_STATUS_XTAL_OK = true ∧ s.coldHeld = false ∧ s.rst.quench = 0) ∧
    (strapCode (300 : BitVec 12).toNat = strapCode (310 : BitVec 12).toNat) ∧
    ((loading 2).get R.RST_STATUS F.RST_STATUS_LOAD_PHASE = 2 ∧
      ((loading 2).put R.RST_TRIMSTAT F.RST_TRIMSTAT_PASSES 2).get R.RST_TRIMSTAT F.RST_TRIMSTAT_PASSES = 2) ∧
    (imaged.get R.RST_STATUS F.RST_STATUS_LOAD_PHASE = 3 ∧ 0 = imaged.get R.RST_STRAP F.RST_STRAP_IMAGE ∧ imaged.imageOk (NAND.image 0) = true ∧
      (loading 3).imageOk (NAND.image 0) = false ∧ (loading 3).imageOk (NAND.image 1) = false) ∧
    ((loading 4).get R.RST_STATUS F.RST_STATUS_LOAD_PHASE = 4 ∧ (loading 5).get R.RST_STATUS F.RST_STATUS_LOAD_PHASE = 5) ∧
    ((State.reset.setBit R.RST_STATUS F.RST_STATUS_TRIM_VALID).bit R.RST_STATUS F.RST_STATUS_TRIM_VALID = true ∧
      State.reset.bit R.RST_STATUS F.RST_STATUS_TEST = false ∧ State.reset.bit R.RST_STATUS F.RST_STATUS_TRIM_VALID = false) ∧
    (let s := (loading 6).put R.RST_DOMAIN F.RST_DOMAIN_IN_RESET 2
     firstSet (s.get R.RST_DOMAIN F.RST_DOMAIN_IN_RESET) 0 10 = some 1 ∧ s.rst.held = [] ∧ s.stepReady (1 + 1) = true ∧
       s.get R.RST_STATUS F.RST_STATUS_LOAD_PHASE ≠ 1 ∧ s.bit R.RST_STATUS F.RST_STATUS_WARM_ENTRY = false) := by decide +kernel
theorem test_image_load : after (exec .imageLoad imaged) (fun t => !t.bit R.RST_STATUS F.RST_STATUS_NO_IMAGE) = true := by decide +kernel
theorem test_lehr_step : after (exec .lehrStepRelease ((loading 6).put R.RST_DOMAIN F.RST_DOMAIN_IN_RESET 2))
    (fun t => t.get R.RST_DOMAIN F.RST_DOMAIN_IN_RESET == 0 && t.get R.RST_STATUS F.RST_STATUS_LEHR_STEP == 2) = true := by decide +kernel

/-! ### Command slots, mailboxes, tables -/

/-- Slot 3 in a state, with a holder and a job. -/
def slot3 (st opc : Nat) : State :=
  let s := ((State.reset.put (R.CMD_SLOT 3) F.CMD_SLOT_STATE st).put (R.CMD_SLOT 3) F.CMD_SLOT_OPC opc).setSlotLease 3 (some ⟨9, 100, false⟩)
  (s.setJob 3 (some ⟨9, false, 0, 0, false, false, 0⟩)).setBit R.CMD_CTL F.CMD_CTL_ENABLE
def slotted16 : State := (List.range 16).foldl (fun s j => s.put (R.CMD_SLOT j) F.CMD_SLOT_STATE 1) State.reset

theorem witness_CommandSlotsAreAllocatedIssuedAndRetired :
    (let s := State.reset.put (R.CMD_SLOT 0) F.CMD_SLOT_STATE 1
     s.slotState 1 = 0 ∧ (∀ j, j < 1 → s.slotState j ≠ 0) ∧ s.job 1 = none ∧ (s.core 0).deviceWaits = false ∧
     (let t := s.put R.RST_DOMAIN F.RST_DOMAIN_IN_RESET 0
      let r := t.controlAllowed (t.masterOrigin (.core 0)) (sideOf (.core 0)).no R.CMD_ALLOC.addr 8 AK.read
      r.1 = true ∧ r.2.stepHeld 9 = false)) ∧
    (∀ j, j < 16 → slotted16.slotState j ≠ 0) ∧
    ((slot3 1 0).slotState 3 = 1 ∧ (slot3 1 0).holdsSlot 3 (9 : Origin).toNat = true ∧
      (slot3 1 0).get (R.CMD_SLOT 3) F.CMD_SLOT_GEN = (0 : BitVec 12).toNat) ∧
    ((slot3 1 0).argsOk 3 3 = true ∧ ((slot3 1 0).wr (R.CMD_ARG 3 0) (2 ^ 64 - 1)).argsOk 3 3 = false) ∧
    ((slot3 7 0).slotState 3 ∈ [1, 7, 8, 9] ∧ (slot3 3 0).slotState 3 ∈ [2, 3, 4, 5, 6]) ∧
    (State.reset.cmd.leases = [] ∧ (slot3 1 0).cmd.leases = [(3, some ⟨9, 100, false⟩)] ∧
      Nat.land 9 (15 : BitVec 32).toNat = Nat.land (25 : BitVec 32).toNat (15 : BitVec 32).toNat) := by decide +kernel
theorem test_alloc : after (exec (.cmdAlloc (.core 0)) ((State.reset.put (R.CMD_SLOT 0) F.CMD_SLOT_STATE 1).put R.RST_DOMAIN F.RST_DOMAIN_IN_RESET 0))
    (fun t => t.slotState 1 == 1 && t.holdsSlot 1 (t.masterOrigin (.core 0)) && t.out == [.readData (1 + 2 ^ 16)]) = true := by decide +kernel

theorem witness_CommandsStartWorkAndStop :
    (let s := (slot3 2 3).wr (R.CMD_ARG 3 1) 1
     s.slotState 3 = 2 ∧ s.bit R.CMD_CTL F.CMD_CTL_ENABLE = true ∧ s.blocked 3 = false ∧ s.slotOpc 3 = 3 ∧ (s.jobD 3).started = false ∧
       (s.jobD 3).notify = false ∧ 0 < s.argPages 3) ∧
    ((State.reset.put (R.CMD_CTL) F.CMD_CTL_ENABLE 0).bit R.CMD_CTL F.CMD_CTL_ENABLE = false) ∧
    (let s := served (slot3 3 3)
     s.slotState 3 = 3 ∧ s.slotOpc 3 = 3 ∧ s.errsIn (s.argPage 3 * 2 ^ 21 + 256 * s.progress 3) 256 = [] ∧
       (s.engOpen 3 (s.argPage 3 * 2 ^ 21 + 256 * s.progress 3) 256 false).1 = .ok) ∧
    ((slot3 4 3).slotState 3 = 4 ∧ (slot3 5 3).slotState 3 = 5 ∧ ((slot3 3 3).jobD 3).indivisible = false ∧ (slot3 3 3).slotOpc 3 ≠ 5 ∧
      (slot3 8 3).slotState 3 ∈ [7, 8, 9]) := by decide +kernel
theorem test_suspend : after (exec (.cmdSuspend 9 3 0) (slot3 3 3)) (fun t => t.slotState 3 == 4) = true := by decide +kernel

/-- Mailbox 5 enabled for function 0 of partition 0, its firmware end claimed by tag 9 where asked. -/
def mail (claimed : Bool) : State :=
  let s := (State.reset.setBit (R.MBX_CFG 5) F.MBX_CFG_EN).setBit R.MBX_CTL F.MBX_CTL_ENABLE
  if claimed then s.setClaim (mbxFrame 5 false) (some ⟨9, 100, false⟩) else s

theorem witness_MailboxesClaimSendAndAcknowledge :
    ((mail false).mbxGate (9 : Origin).toNat 5 false = .open ∧ (mail false).claimOf (mbxFrame 5 false) = none ∧
      (mail false).mbxGate (0 : Origin).toNat 5 true = .open) ∧
    ((mail true).holdsClaim (mbxFrame 5 false) (9 : Origin).toNat = true ∧ (mail true).holdsClaim (mbxFrame 5 false) (8 : Origin).toNat = false) ∧
    (let s := (mail true).setBit (R.MBX_ESTAT (mbxFrame 5 false)) F.MBX_ESTAT_RX_FULL
     s.bit (R.MBX_ESTAT (mbxFrame 5 false)) F.MBX_ESTAT_RX_FULL = true ∧
       s.get (R.MBX_RXMSG (mbxFrame 5 false) 0) ⟨0, 16⟩ = (0 : BitVec 16).toNat ∧ (0xFEFF : BitVec 16).toNat < 0xFF00) ∧
    ((mail true).bit (R.MBX_ESTAT (mbxFrame 5 false)) F.MBX_ESTAT_RX_FULL = false) ∧
    ((mail false).bit (R.MBX_ESTAT (512 + 5)) F.MBX_ESTAT_TX_FULL = false ∧
      0xFFFF = (((mail false).put (R.MBX_ESTAT (512 + 5)) F.MBX_ESTAT_TX_SEQ 0xFFFE).get (R.MBX_ESTAT (512 + 5)) F.MBX_ESTAT_TX_SEQ + 1) % 2 ^ 16) ∧
    ((mail true).mbx.claims = [(mbxFrame 5 false, some ⟨9, 100, false⟩)]) := by decide +kernel
theorem test_send : after (exec (.mbxSend 0 5 true 7)
    (((mail false).setClaim (mbxFrame 5 true) (some ⟨0, 100, false⟩)).wr (R.MBX_TXMSG (512 + 5) 1) 77))
    (fun t => t.rd (R.MBX_RXMSG 5 1) == 77 && t.rd (R.MBX_RXMSG 5 0) == 1 + 7 * 2 ^ 16 && t.bit (R.MBX_ESTAT 5) F.MBX_ESTAT_RX_FULL) = true := by
  decide +kernel

/-- The shadow bank describes an IX table 0 of 4 entries on the die; entry 2 is selected. -/
def shadowed : State :=
  (State.reset.wr (R.JCK_TBLA 0) (1 * 2 ^ F.JCK_TBLA_TYPE.lo + 2 * 2 ^ F.JCK_TBLA_CAP_LOG2.lo)).put R.JCK_TBLSEL F.JCK_TBLSEL_INDEX 2

theorem witness_TableAndFlowCommandsReadAndWrite :
    (let d := shadowed.tbl false (shadowed.get R.JCK_TBLSEL F.JCK_TBLSEL_TABLE)
     d.type = 1 ∧ d.place = 0 ∧ shadowed.bit (R.GAF_EPSTAT 1) F.GAF_EPSTAT_COMMIT_PEND = false ∧
       shadowed.get R.JCK_TBLSEL F.JCK_TBLSEL_INDEX < d.size ∧ bitOf (shadowed.get R.GAF_DEBUG F.GAF_DEBUG_DIRECT) 1 = false) ∧
    (let l : FlowLine := ⟨0, [1, 2, 2 ^ 12, 0, 0, 0, 0, 0], false⟩
     let s : State := { served State.reset with pol := { cache := [l] } }
     s.pol.cmd = none ∧ s.flowVictim 0 = none ∧ (s.flowTurn (s.flowRanges 0 false)).isSome = true ∧ s.gstMapped (s.flowAddr 0) = true ∧ s.flowFind 0 = some l ∧ (∀ i, i < 8 → recWord l.words i < 2 ^ 64)) ∧
    ((served State.reset).pol.cache = [] ∧ (served State.reset).pol.cmd = none ∧
      ((served State.reset).flowTurn (served State.reset).dirtyRanges).isSome = true) ∧
    (let s : State := { State.reset with pol := { cmd := some ⟨1, 0, 0, 0, []⟩ } }
     s.pol.cmd ≠ none) ∧
    (let w : MeterWait := ⟨6, 1, 300, 0, 3, 4, 0, 0⟩
     let s : State := { served State.reset with pol := { filling := [w] } }
     s.pol.filling = [w] ∧ w.idx = (6 : BitVec 20).toNat ∧ s.flowFind 6 = none ∧ (s.flowTurn (s.flowRanges 6 true)).isSome = true ∧ (s.flowFill 6 (s.agentOrigin (agentOfNo w.lane))).1 ≠ none ∧
     (({ s with err := [(48, 1)] } : State).flowFill 6 (s.agentOrigin (agentOfNo w.lane))).1 = none) := by decide +kernel
theorem test_table_write : after (exec (.tblWrite 0) ((shadowed.wr (R.JCK_TBLDATA 0) 77).wr (R.JCK_TBLDATA 1) 1))
    (fun t => t.entry (t.tbl false 0) 2 == [77, 1, 0, 0] && t.entry (t.tbl false 0) 1 == [0, 0, 0, 0]) = true := by decide +kernel

/-! ### Banks, swaps, gather store, gates, clear path -/

/-- A commit of domain `d` is pending. -/
def pending (d : Nat) : State := State.reset.setBit (R.GAF_EPSTAT d) F.GAF_EPSTAT_COMMIT_PEND

theorem witness_BanksAreCommittedDrainedAndCopied :
    ((pending 1).domainRefusal 1 = some (0, 0) ∧
      ((pending 0).domainRefusal 0).isSome = true) ∧
    (State.reset.gateRefusal 3 = none ∧
      (State.reset.setBit (R.GAT_GSTAT 3) F.GAT_GSTAT_COMMIT_PEND).gateRefusal 3 = some (0, 0, 0, 0, 0) ∧
      (8 : BitVec 32) = BitVec.ofNat 32 (2 ^ 3)) ∧
    (let s := (pending 1).put (R.GAF_EPSTAT 1) F.GAF_EPSTAT_DRAINED 0
     s.bit (R.GAF_EPSTAT 1) F.GAF_EPSTAT_COMMIT_PEND = true ∧ s.oldInflight 1 = 0 ∧ s.bit (R.GAF_EPSTAT 1) F.GAF_EPSTAT_DRAINED = false ∧
     State.reset.bit (R.GAF_EPSTAT 1) F.GAF_EPSTAT_COMMIT_PEND = false ∧
     (s.setBit (R.GAF_EPSTAT 1) F.GAF_EPSTAT_DRAINED).bit (R.GAF_EPSTAT 1) F.GAF_EPSTAT_DRAINED = true) ∧
    (let s := (State.reset.setBit (R.GAT_GSTAT 3) F.GAT_GSTAT_COMMIT_PEND).setBit (R.GAT_EPOCH 3) F.GAT_EPOCH_DRAINED
     s.bit (R.GAT_GSTAT 3) F.GAT_GSTAT_COMMIT_PEND = true ∧ s.gateOld 3 = 0 ∧
     ({ s with gst := { s.gst with bound := [⟨3, 0x40, 8, AK.read, 0, 4, true⟩] } } : State).gateOld 3 ≠ 0 ∧ s.gateExts 3 = [] ∧
     s.bit (R.GAT_EPOCH 3) F.GAT_EPOCH_DRAINED = true ∧
     (s.put (R.GAT_EPOCH 3) F.GAT_EPOCH_DRAINED 0).bit (R.GAT_EPOCH 3) F.GAT_EPOCH_DRAINED = false) ∧
    (State.reset.retired.contains 5 = false ∧ State.reset.cru.due.contains 5 = false ∧ SMap.get State.reset.cru.refs 0 5 = 0 ∧
      State.reset.retired.length < 1024 ∧
      (let s : State := { State.reset with cru := { refs := [(5, 1)] } }
       SMap.get s.cru.refs 0 5 ≠ 0 ∧ s.cru.due.contains 5 = false ∧ s.retired.contains 5 = false) ∧
      (({ State.reset with cru := { due := [5] } } : State).cru.due.contains 5 = true)) := by decide +kernel
theorem witness_BanksAreCommittedDrainedAndCopied_forwarding : State.reset.domainRefusal 0 = none := by decide +kernel
theorem test_commit_refused : after (exec (.gafCommit false true false true 0) (pending 1))
    (fun t => t.get (R.GAF_EPSTAT 1) F.GAF_EPSTAT_EPOCH == 0 && t.bit (R.GAF_EPSTAT 1) F.GAF_EPSTAT_COMMIT_BAD &&
      t.bit R.GAF_STATUS F.GAF_STATUS_ALL_REFUSED) = true := by decide +kernel

/-- Direct-write mode of every domain, with the lower word of a record held. -/
def directed (a lo : Nat) : State :=
  let s := (State.reset.put R.GAF_DEBUG F.GAF_DEBUG_DIRECT 7).setBit R.GAF_DEBUG F.GAF_DEBUG_GDIR
  { s with gaf := { s.gaf with holding := [(a, some lo)] } }

theorem witness_DirectWritesSwapsAndTakeovers :
    ((0 : BitVec 16) ≠ 0x5120#16 ∧ (∀ i, i < 3 → State.reset.bit (R.GAF_EPSTAT i) F.GAF_EPSTAT_COMMIT_PEND = false) ∧
      (∀ i, i < 32 → State.reset.bit (R.GAT_GSTAT i) F.GAT_GSTAT_COMMIT_PEND = false) ∧
      (pending 1).bit (R.GAF_EPSTAT 1) F.GAF_EPSTAT_COMMIT_PEND = true ∧ (pending 1).direct 1 = false ∧ bitOf (2 : BitVec 3).toNat 1 = true) ∧
    (State.reset.direct (recordRef (.mirrorPort 3)).1 = false ∧ (directed 0 0).direct 0 = true) ∧
    (let s := directed (R.POL_PROFA 5).addr 0
     let u := (s.wrBoth (R.POL_PROFA 5) 0).wrBoth (R.POL_PROFB 5) 0
     let w := (s.wrBoth (R.POL_PROFA 5) (2 ^ 64 - 1)).wrBoth (R.POL_PROFB 5) (Nat.land (2 ^ F.POL_PROFB_CBS.lo) (cardMask Card.POL_PROFB))
     s.direct 1 = true ∧ SMap.get s.gaf.holding none (R.POL_PROFA 5).addr = some 0 ∧ u.badProfile 5 = false ∧ w.badProfile 5 = true) ∧
    (let s := directed (R.GAT_RGNA 3 1).addr 1
     let u := (s.wrBoth (R.GAT_RGNA 3 1) 1).wrBoth (R.GAT_RGNB 3 1) 0
     let w := (s.wrBoth (R.GAT_RGNA 3 1) 0).wrBoth (R.GAT_RGNB 3 1) 0
     SMap.get s.gaf.holding none (R.GAT_RGNA 3 1).addr = some 1 ∧ s.bit R.GAF_DEBUG F.GAF_DEBUG_GDIR = true ∧ u.regionFails 3 1 = true ∧ w.regionFails 3 1 = false ∧
       State.reset.bit R.GAF_DEBUG F.GAF_DEBUG_GDIR = false) ∧
    (State.reset.bit R.GAF_STATUS F.GAF_STATUS_SWAP_BUSY = false ∧ State.reset.bit R.GAF_STATUS F.GAF_STATUS_ACTIVE_BANK = !true ∧
      State.reset.bit R.GAF_STATUS F.GAF_STATUS_ACTIVE_BANK = false ∧
      (∀ c, c < 32 → (State.reset.core c).isStopped = true ∧ State.reset.bit (R.GAF_CORE c) F.GAF_CORE_SWAP_PEND = false) ∧
      ((core0 {}).core 0).isStopped = false) ∧
    (let s := (core0 {}).setBit (R.GAF_CORE 0) F.GAF_CORE_SWAP_PEND
     s.bit (R.GAF_CORE 0) F.GAF_CORE_SWAP_PEND = true ∧ (s.core 0).sb = [] ∧ (s.core 0).run ≠ .taking) ∧
    (let s := (core0 {}).setBit R.GAF_CTL F.GAF_CTL_AUTO_TK
     s.hasCore 0 = true ∧ s.get R.GAF_STATUS F.GAF_STATUS_SPARES = 2 ∧ s.bit R.GAF_CTL F.GAF_CTL_AUTO_TK = true ∧ (s.core 0).run = .running ∧
     (s.put R.GAF_STATUS F.GAF_STATUS_SPARES 0).get R.GAF_STATUS F.GAF_STATUS_SPARES = 0 ∧
     (s.put R.GAF_CTL F.GAF_CTL_AUTO_TK 0).bit R.GAF_CTL F.GAF_CTL_AUTO_TK = false) ∧
    (let s := State.reset.setCore 0 { run := .taking }
     s.hasCore 0 = false ∧ (s.core 0).run = .taking ∧ (s.core 0).sb = []) := by decide +kernel
theorem test_takeover : after (exec (.coreTakeover 0) (core0 {}))
    (fun t => t.phys 0 == 32 && (t.core 0).run == .taking && t.get R.GAF_STATUS F.GAF_STATUS_SPARES == 1) = true := by decide +kernel

/-- The PF of the management partition. -/
def host1 : Origin := 0
def gdone : State := served State.reset

theorem witness_GatherStoreServesScrubsAndRetires :
    (gdone.gstMapped 0x40 = true ∧ gdone.gstServes = true ∧ gdone.gstBusy 0x40 8 0 = false ∧ gdone.errsIn 0x40 8 = [] ∧
      (∀ k ∈ [AK.read, AK.write, AK.atomic], (gdone.gateArrive (gdone.gateOfGst 0x40) 0x40 8 k host1.toNat 0).1 = true) ∧
      gdone.lockAgainst 0x40 8 host1.toNat = none ∧ (State.reset.setBit R.GST_CTL F.GST_CTL_ENABLE).gstBusy 0x40 8 0 = true) ∧
    (let o := 2 * 2 ^ 27 + 4 * 2 ^ 23
     (gdone.gateArrive (gdone.gateOfGst 0x40) 0x40 8 AK.read o 0).1 = false) ∧
    (let s := (gdone.put (R.GST_LOCKB 3) F.GST_LOCKB_HOLDER 9).setBit (R.GST_LOCKA 3) F.GST_LOCKA_VALID
     s.lockAgainst 0x20 8 host1.toNat = some 3 ∧ accKind (.write [1]) ≠ AK.read) ∧
    (let s : State := { gdone with err := [(8, 14)] }
     s.errsIn 0x40 8 = [(8, 7, false)] ∧ s.decoded (8, 7, false) = .ue) ∧
    (State.reset.gstServes = false ∧ gdone.gstMapped (2 ^ 37 - 8) = false) ∧
    (let s := State.reset.setBit R.GST_CTL F.GST_CTL_ENABLE
     s.gstMapped 0 = true ∧ s.gstServes = true ∧ s.gstReady = false ∧ (s.put R.GST_STATUS F.GST_STATUS_TRIM_WAIT 0).bit R.GST_STATUS F.GST_STATUS_TRIM_WAIT = false) ∧
    (let s := gdone.setBit R.GST_CTL F.GST_CTL_SCRUB_EN
     s.bit R.GST_CTL F.GST_CTL_SCRUB_EN = true ∧ s.gstReady = true ∧ s.bit R.GST_STATUS F.GST_STATUS_SELFREF = false ∧ 2 < s.groups ∧
       s.gstBusy (s.walkAddr 2 0) 256 0 = false ∧
       ({ s with gst := { s.gst with seqs := [(s.walkAddr 2 0 / 64, 5, ⟨0, 0, false⟩)] } } : State).gstBusy (s.walkAddr 2 0) 256 0 = true ∧
       s.errsIn (s.walkAddr 2 0) 256 = [] ∧ 0 + 1 < s.walkLength 2 ∧
       (let w := s.walkAddr 2 0 / 8
        ({ s with err := [(w, 2)] } : State).errsIn (s.walkAddr 2 0) 256 = [(w, 1, false)] ∧ popcount 1 < 4 ∧
          ({ s with err := [(w, 2)] } : State).decoded (w, 1, false) = .corr1 ∧ ({ s with err := [(w, 14)] } : State).decoded (w, 7, false) = .ue)) ∧
    (gdone.gst.copying.find? (fun e => e.1 == 7) = none ∧
      (let s : State := { gdone with gst := { copying := [(7, 4)] } }
       s.gst.copying.find? (fun e => e.1 == (7 : BitVec 25).toNat) = some (7, 4) ∧ s.errsIn ((7 : BitVec 25).toNat * 4096) 4096 = [])) ∧
    (gdone.gstMapped ((7 : BitVec 25).toNat * 4096) = true ∧ gdone.blockGone (7 : BitVec 25).toNat = false ∧ gdone.freeSpare 0 ≠ none ∧
      gdone.gstMapped ((2 ^ 25 - 1 : BitVec 25).toNat * 4096) = false) := by decide +kernel
theorem witness_NoClassIsDue : gdone.undisputed host1.toNat := by
  intro g x hx hc
  match x, hx with
  | 0, _ => rfl
  | 1, _ => rfl
  | 2, _ => rfl
  | 3, _ => rfl
theorem test_gst_write : after (exec (.gstAccess host1 0x40 (.write [1, 2]) [] none) gdone)
    (fun t => t.byte 0x40 == 1 && t.byte 0x41 == 2 && t.byte 0x42 == 0) = true := by decide +kernel

theorem witness_RegionLocksAreHeldByOneMasterAndNeverOverlap :
    (let s := State.reset
     s.bit (R.GST_LOCKA 5) F.GST_LOCKA_VALID = false ∧ (4 : BitVec 31).toNat * 64 % 2 ^ (6 + 2) = 0 ∧
       (4 : BitVec 31).toNat * 64 / 2 ^ 21 = ((4 : BitVec 31).toNat * 64 + 2 ^ (6 + 2) - 1) / 2 ^ 21 ∧ s.locksHeld = []) ∧
    (let s := ((State.reset.put (R.GST_LOCKB 3) F.GST_LOCKB_HOLDER 9).setBit (R.GST_LOCKA 3) F.GST_LOCKA_VALID)
     s.bit (R.GST_LOCKA 3) F.GST_LOCKA_VALID = true ∧ s.holdsLock 3 (9 : Origin).toNat = true ∧ s.holdsLock 3 (8 : Origin).toNat = false ∧
       0 < (s.lockRange 3).1 + (s.lockRange 3).2 ∧ (s.lockRange 3).1 < 64 ∧
       Nat.land (s.get (R.GST_LOCKB 3) F.GST_LOCKB_HOLDER) (15 : BitVec 32).toNat = Nat.land (25 : BitVec 32).toNat (15 : BitVec 32).toNat) ∧
    ((3 : BitVec 31).toNat * 64 % 2 ^ (6 + 1) ≠ 0) := by decide +kernel
theorem witness_LocksDisjoint : LocksDisjoint State.reset := by
  have h : ∀ i, i < 256 → State.reset.bit (R.GST_LOCKA i) F.GST_LOCKA_VALID = false := by decide +kernel
  intro i j hi _ _ h1
  rw [h i hi] at h1
  exact absurd h1 (by decide)
theorem test_acquire : after (exec (.regionLockAcquire 9 5 4 2 100) State.reset)
    (fun t => t.holdsLock 5 9 && t.lockRange 5 == (256, 256)) = true := by decide +kernel

/-- Gate 3 after its first commit, with region 0 over its first 4 KiB that grants reads to the masters of set 0, everyone. -/
def gated : State :=
  withAct [(R.GAT_MSET 3 0, 0), (R.GAT_RGNA 3 0, 1 + 12 * 2), (R.GAT_RGNB 3 0, 1)] (State.reset.put (R.GAT_GSTAT 3) F.GAT_GSTAT_BOOT 0)

theorem witness_GatesGrantWhatEveryByteIsGranted :
    (gateChecks host1.toNat = true ∨ gateChecks host1.toNat = false) ∧ gateChecks (4 * 2 ^ 23) = true ∧
    State.reset.bit (R.GAT_GSTAT 3) F.GAT_GSTAT_BOOT = true ∧ gated.bit (R.GAT_GSTAT 3) F.GAT_GSTAT_BOOT = false ∧
    (gated.gateCheck 3 0 8 AK.write (4 * 2 ^ 23)).1 = false ∧ (gated.gateCheck 3 0 8 AK.read (4 * 2 ^ 23)).1 = true := by decide +kernel

theorem witness_PoolAccess :
    (let s := ((gdone.put (R.GST_FNPOOL 0) F.GST_FNPOOL_PAGES 1).wr (R.GST_POOLMAP 0) 0).setFn 0 { mse := true }
     let t := (s.setBit (R.GST_POOLMAP 0) F.GST_POOLMAP_VALID).put (R.GST_POOLMAP 0) F.GST_POOLMAP_PAGE 3
     s.flt.stopped = false ∧ s.decodes 0 = true ∧ s.requesterShut host1.toNat = false ∧ s.poolTranslate 0 0x40 = none ∧
       t.poolTranslate 0 0x40 = some (3 * 2 ^ 21 + 0x40) ∧ 0x40 < t.bar2Size 0 ∧ t.bar2Size 0 ≤ 2 ^ 40 ∧ t.gstMapped (3 * 2 ^ 21 + 0x40) = true ∧
       t.gstServes = true ∧ t.gstBusy (3 * 2 ^ 21 + 0x40) 8 0 = false ∧ t.errsIn (3 * 2 ^ 21 + 0x40) 8 = [] ∧
       t.lockAgainst (3 * 2 ^ 21 + 0x40) 8 host1.toNat = none ∧ hostAtomicOk (.atomic .fadd 8 0 0) 0x40 = true ∧
       (t.gateArrive (t.gateOfGst (3 * 2 ^ 21 + 0x40)) (3 * 2 ^ 21 + 0x40) 8 AK.write host1.toNat 0).1 = true ∧
       ({ s with rst := { s.rst with quench := 1 } } : State).rst.quench ≠ 0 ∧ accPosted (.write [1]) = true ∧
       (let u := s.setBit (R.PTN_STATE 0) F.PTN_STATE_HELD
        u.requesterShut host1.toNat = true ∧ (∀ a, u.poolTranslate 0 0x40 = some a → u.pastGate a (.write [1]) host1.toNat = false))) := by decide +kernel

/-- Partition 0 with port 0 upstream and port 8 downstream, their links up, the window of both bridges at 0x1000. -/
def fabric2 : State :=
  let s := (State.reset.setBit (R.PRT_STATUS 0) F.PRT_STATUS_LINK_UP).setBit (R.PRT_STATUS 8) F.PRT_STATUS_LINK_UP
  let s := withAct [(R.PRT_ROLE 0, ROLE.UPSTREAM), (R.PRT_ROLE 8, ROLE.DOWNSTREAM)] s
  let s := s.setBit R.CRU_CTL F.CRU_CTL_ENABLE
  let b : Bridge := { memBase := 0x1000, memLimit := 0x1FFF, mse := true, bme := true, sec := 1, sub := 9 }
  (s.setBridge (upKey 0) b).setBridge (dnKey 0 8) b

/-- A posted write of 4 bytes at an address. -/
def write4 (a : Nat) : Tlp := ⟨.memWr, a, 0x100, 0, 0, 0, 24, 4, .sc, false, false, [1, 2, 3, 4], false, false⟩
/-- A packet of that write for class 0 of port 8. -/
def pktW (id : Nat) (cut : Bool) : Pkt := ⟨id, .clear, .tlp (write4 0x1000), 24, 0, 0, 0, 0, 0, 64, [9], 1, cut, 0, 0⟩
def skipped (f : Cru → Cru) : State := { fabric2 with cru := f fabric2.cru }

theorem witness_TlpsAreAdmittedHeldStagedSentAndFreed :
    (State.reset.pciePort 0 = false ∧ fabric2.pciePort 0 = true ∧ (fabric2.setBit (R.PRT_STATUS 0) F.PRT_STATUS_HELD).arrivesShut 0 0 (write4 0x1000) = true ∧
      (let s := fabric2.put (R.PTN_STATE 0) F.PTN_STATE_IN_RESET 1
       s.arrivesShut 0 0 { write4 0 with kind := .cfg } = true ∧ s.portHeld 0 = false ∧ s.role 0 = ROLE.UPSTREAM ∧ s.pciePort 0 = true) ∧
      fabric2.arrivesShut 0 0 (write4 0x1000) = false ∧ fabric2.flt.stopped = false ∧ (write4 0x1000).kind ≠ .cpl) ∧
    (fabric2.route 0 0 (write4 0x9000) = .ur ∧ nonPosted (write4 0x9000) = false ∧ fabric2.route 0 0 (write4 0x1000) = .port 8 ∧
      fabric2.portHeld 8 = false ∧ fabric2.bufferWaits 0 0 = false) ∧
    (fabric2.admissible 64 (gobsOf (write4 0x1000).len) = true ∧ fabric2.mayCut 0 0 64 true = false) ∧
    (let s := ((fabric2.setBit (R.PRT_LINKSTAT 0) F.PRT_LINKSTAT_FLIT).setBit (R.PRT_LINKSTAT 8) F.PRT_LINKSTAT_FLIT).setBit R.CRU_CTL F.CRU_CTL_CT_GLOBAL
     (s.wr (R.CRU_CTEN 0) 1).mayCut 0 0 64 true = true) ∧
    (let s := fabric2.put R.CRU_CTL F.CRU_CTL_ENABLE 0
     s.admissible 64 1 = false ∧ s.dropMode 64 = false ∧ (s.setBit (R.CRU_COQCFG 64) F.CRU_COQCFG_MODE).dropMode 64 = true) := by decide +kernel
theorem witness_TlpsAreAdmittedHeldStagedSentAndFreed_held :
    (let h : Hold := ⟨0, 0, pktW 5 false, true, none, 0⟩
     let s := skipped (fun c => { c with holds := [h] })
     s.headHold 0 0 = some h ∧ s.waitersUpTo (.port 0 0) = [.port 0 0] ∧ h.peer = none ∧ s.destShut h.pkt h.pkt.coq h.pkt.pt = false ∧
       h.pkt.coq < 2056 ∧ s.admissible h.pkt.coq h.pkt.gobs = true ∧ s.get R.CRU_HOLDTO F.CRU_HOLDTO_HOLD_TO ≠ 0 ∧ h.refused = true ∧
       h.pkt.body = .tlp (write4 0x1000) ∧ nonPosted (write4 0x1000) = false ∧
       (s.put R.CRU_HOLDTO F.CRU_HOLDTO_HOLD_TO 0).get R.CRU_HOLDTO F.CRU_HOLDTO_HOLD_TO = 0) ∧
    (let x : Pkt := { pktW 5 false with coq := 2048 }
     let s := skipped (fun c => { c with epHeld := [x] })
     s.cru.epHeld.find? (fun x => x.coq % 8 == 0) = some x ∧ s.waitersUpTo (.endpoint 0) = [.endpoint 0] ∧ s.admissible x.coq x.gobs = true) := by decide +kernel
theorem witness_TlpsAreAdmittedHeldStagedSentAndFreed_sent :
    (let s := skipped (fun c => { c with unacked := [(8, [pktW 5 true])] })
     s.cru.unacked.find? (fun e => e.2.any (fun x => x.cutting && x.inPort == 0 && x.inCls == 0)) = some (8, [pktW 5 true]) ∧
       [pktW 5 true].find? (fun x => x.cutting && x.inPort == 0 && x.inCls == 0) = some (pktW 5 true)) ∧
    (let s := (skipped (fun c => { c with coqs := [(64, [pktW 5 false])] })).setTile 0 true
     s.leavesPcie 8 (pktW 5 false) = true ∧ s.tileGated 8 = false ∧ s.coq (coqOfPort 8 0) = [pktW 5 false] ∧ (pktW 5 false).role ≠ .train ∧
       bitOf (1 : BitVec 8).toNat 0 = true ∧ (∀ d, d < 8 → d ≠ 0 → s.coq (coqOfPort 8 d) = [] ∨ bitOf (1 : BitVec 8).toNat d = false)) ∧
    (let s := (fabric2.setTile 0 true).setStaged 8 0 [pktW 5 false]
     let t := skipped (fun c => { c with deficit := [(64, 1)] })
     s.bit (R.PRT_STATUS 8) F.PRT_STATUS_LINK_UP = true ∧ s.leavesPcie 8 (pktW 5 false) = true ∧ s.staged 8 0 = [pktW 5 false] ∧ (pktW 5 false).role = .clear ∧ (∀ d, d < 8 → d ≠ 0 → s.staged 8 d = []) ∧
       0 < SMap.get t.cru.deficit 0 (8 * 8 + 0) ∧
       s.getBank ((pktW 5 false).epoch == s.fwdEpoch) (R.CRU_MIRPORT 8) F.CRU_MIRPORT_EGR_EN = 0) ∧
    (let s := skipped (fun c => { c with unacked := [(8, [pktW 5 false])] })
     s.unacked 8 = [pktW 5 false] ∧ (pktW 5 false).cutting = false ∧ s.unacked 9 = []) := by decide +kernel
theorem test_tlp_dropped : after (exec (.tlpReceive 0 (write4 0x9000) false none) fabric2)
    (fun t => bitOf (t.bridge (upKey 0)).aerUnc 20 && t.cru.coqs == []) = true := by decide +kernel

/-! ### Fabric, faults, functions -/

/-- Member 2 is up behind port 4, an active cane port; fabric transport runs. -/
def fab2 (st : Nat) : State :=
  let s := ((State.reset.setBit R.FTX_CTL F.FTX_CTL_ENABLE).put (R.FTX_FIDSTAT 2) F.FTX_FIDSTAT_STATE st).setBit (R.PRT_OCTCFG 1) F.PRT_OCTCFG_MODE
  let s := (served (s.setLinkState 4 0x27)).setBit R.CRU_CTL F.CRU_CTL_ENABLE
  withAct [(R.FTX_FIDMAP 2, 1), (R.FTX_ROUTE 2, 4 + 2 ^ 32), (R.PRT_ROLE 4, ROLE.CANE)] s
/-- A packet for queue 9 of member 2. -/
def pktF : QPkt := { pkt 3 with dq := 2 * 65536 + 9 }
def del0 : Delivery := ⟨7, 0, 3, pktF, 0, 0, false, .reading, [], 0, false, 0, 2⟩
def sending (s : State) : State := { s with que := { s.que with dels := [del0] } }

theorem witness_FabricPacketsReportsAndProbes_sent :
    (let s := sending (fab2 MS.UP)
     s.del 7 = some del0 ∧ del0.phase = .reading ∧ s.flt.stopped = false ∧ s.goesRemote del0.pkt = true ∧
       (s.que.dels.takeWhile (fun y => y.id != 7)).any (fun y => y.q == del0.q && s.goesRemote y.pkt) = false ∧
       s.bit R.FTX_CTL F.FTX_CTL_ENABLE = true ∧ s.overTarget (del0.pkt.dq / 65536 % 16) 17 = some 2 ∧ 2 ≠ s.fid ∧
       s.isMember 2 = true ∧ s.memberState 2 = MS.UP ∧ s.fab.recs.length < 131072 ∧ (s.gobTurn (s.gobRanges pktF.gobs pktF.len)).isSome = true ∧
       s.routePort 2 = some 4 ∧ s.admissible (coqOfPort 4 (s.qTc del0.q)) (gobsOf (32 + del0.pkt.len)) = true ∧ s.gst.repl = [] ∧
       (∀ g ∈ del0.pkt.gobs, s.gstMapped (s.gobAddr g) = true)) ∧
    ((sending State.reset).isMember 2 = false ∧ (sending (fab2 MS.LOST)).memberState 2 = MS.LOST ∧
      (sending (fab2 MS.WAITING)).memberState 2 = MS.WAITING ∧ State.reset.del 7 = none) := by decide +kernel
theorem witness_FabricPacketsReportsAndProbes_read :
    (let s := sending (fab2 MS.UP)
     let r := ((s.gobTurn (s.gobRanges pktF.gobs pktF.len)).getD s).readChain (s.qOrigin 3 2) pktF.gobs pktF.len
     r.2.1 = true ∧ r.1.length = pktF.len) := by decide +kernel

/-- A train of a kind from member 2 stands at the head of the endpoint port's class 0, its bytes in cell 9. -/
def arrived2 (kind dstq mt : Nat) (payload : List Byte) (s : State) : State :=
  let bs := mkParison kind 2 0 1 0 dstq 0 0 mt 0 payload
  let x : Pkt := ⟨5, .train, .par bs, bs.length, 0, 4, 0, 0, 0, 2048, [9], 1, false, 0, 0⟩
  { s.store (MB.cell + 256 * 9) bs with cru := { s.cru with coqs := [(2048, [x])] } }
def seen (c kind : Nat) (s : State) : List Byte := match s.arrived c kind with
  | some x => s.cellData x.cells x.bytes
  | none => []

theorem witness_FabricPacketsReportsAndProbes_arrived :
    (let s := arrived2 PK.PACKET 9 0 [1, 2] (fab2 MS.UP)
     (s.arrived 0 PK.PACKET).isSome = true ∧ (s.arrived 0 PK.PACKET).map (fun x => parSrc x.data) = some 2 ∧ s.pbufFree < gobsOf 2 ∧
       parDstQ (seen 0 PK.PACKET s) = 9 ∧ enqStatus (s.shownState 9) = some ST.DEST_OFF ∧
       enqStatus ((s.setQstate 9 QS.ACTIVE).shownState 9) = none ∧ gobsOf 2 ≤ (s.put R.QUE_PBUF F.QUE_PBUF_PAGES 1).pbufFree ∧ s.flt.stopped = false ∧
       (let t := s.put R.QUE_PBUF F.QUE_PBUF_PAGES 1
        (t.gobTurn (t.gobRanges (t.pbufTake (gobsOf 2)).1 2)).isSome = true)) ∧
    (let s := arrived2 PK.REPORT 0 0 (leBytes 5 8) (fab2 MS.UP)
     (s.arrived 0 PK.REPORT).isSome = true ∧ (parPayload (seen 0 PK.REPORT s)).length = 8) ∧
    (let s := arrived2 PK.PROBE 0 0 (leBytes 3 8) (fab2 MS.UP)
     (s.arrived 0 PK.PROBE).isSome = true ∧ s.get (R.FTX_FIDSTAT 2) F.FTX_FIDSTAT_GEN_RX = parGen (seen 0 PK.PROBE s) ∧
       fieldOf (probeWord (seen 0 PK.PROBE s)) 0 32 = 3 ∧ bitOf (probeWord (seen 0 PK.PROBE s)) 36 = false ∧
       s.get (R.FTX_FIDSEQ 2) F.FTX_FIDSEQ_RX_EXPECT = 0) ∧
    (let s := withAct [(R.FTX_FIDMAP 5, 2 + 2 * 4)] (arrived2 PK.PROBE 0 0 (leBytes (5 * 2 ^ 32 + 2 ^ 36) 8) (fab2 MS.UP))
     bitOf (probeWord (seen 0 PK.PROBE s)) 36 = true ∧ fieldOf (probeWord (seen 0 PK.PROBE s)) 32 4 = 5 ∧
       s.bitAct (R.FTX_FIDMAP 5) F.FTX_FIDMAP_ALT_EN = true ∧ s.getAct (R.FTX_FIDMAP 5) F.FTX_FIDMAP_ALT_FID = 2) ∧
    (let s : State := { fab2 MS.UP with fab := { reports := [(2, [(1, ST.OK, 0)])] } }
     SMap.get s.fab.reports [] 2 ≠ [] ∧ s.admissible (coqOfPort 4 ctlPri) (gobsOf (32 + 8 * min 28 1)) = true ∧ s.cru.epHeld = [] ∧
       s.flt.stopped = false ∧ s.gst.repl = [] ∧ s.bit R.FTX_CTL F.FTX_CTL_ENABLE = true ∧ State.reset.bit R.FTX_CTL F.FTX_CTL_ENABLE = false) := by decide +kernel
theorem witness_FabricPacketsReportsAndProbes_repl :
    (let s := arrived2 PK.REPL 0 0x40 [7] (fab2 MS.UP)
     (s.arrived 0 PK.REPL).isSome = true ∧ parMeta (seen 0 PK.REPL s) % 2 ^ 37 = 0x40 ∧ parPayload (seen 0 PK.REPL s) = [7] ∧
       (s.gstAccess (mkOrigin 2 0 0 7 0) 0 0x40 (.write [7])).1 = .denied ∧
       (let g := s.gateOfGst 0x40
        let t := withAct [(R.GAT_RGNA g 0, 1 + 37 * 2), (R.GAT_RGNB g 0, 2)] (s.put (R.GAT_GSTAT g) F.GAT_GSTAT_BOOT 0)
        (t.gstAccess (mkOrigin 2 0 0 7 0) 0 0x40 (.write [7])).1 = .done ∧
        (({ t with gst := { t.gst with seqs := [(1, 5, ⟨0, 0, false⟩)] } } : State).gstAccess (mkOrigin 2 0 0 7 0) 0 0x40 (.write [7])).1 = .wait)) := by decide +kernel

theorem witness_FabricMembersRoutesAndTakeover :
    ((fab2 MS.LOST).memberState 2 ≠ MS.UP ∧ (fab2 MS.UP).memberState 2 = MS.UP) ∧
    (let s := State.reset.wr (R.FTX_FIDMAP 2) (1 + 8 * 2 ^ 6)
     (fqRange (s.rd (R.FTX_FIDMAP 2))).1 + (fqRange (s.rd (R.FTX_FIDMAP 2))).2 ≤ 65536 ∧
       s.bitAct (R.FTX_FIDMAP 2) F.FTX_FIDMAP_MEMBER = false ∧ s.trainStands 2 = false) ∧
    (let s := State.reset.wr (R.FTX_FIDMAP 2) (1 + 8 * 2 ^ 6 + 65535 * 2 ^ 16)
     65536 < (fqRange (s.rd (R.FTX_FIDMAP 2))).1 + (fqRange (s.rd (R.FTX_FIDMAP 2))).2) ∧
    (let x : Pkt := ⟨5, .train, .par (mkParison 1 0 2 0 0 0 0 0 0 0 []), 32, 0, 256, 0, 0, 0, 32, [9], 1, false, 0, 0⟩
     let s : State := { fab2 MS.UP with cru := { coqs := [(32, [x])] } }
     s.trainStands 2 = true) ∧
    (let s : State := { fab2 MS.UP with fab := { changes := [(2, true)], taking := [2] } }
     s.trainStands 2 = false ∧ s.fab.changes = [(2, true)] ∧ s.fab.taking.contains 2 = true ∧ State.reset.fab.taking.contains 2 = false) := by
  decide +kernel
theorem test_member_lost : after (exec (.fabMemberLost 2) (fab2 MS.UP)) (fun t => t.memberState 2 == MS.LOST && t.reports.length == 1) = true := by
  decide +kernel

/-- A port fault is reported. -/
def report1 : Report := ⟨FC.PORT_DOWN, UK.port, 5, 0, 7, 0, 0, false⟩
def opened (cls : Nat) : State :=
  { (State.reset.wr (R.FLT_RECA 1) (FC.PORT_DOWN + cls * 2 ^ 6 + 2 ^ 8 + UK.port * 2 ^ 12 + 5 * 2 ^ 16 + 2 ^ 32)) with reports := [report1] }

theorem witness_FaultsAreRecordedHeldClearedAndLifted :
    (let s : State := { State.reset with reports := [report1] }
     firstReport s.reports = some report1 ∧ report1.code < 64 ∧ s.classOf report1 = 2 ∧ s.recOf UK.port 5 = none ∧
       s.freeRecs = (List.range 64).tail ∧ holdable (report1.kind % 16) = true ∧ s.flt.reacting = [] ∧
       (let x : Report := ⟨FC.PCIE_CORR, UK.port, 5, 0, 7, 0, 0, false⟩
        s.classOf x = 1 ∧ ((s.setBit (R.FLT_CODECFG x.code) F.FLT_CODECFG_MUTE).bit (R.FLT_CODECFG x.code) F.FLT_CODECFG_MUTE = true)) ∧
       (let x : Report := ⟨FC.FW_FATAL, UK.module, 0, 0, 0, 0, 0, false⟩
        s.classOf x = 3 ∧ (∀ p, p < 256 → s.role p = ROLE.DISABLED))) ∧
    ((opened 2).recOf UK.port 5 = some 1 ∧ firstReport (opened 2).reports = some report1 ∧ (opened 2).classOf report1 ≠ 3) ∧
    (let s : State := { opened 2 with flt := { reacting := [(1, FC.PORT_DOWN)] } }
     s.flt.reacting.find? (fun e => e.1 == 1) = some (1, FC.PORT_DOWN) ∧ s.recKind 1 = UK.port ∧ s.recIndex 1 = 5 ∧ s.portHeld 5 = false ∧
       s.caneMode 5 = false ∧ s.noTraffic ∧ bitOf (SMap.get (s.bridge (s.portBridge 5)).raw 0 0x154) 19 = false ∧ s.recActive 1 = true ∧ s.recOpen 1 = true) ∧
    (let s : State := { State.reset.wr (R.FLT_RECA 0) (2 ^ 8) with flt := { stopped := true } }
     s.recOpen 0 = true ∧ s.flt.stopped = true ∧ s.widened = true ∧ State.reset.recOpen 0 = false ∧
       (s.setBit R.FLT_CTL F.FLT_CTL_FATAL_WAIT).bit R.FLT_CTL F.FLT_CTL_FATAL_WAIT = true) ∧
    ((opened 2).recActive 1 = false ∧ (opened 2).get (R.FLT_RECA 1) F.FLT_RECA_COUNT ≤ 1 ∧ (opened 2).bit (R.FLT_RECA 1) F.FLT_RECA_HELD = false) := by
  decide +kernel
theorem witness_FaultsAreRecordedHeldClearedAndLifted_commands :
    (State.reset.flt.norec = [] ∧
      (let s : State := { State.reset with flt := { norec := [(3, 9, FC.FW_HOLD)] } }
       s.flt.norec.find? (fun e => e.1 == (3 : BitVec 4).toNat && e.2.1 == (9 : BitVec 16).toNat) = some (3, 9, FC.FW_HOLD) ∧
         s.recOf 3 9 = none ∧ s.causeLives FC.FW_HOLD 3 9 = false)) ∧
    ((9 : BitVec 16).toNat < unitCount (1 : BitVec 4).toNat ∧ unitCount (0 : BitVec 4).toNat ≤ (9 : BitVec 16).toNat) ∧
    ((1 : BitVec 64).toNat % 4 ≠ 0 ∧ (1 : BitVec 64).toNat % 4 < lowClass FC.PORT_DOWN ∧ (2 : BitVec 64).toNat % 4 = 2 ∧
      lowClass FC.REG_WIDTH < 2 ∧ canHold FC.REG_WIDTH = false ∧ (16 : BitVec 64).toNat % 4 = 0) ∧
    (let s := ((opened 2).setBit (R.PRT_CTL 5) F.PRT_CTL_HOST_LIFT).setBit (R.PRT_STATUS 5) F.PRT_STATUS_HELD
     let t := (s.put (R.PRT_STATUS 5) F.PRT_STATUS_HOLD_SRC 1).setBit (R.FLT_RECA 1) F.FLT_RECA_HELD
     let u := t.setBridge (t.portBridge 5) { t.bridge (t.portBridge 5) with dpcTrig := false }
     t.bit (R.PRT_CTL 5) F.PRT_CTL_HOST_LIFT = true ∧ t.portHeld 5 = true ∧ t.get (R.PRT_STATUS 5) F.PRT_STATUS_HOLD_SRC = 1 ∧
       t.recOf UK.port 5 = some 1 ∧ (u.clearRec 1).portHeld 5 = false) ∧
    (let s := State.reset.setBit (R.GST_LOCKA 3) F.GST_LOCKA_VALID
     s.bit (R.GST_LOCKA 3) F.GST_LOCKA_VALID = true ∧ s.bit (R.GST_LOCKA 3) F.GST_LOCKA_EXPIRED = false ∧
     State.reset.bit (R.GST_LOCKA 3) F.GST_LOCKA_VALID = false) ∧
    (let s : State := { State.reset with que := { locks := [(6, some ⟨9, 100, false⟩)] } }
     SMap.get s.que.locks none 6 = some ⟨9, 100, false⟩) ∧
    ((State.reset.setClaim (mbxFrame 5 false) (some ⟨9, 100, false⟩)).claimOf (mbxFrame 5 false) = some ⟨9, 100, false⟩) := by decide +kernel
theorem test_record_opens : after (exec .faultRecord { State.reset with reports := [report1] })
    (fun t => t.recOpen 1 && t.recKind 1 == UK.port && t.recIndex 1 == 5 && t.reports == [] && t.rd (R.FLT_RECB 1) == 2 ^ FC.PORT_DOWN) = true := by
  decide +kernel

theorem witness_FunctionsAreResetAttachedAndConfigured :
    (let s := State.reset.setBit R.RST_CTL F.RST_CTL_SYSTEM_READY
     s.flrActive 3 = false ∧ s.rst.quench = 0 ∧ s.widened = false ∧ State.reset.widened = true ∧ s.cmd.jobs = [] ∧
       (s.setBit (R.QEP_FNSTAT 3) F.QEP_FNSTAT_FLR_ACTIVE).flrActive 3 = true) ∧
    (let s := withAct [(R.PTN_CFG 5, 1)] State.reset
     s.bitAct (R.PTN_CFG 5) F.PTN_CFG_EN = true ∧ s.bit (R.QEP_VFMAP 3) F.QEP_VFMAP_ATTACHED = false ∧ 5 ≠ s.mgmtPt ∧
       ((s.vfsIn 5).map s.vfPlace).contains (0, 0) = false ∧ State.reset.bitAct (R.PTN_CFG 5) F.PTN_CFG_EN = false ∧
       (let t := s.wr (R.QEP_VFMAP 3) (1 + 5 * 4)
        t.bit (R.QEP_VFMAP 3) F.QEP_VFMAP_ATTACHED = true ∧ t.flrActive 3 = false ∧
          (t.vfsIn (t.get (R.QEP_VFMAP 3) F.QEP_VFMAP_PT)).any (fun x => x != 3) = false)) ∧
    ((State.reset.fn 0).vfEn = false ∧ ((State.reset.setFn 0 { vfEn := true }).fn 0).vfEn = true) ∧
    (State.reset.nodeReady 4 = true) ∧
    (let s := (State.reset.put R.QEP_STATUS F.QEP_STATUS_TRIM_WAIT 0).put R.QUE_STATUS F.QUE_STATUS_TRIM_WAIT 0
     s.ptInReset 0 = false ∧ s.cfgNotReady 0 = false ∧ State.reset.cfgNotReady 0 = true ∧ s.fnAt 0 0 = some 0 ∧ s.flrActive 0 = false ∧
       s.cfgOpen 0 (4 * 0) = 0 ∧ s.cfgRead 0 0 (4 * 1) < 2 ^ 32 ∧ (s.bridgeRead 0 .up (4 * 3)).1 = 2 ^ 16 ∧ s.bridgeAt 0 0 = some .up ∧
       (let t := (s.setBridge (upKey 0) { sec := 1, sub := 2 }).setBridge (epKey 0) { sec := 2, sub := 2 }
        t.bridgeAt 0 512 = none ∧ t.fnAt 0 512 = some 0 ∧ t.cfgNotReady 0 = false) ∧
       (withAct [(R.PTN_CFG 0, 1)] s).bridgeExists 0 .up = true) := by decide +kernel
theorem witness_FunctionsAreResetAttachedAndConfigured_queues : (State.reset.setBit R.RST_CTL F.RST_CTL_SYSTEM_READY).ownQueues 3 = [] ∧
    (∀ k, k < 4096 → (State.reset.wr (R.QEP_VFMAP 3) (1 + 5 * 4)).qOwnerFn (16 * k) ≠ 3) ∧ (∀ pt : Nat, pt ≠ 0 → State.reset.fnAt pt 0 = none) := by
  have h (s : State) (q : Nat) (hq : q < 65536)
      (hs : s.regs.all (fun e => decide (e.1 < 0x200000000) || decide (0x200400000 ≤ e.1)) = true) : s.qOwnerFn q = 0 := by
    have e : s.rd (R.QCTX q 0) = 0 := by
      rw [State.rd, get_outside _ 0x200000000 0x200400000 _ (by simp only [R.QCTX]; omega) (by simp only [R.QCTX]; omega) hs]
      simp [R.QCTX, Nat.xor]
    rw [State.qOwnerFn, State.get, e]; decide
  refine ⟨?_, ?_, ?_⟩
  · rw [State.ownQueues, State.queuesWhere, List.filter_eq_nil_iff]
    intro q hq
    rw [h _ q (List.mem_range.mp hq) (by decide)]; simp
  · intro k hk
    rw [h _ _ (by omega) (by decide)]; decide
  · intro pt hp
    have h0 : State.reset.mgmtPt = 0 := by decide
    have hv (f : Nat) : State.reset.vfExists f = false := rfl
    have e : State.reset.fnsOf pt = [] := by
      rw [State.fnsOf, List.filter_eq_nil_iff]
      intro f _
      by_cases hf : f = 0
      · simp [State.fnPt, hf, h0, Ne.symm hp]
      · simp [State.fnPt, hf, hv]
    rw [State.fnAt, e]; rfl
theorem test_vf_enable : after (exec .vfEnableSet State.reset) (fun t => (t.fn 0).vfEn && t.bit R.QEP_STATUS F.QEP_STATUS_ARI_ERR) = true := by
  decide +kernel

/-! ### Partitions and lanes -/

/-- SYSTEM_READY is set, so that resets keep their own reach. -/
def ready0 : State := State.reset.setBit R.RST_CTL F.RST_CTL_SYSTEM_READY

/-- No function is in its reset in a state whose registers of that block stand at their reset values. -/
theorem no_flr (s : State) (h : s.regs.all (fun e => decide (e.1 < 0xD20000) || decide (0xD30000 ≤ e.1)) = true) :
    ∀ f, f < 4097 → s.flrActive f = false := by
  intro f hf
  have e : s.rd (R.QEP_FNSTAT f) = 0 := by
    rw [State.rd, get_outside _ 0xD20000 0xD30000 _ (by simp only [R.QEP_FNSTAT]; omega) (by simp only [R.QEP_FNSTAT]; omega) h]
    simp [R.QEP_FNSTAT, Nat.xor]
  rw [State.flrActive, State.bit, State.get, e]; decide

theorem witness_PartitionsAreResetReleasedAndContained :
    (ready0.noTraffic ∧ ready0.noLeases ∧ ready0.rst.quench = 0 ∧ ready0.widened = false ∧ ready0.upPort 5 = none ∧ ready0.downPorts 5 = [] ∧
      ready0.get (R.PTN_STATE 5) F.PTN_STATE_RST_SRC = 0 ∧ bitOf 0 RS.FUND = false ∧ bitOf 0 RS.PERST = false ∧ State.reset.widened = true) ∧
    (let s : State := (List.range 64).foldl (fun s pt => if pt = 5 then s else s.put (R.PTN_CFG pt) F.PTN_CFG_PERST_SEL 2) ready0
     let t : State := s.put (R.PTN_CFG 5) F.PTN_CFG_PERST_SEL 3
     SMap.get t.prt.perst 0 3 ≠ 1 ∧ t.perstParts 3 = [5] ∧ t.perstParts 4 = []) ∧
    (SMap.get ready0.prt.fundCmd 0 5 = 0 ∧
      (let s : State := { ready0.put (R.PTN_STATE 5) F.PTN_STATE_RST_SRC 2 with prt := { fundCmd := [(5, 1)], perst := [(3, 1)] } }
       SMap.get s.prt.fundCmd 0 5 ≠ 0 ∧ s.get (R.PTN_STATE 5) F.PTN_STATE_RST_SRC = 2 ∧ SMap.get s.prt.perst 0 3 = 1)) ∧
    (fabric2.role 0 = ROLE.UPSTREAM ∧ fabric2.role 8 = ROLE.DOWNSTREAM ∧ fabric2.bit (R.PRT_STATUS 0) F.PRT_STATUS_LINK_UP = true ∧
      (let s := fabric2.setBridge (fabric2.portBridge 8) { fabric2.bridge (fabric2.portBridge 8) with dpcEn := true }
       (s.bridge (s.portBridge 8)).dpcEn = true ∧ s.portHeld 8 = false ∧ s.caneMode 8 = false ∧ s.noTraffic ∧
         bitOf (SMap.get (s.bridge (s.portBridge 8)).raw 0 0x154) 19 = false)) ∧
    (let s := withAct [(R.PTN_CFG 0, 1)] fabric2
     s.bridgeExists 0 .up = true ∧ s.cfgNotReady 0 = true ∧
       (((s.put R.QEP_STATUS F.QEP_STATUS_TRIM_WAIT 0).put R.QUE_STATUS F.QUE_STATUS_TRIM_WAIT 0).put (R.PRT_STATUS 0) F.PRT_STATUS_TRIM_WAIT 0).cfgNotReady 0
         = false ∧ (s.bridge (refKey 0 .up)).sbr = false ∧ State.reset.bridgeExists 0 .up = false ∧ BridgeField.mps 1 ≠ .sbr true ∧
       s.bit (R.GAF_EPSTAT 0) F.GAF_EPSTAT_COMMIT_PEND = false ∧ bridgeRoutes (.bus 0 1 9) = true ∧ bridgeRoutes (.mps 1) = false ∧
       (s.setBit (R.PTN_STATE 0) F.PTN_STATE_IN_RESET).ptInReset 0 = true) := by decide +kernel
theorem witness_PartitionsAreResetReleasedAndContained_functions :
    (∀ f, f < 4097 → ready0.flrActive f = false) ∧ ready0.fnsOf 5 = [] := by
  refine ⟨no_flr _ (by decide), ?_⟩
  have h0 : ready0.mgmtPt = 0 := by decide
  have hv (f : Nat) : ready0.vfExists f = false := rfl
  rw [State.fnsOf, List.filter_eq_nil_iff]
  intro f _
  by_cases hf : f = 0
  · simp [State.fnPt, hf, h0]
  · simp [State.fnPt, hf, hv]
theorem test_fund_release_refused : after (exec (.ptnFundRelease 5) ready0) (fun t => t.bit R.PTN_STATUS F.PTN_STATUS_BADCMD) = true := by
  decide +kernel

/-- Port 0 of an x8 octet as a PCI Express port, its lanes out of reset. -/
def pcie0 : State :=
  let s := ((State.reset.put R.RST_DOMAIN F.RST_DOMAIN_IN_RESET 0).put (R.PRT_OCTCFG 0) F.PRT_OCTCFG_SPLIT 1).setBit (R.PRT_CTL 0) F.PRT_CTL_ENABLE
  (s.setBit R.EMB_STATUS F.EMB_STATUS_REFCLK_OK).setLinkState 0 LS.L0

/-- Lane 2 of octet 0 before and during an exit from STANDBY, and what holds its error slicer. -/
def sleepy (x : Nat) : State :=
  let s := pcie0.setPwr 2 false PWR.STANDBY
  { s with lnk := { exiting := if x = 0 then [] else [(4, x)] } }
def slicing (v : Nat) : State := { State.reset with lnk := { slicer := [(2, v)] } }
/-- Port 0 of an x8 octet in cane mode whose spare serves it, with a re-trim in a stage. -/
def retrimming (st : Nat) : State :=
  ((link 0x27 {}).setBit (R.LNE_OCTCTL 0) F.LNE_OCTCTL_SPARE_EN).put (R.LNE_RETRIMSTAT 0) F.LNE_RETRIMSTAT_STATE st
/-- Octet 0 with a split that uses no controller. -/
def idle0 : State := State.reset.put (R.PRT_OCTCFG 0) F.PRT_OCTCFG_SPLIT 0
theorem witness_LanesChangePowerAdaptFailRetrimAndMargin :
    ((sleepy 0).laneOff 2 = false ∧ (sleepy 0).exitOf 2 false = 0 ∧ (sleepy 0).pwr 2 false = PWR.STANDBY ∧
      ((sleepy 0).setPwr 2 false PWR.OFF).pwr 2 false = PWR.OFF ∧
      ((sleepy 0).setPwr 2 false PWR.ACTIVE).pwr 2 false = PWR.ACTIVE ∧ (sleepy 1).exitOf 2 false = 1 ∧ (sleepy 4).exitOf 2 false = 2 + 2 ∧
      idle0.laneOff 2 = true) ∧
    ((List.range 16).length = 16 ∧ (withAct [(R.LNE_CTL 0 2, (putField 0 F.LNE_CTL_CTLE_OVR.lo 1 1))] State.reset).bitAct (R.LNE_CTL 0 2) F.LNE_CTL_CTLE_OVR = true ∧
      State.reset.bitAct (R.LNE_CTL 0 2) F.LNE_CTL_CTLE_OVR = false ∧ idle0.laneOwner 2 = none ∧ pcie0.laneOwner 2 = some 0 ∧
      pcie0.background 2 = false ∧ ((pcie0.setPwr 2 false 0).setAdapted 2 true).background 2 = true ∧ pcie0.pam4 0 = false ∧
      (pcie0.put (R.PRT_LINKSTAT 0) F.PRT_LINKSTAT_RATE 5).pam4 0 = true ∧ pcie0.linkState 0 ≠ CN.EQ ∧ pcie0.linkState 0 ≠ CN.RETRAIN ∧ (pcie0.setPwr 2 false 0).pwr 2 false = PWR.ACTIVE ∧
      pcie0.bit R.EMB_STATUS F.EMB_STATUS_REFCLK_OK = true) ∧
    (let s := (((link 0x27 {}).setBit (R.LNE_OCTCTL 0) F.LNE_OCTCTL_SPARE_WARM).setRxSub 0 15).setPwr 8 false PWR.STANDBY
     s.octetCane 0 = true ∧ s.bit (R.LNE_OCTCTL 0) F.LNE_OCTCTL_SPARE_WARM = true ∧ s.rxSub 0 = 15 ∧ s.pwr 8 false = PWR.STANDBY) ∧
    (State.reset.bit (R.LNE_STAT 0 2) F.LNE_STAT_LOCK = false ∧ (idle0.setBit (R.LNE_STAT 0 2) F.LNE_STAT_LOCK).laneOwner 2 = none ∧
      (let s := pcie0.setBit (R.LNE_STAT 0 2) F.LNE_STAT_LOCK
       s.bit (R.LNE_STAT 0 2) F.LNE_STAT_LOCK = true ∧ s.laneOwner 2 = some 0 ∧ s.caneMode 0 = false ∧ s.linkState 0 = LS.L0) ∧
      (let s := link 0x27 { peerStby := true }
       s.bit (R.LNE_STAT 0 0) F.LNE_STAT_LOCK = true ∧ s.laneOwner 0 = some 0 ∧ s.caneMode 0 = true ∧ (s.cane 0).peerStby = true) ∧
      State.reset.slicer 2 = 0 ∧ SMap.get State.reset.lnk.winCnt 0 2 = 0 ∧ 0 ≤ State.reset.get (R.LNE_FAILCFG 0) F.LNE_FAILCFG_FAIL_THRESH ∧
      State.reset.get (R.LNE_FAILCFG 0) F.LNE_FAILCFG_FAIL_THRESH < 65537) := by decide +kernel
theorem witness_LanesChangePowerAdaptFailRetrimAndMargin_runs :
    (State.reset.retrimRefused 0 3 = true ∧ ((retrimming 0).setRxSub 0 15).retrimRefused 0 3 = false ∧ (retrimming 1).retrimRuns 0 = true ∧
      ((retrimming 0).setRxSub 0 15).laneOff 8 = false ∧ ((retrimming 0).setRxSub 0 15).pwr 8 false ≠ PWR.ACTIVE ∧
      (retrimming 0).retrimRuns 0 = false ∧ (retrimming 1).laneOwner 8 = some 0 ∧ (retrimming 1).retrim 0 = 1 ∧ (retrimming 2).retrim 0 = 2 ∧
      (let s := (retrimming 5).put (R.LNE_RETRIMSTAT 0) F.LNE_RETRIMSTAT_LANE 3
       let t := (List.range 9).foldl (fun s i => s.put (R.LNE_STAT 0 i) F.LNE_STAT_LOGICAL 1) s
       t.retrim 0 = 5 ∧ t.checkLane 0 = none ∧ t.get (R.LNE_RETRIMSTAT 0) F.LNE_RETRIMSTAT_LANE = 3 ∧ (t.setRxSub 0 15).rxSub 0 = 15)) ∧
    ((slicing 1).exitOf 2 false = 0 ∧ (sleepy 1).exitOf 2 false ≠ 0 ∧ (slicing 1).slicer 2 = 1 ∧ (slicing 2).slicer 2 = 2 ∧ (slicing 0).slicer 2 = 0) ∧
    (pcie0.caneMode 0 = false ∧ pcie0.portUsed 0 = true ∧ idle0.portUsed 0 = false ∧ pcie0.bit (R.PRT_CTL 0) F.PRT_CTL_ENABLE = true ∧
      pcie0.portHeld 0 = false ∧ pcie0.blockReset 7 = false ∧
      (let s := pcie0.put (R.PRT_STATUS 0) F.PRT_STATUS_TRIM_WAIT 0
       s.bit (R.PRT_STATUS 0) F.PRT_STATUS_TRIM_WAIT = false ∧ s.pcieRefused 0 ⟨LS.L0, 0, 8, 8, false, false, 0, [], false, false⟩ = false ∧
         s.bit (R.PRT_STATUS 0) F.PRT_STATUS_LINK_UP = false ∧ pcieWidth (s.confWidth 0) 12 = 8 ∧
         s.pcieRefused 0 ⟨0x05, 0, 8, 8, true, false, 0, [], true, false⟩ = true) ∧ pcie0.linkState 0 = LS.L0 ∧ State.reset.linkState 0 ≠ LS.L0 ∧
      (let s := fabric2
       s.caneMode 8 = false ∧ s.role 8 = ROLE.DOWNSTREAM ∧ s.bit (R.PRT_STATUS 8) F.PRT_STATUS_LINK_UP = true ∧ s.portHeld 8 = false ∧ s.noTraffic ∧
         bitOf (SMap.get (s.bridge (s.portBridge 8)).raw 0 0x154) 19 = false)) ∧
    ((link 0x27 {}).caneMode 0 = true ∧ (link 0x27 {}).linkState 0 = CN.ACTIVE ∧ ((link 0x27 {}).cane 0).ownRetrain = none ∧
      (link 0x27 {}).bit (R.PRT_CTL 0) F.PRT_CTL_ENABLE = true ∧
      ((link 0x27 {}).put (R.PRT_CTL 0) F.PRT_CTL_ENABLE 0).bit (R.PRT_CTL 0) F.PRT_CTL_ENABLE = false) := by decide +kernel
theorem test_margin_busy : after (exec (.marginRun 0 2) (slicing 3)) (fun t => t.bit (R.LNE_MARGRES 0 2) F.LNE_MARGRES_BUSY && t.slicer 2 == 3) = true := by
  decide +kernel
theorem test_lane_exit : after (exec (.lanePowerExitDone 0 2 false) (sleepy 4)) (fun t => t.pwr 2 false == 2 && SMap.get t.lnk.exiting 0 4 == 0) = true := by
  decide +kernel

/-! ### Queues, scheduler, side bridge, registers -/

/-- Word 0 of a doorbell of 4 inline bytes, tag 7, and the doorbell. -/
def dbell : List Byte := leBytes (1 + 2 ^ 8 + 4 * 2 ^ 16 + 7 * 2 ^ 32) 8 ++ List.replicate 24 0 ++ [1, 2, 3, 4]
/-- Queue 3 of the PF in a state; the queue engine runs. -/
def queue3 (st : Nat) : State := ((((State.reset.setBit R.QUE_CTL F.QUE_CTL_ENABLE).setQstate 3 st).put (R.QCTX 3 0) F.QCTX_INLINE_MAX 64).put (R.QCTX 3 2) F.QCTX_SQ_MAX 8).setFn 0
  { mse := true }
def desc0 (ph : DescPhase) (inl : Bool) : Desc := ⟨5, 3, inl, true, 4, 7, 0x1000, 0, 0, [1, 2, 3, 4], ph, [0], if ph = .fetching then [⟨0, 0, 4, true⟩] else []⟩
def holding (d : Desc) : State := (served ((queue3 QS.ACTIVE).put R.QUE_PBUF F.QUE_PBUF_PAGES 1)).setDescs 3 [d]

theorem witness_DescriptorsAreAcceptedAndTheirPayloadsFetched :
    (let s := queue3 QS.ACTIVE
     s.flt.stopped = false ∧ State.reset.bit R.QUE_CTL F.QUE_CTL_ENABLE = false ∧ s.bit R.QUE_CTL F.QUE_CTL_ENABLE = true ∧ s.ownsPage 0 3 = true ∧ s.decodes 0 = true ∧ State.reset.decodes 0 = false ∧ s.ownsPage 5 3 = false ∧ s.ptShut 0 = false ∧
       dbFormatOk 4 dbell true = false ∧ dbFormatOk 0 dbell true = true ∧ s.ownerShut 3 = false ∧ s.flrActive 0 = false ∧
       (queue3 QS.HELD).qstate 3 = QS.HELD ∧ (queue3 QS.FROZEN).qstate 3 = QS.FROZEN ∧ s.qstate 3 = QS.ACTIVE ∧
       badDesc dbell (s.get (R.QCTX 3 0) F.QCTX_INLINE_MAX) = false ∧ s.que.slotsUsed < 65536 ∧
       s.get (R.QCTX 3 3) F.QCTX_SQ_USED < s.get (R.QCTX 3 2) F.QCTX_SQ_MAX) ∧
    (let s := holding (desc0 .waiting true)
     (s.descs 3).find? (fun d => d.phase == .waiting) = some (desc0 .waiting true) ∧ fetches (s.qstate 3) = true ∧
       s.get (R.QCTX 3 0) F.QCTX_PBUF_MAX = 0 ∧ gobsOf 4 ≤ s.pbufFree ∧ s.que.wait = [] ∧ (s.descs 3).find? s.fetchResumes = none ∧ s.flt.stopped = false ∧
       s.gobTurn (s.gobRanges (s.pbufTake 1).1 4) ≠ none ∧ (s.put R.GST_CTL F.GST_CTL_ENABLE 0).gobTurn (s.gobRanges (s.pbufTake 1).1 4) = none ∧
       s.gstMapped (s.gobAddr 0) = true ∧ ((s.pbufTake 1).1 = [0]) ∧
       (s.put R.QUE_PBUF F.QUE_PBUF_PAGES 0).pbufFree < gobsOf 4) ∧
    (let s := (holding (desc0 .waiting false)).setFn 0 { mse := true, bme := true }
     (s.descs 3).find? (fun d => d.phase == .waiting) = some (desc0 .waiting false) ∧ (desc0 .waiting false).len ≠ 0 ∧ s.canMaster (s.qOwnerFn 3) = true ∧ s.fetchEngines < 512 ∧
       s.upPort (s.qOwnerPt 3) = none ∧ (withAct [(R.PRT_ROLE 0, ROLE.UPSTREAM)] s).upPort (s.qOwnerPt 3) = some 0) ∧
    (let s := holding (desc0 .fetching false)
     (s.descs 3).find? (fun x => x.id == 5) = some (desc0 .fetching false) ∧
       (desc0 .fetching false).reads.find? (fun y => y.no == 0 && y.issued) = some ⟨0, 0, 4, true⟩ ∧ s.err = [] ∧
       s.gobTurn ((s.fetchPieces [0] 0 [1, 2, 3, 4]).map (fun e => (e.1, e.2.length))) ≠ none ∧
       (s.put R.GST_CTL F.GST_CTL_ENABLE 0).gobTurn ((s.fetchPieces [0] 0 [1, 2, 3, 4]).map (fun e => (e.1, e.2.length))) = none ∧
       (s.descs 3).find? (fun x => x.id == 6) = none ∧ SMap.get s.prt.abandoned 0 0 = 0 ∧
       (desc0 .fetching false).gobs.all (fun g => s.gstMapped (s.gobAddr g)) = true ∧
       (desc0 .fetching false).reads.filter (fun z => z.no != 0) = [] ∧ (s.fnShared (s.qOwnerFn 3)).ctoDis = false ∧
       ((s.setFn 0 { ctoDis := true }).fnShared (s.qOwnerFn 3)).ctoDis = true) ∧
    (let d := { desc0 .fetching false with reads := [⟨0, 0, 4, false⟩] }
     let s := holding d
     (s.descs 3).find? s.fetchResumes = some d ∧ fetches (s.qstate 3) = true ∧ s.flt.stopped = false) := by decide +kernel
theorem test_doorbell : after (exec (.doorbellWrite 0 3 0 dbell true) (queue3 QS.ACTIVE))
    (fun t => (t.descs 3).map (fun d => (d.inl, d.len, d.tag, d.inlData)) == [(true, 4, 7, [1, 2, 3, 4])] && t.que.slotsUsed == 1) = true := by decide +kernel

def delivering (ph : DelPhase) : State :=
  let s := ((served State.reset).setBit R.CRU_CTL F.CRU_CTL_ENABLE).setFn 0 { mse := true, bme := true }
  withAct [(R.PRT_ROLE 0, ROLE.UPSTREAM)] { s with que := { s.que with dels := [⟨7, 0, 3, pkt 3, 0, 1, false, ph, [], 0, false, 0, 2⟩] } }

theorem witness_RequestsAreDispatchedAndPacketsDelivered :
    (let s := holding (desc0 .whole true)
     let t := s.setJack 0 true
     s.descs 3 = [desc0 .whole true] ∧ fetches (s.qstate 3) = true ∧ t.freeLane = some 0 ∧
       (lane0 {}).bitAct (R.JCK_SLOT 0) F.JCK_SLOT_VALID = true ∧ (lane0 {}).getAct (R.JCK_SLOT 0) F.JCK_SLOT_LEN ≠ 0 ∧
       s.bitAct (R.JCK_SLOT 0) F.JCK_SLOT_VALID = false ∧
       ((List.range 8).foldl (fun s g => s.setJack g false) s).freeLane = none ∧ s.que.wakeJack = none) ∧
    (let s := delivering .reading
     s.del 7 = some ⟨7, 0, 3, pkt 3, 0, 1, false, .reading, [], 0, false, 0, 2⟩ ∧ s.flt.stopped = false ∧ s.goesRemote (pkt 3) = false ∧
       s.gobTurn (s.gobRanges (pkt 3).gobs (pkt 3).len) ≠ none ∧ s.err = [] ∧ (pkt 3).gobs.all (fun g => s.gstMapped (s.gobAddr g)) = true) ∧
    (let s := delivering .writing
     (s.del 7).isSome = true ∧ s.que.dels.takeWhile (fun y => y.id != 7) = [] ∧ s.upPort (s.qOwnerPt 3) = some 0 ∧ s.portHeld 0 = false ∧
       s.canMaster (s.qOwnerFn 3) = true ∧ s.admissible (coqOfPort 0 (s.qTc 3)) 1 = true ∧ (s.put R.CRU_CTL F.CRU_CTL_ENABLE 0).admissible (coqOfPort 0 (s.qTc 3)) 1 = false) ∧
    (let s : State := { (delivering .reading).wrAct (R.QUE_IRQCFG 3) (4 * 2 ^ F.QUE_IRQCFG_MOD_TIME.lo) with que := { rxMod := [(3, 1)] } }
     let u := s.setFn 0 { bme := true, msixEn := true }
     SMap.get s.que.rxMod 0 3 = 1 ∧ SMap.get s.que.cqMod 0 3 = 0 ∧ s.getAct (R.QUE_IRQCFG 3) F.QUE_IRQCFG_MOD_TIME ≠ 0 ∧ s.portHeld 0 = false ∧
       s.getAct (R.QUE_IRQCFG 3) F.QUE_IRQCFG_RX_VEC < msixVectors (s.qOwnerFn 3) ∧ s.fnPt (s.qOwnerFn 3) = some 0 ∧ s.msixBlocked 0 0 = true ∧
       (u.wr (R.MSIX 0 0 1) 0).msixBlocked 0 0 = false ∧ s.upPort 0 = some 0 ∧ s.cru.epHeld = []) := by decide +kernel

theorem witness_QueuesChangeStateByCommandAndLock :
    ((∀ c ∈ named 3 false, (queue3 QS.ACTIVE).qstate c ∈ [QS.ACTIVE] ∧ (queue3 QS.ACTIVE).lockedOut c 0 = false) ∧
      (∀ c ∈ named 3 true, State.reset.qstate c ∈ [QS.DISABLED, QS.FROZEN, QS.DRAINED] ∧ State.reset.lockedOut c 0 = false) ∧
      State.reset.qstate 3 ∉ [QS.ACTIVE] ∧ (queue3 QS.HELD).qstate 3 ∈ [QS.ACTIVE, QS.FROZEN, QS.DRAINING, QS.HELD] ∧
      (queue3 QS.DRAINING).drainDone 3 = true ∧ (queue3 QS.ACTIVE).drainDone 3 = false) ∧
    (let s := (State.reset.put R.QUE_CTXSEL F.QUE_CTXSEL_QUEUE 3).wr (R.QUE_CTXDATA 2) 4096
     let w0 := s.rd (R.QUE_CTXDATA 0)
     s.get R.QUE_CTXSEL F.QUE_CTXSEL_QUEUE = 3 ∧ s.qstate 3 = QS.DISABLED ∧ fieldOf w0 28 7 ≤ 96 ∧
       fieldOf (s.rd (R.QUE_CTXDATA 2)) 0 13 = 4096 ∧ fieldOf (s.rd (R.QUE_CTXDATA 1)) 20 14 ≤ 16383 ∧
       4096 < fieldOf ((s.wr (R.QUE_CTXDATA 2) 4097).rd (R.QUE_CTXDATA 2)) 0 13) ∧
    (State.reset.qlock 3 = none ∧ (State.reset.setQlock 3 (some ⟨9, 100, false⟩)).qlock 3 = some ⟨9, 100, false⟩) := by decide +kernel
theorem test_freeze : after (exec (.queueFreeze 0 3 false) (queue3 QS.ACTIVE)) (fun t => t.qstate 3 == QS.FROZEN) = true := by decide +kernel
theorem test_lock : after (exec (.queueLockAcquire 9 3 100) (queue3 QS.ACTIVE)) (fun t => t.qlock 3 == some ⟨9, 100, false⟩) = true := by decide +kernel

/-- Queue 3 with a packet under open nodes below port node 0 with credit. -/
def tree0 : State :=
  let s := (((queue3 QS.ACTIVE).setFn 0 { bme := true }).setBit R.SCH_CTL F.SCH_CTL_ENABLE).setPortCredit 0 5
  let en := 2 ^ F.SCH_NODECFG_EN.lo + 2 ^ F.SCH_NODECFG_WEIGHT.lo
  let s := withAct [(R.SCH_NODECFG 0, en), (R.SCH_NODECFG (svcNode 0), en), (R.SCH_NODECFG (portNode 0), en), (R.PRT_ROLE 0, ROLE.UPSTREAM)] s
  (s.setLinked 3 [pkt 3]).activate 3
def dec0 : Decision := ⟨0, 0, svcNode 0, 0, 3, 1, 300, [], 0⟩
def decided : State := { tree0 with que := { tree0.que with decs := [dec0] } }

theorem witness_TheSchedulerDecidesNamesAndRefills :
    (State.reset.bit R.SCH_CTL F.SCH_CTL_ENABLE = false ∧ State.reset.nextPortNode 0 = none ∧ tree0.bit R.SCH_CTL F.SCH_CTL_ENABLE = true ∧
      tree0.flt.stopped = false ∧ tree0.nextPortNode 0 = some 0) ∧
    (let s0 : State := { tree0 with sch := { tree0.sch with served := SMap.set tree0.sch.served 0 0 1 } }
     let a := s0.selectChild (portNode 0) (fun c => s0.svcEligible (c - 65536))
     let b := a.2.selectChild (svcNode 0) (fun c => a.2.subEligible (c - 65536))
     let c := b.2.selectChild 0 b.2.queueEligible
     a.1 = some (65536 + svcNode 0) ∧ b.1 = some 65536 ∧ c.1 = some 3 ∧ c.2.nextOf 3 = some (pkt 3)) ∧
    (decided.que.decs.find? (fun d => d.pipe == 0) = some dec0 ∧ (∀ e ∈ dec0.charged, e.1 < nodeCount) ∧
      (decided.linked 3).find? (fun p => p.id == 1) = some (pkt 3) ∧ decided.qstate 3 ≠ QS.HELD ∧ decided.dequeueDrop dec0 (pkt 3) = some ST.DEST_OFF ∧
      (decided.setBit (R.QUE_RXCFG 3) F.QUE_RXCFG_RX_EN).dequeueDrop dec0 (pkt 3) = none ∧ decided.pathOk { dec0 with pnode := 9 } (pkt 3) = false ∧
      (decided.setBit (R.QUE_RXCFG 3) F.QUE_RXCFG_RX_EN).cannotDeliver dec0 (pkt 3) = false ∧
      (let s := (decided.setBit (R.QUE_RXCFG 3) F.QUE_RXCFG_RX_EN)
       let t : State := { s with que := { s.que with dels := List.replicate 512 ⟨7, 0, 9, pkt 9, 0, 1, false, .reading, [], 0, false, 0, 2⟩ } }
       t.dequeueDrop dec0 (pkt 3) = none ∧ t.cannotDeliver dec0 (pkt 3) = true) ∧
      (decided.setLinked 3 []).linked 3 = []) := by decide +kernel
theorem test_decision : after (exec (.dequeueDecision 0) tree0)
    (fun t => t.que.decs.map (fun d => (d.queue, d.pktId, d.len)) == [(3, 1, 300)] && t.portCredit 0 == 3) = true := by decide +kernel

/-- Side region 0 over 0x0 to 0xFF, and a side bus request at its head. -/
def sided : State := ((State.reset.wr (R.LTH_RGN 0) 1).setBit R.LTH_CTL F.LTH_CTL_ENABLE).put R.RST_DOMAIN F.RST_DOMAIN_IN_RESET 0
def sreq (run : Bool) : SideReq := ⟨4, false, 0x40, 4, 0, 0, .host ⟨0, 0, 0⟩, 0, 1, 1, false, 0, run, false⟩
def sideQ (run : Bool) : State := { sided with lth := { reqs := [sreq run], nextId := 5 } }

theorem witness_SideAccessesAreQueuedTransferredAndAnswered :
    (State.reset.sideDecode 0x40 4 = none ∧ sided.sideDecode 0x40 4 = some (0, 1, 1) ∧ sided.sideTags ≠ 0 ∧ bitOf 1 41 = false ∧
      (let v := 1 + 2 ^ 41
       let s : State := { sided.wr (R.LTH_RGN 0) v with lth := { pref := [⟨0, 8, 77, 0⟩] } }
       s.sideDecode 0x40 4 = some (0, v, 1) ∧ bitOf v 41 = true ∧ s.prefHit 0x40 4 = some ⟨0, 8, 77, 0⟩) ∧
      (let s : State := { sided with lth := { reqs := List.replicate 32 (sreq false), nextId := 5 } }
       s.sideTags = 0)) ∧
    ((let s := sided.setFn 0 { mse := true }
      (s.gateArrive gateSide 0x40 4 AK.read (s.masterOrigin (.host 0 ⟨0, 0, 0⟩)) (sideOf (.host 0 ⟨0, 0, 0⟩)).no).1 = true ∧
        (s.gateArrive gateSide 0x40 4 AK.write (s.masterOrigin (.core 0)) (sideOf (.core 0)).no).1 = true ∧
        (s.gateArrive gateSide 0x40 4 AK.write (2 * 2 ^ 27 + 4 * 2 ^ 23) 1).1 = false) ∧
      (sideQ true).lth.reqs.any (fun r => r.running && decide (r.q < 4)) = true ∧ (sideQ false).sideHead 0 = some (sreq false) ∧
      (sideQ false).sideOff (sreq false) = false ∧ (sideQ false).lth.reqs.any (fun r => r.running && decide (r.q < 4)) = false ∧
      ((List.range 4).map (fun i => ((sideQ false).lth.last + i) % 4)).find? (fun q => ((sideQ false).sideHead q).isSome) = some 0 ∧
      (sideQ false).sideHead 4 = none ∧ (∀ r ∈ (sideQ false).lth.reqs, r.id < (sideQ false).lth.nextId)) := by decide +kernel
theorem witness_SideAccessesAreQueuedTransferredAndAnswered_transfer :
    ((sideQ true).sideHead 0 = some (sreq true) ∧ (sreq true).who = .host ⟨0, 0, 0⟩ ∧ ({ sreq true with who := .core 0 } : SideReq).who = .core 0 ∧ (sreq true).pref = false ∧
      (List.range 16).find? (fun i => !(sideQ true).bit (R.LTH_LELOGA i) F.LTH_LELOGA_VALID) = some 0) ∧
    (let s := sided.setBit (R.LTH_POLL 2) F.LTH_POLL_EN
     sided.bit (R.LTH_POLL 2) F.LTH_POLL_EN = false ∧ s.bit (R.LTH_POLL 2) F.LTH_POLL_EN = true ∧ s.bit (R.LTH_POLL 2) F.LTH_POLL_SRC = false ∧
       (s.setBit (R.LTH_POLL 2) F.LTH_POLL_SRC).bit (R.LTH_POLL 2) F.LTH_POLL_SRC = true ∧ s.sideDecode 0 1 = some (0, 1, 1)) ∧
    (fieldOf 1 0 1 = 1 ∧ fieldOf (sided.rd (R.LTH_RGN 0)) 0 1 = 1 ∧ rgnBase (sided.rd (R.LTH_RGN 0)) < rgnBase 1 + 2 ^ rgnLog2 1 ∧
      rgnBase 1 < rgnBase (sided.rd (R.LTH_RGN 0)) + 2 ^ rgnLog2 (sided.rd (R.LTH_RGN 0)) ∧
      (∀ i, i < 16 → i ≠ 2 → fieldOf (0x101 : Nat) 0 1 = 0 ∨ fieldOf (sided.rd (R.LTH_RGN i)) 0 1 = 0 ∨
        rgnBase 0x101 + 2 ^ rgnLog2 0x101 ≤ rgnBase (sided.rd (R.LTH_RGN i)) ∨
        rgnBase (sided.rd (R.LTH_RGN i)) + 2 ^ rgnLog2 (sided.rd (R.LTH_RGN i)) ≤ rgnBase 0x101)) := by decide +kernel
theorem test_side_done : after (exec (.sideTransferDone 0 0 0x1122334455) (sideQ true)) (fun t => t.lth.reqs == []) = true := by
  decide +kernel
theorem test_region_overlap : after (exec (.lthRgnWrite 2 1) sided) (fun t => t.bit R.LTH_STATUS F.LTH_STATUS_CFG_REFUSED) = true := by decide +kernel

/-- The host may reach BAR0. -/
def hosted : State := (State.reset.setFn 0 { mse := true }).put R.RST_DOMAIN F.RST_DOMAIN_IN_RESET 0
def ctxA : Nat := (R.QUE_CTXDATA 3).addr

theorem witness_MastersReachRegisters : ∀ w ∈ [true, false], hosted.mayReach (.host 0 ⟨0, 0, 0⟩) w ∧ hosted.mayReach (.core 3) w := by
  simp only [State.mayReach]; decide +kernel
theorem witness_RegistersAreReadAndWrittenUnderTheirGate :
    (oFn (hosted.masterOrigin (.host 0 ⟨0, 0, 0⟩)) = 0 ∧ 
      (hosted.controlAllowed 0 3000 ctxA 8 AK.read).1 = true ∧
      (hosted.controlAllowed 0 3000 ctxA 8 AK.write).1 = true ∧ (hosted.controlAllowed (2 * 2 ^ 27 + 4 * 2 ^ 23) 1 ctxA 8 AK.read).1 = false ∧
      ((hosted.setCore 3 { sb := [ent 0x40 [1] true] }).core 3).deviceWaits = true) ∧
    (badAccess ctxA 3 = true ∧ badAccess ctxA 8 = false ∧ badAccess (ctxA + 4) 4 = false ∧ hosted.stepHeld ((regionStep ctxA).getD 0) = false ∧
      sideWindow ctxA = false ∧ 0x1000 ≤ ctxA ∧ tileOf ctxA = none) := by decide +kernel
theorem witness_RegistersAreReadAndWrittenUnderTheirGate_places :
    (¬ (0xE00000 ≤ ctxA ∧ ctxA < 0xE08100) ∧
      ¬ (0x2E00000 ≤ ctxA ∧ ctxA < 0x2E20000) ∧ hosted.memWindow ctxA = none ∧ hosted.memWindow 0x3400000 = some MB.localMem ∧ State.reset.stepHeld ((regionStep ctxA).getD 0) = true) ∧
    ((regAt ctxA).isSome = true ∧ (regAt ctxA).map (fun x => (decide (x.card.reg = .QUE_CTXDATA), banked x, hosted.caneOff x, hosted.computed 0 x.card.reg x.i)) =
      some (true, false, false, []) ∧ hostFrame ctxA = false ∧ (regAt (R.CRU_COMMIT.addr)).map (fun x => x.card.commit) = some true) ∧
    (∀ x, regAt ctxA = some x → (hosted.writeReg 0 x (2 ^ 64 - 1) 7).1 = true ∧ hosted.quiet x.card.reg x.i = true) ∧
    ((2048 : BitVec 26).toNat < 2 ^ 24 ∧ inBlocks (128 : BitVec 26).toNat = false) := by decide +kernel
theorem test_reg_write : after (exec (.regWrite (.core 0) .bar0 (BitVec.ofNat 26 (ctxA + 4)) 4 0xAABBCCDD) (hosted.wr (R.QUE_CTXDATA 3) 5))
    (fun t => t.rd (R.QUE_CTXDATA 3) == 0xAABBCCDD * 2 ^ 32 + 5) = true := by decide +kernel
theorem test_reg_read : after (exec (.regRead (.core 0) .bar0 (BitVec.ofNat 26 ctxA) 8) (hosted.wr (R.QUE_CTXDATA 3) 5))
    (fun t => t.out == [.readData 5]) = true := by decide +kernel

theorem witness_EveryStepKeepsMemoryCanonical : State.reset.memOk ∧ (State.reset.store 0x40 [1, 0, 2]).memOk := by decide +kernel
/-- Command and address words of R327: a 4-byte write, and one byte at an odd address. -/
theorem test_lathWords : lathWords true 0x10 4 = [0xBE00, 0, 0x10] ∧ lathWords false 0x20013 1 = [0x1400, 2, 0x12] := by decide

/-! ### Commands that cannot reach the module: one ill-formed term for each check of `Instr.wf`, beside a well-formed one -/
theorem test_wf_register_lengths :
    (Instr.regWrite (.core 0) .bar0 0 0 0).wf = false ∧ (Instr.regWrite (.core 0) .bar0 0 4 0).wf = true ∧
    (Instr.regRead (.core 0) .bar0 0 0).wf = false ∧ (Instr.regRead (.core 0) .bar0 0 8).wf = true := by decide +kernel
theorem test_wf_tlp :
    (Instr.tlpReceive 0 ⟨.memWr, 0, 0, 0, 0, 0, 2, 2, .sc, false, false, [1, 2, 3], false, false⟩ true none).wf = false ∧
    (Instr.tlpReceive 0 ⟨.memWr, 0, 0, 0, 0, 0, 3, 3, .sc, false, false, [1, 2, 3], false, false⟩ true none).wf = true := by decide +kernel
theorem test_wf_cell_errors :
    (Instr.egressTransmit 0 [] [.data 0 0 0]).wf = false ∧ (Instr.egressTransmit 0 [] [.data 0 0 1]).wf = true ∧
    (Instr.frameSend 0 false [.data 0 0 0]).wf = false ∧ (Instr.parisonPacket 0 [.data 0 0 0]).wf = false ∧
    (Instr.parisonReport 0 [.data 0 0 0]).wf = false ∧ (Instr.parisonRepl 0 [.data 0 0 0]).wf = false ∧
    (Instr.parisonProbe 0 [.data 0 0 0]).wf = false := by decide +kernel
theorem test_wf_lengths_of_data :
    (Instr.doorbellWrite 0 0 0 [] true).wf = false ∧ (Instr.doorbellWrite 0 0 0 (List.replicate 4097 0) true).wf = false ∧
    (Instr.doorbellWrite 0 0 0 [1] true).wf = true ∧
    (Instr.fetchReadCompletion 0 0 0 .sc (List.replicate 4097 0) false).wf = false ∧ (Instr.fetchReadCompletion 0 0 0 .sc [] false).wf = true := by
  decide +kernel
theorem test_wf_store_accesses :
    (Instr.gstAccess 0 0 (.read 0) [] none).wf = false ∧ (Instr.gstAccess 0 0 (.write []) [] none).wf = false ∧
    (Instr.gstAccess 0 0 (.atomic .fadd 12 0 0) [] none).wf = false ∧ (Instr.gstAccess 0 0 (.atomic .fadd 16 0 0) [] none).wf = true ∧
    (Instr.poolAccess 0 0 0 0 0 (.read 0) []).wf = false ∧ (Instr.poolAccess 0 0 0 0 0 (.read 1) []).wf = true := by decide +kernel
theorem test_wf_flips :
    (Instr.gstAccess 0 0 (.read 1) [(0, 0)] none).wf = false ∧ (Instr.poolAccess 0 0 0 0 0 (.read 1) [(0, 0)]).wf = false ∧
    (Instr.deliveryRead 0 [(0, 0)]).wf = false ∧ (Instr.flowCacheFill 0 [(0, 0)]).wf = false ∧ (Instr.scrubStep 0 [(0, 0)]).wf = false ∧
    (Instr.remapCopyDone 0 [(0, 0)]).wf = false ∧ (Instr.fabricSend 0 [(0, 0)]).wf = false ∧
    (Instr.cmdUnitDone 0 [(0, 0)] false [] false).wf = false ∧ (Instr.scrubStep 0 [(0, 1)]).wf = true := by decide +kernel
theorem test_wf_links :
    (Instr.frameReceive 0 (.frame [])).wf = false ∧ (Instr.frameReceive 0 (.frame (List.replicate 272 0))).wf = true ∧
    (Instr.adaptationDone 0 0 [] 0).wf = false ∧ (Instr.adaptationDone 0 0 (List.replicate 16 0) 0).wf = true ∧
    (Instr.spareReadapt 0 [] 0).wf = false ∧ (Instr.strapRead []).wf = false ∧ (Instr.strapRead (List.replicate 64 0)).wf = true := by decide +kernel

/-! ### The queue -/
theorem witness_StepRunsTheFrontCommand :
    ({ State.reset with pending := [.xtalOk, .pllLock] } : State).pending = .xtalOk :: [.pllLock] ∧ State.reset.pending = [] ∧
    State.reset.bit R.EMB_STATUS F.EMB_STATUS_PLL_LOCK = false ∧
    (State.reset.setBit R.EMB_STATUS F.EMB_STATUS_PLL_LOCK).bit R.EMB_STATUS F.EMB_STATUS_PLL_LOCK = true := by decide +kernel
theorem test_step_runs_the_front : after (step { State.reset with pending := [.xtalOk, .pllLock] })
    (fun t => t.bit R.EMB_STATUS F.EMB_STATUS_XTAL_OK && t.pending == [.pllLock] && t.now == 0) = true := by decide +kernel
theorem test_beat_counts : after (step (State.reset.setBit R.EMB_STATUS F.EMB_STATUS_PLL_LOCK))
    (fun t => t.rd R.EMB_BEAT == 1 && t.now == 1) = true := by decide +kernel

end Sys2Proof.Tests
end

section
/-!
PROOFS. Registers under their gate. An access that passes the gate of control space is a counted event (R377); when that event is sampled
it also writes a record, which counts toward the four of its beat (R383, R385). `CountsOnly` leaves that count out of what counting may
change.
-/
namespace Sys2Proof.Machine

/-- The number of records sampled in the beat (R385) stands outside what `CountsOnly` lets counting change. -/
theorem CountsOnly.smpBeat_eq {u t : State} (h : CountsOnly u t) : t.smpBeat = u.smpBeat := by
  obtain ⟨frame, -⟩ := h
  exact (congrArg State.smpBeat frame :)

/-! ### A sampled event counts in its beat (R383, R385) -/

@[simp] theorem State.event_smpBeat (s : State) (b : Nat) : (s.event b).smpBeat = s.smpBeat := by
  unfold State.event
  generalize s.get (R.GAF_EVROUTE (b - 32)) F.GAF_EVROUTE_MASK = mask
  induction List.range 32 generalizing s with
  | nil => rfl
  | cons c cs ih =>
    rw [List.foldl_cons, ih]
    split
    · exact State.setCore_smpBeat _ _ _
    · rfl

theorem State.smpBeat_ite_event (p : Prop) [Decidable p] (s : State) (b : Nat) : (if p then s.event b else s).smpBeat = s.smpBeat := by
  split
  · exact s.event_smpBeat b
  · rfl

/-- A record that is not dropped is counted in its beat. -/
theorem State.sampleWrite_smpBeat (s : State) (e : Ev) (few : s.smpBeat.2 < 4) (room : s.smpCount ≠ 4096) :
    (s.sampleWrite e).smpBeat.2 = (if s.smpBeat.1 = s.now then s.smpBeat.2 else 0) + 1 := by
  have kept : ¬ ((4 ≤ if s.smpBeat.1 = s.now then s.smpBeat.2 else 0) ∨
      (s.smpCount = 4096 ∧ s.get R.TAL_SMPCFG F.TAL_SMPCFG_MODE = 0)) := by
    split <;> omega
  unfold State.sampleWrite
  refine (congrArg (fun t : State => t.smpBeat.2) (if_neg kept)).trans ?_
  exact congrArg Prod.snd (State.smpBeat_ite_event _ _ _)

/-- An event of a sampled class that passes the filter of the sampled counter, in its turn, writes a record. -/
theorem State.tallyOne_eq_sampleWrite {s t : State} {e : Ev} {i : Nat} (ht : t = s.tallyAdd i e.weight) (passes : s.tallyPasses i e = true)
    (enabled : t.bit R.TAL_SMPCFG F.TAL_SMPCFG_EN = true ∧ t.get R.TAL_SMPCFG F.TAL_SMPCFG_CNT = i) (cls : sampledClass e.cls = true)
    (turn : t.smpSeen % 2 ^ t.get R.TAL_SMPCFG F.TAL_SMPCFG_PERIOD_LOG2 = 0) :
    State.tallyOne e s i = { t with smpSeen := t.smpSeen + 1 }.sampleWrite e := by
  subst ht
  simp only [State.tallyOne, State.sample, passes, enabled, cls, and_self, if_true]
  exact if_pos turn

/-- One enabled counter is the only one to meet an event. -/
theorem State.tally_eq_tallyOne {s : State} {i : Nat} (e : Ev) (runs : s.bit R.TAL_CTL F.TAL_CTL_FREEZE = false) (on : s.tallyOn = [i]) :
    s.tally e = State.tallyOne e s i := by
  simp only [State.tally, runs, on, List.foldl_cons, List.foldl_nil, Bool.false_eq_true, if_false]

/-! ### A firm core's access under the boot rule (R155) -/

/-- The counted event of an access of control space that its gate grants (class 0x08 of R377). -/
def grantEvent (o a : Nat) : Ev := ev 0x08 1 (some o) (some (gateSpace (controlGate a), a)) (controlGate a)

/-- Before the first commit of its gate an access by firm firmware is let through, and counted. -/
theorem State.controlAllowed_of_boot (s : State) (o who a len kind : Nat) (firm : oEng o = 4 ∧ oPriv o = 0) (arrives : s.gst.bound = [])
    (boot : s.bit (R.GAT_GSTAT (controlGate a)) F.GAT_GSTAT_BOOT = true) :
    s.controlAllowed o who a len kind = (true, s.tally (grantEvent o a)) := by
  obtain ⟨eng, priv⟩ := firm
  simp [State.controlAllowed, State.gateArrive, State.gateCheck, State.bootGrants, gateChecks, grantEvent, eng, priv, arrives, boot]

/-! ### The state that refutes the statement -/

/-- The module after reset with counter 0 set to the accesses that a gate grants, and each of them sampled. -/
def samplingGrants : State :=
  ((State.reset.put (R.TAL_SEL 0) F.TAL_SEL_CLASS 0x08).setBit (R.TAL_SEL 0) F.TAL_SEL_EN).setBit R.TAL_SMPCFG F.TAL_SMPCFG_EN

/-- The origin tag of core 0, which is firm after reset. -/
abbrev samplingGrantsOrigin : Nat := samplingGrants.masterOrigin (.core 0)

theorem samplingGrants_mayReach : samplingGrants.mayReach (.core 0) false := by
  show samplingGrants.behindWrites (.core 0) false = false
  decide +kernel

/-- A read of the first word of control space passes GATE20. -/
theorem samplingGrants_controlAllowed (who len kind : Nat) : samplingGrants.controlAllowed samplingGrantsOrigin who 0 len kind =
    (true, samplingGrants.tally (grantEvent samplingGrantsOrigin 0)) :=
  State.controlAllowed_of_boot _ _ _ _ _ _ (by decide +kernel) (by decide +kernel) (by decide +kernel)

/-- That access leaves the first sample record of its beat. -/
theorem samplingGrants_tally_smpBeat : (samplingGrants.tally (grantEvent samplingGrantsOrigin 0)).smpBeat.2 = 1 := by
  rw [State.tally_eq_tallyOne (i := 0) _ (by decide +kernel) (by decide +kernel),
    State.tallyOne_eq_sampleWrite rfl (by decide +kernel) (by decide +kernel) (by decide +kernel) (by decide +kernel),
    State.sampleWrite_smpBeat _ _ (by decide +kernel) (by decide +kernel)]
  decide +kernel

theorem not_countsOnly_samplingGrants_tally : ¬ CountsOnly samplingGrants (samplingGrants.tally (grantEvent samplingGrantsOrigin 0)) := by
  intro h
  have same : 1 = samplingGrants.smpBeat.2 := samplingGrants_tally_smpBeat ▸ congrArg Prod.snd h.smpBeat_eq
  exact absurd same (by decide +kernel)

/-- Refutes O58: its read clause says that an allowed access changes nothing but what `CountsOnly` lets counting change; with the grants of
GATE20 sampled, core 0's read of 8 bytes at offset 0 of BAR0 also writes a sample record and so moves the record count of the beat. -/
theorem not_registersAreReadAndWrittenUnderTheirGate : ¬ Obligations.RegistersAreReadAndWrittenUnderTheirGate := by
  unfold Obligations.RegistersAreReadAndWrittenUnderTheirGate
  rintro ⟨reads, -⟩
  obtain ⟨-, allowed⟩ := reads samplingGrants (samplingGrants.tally (grantEvent samplingGrantsOrigin 0)) _ (.core 0) 0 8 samplingGrantsOrigin
    0 0 (sideOf (.core 0)).no rfl rfl rfl rfl samplingGrants_mayReach nofun rfl
  obtain ⟨counts, -⟩ := allowed (samplingGrants_controlAllowed _ _ _)
  exact not_countsOnly_samplingGrants_tally counts

end Sys2Proof.Machine
end

section
/-!
PROOFS. The clear path with NumVFs past the map of VFs. QEP_VFMAP has one word for each VF, but a state may hold any NumVFs (R251): the
map word of VF 0x3E8000 would stand where port 0 counts its received packets (R382). Receipt counts a TLP before it routes it, so the
count itself attaches that VF, and a write that found no target before it is counted is routed to the queue endpoint.
-/
namespace Sys2Proof.Machine

/-- A VF whose place in QEP_VFMAP is the RX_PKTS counter of port 0. -/
def vfAtCounter : Nat := 0x3E8000

theorem vfMap_vfAtCounter : (R.QEP_VFMAP vfAtCounter).addr = (R.TAL_PORT 0 PC.RX_PKTS).addr := by decide

/-- A bridge that decodes memory, with a window over every 64-bit address. -/
def wholeWindow : Bridge := { memBase := 0, memLimit := 2 ^ 64 - 1, mse := true }

/-- Partition 0 with port 0 upstream and its link up, both bridges open, and SR-IOV enabled up to `vfAtCounter`. -/
def vfsPastMap : State :=
  let s : State := { State.reset.setBit (R.PRT_STATUS 0) F.PRT_STATUS_LINK_UP with act := [((R.PRT_ROLE 0).addr, ROLE.UPSTREAM)] }
  ((s.setBridge (upKey 0) wholeWindow).setBridge (epKey 0) wholeWindow).setFn 0
    { vfEn := true, ari := true, vfMse := true, numVfs := vfAtCounter }

/-- A posted write of 4 bytes to the BAR0 of `vfAtCounter`. -/
def writeToVf : Tlp := ⟨.memWr, (vfAtCounter - 1) * 2 ^ 14, 0, 0, 0, 0, 20, 4, .sc, false, false, [1, 2, 3, 4], false, false⟩

theorem vfsPastMap_arrives : vfsPastMap.portPt 0 = 0 ∧ vfsPastMap.pciePort 0 = true ∧ vfsPastMap.arrivesShut 0 0 writeToVf = false ∧
    vfsPastMap.flt.stopped = false ∧ vfsPastMap.role 0 = ROLE.UPSTREAM := by decide +kernel

/-- No function decodes the address while the write is not counted. -/
theorem vfsPastMap_route : vfsPastMap.route 0 0 writeToVf = .ur := by decide +kernel

/-- Once counted, RX_PKTS reads 1, which as a word of QEP_VFMAP says ATTACHED. -/
theorem vfsPastMap_route_counted : (vfsPastMap.portCount 0 PC.RX_PKTS 1).route 0 0 writeToVf = .endpoint := by decide +kernel

/-- The write goes to the endpoint, and the upstream bridge logs no Unsupported Request. -/
theorem vfsPastMap_tlpReceive_aerUnc {t : State} (h : exec (.tlpReceive 0 writeToVf false none) vfsPastMap = .next t) :
    (t.bridge (upKey 0)).aerUnc = 0 := by
  have kept : (match exec (.tlpReceive 0 writeToVf false none) vfsPastMap with
      | .next u => (u.bridge (upKey 0)).aerUnc == 0
      | _ => true) = true := by decide +kernel
  rw [h] at kept
  exact eq_of_beq kept

/-- Refutes O46: its clause for a TLP without a route reads the route before receipt counts the packet, and asks that the bridge log it.
In `vfsPastMap` the count moves QEP_VFMAP of a VF past the map, so the write is routed to the endpoint and no bridge logs it. -/
theorem not_tlpsAreAdmittedHeldStagedSentAndFreed : ¬ Obligations.TlpsAreAdmittedHeldStagedSentAndFreed := by
  unfold Obligations.TlpsAreAdmittedHeldStagedSentAndFreed
  rintro ⟨receipt, -⟩
  obtain ⟨pt, pcie, opened, runs, up⟩ := vfsPastMap_arrives
  obtain ⟨-, -, received⟩ := receipt vfsPastMap 0 0 writeToVf false 0 _ pt.symm rfl
  obtain ⟨unrouted, -⟩ := received pcie opened runs nofun
  obtain ⟨t, run, logged, -⟩ := unrouted vfsPastMap_route rfl (upKey 0) (if_pos up).symm
  rw [vfsPastMap_tlpReceive_aerUnc run] at logged
  exact absurd logged (by decide +kernel)

end Sys2Proof.Machine
end

section
/-!
PROOFS. Fields of registers after a write (R10, R11), bit by bit: a field reads as what was written to it, and a field beside it reads as
before. What an event leaves as it was (R204), and the commands that touch only some registers.
-/
namespace Sys2Proof.Machine

/-! ### Fields bit by bit -/

theorem testBit_fieldOf (v lo w i : Nat) : (fieldOf v lo w).testBit i = (decide (i < w) && v.testBit (lo + i)) := by
  rw [fieldOf, Nat.testBit_mod_two_pow, Nat.testBit_div_two_pow, Nat.add_comm]

theorem putField_eq (v lo w x : Nat) :
    putField v lo w x = 2 ^ lo * (2 ^ w * (v / 2 ^ (lo + w)) + x % 2 ^ w) + v % 2 ^ lo := by
  have low := Nat.div_add_mod v (2 ^ lo)
  have high := Nat.div_add_mod (v / 2 ^ lo) (2 ^ w)
  rw [Nat.div_div_eq_div_mul, ← pow_add] at high
  have whole : v = 2 ^ lo * (2 ^ w * (v / 2 ^ (lo + w))) + 2 ^ lo * (v / 2 ^ lo % 2 ^ w) + v % 2 ^ lo := by
    rw [← Nat.mul_add, high, low]
  rw [putField, fieldOf, Nat.mul_add, Nat.mul_comm (_ % _) (2 ^ lo), Nat.mul_comm (x % _)]
  omega

theorem testBit_putField (v lo w x i : Nat) :
    (putField v lo w x).testBit i = if lo ≤ i ∧ i < lo + w then x.testBit (i - lo) else v.testBit i := by
  rw [putField_eq, Nat.testBit_two_pow_mul_add _ (Nat.mod_lt _ (Nat.two_pow_pos _)), Nat.testBit_mod_two_pow]
  by_cases low : i < lo
  · simp [low, Nat.not_le.mpr low]
  rw [if_neg low, Nat.testBit_two_pow_mul_add _ (Nat.mod_lt _ (Nat.two_pow_pos _)), Nat.testBit_mod_two_pow]
  by_cases inside : i - lo < w
  · rw [if_pos inside, if_pos (by omega)]
    simp [inside]
  · rw [if_neg inside, if_neg (by omega), Nat.testBit_div_two_pow]
    congr 1
    omega

theorem fieldOf_putField_same (v lo w x : Nat) : fieldOf (putField v lo w x) lo w = x % 2 ^ w := by
  refine Nat.eq_of_testBit_eq fun i => ?_
  rw [testBit_fieldOf, testBit_putField, Nat.testBit_mod_two_pow]
  by_cases inside : i < w <;> simp [inside]

theorem fieldOf_putField_disjoint (v lo w x lo' w' : Nat) (h : lo + w ≤ lo' ∨ lo' + w' ≤ lo) :
    fieldOf (putField v lo w x) lo' w' = fieldOf v lo' w' := by
  refine Nat.eq_of_testBit_eq fun i => ?_
  rw [testBit_fieldOf, testBit_fieldOf, testBit_putField]
  by_cases inside : i < w'
  · rw [if_neg (by omega)]
  · simp [inside]

/-- A field of a register lies in its 64 bits. -/
theorem fieldOf_mod (v lo w : Nat) (h : lo + w ≤ 64) : fieldOf (v % 2 ^ 64) lo w = fieldOf v lo w := by
  refine Nat.eq_of_testBit_eq fun i => ?_
  rw [testBit_fieldOf, testBit_fieldOf, Nat.testBit_mod_two_pow]
  by_cases inside : i < w
  · simp [show lo + i < 64 by omega]
  · simp [inside]

/-! ### A field of a register after a write -/

theorem State.get_put_same (s : State) (r : RegRef) (f : Fld) (v : Nat) (h : f.lo + f.w ≤ 64) : (s.put r f v).get r f = v % 2 ^ f.w := by
  rw [State.get, State.put, State.rd_wr, fieldOf_mod _ _ _ h, fieldOf_putField_same]

theorem State.get_put_field (s : State) (r : RegRef) (f g : Fld) (v : Nat) (h : g.lo + g.w ≤ 64)
    (apart : f.lo + f.w ≤ g.lo ∨ g.lo + g.w ≤ f.lo) : (s.put r f v).get r g = s.get r g := by
  rw [State.get, State.put, State.rd_wr, fieldOf_mod _ _ _ h, fieldOf_putField_disjoint _ _ _ _ _ _ apart, State.get]

theorem State.getAct_putAct_same (s : State) (r : RegRef) (f : Fld) (v : Nat) (h : f.lo + f.w ≤ 64) :
    (s.putAct r f v).getAct r f = v % 2 ^ f.w := by
  rw [State.getAct, State.putAct, State.rdAct_wrAct, fieldOf_mod _ _ _ h, fieldOf_putField_same]

theorem State.rd_put_other (s : State) (r q : RegRef) (f : Fld) (v : Nat) (h : q.addr ≠ r.addr) : (s.put r f v).rd q = s.rd q :=
  State.rd_wr_other _ _ _ _ h

theorem State.rdAct_putAct_other (s : State) (r q : RegRef) (f : Fld) (v : Nat) (h : q.addr ≠ r.addr) :
    (s.putAct r f v).rdAct q = s.rdAct q := State.rdAct_wrAct_other _ _ _ _ h

theorem State.bit_put_same (s : State) (r : RegRef) (f : Fld) (v : Nat) (h : f.lo + f.w ≤ 64) :
    (s.put r f v).bit r f = (v % 2 ^ f.w == 1) := by
  rw [State.bit, State.get_put_same _ _ _ _ h]

theorem State.bit_put_field (s : State) (r : RegRef) (f g : Fld) (v : Nat) (h : g.lo + g.w ≤ 64)
    (apart : f.lo + f.w ≤ g.lo ∨ g.lo + g.w ≤ f.lo) : (s.put r f v).bit r g = s.bit r g := by
  rw [State.bit, State.get_put_field _ _ _ _ _ h apart, State.bit]

theorem State.bit_put_other (s : State) (r q : RegRef) (f g : Fld) (v : Nat) (h : q.addr ≠ r.addr) : (s.put r f v).bit q g = s.bit q g := by
  rw [State.bit, State.get_put_other _ _ _ _ _ _ h, State.bit]

theorem State.bit_setBit (s : State) (r : RegRef) (f : Fld) (h : f.lo + 1 ≤ 64) (one : f.w = 1) : (s.setBit r f).bit r f = true := by
  rw [State.setBit, State.bit_put_same _ _ _ _ (one ▸ h), one]
  rfl

/-- A counter that saturates at its width reads as its saturated sum. -/
theorem State.get_bump_same (s : State) (r : RegRef) (f : Fld) (n : Nat) (h : f.lo + f.w ≤ 64) :
    (s.bump r f n).get r f = satAdd (s.get r f) n (2 ^ f.w - 1) := by
  have fits : satAdd (s.get r f) n (2 ^ f.w - 1) < 2 ^ f.w := by
    have := Nat.two_pow_pos f.w
    unfold satAdd
    split <;> omega
  rw [State.bump, State.get_put_same _ _ _ _ h, Nat.mod_eq_of_lt fits]

/-! ### Only some registers -/

theorem Only.wr (s : State) (rs : List RegRef) (r : RegRef) (v : Nat) (h : r ∈ rs) : Only rs s (s.wr r v) :=
  ⟨rfl, fun _ apart => State.rd_wr_other _ _ _ _ (apart r h)⟩

theorem Only.put (s : State) (rs : List RegRef) (r : RegRef) (f : Fld) (v : Nat) (h : r ∈ rs) : Only rs s (s.put r f v) :=
  Only.wr _ _ _ _ h

theorem Only.trans {rs : List RegRef} {s t u : State} (h : Only rs s t) (k : Only rs t u) : Only rs s u :=
  ⟨(congrArg (fun x : State => { x with regs := s.regs }) k.1).trans h.1, fun r apart => (k.2 r apart).trans (h.2 r apart)⟩

theorem Only.act_eq {rs : List RegRef} {s t : State} (h : Only rs s t) : t.act = s.act := (congrArg State.act h.1 :)
theorem Only.mem_eq {rs : List RegRef} {s t : State} (h : Only rs s t) : t.mem = s.mem := (congrArg State.mem h.1 :)

/-! ### Reports and events (R204) -/

@[simp] theorem State.rd_report (s : State) (c k i o d a : Nat) (r : RegRef) : (s.report c k i o d a).rd r = s.rd r := rfl
@[simp] theorem State.get_report (s : State) (c k i o d a : Nat) (r : RegRef) (f : Fld) : (s.report c k i o d a).get r f = s.get r f := rfl
@[simp] theorem State.bit_report (s : State) (c k i o d a : Nat) (r : RegRef) (f : Fld) : (s.report c k i o d a).bit r f = s.bit r f := rfl

/-- An event touches the logical cores and nothing else. -/
theorem State.event_frame (s : State) (b : Nat) : { s.event b with gaf := s.gaf } = s := by
  unfold State.event
  refine List.foldlRecOn (motive := fun t : State => { t with gaf := s.gaf } = s) _ _ rfl fun t ht c _ => ?_
  split
  · exact ht
  · exact ht

@[simp] theorem State.event_regs (s : State) (b : Nat) : (s.event b).regs = s.regs := (congrArg State.regs (s.event_frame b) :)
@[simp] theorem State.event_act (s : State) (b : Nat) : (s.event b).act = s.act := (congrArg State.act (s.event_frame b) :)
@[simp] theorem State.event_mem (s : State) (b : Nat) : (s.event b).mem = s.mem := (congrArg State.mem (s.event_frame b) :)
@[simp] theorem State.event_reports (s : State) (b : Nat) : (s.event b).reports = s.reports := (congrArg State.reports (s.event_frame b) :)

@[simp] theorem State.rd_event (s : State) (b : Nat) (r : RegRef) : (s.event b).rd r = s.rd r := by
  rw [State.rd, State.event_regs, State.rd]
@[simp] theorem State.get_event (s : State) (b : Nat) (r : RegRef) (f : Fld) : (s.event b).get r f = s.get r f := by
  rw [State.get, State.rd_event, State.get]
@[simp] theorem State.bit_event (s : State) (b : Nat) (r : RegRef) (f : Fld) : (s.event b).bit r f = s.bit r f := by
  rw [State.bit, State.get_event, State.bit]

/-- What an event does to the cores follows from them, from its route and from the wake mask. -/
theorem State.event_gaf_congr {s t : State} (b : Nat) (gaf : t.gaf = s.gaf)
    (route : t.rd (R.GAF_EVROUTE (b - 32)) = s.rd (R.GAF_EVROUTE (b - 32)))
    (wake : t.rd R.EMB_WAKEMASK = s.rd R.EMB_WAKEMASK) : (t.event b).gaf = (s.event b).gaf := by
  unfold State.event
  rw [State.get, State.get, route]
  generalize fieldOf (s.rd (R.GAF_EVROUTE (b - 32))) _ _ = mask
  clear route
  induction List.range 32 generalizing s t with
  | nil => exact gaf
  | cons c cs ih =>
    simp only [List.foldl_cons]
    split
    · refine ih ?_ wake
      simp only [State.eventTo, State.core, State.setCore, gaf, wake]
    · exact ih gaf wake

end Sys2Proof.Machine
end

section
/-!
PROOFS. Banks (R28, R29): what a register reads, and what is in force, after banks are exchanged or copied; what a commit of a domain or
of a gate does (R157, R208 to R210); the reserves and the retired cells of the crucible (R44, R57).
-/
namespace Sys2Proof.Machine

/-! ### Exchanged and copied banks -/

theorem SMap.get_keep {β : Type} (m : SMap β) (d : β) (p : Nat → Bool) (a : Nat) :
    SMap.get (SMap.keep m p) d a = if p a then SMap.get m d a else d := by
  induction m with
  | nil => simp [SMap.keep, SMap.get]
  | cons e t ih =>
    rw [SMap.keep] at ih ⊢
    rw [List.filter_cons]
    by_cases ha : e.1 = a
    · subst ha
      cases hp : p e.1 with
      | true => simp [SMap.get]
      | false => simpa [hp] using ih
    · cases p e.1 with
      | true => simpa [SMap.get, ha] using ih
      | false => simpa [SMap.get, ha] using ih

/-- An overlaid table reads as the source at the addresses named, and as before elsewhere. -/
theorem get_overlay (p : Nat → Bool) (src dst : SMap Nat) (a : Nat) :
    SMap.get (overlay p src dst) 0 a = if p a then SMap.get src 0 a else SMap.get dst 0 a := by
  induction src with
  | nil =>
    rw [overlay, List.filter_nil, List.foldr_nil, SMap.get_keep]
    cases p a <;> rfl
  | cons e t ih =>
    rw [overlay] at ih ⊢
    rw [List.filter_cons]
    cases hp : p e.1 with
    | false =>
      refine ih.trans ?_
      by_cases ha : e.1 = a
      · simp [← ha, hp]
      · simp [SMap.get, ha]
    | true =>
      rw [if_pos rfl, List.foldr_cons]
      by_cases ha : e.1 = a
      · simp [← ha, hp, SMap.get]
      · rw [SMap.get_set_other _ _ _ _ _ (Ne.symm ha)]
        simpa [SMap.get, ha] using ih

theorem State.rd_swapBanks (s : State) (p : Nat → Bool) (r : RegRef) :
    (s.swapBanks p).rd r = if p r.addr then s.rdAct r else s.rd r := by
  rw [State.rd, State.swapBanks, get_overlay]
  split <;> rfl

theorem State.rdAct_swapBanks (s : State) (p : Nat → Bool) (r : RegRef) :
    (s.swapBanks p).rdAct r = if p r.addr then s.rd r else s.rdAct r := by
  rw [State.rdAct, State.swapBanks, get_overlay]
  split <;> rfl

theorem State.rd_copyBanks (s : State) (p : Nat → Bool) (r : RegRef) :
    (s.copyBanks p).rd r = if p r.addr then s.rdAct r else s.rd r := by
  rw [State.rd, State.copyBanks, get_overlay]
  split <;> rfl

/-! ### Scheduling records follow their bank (R98, R100) -/

/-- `t` is `s` but for the groups and deficits of the scheduler. -/
def SchOnly (s t : State) : Prop := { t with sch := s.sch } = s

theorem SchOnly.trans {s t u : State} (h : SchOnly s t) (k : SchOnly t u) : SchOnly s u := by
  unfold SchOnly at *
  exact (congrArg (fun x : State => { x with sch := s.sch }) k).trans h

theorem SchOnly.act_eq {s t : State} (h : SchOnly s t) : t.act = s.act := (congrArg State.act h :)
theorem SchOnly.mem_eq {s t : State} (h : SchOnly s t) : t.mem = s.mem := (congrArg State.mem h :)
theorem SchOnly.rd_eq {s t : State} (h : SchOnly s t) (r : RegRef) : t.rd r = s.rd r := (congrArg (State.rd · r) h :)

theorem SchOnly.foldl {α : Type} (f : State → α → State) (h : ∀ s a, SchOnly s (f s a)) (l : List α) (s : State) :
    SchOnly s (l.foldl f s) :=
  List.foldlRecOn (motive := SchOnly s) l f rfl fun _ ht a _ => ht.trans (h _ a)

theorem State.setDeficit_schOnly (s : State) (c : Nat) (d : Int) : SchOnly s (s.setDeficit c d) := rfl
theorem State.setGroup_schOnly (s : State) (n l : Nat) (g : List Nat) : SchOnly s (s.setGroup n l g) := rfl
theorem State.setGroupPtr_schOnly (s : State) (n l v : Nat) : SchOnly s (s.setGroupPtr n l v) := rfl

theorem State.joinGroup_schOnly (s : State) (c : Nat) : SchOnly s (s.joinGroup c) := by
  unfold State.joinGroup
  dsimp only
  split
  · rfl
  · exact s.setGroup_schOnly _ _ _

theorem State.leaveGroup_schOnly (s : State) (c n : Nat) : SchOnly s (s.leaveGroup c n) := by
  unfold State.leaveGroup
  refine (SchOnly.foldl _ (fun s l => ?_) (List.range 8) s).trans (State.setDeficit_schOnly _ _ _)
  dsimp only
  split
  · split
    · exact (s.setGroupPtr_schOnly _ _ _).trans (State.setGroup_schOnly _ _ _ _)
    · exact s.setGroup_schOnly _ _ _
  · rfl

theorem State.moveChild_schOnly (s : State) (c n : Nat) : SchOnly s (s.moveChild c n) :=
  ((s.leaveGroup_schOnly c n).trans (State.setDeficit_schOnly _ _ _)).trans (State.joinGroup_schOnly _ _)

theorem State.relinkNodes_schOnly (s : State) (old : SMap Nat) : SchOnly s (s.relinkNodes old) := by
  unfold State.relinkNodes
  dsimp only
  refine ((SchOnly.foldl _ (fun s e => ?_) _ s).trans (SchOnly.foldl _ (fun s e => ?_) _ _)).trans (SchOnly.foldl _ (fun s n => ?_) _ _)
  · split
    · exact s.moveChild_schOnly _ _
    · rfl
  · split
    · exact s.leaveGroup_schOnly _ _
    · split
      · exact s.moveChild_schOnly _ _
      · rfl
  · split
    · exact s.joinGroup_schOnly _
    · rfl

/-- A change of CREDIT_INIT moves credit registers of port nodes only. -/
theorem State.creditChange_only (s : State) (old : SMap Nat) : Only ((List.range 512).map R.SCH_PORTCR) s (s.creditChange old) := by
  refine List.foldlRecOn (motive := Only _ s) _ _ ⟨rfl, fun _ _ => rfl⟩ fun t ht p hp => ?_
  dsimp only
  split
  · exact ht
  · exact ht.trans (Only.put _ _ _ _ _ (List.mem_map_of_mem hp))

theorem State.mirrorRestart_frame (s : State) (old : SMap Nat) : { s.mirrorRestart old with cru := s.cru } = s := by
  refine List.foldlRecOn (motive := fun t : State => { t with cru := s.cru } = s) _ _ rfl fun t ht i _ => ?_
  dsimp only
  split <;> exact ht

/-- What follows a change of the active bank leaves the banks and the memories, and of what reads return only port credit moves. -/
theorem State.afterChange_frame (s : State) (d : Nat) (old : SMap Nat) :
    (s.afterChange d old).act = s.act ∧ (s.afterChange d old).mem = s.mem ∧
      ∀ r : RegRef, (d = 2 → ∀ p, p < 512 → r.addr ≠ (R.SCH_PORTCR p).addr) → (s.afterChange d old).rd r = s.rd r := by
  match d with
  | 0 => exact ⟨rfl, rfl, fun _ _ => rfl⟩
  | 1 =>
    have frame := s.mirrorRestart_frame old
    exact ⟨(congrArg State.act frame :), (congrArg State.mem frame :), fun r _ => (congrArg (State.rd · r) frame :)⟩
  | 2 =>
    have relinked := (s.creditChange old).relinkNodes_schOnly old
    have credited := s.creditChange_only old
    refine ⟨relinked.act_eq.trans credited.act_eq, relinked.mem_eq.trans credited.mem_eq,
      fun r apart => (relinked.rd_eq r).trans (credited.2 r fun x hx => ?_)⟩
    obtain ⟨p, hp, rfl⟩ := List.mem_map.mp hx
    exact apart rfl p (List.mem_range.mp hp)
  | _ + 3 => exact ⟨rfl, rfl, fun _ _ => rfl⟩

/-! ### A domain is committed (R208 to R210) -/

/-- Registers that tell of commits, and those that route and wake events, belong to no domain. -/
theorem inDomain_outside : ∀ d : Fin 3, inDomain d.val (R.GAF_EPSTAT d.val).addr = false ∧ inDomain d.val R.SCH_STATUS.addr = false ∧
    inDomain d.val (R.GAF_EVROUTE 10).addr = false ∧ inDomain d.val R.EMB_WAKEMASK.addr = false := by decide

theorem inDomain_portCredit (p : Nat) (h : p < 512) : inDomain 2 (R.SCH_PORTCR p).addr = false := by
  simp only [inDomain, R.SCH_PORTCR, nodeCount]
  grind

/-- The registers in which a commit of domain `d` shows beside its bank: its EPSTAT, and for the scheduler its status and port credits. -/
def commitShows (d : Nat) (r : RegRef) : Prop :=
  r.addr = (R.GAF_EPSTAT d).addr ∨ d = 2 ∧ (r.addr = R.SCH_STATUS.addr ∨ ∃ p, p < 512 ∧ r.addr = (R.SCH_PORTCR p).addr)

theorem not_commitShows_of_inDomain {d : Fin 3} {r : RegRef} (h : inDomain d.val r.addr = true) : ¬ commitShows d.val r := by
  obtain ⟨epstat, status, -, -⟩ := inDomain_outside d
  rintro (e | ⟨two, e | ⟨p, hp, e⟩⟩)
  · simp [e, epstat] at h
  · simp [e, status] at h
  · simp [two, e, inDomain_portCredit p hp] at h

section swapDomain
variable (s : State) (d : Nat)

/-- The state in which a domain has swapped, before the effects of the new bank. -/
def State.swapped : State :=
  let r := R.GAF_EPSTAT d
  let s := s.swapBanks (inDomain d)
  let s := ((s.put r F.GAF_EPSTAT_EPOCH (s.get r F.GAF_EPSTAT_EPOCH + 1)).put r F.GAF_EPSTAT_DRAINED 0).put r F.GAF_EPSTAT_COMMIT_PEND 1
  if d = 2 then s.put R.SCH_STATUS F.SCH_STATUS_COMMIT_PEND 1 else s

theorem State.swapDomain_eq : s.swapDomain d = (s.swapped d).afterChange d s.act := by
  rw [State.swapDomain, State.swapped]

theorem State.rd_swapped (r : RegRef) (epstat : r.addr ≠ (R.GAF_EPSTAT d).addr) (status : d = 2 → r.addr ≠ R.SCH_STATUS.addr) :
    (s.swapped d).rd r = if inDomain d r.addr then s.rdAct r else s.rd r := by
  unfold State.swapped
  dsimp only
  split
  · rename_i two
    simp only [State.rd_put_other _ _ _ _ _ epstat, State.rd_put_other _ _ _ _ _ (status two), State.rd_swapBanks]
  · simp only [State.rd_put_other _ _ _ _ _ epstat, State.rd_swapBanks]

theorem State.swapDomain_rdAct (r : RegRef) : (s.swapDomain d).rdAct r = if inDomain d r.addr then s.rd r else s.rdAct r := by
  have acts : (s.swapDomain d).act = (s.swapBanks (inDomain d)).act := by
    rw [State.swapDomain_eq, ((s.swapped d).afterChange_frame d s.act).1, State.swapped]
    split
    · rw [State.put_act, State.put_act, State.put_act, State.put_act]
    · rw [State.put_act, State.put_act, State.put_act]
  rw [State.rdAct, acts]
  exact s.rdAct_swapBanks _ r

theorem State.swapDomain_mem : (s.swapDomain d).mem = s.mem := by
  rw [State.swapDomain_eq, ((s.swapped d).afterChange_frame d s.act).2.1, State.swapped]
  split
  · rw [State.put_mem, State.put_mem, State.put_mem, State.put_mem]
    rfl
  · rw [State.put_mem, State.put_mem, State.put_mem]
    rfl

theorem State.swapDomain_rd (r : RegRef) (h : ¬ commitShows d r) :
    (s.swapDomain d).rd r = if inDomain d r.addr then s.rdAct r else s.rd r := by
  simp only [commitShows, not_or, not_and, not_exists] at h
  obtain ⟨epstat, scheduler⟩ := h
  rw [State.swapDomain_eq, ((s.swapped d).afterChange_frame d s.act).2.2 r fun two p hp => (scheduler two).2 p hp,
    s.rd_swapped d r epstat fun two => (scheduler two).1]

end swapDomain

/-- EPOCH rises, DRAINED clears and COMMIT_PEND is set. -/
theorem State.swapDomain_epstat (s : State) (d : Fin 3) :
    (s.swapDomain d.val).get (R.GAF_EPSTAT d.val) F.GAF_EPSTAT_EPOCH = (s.get (R.GAF_EPSTAT d.val) F.GAF_EPSTAT_EPOCH + 1) % 2 ^ 16 ∧
      (s.swapDomain d.val).bit (R.GAF_EPSTAT d.val) F.GAF_EPSTAT_DRAINED = false ∧
      (s.swapDomain d.val).bit (R.GAF_EPSTAT d.val) F.GAF_EPSTAT_COMMIT_PEND = true := by
  have credit : ∀ p, p < 512 → (R.GAF_EPSTAT d.val).addr ≠ (R.SCH_PORTCR p).addr := by
    simp only [R.GAF_EPSTAT, R.SCH_PORTCR]
    omega
  have status : (R.GAF_EPSTAT d.val).addr ≠ R.SCH_STATUS.addr := by
    simp only [R.GAF_EPSTAT, R.SCH_STATUS]
    omega
  have kept (f : Fld) : (s.swapBanks (inDomain d.val)).get (R.GAF_EPSTAT d.val) f = s.get (R.GAF_EPSTAT d.val) f := by
    rw [State.get, State.rd_swapBanks, (inDomain_outside d).1]
    rfl
  have after (f : Fld) : (s.swapDomain d.val).get (R.GAF_EPSTAT d.val) f = (s.swapped d.val).get (R.GAF_EPSTAT d.val) f := by
    rw [State.swapDomain_eq, State.get, ((s.swapped d.val).afterChange_frame d.val s.act).2.2 _ fun _ => credit, State.get]
  have shown (f : Fld) : (s.swapped d.val).get (R.GAF_EPSTAT d.val) f =
      ((((s.swapBanks (inDomain d.val)).put (R.GAF_EPSTAT d.val) F.GAF_EPSTAT_EPOCH
        (s.get (R.GAF_EPSTAT d.val) F.GAF_EPSTAT_EPOCH + 1)).put (R.GAF_EPSTAT d.val) F.GAF_EPSTAT_DRAINED 0).put
          (R.GAF_EPSTAT d.val) F.GAF_EPSTAT_COMMIT_PEND 1).get (R.GAF_EPSTAT d.val) f := by
    unfold State.swapped
    dsimp only
    rw [kept]
    split
    · exact State.get_put_other _ _ _ _ _ _ status
    · rfl
  refine ⟨?_, ?_, ?_⟩
  · rw [after, shown]
    simp (disch := decide) only [State.get_put_field, State.get_put_same]
    rfl
  · rw [State.bit, after, shown]
    simp (disch := decide) only [State.get_put_field, State.get_put_same]
    rfl
  · rw [State.bit, after, shown]
    simp (disch := decide) only [State.get_put_same]
    rfl

/-- What a domain writes into its EPSTAT when it refuses. -/
def State.refused (s : State) (d why item : Nat) : State :=
  ((s.put (R.GAF_EPSTAT d) F.GAF_EPSTAT_COMMIT_BAD 1).put (R.GAF_EPSTAT d) F.GAF_EPSTAT_BAD_WHY why).put (R.GAF_EPSTAT d)
    F.GAF_EPSTAT_BAD_ITEM item

theorem State.refuseCommit_eq (s : State) (d why item : Nat) : s.refuseCommit d why item =
    ((s.refused d why item).report FC.EPOCH_COMMIT UK.module 0 0 item (why + d * 16)).event 42 := by
  unfold State.refuseCommit State.refused
  rfl

/-- A refusal shows in the EPSTAT of its domain (R209). -/
theorem State.refuseCommit_epstat (s : State) (d why item : Nat) :
    (s.refuseCommit d why item).bit (R.GAF_EPSTAT d) F.GAF_EPSTAT_COMMIT_BAD = true ∧
      (s.refuseCommit d why item).get (R.GAF_EPSTAT d) F.GAF_EPSTAT_BAD_WHY = why % 2 ^ 4 ∧
      (s.refuseCommit d why item).get (R.GAF_EPSTAT d) F.GAF_EPSTAT_BAD_ITEM = item % 2 ^ 16 := by
  rw [State.refuseCommit_eq, State.bit_event, State.get_event, State.get_event, State.bit_report, State.get_report, State.get_report,
    State.refused, State.bit]
  simp (disch := decide) only [State.get_put_field, State.get_put_same]
  exact ⟨rfl, rfl, rfl⟩

theorem State.refuseCommit_rd (s : State) (d why item : Nat) (r : RegRef) (h : r.addr ≠ (R.GAF_EPSTAT d).addr) :
    (s.refuseCommit d why item).rd r = s.rd r := by
  rw [State.refuseCommit_eq, State.rd_event, State.rd_report, State.refused]
  simp only [State.rd_put_other _ _ _ _ _ h]

@[simp] theorem State.refuseCommit_act (s : State) (d why item : Nat) : (s.refuseCommit d why item).act = s.act := by
  rw [State.refuseCommit_eq, State.event_act, State.report_act, State.refused, State.put_act, State.put_act, State.put_act]

@[simp] theorem State.refuseCommit_mem (s : State) (d why item : Nat) : (s.refuseCommit d why item).mem = s.mem := by
  rw [State.refuseCommit_eq, State.event_mem, State.report_mem, State.refused, State.put_mem, State.put_mem, State.put_mem]

/-! ### GAF_COMMIT of one domain, of all, and of one gate -/

theorem bitOf_eq_testBit (v i : Nat) : bitOf v i = v.testBit i := by
  rw [Nat.testBit_eq_decide_div_mod_eq, bitOf, beq_eq_decide]

theorem foldl_gates_none (s : State) :
    (List.range 32).foldl (fun s g => if bitOf (0 : BitVec 32).toNat g then s.gateCommit g else s) s = s := by
  refine List.foldlRecOn (motive := (· = s)) _ _ rfl fun t ht g _ => ?_
  rw [bitOf_eq_testBit]
  simpa using ht

/-- A choice of one element of a list without repetition. -/
theorem foldl_chosen {α : Type} (f : α → Nat → α) (g : Nat) (l : List Nat) (once : l.Nodup) (s : α) :
    l.foldl (fun s j => if j = g then f s j else s) s = if g ∈ l then f s g else s := by
  induction l generalizing s with
  | nil => rfl
  | cons j l ih =>
    obtain ⟨fresh, rest⟩ := List.nodup_cons.mp once
    rw [List.foldl_cons, ih rest]
    by_cases h : j = g
    · simp [h, show g ∉ l from h ▸ fresh]
    · simp [h, Ne.symm h]

theorem foldl_gates_one (s : State) (g : Fin 32) :
    (List.range 32).foldl (fun s j => if bitOf (BitVec.ofNat 32 (2 ^ g.val)).toNat j then s.gateCommit j else s) s =
      s.gateCommit g.val := by
  have chosen (j : Nat) : bitOf (BitVec.ofNat 32 (2 ^ g.val)).toNat j = decide (j = g.val) := by
    rw [bitOf_eq_testBit, BitVec.toNat_ofNat, Nat.mod_eq_of_lt (Nat.pow_lt_pow_right (by decide) g.isLt), Nat.testBit_two_pow]
    exact decide_eq_decide.mpr eq_comm
  simp only [chosen, decide_eq_true_eq]
  rw [foldl_chosen _ _ _ List.nodup_range, if_pos (List.mem_range.mpr g.isLt)]

/-- The domains that a write of GAF_COMMIT names, and those of them that refuse, each with its cause. -/
def commitDomains (fwd act sch : Bool) : List Nat := (if fwd then [0] else []) ++ (if act then [1] else []) ++ (if sch then [2] else [])
def State.commitRefusals (s : State) (ds : List Nat) : List (Nat × Nat × Nat) :=
  ds.filterMap (fun d => (s.domainRefusal d).map (fun f => (d, f)))

/-- The part of GAF_COMMIT that concerns domains. -/
def State.commitDomainsOf (s : State) (ds : List Nat) (all : Bool) : State :=
  let bad := s.commitRefusals ds
  let good := if all && !bad.isEmpty then [] else ds.filter (fun d => (s.domainRefusal d).isNone)
  let s := good.foldl State.swapDomain s
  let s := bad.foldl (fun s e => s.refuseCommit e.1 e.2.1 e.2.2) s
  if all && !bad.isEmpty then s.setBit R.GAF_STATUS F.GAF_STATUS_ALL_REFUSED else s

theorem exec_gafCommit (fwd act sch all : Bool) (gates : BitVec 32) (s : State) : exec (.gafCommit fwd act sch all gates) s =
    .next ((List.range 32).foldl (fun s g => if bitOf gates.toNat g then s.gateCommit g else s)
      (s.commitDomainsOf (commitDomains fwd act sch) all)) := rfl

theorem commitDomainsOf_accepted (s : State) (d : Nat) (all : Bool) (h : s.domainRefusal d = none) :
    s.commitDomainsOf [d] all = s.swapDomain d := by
  have none_bad : s.commitRefusals [d] = [] := List.filterMap_cons_none (by rw [h]; rfl)
  have good : [d].filter (fun d => (s.domainRefusal d).isNone) = [d] := List.filter_cons_of_pos (by rw [h]; rfl)
  rw [State.commitDomainsOf, none_bad, good]
  rw [List.isEmpty_nil, Bool.not_true, Bool.and_false, if_neg Bool.false_ne_true, if_neg Bool.false_ne_true, List.foldl_nil,
    List.foldl_cons, List.foldl_nil]

theorem commitDomainsOf_refused (s : State) (d why item : Nat) (all : Bool) (h : s.domainRefusal d = some (why, item)) :
    s.commitDomainsOf [d] all = if all then (s.refuseCommit d why item).setBit R.GAF_STATUS F.GAF_STATUS_ALL_REFUSED
      else s.refuseCommit d why item := by
  have bad : s.commitRefusals [d] = [(d, why, item)] := List.filterMap_cons_some (by rw [h]; rfl)
  have none_good : [d].filter (fun d => (s.domainRefusal d).isNone) = [] :=
    List.filter_cons_of_neg (by rw [h]; exact Bool.false_ne_true)
  rw [State.commitDomainsOf, bad, none_good]
  rw [List.isEmpty_cons, Bool.not_false, Bool.and_true, ite_self, List.foldl_nil, List.foldl_cons, List.foldl_nil]

/-- The write of GAF_COMMIT that names domain `d`. -/
abbrev commitOf (d : Fin 3) (all : Bool) : Instr := .gafCommit (decide (d.val = 0)) (decide (d.val = 1)) (decide (d.val = 2)) all 0

theorem commitDomains_one : ∀ d : Fin 3, commitDomains (decide (d.val = 0)) (decide (d.val = 1)) (decide (d.val = 2)) = [d.val] := by decide

theorem exec_commit_accepted (s : State) (d : Fin 3) (all : Bool) (h : s.domainRefusal d.val = none) :
    exec (commitOf d all) s = .next (s.swapDomain d.val) := by
  rw [exec_gafCommit, foldl_gates_none, commitDomains_one, commitDomainsOf_accepted _ _ _ h]

theorem exec_commit_refused (s : State) (d : Fin 3) (all : Bool) (why item : Nat) (h : s.domainRefusal d.val = some (why, item)) :
    exec (commitOf d all) s = .next (if all then (s.refuseCommit d.val why item).setBit R.GAF_STATUS F.GAF_STATUS_ALL_REFUSED
      else s.refuseCommit d.val why item) := by
  rw [exec_gafCommit, foldl_gates_none, commitDomains_one, commitDomainsOf_refused _ _ _ _ _ h]

theorem exec_commit_gate (s : State) (g : Fin 32) (all : Bool) :
    exec (.gafCommit false false false all (BitVec.ofNat 32 (2 ^ g.val))) s = .next (s.gateCommit g.val) := by
  have no_domain : s.commitDomainsOf (commitDomains false false false) all = s := by cases all <;> rfl
  rw [exec_gafCommit, foldl_gates_one, no_domain]

theorem commitRefusals_some (s : State) (d : Fin 3) (h : (s.domainRefusal d.val).isSome = true) :
    (s.commitRefusals (commitDomains true true true)).isEmpty = false := by
  obtain ⟨f, hf⟩ := Option.isSome_iff_exists.mp h
  refine List.isEmpty_eq_false_iff.mpr (List.ne_nil_of_mem (a := (d.val, f)) (List.mem_filterMap.mpr ⟨d.val, ?_, by rw [hf]; rfl⟩))
  match d with
  | 0 | 1 | 2 => decide

theorem refuseAll_act (s : State) (l : List (Nat × Nat × Nat)) : (l.foldl (fun s e => s.refuseCommit e.1 e.2.1 e.2.2) s).act = s.act := by
  induction l generalizing s with
  | nil => rfl
  | cons e l ih => rw [List.foldl_cons, ih, State.refuseCommit_act]

/-- With ALL, one refusal keeps every domain's bank (R209). -/
theorem commitDomainsOf_all_refused (s : State) (ds : List Nat) (h : (s.commitRefusals ds).isEmpty = false) : s.commitDomainsOf ds true =
    ((s.commitRefusals ds).foldl (fun s e => s.refuseCommit e.1 e.2.1 e.2.2) s).setBit R.GAF_STATUS F.GAF_STATUS_ALL_REFUSED := by
  rw [State.commitDomainsOf, h, Bool.not_false, Bool.and_self, if_pos rfl, if_pos rfl, List.foldl_nil]

theorem exec_commit_all_refused (s : State) (d : Fin 3) (h : (s.domainRefusal d.val).isSome = true) :
    ∃ t, exec (.gafCommit true true true true 0) s = .next t ∧ t.act = s.act ∧ t.bit R.GAF_STATUS F.GAF_STATUS_ALL_REFUSED = true := by
  rw [exec_gafCommit, foldl_gates_none, commitDomainsOf_all_refused _ _ (commitRefusals_some s d h)]
  exact ⟨_, rfl, refuseAll_act _ _, State.bit_setBit _ _ _ (by decide) rfl⟩

/-! ### Where the records of a gate stand (R148, R150) -/

theorem inRanges_eq_true {rs : List (Nat × Nat)} {a : Nat} : inRanges rs a = true ↔ ∃ r ∈ rs, r.1 ≤ a ∧ a < r.2 := by
  simp [inRanges]

theorem inRanges_gateRange {g a : Nat} (hg : g < 32) (h : inRanges (gateRange g) a = true) : 0x2410000 ≤ a ∧ a < 0x2428000 := by
  obtain ⟨r, hr, lo, hi⟩ := inRanges_eq_true.mp h
  rcases List.mem_cons.mp hr with rfl | hr
  · exact ⟨by omega, by omega⟩
  · rw [List.mem_singleton.mp hr] at lo hi
    exact ⟨by omega, by omega⟩

/-- Ranges of extensions hold their XCFG and region records. -/
theorem inRanges_extRanges {exts : List Nat} {a : Nat} (small : ∀ j ∈ exts, j < 8) (h : inRanges (exts.flatMap extRange) a = true) :
    (∃ j ∈ exts, 0x2400100 + 8 * j ≤ a ∧ a < 0x2400108 + 8 * j) ∨ (0x2410000 ≤ a ∧ a < 0x2428000) := by
  obtain ⟨r, hr, lo, hi⟩ := inRanges_eq_true.mp h
  obtain ⟨j, hj, hr⟩ := List.mem_flatMap.mp hr
  rcases List.mem_cons.mp hr with rfl | hr
  · exact .inl ⟨j, hj, lo, hi⟩
  · exact .inr (inRanges_gateRange (by have := small j hj; omega) (inRanges_eq_true.mpr ⟨r, hr, lo, hi⟩))

theorem inRanges_gateRanges {g a : Nat} {exts : List Nat} (hg : g < 32) (small : ∀ j ∈ exts, j < 8)
    (h : inRanges (gateRanges g exts) a = true) :
    (∃ j ∈ exts, 0x2400100 + 8 * j ≤ a ∧ a < 0x2400108 + 8 * j) ∨ (0x2410000 ≤ a ∧ a < 0x2428000) := by
  obtain ⟨r, hr, within⟩ := inRanges_eq_true.mp h
  rcases List.mem_append.mp hr with hr | hr
  · exact .inr (inRanges_gateRange hg (inRanges_eq_true.mpr ⟨r, hr, within⟩))
  · exact inRanges_extRanges small (inRanges_eq_true.mpr ⟨r, hr, within⟩)

/-- An address of no XCFG and of no region or master-set record lies in no range of a gate. -/
theorem inRanges_gateRanges_outside {g a : Nat} {exts : List Nat} (hg : g < 32) (small : ∀ j ∈ exts, j < 8)
    (h : (a < 0x2400100 ∨ 0x2400140 ≤ a) ∧ (a < 0x2410000 ∨ 0x2428000 ≤ a)) : inRanges (gateRanges g exts) a = false := by
  refine Bool.eq_false_iff.mpr fun within => ?_
  rcases inRanges_gateRanges hg small within with ⟨j, hj, _, _⟩ | _
  · have := small j hj
    omega
  · omega

theorem inRanges_extRanges_outside {a : Nat} {exts : List Nat} (small : ∀ j ∈ exts, j < 8)
    (h : (a < 0x2400100 ∨ 0x2400140 ≤ a) ∧ (a < 0x2410000 ∨ 0x2428000 ≤ a)) : inRanges (exts.flatMap extRange) a = false := by
  refine Bool.eq_false_iff.mpr fun within => ?_
  rcases inRanges_extRanges small within with ⟨j, hj, _, _⟩ | _
  · have := small j hj
    omega
  · omega

/-- XCFG of an extension lies in the ranges of a gate only together with that extension. -/
theorem inRanges_gateRanges_xcfg {g j : Nat} {exts : List Nat} (hg : g < 32) (small : ∀ j ∈ exts, j < 8) (hj : j < 8) (out : j ∉ exts) :
    inRanges (gateRanges g exts) (R.GAT_XCFG j).addr = false := by
  refine Bool.eq_false_iff.mpr fun within => ?_
  rcases inRanges_gateRanges hg small within with ⟨k, hk, lo, hi⟩ | ⟨lo, _⟩
  · exact out ((show k = j by simp only [R.GAT_XCFG] at lo hi; omega) ▸ hk)
  · simp only [R.GAT_XCFG] at lo
    omega

/-! ### A gate is committed (R154, R155, R157) -/

/-- What a gate writes into its GSTAT when it refuses. -/
def State.gateRefused (s : State) (g why ga ra gb rb : Nat) : State :=
  let r := R.GAT_GSTAT g
  (((((s.put r F.GAT_GSTAT_COMMIT_BAD 1).put r F.GAT_GSTAT_BAD_WHY why).put r F.GAT_GSTAT_BAD_GATE_A ga).put r F.GAT_GSTAT_BAD_RGN_A ra).put
    r F.GAT_GSTAT_BAD_GATE_B gb).put r F.GAT_GSTAT_BAD_RGN_B rb

theorem State.gateCommit_refused {s : State} {g why ga ra gb rb : Nat} (h : s.gateRefusal g = some (why, ga, ra, gb, rb)) :
    s.gateCommit g = ((s.gateRefused g why ga ra gb rb).report FC.GAT_COMMIT UK.module 0 0 g why).event 42 := by
  rw [State.gateCommit, h, State.gateRefused]

section gateRefused
variable (s : State) (g why ga ra gb rb : Nat)

theorem State.gateRefused_bad : (s.gateRefused g why ga ra gb rb).bit (R.GAT_GSTAT g) F.GAT_GSTAT_COMMIT_BAD = true ∧
    (s.gateRefused g why ga ra gb rb).get (R.GAT_GSTAT g) F.GAT_GSTAT_BAD_WHY = why % 4 := by
  rw [State.gateRefused, State.bit]
  simp (disch := decide) only [State.get_put_field, State.get_put_same]
  exact ⟨rfl, rfl⟩

theorem State.gateRefused_only : Only [R.GAT_GSTAT g] s (s.gateRefused g why ga ra gb rb) := by
  have own : R.GAT_GSTAT g ∈ [R.GAT_GSTAT g] := List.mem_singleton_self _
  rw [State.gateRefused]
  exact (((((Only.put _ _ _ _ _ own).trans (Only.put _ _ _ _ _ own)).trans (Only.put _ _ _ _ _ own)).trans (Only.put _ _ _ _ _ own)).trans
    (Only.put _ _ _ _ _ own)).trans (Only.put _ _ _ _ _ own)

end gateRefused

section gateCommit
variable (s : State) (g : Nat)

/-- Extensions that the commit detaches have EN clear in the bank in force. -/
def State.leavesCleared : State := (s.gateLeaves g).foldl (fun s j => s.putAct (R.GAT_XCFG j) F.GAT_XCFG_EN 0) s

/-- The banks of the gate and of its extensions are exchanged; extensions that are attached no more have their copy at once. -/
def State.gateSwapped : State :=
  let s := s.leavesCleared g
  let exts := s.gateExts g
  let s := (s.gateAge g).swapBanks (inRanges (gateRanges g exts))
  s.copyBanks (inRanges ((exts.filter (fun j => !s.attached true g j)).flatMap extRange))

/-- The marks of an accepted commit: EPOCH rises, DRAINED and BOOT clear, COMMIT_PEND is set. -/
def State.gateAccepted : State :=
  ((((s.put (R.GAT_EPOCH g) F.GAT_EPOCH_EPOCH (s.get (R.GAT_EPOCH g) F.GAT_EPOCH_EPOCH + 1)).put (R.GAT_EPOCH g) F.GAT_EPOCH_DRAINED 0).put
    (R.GAT_GSTAT g) F.GAT_GSTAT_COMMIT_PEND 1).put (R.GAT_GSTAT g) F.GAT_GSTAT_BOOT 0)

theorem State.gateCommit_accepted (h : s.gateRefusal g = none) : s.gateCommit g = (s.gateSwapped g).gateAccepted g := by
  rw [State.gateCommit, h, State.gateAccepted, State.gateSwapped, State.leavesCleared]

theorem gateExts_small : ∀ j ∈ s.gateExts g, j < 8 := by
  unfold State.gateExts
  intro j hj
  split at hj
  · exact absurd hj List.not_mem_nil
  · exact List.mem_range.mp (List.mem_filter.mp hj).1

theorem gateLeaves_small : ∀ j ∈ s.gateLeaves g, j < 8 := fun _ hj => List.mem_range.mp (List.mem_filter.mp hj).1

theorem not_mem_gateExts_of_gateLeaves {j : Nat} (hj : j ∈ s.gateLeaves g) : j ∉ s.gateExts g := by
  have := (List.mem_filter.mp hj).2
  simp only [Bool.and_eq_true, Bool.not_eq_true', List.contains_eq_mem, decide_eq_false_iff_not] at this
  exact this.2

theorem State.leavesCleared_frame : { s.leavesCleared g with act := s.act } = s :=
  List.foldlRecOn (motive := fun t : State => { t with act := s.act } = s) _ _ rfl fun _ ht _ _ => ht

theorem State.leavesCleared_regs : (s.leavesCleared g).regs = s.regs := (congrArg State.regs (s.leavesCleared_frame g) :)
theorem State.leavesCleared_mem : (s.leavesCleared g).mem = s.mem := (congrArg State.mem (s.leavesCleared_frame g) :)
theorem State.leavesCleared_rd (r : RegRef) : (s.leavesCleared g).rd r = s.rd r := by
  rw [State.rd, State.leavesCleared_regs, State.rd]

theorem State.leavesCleared_rdAct_other (r : RegRef) (h : ∀ j ∈ s.gateLeaves g, r.addr ≠ (R.GAT_XCFG j).addr) :
    (s.leavesCleared g).rdAct r = s.rdAct r :=
  List.foldlRecOn (motive := fun t : State => t.rdAct r = s.rdAct r) _ _ rfl fun _ ht j hj =>
    (State.rdAct_wrAct_other _ _ _ _ (h j hj)).trans ht

theorem xcfg_addr_inj {i j : Nat} (h : (R.GAT_XCFG i).addr = (R.GAT_XCFG j).addr) : i = j := by
  simp only [R.GAT_XCFG] at h
  omega

theorem getAct_clear_xcfg (l : List Nat) (s : State) (j : Nat) (h : j ∈ l ∨ s.getAct (R.GAT_XCFG j) F.GAT_XCFG_EN = 0) :
    (l.foldl (fun s j => s.putAct (R.GAT_XCFG j) F.GAT_XCFG_EN 0) s).getAct (R.GAT_XCFG j) F.GAT_XCFG_EN = 0 := by
  induction l generalizing s with
  | nil => exact h.resolve_left List.not_mem_nil
  | cons i l ih =>
    refine ih _ ?_
    by_cases hij : j = i
    · subst hij
      exact .inr (State.getAct_putAct_same _ _ _ _ (by decide))
    · refine h.imp (fun hj => (List.mem_cons.mp hj).resolve_left hij) fun clear => ?_
      rw [State.getAct, State.rdAct_putAct_other _ _ _ _ _ fun e => hij (xcfg_addr_inj e)]
      exact clear

theorem State.leavesCleared_en {j : Nat} (h : j ∈ s.gateLeaves g) : (s.leavesCleared g).getAct (R.GAT_XCFG j) F.GAT_XCFG_EN = 0 :=
  getAct_clear_xcfg _ _ _ (.inl h)

/-- A commit takes the same extensions with it whether or not those that it detaches are cleared first. -/
theorem State.leavesCleared_gateExts : (s.leavesCleared g).gateExts g = s.gateExts g := by
  by_cases host : 24 ≤ g
  · rw [State.gateExts, State.gateExts, if_pos host, if_pos host]
  have shadow (j : Nat) : (s.leavesCleared g).attached false g j = s.attached false g j := by
    simp only [State.attached, State.leavesCleared_rd, Bool.false_eq_true, if_false]
  have exts (j : Nat) (hj : j < 8) : j ∈ s.gateExts g ↔
      (s.attached false g j || (s.attached true g j && s.get (R.GAT_XCFG j) F.GAT_XCFG_EN == 0)) = true := by
    rw [State.gateExts, if_neg host, List.mem_filter, List.mem_range, and_iff_right hj]
  rw [State.gateExts, if_neg host, State.gateExts, if_neg host]
  refine List.filter_congr fun j hj => ?_
  have en : (s.leavesCleared g).get (R.GAT_XCFG j) F.GAT_XCFG_EN = s.get (R.GAT_XCFG j) F.GAT_XCFG_EN := by
    rw [State.get, State.leavesCleared_rd, State.get]
  rw [shadow, en]
  by_cases leaf : j ∈ s.gateLeaves g
  · have detached : (s.leavesCleared g).attached true g j = false := by
      have en := s.leavesCleared_en g leaf
      rw [State.getAct, show F.GAT_XCFG_EN = ⟨5, 1⟩ from rfl] at en
      simp [State.attached, en]
    have out := (not_congr (exts j (List.mem_range.mp hj))).mp (not_mem_gateExts_of_gateLeaves s g leaf)
    rw [detached, Bool.false_and, Bool.or_false]
    simp only [Bool.or_eq_true, not_or, Bool.not_eq_true] at out
    rw [out.2, Bool.or_false]
  · have kept : (s.leavesCleared g).attached true g j = s.attached true g j := by
      simp only [State.attached, if_true]
      rw [State.leavesCleared_rdAct_other _ _ _ fun i hi e => leaf ((xcfg_addr_inj e : j = i) ▸ hi)]
    rw [kept]

theorem State.gateAge_frame : { s.gateAge g with gst := s.gst, lth := s.lth } = s := by
  unfold State.gateAge
  dsimp only
  split <;> rfl

theorem State.gateAge_rd (r : RegRef) : (s.gateAge g).rd r = s.rd r := (congrArg (State.rd · r) (s.gateAge_frame g) :)
theorem State.gateAge_rdAct (r : RegRef) : (s.gateAge g).rdAct r = s.rdAct r := (congrArg (State.rdAct · r) (s.gateAge_frame g) :)
theorem State.gateAge_mem : (s.gateAge g).mem = s.mem := (congrArg State.mem (s.gateAge_frame g) :)

/-- A commit makes the bank of every access behind the gate the previous one (R157). -/
theorem State.gateAge_bound : ∀ b ∈ (s.gateAge g).gst.bound, b.gate = g → b.old = true := by
  have aged : (s.gateAge g).gst.bound = s.gst.bound.map (fun b => if b.gate = g then { b with old := true } else b) := by
    unfold State.gateAge
    dsimp only
    split <;> rfl
  rw [aged]
  intro b hb own
  obtain ⟨c, -, rfl⟩ := List.mem_map.mp hb
  split at own
  · rename_i at_gate
    rw [if_pos at_gate]
  · contradiction

theorem State.gateSwapped_rdAct (r : RegRef) : (s.gateSwapped g).rdAct r =
    if inRanges (gateRanges g (s.gateExts g)) r.addr then s.rd r else (s.leavesCleared g).rdAct r := by
  rw [State.gateSwapped, s.leavesCleared_gateExts g]
  refine (State.rdAct_swapBanks _ _ _).trans ?_
  rw [State.gateAge_rd, State.leavesCleared_rd, State.gateAge_rdAct]

theorem State.gateSwapped_mem : (s.gateSwapped g).mem = s.mem := (State.gateAge_mem _ g).trans (s.leavesCleared_mem g)

theorem State.gateSwapped_bound : ∀ b ∈ (s.gateSwapped g).gst.bound, b.gate = g → b.old = true := State.gateAge_bound (s.leavesCleared g) g

/-- A register of no gate record reads as before. -/
theorem State.gateSwapped_rd_outside (hg : g < 32) (r : RegRef)
    (h : (r.addr < 0x2400100 ∨ 0x2400140 ≤ r.addr) ∧ (r.addr < 0x2410000 ∨ 0x2428000 ≤ r.addr)) : (s.gateSwapped g).rd r = s.rd r := by
  have small := gateExts_small s g
  rw [State.gateSwapped, s.leavesCleared_gateExts g, State.rd_copyBanks,
    inRanges_extRanges_outside (fun j hj => small j (List.mem_filter.mp hj).1) h, State.rd_swapBanks,
    inRanges_gateRanges_outside hg small h, if_neg Bool.false_ne_true, if_neg Bool.false_ne_true, State.gateAge_rd, State.leavesCleared_rd]

theorem State.gateAccepted_act : (s.gateAccepted g).act = s.act := by
  rw [State.gateAccepted, State.put_act, State.put_act, State.put_act, State.put_act]

theorem State.gateAccepted_mem : (s.gateAccepted g).mem = s.mem := by
  rw [State.gateAccepted, State.put_mem, State.put_mem, State.put_mem, State.put_mem]

theorem State.gateAccepted_gst : (s.gateAccepted g).gst = s.gst := by
  rw [State.gateAccepted, State.put_gst, State.put_gst, State.put_gst, State.put_gst]

theorem State.gateAccepted_marks :
    (s.gateAccepted g).get (R.GAT_EPOCH g) F.GAT_EPOCH_EPOCH = (s.get (R.GAT_EPOCH g) F.GAT_EPOCH_EPOCH + 1) % 2 ^ 16 ∧
      (s.gateAccepted g).bit (R.GAT_EPOCH g) F.GAT_EPOCH_DRAINED = false ∧
      (s.gateAccepted g).bit (R.GAT_GSTAT g) F.GAT_GSTAT_COMMIT_PEND = true ∧
      (s.gateAccepted g).bit (R.GAT_GSTAT g) F.GAT_GSTAT_BOOT = false := by
  have apart : (R.GAT_EPOCH g).addr ≠ (R.GAT_GSTAT g).addr := by
    simp only [R.GAT_EPOCH, R.GAT_GSTAT]
    omega
  rw [State.gateAccepted, State.bit, State.bit, State.bit]
  refine ⟨?_, ?_, ?_, ?_⟩
  · rw [State.get_put_other _ _ _ _ _ _ apart, State.get_put_other _ _ _ _ _ _ apart]
    simp (disch := decide) only [State.get_put_field, State.get_put_same]
    rfl
  · rw [State.get_put_other _ _ _ _ _ _ apart, State.get_put_other _ _ _ _ _ _ apart]
    simp (disch := decide) only [State.get_put_same]
    rfl
  · simp (disch := decide) only [State.get_put_field, State.get_put_same]
    rfl
  · simp (disch := decide) only [State.get_put_same]
    rfl

end gateCommit

/-! ### The old bank drains, and the new bank is copied (R157, R210) -/

theorem exec_epochDrained_only (s : State) (d : Fin 3) (pending : s.bit (R.GAF_EPSTAT d.val) F.GAF_EPSTAT_COMMIT_PEND = true)
    (drained : s.oldInflight d.val = 0) : ∃ t, exec (.epochDrained d) s = .next t ∧
      t.bit (R.GAF_EPSTAT d.val) F.GAF_EPSTAT_DRAINED = true ∧ Only [R.GAF_EPSTAT d.val] s t := by
  refine ⟨s.setBit (R.GAF_EPSTAT d.val) F.GAF_EPSTAT_DRAINED, ?_, State.bit_setBit _ _ _ (by decide) rfl,
    Only.put _ _ _ _ _ (List.mem_singleton_self _)⟩
  rw [exec, execEpochDrained, pending, drained]
  rfl

theorem exec_gateDrained_only (s : State) (g : Fin 32) (pending : s.bit (R.GAT_GSTAT g.val) F.GAT_GSTAT_COMMIT_PEND = true)
    (drained : s.gateOld g.val = 0) : ∃ t, exec (.gateDrained g) s = .next t ∧
      t.bit (R.GAT_EPOCH g.val) F.GAT_EPOCH_DRAINED = true ∧ Only [R.GAT_EPOCH g.val] s t := by
  refine ⟨s.setBit (R.GAT_EPOCH g.val) F.GAT_EPOCH_DRAINED, ?_, State.bit_setBit _ _ _ (by decide) rfl,
    Only.put _ _ _ _ _ (List.mem_singleton_self _)⟩
  rw [exec, execGateDrained, pending, drained]
  rfl

/-- The copy of a domain's bank, before its event and before the completions that waited. -/
def State.domainCopied (s : State) (d : Nat) : State :=
  let s := s.copyBanks (inDomain d)
  let s := if d = 1 then s.copyActionMemory else s
  let s := if d = 2 then s.put R.SCH_STATUS F.SCH_STATUS_COMMIT_PEND 0 else s
  s.put (R.GAF_EPSTAT d) F.GAF_EPSTAT_COMMIT_PEND 0

theorem exec_epochCopyDone (s : State) (d : Fin 3) (pending : s.bit (R.GAF_EPSTAT d.val) F.GAF_EPSTAT_COMMIT_PEND = true)
    (drained : s.bit (R.GAF_EPSTAT d.val) F.GAF_EPSTAT_DRAINED = true) : exec (.epochCopyDone d) s =
      .next (if d.val = 0 then ((s.domainCopied d.val).event 42).answerConfigs else (s.domainCopied d.val).event 42) := by
  rw [exec, execEpochCopyDone, pending, drained, State.domainCopied]
  rfl

section domainCopied
variable (s : State) (d : Nat)

/-- The copy of the action memories touches memory alone. -/
theorem State.actionCopied_frame (s : State) (d : Nat) : { (if d = 1 then s.copyActionMemory else s) with mem := s.mem } = s := by
  split <;> rfl

theorem State.domainCopied_act : (s.domainCopied d).act = s.act := by
  have copied := (congrArg State.act ((s.copyBanks (inDomain d)).actionCopied_frame d) :)
  rw [State.domainCopied, State.put_act]
  split
  · rw [State.put_act]
    exact copied
  · exact copied

theorem State.domainCopied_gaf : (s.domainCopied d).gaf = s.gaf := by
  have copied := (congrArg State.gaf ((s.copyBanks (inDomain d)).actionCopied_frame d) :)
  rw [State.domainCopied, State.put_gaf]
  split
  · rw [State.put_gaf]
    exact copied
  · exact copied

theorem State.domainCopied_mem (h : d ≠ 1) : (s.domainCopied d).mem = s.mem := by
  rw [State.domainCopied, State.put_mem, if_neg h]
  split
  · rw [State.put_mem]
    rfl
  · rfl

theorem State.domainCopied_rd (r : RegRef) (epstat : r.addr ≠ (R.GAF_EPSTAT d).addr) (status : d = 2 → r.addr ≠ R.SCH_STATUS.addr) :
    (s.domainCopied d).rd r = if inDomain d r.addr then s.rdAct r else s.rd r := by
  have copied := (congrArg (State.rd · r) ((s.copyBanks (inDomain d)).actionCopied_frame d) :)
  rw [State.domainCopied, State.rd_put_other _ _ _ _ _ epstat, ← State.rd_copyBanks]
  split
  · rename_i two
    rw [State.rd_put_other _ _ _ _ _ (status two)]
    exact copied
  · exact copied

end domainCopied

/-- What an accepted domain's copy leaves behind: both banks equal, COMMIT_PEND clear, event 42 (R210). -/
theorem domainCopied_event (s : State) (d : Fin 3) (u : State) (hu : u = (s.domainCopied d.val).event 42) :
    u.act = s.act ∧ (∀ r : RegRef, inDomain d.val r.addr = true → u.rd r = s.rdAct r) ∧
      (∀ r : RegRef, inDomain d.val r.addr = false → r.addr ≠ (R.GAF_EPSTAT d.val).addr →
        (d.val = 2 → r.addr ≠ R.SCH_STATUS.addr) → u.rd r = s.rd r) ∧
      u.bit (R.GAF_EPSTAT d.val) F.GAF_EPSTAT_COMMIT_PEND = false ∧ u.gaf = (s.event 42).gaf ∧ (d.val ≠ 1 → u.mem = s.mem) := by
  subst hu
  obtain ⟨epstat, status, route, wake⟩ := inDomain_outside d
  have outside (r : RegRef) (out : inDomain d.val r.addr = false) (e : r.addr ≠ (R.GAF_EPSTAT d.val).addr)
      (st : d.val = 2 → r.addr ≠ R.SCH_STATUS.addr) : (s.domainCopied d.val).rd r = s.rd r := by
    rw [s.domainCopied_rd d.val r e st, out]
    rfl
  refine ⟨by rw [State.event_act, State.domainCopied_act], fun r within => ?_, fun r out e st => ?_, ?_, ?_, fun h => ?_⟩
  · have apart (q : RegRef) (hq : inDomain d.val q.addr = false) : r.addr ≠ q.addr := fun e => by rw [e, hq] at within; cases within
    rw [State.rd_event, s.domainCopied_rd d.val r (apart _ epstat) fun _ => apart _ status, within]
    rfl
  · rw [State.rd_event, outside r out e st]
  · rw [State.bit_event, State.domainCopied, State.bit_put_same _ _ _ _ (by decide)]
    rfl
  · refine State.event_gaf_congr 42 (s.domainCopied_gaf d.val) (outside _ route ?_ fun _ => by decide)
      (outside _ wake ?_ fun _ => by decide)
    · simp only [R.GAF_EVROUTE, R.GAF_EPSTAT]
      omega
    · simp only [R.EMB_WAKEMASK, R.GAF_EPSTAT]
      omega
  · rw [State.event_mem, s.domainCopied_mem d.val h]

theorem exec_gateCopyDone (s : State) (g : Fin 32) (pending : s.bit (R.GAT_GSTAT g.val) F.GAT_GSTAT_COMMIT_PEND = true)
    (drained : s.bit (R.GAT_EPOCH g.val) F.GAT_EPOCH_DRAINED = true) :
    exec (.gateCopyDone g) s = .next ((s.gateCopy g.val).event 42) := by
  rw [exec, execGateCopyDone, pending, drained]
  rfl

/-- The extensions that a gate's copy takes with it: those attached in the bank in force. -/
abbrev State.gateAttached (s : State) (g : Nat) : List Nat := (List.range 8).filter (fun j => s.attached true g j)

theorem gateAttached_small (s : State) (g : Nat) : ∀ j ∈ s.gateAttached g, j < 8 :=
  fun _ hj => List.mem_range.mp (List.mem_filter.mp hj).1

theorem State.gateCopy_rd (s : State) (g : Nat) (r : RegRef) (h : r.addr ≠ (R.GAT_GSTAT g).addr) :
    (s.gateCopy g).rd r = if inRanges (gateRanges g (s.gateAttached g)) r.addr then s.rdAct r else s.rd r := by
  rw [State.gateCopy, State.rd_put_other _ _ _ _ _ h, State.rd_copyBanks]

/-- GSTAT of a gate, and the registers that route and wake events, lie in no range of a gate. -/
theorem gstat_outside (g : Fin 32) : ((R.GAT_GSTAT g.val).addr < 0x2400100 ∨ 0x2400140 ≤ (R.GAT_GSTAT g.val).addr) ∧
    ((R.GAT_GSTAT g.val).addr < 0x2410000 ∨ 0x2428000 ≤ (R.GAT_GSTAT g.val).addr) := by
  simp only [R.GAT_GSTAT]
  omega

/-- What a gate's copy leaves behind: both banks equal, COMMIT_PEND clear, event 42 (R157). -/
theorem gateCopy_event (s : State) (g : Fin 32) :
    ((s.gateCopy g.val).event 42).act = s.act ∧
      (∀ r : RegRef, inRanges (gateRanges g.val (s.gateAttached g.val)) r.addr = true → ((s.gateCopy g.val).event 42).rd r = s.rdAct r) ∧
      (∀ r : RegRef, inRanges (gateRanges g.val (s.gateAttached g.val)) r.addr = false → r.addr ≠ (R.GAT_GSTAT g.val).addr →
        ((s.gateCopy g.val).event 42).rd r = s.rd r) ∧
      ((s.gateCopy g.val).event 42).bit (R.GAT_GSTAT g.val) F.GAT_GSTAT_COMMIT_PEND = false ∧
      ((s.gateCopy g.val).event 42).gaf = (s.event 42).gaf ∧ ((s.gateCopy g.val).event 42).mem = s.mem := by
  have small := gateAttached_small s g.val
  have outside (r : RegRef) (out : inRanges (gateRanges g.val (s.gateAttached g.val)) r.addr = false)
      (own : r.addr ≠ (R.GAT_GSTAT g.val).addr) : (s.gateCopy g.val).rd r = s.rd r := by
    rw [s.gateCopy_rd _ _ own, out]
    rfl
  have gaf : (s.gateCopy g.val).gaf = s.gaf := by
    rw [State.gateCopy, State.put_gaf]
    rfl
  refine ⟨?_, fun r within => ?_, fun r out own => ?_, ?_, State.event_gaf_congr 42 gaf (outside _ ?_ ?_) (outside _ ?_ ?_), ?_⟩
  · rw [State.event_act, State.gateCopy, State.put_act]
    rfl
  · have own : r.addr ≠ (R.GAT_GSTAT g.val).addr := fun e => by
      rw [e, inRanges_gateRanges_outside g.isLt small (gstat_outside g)] at within
      cases within
    rw [State.rd_event, s.gateCopy_rd _ _ own, within]
    rfl
  · rw [State.rd_event, outside r out own]
  · rw [State.bit_event, State.gateCopy, State.bit_put_same _ _ _ _ (by decide)]
    rfl
  · exact inRanges_gateRanges_outside g.isLt small (by decide)
  · simp only [R.GAF_EVROUTE, R.GAT_GSTAT]
    omega
  · exact inRanges_gateRanges_outside g.isLt small (by decide)
  · simp only [R.EMB_WAKEMASK, R.GAT_GSTAT]
    omega
  · rw [State.event_mem, State.gateCopy, State.put_mem]
    rfl

/-! ### Reserves and retired cells (R44, R57) -/

theorem SMap.get_foldl_set (f : Nat → Nat) (l : List Nat) (m : SMap Nat) (d a : Nat) :
    SMap.get (l.foldl (fun m q => SMap.set m d q (f q)) m) d a = if a ∈ l then f a else SMap.get m d a := by
  induction l generalizing m with
  | nil => rfl
  | cons q l ih =>
    rw [List.foldl_cons, ih]
    by_cases later : a ∈ l
    · rw [if_pos later, if_pos (List.mem_cons_of_mem _ later)]
    rw [if_neg later]
    by_cases here : a = q
    · rw [here, SMap.get_set_same, if_pos List.mem_cons_self]
    · rw [SMap.get_set_other _ _ _ _ _ here, if_neg (by simp [here, later])]

/-- The reserves that a commit puts in force are those that the COQCFG registers read. -/
theorem get_newResv (s : State) (q : Nat) (h : q < 2064) : SMap.get s.newResv 32 q = s.get (R.CRU_COQCFG q) F.CRU_COQCFG_RESV := by
  rw [State.newResv, SMap.get_foldl_set]
  split
  · rfl
  · rename_i same
    rw [State.pendingResv, List.mem_filter, List.mem_range, and_iff_right h, bne_iff_ne, not_not] at same
    exact same.symm

theorem res_committed (s u : State) (hu : u = { s with cru := { s.cru with resv := s.newResv } }) (q : Nat) (h : q < 2064) :
    u.res q = s.get (R.CRU_COQCFG q) F.CRU_COQCFG_RESV := by
  rw [State.res, hu, get_newResv s q h]

theorem exec_cruCommit_accepted (s u : State) (hu : u = { s with cru := { s.cru with resv := s.newResv } })
    (room : u.sumRes + s.retired.length + s.get R.CRU_MINSHARED F.CRU_MINSHARED_MIN_SHARED ≤ cellCount) :
    exec (.cruCommit true) s = .next u := by
  subst hu
  rw [exec, execCruCommit]
  exact if_neg (Nat.not_lt.mpr room)

theorem exec_cruCommit_refused (s u : State) (hu : u = { s with cru := { s.cru with resv := s.newResv } })
    (full : cellCount < u.sumRes + s.retired.length + s.get R.CRU_MINSHARED F.CRU_MINSHARED_MIN_SHARED) :
    exec (.cruCommit true) s = .next (s.setBit R.CRU_STATUS F.CRU_STATUS_COMMIT_BAD) := by
  subst hu
  rw [exec, execCruCommit]
  exact if_pos full

section retireCell
variable (s : State) (c : Nat)

theorem State.retireCell_known (h : s.retired.contains c = true ∨ s.cru.due.contains c = true) : s.retireCell c = s := by
  rw [State.retireCell, if_pos h]

variable {s c} in
theorem not_known (fresh : s.retired.contains c = false) (waits : s.cru.due.contains c = false) :
    ¬ (s.retired.contains c = true ∨ s.cru.due.contains c = true) := by
  rw [fresh, waits]
  decide

theorem State.retireCell_used (fresh : s.retired.contains c = false) (waits : s.cru.due.contains c = false)
    (used : SMap.get s.cru.refs 0 c ≠ 0) : s.retireCell c = { s with cru := { s.cru with due := c :: s.cru.due } } := by
  rw [State.retireCell, if_neg (not_known fresh waits), if_neg used]

theorem filter_due_fresh (l : List Nat) (h : l.contains c = false) : (c :: l).filter (· != c) = l := by
  rw [List.filter_cons_of_neg (by simp)]
  refine List.filter_eq_self.mpr fun x hx => bne_iff_ne.mpr fun e => ?_
  rw [List.contains_eq_mem, decide_eq_false_iff_not] at h
  exact h (e ▸ hx)

/-- A free cell goes at once into the first entry of the list of retired cells that is not in use. -/
theorem State.retireCell_free (fresh : s.retired.contains c = false) (waits : s.cru.due.contains c = false)
    (free : SMap.get s.cru.refs 0 c = 0) (room : s.retired.length < 1024) : s.retireCell c =
      { s with cru := { s.cru with refs := SMap.set s.cru.refs 0 c 0 } }.wr (R.CRU_RETLIST s.retired.length) (c + 2 ^ 20) := by
  rw [State.retireCell, if_neg (not_known fresh waits), if_pos free, State.freeCell, if_pos (by simp)]
  refine (if_pos room).trans ?_
  rw [filter_due_fresh _ _ waits]
  rfl

end retireCell

theorem exec_cruRetadd_free (s : State) (c : Fin 786432) (fresh : s.retired.contains c.val = false)
    (waits : s.cru.due.contains c.val = false) (free : SMap.get s.cru.refs 0 c.val = 0) (room : s.retired.length < 1024) :
    ∃ t, exec (.cruRetadd c true) s = .next t ∧ t.rd (R.CRU_RETLIST s.retired.length) = c.val + 2 ^ 20 ∧ t.cru.due = s.cru.due ∧
      Only [R.CRU_RETLIST s.retired.length] { s with cru := t.cru } t := by
  have fits : c.val + 2 ^ 20 < 2 ^ 64 := by omega
  refine ⟨_, congrArg Host.Outcome.next (s.retireCell_free c.val fresh waits free room), ?_, ?_, ?_⟩
  · rw [State.rd_wr, Nat.mod_eq_of_lt fits]
  · rw [State.wr_cru]
  · rw [State.wr_cru]
    exact Only.wr _ _ _ _ (List.mem_singleton_self _)

/-! ### The obligation -/

theorem exec_commit_domain (s : State) (d : Fin 3) (all : Bool) (h : s.domainRefusal d.val = none) :
    ∃ t, exec (commitOf d all) s = .next t ∧
      (∀ r : RegRef, inDomain d.val r.addr = true → t.rdAct r = s.rd r ∧ t.rd r = s.rdAct r) ∧
      (∀ r : RegRef, inDomain d.val r.addr = false → t.rdAct r = s.rdAct r ∧
        (r.addr ≠ (R.GAF_EPSTAT d.val).addr →
          (d.val = 2 → r.addr ≠ R.SCH_STATUS.addr ∧ ∀ p, p < 512 → r.addr ≠ (R.SCH_PORTCR p).addr) → t.rd r = s.rd r)) ∧
      t.get (R.GAF_EPSTAT d.val) F.GAF_EPSTAT_EPOCH = (s.get (R.GAF_EPSTAT d.val) F.GAF_EPSTAT_EPOCH + 1) % 2 ^ 16 ∧
      t.bit (R.GAF_EPSTAT d.val) F.GAF_EPSTAT_DRAINED = false ∧ t.bit (R.GAF_EPSTAT d.val) F.GAF_EPSTAT_COMMIT_PEND = true ∧
      t.mem = s.mem := by
  obtain ⟨epoch, drained, pending⟩ := s.swapDomain_epstat d
  refine ⟨_, exec_commit_accepted s d all h, fun r within => ⟨?_, ?_⟩, fun r out => ⟨?_, fun epstat scheduler => ?_⟩, epoch, drained,
    pending, s.swapDomain_mem _⟩
  · rw [s.swapDomain_rdAct, if_pos within]
  · rw [s.swapDomain_rd _ _ (not_commitShows_of_inDomain within), if_pos within]
  · rw [s.swapDomain_rdAct, out, if_neg Bool.false_ne_true]
  · rw [s.swapDomain_rd, out, if_neg Bool.false_ne_true]
    rintro (e | ⟨two, e | ⟨p, hp, e⟩⟩)
    · exact epstat e
    · exact (scheduler two).1 e
    · exact (scheduler two).2 p hp e

theorem exec_commit_domain_refused (s : State) (d : Fin 3) (all : Bool) (why item : Nat) (h : s.domainRefusal d.val = some (why, item)) :
    ∃ t, exec (commitOf d all) s = .next t ∧ t.act = s.act ∧
      t.bit (R.GAF_EPSTAT d.val) F.GAF_EPSTAT_COMMIT_BAD = true ∧
      t.get (R.GAF_EPSTAT d.val) F.GAF_EPSTAT_BAD_WHY = why % 2 ^ 4 ∧
      t.get (R.GAF_EPSTAT d.val) F.GAF_EPSTAT_BAD_ITEM = item % 2 ^ 16 ∧
      (∀ r : RegRef, r.addr ≠ (R.GAF_EPSTAT d.val).addr → r.addr ≠ R.GAF_STATUS.addr → t.rd r = s.rd r) ∧
      (all = true → t.bit R.GAF_STATUS F.GAF_STATUS_ALL_REFUSED = true) ∧ t.mem = s.mem := by
  obtain ⟨bad, hwhy, hitem⟩ := s.refuseCommit_epstat d.val why item
  have apart : (R.GAF_EPSTAT d.val).addr ≠ R.GAF_STATUS.addr := by
    simp only [R.GAF_EPSTAT, R.GAF_STATUS]
    omega
  refine ⟨_, exec_commit_refused s d all why item h, ?_⟩
  cases all with
  | false => exact ⟨State.refuseCommit_act _ _ _ _, bad, hwhy, hitem, fun r own _ => s.refuseCommit_rd _ _ _ _ own, nofun,
      State.refuseCommit_mem _ _ _ _⟩
  | true =>
    rw [if_pos rfl, State.setBit]
    refine ⟨?_, ?_, ?_, ?_, fun r own status => ?_, fun _ => State.bit_setBit _ _ _ (by decide) rfl, ?_⟩
    · rw [State.put_act, State.refuseCommit_act]
    · rw [State.bit_put_other _ _ _ _ _ _ apart, bad]
    · rw [State.get_put_other _ _ _ _ _ _ apart, hwhy]
    · rw [State.get_put_other _ _ _ _ _ _ apart, hitem]
    · rw [State.rd_put_other _ _ _ _ _ status, s.refuseCommit_rd _ _ _ _ own]
    · rw [State.put_mem, State.refuseCommit_mem]

theorem exec_commit_gate_accepted (s : State) (g : Fin 32) (all : Bool) (h : s.gateRefusal g.val = none) :
    ∃ t, exec (.gafCommit false false false all (BitVec.ofNat 32 (2 ^ g.val))) s = .next t ∧
      (∀ r : RegRef, inRanges (gateRanges g.val (s.gateExts g.val)) r.addr = true → t.rdAct r = s.rd r) ∧
      (∀ r : RegRef, inRanges (gateRanges g.val (s.gateExts g.val)) r.addr = false →
        (∀ j ∈ s.gateLeaves g.val, r.addr ≠ (R.GAT_XCFG j).addr) → t.rdAct r = s.rdAct r) ∧
      (∀ j ∈ s.gateLeaves g.val, t.getAct (R.GAT_XCFG j) F.GAT_XCFG_EN = 0) ∧
      (∀ b ∈ t.gst.bound, b.gate = g.val → b.old = true) ∧
      t.get (R.GAT_EPOCH g.val) F.GAT_EPOCH_EPOCH = (s.get (R.GAT_EPOCH g.val) F.GAT_EPOCH_EPOCH + 1) % 2 ^ 16 ∧
      t.bit (R.GAT_EPOCH g.val) F.GAT_EPOCH_DRAINED = false ∧ t.bit (R.GAT_GSTAT g.val) F.GAT_GSTAT_COMMIT_PEND = true ∧
      t.bit (R.GAT_GSTAT g.val) F.GAT_GSTAT_BOOT = false ∧ t.mem = s.mem := by
  obtain ⟨epoch, drained, pending, boot⟩ := (s.gateSwapped g.val).gateAccepted_marks g.val
  have rdAct (r : RegRef) : ((s.gateSwapped g.val).gateAccepted g.val).rdAct r = (s.gateSwapped g.val).rdAct r := by
    rw [State.rdAct, State.gateAccepted_act, State.rdAct]
  have kept : (s.gateSwapped g.val).get (R.GAT_EPOCH g.val) F.GAT_EPOCH_EPOCH = s.get (R.GAT_EPOCH g.val) F.GAT_EPOCH_EPOCH := by
    rw [State.get, s.gateSwapped_rd_outside g.val g.isLt, State.get]
    simp only [R.GAT_EPOCH]
    omega
  rw [kept] at epoch
  refine ⟨_, (exec_commit_gate s g all).trans (congrArg _ (s.gateCommit_accepted g.val h)), fun r within => ?_, fun r out leaves => ?_,
    fun j leaf => ?_, ?_, epoch, drained, pending, boot, ?_⟩
  · rw [rdAct, s.gateSwapped_rdAct, if_pos within]
  · rw [rdAct, s.gateSwapped_rdAct, out, if_neg Bool.false_ne_true, s.leavesCleared_rdAct_other g.val r leaves]
  · rw [State.getAct, rdAct, s.gateSwapped_rdAct, inRanges_gateRanges_xcfg g.isLt (gateExts_small s g.val) (gateLeaves_small s g.val j leaf)
      (not_mem_gateExts_of_gateLeaves s g.val leaf), if_neg Bool.false_ne_true]
    exact s.leavesCleared_en g.val leaf
  · rw [State.gateAccepted_gst]
    exact s.gateSwapped_bound g.val
  · rw [State.gateAccepted_mem, s.gateSwapped_mem]

theorem exec_commit_gate_refused (s : State) (g : Fin 32) (all : Bool) (why : Nat) (x : Nat × Nat × Nat × Nat)
    (h : s.gateRefusal g.val = some (why, x)) :
    ∃ t, exec (.gafCommit false false false all (BitVec.ofNat 32 (2 ^ g.val))) s = .next t ∧ t.act = s.act ∧
      t.bit (R.GAT_GSTAT g.val) F.GAT_GSTAT_COMMIT_BAD = true ∧ t.get (R.GAT_GSTAT g.val) F.GAT_GSTAT_BAD_WHY = why % 4 ∧
      (∀ r : RegRef, r.addr ≠ (R.GAT_GSTAT g.val).addr → t.rd r = s.rd r) ∧ t.mem = s.mem := by
  obtain ⟨ga, ra, gb, rb⟩ := x
  have only := s.gateRefused_only g.val why ga ra gb rb
  obtain ⟨bad, hwhy⟩ := s.gateRefused_bad g.val why ga ra gb rb
  refine ⟨_, (exec_commit_gate s g all).trans (congrArg _ (State.gateCommit_refused h)), ?_, ?_, ?_, fun r own => ?_, ?_⟩
  · rw [State.event_act, State.report_act, only.act_eq]
  · rw [State.bit_event, State.bit_report, bad]
  · rw [State.get_event, State.get_report, hwhy]
  · rw [State.rd_event, State.rd_report, only.2 r (by simpa using own)]
  · rw [State.event_mem, State.report_mem, only.mem_eq]

/-- Settles O41, clause by clause: an exchange or a copy of banks is an overlay of one bank's table on the other's, so that each register
reads from the bank that its address selects. -/
theorem banksAreCommittedDrainedAndCopied : Obligations.BanksAreCommittedDrainedAndCopied := by
  unfold Obligations.BanksAreCommittedDrainedAndCopied
  refine ⟨fun s d all => ⟨exec_commit_domain s d all, exec_commit_domain_refused s d all, exec_commit_all_refused s d⟩, ?_,
    fun s d => ⟨exec_epochDrained_only s d, fun idle => ?_, fun pending drained => ?_, fun waits => ?_⟩,
    fun s g => ⟨exec_gateDrained_only s g, fun waits => ?_, ?_, fun waits => ?_⟩,
    fun s u hu => ⟨fun room => ⟨exec_cruCommit_accepted s u hu room, fun q hq => ?_⟩, exec_cruCommit_refused s u hu, rfl⟩,
    fun s c => ⟨fun known => congrArg Host.Outcome.next (s.retireCell_known c.val known), fun fresh waits =>
      ⟨fun used => congrArg Host.Outcome.next (s.retireCell_used c.val fresh waits used), exec_cruRetadd_free s c fresh waits⟩, rfl⟩⟩
  · rintro s g all _ rfl
    exact ⟨exec_commit_gate_accepted s g all, exec_commit_gate_refused s g all⟩
  · rw [exec, execEpochDrained, idle]
    rfl
  · exact ⟨_, exec_epochCopyDone s d pending drained, domainCopied_event s d _ rfl⟩
  · rw [exec, execEpochCopyDone, waits, Bool.and_false]
    rfl
  · rw [exec, execGateDrained, beq_false_of_ne waits, Bool.and_false]
    rfl
  · rintro pending drained _ rfl
    exact ⟨_, exec_gateCopyDone s g pending drained, gateCopy_event s g⟩
  · rw [exec, execGateCopyDone, waits, Bool.and_false]
    rfl
  · exact res_committed s u hu q hq

end Sys2Proof.Machine
end

section
/-!
PROOFS. Counting an event (R377 to R385) leaves every register outside TAL, and all state but the counters', as it was.
-/
namespace Sys2Proof.Machine

/-- `t` is `s` but for what counting an event may change: registers of TAL and of its sample buffer, the sampling state, the free value of
LATENCY, and the cores, which an event may reach. -/
def Counted (s t : State) : Prop :=
  { t with regs := s.regs, gaf := s.gaf, freeCtr := s.freeCtr, smpSeen := s.smpSeen, smpBeat := s.smpBeat } = s ∧
    ∀ r : RegRef, ¬ r.counts → t.rd r = s.rd r

namespace Counted

theorem refl (s : State) : Counted s s := ⟨rfl, fun _ _ => rfl⟩

variable {s t u : State}

theorem trans (h : Counted s t) (k : Counted t u) : Counted s u :=
  ⟨(congrArg (fun x : State =>
      { x with regs := s.regs, gaf := s.gaf, freeCtr := s.freeCtr, smpSeen := s.smpSeen, smpBeat := s.smpBeat }) k.1).trans h.1,
    fun r out => (k.2 r out).trans (h.2 r out)⟩

theorem wr (h : Counted s t) (r : RegRef) (v : Nat) (hr : r.counts) : Counted s (t.wr r v) :=
  h.trans ⟨rfl, fun _ out => State.rd_wr_other _ _ _ _ fun e => out (by rwa [RegRef.counts, e])⟩

theorem put (h : Counted s t) (r : RegRef) (f : Fld) (v : Nat) (hr : r.counts) : Counted s (t.put r f v) := h.wr r _ hr

theorem bump (h : Counted s t) (r : RegRef) (f : Fld) (n : Nat) (hr : r.counts) : Counted s (t.bump r f n) := h.wr r _ hr

theorem event (h : Counted s t) (b : Nat) : Counted s (t.event b) :=
  h.trans ⟨(congrArg (fun x : State => { x with regs := t.regs, freeCtr := t.freeCtr, smpSeen := t.smpSeen, smpBeat := t.smpBeat })
      (t.event_frame b) :),
    fun r _ => t.rd_event b r⟩

theorem free (h : Counted s t) : Counted s t.free.2 := h.trans ⟨rfl, fun _ _ => rfl⟩
theorem seen (h : Counted s t) (n : Nat) : Counted s { t with smpSeen := n } := h.trans ⟨rfl, fun _ _ => rfl⟩
theorem sampled (h : Counted s t) (b : Nat × Nat) : Counted s { t with smpBeat := b } := h.trans ⟨rfl, fun _ _ => rfl⟩

theorem ite {p : Prop} [Decidable p] (h : Counted s t) (k : Counted s u) : Counted s (if p then t else u) := by
  split
  · exact h
  · exact k

theorem foldl {α : Type} (f : State → α → State) (l : List α) (h : Counted s t) (step : ∀ u a, a ∈ l → Counted u (f u a)) :
    Counted s (l.foldl f t) :=
  List.foldlRecOn (motive := Counted s) l f h fun u hu a ha => hu.trans (step u a ha)

theorem mem_eq (h : Counted s t) : t.mem = s.mem := (congrArg State.mem h.1 :)
theorem act_eq (h : Counted s t) : t.act = s.act := (congrArg State.act h.1 :)
theorem flt_eq (h : Counted s t) : t.flt = s.flt := (congrArg State.flt h.1 :)
theorem reports_eq (h : Counted s t) : t.reports = s.reports := (congrArg State.reports h.1 :)

end Counted

theorem smpbuf_counts (r w : Nat) (hr : r < 4096) (hw : w < 4) : (R.SMPBUF r w).counts := by
  simp only [RegRef.counts, R.SMPBUF]
  omega

theorem State.sampleWrite_counted (s : State) (e : Ev) : Counted s (s.sampleWrite e) := by
  unfold State.sampleWrite
  extract_lets here made before wr r
  split
  · exact (Counted.refl s).bump _ _ _ ⟨by decide, by decide⟩
  have hmade : Counted s made := by
    refine Counted.ite ?_ (Counted.refl s)
    exact ((Counted.refl s).put _ _ _ ⟨by decide, by decide⟩).bump _ _ _ ⟨by decide, by decide⟩
  have hr : r < 4096 := Nat.mod_lt _ (by decide)
  have hfree := hmade.free
  clear_value made before r
  split
  rename_i lat drawn drew
  rw [drew] at hfree
  extract_lets w0 w1 w2 w3 moved w th
  have h0 : Counted s w0 := hfree.wr _ _ (smpbuf_counts r 0 hr (by decide))
  have h1 : Counted s w1 := h0.wr _ _ (smpbuf_counts r 1 hr (by decide))
  have h2 : Counted s w2 := h1.wr _ _ (smpbuf_counts r 2 hr (by decide))
  have h3 : Counted s w3 := h2.wr _ _ (smpbuf_counts r 3 hr (by decide))
  have hmoved : Counted s moved := h3.put _ _ _ ⟨by decide, by decide⟩
  have hw : Counted s w := hmoved.sampled (w3.now, here + 1)
  clear_value w
  exact Counted.ite (hw.event 40) hw

theorem State.sample_counted (s : State) (e : Ev) : Counted s (s.sample e) := by
  unfold State.sample
  split
  · extract_lets n
    have seen := (Counted.refl s).seen (n + 1)
    exact Counted.ite (seen.trans (State.sampleWrite_counted _ e)) seen
  · exact (Counted.refl s).put _ _ _ ⟨by decide, by decide⟩

/-- Counters stand in 512 places. -/
theorem tallyOn_small (s : State) : ∀ i ∈ s.tallyOn, i < 512 := by
  intro i hi
  obtain ⟨e, -, he⟩ := List.mem_filterMap.mp hi
  split at he
  · rename_i place
    extract_lets j at he
    split at he
    · have same : j = i := Option.some.inj he
      omega
    · cases he
  · cases he

theorem State.tallyAdd_counted (s : State) (i w : Nat) (hi : i < 512) : Counted s (s.tallyAdd i w) := by
  have cnt : (R.TAL_CNT i).counts := by
    simp only [RegRef.counts, R.TAL_CNT]
    omega
  have wrap : (R.TAL_WRAP (i / 64)).counts := by
    simp only [RegRef.counts, R.TAL_WRAP]
    omega
  exact Counted.ite (((Counted.refl s).wr _ _ cnt).wr _ _ wrap) ((Counted.refl s).wr _ _ cnt)

theorem State.tallyOne_counted (s : State) (e : Ev) (i : Nat) (hi : i < 512) : Counted s (State.tallyOne e s i) := by
  unfold State.tallyOne
  have added := s.tallyAdd_counted i e.weight hi
  exact Counted.ite (Counted.ite (added.trans (State.sample_counted _ e)) added) (Counted.refl s)

theorem State.tally_counted (s : State) (e : Ev) : Counted s (s.tally e) :=
  Counted.ite (Counted.refl s) (Counted.foldl _ _ (Counted.refl s) fun t i hi => t.tallyOne_counted e i (tallyOn_small s i hi))

end Sys2Proof.Machine
end

section
/-!
PROOFS. Fault records (R361 to R364): their registers, what opening a record and merging into it do, what follows (R365), and which of these
the placing of a report comes to. Placing counts first, which no record sees.
-/
namespace Sys2Proof.Machine

/-! ### Registers of the fault records -/

/-- Registers of FLT. -/
def RegRef.faults (r : RegRef) : Prop := 0x2A00000 ≤ r.addr ∧ r.addr < 0x2A02000

theorem RegRef.faults.not_counts {r : RegRef} (h : r.faults) : ¬ r.counts := by
  simp only [RegRef.faults, RegRef.counts] at *
  omega

section faults
variable {r : Nat} (h : r < 64)
include h

theorem codecfg_faults : (R.FLT_CODECFG r).faults := by
  simp only [RegRef.faults, R.FLT_CODECFG]
  omega
theorem reca_faults : (R.FLT_RECA r).faults := by
  simp only [RegRef.faults, R.FLT_RECA]
  omega
theorem recb_faults : (R.FLT_RECB r).faults := by
  simp only [RegRef.faults, R.FLT_RECB]
  omega

end faults

theorem flt_ctl_faults : R.FLT_CTL.faults := ⟨by decide, by decide⟩
theorem flt_cnt_faults : R.FLT_CNT.faults := ⟨by decide, by decide⟩

/-- The parts of records stand apart: one part of two records, and two parts whatever the records. -/
theorem reca_ne_reca {i j : Nat} (h : i ≠ j) : (R.FLT_RECA i).addr ≠ (R.FLT_RECA j).addr := by
  simp only [R.FLT_RECA]
  omega
theorem reca_ne_recb (i j : Nat) : (R.FLT_RECA i).addr ≠ (R.FLT_RECB j).addr := by
  simp only [R.FLT_RECA, R.FLT_RECB]
  omega
theorem reca_ne_recc (i j : Nat) : (R.FLT_RECA i).addr ≠ (R.FLT_RECC j).addr := by
  simp only [R.FLT_RECA, R.FLT_RECC]
  omega
theorem reca_ne_recd (i j : Nat) : (R.FLT_RECA i).addr ≠ (R.FLT_RECD j).addr := by
  simp only [R.FLT_RECA, R.FLT_RECD]
  omega
theorem reca_ne_rece (i j : Nat) : (R.FLT_RECA i).addr ≠ (R.FLT_RECE j).addr := by
  simp only [R.FLT_RECA, R.FLT_RECE]
  omega
theorem recb_ne_recc (i j : Nat) : (R.FLT_RECB i).addr ≠ (R.FLT_RECC j).addr := by
  simp only [R.FLT_RECB, R.FLT_RECC]
  omega
theorem recb_ne_recd (i j : Nat) : (R.FLT_RECB i).addr ≠ (R.FLT_RECD j).addr := by
  simp only [R.FLT_RECB, R.FLT_RECD]
  omega
theorem recb_ne_rece (i j : Nat) : (R.FLT_RECB i).addr ≠ (R.FLT_RECE j).addr := by
  simp only [R.FLT_RECB, R.FLT_RECE]
  omega
theorem recc_ne_recd (i j : Nat) : (R.FLT_RECC i).addr ≠ (R.FLT_RECD j).addr := by
  simp only [R.FLT_RECC, R.FLT_RECD]
  omega
theorem recc_ne_rece (i j : Nat) : (R.FLT_RECC i).addr ≠ (R.FLT_RECE j).addr := by
  simp only [R.FLT_RECC, R.FLT_RECE]
  omega
theorem recd_ne_rece (i j : Nat) : (R.FLT_RECD i).addr ≠ (R.FLT_RECE j).addr := by
  simp only [R.FLT_RECD, R.FLT_RECE]
  omega

/-- EMB_BEAT is no register of a record, so that opening or merging reads one time. -/
theorem beats_wr (s : State) (r : RegRef) (v : Nat) (h : r.faults) : (s.wr r v).beats = s.beats :=
  State.rd_wr_other _ _ _ _ (by simp only [RegRef.faults, R.EMB_BEAT] at *; omega)

/-- `t` reads FLT as `s` does. -/
def SameFaults (s t : State) : Prop := ∀ r : RegRef, r.faults → t.rd r = s.rd r

section sameFaults
variable {s t : State} (same : SameFaults s t)
include same

theorem SameFaults.get_eq {r : RegRef} (h : r.faults) (f : Fld) : t.get r f = s.get r f := by
  rw [State.get, same r h, State.get]

theorem SameFaults.bit_eq {r : RegRef} (h : r.faults) (f : Fld) : t.bit r f = s.bit r f := by
  rw [State.bit, same.get_eq h, State.bit]

theorem SameFaults.classOf_eq {x : Report} (h : x.code < 64) : t.classOf x = s.classOf x := by
  rw [State.classOf, same.get_eq (codecfg_faults h), State.classOf]

theorem SameFaults.recOpen_eq {r : Nat} (h : r < 64) : t.recOpen r = s.recOpen r := same.bit_eq (reca_faults h) _

theorem SameFaults.freeRecs_eq : t.freeRecs = s.freeRecs :=
  List.filter_congr fun r hr => by rw [same.recOpen_eq (List.mem_range.mp hr)]

theorem SameFaults.recOf_eq (kind index : Nat) : t.recOf kind index = s.recOf kind index := by
  unfold State.recOf
  refine List.find?_congr fun r hr => ?_
  have fault := reca_faults (List.mem_range.mp hr)
  rw [same.recOpen_eq (List.mem_range.mp hr), State.recKind, State.recIndex, same.get_eq fault, same.get_eq fault, State.recKind,
    State.recIndex]

end sameFaults

/-- The state in which a report is placed: it is taken off the list, and counted. -/
def State.placing (s : State) (x : Report) : State :=
  { s with reports := s.reports.erase x }.tally (ev 0x0F 1 (some x.origin) none 0)

section placing
variable (s : State) (x : Report)

theorem State.placing_counted : Counted { s with reports := s.reports.erase x } (s.placing x) := State.tally_counted _ _

theorem State.placing_rd (r : RegRef) (h : ¬ r.counts) : (s.placing x).rd r = s.rd r := (s.placing_counted x).2 r h
theorem State.placing_sameFaults : SameFaults s (s.placing x) := fun r h => s.placing_rd x r h.not_counts
theorem State.placing_flt : (s.placing x).flt = s.flt := (s.placing_counted x).flt_eq
theorem State.placing_act : (s.placing x).act = s.act := (s.placing_counted x).act_eq
theorem State.placing_mem : (s.placing x).mem = s.mem := (s.placing_counted x).mem_eq
theorem State.placing_reports : (s.placing x).reports = s.reports.erase x := (s.placing_counted x).reports_eq
theorem State.placing_beats : (s.placing x).beats = s.beats := s.placing_rd x _ (fun h => absurd h.1 (by decide))

end placing

/-! ### A record opens -/

section openRec
variable (s : State) (r : Nat) (x : Report) (cls : Nat)

theorem State.setGone_rd (m : Nat) (q : RegRef) : (s.setGone r m).rd q = s.rd q := rfl
theorem State.setGone_mem (m : Nat) : (s.setGone r m).mem = s.mem := rfl
theorem State.setGone_act (m : Nat) : (s.setGone r m).act = s.act := rfl
theorem State.setGone_reports (m : Nat) : (s.setGone r m).reports = s.reports := rfl
theorem State.setGone_reacting (m : Nat) : (s.setGone r m).flt.reacting = s.flt.reacting := rfl
theorem State.setGone_stopped (m : Nat) : (s.setGone r m).flt.stopped = s.flt.stopped := rfl

/-- The first word of a record that opens: code, class, OPEN, kind, index, and COUNT 1. -/
def openWord : Nat := x.code + cls * 2 ^ 6 + 2 ^ 8 + x.kind % 16 * 2 ^ 12 + x.index % 2 ^ 16 * 2 ^ 16 + 2 ^ 32

theorem State.openRec_reca : (s.openRec r x cls).rd (R.FLT_RECA r) = openWord x cls % 2 ^ 64 := by
  rw [State.openRec, State.setGone_rd, State.rd_wr_other _ _ _ _ (reca_ne_rece r r), State.rd_wr_other _ _ _ _ (reca_ne_recd r r),
    State.rd_wr_other _ _ _ _ (reca_ne_recc r r), State.rd_wr_other _ _ _ _ (reca_ne_recb r r), State.rd_wr, openWord]

theorem State.openRec_reca_other (k : Nat) (h : k ≠ r) : (s.openRec r x cls).rd (R.FLT_RECA k) = s.rd (R.FLT_RECA k) := by
  rw [State.openRec, State.setGone_rd, State.rd_wr_other _ _ _ _ (reca_ne_rece k r), State.rd_wr_other _ _ _ _ (reca_ne_recd k r),
    State.rd_wr_other _ _ _ _ (reca_ne_recc k r), State.rd_wr_other _ _ _ _ (reca_ne_recb k r), State.rd_wr_other _ _ _ _ (reca_ne_reca h)]

theorem State.openRec_recb (h : x.code < 64) : (s.openRec r x cls).rd (R.FLT_RECB r) = 2 ^ x.code := by
  rw [State.openRec, State.setGone_rd, State.rd_wr_other _ _ _ _ (recb_ne_rece r r), State.rd_wr_other _ _ _ _ (recb_ne_recd r r),
    State.rd_wr_other _ _ _ _ (recb_ne_recc r r), State.rd_wr, Nat.mod_eq_of_lt (Nat.pow_lt_pow_right (by decide) h)]

theorem State.openRec_recc (h : r < 64) : (s.openRec r x cls).rd (R.FLT_RECC r) = s.beats % 2 ^ 32 := by
  rw [State.openRec, State.setGone_rd, State.rd_wr_other _ _ _ _ (recc_ne_rece r r), State.rd_wr_other _ _ _ _ (recc_ne_recd r r),
    State.rd_wr, beats_wr _ _ _ (reca_faults h), Nat.mod_eq_of_lt]
  exact (Nat.mod_lt _ (by decide)).trans (by decide)

theorem State.openRec_recd : (s.openRec r x cls).rd (R.FLT_RECD r) = x.origin % 2 ^ 32 + x.detail % 2 ^ 16 * 2 ^ 32 := by
  rw [State.openRec, State.setGone_rd, State.rd_wr_other _ _ _ _ (recd_ne_rece r r), State.rd_wr, Nat.mod_eq_of_lt (by omega)]

theorem State.openRec_rece : (s.openRec r x cls).rd (R.FLT_RECE r) = x.addr % 2 ^ 48 := by
  rw [State.openRec, State.setGone_rd, State.rd_wr, Nat.mod_eq_of_lt]
  exact (Nat.mod_lt _ (by decide)).trans (by decide)

theorem State.openRec_mem : (s.openRec r x cls).mem = s.mem := by
  rw [State.openRec, State.setGone_mem, State.wr_mem, State.wr_mem, State.wr_mem, State.wr_mem, State.wr_mem]
theorem State.openRec_act : (s.openRec r x cls).act = s.act := by
  rw [State.openRec, State.setGone_act, State.wr_act, State.wr_act, State.wr_act, State.wr_act, State.wr_act]
theorem State.openRec_reports : (s.openRec r x cls).reports = s.reports := by
  rw [State.openRec, State.setGone_reports, State.wr_reports, State.wr_reports, State.wr_reports, State.wr_reports, State.wr_reports]
theorem State.openRec_reacting : (s.openRec r x cls).flt.reacting = s.flt.reacting := by
  rw [State.openRec, State.setGone_reacting, State.wr_flt, State.wr_flt, State.wr_flt, State.wr_flt, State.wr_flt]
theorem State.openRec_stopped : (s.openRec r x cls).flt.stopped = s.flt.stopped := by
  rw [State.openRec, State.setGone_stopped, State.wr_flt, State.wr_flt, State.wr_flt, State.wr_flt, State.wr_flt]

variable (code : x.code < 64) (class4 : cls < 4)
include code class4

/-- A field of the first word lies where R364 puts it. -/
theorem openWord_fields : fieldOf (openWord x cls % 2 ^ 64) 8 1 = 1 ∧ fieldOf (openWord x cls % 2 ^ 64) 10 1 = 0 ∧
    fieldOf (openWord x cls % 2 ^ 64) 12 4 = x.kind % 16 := by
  have kind : x.kind % 16 < 16 := Nat.mod_lt _ (by decide)
  have index : x.index % 2 ^ 16 < 2 ^ 16 := Nat.mod_lt _ (by decide)
  unfold openWord fieldOf
  omega

theorem State.openRec_open : (s.openRec r x cls).recOpen r = true := by
  rw [State.recOpen, State.bit, State.get, State.openRec_reca]
  exact beq_iff_eq.mpr (openWord_fields x cls code class4).1

theorem State.openRec_held : (s.openRec r x cls).bit (R.FLT_RECA r) F.FLT_RECA_HELD = false := by
  rw [State.bit, State.get, State.openRec_reca]
  exact beq_false_of_ne fun one => absurd (one.symm.trans (openWord_fields x cls code class4).2.1) (by decide)

theorem State.openRec_kind : (s.openRec r x cls).recKind r = x.kind % 16 := by
  rw [State.recKind, State.get, State.openRec_reca]
  exact (openWord_fields x cls code class4).2.2

end openRec

/-! ### A report merges into a record -/

section mergeRec
variable (s : State) (r : Nat) (x : Report) (cls : Nat)

theorem State.mergeRec_reca_get (f : Fld) : (s.mergeRec r x cls).get (R.FLT_RECA r) f =
    ((s.bump (R.FLT_RECA r) F.FLT_RECA_COUNT 1).put (R.FLT_RECA r) F.FLT_RECA_CLASS
      (max cls (s.get (R.FLT_RECA r) F.FLT_RECA_CLASS))).get (R.FLT_RECA r) f := by
  unfold State.mergeRec
  rw [State.get, State.setGone_rd, State.rd_put_other _ _ _ _ _ (reca_ne_recc r r), State.rd_wr_other _ _ _ _ (reca_ne_recb r r)]
  rfl

theorem State.mergeRec_count : (s.mergeRec r x cls).get (R.FLT_RECA r) F.FLT_RECA_COUNT =
    satAdd (s.get (R.FLT_RECA r) F.FLT_RECA_COUNT) 1 (2 ^ 16 - 1) := by
  rw [State.mergeRec_reca_get, State.get_put_field _ _ _ _ _ (by decide) (by decide), State.get_bump_same _ _ _ _ (by decide)]
  rfl

theorem State.mergeRec_class : (s.mergeRec r x cls).get (R.FLT_RECA r) F.FLT_RECA_CLASS =
    max cls (s.get (R.FLT_RECA r) F.FLT_RECA_CLASS) % 4 := by
  rw [State.mergeRec_reca_get, State.get_put_same _ _ _ _ (by decide)]
  rfl

theorem State.mergeRec_open (h : s.recOpen r = true) : (s.mergeRec r x cls).recOpen r = true := by
  rw [State.recOpen, State.bit, State.mergeRec_reca_get, State.get_put_field _ _ _ _ _ (by decide) (by decide), State.bump,
    State.get_put_field _ _ _ _ _ (by decide) (by decide)]
  exact h

theorem State.mergeRec_reca_other (k : Nat) (h : k ≠ r) : (s.mergeRec r x cls).rd (R.FLT_RECA k) = s.rd (R.FLT_RECA k) := by
  rw [State.mergeRec, State.setGone_rd, State.rd_put_other _ _ _ _ _ (reca_ne_recc k r), State.rd_wr_other _ _ _ _ (reca_ne_recb k r),
    State.rd_put_other _ _ _ _ _ (reca_ne_reca h), State.bump, State.rd_put_other _ _ _ _ _ (reca_ne_reca h)]

theorem testBit_lor (a b i : Nat) : (Nat.lor a b).testBit i = (a.testBit i || b.testBit i) := Nat.testBit_or a b i

theorem State.mergeRec_recb (h : x.code < 64) : bitOf ((s.mergeRec r x cls).rd (R.FLT_RECB r)) x.code = true := by
  rw [State.mergeRec, State.setGone_rd, State.rd_put_other _ _ _ _ _ (recb_ne_recc r r), State.rd_wr, bitOf_eq_testBit,
    Nat.testBit_mod_two_pow, testBit_lor, Nat.testBit_two_pow_self, Bool.or_true, Bool.and_true]
  exact decide_eq_true h

theorem State.mergeRec_last (h : r < 64) : (s.mergeRec r x cls).get (R.FLT_RECC r) F.FLT_RECC_LAST = s.beats % 2 ^ 32 := by
  rw [State.get, State.mergeRec, State.setGone_rd, ← State.get, State.get_put_same _ _ _ _ (by decide), beats_wr _ _ _ (recb_faults h),
    State.put, beats_wr _ _ _ (reca_faults h), State.bump, State.put, beats_wr _ _ _ (reca_faults h)]
  exact Nat.mod_mod _ _

theorem State.mergeRec_act : (s.mergeRec r x cls).act = s.act := by
  rw [State.mergeRec, State.setGone_act, State.put_act, State.wr_act, State.put_act, State.bump_act]
theorem State.mergeRec_stopped : (s.mergeRec r x cls).flt.stopped = s.flt.stopped := by
  rw [State.mergeRec, State.setGone_stopped, State.put_flt, State.wr_flt, State.put_flt, State.bump_flt]

end mergeRec

/-! ### What follows: the event, and the reaction that is due -/

theorem State.faultEvent_frame (s : State) (code : Nat) : { s.faultEvent code with gaf := s.gaf } = s := by
  unfold State.faultEvent
  split
  · rfl
  · exact s.event_frame 34

section faultEvent
variable (s : State) (code : Nat)

theorem State.faultEvent_rd (r : RegRef) : (s.faultEvent code).rd r = s.rd r := (congrArg (State.rd · r) (s.faultEvent_frame code) :)
theorem State.faultEvent_flt : (s.faultEvent code).flt = s.flt := (congrArg State.flt (s.faultEvent_frame code) :)
theorem State.faultEvent_act : (s.faultEvent code).act = s.act := (congrArg State.act (s.faultEvent_frame code) :)

end faultEvent

theorem State.startReaction_frame (s : State) (r code : Nat) : { s.startReaction r code with flt := s.flt } = s := by
  unfold State.startReaction
  split <;> rfl

/-- The record is of a unit that can be held, is not held yet, and reacts to nothing: its reaction is due. -/
theorem State.startReaction_due (s : State) (r code : Nat) (kind : holdable (s.recKind r) = true)
    (held : s.bit (R.FLT_RECA r) F.FLT_RECA_HELD = false) (rests : ∀ e ∈ s.flt.reacting, e.1 ≠ r) :
    (s.startReaction r code).flt.reacting = s.flt.reacting ++ [(r, code)] := by
  have none_due : s.flt.reacting.any (fun e => e.1 == r) = false :=
    List.any_eq_false.mpr fun e he => by simpa using rests e he
  rw [State.startReaction, if_pos]
  rw [kind, held, none_due]
  rfl

/-- What follows a record that has opened or merged under a code: its event, and for a contained fault its reaction. -/
def State.told (s : State) (r code cls : Nat) : State :=
  if cls = 2 then (s.faultEvent code).startReaction r code else s.faultEvent code

theorem State.told_frame (s : State) (r code cls : Nat) : { s.told r code cls with gaf := s.gaf, flt := s.flt } = s := by
  unfold State.told
  split
  · refine Eq.trans ?_ (s.faultEvent_frame code)
    rw [← s.faultEvent_flt code]
    exact (congrArg (fun t : State => { t with gaf := s.gaf }) ((s.faultEvent code).startReaction_frame r code) :)
  · rw [← s.faultEvent_flt code]
    exact s.faultEvent_frame code

section told
variable (s : State) (r code cls : Nat)

theorem State.told_rd (q : RegRef) : (s.told r code cls).rd q = s.rd q := (congrArg (State.rd · q) (s.told_frame r code cls) :)
theorem State.told_get (q : RegRef) (f : Fld) : (s.told r code cls).get q f = s.get q f := by rw [State.get, State.told_rd, State.get]
theorem State.told_recOpen (q : Nat) : (s.told r code cls).recOpen q = s.recOpen q := by
  rw [State.recOpen, State.bit, State.told_get, State.recOpen, State.bit]
theorem State.told_mem : (s.told r code cls).mem = s.mem := (congrArg State.mem (s.told_frame r code cls) :)
theorem State.told_reports : (s.told r code cls).reports = s.reports := (congrArg State.reports (s.told_frame r code cls) :)

end told

theorem State.told_reacting (s : State) (r code : Nat) (kind : holdable (s.recKind r) = true)
    (held : s.bit (R.FLT_RECA r) F.FLT_RECA_HELD = false) (rests : ∀ e ∈ s.flt.reacting, e.1 ≠ r) :
    (s.told r code 2).flt.reacting = s.flt.reacting ++ [(r, code)] := by
  have rd := s.faultEvent_rd code (R.FLT_RECA r)
  rw [State.told, if_pos rfl, State.startReaction_due, State.faultEvent_flt]
  · rw [State.recKind, State.get, rd]
    exact kind
  · rw [State.bit, State.get, rd]
    exact held
  · rwa [State.faultEvent_flt]

/-! ### The cases of a report that is placed (R361, R362, R363) -/

theorem exec_faultRecord_none {s : State} (h : s.reports = []) : exec .faultRecord s = .next s := by
  change execFaultRecord s = _
  rw [execFaultRecord, h]
  rfl

theorem exec_faultRecord {s : State} {x : Report} (first : firstReport s.reports = some x) :
    exec .faultRecord s = .next (State.place { s with reports := s.reports.erase x } x) := by
  change execFaultRecord s = _
  rw [execFaultRecord, first]

section place
variable (s : State) (x : Report)

/-- `State.place` by cases, over the state in which the report is counted. -/
theorem State.place_eq (u : State) (hu : u = s.placing x) : State.place { s with reports := s.reports.erase x } x =
    if u.classOf x = 3 then
      ((if u.recOpen 0 then u.mergeRec 0 x (u.classOf x) else u.openRec 0 x (u.classOf x)).faultEvent x.code).fatalStop
    else match u.recOf x.kind x.index with
      | some r => (u.mergeRec r x (u.classOf x)).told r x.code (u.classOf x)
      | none =>
        match u.freeRecs with
        | [] =>
          if u.classOf x = 2 then
            let s := u.bump R.FLT_CNT F.FLT_CNT_CT_NOREC 1
            if holdable x.kind then
              let s := s.holdUnit x.kind x.index x.code
              let l := s.flt.norec.filter (fun e => !(e.1 == x.kind && e.2.1 == x.index)) ++ [(x.kind, x.index, x.code)]
              { s with flt := { s.flt with norec := l } }.revokeIf x.kind x.index x.code
            else s
          else u.bump R.FLT_CNT F.FLT_CNT_CE_LOST 1
        | r :: rs =>
          if u.classOf x = 2 then (u.openRec r x (u.classOf x)).told r x.code 2
          else if rs.length + 1 ≤ min 62 (u.get R.FLT_CTL F.FLT_CTL_RESV) ∨ u.bit (R.FLT_CODECFG x.code) F.FLT_CODECFG_MUTE then
            u.bump R.FLT_CNT F.FLT_CNT_CE_LOST 1
          else (u.openRec r x (u.classOf x)).faultEvent x.code := by
  subst hu
  rfl

variable {s x} {cls : Nat} (code : x.code < 64) (hcls : cls = s.classOf x)
include code hcls

theorem State.placing_classOf : (s.placing x).classOf x = cls := ((s.placing_sameFaults x).classOf_eq code).trans hcls.symm

/-- A fault of a unit that has a record merges into it. -/
theorem State.place_merges {r : Nat} (rec : s.recOf x.kind x.index = some r) (h3 : cls ≠ 3) :
    State.place { s with reports := s.reports.erase x } x = ((s.placing x).mergeRec r x cls).told r x.code cls := by
  rw [State.place_eq s x _ rfl, State.placing_classOf code hcls, if_neg h3, (s.placing_sameFaults x).recOf_eq, rec]

/-- A fault of a unit without a record opens a free one. -/
theorem State.place_opens {r : Nat} {rs : List Nat} (rec : s.recOf x.kind x.index = none) (free : s.freeRecs = r :: rs) (h3 : cls ≠ 3)
    (room : cls = 2 ∨ (min 62 (s.get R.FLT_CTL F.FLT_CTL_RESV) < rs.length + 1 ∧ s.bit (R.FLT_CODECFG x.code) F.FLT_CODECFG_MUTE = false)) :
    State.place { s with reports := s.reports.erase x } x = ((s.placing x).openRec r x cls).told r x.code cls := by
  have same := s.placing_sameFaults x
  rw [State.place_eq s x _ rfl, State.placing_classOf code hcls, if_neg h3, same.recOf_eq, rec, same.freeRecs_eq, free]
  dsimp only
  by_cases two : cls = 2
  · rw [if_pos two, two]
  · obtain ⟨few, loud⟩ := room.resolve_left two
    rw [if_neg two, same.get_eq flt_ctl_faults, same.bit_eq (codecfg_faults code), loud,
      if_neg (by simp only [Bool.false_eq_true, or_false]; omega), State.told, if_neg two]

/-- A correctable fault that may not open a record is lost, and counted. -/
theorem State.place_lost (rec : s.recOf x.kind x.index = none) (h1 : cls = 1)
    (full : s.freeRecs = [] ∨ ∃ r rs, s.freeRecs = r :: rs ∧
      (rs.length + 1 ≤ min 62 (s.get R.FLT_CTL F.FLT_CTL_RESV) ∨ s.bit (R.FLT_CODECFG x.code) F.FLT_CODECFG_MUTE = true)) :
    State.place { s with reports := s.reports.erase x } x = (s.placing x).bump R.FLT_CNT F.FLT_CNT_CE_LOST 1 := by
  have same := s.placing_sameFaults x
  rw [State.place_eq s x _ rfl, State.placing_classOf code hcls, h1, if_neg (by decide), same.recOf_eq, rec, same.freeRecs_eq]
  rcases full with free | ⟨r, rs, free, why⟩
  · rw [free]
    exact if_neg (by decide)
  · rw [free]
    dsimp only
    rw [if_neg (by decide), same.get_eq flt_ctl_faults, same.bit_eq (codecfg_faults code), if_pos why]

/-- A device-fatal fault goes to record 0 and stops the module. -/
theorem State.place_fatal (h3 : cls = 3) : State.place { s with reports := s.reports.erase x } x =
    ((if s.recOpen 0 then (s.placing x).mergeRec 0 x 3 else (s.placing x).openRec 0 x 3).faultEvent x.code).fatalStop := by
  rw [State.place_eq s x _ rfl, State.placing_classOf code hcls, if_pos h3, (s.placing_sameFaults x).recOpen_eq (by decide), h3]

end place

end Sys2Proof.Machine
end

section
/-!
PROOFS. FAULT_RECORD (R361 to R368) with the stop after a device-fatal fault, and UNIT_HOLD (R365): the hold of a port at rest, which has
nothing to flush, answer or nullify.
-/
namespace Sys2Proof.Machine

/-! ### The stop after a device-fatal fault (R367) -/

theorem foldl_gaf_frame {α : Type} (f : State → α → State) (h : ∀ s a, { f s a with gaf := s.gaf } = s) (l : List α) (s : State) :
    { l.foldl f s with gaf := s.gaf } = s :=
  List.foldlRecOn (motive := fun t : State => { t with gaf := s.gaf } = s) l f rfl fun t ht a _ =>
    (congrArg (fun u : State => { u with gaf := s.gaf }) (h t a)).trans ht

/-- A stop with no port to hold keeps every register. -/
theorem State.fatalStop_quiet (s : State) (quiet : s.flt.stopped = true ∨ ∀ p, p < 256 → s.role p = ROLE.DISABLED) :
    (s.fatalStop).regs = s.regs ∧ (s.fatalStop).flt.stopped = true := by
  cases stopped : s.flt.stopped with
  | true =>
    rw [State.fatalStop, stopped, if_pos rfl]
    exact ⟨rfl, stopped⟩
  | false =>
    have disabled := quiet.resolve_left (by rw [stopped]; exact Bool.false_ne_true)
    unfold State.fatalStop
    rw [stopped, if_neg Bool.false_ne_true]
    extract_lets flt u v
    have hv : v = u := List.foldlRecOn (motive := (· = u)) _ _ rfl fun t ht p hp => by
      subst ht
      exact if_pos (disabled p (List.mem_range.mp hp))
    suffices kept : ∀ w : State, { w with gaf := v.gaf } = v → w.regs = s.regs ∧ w.flt.stopped = true from
      kept _ (foldl_gaf_frame _ (fun t c => by dsimp only; split <;> rfl) _ _)
    intro w frame
    have regs : w.regs = v.regs := (congrArg State.regs frame :)
    have flt : w.flt = v.flt := (congrArg State.flt frame :)
    rw [regs, flt, hv]
    exact ⟨rfl, rfl⟩

/-! ### FAULT_RECORD (R361 to R368) -/

section faultRecord
variable {s : State} {x : Report} {cls : Nat} (first : firstReport s.reports = some x) (code : x.code < 64) (hcls : cls = s.classOf x)
include first code hcls

theorem faultRecord_opens {r : Nat} {rs : List Nat} (rec : s.recOf x.kind x.index = none) (free : s.freeRecs = r :: rs) (h3 : cls ≠ 3)
    (room : cls = 2 ∨ (min 62 (s.get R.FLT_CTL F.FLT_CTL_RESV) < rs.length + 1 ∧ s.bit (R.FLT_CODECFG x.code) F.FLT_CODECFG_MUTE = false)) :
    ∃ t, exec .faultRecord s = .next t ∧ t.reports = s.reports.erase x ∧
      t.rd (R.FLT_RECA r) = (x.code + cls * 2 ^ 6 + 2 ^ 8 + x.kind % 16 * 2 ^ 12 + x.index % 2 ^ 16 * 2 ^ 16 + 2 ^ 32) % 2 ^ 64 ∧
      t.rd (R.FLT_RECB r) = 2 ^ x.code ∧ t.rd (R.FLT_RECC r) = s.beats % 2 ^ 32 ∧
      t.rd (R.FLT_RECD r) = x.origin % 2 ^ 32 + x.detail % 2 ^ 16 * 2 ^ 32 ∧ t.rd (R.FLT_RECE r) = x.addr % 2 ^ 48 ∧
      (∀ k, k < 64 → k ≠ r → t.rd (R.FLT_RECA k) = s.rd (R.FLT_RECA k)) ∧ t.mem = s.mem ∧
      (cls = 2 → holdable (x.kind % 16) = true → (∀ e ∈ s.flt.reacting, e.1 ≠ r) → t.flt.reacting = s.flt.reacting ++ [(r, x.code)]) := by
  have small : r < 64 := by
    have mem : r ∈ s.freeRecs := free ▸ List.mem_cons_self
    exact List.mem_range.mp (List.mem_filter.mp mem).1
  refine ⟨_, (exec_faultRecord first).trans (congrArg _ (State.place_opens code hcls rec free h3 room)), ?_, ?_, ?_, ?_, ?_, ?_,
    fun k hk other => ?_, ?_, fun two kind rests => ?_⟩
  · rw [State.told_reports, State.openRec_reports, State.placing_reports]
  · rw [State.told_rd, State.openRec_reca, openWord]
  · rw [State.told_rd, State.openRec_recb _ _ _ _ code]
  · rw [State.told_rd, State.openRec_recc _ _ _ _ small, State.placing_beats]
  · rw [State.told_rd, State.openRec_recd]
  · rw [State.told_rd, State.openRec_rece]
  · rw [State.told_rd, State.openRec_reca_other _ _ _ _ _ other, s.placing_sameFaults x _ (reca_faults hk)]
  · rw [State.told_mem, State.openRec_mem, State.placing_mem]
  · have four : cls < 4 := by omega
    have kept : ((s.placing x).openRec r x cls).flt.reacting = s.flt.reacting := by rw [State.openRec_reacting, State.placing_flt]
    rw [two] at kept four ⊢
    rw [State.told_reacting, kept]
    · rwa [State.openRec_kind _ _ _ _ code four]
    · exact State.openRec_held _ _ _ _ code four
    · rwa [kept]

theorem faultRecord_lost (rec : s.recOf x.kind x.index = none) (h1 : cls = 1)
    (full : s.freeRecs = [] ∨ ∃ r rs, s.freeRecs = r :: rs ∧
      (rs.length + 1 ≤ min 62 (s.get R.FLT_CTL F.FLT_CTL_RESV) ∨ s.bit (R.FLT_CODECFG x.code) F.FLT_CODECFG_MUTE = true)) :
    ∃ t, exec .faultRecord s = .next t ∧
      t.get R.FLT_CNT F.FLT_CNT_CE_LOST = satAdd (s.get R.FLT_CNT F.FLT_CNT_CE_LOST) 1 (2 ^ 32 - 1) ∧
      (∀ k, k < 64 → t.rd (R.FLT_RECA k) = s.rd (R.FLT_RECA k)) ∧ t.flt = s.flt := by
  have same := s.placing_sameFaults x
  refine ⟨_, (exec_faultRecord first).trans (congrArg _ (State.place_lost code hcls rec h1 full)), ?_, fun k hk => ?_, ?_⟩
  · rw [State.get_bump_same _ _ _ _ (by decide), same.get_eq flt_cnt_faults]
    rfl
  · rw [State.bump, State.rd_put_other, same _ (reca_faults hk)]
    simp only [R.FLT_RECA, R.FLT_CNT]
    omega
  · rw [State.bump_flt, State.placing_flt]

theorem faultRecord_merges {r : Nat} (rec : s.recOf x.kind x.index = some r) (h3 : cls ≠ 3) : ∃ t, exec .faultRecord s = .next t ∧
    t.get (R.FLT_RECA r) F.FLT_RECA_COUNT = satAdd (s.get (R.FLT_RECA r) F.FLT_RECA_COUNT) 1 (2 ^ 16 - 1) ∧
    t.get (R.FLT_RECA r) F.FLT_RECA_CLASS = max cls (s.get (R.FLT_RECA r) F.FLT_RECA_CLASS) % 4 ∧
    bitOf (t.rd (R.FLT_RECB r)) x.code = true ∧ t.get (R.FLT_RECC r) F.FLT_RECC_LAST = s.beats % 2 ^ 32 ∧
    t.recOpen r = true ∧ (∀ k, k < 64 → k ≠ r → t.rd (R.FLT_RECA k) = s.rd (R.FLT_RECA k)) := by
  have same := s.placing_sameFaults x
  have small : r < 64 := List.mem_range.mp (List.mem_of_find?_eq_some rec)
  have isOpen : s.recOpen r = true := by
    have found := List.find?_some rec
    simp only [Bool.and_eq_true] at found
    exact found.1.1.2
  refine ⟨_, (exec_faultRecord first).trans (congrArg _ (State.place_merges code hcls rec h3)), ?_, ?_, ?_, ?_, ?_, fun k hk other => ?_⟩
  · rw [State.told_get, State.mergeRec_count, same.get_eq (reca_faults small)]
  · rw [State.told_get, State.mergeRec_class, same.get_eq (reca_faults small)]
  · rw [State.told_rd, State.mergeRec_recb _ _ _ _ code]
  · rw [State.told_get, State.mergeRec_last _ _ _ _ small, State.placing_beats]
  · rw [State.told_recOpen, State.mergeRec_open _ _ _ _ (same.recOpen_eq small ▸ isOpen)]
  · rw [State.told_rd, State.mergeRec_reca_other _ _ _ _ _ other, same _ (reca_faults hk)]

theorem faultRecord_fatal (h3 : cls = 3) (quiet : s.flt.stopped = true ∨ ∀ p, p < 256 → s.role p = ROLE.DISABLED) :
    ∃ t, exec .faultRecord s = .next t ∧ t.recOpen 0 = true ∧ bitOf (t.rd (R.FLT_RECB 0)) x.code = true ∧ t.flt.stopped = true := by
  have same := s.placing_sameFaults x
  refine ⟨_, (exec_faultRecord first).trans (congrArg _ (State.place_fatal code hcls h3)), ?_⟩
  suffices recorded : ∀ w : State, w.recOpen 0 = true → bitOf (w.rd (R.FLT_RECB 0)) x.code = true →
      w.flt.stopped = s.flt.stopped → w.act = s.act → ((w.faultEvent x.code).fatalStop.recOpen 0 = true ∧
        bitOf ((w.faultEvent x.code).fatalStop.rd (R.FLT_RECB 0)) x.code = true ∧ (w.faultEvent x.code).fatalStop.flt.stopped = true) by
    split
    · rename_i isOpen
      exact recorded _ (State.mergeRec_open _ _ _ _ ((same.recOpen_eq (r := 0) (by decide)).trans isOpen))
        (State.mergeRec_recb _ _ _ _ code) (by rw [State.mergeRec_stopped, State.placing_flt])
        (by rw [State.mergeRec_act, State.placing_act])
    · refine recorded _ (State.openRec_open _ _ _ _ code (by decide)) ?_ (by rw [State.openRec_stopped, State.placing_flt])
        (by rw [State.openRec_act, State.placing_act])
      rw [State.openRec_recb _ _ _ _ code, bitOf_eq_testBit, Nat.testBit_two_pow_self]
  intro w isOpen merged stopped act
  have roles (p : Nat) : (w.faultEvent x.code).role p = s.role p := by
    rw [State.role, State.getAct, State.rdAct, State.faultEvent_act, act, State.role, State.getAct, State.rdAct]
  obtain ⟨regs, halted⟩ := (w.faultEvent x.code).fatalStop_quiet (by simpa only [State.faultEvent_flt, stopped, roles] using quiet)
  have rd (q : RegRef) : (w.faultEvent x.code).fatalStop.rd q = w.rd q := by
    rw [State.rd, regs, ← State.rd, State.faultEvent_rd]
  refine ⟨?_, ?_, halted⟩
  · rw [State.recOpen, State.bit, State.get, rd]
    exact isOpen
  · rw [rd, merged]

end faultRecord

/-! ### A hold of a port at rest (R32, R47, R236) -/

section quiet
variable {s : State} (quiet : s.noTraffic)
include quiet

theorem State.flushCoq_quiet (q p : Nat) : s.flushCoq q p = (s, []) := by
  obtain ⟨coqs, staged, -⟩ := quiet
  have hcoq : s.coq q = [] := by rw [State.coq, coqs, SMap.get]
  have hstaged : s.staged (q / 8) (q % 8) = [] := by rw [State.staged, staged, SMap.get]
  have linked : s.setCoq q [] = s := by
    rw [State.setCoq, show SMap.set s.cru.coqs [] q [] = s.cru.coqs by rw [coqs]; rfl]
  have moved : s.setStaged (q / 8) (q % 8) [] = s := by
    rw [State.setStaged, show SMap.set s.cru.staged [] (8 * (q / 8) + q % 8) [] = s.cru.staged by rw [staged]; rfl]
  rw [State.flushCoq, State.takeCoq, hcoq, List.filter_nil, linked, hstaged, List.filter_nil, moved, List.append_nil, List.filter_nil,
    List.foldl_nil]

theorem State.flushPort_quiet (p : Nat) : s.flushPort p = s := by
  obtain ⟨-, -, unacked, epHeld, -, rx, -⟩ := id quiet
  have hun : s.unacked p = [] := by rw [State.unacked, unacked, SMap.get]
  have cleared : s.setUnacked p [] = s := by
    rw [State.setUnacked, show SMap.set s.cru.unacked [] p [] = s.cru.unacked by rw [unacked]; rfl]
  unfold State.flushPort
  extract_lets un s1 s2 s3 s4 ws cru s5
  have e1 : s1 = s := by rw [← cleared]
  have e2 : s2 = s := by
    rw [← e1]
    exact congrArg (List.foldl _ s1) hun
  have e3 : s3 = s := by
    change List.foldl _ s2 (List.range 8) = s
    rw [e2]
    refine List.foldlRecOn (motive := (· = s)) _ _ rfl fun t ht c _ => ?_
    rw [ht, State.flushCoq_quiet quiet]
    rfl
  have e4 : s4 = s := by
    change s3.flushTrains p = s
    rw [e3, State.flushTrains, rx, List.filter_nil, List.foldl_nil]
  have none_held : ws = [] := by
    change s4.cru.epHeld.filter _ = []
    rw [e4, epHeld, List.filter_nil]
  have kept : s4.cru.epHeld.filter (fun x => !(decide (x.coq < 2048) && x.coq / 8 == p)) = s4.cru.epHeld := by
    rw [e4, epHeld, List.filter_nil]
  have e5 : s5 = s4 := by
    change { s4 with cru := { s4.cru with epHeld := s4.cru.epHeld.filter _ } } = s4
    rw [kept]
  clear_value ws s4 s5
  rw [none_held, List.foldl_nil, e5, e4]

theorem State.resolveHolds_quiet (p : Hold → Bool) : s.resolveHolds p = s := by
  obtain ⟨-, -, -, -, holds, -⟩ := quiet
  rw [State.resolveHolds, holds, List.filter_nil, List.foldl_nil]

theorem State.answerPend_quiet (p : Pending → Bool) : s.answerPend p = s := by
  obtain ⟨-, -, -, -, -, -, pend⟩ := quiet
  rw [State.answerPend, pend, List.filter_nil, List.filter_nil, List.foldl_nil, ← pend]

theorem State.nullifyCutting_quiet (p : Pkt → Bool) : s.nullifyCutting p = s := by
  obtain ⟨-, -, unacked, -⟩ := quiet
  rw [State.nullifyCutting, unacked, List.foldl_nil]

end quiet

/-- The registers that show the hold of a port. -/
def State.markHeld (s : State) (p src : Nat) : State :=
  (s.setBit (R.PRT_STATUS p) F.PRT_STATUS_HELD).put (R.PRT_STATUS p) F.PRT_STATUS_HOLD_SRC src

theorem State.markHeld_frame (s : State) (p src : Nat) : { s.markHeld p src with regs := s.regs } = s := rfl
theorem State.markHeld_rd_other (s : State) (p src : Nat) (r : RegRef) (h : r.addr ≠ (R.PRT_STATUS p).addr) :
    (s.markHeld p src).rd r = s.rd r := by
  rw [State.markHeld, State.rd_put_other _ _ _ _ _ h, State.setBit, State.rd_put_other _ _ _ _ _ h]

theorem State.markHeld_noTraffic {s : State} (quiet : s.noTraffic) (p src : Nat) : (s.markHeld p src).noTraffic := quiet

theorem octcfg_ne_status {p : Nat} (h : p < 256) : (R.PRT_OCTCFG (octetOf p)).addr ≠ (R.PRT_STATUS p).addr := by
  simp only [R.PRT_OCTCFG, R.PRT_STATUS]
  omega

/-- A port at rest is held: its marks, its link directed to Disabled, and the trigger of its bridge. -/
theorem State.holdPort_quiet {s : State} {p : Nat} (src reason : Nat) (hp : p < 256) (lifted : s.portHeld p = false)
    (pcie : s.caneMode p = false) (quiet : s.noTraffic) : s.holdPort p src reason =
      let u := (s.markHeld p src).emit (.link p LK.DISABLED)
      if u.role p = ROLE.DOWNSTREAM then u.dpcTrigger p reason else u := by
  have marked : (s.markHeld p src).noTraffic := State.markHeld_noTraffic quiet p src
  have mode : (s.markHeld p src).caneMode p = false := by
    rw [State.caneMode, State.bit, State.get, State.markHeld_rd_other _ _ _ _ (octcfg_ne_status hp)]
    exact pcie
  rw [State.holdPort, lifted, if_neg Bool.false_ne_true, ← State.markHeld]
  dsimp only
  rw [State.flushPort_quiet marked, State.resolveHolds_quiet marked, State.answerPend_quiet marked, State.nullifyCutting_quiet marked, mode,
    if_neg Bool.false_ne_true]

/-- Without its interrupt, the trigger of DPC changes the bridge alone. -/
theorem State.dpcTrigger_quiet (s : State) (p reason : Nat) (int : bitOf (SMap.get (s.bridge (s.portBridge p)).raw 0 0x154) 19 = false) :
    ∃ b : Bridge, b.dpcTrig = true ∧ s.dpcTrigger p reason = s.setBridge (s.portBridge p) b := by
  refine ⟨{ s.bridge (s.portBridge p) with dpcTrig := true, dpcReason := reason }, rfl, ?_⟩
  unfold State.dpcTrigger
  dsimp only
  rw [int]
  rfl

/-- What the hold of a port at rest leaves behind. -/
theorem State.holdPort_result {s : State} {p : Nat} (src reason : Nat) (hp : p < 256) (lifted : s.portHeld p = false)
    (pcie : s.caneMode p = false) (quiet : s.noTraffic)
    (int : bitOf (SMap.get (s.bridge (s.portBridge p)).raw 0 0x154) 19 = false) :
    ∃ t, t = s.holdPort p src reason ∧ t.regs = (s.markHeld p src).regs ∧ t.flt = s.flt ∧ Out.link p LK.DISABLED ∈ t.out ∧
      (s.role p = ROLE.DOWNSTREAM → (t.bridge (s.portBridge p)).dpcTrig = true) := by
  refine ⟨_, rfl, ?_⟩
  rw [State.holdPort_quiet src reason hp lifted pcie quiet]
  have frame := s.markHeld_frame p src
  generalize s.markHeld p src = m at frame ⊢
  have act : m.act = s.act := (congrArg State.act frame :)
  have prt : m.prt = s.prt := (congrArg State.prt frame :)
  have flt : m.flt = s.flt := (congrArg State.flt frame :)
  have role : (m.emit (.link p LK.DISABLED)).role p = s.role p := by
    rw [State.role, State.getAct, State.rdAct, State.emit_act, act, State.role, State.getAct, State.rdAct]
  have key : (m.emit (.link p LK.DISABLED)).portBridge p = s.portBridge p := by
    rw [State.portBridge, State.portPt, State.getAct, State.rdAct, State.emit_act, act, State.portBridge, State.portPt, State.getAct,
      State.rdAct]
  have told : Out.link p LK.DISABLED ∈ (m.emit (.link p LK.DISABLED)).out := List.mem_cons_self
  dsimp only
  rw [role]
  split
  · obtain ⟨b, trig, eq⟩ := (m.emit (.link p LK.DISABLED)).dpcTrigger_quiet p reason (by
      rw [key, State.bridge, State.emit_prt, prt, ← State.bridge]
      exact int)
    rw [eq, key]
    refine ⟨?_, ?_, ?_, fun _ => ?_⟩
    · rw [State.setBridge_regs, State.emit_regs]
    · rw [State.setBridge_flt, State.emit_flt, flt]
    · rw [State.setBridge_out]
      exact told
    · rw [State.bridge, State.setBridge, SMap.get_set_same]
      exact trig
  · rename_i other
    exact ⟨State.emit_regs _ _, (State.emit_flt _ _).trans flt, told, fun h => absurd h other⟩

/-! ### UNIT_HOLD (R365, R366) -/

/-- A record's reaction is taken up. -/
def State.reactionTaken (s : State) (r : Nat) : State :=
  { s with flt := { s.flt with reacting := s.flt.reacting.filter (fun e => e.1 != r) } }

theorem exec_unitHold_idle {s : State} {r : Fin 64} (h : s.flt.reacting.find? (fun e => e.1 == r.val) = none) :
    exec (.unitHold r) s = .next s := by
  change execUnitHold r s = _
  rw [execUnitHold, h]

theorem exec_unitHold {s u : State} {r : Fin 64} {code k : Nat} (h : s.flt.reacting.find? (fun e => e.1 == r.val) = some (k, code))
    (hu : u = ((s.reactionTaken r.val).holdUnit (s.recKind r.val) (s.recIndex r.val) code).put (R.FLT_RECA r.val) F.FLT_RECA_HELD 1) :
    exec (.unitHold r) s = .next (u.revokeIf (u.recKind r.val) (u.recIndex r.val) code) := by
  subst hu
  change execUnitHold r s = _
  rw [execUnitHold, h]
  rfl

theorem State.revokeIf_off {s : State} {kind index code : Nat} (h : s.bit (R.FLT_CODECFG code) F.FLT_CODECFG_REVOKE = false) :
    s.revokeIf kind index code = s := by
  rw [State.revokeIf, h, if_neg Bool.false_ne_true]

/-- A port holds no lease. -/
theorem State.revokeIf_port (s : State) (index code : Nat) : s.revokeIf UK.port index code = s := by
  rw [State.revokeIf]
  split <;> rfl

theorem exec_unitHold_port {s : State} {r : Fin 64} {p code k : Nat}
    (due : s.flt.reacting.find? (fun e => e.1 == r.val) = some (k, code)) (kind : s.recKind r.val = UK.port)
    (index : s.recIndex r.val = p) (hp : p < 256) (lifted : s.portHeld p = false) (pcie : s.caneMode p = false) (quiet : s.noTraffic)
    (int : bitOf (SMap.get (s.bridge (s.portBridge p)).raw 0 0x154) 19 = false) :
    ∃ t, exec (.unitHold r) s = .next t ∧ t.portHeld p = true ∧ t.get (R.PRT_STATUS p) F.PRT_STATUS_HOLD_SRC = holdSrc code ∧
      t.bit (R.FLT_RECA r.val) F.FLT_RECA_HELD = true ∧ t.flt.reacting = s.flt.reacting.filter (fun e => e.1 != r.val) ∧
      Out.link p LK.DISABLED ∈ t.out ∧ (s.role p = ROLE.DOWNSTREAM → (t.bridge (s.portBridge p)).dpcTrig = true) := by
  obtain ⟨w, hw, regs, flt, told, trig⟩ :=
    State.holdPort_result (s := s.reactionTaken r.val) (holdSrc code) dpcByHold hp lifted pcie quiet int
  have apart : (R.PRT_STATUS p).addr ≠ (R.FLT_RECA r.val).addr := by
    simp only [R.PRT_STATUS, R.FLT_RECA]
    omega
  have get (q : RegRef) (f : Fld) : w.get q f = ((s.reactionTaken r.val).markHeld p (holdSrc code)).get q f := by
    rw [State.get, State.rd, regs, ← State.rd, ← State.get]
  have unit : (s.reactionTaken r.val).holdUnit UK.port p code = w := by
    rw [hw, State.holdUnit, if_pos rfl]
  have port : (w.put (R.FLT_RECA r.val) F.FLT_RECA_HELD 1).recKind r.val = UK.port := by
    rw [State.recKind, State.get_put_field _ _ _ _ _ (by decide) (by decide), get, State.get, State.markHeld_rd_other _ _ _ _ apart.symm,
      ← kind]
    rfl
  have src : holdSrc code < 4 := by
    unfold holdSrc
    split
    · decide
    · split <;> decide
  refine ⟨w.put (R.FLT_RECA r.val) F.FLT_RECA_HELD 1, ?_, ?_, ?_, ?_, ?_, ?_, trig⟩
  · rw [exec_unitHold due (u := w.put (R.FLT_RECA r.val) F.FLT_RECA_HELD 1) (by rw [kind, index, unit]), port, State.revokeIf_port]
  · rw [State.portHeld, State.bit_put_other _ _ _ _ _ _ apart, State.bit, get, State.markHeld,
      State.get_put_field _ _ _ _ _ (by decide) (by decide), ← State.bit, State.bit_setBit _ _ _ (by decide) rfl]
  · rw [State.get_put_other _ _ _ _ _ _ apart, get, State.markHeld, State.get_put_same _ _ _ _ (by decide)]
    exact Nat.mod_eq_of_lt src
  · exact State.bit_setBit _ _ _ (by decide) rfl
  · rw [State.put_flt, flt]
    rfl
  · rw [State.put_out]
    exact told

end Sys2Proof.Machine
end

section
/-!
PROOFS. What ends a fault (R367, R370, R371): resets, clears and lifts, overrides of a class, the clear of DPC; the expiry of leases (R30);
and the obligation about faults and leases.
-/
namespace Sys2Proof.Machine

/-! ### Resets, clears and lifts (R367, R370, R371) -/

theorem exec_fatalReset_runs {s : State} (stopped : s.flt.stopped = true)
    (due : s.widened = true ∨ s.bit R.FLT_CTL F.FLT_CTL_FATAL_WAIT = false) : exec .fatalReset s = .next (s.warmSource RC.FATAL) := by
  change execFatalReset s = _
  rw [execFatalReset, if_pos]
  rcases due with wide | now
  · rw [stopped, wide, Bool.true_or, Bool.and_self]
  · rw [stopped, now, Bool.not_false, Bool.or_true, Bool.and_self]

theorem exec_fatalReset_waits {s : State}
    (idle : s.flt.stopped = false ∨ s.widened = false ∧ s.bit R.FLT_CTL F.FLT_CTL_FATAL_WAIT = true) : exec .fatalReset s = .next s := by
  change execFatalReset s = _
  rw [execFatalReset, if_neg]
  rcases idle with runs | ⟨narrow, waits⟩
  · rw [runs, Bool.false_and]
    exact Bool.false_ne_true
  · rw [narrow, waits, Bool.not_true, Bool.or_self, Bool.and_false]
    exact Bool.false_ne_true

theorem exec_fltReset_refused {s : State} (h : s.recOpen 0 = false) :
    exec .fltReset s = .next (s.setBit R.FLT_STATUS F.FLT_STATUS_BADCMD) := by
  change execFltReset s = _
  rw [execFltReset, h, Bool.false_and, if_neg Bool.false_ne_true, State.fltBad]

theorem exec_fltReset_runs {s : State} (isOpen : s.recOpen 0 = true) (waits : s.bit R.FLT_CTL F.FLT_CTL_FATAL_WAIT = true) :
    exec .fltReset s = .next (s.warmSource RC.FATAL) := by
  change execFltReset s = _
  rw [execFltReset, isOpen, waits, Bool.and_self, if_pos rfl]

section clearRec
variable {s : State} {r : Nat}

theorem State.clearRec_closed (h : s.recOpen r = false) : s.clearRec r = s.setBit R.FLT_STATUS F.FLT_STATUS_BADCMD := by
  rw [State.clearRec, h, Bool.not_false, if_pos rfl, State.fltBad]

/-- A record whose cause lives stays open, and the clear is counted in it and in FLT_CNT. -/
theorem State.clearRec_relatches (isOpen : s.recOpen r = true) (live : s.recActive r = true ∨
      1 < s.get (R.FLT_RECA r) F.FLT_RECA_COUNT ∧ s.get (R.FLT_RECC r) F.FLT_RECC_LAST = s.beats % 2 ^ 32) :
    s.clearRec r = (s.bump (R.FLT_RECA r) F.FLT_RECA_RELATCH 1).bump R.FLT_CNT F.FLT_CNT_RELATCH 1 := by
  rw [State.clearRec, isOpen, Bool.not_true, if_neg Bool.false_ne_true, if_pos live]

/-- The record is closed, and holds its unit no more. -/
def State.recClosed (s : State) (r : Nat) : State := (s.put (R.FLT_RECA r) F.FLT_RECA_OPEN 0).put (R.FLT_RECA r) F.FLT_RECA_HELD 0

theorem State.clearRec_clears (isOpen : s.recOpen r = true) (gone : s.recActive r = false)
    (still : s.get (R.FLT_RECA r) F.FLT_RECA_COUNT ≤ 1 ∨ s.get (R.FLT_RECC r) F.FLT_RECC_LAST ≠ s.beats % 2 ^ 32) :
    s.clearRec r = if s.bit (R.FLT_RECA r) F.FLT_RECA_HELD then State.liftUnit
        { s.recClosed r with flt := { (s.recClosed r).flt with
          norec := (s.recClosed r).flt.norec.filter (fun e => !(e.1 == s.recKind r && e.2.1 == s.recIndex r)) } }
        (s.recKind r) (s.recIndex r)
      else s.recClosed r := by
  have dead : ¬ (s.recActive r = true ∨
      1 < s.get (R.FLT_RECA r) F.FLT_RECA_COUNT ∧ s.get (R.FLT_RECC r) F.FLT_RECC_LAST = s.beats % 2 ^ 32) := by
    rw [gone]
    rintro (h | ⟨many, last⟩)
    · exact Bool.false_ne_true h
    · exact still.elim (fun few => by omega) fun apart => apart last
  rw [State.clearRec, isOpen, Bool.not_true, if_neg Bool.false_ne_true, if_neg dead, State.recClosed]

theorem State.recClosed_shown (s : State) (r : Nat) : (s.recClosed r).recOpen r = false ∧
    (s.recClosed r).bit (R.FLT_RECA r) F.FLT_RECA_HELD = false ∧ Only [R.FLT_RECA r] s (s.recClosed r) := by
  have own : R.FLT_RECA r ∈ [R.FLT_RECA r] := List.mem_singleton_self _
  refine ⟨?_, ?_, (Only.put _ _ _ _ _ own).trans (Only.put _ _ _ _ _ own)⟩
  · rw [State.recOpen, State.recClosed, State.bit_put_field _ _ _ _ _ (by decide) (by decide), State.bit_put_same _ _ _ _ (by decide)]
    rfl
  · rw [State.recClosed, State.bit_put_same _ _ _ _ (by decide)]
    rfl

end clearRec

theorem exec_fltClear_relatches {s : State} {r : Fin 64} (isOpen : s.recOpen r.val = true) (live : s.recActive r.val = true ∨
      1 < s.get (R.FLT_RECA r.val) F.FLT_RECA_COUNT ∧ s.get (R.FLT_RECC r.val) F.FLT_RECC_LAST = s.beats % 2 ^ 32) :
    ∃ t, exec (.fltClear r) s = .next t ∧ t.recOpen r.val = true ∧
      t.get (R.FLT_RECA r.val) F.FLT_RECA_RELATCH = satAdd (s.get (R.FLT_RECA r.val) F.FLT_RECA_RELATCH) 1 (2 ^ 8 - 1) ∧
      t.get R.FLT_CNT F.FLT_CNT_RELATCH = satAdd (s.get R.FLT_CNT F.FLT_CNT_RELATCH) 1 (2 ^ 16 - 1) ∧
      Only [R.FLT_RECA r.val, R.FLT_CNT] s t := by
  have apart : (R.FLT_RECA r.val).addr ≠ R.FLT_CNT.addr := by
    simp only [R.FLT_RECA, R.FLT_CNT]
    omega
  refine ⟨_, congrArg Host.Outcome.next (State.clearRec_relatches isOpen live), ?_, ?_, ?_, ?_⟩
  · rw [State.recOpen, State.bump, State.bit_put_other _ _ _ _ _ _ apart, State.bump,
      State.bit_put_field _ _ _ _ _ (by decide) (by decide)]
    exact isOpen
  · rw [State.bump, State.get_put_other _ _ _ _ _ _ apart, State.get_bump_same _ _ _ _ (by decide)]
    rfl
  · rw [State.get_bump_same _ _ _ _ (by decide), State.bump, State.get_put_other _ _ _ _ _ _ apart.symm]
    rfl
  · exact (Only.put _ _ _ _ _ List.mem_cons_self).trans (Only.put _ _ _ _ _ (List.mem_cons_of_mem _ List.mem_cons_self))

theorem exec_fltClear_clears {s : State} {r : Fin 64} (isOpen : s.recOpen r.val = true) (gone : s.recActive r.val = false)
    (still : s.get (R.FLT_RECA r.val) F.FLT_RECA_COUNT ≤ 1 ∨ s.get (R.FLT_RECC r.val) F.FLT_RECC_LAST ≠ s.beats % 2 ^ 32) :
    ∃ u, u.recOpen r.val = false ∧ u.bit (R.FLT_RECA r.val) F.FLT_RECA_HELD = false ∧ Only [R.FLT_RECA r.val] s u ∧
      (s.bit (R.FLT_RECA r.val) F.FLT_RECA_HELD = false → exec (.fltClear r) s = .next u) ∧
      (s.bit (R.FLT_RECA r.val) F.FLT_RECA_HELD = true → exec (.fltClear r) s = .next (State.liftUnit
        { u with flt := { u.flt with norec := u.flt.norec.filter (fun e => !(e.1 == s.recKind r.val && e.2.1 == s.recIndex r.val)) } }
        (s.recKind r.val) (s.recIndex r.val))) := by
  obtain ⟨closed, free, only⟩ := s.recClosed_shown r.val
  have eq := State.clearRec_clears isOpen gone still
  refine ⟨s.recClosed r.val, closed, free, only, fun held => ?_, fun held => ?_⟩
  · change Host.Outcome.next (s.clearRec r.val) = _
    rw [eq, held, if_neg Bool.false_ne_true]
  · change Host.Outcome.next (s.clearRec r.val) = _
    rw [eq, held, if_pos rfl]

/-! ### FLT_CMD and FLT_CODECFG (R368, R371) -/

section fltCmd
variable {s : State} {k : BitVec 4} {i : BitVec 16}

theorem exec_fltLift_refused (none_held : s.flt.norec.find? (fun e => e.1 == k.toNat && e.2.1 == i.toNat) = none) :
    exec (.fltLift k i) s = .next (s.setBit R.FLT_STATUS F.FLT_STATUS_BADCMD) := by
  change Host.Outcome.next ((s.liftNorec k.toNat i.toNat).getD s.fltBad) = _
  rw [State.liftNorec, none_held, State.fltBad]
  rfl

theorem exec_fltLift_lifts {e : Nat × Nat × Nat} (held : s.flt.norec.find? (fun e => e.1 == k.toNat && e.2.1 == i.toNat) = some e)
    (rec : s.recOf k.toNat i.toNat = none) (gone : s.causeLives e.2.2 k.toNat i.toNat = false) :
    exec (.fltLift k i) s = .next (State.liftUnit
      { s with flt := { s.flt with norec := s.flt.norec.filter (fun e => !(e.1 == k.toNat && e.2.1 == i.toNat)) } } k.toNat i.toNat) := by
  obtain ⟨kind, index, code⟩ := e
  have lifts : ¬ ((s.recOf k.toNat i.toNat).isSome = true ∨ s.causeLives code k.toNat i.toNat = true) := by
    rw [rec, gone]
    decide
  change Host.Outcome.next ((s.liftNorec k.toNat i.toNat).getD s.fltBad) = _
  rw [State.liftNorec, held]
  dsimp only
  rw [if_neg lifts, Option.getD_some]

end fltCmd

theorem State.writeCodecfg_refused {s : State} {c v : Nat}
    (h : v % 4 ≠ 0 ∧ v % 4 < lowClass c ∨ v % 4 = 2 ∧ lowClass c < 2 ∧ canHold c = false) :
    s.writeCodecfg c v = s.setBit R.FLT_STATUS F.FLT_STATUS_CFG_REFUSED := by
  rw [State.writeCodecfg]
  exact if_pos (by simpa only [Bool.not_eq_true'] using h)

theorem State.writeCodecfg_accepted {s : State} {c v : Nat}
    (h : v % 4 = 0 ∨ lowClass c ≤ v % 4 ∧ (v % 4 = 2 → lowClass c < 2 → canHold c = true)) :
    s.writeCodecfg c v = s.wr (R.FLT_CODECFG c) (v % 32) := by
  rw [State.writeCodecfg]
  refine if_neg ?_
  rintro (⟨some_class, lowers⟩ | ⟨two, low, unheld⟩)
  · omega
  · obtain ⟨-, holds⟩ := h.resolve_left (by omega)
    rw [holds two low] at unheld
    exact Bool.false_ne_true unheld

theorem exec_fltCodecfgWrite_accepted {s : State} {c : Fin 64} {v : BitVec 64} (h : v.toNat % 4 = 0 ∨
      lowClass c.val ≤ v.toNat % 4 ∧ (v.toNat % 4 = 2 → lowClass c.val < 2 → canHold c.val = true)) :
    ∃ t, exec (.fltCodecfgWrite c v) s = .next t ∧ t.rd (R.FLT_CODECFG c.val) = v.toNat % 32 ∧ Only [R.FLT_CODECFG c.val] s t := by
  refine ⟨_, congrArg Host.Outcome.next (State.writeCodecfg_accepted h), ?_, Only.wr _ _ _ _ (List.mem_singleton_self _)⟩
  rw [State.rd_wr, Nat.mod_eq_of_lt (by omega)]

/-! ### DPC_CLEAR (R238, R371) -/

section dpcClear
variable {s u : State} {p : Fin 256}
  (hu : u = s.setBridge (s.portBridge p.val) { s.bridge (s.portBridge p.val) with dpcTrig := false })
include hu

theorem exec_dpcClear_only (h : s.bit (R.PRT_CTL p.val) F.PRT_CTL_HOST_LIFT = false ∨ s.portHeld p.val = false ∨
      (s.get (R.PRT_STATUS p.val) F.PRT_STATUS_HOLD_SRC ≠ 1 ∧ s.get (R.PRT_STATUS p.val) F.PRT_STATUS_HOLD_SRC ≠ 2)) :
    exec (.dpcClear p) s = .next u := by
  subst hu
  change execDpcClear p s = _
  rw [execDpcClear]
  exact if_pos (h.imp (Bool.not_eq_true' _).mpr (Or.imp_left (Bool.not_eq_true' _).mpr))

theorem dpcClear_recOf : u.recOf UK.port p.val = s.recOf UK.port p.val := by
  subst hu
  exact SameFaults.recOf_eq (fun _ _ => rfl) _ _

variable (lift : s.bit (R.PRT_CTL p.val) F.PRT_CTL_HOST_LIFT = true) (held : s.portHeld p.val = true)
  (src : s.get (R.PRT_STATUS p.val) F.PRT_STATUS_HOLD_SRC = 1 ∨ s.get (R.PRT_STATUS p.val) F.PRT_STATUS_HOLD_SRC = 2)
include lift held src

/-- With HOST_LIFT, and a hold by PORT_DPC or PORT_DOWN, the clear of DPC is a clear of the port's record, or a lift without one. -/
theorem exec_dpcClear_acts : exec (.dpcClear p) s = match u.recOf UK.port p.val with
    | some r => .next (if (u.clearRec r).portHeld p.val then
        (u.clearRec r).setBridge (u.portBridge p.val) { u.bridge (u.portBridge p.val) with dpcTrig := true } else u.clearRec r)
    | none => .next ((u.liftNorec UK.port p.val).getD u) := by
  subst hu
  change execDpcClear p s = _
  rw [execDpcClear]
  refine (if_neg ?_).trans rfl
  rintro (unset | free | ⟨one, two⟩)
  · exact Bool.false_ne_true ((Bool.not_eq_true' _).mp unset |>.symm.trans lift)
  · exact Bool.false_ne_true ((Bool.not_eq_true' _).mp free |>.symm.trans held)
  · exact src.elim one two

theorem exec_dpcClear_lifted {r : Nat} (rec : s.recOf UK.port p.val = some r) (free : (u.clearRec r).portHeld p.val = false) :
    exec (.dpcClear p) s = .next (u.clearRec r) := by
  rw [exec_dpcClear_acts hu lift held src, dpcClear_recOf hu, rec]
  dsimp only
  rw [free, if_neg Bool.false_ne_true]

theorem exec_dpcClear_stays {r : Nat} (rec : s.recOf UK.port p.val = some r) (stays : (u.clearRec r).portHeld p.val = true) :
    ∃ t, exec (.dpcClear p) s = .next t ∧ t.regs = (u.clearRec r).regs ∧ (t.bridge (s.portBridge p.val)).dpcTrig = true := by
  have key : u.portBridge p.val = s.portBridge p.val := by
    rw [hu, State.portBridge, State.portPt, State.getAct, State.rdAct, State.setBridge_act, State.portBridge, State.portPt, State.getAct,
      State.rdAct]
  refine ⟨(u.clearRec r).setBridge (u.portBridge p.val) { u.bridge (u.portBridge p.val) with dpcTrig := true }, ?_,
    State.setBridge_regs _ _ _, ?_⟩
  · rw [exec_dpcClear_acts hu lift held src, dpcClear_recOf hu, rec]
    dsimp only
    rw [stays, if_pos rfl]
  · rw [key, State.bridge, State.setBridge, SMap.get_set_same]

theorem exec_dpcClear_norec (rec : s.recOf UK.port p.val = none) :
    exec (.dpcClear p) s = .next ((u.liftNorec UK.port p.val).getD u) := by
  rw [exec_dpcClear_acts hu lift held src, dpcClear_recOf hu, rec]

end dpcClear

/-! ### LEASE_EXPIRED (R30) -/

/-- The log of an expiry and its event touch reports and cores alone. -/
theorem State.leaseLate_frame (s : State) (kind holder addr : Nat) :
    { s.leaseLate kind holder addr with gaf := s.gaf, reports := s.reports } = s :=
  (congrArg (fun t : State => { t with reports := s.reports }) ((s.reportMaster FC.LEASE_EXPIRED holder kind addr).event_frame 35) :)

section leaseLate
variable (s : State) (kind holder addr : Nat)

theorem State.leaseLate_rd (r : RegRef) : (s.leaseLate kind holder addr).rd r = s.rd r :=
  (congrArg (State.rd · r) (s.leaseLate_frame kind holder addr) :)
theorem State.leaseLate_bit (r : RegRef) (f : Fld) : (s.leaseLate kind holder addr).bit r f = s.bit r f := by
  rw [State.bit, State.get, State.leaseLate_rd, State.bit, State.get]
theorem State.leaseLate_que : (s.leaseLate kind holder addr).que = s.que := (congrArg State.que (s.leaseLate_frame kind holder addr) :)
theorem State.leaseLate_mbx : (s.leaseLate kind holder addr).mbx = s.mbx := (congrArg State.mbx (s.leaseLate_frame kind holder addr) :)
theorem State.leaseLate_gst : (s.leaseLate kind holder addr).gst = s.gst := (congrArg State.gst (s.leaseLate_frame kind holder addr) :)
theorem State.leaseLate_cmd : (s.leaseLate kind holder addr).cmd = s.cmd := (congrArg State.cmd (s.leaseLate_frame kind holder addr) :)

end leaseLate

/-- A lease marked expired leaves the cores, the reports and the routing of events as they were, so that its log is that of the state
before. -/
theorem leaseLate_logged {s t : State} (kind holder addr : Nat) (gaf : t.gaf = s.gaf) (reports : t.reports = s.reports)
    (now : t.now = s.now)
    (route : t.rd (R.GAF_EVROUTE 3) = s.rd (R.GAF_EVROUTE 3)) (wake : t.rd R.EMB_WAKEMASK = s.rd R.EMB_WAKEMASK) :
    (t.leaseLate kind holder addr).gaf = (s.event 35).gaf ∧
      (t.leaseLate kind holder addr).reports = (s.reportMaster FC.LEASE_EXPIRED holder kind addr).reports := by
  refine ⟨State.event_gaf_congr 35 gaf route wake, ?_⟩
  rw [State.leaseLate, State.event_reports, State.reportMaster, State.report, State.reportMaster, State.report, reports, now]

theorem exec_leaseExpired_region {s : State} {i : Fin 256} (valid : s.bit (R.GST_LOCKA i.val) F.GST_LOCKA_VALID = true)
    (fresh : s.bit (R.GST_LOCKA i.val) F.GST_LOCKA_EXPIRED = false) :
    ∃ t, exec (.leaseExpired (.region i)) s = .next t ∧ t.bit (R.GST_LOCKA i.val) F.GST_LOCKA_EXPIRED = true ∧
      t.bit (R.GST_LOCKA i.val) F.GST_LOCKA_VALID = true ∧ t.rd (R.GST_LOCKB i.val) = s.rd (R.GST_LOCKB i.val) ∧
      t.gaf = (s.event 35).gaf ∧ t.reports = (s.reportMaster FC.LEASE_EXPIRED (s.rd (R.GST_LOCKB i.val) % 2 ^ 32) 2 i.val).reports := by
  have other (q : RegRef) (h : q.addr ≠ (R.GST_LOCKA i.val).addr) : (s.setBit (R.GST_LOCKA i.val) F.GST_LOCKA_EXPIRED).rd q = s.rd q :=
    State.rd_put_other _ _ _ _ _ h
  have lockb : (R.GST_LOCKB i.val).addr ≠ (R.GST_LOCKA i.val).addr := by
    simp only [R.GST_LOCKA, R.GST_LOCKB]
    omega
  refine ⟨(s.setBit (R.GST_LOCKA i.val) F.GST_LOCKA_EXPIRED).leaseLate 2 (s.rd (R.GST_LOCKB i.val) % 2 ^ 32) i.val, ?_, ?_, ?_, ?_,
    leaseLate_logged _ _ _ (State.setBit_gaf _ _ _) (State.setBit_reports _ _ _) (State.setBit_now _ _ _) (other _ ?_) (other _ ?_)⟩
  · change execLeaseExpired (.region i) s = _
    rw [execLeaseExpired]
    rw [valid, fresh, Bool.not_false, Bool.and_self, if_pos rfl]
  · rw [State.leaseLate_bit, State.bit_setBit _ _ _ (by decide) rfl]
  · rw [State.leaseLate_bit, State.setBit, State.bit_put_field _ _ _ _ _ (by decide) (by decide), valid]
  · rw [State.leaseLate_rd, other _ lockb]
  · simp only [R.GAF_EVROUTE, R.GST_LOCKA]
    omega
  · simp only [R.EMB_WAKEMASK, R.GST_LOCKA]
    omega

theorem exec_leaseExpired_region_free {s : State} {i : Fin 256} (h : s.bit (R.GST_LOCKA i.val) F.GST_LOCKA_VALID = false) :
    exec (.leaseExpired (.region i)) s = .next s := by
  change execLeaseExpired (.region i) s = _
  rw [execLeaseExpired]
  rw [h, Bool.false_and, if_neg Bool.false_ne_true]

theorem exec_leaseExpired_queue {s : State} {x : Lease} {f : Fin 65536} (held : SMap.get s.que.locks none f.val = some x)
    (fresh : x.expired = false) :
    ∃ t, exec (.leaseExpired (.queue f)) s = .next t ∧ SMap.get t.que.locks none f.val = some { x with expired := true } ∧
      t.gaf = (s.event 35).gaf ∧ t.reports = (s.reportMaster FC.LEASE_EXPIRED x.holder 1 f.val).reports := by
  refine ⟨State.leaseLate
    { s with que := { s.que with locks := SMap.set s.que.locks none f.val (some { x with expired := true }) } } 1 x.holder f.val, ?_, ?_,
    leaseLate_logged _ _ _ rfl rfl rfl rfl rfl⟩
  · change execLeaseExpired (.queue f) s = _
    rw [execLeaseExpired]
    dsimp only
    rw [held]
    dsimp only
    rw [fresh, if_neg Bool.false_ne_true]
  · rw [State.leaseLate_que, SMap.get_set_same]

theorem exec_leaseExpired_line {s : State} {l : BitVec 31} {e : Nat × Nat × Lease}
    (held : s.gst.seqs.find? (fun e => e.1 == l.toNat) = some e) (fresh : e.2.2.expired = false) :
    ∃ t, exec (.leaseExpired (.line l)) s = .next t ∧ t.gst.seqs = s.gst.seqs.map (fun e =>
        if e.1 = l.toNat then (e.1, e.2.1, { e.2.2 with expired := true }) else e) ∧
      t.gaf = (s.event 35).gaf ∧ t.reports = (s.reportMaster FC.LEASE_EXPIRED e.2.2.holder 4 (64 * l.toNat)).reports := by
  obtain ⟨line, who, x⟩ := e
  refine ⟨State.leaseLate { s with gst := { s.gst with seqs := s.gst.seqs.map (fun e =>
    if e.1 = l.toNat then (e.1, e.2.1, { e.2.2 with expired := true }) else e) } } 4 x.holder (64 * l.toNat), ?_, ?_,
    leaseLate_logged _ _ _ rfl rfl rfl rfl rfl⟩
  · change execLeaseExpired (.line l) s = _
    rw [execLeaseExpired]
    dsimp only
    rw [held]
    dsimp only
    rw [fresh, if_neg Bool.false_ne_true]
  · rw [State.leaseLate_gst]

section setClaim
variable (s : State) (x : Nat) (e : Lease)

/-- The claim of an end as it is before CLAIMED and EXPIRED follow. -/
theorem State.setClaim_eq : s.setClaim x (some e) =
    (({ s with mbx := { s.mbx with claims := SMap.set s.mbx.claims none x (some e) } }.put (R.MBX_ESTAT x) F.MBX_ESTAT_CLAIMED 1).put
      (R.MBX_ESTAT x) F.MBX_ESTAT_EXPIRED (bit01 e.expired)) := rfl

theorem State.setClaim_claimOf : (s.setClaim x (some e)).claimOf x = some e := by
  rw [State.claimOf, State.setClaim_eq, State.put_mbx, State.put_mbx, SMap.get_set_same]

theorem State.setClaim_rd_other (q : RegRef) (h : q.addr ≠ (R.MBX_ESTAT x).addr) : (s.setClaim x (some e)).rd q = s.rd q := by
  rw [State.setClaim_eq, State.rd_put_other _ _ _ _ _ h, State.rd_put_other _ _ _ _ _ h]
  rfl

theorem State.setClaim_expired : (s.setClaim x (some e)).bit (R.MBX_ESTAT x) F.MBX_ESTAT_EXPIRED = e.expired := by
  rw [State.setClaim_eq, State.bit_put_same _ _ _ _ (by decide)]
  cases e.expired <;> rfl

end setClaim

theorem exec_leaseExpired_mailbox {s : State} {m : Fin 512} {host : Bool} {x : Lease} (held : s.claimOf (mbxFrame m.val host) = some x)
    (fresh : x.expired = false) :
    ∃ t, exec (.leaseExpired (.mailbox m host)) s = .next t ∧ t.claimOf (mbxFrame m.val host) = some { x with expired := true } ∧
      t.bit (R.MBX_ESTAT (mbxFrame m.val host)) F.MBX_ESTAT_EXPIRED = true ∧ t.gaf = (s.event 35).gaf ∧
      t.reports = (s.reportMaster FC.LEASE_EXPIRED x.holder 3 m.val).reports := by
  have expired := s.setClaim_expired (mbxFrame m.val host) { x with expired := true }
  have claim := s.setClaim_claimOf (mbxFrame m.val host) { x with expired := true }
  have other := s.setClaim_rd_other (mbxFrame m.val host) { x with expired := true }
  have kept : (s.setClaim (mbxFrame m.val host) (some { x with expired := true })).gaf = s.gaf ∧
      (s.setClaim (mbxFrame m.val host) (some { x with expired := true })).reports = s.reports ∧
      (s.setClaim (mbxFrame m.val host) (some { x with expired := true })).now = s.now := by
    rw [State.setClaim_eq, State.put_gaf, State.put_gaf, State.put_reports, State.put_reports, State.put_now, State.put_now]
    exact ⟨rfl, rfl, rfl⟩
  obtain ⟨gaf, reports, now⟩ := kept
  refine ⟨(s.setClaim (mbxFrame m.val host) (some { x with expired := true })).leaseLate 3 x.holder m.val, ?_, ?_, ?_,
    leaseLate_logged _ _ _ gaf reports now (other _ ?_) (other _ ?_)⟩
  · change execLeaseExpired (.mailbox m host) s = _
    rw [execLeaseExpired]
    rw [held]
    dsimp only
    rw [fresh, if_neg Bool.false_ne_true]
  · rw [State.claimOf, State.leaseLate_mbx, ← State.claimOf, claim]
  · rw [State.leaseLate_bit, expired]
  · simp only [R.GAF_EVROUTE, R.MBX_ESTAT]
    omega
  · simp only [R.EMB_WAKEMASK, R.MBX_ESTAT]
    omega

section setSlotLease
variable (s : State) (k : Nat) (e : Lease)

/-- The lease of a slot as it is before HOLDER, EXPIRED and NOHOLDER follow. -/
theorem State.setSlotLease_eq : s.setSlotLease k (some e) =
    ((({ s with cmd := { s.cmd with leases := SMap.set s.cmd.leases none k (some e) } }.put (R.CMD_SLOT k) F.CMD_SLOT_HOLDER e.holder).put
      (R.CMD_SLOT k) F.CMD_SLOT_EXPIRED (bit01 e.expired)).put (R.CMD_SLOT k) F.CMD_SLOT_NOHOLDER 0) := rfl

theorem State.setSlotLease_slotLease : (s.setSlotLease k (some e)).slotLease k = some e := by
  rw [State.slotLease, State.setSlotLease_eq, State.put_cmd, State.put_cmd, State.put_cmd, SMap.get_set_same]

theorem State.setSlotLease_rd_other (q : RegRef) (h : q.addr ≠ (R.CMD_SLOT k).addr) : (s.setSlotLease k (some e)).rd q = s.rd q := by
  rw [State.setSlotLease_eq, State.rd_put_other _ _ _ _ _ h, State.rd_put_other _ _ _ _ _ h, State.rd_put_other _ _ _ _ _ h]
  rfl

theorem State.setSlotLease_expired : (s.setSlotLease k (some e)).bit (R.CMD_SLOT k) F.CMD_SLOT_EXPIRED = e.expired := by
  rw [State.setSlotLease_eq, State.bit_put_field _ _ _ _ _ (by decide) (by decide), State.bit_put_same _ _ _ _ (by decide)]
  cases e.expired <;> rfl

end setSlotLease

theorem exec_leaseExpired_slot {s : State} {k : Fin 16} {x : Lease} (held : s.slotLease k.val = some x) (fresh : x.expired = false) :
    ∃ t, exec (.leaseExpired (.slot k)) s = .next t ∧ t.slotLease k.val = some { x with expired := true } ∧
      t.bit (R.CMD_SLOT k.val) F.CMD_SLOT_EXPIRED = true ∧ t.gaf = (s.event 35).gaf ∧
      t.reports = (s.reportMaster FC.LEASE_EXPIRED x.holder 5 k.val).reports := by
  have expired := s.setSlotLease_expired k.val { x with expired := true }
  have lease := s.setSlotLease_slotLease k.val { x with expired := true }
  have other := s.setSlotLease_rd_other k.val { x with expired := true }
  have kept : (s.setSlotLease k.val (some { x with expired := true })).gaf = s.gaf ∧
      (s.setSlotLease k.val (some { x with expired := true })).reports = s.reports ∧
      (s.setSlotLease k.val (some { x with expired := true })).now = s.now := by
    rw [State.setSlotLease_eq, State.put_gaf, State.put_gaf, State.put_gaf, State.put_reports, State.put_reports, State.put_reports,
      State.put_now, State.put_now, State.put_now]
    exact ⟨rfl, rfl, rfl⟩
  obtain ⟨gaf, reports, now⟩ := kept
  refine ⟨(s.setSlotLease k.val (some { x with expired := true })).leaseLate 5 x.holder k.val, ?_, ?_, ?_,
    leaseLate_logged _ _ _ gaf reports now (other _ ?_) (other _ ?_)⟩
  · change execLeaseExpired (.slot k) s = _
    rw [execLeaseExpired]
    rw [held]
    dsimp only
    rw [fresh, if_neg Bool.false_ne_true]
  · rw [State.slotLease, State.leaseLate_cmd, ← State.slotLease, lease]
  · rw [State.leaseLate_bit, expired]
  · simp only [R.GAF_EVROUTE, R.CMD_SLOT]
    omega
  · simp only [R.EMB_WAKEMASK, R.CMD_SLOT]
    omega

/-! ### The obligation -/

/-- Settles O49, command by command: placing a report only counts before it decides, so that its case is that of the state before, and a
hold of a port at rest has nothing to flush. -/
theorem faultsAreRecordedHeldClearedAndLifted : Obligations.FaultsAreRecordedHeldClearedAndLifted := by
  unfold Obligations.FaultsAreRecordedHeldClearedAndLifted
  refine ⟨fun s => exec_faultRecord_none, fun s x => exec_faultRecord, fun s x cls first code hcls => ⟨fun r rs rec free h3 => ⟨?_, ?_⟩,
      fun rec free h1 => ?_, fun r => faultRecord_merges first code hcls, faultRecord_fatal first code hcls⟩,
    fun s r => exec_unitHold_idle, fun s u r code k due hu => ?_, fun s r p code k => exec_unitHold_port,
    fun s => ⟨exec_fatalReset_runs, exec_fatalReset_waits, exec_fltReset_refused, exec_fltReset_runs⟩,
    fun s r => ⟨fun closed => congrArg Host.Outcome.next (State.clearRec_closed closed), exec_fltClear_relatches, exec_fltClear_clears⟩,
    ?_, fun s c v => ⟨fun some_class lowers => ?_, fun two low unheld => ?_, exec_fltCodecfgWrite_accepted⟩,
    fun s u p hu => ⟨exec_dpcClear_only hu, fun lift held src => ⟨fun r rec => ⟨exec_dpcClear_lifted hu lift held src rec,
      exec_dpcClear_stays hu lift held src rec⟩, exec_dpcClear_norec hu lift held src⟩⟩,
    fun s => ⟨fun i => exec_leaseExpired_region, fun i => exec_leaseExpired_region_free, ?_, fun m host x => exec_leaseExpired_mailbox,
      fun l e => exec_leaseExpired_line, fun k x => exec_leaseExpired_slot⟩⟩
  · exact faultRecord_opens first code hcls rec free h3
  · exact fun h1 why => faultRecord_lost first code hcls rec h1 (.inr ⟨r, rs, free, why⟩)
  · obtain ⟨t, next, lost, -, flt⟩ := faultRecord_lost first code hcls rec h1 (.inl free)
    exact ⟨t, next, lost, flt⟩
  · refine ⟨_, exec_unitHold due hu, rfl, fun _ keeps => ?_⟩
    rw [State.revokeIf_off keeps, hu]
    exact State.bit_setBit _ _ _ (by decide) rfl
  · rintro s k i o _ rfl
    refine ⟨exec_fltLift_refused, fun e => exec_fltLift_lifts, fun unit => ?_, fun no_unit => ?_, rfl⟩
    · exact congrArg Host.Outcome.next (if_pos unit)
    · exact congrArg Host.Outcome.next (if_neg (Nat.not_lt.mpr no_unit))
  · exact congrArg Host.Outcome.next (State.writeCodecfg_refused (.inl ⟨some_class, lowers⟩))
  · exact congrArg Host.Outcome.next (State.writeCodecfg_refused (.inr ⟨two, low, unheld⟩))
  · rintro _ x held fresh f rfl
    exact exec_leaseExpired_queue held fresh

end Sys2Proof.Machine
end

section
/-!
PROOFS. Sending packets and posting completions (R32, R42, R45, R74 to R77): what admission to the crucible, a write of the endpoint and
a completion entry leave as they were. None of them moves the state of a queue (R80), its descriptors or its packets.
-/
namespace Sys2Proof.Machine

/-! ### The frame -/

/-- `t` is `s` for the queue path, but for what sending packets and posting completions may change: the completion rings. The lanes and word 0
of every context record are those of `s`. -/
structure Posted (s t : State) : Prop where
  rings : { t.que with cqFly := s.que.cqFly, cqPass := s.que.cqPass } = s.que
  lanes : t.gaf.lanes = s.gaf.lanes
  ctx : ∀ q, t.rd (R.QCTX q 0) = s.rd (R.QCTX q 0)

namespace Posted

theorem of_que {s t : State} (que : t.que = s.que) (lanes : t.gaf.lanes = s.gaf.lanes)
    (ctx : ∀ q, t.rd (R.QCTX q 0) = s.rd (R.QCTX q 0)) : Posted s t := ⟨by rw [que], lanes, ctx⟩

theorem refl (s : State) : Posted s s := ⟨rfl, rfl, fun _ => rfl⟩

variable {s t u : State}

theorem trans (h : Posted s t) (k : Posted t u) : Posted s u where
  rings := (congrArg (fun x : Que => { x with cqFly := s.que.cqFly, cqPass := s.que.cqPass }) k.rings).trans h.rings
  lanes := k.lanes.trans h.lanes
  ctx q := (k.ctx q).trans (h.ctx q)

theorem wr (h : Posted s t) (r : RegRef) (v : Nat) (apart : ∀ q, (R.QCTX q 0).addr ≠ r.addr) : Posted s (t.wr r v) :=
  h.trans ⟨rfl, rfl, fun q => State.rd_wr_other _ _ _ _ (apart q)⟩

theorem put (h : Posted s t) (r : RegRef) (f : Fld) (v : Nat) (apart : ∀ q, (R.QCTX q 0).addr ≠ r.addr) : Posted s (t.put r f v) :=
  h.wr r _ apart

theorem bump (h : Posted s t) (r : RegRef) (f : Fld) (n : Nat) (apart : ∀ q, (R.QCTX q 0).addr ≠ r.addr) : Posted s (t.bump r f n) :=
  h.wr r _ apart

theorem cru (h : Posted s t) (c : Cru) : Posted s { t with cru := c } := h.trans ⟨rfl, rfl, fun _ => rfl⟩
theorem free (h : Posted s t) : Posted s t.free.2 := h.trans ⟨rfl, rfl, fun _ => rfl⟩

theorem ite {p : Prop} [Decidable p] (h : Posted s t) (k : Posted s u) : Posted s (if p then t else u) := by
  split
  · exact h
  · exact k

theorem foldl {α : Type} (f : State → α → State) (l : List α) (h : Posted s t) (step : ∀ u a, Posted u (f u a)) :
    Posted s (l.foldl f t) :=
  List.foldlRecOn (motive := Posted s) l f h fun u hu a _ => hu.trans (step u a)

/-! What a posted completion leaves of the queue path. -/

variable (h : Posted s t)
include h

theorem descs_eq : t.que.descs = s.que.descs := (congrArg Que.descs h.rings :)
theorem linked_eq : t.que.linked = s.que.linked := (congrArg Que.linked h.rings :)
theorem wait_eq : t.que.wait = s.que.wait := (congrArg Que.wait h.rings :)
theorem pbuf_eq : t.que.pbuf = s.que.pbuf := (congrArg Que.pbuf h.rings :)
theorem jack_eq : t.que.jack = s.que.jack := (congrArg Que.jack h.rings :)
theorem dels_eq : t.que.dels = s.que.dels := (congrArg Que.dels h.rings :)
theorem rxMod_eq : t.que.rxMod = s.que.rxMod := (congrArg Que.rxMod h.rings :)
theorem cqMod_eq : t.que.cqMod = s.que.cqMod := (congrArg Que.cqMod h.rings :)
theorem lane_eq (l : Nat) : t.lane l = s.lane l := by
  rw [State.lane, h.lanes, State.lane]

end Posted

/-! ### Counting -/

@[simp] theorem State.event_lanes (s : State) (b : Nat) : (s.event b).gaf.lanes = s.gaf.lanes := by
  refine List.foldlRecOn (motive := fun t : State => t.gaf.lanes = s.gaf.lanes) _ _ rfl fun t ht c _ => ?_
  split
  · exact ht
  · exact ht

theorem State.gaf_sampled (s : State) (b : Nat × Nat) : { s with smpBeat := b }.gaf = s.gaf := rfl

theorem State.sampleWrite_lanes (s : State) (e : Ev) : (s.sampleWrite e).gaf.lanes = s.gaf.lanes := by
  unfold State.sampleWrite
  extract_lets here made before wr r
  split
  · rw [State.bump_gaf]
  have hmade : made.gaf = s.gaf := by
    unfold made
    split
    · rw [State.bump_gaf, State.put_gaf]
    · rfl
  clear_value made before r
  split
  rename_i lat drawn drew
  have hdrawn : drawn.gaf = made.gaf := congrArg (fun x : Nat × State => x.2.gaf) drew.symm
  extract_lets w0 w1 w2 w3 moved w th
  have h0 : w0.gaf = drawn.gaf := State.wr_gaf _ _ _
  have h1 : w1.gaf = w0.gaf := State.wr_gaf _ _ _
  have h2 : w2.gaf = w1.gaf := State.wr_gaf _ _ _
  have h3 : w3.gaf = w2.gaf := State.wr_gaf _ _ _
  have hmoved : moved.gaf = w3.gaf := State.put_gaf _ _ _ _
  have hw : w.gaf = moved.gaf := State.gaf_sampled _ _
  clear_value w
  clear_value moved
  clear_value w3
  clear_value w2
  clear_value w1
  clear_value w0
  have kept : w.gaf.lanes = s.gaf.lanes := by rw [hw, hmoved, h3, h2, h1, h0, hdrawn, hmade]
  split
  · rw [State.event_lanes, kept]
  · exact kept

theorem State.sample_lanes (s : State) (e : Ev) : (s.sample e).gaf.lanes = s.gaf.lanes := by
  unfold State.sample
  dsimp only
  split
  · split
    · exact State.sampleWrite_lanes _ e
    · rfl
  · rfl

theorem State.tally_lanes (s : State) (e : Ev) : (s.tally e).gaf.lanes = s.gaf.lanes := by
  unfold State.tally
  split
  · rfl
  refine List.foldlRecOn (motive := fun t : State => t.gaf.lanes = s.gaf.lanes) _ _ rfl fun t ht i _ => Eq.trans ?_ ht
  have added : (t.tallyAdd i e.weight).gaf.lanes = t.gaf.lanes := by
    unfold State.tallyAdd
    dsimp only
    split <;> rfl
  unfold State.tallyOne
  dsimp only
  split
  · split
    · exact (State.sample_lanes _ e).trans added
    · exact added
  · rfl

theorem Counted.que_eq {s t : State} (h : Counted s t) : t.que = s.que := (congrArg State.que h.1 :)
theorem Counted.cru_eq {s t : State} (h : Counted s t) : t.cru = s.cru := (congrArg State.cru h.1 :)
theorem Counted.err_eq {s t : State} (h : Counted s t) : t.err = s.err := (congrArg State.err h.1 :)

theorem qctx_not_counts (q w : Nat) : ¬ (R.QCTX q w).counts := by
  simp only [RegRef.counts, R.QCTX]
  omega

theorem Posted.tally {s t : State} (h : Posted s t) (e : Ev) : Posted s (t.tally e) :=
  have counted := t.tally_counted e
  h.trans (.of_que counted.que_eq (t.tally_lanes e) fun q => counted.2 _ (qctx_not_counts q 0))

/-! ### Admission (R42) -/

theorem coqstat_apart {Q : Nat} (hQ : Q < 2064) (q : Nat) : (R.QCTX q 0).addr ≠ (R.CRU_COQSTAT Q).addr := by
  simp only [R.QCTX, R.CRU_COQSTAT]
  omega
theorem coqdrop_apart {Q : Nat} (hQ : Q < 2064) (q : Nat) : (R.QCTX q 0).addr ≠ (R.CRU_COQDROP Q).addr := by
  simp only [R.QCTX, R.CRU_COQDROP]
  omega

theorem State.charge_posted (s : State) {Q : Nat} (n origin : Nat) (hQ : Q < 2064) : Posted s (s.charge Q n origin) := by
  refine Posted.tally (Posted.cru (Posted.free ?_) _) _
  unfold State.setOcc
  exact Posted.ite (((Posted.refl s).cru _).put _ _ _ (coqstat_apart hQ)) ((Posted.refl s).cru _)

theorem State.setOcc_coqs (s : State) (Q n : Nat) : (s.setOcc Q n).cru.coqs = s.cru.coqs := by
  unfold State.setOcc
  dsimp only
  split
  · rw [State.put_cru]
  · rfl

theorem State.takeRecord_coqs (s : State) : s.takeRecord.cru.coqs = s.cru.coqs := by
  unfold State.takeRecord State.free
  rfl

/-- A charge links nothing. -/
theorem State.charge_coqs (s : State) (Q n origin : Nat) : (s.charge Q n origin).cru.coqs = s.cru.coqs := by
  rw [State.charge, (State.tally_counted _ _).cru_eq, State.takeRecord_coqs, State.setOcc_coqs]

/-- `t` is `s` but for cells, their references and free values, as far as queues and COQs go. -/
structure Placed (s t : State) : Prop where
  que : t.que = s.que
  gaf : t.gaf = s.gaf
  regs : t.regs = s.regs
  coqs : t.cru.coqs = s.cru.coqs

theorem State.placeGob_placed {s t : State} {b : Nat} {prev : Option Nat} {c quad b' : Nat}
    (h : s.placeGob b prev = some (c, quad, b', t)) : Placed s t := by
  unfold State.placeGob State.free at h
  split at h
  · cases h
  · dsimp only at h
    split at h
    · cases h
    · obtain ⟨-, -, -, rfl⟩ := h
      exact ⟨rfl, rfl, rfl, rfl⟩

theorem Placed.store {s t : State} (h : Placed s t) (a : Nat) (bs : List Byte) : Placed s (t.store a bs) :=
  ⟨h.que, h.gaf, h.regs, h.coqs⟩

theorem Placed.trans {s t u : State} (h : Placed s t) (k : Placed t u) : Placed s u :=
  ⟨k.que.trans h.que, k.gaf.trans h.gaf, k.regs.trans h.regs, k.coqs.trans h.coqs⟩

/-- The recursion of `placeGobs`. Its search for a cell is set aside first: unfolded, it walks over the 512 quads. -/
theorem State.placeGobs_succ (s : State) (b : Nat) (prev : Option Nat) (data : List Byte) (n : Nat) :
    s.placeGobs b prev data (n + 1) = match s.placeGob b prev with
      | none => ([], s)
      | some (c, quad, b, s) =>
        let s := s.store (MB.cell + 256 * c) (data.take 256)
        let (cs, s) := s.placeGobs (b + 1) (some quad) (data.drop 256) n
        (c :: cs, s) := by
  delta State.placeGobs State.placeGobs._f
  generalize State.placeGob = place
  rfl

theorem State.placeGobs_placed (n : Nat) (s : State) (b : Nat) (prev : Option Nat) (data : List Byte) :
    Placed s (s.placeGobs b prev data n).2 := by
  induction n generalizing s b prev data with
  | zero => exact ⟨rfl, rfl, rfl, rfl⟩
  | succ n ih =>
    rw [State.placeGobs_succ]
    split
    · exact ⟨rfl, rfl, rfl, rfl⟩
    · rename_i c quad b' t one
      exact ((State.placeGob_placed one).store _ _).trans (ih _ _ _ _)

theorem State.placeGobs_posted (n : Nat) (s : State) (b : Nat) (prev : Option Nat) (data : List Byte) :
    Posted s (s.placeGobs b prev data n).2 :=
  have placed := s.placeGobs_placed n b prev data
  .of_que placed.que (congrArg Gaf.lanes placed.gaf) fun q => by rw [State.rd, placed.regs, State.rd]

/-- A packet that R42 admits is linked at the tail of its COQ. -/
theorem State.admitPkt_admissible {s : State} {p : Pkt} {Q : Nat} (ok : s.admissible Q p.gobs = true) (hQ : Q < 2064) :
    ∃ t k, s.admitPkt p Q = some t ∧ t.coq Q = s.coq Q ++ [k] ∧ k.role = p.role ∧ k.body = p.body ∧ Posted s t := by
  unfold State.admitPkt
  rw [if_pos ok]
  dsimp only
  generalize hu : s.charge Q p.gobs p.origin = u
  refine ⟨_, _, rfl, (SMap.get_set_same _ _ _ _).trans (congrArg (· ++ _) ?_), rfl, rfl, ?_⟩
  · rw [State.coq, (u.placeGobs_placed _ _ _ _).coqs, ← hu, State.charge_coqs, State.coq]
  · exact Posted.cru ((hu ▸ s.charge_posted p.gobs p.origin hQ : Posted s u).trans (u.placeGobs_posted _ _ _ _)) _

/-- A packet that R42 refuses is not linked. -/
theorem State.admitPkt_refused {s : State} {p : Pkt} {Q : Nat} (no : s.admissible Q p.gobs = false) : s.admitPkt p Q = none := by
  rw [State.admitPkt, if_neg (by simp [no])]

theorem State.admitPkt_posted {s t : State} {p : Pkt} {Q : Nat} (h : s.admitPkt p Q = some t) (hQ : Q < 2064) : Posted s t := by
  cases ok : s.admissible Q p.gobs with
  | true =>
    obtain ⟨u, -, admitted, -, -, -, posted⟩ := State.admitPkt_admissible ok hQ
    obtain rfl := Option.some.inj (admitted.symm.trans h)
    exact posted
  | false => exact absurd h (by simp [State.admitPkt_refused ok])

/-! ### Traffic of the endpoint port (R22, R32, R45) -/

theorem State.sendEndpoint_posted (s : State) (p : Pkt) {Q : Nat} (hQ : Q < 2064) : Posted s (s.sendEndpoint p Q) := by
  unfold State.sendEndpoint
  extract_lets waits
  split
  · rename_i t sent
    split at sent
    · cases sent
    · exact State.admitPkt_posted sent hQ
  · refine Posted.cru (Posted.ite ?_ ?_) _
    · exact (Posted.refl s).tally _
    · exact ((Posted.refl s).tally _).bump _ _ _ (coqdrop_apart hQ)

/-- With nothing held at the endpoint port, a packet that R42 admits is linked at the tail of its COQ. -/
theorem State.sendEndpoint_admissible {s : State} {p : Pkt} {Q : Nat} (none_held : s.cru.epHeld = []) (ok : s.admissible Q p.gobs = true)
    (hQ : Q < 2064) :
    ∃ k, (s.sendEndpoint p Q).coq Q = s.coq Q ++ [k] ∧ k.role = p.role ∧ Posted s (s.sendEndpoint p Q) := by
  obtain ⟨t, k, admitted, linked, role, -, posted⟩ := State.admitPkt_admissible ok hQ
  have sent : s.sendEndpoint p Q = t := by
    simp [State.sendEndpoint, none_held, admitted]
  exact ⟨k, sent ▸ linked, role, sent ▸ posted⟩

theorem State.portsOf_lt {s : State} {pt r p : Nat} (h : p ∈ s.portsOf pt r) : p < 256 := by
  obtain ⟨e, -, he⟩ := List.mem_filterMap.mp h
  split at he
  · rename_i place
    extract_lets i at he
    split at he
    · have same : i = p := Option.some.inj he
      omega
    · cases he
  · cases he

theorem State.upPort_lt {s : State} {pt p : Nat} (h : s.upPort pt = some p) : p < 256 := State.portsOf_lt (List.mem_of_mem_head? h)

theorem coqOfPort_lt {p c : Nat} (hp : p < 256) (hc : c < 8) : coqOfPort p c < 2064 := by
  unfold coqOfPort
  omega

theorem State.countDrop_posted (s : State) {Q : Nat} (port : Nat) (hQ : Q < 2064) : Posted s (s.countDrop Q port) := by
  unfold State.countDrop State.portCount
  have dropped := (Posted.refl s).bump _ F.CRU_COQDROP_DROP_PKTS 1 (coqdrop_apart hQ)
  split
  · exact dropped
  · refine dropped.wr _ _ fun q => ?_
    simp only [R.QCTX, R.TAL_PORT, PC.DROPS]
    omega

theorem State.sendUp_posted {s : State} {pt cls : Nat} (mk : Nat → State → Pkt × State) (hc : cls < 8) (made : ∀ q s, Posted s (mk q s).2) :
    Posted s (s.sendUp pt cls mk).2 := by
  unfold State.sendUp
  split
  · exact Posted.refl s
  · rename_i p up
    have hQ := coqOfPort_lt (State.upPort_lt up) hc
    dsimp only
    split
    · exact s.countDrop_posted _ hQ
    · exact (made _ s).trans (State.sendEndpoint_posted _ _ hQ)

theorem State.newPkt_posted (s : State) (role : Role) (body : Body) (bytes origin port cls pt : Nat) :
    Posted s (s.newPkt role body bytes origin port cls pt).2 := (Posted.refl s).cru _

/-! ### Completions (R74 to R76) -/

theorem State.qTc_lt (s : State) (q : Nat) : s.qTc q < 8 := Nat.mod_lt _ (by decide)

theorem qcount_apart (q : Nat) {w : Nat} (h0 : 0 < w) (h7 : w < 8) (q' : Nat) : (R.QCTX q' 0).addr ≠ (R.QCTX q w).addr := by
  simp only [R.QCTX]
  omega

theorem State.qCount_posted (s : State) (q : Nat) {w : Nat} (h0 : 0 < w) (h7 : w < 8) : Posted s (s.qCount q w) :=
  (Posted.refl s).wr _ _ (qcount_apart q h0 h7)

theorem qinfo_apart (q q' : Nat) : (R.QCTX q' 0).addr ≠ (R.QUE_QINFO q).addr := by
  simp only [R.QCTX, R.QUE_QINFO]
  omega

theorem State.postEntry_posted (s : State) (q : Nat) : Posted s (s.postEntry q) := ⟨rfl, rfl, fun _ => rfl⟩

theorem State.complete_posted (s : State) (q tag status reason dq len : Nat) : Posted s (s.complete q tag status reason dq len) := by
  unfold State.complete
  extract_lets counted
  have hcounted : Posted s counted := Posted.ite (s.qCount_posted q (by decide) (by decide)) (Posted.refl s)
  split
  · exact hcounted
  split
  · refine Posted.put (Posted.ite ?_ hcounted) _ _ _ (qinfo_apart q)
    exact hcounted.trans (State.qCount_posted _ q (by decide) (by decide))
  · refine ((hcounted.trans ?_).trans (State.postEntry_posted _ q)).trans
      (State.sendUp_posted _ (State.qTc_lt _ _) fun _ _ => State.newPkt_posted _ _ _ _ _ _ _ _)
    exact ⟨rfl, rfl, fun _ => rfl⟩

theorem State.outcome_posted (s : State) (p : QPkt) (status reason : Nat) : Posted s (s.outcome p status reason) := by
  unfold State.outcome
  split
  · split
    · exact Posted.refl s
    · exact s.qCount_posted _ (by decide) (by decide)
  · split
    · exact Posted.refl s
    · exact s.complete_posted _ _ _ _ _ _

end Sys2Proof.Machine
end

section
/-!
PROOFS. The payload in the gather store (R65, R111 to R113, R120): what the turn of an access, a read and a write of a chain of gobs leave
as they were, and what they read and write when no word has errors.
-/
namespace Sys2Proof.Machine

/-! ### The turn of an access (R120) -/

theorem State.gstGrant_gst {s t : State} {cg c b : Nat} (h : s.gstGrant cg c b = some t) : ∃ g, t = { s with gst := g } := by
  unfold State.gstGrant at h
  extract_lets asks g w k d ds at h
  split at h
  · exact ⟨_, (Option.some.inj h).symm⟩
  · cases h

theorem State.gstTurn_gst {s t : State} {c : Option Nat} {who : Nat} {ps : List (Nat × Nat)} (h : s.gstTurn c who ps = some t) :
    ∃ g, t = { s with gst := g } := by
  unfold State.gstTurn at h
  split at h
  · cases h
  split at h
  · exact ⟨s.gst, (Option.some.inj h).symm⟩
  · rename_i c
    refine List.foldlRecOn (motive := fun o : Option State => ∀ t, o = some t → ∃ g, t = { s with gst := g }) _ _
      (fun t h => ⟨s.gst, (Option.some.inj h).symm⟩) (fun o ho cg _ t h => ?_) t h
    dsimp only at h
    split at h
    · exact ho t h
    · obtain ⟨u, hu, granted⟩ := Option.bind_eq_some_iff.mp h
      obtain ⟨g, rfl⟩ := ho u hu
      obtain ⟨g', rfl⟩ := State.gstGrant_gst granted
      exact ⟨g', rfl⟩

/-- The turn of the payload engines moves the record of turns only. -/
theorem State.gobTurn_gst {s t : State} {rs : List (Nat × Nat)} (h : s.gobTurn rs = some t) : ∃ g, t = { s with gst := g } := by
  unfold State.gobTurn at h
  split at h
  · exact State.gstTurn_gst h
  · cases h

/-! ### Storing -/

/-- Where a gob lies follows from the place of the payload buffer. -/
theorem State.gobAddr_congr {s t : State} (place : t.rd R.QUE_PBUF = s.rd R.QUE_PBUF) (g : Nat) : t.gobAddr g = s.gobAddr g := by
  rw [State.gobAddr, State.get, place, State.gobAddr, State.get]

/-- Whether a gob lies in memory follows from the place of the payload buffer and the size of the store. -/
theorem State.mapped_congr {s t : State} (place : t.rd R.QUE_PBUF = s.rd R.QUE_PBUF) (trim : t.rd R.RST_TRIMSTAT = s.rd R.RST_TRIMSTAT)
    (g : Nat) : t.gstMapped (t.gobAddr g) = s.gstMapped (s.gobAddr g) := by
  have half : t.half = s.half := by rw [State.half, State.bit, State.get, trim, State.half, State.bit, State.get]
  rw [State.gobAddr_congr place, State.gstMapped, State.gstPages, half, State.gstMapped, State.gstPages]

/-- Registers in which the gather store tells of errors and retirements. -/
def RegRef.gstTells (r : RegRef) : Prop := 0x2000000 ≤ r.addr ∧ r.addr < 0x2001000

/-- `t` has the queue path of `s`, and its registers but for those of counting and of errors of the gather store. -/
structure Stored (s t : State) : Prop where
  que : t.que = s.que
  regs : ∀ r : RegRef, ¬ r.counts → ¬ r.gstTells → t.rd r = s.rd r

namespace Stored

theorem refl (s : State) : Stored s s := ⟨rfl, fun _ _ _ => rfl⟩

variable {s t u : State}

theorem trans (h : Stored s t) (k : Stored t u) : Stored s u :=
  ⟨k.que.trans h.que, fun r out told => (k.regs r out told).trans (h.regs r out told)⟩

theorem of_regs (que : t.que = s.que) (regs : t.regs = s.regs) : Stored s t :=
  ⟨que, fun r _ _ => by rw [State.rd, regs, State.rd]⟩

theorem counted (h : Counted s t) : Stored s t := ⟨h.que_eq, fun r out _ => h.2 r out⟩

theorem wr (h : Stored s t) (r : RegRef) (v : Nat) (tells : r.gstTells) : Stored s (t.wr r v) :=
  h.trans ⟨rfl, fun _ _ told => State.rd_wr_other _ _ _ _ fun e => told (by rwa [RegRef.gstTells, e])⟩

theorem put (h : Stored s t) (r : RegRef) (f : Fld) (v : Nat) (tells : r.gstTells) : Stored s (t.put r f v) := h.wr r _ tells
theorem bump (h : Stored s t) (r : RegRef) (f : Fld) (n : Nat) (tells : r.gstTells) : Stored s (t.bump r f n) := h.wr r _ tells
theorem gst (h : Stored s t) (g : Gst) : Stored s { t with gst := g } := h.trans (of_regs rfl rfl)
theorem report (h : Stored s t) (c k i o d a : Nat) : Stored s (t.report c k i o d a) := h.trans (of_regs rfl rfl)
theorem event (h : Stored s t) (b : Nat) : Stored s (t.event b) :=
  h.trans (of_regs (congrArg State.que (t.event_frame b) :) (t.event_regs b))
theorem store (h : Stored s t) (a : Nat) (bs : List Byte) : Stored s (t.store a bs) := h.trans (of_regs rfl rfl)
theorem setErr (h : Stored s t) (w bits : Nat) (poison : Bool) : Stored s (t.setErr w bits poison) := h.trans (of_regs rfl rfl)

theorem ite {p : Prop} [Decidable p] (h : Stored s t) (k : Stored s u) : Stored s (if p then t else u) := by
  split
  · exact h
  · exact k

theorem foldl {α : Type} (f : State → α → State) (l : List α) (h : Stored s t) (step : ∀ u a, Stored u (f u a)) :
    Stored s (l.foldl f t) :=
  List.foldlRecOn (motive := Stored s) l f h fun u hu a _ => hu.trans (step u a)

/-! The payload buffer stays where it is. -/

variable (h : Stored s t)
include h

theorem mapped_eq (g : Nat) : t.gstMapped (t.gobAddr g) = s.gstMapped (s.gobAddr g) :=
  State.mapped_congr (h.regs _ (by unfold RegRef.counts; decide) (by unfold RegRef.gstTells; decide))
    (h.regs _ (by unfold RegRef.counts; decide) (by unfold RegRef.gstTells; decide)) g

end Stored

theorem State.gstBurst_counted (s : State) (a n origin : Nat) : Counted s (s.gstBurst a n origin) :=
  Counted.ite (Counted.refl s) (Counted.foldl _ _ (Counted.refl s) fun t _ _ => t.tally_counted _)

theorem State.trackBlock_stored (s : State) (b : Nat) : Stored s (s.trackBlock b).2 := (Stored.refl s).gst _

theorem State.retireBlock_stored (s : State) (b : Nat) : Stored s (s.retireBlock b) := by
  unfold State.retireBlock
  split
  · exact Stored.refl s
  · dsimp only
    split
    · exact (Stored.refl s).gst _
    · exact (((Stored.refl s).bump _ _ _ (by unfold RegRef.gstTells; decide)).report _ _ _ _ _ _).event _

theorem State.eccEvent_stored (s : State) (d : Decoded) (a origin : Nat) (scrub : Bool) : Stored s (s.eccEvent d a origin scrub) := by
  unfold State.eccEvent
  extract_lets log b
  have logged (t : State) (w : Nat) (poison : Bool) : Stored t (log t w poison) :=
    Stored.ite ((Stored.refl t).put _ _ _ (by unfold RegRef.gstTells; decide))
      (((Stored.refl t).wr _ _ (by unfold RegRef.gstTells; decide)).put _ _ _ (by unfold RegRef.gstTells; decide))
  have stat (f : Fld) (w : Nat) (poison : Bool) : Stored s (log (s.bump R.GST_ECCSTAT f 1) w poison) :=
    ((Stored.refl s).bump _ _ _ (by unfold RegRef.gstTells; decide)).trans (logged _ _ _)
  clear_value log
  have retire {t : State} (h : Stored s t) : Stored s (t.retireBlock b) := h.trans (t.retireBlock_stored b)
  cases d with
  | clean => exact Stored.refl s
  | corr1 =>
    have tracked := (stat F.GST_ECCSTAT_CE1 1 false).trans (State.trackBlock_stored _ b)
    exact Stored.ite (retire tracked) tracked
  | corr2 =>
    have tracked := (stat F.GST_ECCSTAT_CE2 2 false).trans (State.trackBlock_stored _ b)
    exact Stored.ite (retire tracked) tracked
  | ue =>
    have told := stat F.GST_ECCSTAT_UE 3 false
    exact Stored.ite (retire (told.report _ _ _ _ _ _)) (told.report _ _ _ _ _ _)
  | poison => exact stat _ _ _

theorem State.passed_stored (s : State) (e : Nat × Nat × Bool) (d : Decoded) : Stored s (s.passed e d) :=
  Stored.ite (.of_regs rfl rfl) (Stored.refl s)

theorem State.gstStore_stored (s : State) (a origin : Nat) (bs : List Byte) : Stored s (s.gstStore a origin bs) := by
  unfold State.gstStore State.gstStore'
  extract_lets n
  split
  · exact Stored.refl s
  · split
    rename_i ok u folded
    have merged : Stored s (ok, u).2 := by
      rw [← folded]
      refine List.foldlRecOn (motive := fun acc : Bool × State => Stored s acc.2) _ _ (.counted (s.gstBurst_counted _ _ _))
        fun acc hacc e _ => ?_
      dsimp only
      split
      · exact hacc.setErr _ _ _
      · have decoded := (hacc.trans (acc.2.eccEvent_stored (acc.2.decoded e) (8 * e.1) origin false)).trans
          (State.passed_stored _ e (acc.2.decoded e))
        exact (Stored.ite (decoded.report _ _ _ _ _ _) decoded).setErr _ _ _
    exact Stored.ite ((merged.store a bs).gst _) (merged.store a bs)

theorem State.storeChain_stored (gs : List Nat) (s : State) (origin : Nat) (bs : List Byte) : Stored s (s.storeChain origin gs bs) := by
  induction gs generalizing s bs with
  | nil => exact Stored.refl s
  | cons g gs ih => exact (s.gstStore_stored _ _ _).trans (ih _ _)

theorem State.errsIn_clean {s : State} (clean : s.err = []) (a n : Nat) : s.errsIn a n = [] := by
  rw [State.errsIn, clean, List.filter_nil, List.map_nil]

/-- With no error listed, the bytes of a write stand where they were written. -/
theorem State.byte_gstStore {s : State} (clean : s.err = []) (a origin : Nat) (bs : List Byte) {i : Nat} {b : Byte} (h : bs[i]? = some b) :
    (s.gstStore a origin bs).byte (a + i) = b := by
  obtain ⟨inside, same⟩ := List.getElem?_eq_some_iff.mp h
  have burst := s.gstBurst_counted a bs.length origin
  have none_listed := State.errsIn_clean (burst.err_eq.trans clean) a bs.length
  have stored : ((s.gstBurst a bs.length origin).store a bs).byte (a + i) = b := by
    rw [State.byte_store, dif_pos ⟨Nat.le_add_right _ _, by omega⟩]
    simp [same]
  rw [State.gstStore, State.gstStore', if_neg (by omega)]
  simp only [none_listed, List.foldl_nil]
  split
  · exact stored
  · exact stored

/-! ### Reading (R113) -/

theorem State.bytes_congr {s t : State} (mem : t.mem = s.mem) (a n : Nat) : t.bytes a n = s.bytes a n := by
  induction n generalizing a with
  | zero => rfl
  | succ n ih => rw [State.bytes, State.bytes, ih, State.byte, State.byte, mem]

/-- With no error listed, a read gives the bytes that stand there, and only counts. -/
theorem State.gstRead_clean {s : State} (clean : s.err = []) (a n origin : Nat) :
    s.gstRead a n origin = (s.bytes a n, true, s.gstBurst a n origin) := by
  have burst := s.gstBurst_counted a n origin
  rw [State.gstRead, State.gstDecode, State.errsIn_clean (burst.err_eq.trans clean), List.foldl_nil]
  simp only [State.bytes_congr burst.mem_eq]

/-- With no error listed, a chain of gobs reads whole, and reading only counts. -/
theorem State.readChain_clean (gs : List Nat) {s : State} (clean : s.err = []) (origin n : Nat) :
    (s.readChain origin gs n).2.1 = true ∧ Counted s (s.readChain origin gs n).2.2 := by
  induction gs generalizing s n with
  | nil => exact ⟨rfl, Counted.refl s⟩
  | cons g gs ih =>
    have burst := s.gstBurst_counted (s.gobAddr g) (min n 256) origin
    obtain ⟨ok, rest⟩ := ih (burst.err_eq.trans clean) (n - min n 256)
    rw [State.readChain]
    simp only [State.gstRead_clean clean]
    exact ⟨by rw [ok]; rfl, burst.trans rest⟩

/-- What a chain of gobs reads as follows from the bytes and the place of the payload buffer. -/
theorem State.readChain_congr (gs : List Nat) {s t : State} (origin n : Nat) (clean : s.err = []) (clean' : t.err = []) (mem : t.mem = s.mem)
    (place : t.rd R.QUE_PBUF = s.rd R.QUE_PBUF) : (t.readChain origin gs n).1 = (s.readChain origin gs n).1 := by
  induction gs generalizing s t n with
  | nil => rfl
  | cons g gs ih =>
    have addr := State.gobAddr_congr place g
    have burst := s.gstBurst_counted (s.gobAddr g) (min n 256) origin
    have burst' := t.gstBurst_counted (s.gobAddr g) (min n 256) origin
    have pbuf : ¬ R.QUE_PBUF.counts := by unfold RegRef.counts; decide
    rw [State.readChain, State.readChain]
    simp only [State.gstRead_clean clean, State.gstRead_clean clean', addr, State.bytes_congr mem]
    rw [ih (s := s.gstBurst _ _ _) _ (burst.err_eq.trans clean) (burst'.err_eq.trans clean')
      (by rw [burst'.mem_eq, mem, burst.mem_eq]) (by rw [burst'.2 _ pbuf, place, burst.2 _ pbuf])]

end Sys2Proof.Machine
end

section
/-!
PROOFS. Queue states, context records and queue locks (R59, R80 to R82, R85, R86): a state command moves every queue it names or none, a flush
ends what each of them holds, and the commands on records and locks touch nothing else.
-/
namespace Sys2Proof.Machine

/-! ### What a queue holds comes to an end (R69, R82) -/

/-- `t` is `s` but that a queue may have ended descriptors: the state of every queue, its linked packets and the descriptors of the queues
beside `q` are those of `s`, and `q` has no descriptor more. -/
structure Drops (q : Nat) (s t : State) : Prop where
  linked : t.que.linked = s.que.linked
  ctx : ∀ c, t.rd (R.QCTX c 0) = s.rd (R.QCTX c 0)
  other : ∀ c, c ≠ q → t.descs c = s.descs c
  fewer : ∀ x ∈ t.descs q, x ∈ s.descs q

namespace Drops

variable {q : Nat} {s t u : State}

theorem refl (q : Nat) (s : State) : Drops q s s := ⟨rfl, fun _ => rfl, fun _ _ => rfl, fun _ h => h⟩

theorem trans (h : Drops q s t) (k : Drops q t u) : Drops q s u :=
  ⟨k.linked.trans h.linked, fun c => (k.ctx c).trans (h.ctx c), fun c hc => (k.other c hc).trans (h.other c hc),
    fun x hx => h.fewer x (k.fewer x hx)⟩

theorem qstate_eq (h : Drops q s t) (c : Nat) : t.qstate c = s.qstate c := by
  rw [State.qstate, State.get, h.ctx, State.qstate, State.get]

end Drops

theorem Posted.descs_same {s t : State} (h : Posted s t) (c : Nat) : t.descs c = s.descs c := by
  rw [State.descs, h.descs_eq, State.descs]

theorem Posted.linked_same {s t : State} (h : Posted s t) (c : Nat) : t.linked c = s.linked c := by
  rw [State.linked, h.linked_eq, State.linked]

theorem Posted.drops {s t : State} (h : Posted s t) (q : Nat) : Drops q s t :=
  ⟨h.linked_eq, h.ctx, fun c _ => h.descs_same c, fun _ hx => h.descs_same q ▸ hx⟩

@[simp] theorem State.descs_setDescs (s : State) (q : Nat) (l : List Desc) : (s.setDescs q l).descs q = l := SMap.get_set_same _ _ _ _

theorem State.descs_setDescs_other (s : State) (q c : Nat) (l : List Desc) (h : c ≠ q) : (s.setDescs q l).descs c = s.descs c :=
  SMap.get_set_other _ _ _ _ _ h

/-- The queue path after a release of gobs. -/
theorem State.pbufRelease_que (s : State) (q : Option Nat) (gs : List Nat) :
    (s.pbufRelease q gs).que = { s.que with pbuf := s.que.pbuf.filter (fun g => !gs.contains g) } := by
  cases q with
  | none => rfl
  | some q => exact State.put_que _ _ _ _

theorem State.pbufRelease_ctx (s : State) (q : Option Nat) (gs : List Nat) (c : Nat) :
    (s.pbufRelease q gs).rd (R.QCTX c 0) = s.rd (R.QCTX c 0) := by
  cases q with
  | none => rfl
  | some q => exact State.rd_put_other _ _ _ _ _ (qcount_apart q (by decide) (by decide) c)

theorem State.slotFree_que (s : State) (q : Nat) : (s.slotFree q).que = { s.que with slotsUsed := s.que.slotsUsed - 1 } :=
  State.put_que _ _ _ _

theorem State.slotFree_ctx (s : State) (q c : Nat) : (s.slotFree q).rd (R.QCTX c 0) = s.rd (R.QCTX c 0) :=
  State.rd_put_other _ _ _ _ _ (qcount_apart q (by decide) (by decide) c)

/-- The queue path after a descriptor has left its queue. -/
theorem State.dropDesc_que (s : State) (q : Nat) (d : Desc) :
    (s.dropDesc q d).que = { s.que with
      descs := SMap.set s.que.descs [] q ((s.descs q).filter (fun x => x.id != d.id)),
      pbuf := s.que.pbuf.filter (fun g => !d.gobs.contains g), slotsUsed := s.que.slotsUsed - 1 } := by
  rw [State.dropDesc, State.slotFree_que, State.pbufRelease_que, State.setDescs]

theorem State.dropDesc_ctx (s : State) (q : Nat) (d : Desc) (c : Nat) : (s.dropDesc q d).rd (R.QCTX c 0) = s.rd (R.QCTX c 0) :=
  (State.slotFree_ctx _ q c).trans (State.pbufRelease_ctx _ (some q) _ c)

/-- A descriptor ends with a status: its gobs and its slot are freed, its reads abandoned, and the status is posted (R66, R82). -/
def State.endDesc (s : State) (q : Nat) (d : Desc) (status : Nat) : State :=
  ((s.abandonReads q d).dropDesc q d).complete q d.tag status 0 0 d.len

theorem State.fetchErr_eq (s : State) (q : Nat) (d : Desc) : s.fetchErr q d = s.endDesc q d ST.FETCH_ERR := rfl

theorem State.endDesc_descs (s : State) (q : Nat) (d : Desc) (status : Nat) :
    (s.endDesc q d status).que.descs = SMap.set s.que.descs [] q ((s.descs q).filter (fun x => x.id != d.id)) := by
  rw [State.endDesc, (State.complete_posted _ _ _ _ _ _ _).descs_eq, State.dropDesc_que]
  rfl

theorem State.endDesc_linked (s : State) (q : Nat) (d : Desc) (status : Nat) : (s.endDesc q d status).que.linked = s.que.linked := by
  rw [State.endDesc, (State.complete_posted _ _ _ _ _ _ _).linked_eq, State.dropDesc_que]
  rfl

theorem State.endDesc_wait (s : State) (q : Nat) (d : Desc) (status : Nat) : (s.endDesc q d status).que.wait = s.que.wait := by
  rw [State.endDesc, (State.complete_posted _ _ _ _ _ _ _).wait_eq, State.dropDesc_que]
  rfl

theorem State.endDesc_ctx (s : State) (q : Nat) (d : Desc) (status c : Nat) :
    (s.endDesc q d status).rd (R.QCTX c 0) = s.rd (R.QCTX c 0) := by
  rw [State.endDesc, (State.complete_posted _ _ _ _ _ _ _).ctx, State.dropDesc_ctx]
  rfl

theorem State.endDesc_same (s : State) (q : Nat) (d : Desc) (status : Nat) :
    (s.endDesc q d status).descs q = (s.descs q).filter (fun x => x.id != d.id) := by
  rw [State.descs, State.endDesc_descs, SMap.get_set_same]

theorem State.endDesc_gone (s : State) (q : Nat) (d : Desc) (status : Nat) : ∀ x ∈ (s.endDesc q d status).descs q, x.id ≠ d.id := by
  rw [State.endDesc_same]
  intro x hx
  simpa using (List.mem_filter.mp hx).2

theorem State.endDesc_drops (s : State) (q : Nat) (d : Desc) (status : Nat) : Drops q s (s.endDesc q d status) := by
  refine ⟨s.endDesc_linked q d status, s.endDesc_ctx q d status, fun c hc => ?_, fun x hx => ?_⟩
  · rw [State.descs, State.endDesc_descs, SMap.get_set_other _ _ _ _ _ hc, State.descs]
  · rw [State.endDesc_same] at hx
    exact (List.mem_filter.mp hx).1

/-- Ending the descriptors of a list leaves none of them. -/
theorem State.endDescs_drops (s : State) (q : Nat) (ds : List Desc) (status : Nat) :
    Drops q s (ds.foldl (fun s d => s.endDesc q d status) s) ∧
      ∀ x ∈ (ds.foldl (fun s d => s.endDesc q d status) s).descs q, x ∉ ds := by
  induction ds generalizing s with
  | nil => exact ⟨Drops.refl q s, fun _ _ => List.not_mem_nil⟩
  | cons d ds ih =>
    obtain ⟨rest, gone⟩ := ih (s.endDesc q d status)
    refine ⟨(s.endDesc_drops q d status).trans rest, fun x hx => ?_⟩
    have apart := s.endDesc_gone q d status x (rest.fewer x hx)
    exact fun mem => (List.mem_cons.mp mem).elim (fun same => apart (congrArg Desc.id same)) (gone x hx)

/-- Dropping a linked packet posts its outcome and frees its gobs, which shows in no queue. -/
theorem State.dropPkt_drops (s : State) (p : QPkt) (status reason q : Nat) : Drops q s (s.dropPkt p status reason) := by
  have posted := State.outcome_posted (s.pbufRelease p.localSrc p.gobs) p status reason
  have que := s.pbufRelease_que p.localSrc p.gobs
  have descs (c : Nat) : (s.dropPkt p status reason).descs c = s.descs c :=
    (posted.descs_same c).trans (by rw [State.descs, que, State.descs])
  exact ⟨posted.linked_eq.trans (by rw [que]), fun c => (posted.ctx c).trans (s.pbufRelease_ctx _ _ c), fun c _ => descs c,
    fun _ hx => descs q ▸ hx⟩

theorem SchOnly.refl (s : State) : SchOnly s s := rfl

theorem State.activate_schOnly (s : State) (q : Nat) : SchOnly s (s.activate q) :=
  ((s.joinGroup_schOnly _).trans (State.joinGroup_schOnly _ _)).trans (State.joinGroup_schOnly _ _)

theorem State.deactivate_schOnly (s : State) (q : Nat) : SchOnly s (s.deactivate q) := by
  unfold State.deactivate
  dsimp only
  have first := s.leaveGroup_schOnly q (s.subOf q)
  split
  · exact first
  · have second := first.trans (State.leaveGroup_schOnly _ (nodeKey (s.subOf q)) (s.parentOf (s.subOf q)))
    split
    · exact second
    · exact second.trans (State.leaveGroup_schOnly _ _ _)

/-- The scheduled side of a queue takes a value and is counted (R70), before the scheduler hears of it. -/
def State.relist (s : State) (q : Nat) (l : List QPkt) : State :=
  State.put { s with que := { s.que with linked := SMap.set s.que.linked [] q l } } (R.QCTX q 3) F.QCTX_PKTS l.length

theorem State.setLinked_eq (s : State) (q : Nat) (l : List QPkt) : s.setLinked q l =
    if (s.linked q).isEmpty && !l.isEmpty then (s.relist q l).activate q
    else if !(s.linked q).isEmpty && l.isEmpty then (s.relist q l).deactivate q else s.relist q l := rfl

theorem State.setLinked_schOnly (s : State) (q : Nat) (l : List QPkt) : SchOnly (s.relist q l) (s.setLinked q l) := by
  rw [State.setLinked_eq]
  generalize s.relist q l = t
  split
  · exact t.activate_schOnly q
  · split
    · exact t.deactivate_schOnly q
    · exact SchOnly.refl _

theorem SchOnly.que_eq {s t : State} (h : SchOnly s t) : t.que = s.que := (congrArg State.que h :)

theorem State.setLinked_que (s : State) (q : Nat) (l : List QPkt) :
    (s.setLinked q l).que = { s.que with linked := SMap.set s.que.linked [] q l } := by
  rw [(s.setLinked_schOnly q l).que_eq, State.relist, State.put_que]

@[simp] theorem State.linked_setLinked (s : State) (q : Nat) (l : List QPkt) : (s.setLinked q l).linked q = l := by
  rw [State.linked, State.setLinked_que, SMap.get_set_same]

theorem State.linked_setLinked_other (s : State) (q c : Nat) (l : List QPkt) (h : c ≠ q) : (s.setLinked q l).linked c = s.linked c := by
  rw [State.linked, State.setLinked_que, SMap.get_set_other _ _ _ _ _ h, State.linked]

theorem State.descs_setLinked (s : State) (q c : Nat) (l : List QPkt) : (s.setLinked q l).descs c = s.descs c := by
  rw [State.descs, State.setLinked_que, State.descs]

theorem State.setLinked_ctx (s : State) (q c : Nat) (l : List QPkt) : (s.setLinked q l).rd (R.QCTX c 0) = s.rd (R.QCTX c 0) := by
  rw [(s.setLinked_schOnly q l).rd_eq, State.relist, State.rd_put_other _ _ _ _ _ (qcount_apart q (by decide) (by decide) c)]
  rfl

/-- What a flush of queue `q` leaves: no descriptor and no packet of `q`, everything of the other queues, and the state of each. -/
structure Flushed (q : Nat) (s t : State) : Prop where
  descs : t.descs q = []
  linked : t.linked q = []
  descs_other : ∀ c, c ≠ q → t.descs c = s.descs c
  linked_other : ∀ c, c ≠ q → t.linked c = s.linked c
  ctx : ∀ c, t.rd (R.QCTX c 0) = s.rd (R.QCTX c 0)

theorem Drops.linked_same {q : Nat} {s t : State} (h : Drops q s t) (c : Nat) : t.linked c = s.linked c := by
  rw [State.linked, h.linked, State.linked]

/-- A queue gives up its place among those that wait for gobs (R65). -/
def State.unwait (s : State) (q : Nat) : State := { s with que := { s.que with wait := s.que.wait.filter (· != q) } }

theorem State.unwait_drops (s : State) (q : Nat) : Drops q s (s.unwait q) := ⟨rfl, fun _ => rfl, fun _ _ => rfl, fun _ h => h⟩

theorem State.flushQueue_eq (s : State) (q : Nat) : s.flushQueue q =
    (((((s.descs q).foldl (fun s d => s.endDesc q d ST.QUEUE_FLUSHED) s).unwait q).linked q).foldl (fun s p => s.dropPkt p ST.QUEUE_FLUSHED 0)
      ((((s.descs q).foldl (fun s d => s.endDesc q d ST.QUEUE_FLUSHED) s).unwait q).setLinked q [])) := by
  rw [State.flushQueue]
  unfold State.endDesc State.unwait
  rfl

theorem State.flushQueue_flushed (s : State) (q : Nat) : Flushed q s (s.flushQueue q) := by
  rw [State.flushQueue_eq]
  obtain ⟨ended, gone⟩ := s.endDescs_drops q (s.descs q) ST.QUEUE_FLUSHED
  generalize (s.descs q).foldl (fun s d => s.endDesc q d ST.QUEUE_FLUSHED) s = u at ended gone
  have none_left : u.descs q = [] := List.eq_nil_iff_forall_not_mem.mpr fun x hx => gone x hx (ended.fewer x hx)
  have dropped := ended.trans (u.unwait_drops q)
  replace none_left : (u.unwait q).descs q = [] := none_left
  generalize u.unwait q = u at dropped none_left
  have packets : Drops q (u.setLinked q []) ((u.linked q).foldl (fun s p => s.dropPkt p ST.QUEUE_FLUSHED 0) (u.setLinked q [])) :=
    List.foldlRecOn (motive := Drops q (u.setLinked q [])) _ _ (Drops.refl q _) fun t ht p _ => ht.trans (t.dropPkt_drops p _ _ q)
  generalize (u.linked q).foldl (fun s p => s.dropPkt p ST.QUEUE_FLUSHED 0) (u.setLinked q []) = t at packets
  refine ⟨?_, ?_, fun c hc => ?_, fun c hc => ?_, fun c => ?_⟩
  · refine List.eq_nil_iff_forall_not_mem.mpr fun x hx => ?_
    have kept := packets.fewer x hx
    rw [State.descs_setLinked, none_left] at kept
    exact List.not_mem_nil kept
  · rw [packets.linked_same, State.linked_setLinked]
  · rw [packets.other c hc, State.descs_setLinked, dropped.other c hc]
  · rw [packets.linked_same, State.linked_setLinked_other _ _ _ _ hc, dropped.linked_same]
  · rw [packets.ctx, State.setLinked_ctx, dropped.ctx]

/-! ### State commands (R82, R86) -/

theorem State.qstate_setQstate (s : State) (q v : Nat) (h : v < 8) : (s.setQstate q v).qstate q = v := by
  rw [State.qstate, State.setQstate, State.get_put_same _ _ _ _ (by decide)]
  exact Nat.mod_eq_of_lt h

theorem qctx_apart {q c : Nat} (h : c ≠ q) : (R.QCTX c 0).addr ≠ (R.QCTX q 0).addr := by
  simp only [R.QCTX]
  omega

theorem State.qstate_setQstate_other (s : State) (q c v : Nat) (h : c ≠ q) : (s.setQstate q v).qstate c = s.qstate c :=
  State.get_put_other _ _ _ _ _ _ (qctx_apart h)

theorem State.qOwner_setQstate (s : State) (q c v : Nat) :
    (s.setQstate q v).qOwnerFn c = s.qOwnerFn c ∧ (s.setQstate q v).qOwnerPt c = s.qOwnerPt c := by
  by_cases h : c = q
  · subst h
    exact ⟨State.get_put_field _ _ _ _ _ (by decide) (by decide), State.get_put_field _ _ _ _ _ (by decide) (by decide)⟩
  · exact ⟨State.get_put_other _ _ _ _ _ _ (qctx_apart h), State.get_put_other _ _ _ _ _ _ (qctx_apart h)⟩

theorem Only.mono {rs rs' : List RegRef} {s t : State} (h : Only rs s t) (sub : ∀ r ∈ rs, r ∈ rs') : Only rs' s t :=
  ⟨h.1, fun r apart => h.2 r fun x hx => apart x (sub x hx)⟩

/-- A state command moves every queue of a list, and no other register. -/
theorem setQstates (l : List Nat) (s : State) (v : Nat) (h : v < 8) :
    Only (l.map (fun c => R.QCTX c 0)) s (l.foldl (fun s q => s.setQstate q v) s) ∧
      ∀ c, ((l.foldl (fun s q => s.setQstate q v) s).qstate c = if c ∈ l then v else s.qstate c) ∧
        (l.foldl (fun s q => s.setQstate q v) s).qOwnerFn c = s.qOwnerFn c ∧
        (l.foldl (fun s q => s.setQstate q v) s).qOwnerPt c = s.qOwnerPt c := by
  induction l using List.reverseRecOn with
  | nil => exact ⟨⟨rfl, fun _ _ => rfl⟩, fun c => ⟨rfl, rfl, rfl⟩⟩
  | append_singleton l q ih =>
    obtain ⟨only, each⟩ := ih
    rw [List.foldl_append, List.foldl_cons, List.foldl_nil]
    generalize l.foldl (fun s q => s.setQstate q v) s = t at only each
    refine ⟨?_, fun c => ⟨?_, ?_⟩⟩
    · rw [List.map_append]
      exact (only.mono fun _ => List.mem_append_left _).trans
        (Only.put _ _ _ _ _ (List.mem_append_right _ (List.mem_singleton_self _)))
    · by_cases same : c = q
      · subst same
        rw [State.qstate_setQstate _ _ _ h, if_pos (by simp)]
      · rw [State.qstate_setQstate_other _ _ _ _ same, (each c).1]
        simp [same]
    · obtain ⟨fn, pt⟩ := t.qOwner_setQstate q c v
      exact ⟨fn.trans (each c).2.1, pt.trans (each c).2.2⟩

/-- A state command whose queues all allow it is carried out on each; one that refuses is enough for BADCMD. -/
theorem State.stateCmd_allowed {s : State} {o q : Nat} {set : Bool} {ok : Nat → Bool} (f : State → Nat → State)
    (all : ∀ c ∈ named q set, ok (s.qstate c) = true ∧ s.lockedOut c o = false) : s.stateCmd o q set ok f = (named q set).foldl f s := by
  refine if_pos (List.all_eq_true.mpr fun c hc => ?_)
  obtain ⟨allowed, free⟩ := all c hc
  rw [allowed, free]
  rfl

theorem State.stateCmd_refused {s : State} {o q c : Nat} {set : Bool} {ok : Nat → Bool} (f : State → Nat → State) (hc : c ∈ named q set)
    (no : ok (s.qstate c) = false ∨ s.lockedOut c o = true) : s.stateCmd o q set ok f = s.setBit R.QUE_STATUS F.QUE_STATUS_BADCMD := by
  refine if_neg fun all => ?_
  have both := List.all_eq_true.mp all c hc
  rcases no with no | no <;> simp [no] at both

/-- A state command that moves queues from the states of a list to state `v` (R82). -/
theorem stateCmd_moves (s : State) (o q : Nat) (set : Bool) (from_ : List Nat) (v : Nat) (hv : v < 8) (ok : Nat → Bool)
    (hok : ∀ st, ok st = from_.contains st) :
    ((∀ c ∈ named q set, s.qstate c ∈ from_ ∧ s.lockedOut c o = false) →
      ∃ t, (Host.Outcome.next (s.stateCmd o q set ok (fun s q => s.setQstate q v)) : Host.Outcome State Fault Refusal) = .next t ∧
        Only ((named q set).map (fun c => R.QCTX c 0)) s t ∧
        ∀ c ∈ named q set, t.qstate c = v ∧ t.qOwnerFn c = s.qOwnerFn c ∧ t.qOwnerPt c = s.qOwnerPt c) ∧
    (∀ c ∈ named q set, s.qstate c ∉ from_ ∨ s.lockedOut c o = true →
      (Host.Outcome.next (s.stateCmd o q set ok (fun s q => s.setQstate q v)) : Host.Outcome State Fault Refusal) =
        .next (s.setBit R.QUE_STATUS F.QUE_STATUS_BADCMD)) := by
  refine ⟨fun all => ⟨_, congrArg _ (State.stateCmd_allowed _ fun c hc => ?_), ?_⟩, fun c hc no =>
    congrArg _ (State.stateCmd_refused _ hc (no.imp_left fun out => ?_))⟩
  · exact ⟨by rw [hok, List.contains_iff_mem]; exact (all c hc).1, (all c hc).2⟩
  · obtain ⟨only, each⟩ := setQstates (named q set) s v hv
    exact ⟨only, fun c hc => ⟨(each c).1.trans (if_pos hc), (each c).2⟩⟩
  · rw [hok]
    simpa using out

/-- FLUSH of one queue: it ends DRAINED, or stays HELD (R82). -/
def State.flushStep (s : State) (q : Nat) : State :=
  if (s.flushQueue q).qstate q = QS.HELD then s.flushQueue q else (s.flushQueue q).setQstate q QS.DRAINED

theorem Flushed.qstate_eq {q : Nat} {s t : State} (h : Flushed q s t) (c : Nat) : t.qstate c = s.qstate c := by
  rw [State.qstate, State.get, h.ctx, State.qstate, State.get]

theorem State.flushStep_que (s : State) (q : Nat) : (s.flushStep q).que = (s.flushQueue q).que := by
  rw [State.flushStep]
  split
  · rfl
  · exact State.put_que _ _ _ _

theorem State.flushStep_empty (s : State) (q c : Nat) (h : c = q ∨ (s.descs c = [] ∧ s.linked c = [])) :
    (s.flushStep q).descs c = [] ∧ (s.flushStep q).linked c = [] := by
  have flushed := s.flushQueue_flushed q
  rw [State.descs, State.linked, State.flushStep_que]
  by_cases same : c = q
  · subst same
    exact ⟨flushed.descs, flushed.linked⟩
  · obtain ⟨descs, linked⟩ := h.resolve_left same
    exact ⟨(flushed.descs_other c same).trans descs, (flushed.linked_other c same).trans linked⟩

theorem State.flushStep_qstate (s : State) (q c : Nat) :
    (s.flushStep q).qstate c = if c = q ∧ s.qstate c ≠ QS.HELD then QS.DRAINED else s.qstate c := by
  have states := (s.flushQueue_flushed q).qstate_eq
  rw [State.flushStep]
  by_cases same : c = q
  · subst same
    rw [states]
    by_cases held : s.qstate c = QS.HELD
    · rw [if_pos held, if_neg (by simp [held]), states]
    · rw [if_neg held, if_pos ⟨rfl, held⟩, State.qstate_setQstate _ _ _ (by decide)]
  · rw [if_neg (c := c = q ∧ _) fun h => same h.1]
    split
    · exact states c
    · rw [State.qstate_setQstate_other _ _ _ _ same, states]

/-- FLUSH of the queues of a list: each ends empty, DRAINED or HELD. -/
theorem flushSteps (l : List Nat) (s : State) :
    (∀ c, (c ∈ l ∨ (s.descs c = [] ∧ s.linked c = [])) → (l.foldl State.flushStep s).descs c = [] ∧ (l.foldl State.flushStep s).linked c = []) ∧
      ∀ c, (l.foldl State.flushStep s).qstate c = if c ∈ l ∧ s.qstate c ≠ QS.HELD then QS.DRAINED else s.qstate c := by
  induction l using List.reverseRecOn with
  | nil => exact ⟨fun c h => h.resolve_left List.not_mem_nil, fun c => by simp⟩
  | append_singleton l q ih =>
    obtain ⟨empty, states⟩ := ih
    rw [List.foldl_append, List.foldl_cons, List.foldl_nil]
    generalize l.foldl State.flushStep s = t at empty states
    refine ⟨fun c h => t.flushStep_empty q c ?_, fun c => ?_⟩
    · by_cases same : c = q
      · exact .inl same
      · exact .inr (empty c (h.imp_left fun mem => by simpa [same] using mem))
    · rw [State.flushStep_qstate, states]
      by_cases held : s.qstate c = QS.HELD
      · simp [held]
      · by_cases mem : c ∈ l
        · simp [held, mem]
        · simp [held, mem]

theorem exec_queueFlush (o : Origin) (q : Fin 65536) (set : Bool) (s : State) : exec (.queueFlush o q set) s =
    .next (s.stateCmd o.toNat q.val set (fun st => st == QS.ACTIVE || st == QS.FROZEN || st == QS.DRAINING || st == QS.HELD)
      State.flushStep) := rfl

theorem exec_queueFlush_allowed {s : State} {o : Origin} {q : Fin 65536} {set : Bool}
    (all : ∀ c ∈ named q.val set, s.qstate c ∈ [QS.ACTIVE, QS.FROZEN, QS.DRAINING, QS.HELD] ∧ s.lockedOut c o.toNat = false) :
    ∃ t, exec (.queueFlush o q set) s = .next t ∧ ∀ c ∈ named q.val set, t.descs c = [] ∧ t.linked c = [] ∧
      (s.qstate c ≠ QS.HELD → t.qstate c = QS.DRAINED) ∧ (s.qstate c = QS.HELD → t.qstate c = QS.HELD) := by
  obtain ⟨empty, states⟩ := flushSteps (named q.val set) s
  refine ⟨_, congrArg Host.Outcome.next (State.stateCmd_allowed State.flushStep fun c hc => ?_), fun c hc => ?_⟩
  · obtain ⟨st, free⟩ := all c hc
    exact ⟨by simpa [or_assoc] using st, free⟩
  · obtain ⟨descs, linked⟩ := empty c (.inl hc)
    exact ⟨descs, linked, fun held => (states c).trans (if_pos ⟨hc, held⟩), fun held => (states c).trans ((if_neg (by simp [held])).trans held)⟩

theorem exec_queueFlush_refused {s : State} {o : Origin} {q : Fin 65536} {set : Bool} {c : Nat} (hc : c ∈ named q.val set)
    (no : s.qstate c ∉ [QS.ACTIVE, QS.FROZEN, QS.DRAINING, QS.HELD] ∨ s.lockedOut c o.toNat = true) :
    exec (.queueFlush o q set) s = .next (s.setBit R.QUE_STATUS F.QUE_STATUS_BADCMD) :=
  congrArg Host.Outcome.next (State.stateCmd_refused State.flushStep hc (no.imp_left fun out => by simpa [and_assoc] using out))

theorem exec_queueDrained_done {s : State} {q : Fin 65536} (done : s.drainDone q.val = true) :
    ∃ t, exec (.queueDrained q) s = .next t ∧ Only [R.QCTX q.val 0] s t ∧ t.qstate q.val = QS.DRAINED :=
  ⟨_, congrArg Host.Outcome.next (if_pos done), Only.put _ _ _ _ _ (List.mem_singleton_self _), State.qstate_setQstate _ _ _ (by decide)⟩

theorem exec_queueDrained_waits {s : State} {q : Fin 65536} (waits : s.drainDone q.val = false) :
    exec (.queueDrained q) s = .next s := congrArg Host.Outcome.next (if_neg (by simp [waits]))

/-! ### Context records (R59) -/

theorem ctxdata_apart_qctx (i q w : Nat) (hi : i < 8) : (R.QCTX q w).addr ≠ (R.QUE_CTXDATA i).addr := by
  simp only [R.QCTX, R.QUE_CTXDATA]
  omega

/-- The words of a record read so far stand in QUE_CTXDATA, and nothing else has changed. -/
theorem ctxRead_words (s : State) (q n : Nat) (hn : n ≤ 8) :
    Only ((List.range 8).map R.QUE_CTXDATA) s ((List.range n).foldl (fun s i => s.wr (R.QUE_CTXDATA i) (s.rd (R.QCTX q i))) s) ∧
      ∀ i, i < n → ((List.range n).foldl (fun s i => s.wr (R.QUE_CTXDATA i) (s.rd (R.QCTX q i))) s).rd (R.QUE_CTXDATA i) =
        s.rd (R.QCTX q i) % 2 ^ 64 := by
  induction n with
  | zero => exact ⟨⟨rfl, fun _ _ => rfl⟩, nofun⟩
  | succ n ih =>
    obtain ⟨only, words⟩ := ih (by omega)
    rw [List.range_succ (n := n), List.foldl_append, List.foldl_cons, List.foldl_nil]
    generalize (List.range n).foldl _ s = t at only words
    refine ⟨only.trans (Only.wr _ _ _ _ (List.mem_map_of_mem (List.mem_range.mpr hn))), fun i hi => ?_⟩
    by_cases same : i = n
    · subst same
      rw [State.rd_wr, only.2 _ fun x hx => ?_]
      obtain ⟨j, hj, rfl⟩ := List.mem_map.mp hx
      exact ctxdata_apart_qctx _ _ _ (List.mem_range.mp hj)
    · rw [State.rd_wr_other _ _ _ _ (by simp only [R.QUE_CTXDATA]; omega), words i (by omega)]

theorem ctxWord_lt (w v : Nat) : ctxWord w v 0 < 2 ^ 64 := by
  have field (lo n : Nat) : fieldOf v lo n < 2 ^ n := Nat.mod_lt _ (Nat.two_pow_pos _)
  have := field 0 19
  have := field 28 7
  have := field 36 28
  have := field 0 38
  have := field 0 13
  unfold ctxWord
  split <;> omega

theorem exec_ctxWrite_accepted {s : State} {o : Origin} {q w0 w1 w2 : Nat} (hq : q = s.get R.QUE_CTXSEL F.QUE_CTXSEL_QUEUE)
    (h0 : w0 = s.rd (R.QUE_CTXDATA 0)) (h1 : w1 = s.rd (R.QUE_CTXDATA 1)) (h2 : w2 = s.rd (R.QUE_CTXDATA 2))
    (st : s.qstate q = QS.DISABLED) (inl : fieldOf w0 28 7 ≤ 96) (sq0 : fieldOf w2 0 13 ≠ 0) (sq : fieldOf w2 0 13 ≤ 4096)
    (sub : fieldOf w1 20 14 ≤ 16383) (free : s.lockedOut q o.toNat = false) : ∃ t, exec (.ctxWrite o) s = .next t ∧
      Only [R.QCTX q 0, R.QCTX q 1, R.QCTX q 2] s t ∧ t.rd (R.QCTX q 0) = ctxWord 0 w0 QS.DISABLED ∧
      t.rd (R.QCTX q 1) = ctxWord 1 w1 0 ∧ t.rd (R.QCTX q 2) = ctxWord 2 w2 0 := by
  subst hq h0 h1 h2
  have apart {q v w : Nat} (hv : v < 8) (hw : w < 8) (h : v ≠ w) : (R.QCTX q v).addr ≠ (R.QCTX q w).addr := by
    simp only [R.QCTX]
    omega
  have whole (w v : Nat) : ctxWord w v 0 % 2 ^ 64 = ctxWord w v 0 := Nat.mod_eq_of_lt (ctxWord_lt w v)
  refine ⟨_, if_neg ?_, ((Only.wr _ _ _ _ (by simp)).trans (Only.wr _ _ _ _ (by simp))).trans (Only.wr _ _ _ _ (by simp)), ?_, ?_, ?_⟩
  · simp only [st, free, not_or]
    exact ⟨by simp, by omega, sq0, by omega, by omega, by simp⟩
  · rw [State.rd_wr_other _ _ _ _ (apart (by decide) (by decide) (by decide)),
      State.rd_wr_other _ _ _ _ (apart (by decide) (by decide) (by decide)), State.rd_wr, whole]
    rfl
  · rw [State.rd_wr_other _ _ _ _ (apart (by decide) (by decide) (by decide)), State.rd_wr, whole]
  · rw [State.rd_wr, whole]

theorem exec_ctxWrite_refused {s : State} {o : Origin} {q w0 w2 : Nat} (hq : q = s.get R.QUE_CTXSEL F.QUE_CTXSEL_QUEUE)
    (h0 : w0 = s.rd (R.QUE_CTXDATA 0)) (h2 : w2 = s.rd (R.QUE_CTXDATA 2))
    (no : s.qstate q ≠ QS.DISABLED ∨ 96 < fieldOf w0 28 7 ∨ fieldOf w2 0 13 = 0 ∨ 4096 < fieldOf w2 0 13 ∨ s.lockedOut q o.toNat = true) :
    exec (.ctxWrite o) s = .next (s.setBit R.QUE_STATUS F.QUE_STATUS_CFG_REFUSED) := by
  subst hq h0 h2
  refine if_pos ?_
  rcases no with no | no | no | no | no <;> simp [no]

/-! ### Queue locks (R85, R86) -/

@[simp] theorem State.qlock_setQlock (s : State) (q : Nat) (l : Option Lease) : (s.setQlock q l).qlock q = l := SMap.get_set_same _ _ _ _

theorem State.qlock_setQlock_other (s : State) (q c : Nat) (l : Option Lease) (h : c ≠ q) : (s.setQlock q l).qlock c = s.qlock c :=
  SMap.get_set_other _ _ _ _ _ h

theorem exec_lock_free {s : State} {q : Fin 65536} (o : Origin) (dl : BitVec 16) (free : s.qlock q.val = none) :
    exec (.queueLockRenew o q dl) s = .next (s.setBit R.QUE_STATUS F.QUE_STATUS_BADCMD) ∧
      exec (.queueLockRelease o q) s = .next (s.setBit R.QUE_STATUS F.QUE_STATUS_BADCMD) ∧
      ∃ t, exec (.queueLockAcquire o q dl) s = .next t ∧ t.qlock q.val = some ⟨o.toNat, dl.toNat, false⟩ ∧
        ∀ c : Nat, c ≠ q.val → t.qlock c = s.qlock c := by
  change execQueueLockRenew o q dl s = _ ∧ execQueueLockRelease o q s = _ ∧ ∃ t, execQueueLockAcquire o q dl s = _ ∧ _
  rw [execQueueLockRenew, execQueueLockRelease, execQueueLockAcquire, free]
  exact ⟨rfl, rfl, s.setQlock q.val (some ⟨o.toNat, dl.toNat, false⟩), rfl, s.qlock_setQlock _ _, fun c hc => s.qlock_setQlock_other _ c _ hc⟩

theorem exec_lock_held {s : State} {q : Fin 65536} (o : Origin) (dl : BitVec 16) {l : Lease} (held : s.qlock q.val = some l) :
    exec (.queueLockAcquire o q dl) s = .next (s.setBit R.QUE_STATUS F.QUE_STATUS_BADCMD) ∧
      (l.holder ≠ o.toNat → exec (.queueLockRenew o q dl) s = .next (s.setBit R.QUE_STATUS F.QUE_STATUS_BADCMD) ∧
        exec (.queueLockRelease o q) s = .next (s.setBit R.QUE_STATUS F.QUE_STATUS_BADCMD)) ∧
      (l.holder = o.toNat →
        (∃ t, exec (.queueLockRenew o q dl) s = .next t ∧ t.qlock q.val = some ⟨l.holder, dl.toNat, false⟩ ∧ t.regs = s.regs) ∧
        (∃ t, exec (.queueLockRelease o q) s = .next t ∧ t.qlock q.val = none ∧ t.regs = s.regs)) := by
  change execQueueLockAcquire o q dl s = _ ∧ (_ → execQueueLockRenew o q dl s = _ ∧ execQueueLockRelease o q s = _) ∧
    (_ → (∃ t, execQueueLockRenew o q dl s = _ ∧ _) ∧ ∃ t, execQueueLockRelease o q s = _ ∧ _)
  rw [execQueueLockRenew, execQueueLockRelease, execQueueLockAcquire, held]
  refine ⟨rfl, fun other => ⟨congrArg _ (if_neg other), congrArg _ (if_neg other)⟩, fun own => ?_⟩
  exact ⟨⟨_, congrArg _ (if_pos own), s.qlock_setQlock _ _, rfl⟩, ⟨_, congrArg _ (if_pos own), s.qlock_setQlock _ _, rfl⟩⟩

/-- A lock that reads from a filtered table passed the filter; one that passes it reads as before. -/
theorem SMap.get_filter_some {β : Type} (m : SMap (Option β)) (p : Nat × Option β → Bool) (q : Nat) (x : β) :
    (SMap.get (m.filter p) none q = some x → p (q, some x) = true) ∧
      (SMap.get m none q = some x → p (q, some x) = true → SMap.get (m.filter p) none q = some x) := by
  induction m with
  | nil => exact ⟨nofun, fun h _ => h⟩
  | cons e m ih =>
    obtain ⟨k, v⟩ := e
    rw [List.filter_cons]
    by_cases same : k = q
    · subst same
      cases keep : p (k, v) with
      | true =>
        simp only [SMap.get, if_true]
        exact ⟨fun h => h ▸ keep, fun h _ => h⟩
      | false =>
        simp only [SMap.get, if_true, Bool.false_eq_true, if_false]
        exact ⟨ih.1, fun h passes => by rw [h, passes] at keep; cases keep⟩
    · cases p (k, v) with
      | true => simpa [SMap.get, same] using ih
      | false => simpa [SMap.get, same] using ih

theorem exec_queLockforce (s : State) (origin mask : BitVec 32) : ∃ t, exec (.queLockforce origin mask) s = .next t ∧ t.regs = s.regs ∧
    (∀ (q : Nat) (l : Lease), t.qlock q = some l → Nat.land l.holder mask.toNat ≠ Nat.land origin.toNat mask.toNat) ∧
    (∀ (q : Nat) (l : Lease), s.qlock q = some l → Nat.land l.holder mask.toNat ≠ Nat.land origin.toNat mask.toNat →
      t.qlock q = some l) := by
  refine ⟨_, rfl, rfl, fun q l held => ?_, fun q l held stays => ?_⟩
  · simpa using (SMap.get_filter_some _ _ q l).1 held
  · exact (SMap.get_filter_some _ _ q l).2 held (by simpa using stays)

/-! ### The obligation -/

/-- Settles O55, command by command: a state command tests every queue it names before it moves one, what a flush ends or drops shows in
no other queue and in no state, and the words of a record and the locks are tables of their own. -/
theorem queuesChangeStateByCommandAndLock : Obligations.QueuesChangeStateByCommandAndLock := by
  unfold Obligations.QueuesChangeStateByCommandAndLock
  refine ⟨fun s o q set => ⟨?_, exec_queueFlush_allowed, fun c hc => exec_queueFlush_refused hc, exec_queueDrained_done,
      exec_queueDrained_waits⟩,
    ?_, ?_, exec_queLockforce⟩
  · intro e he
    simp only [List.mem_cons, List.not_mem_nil, or_false] at he
    rcases he with rfl | rfl | rfl | rfl
    · exact stateCmd_moves s _ _ set _ _ (by decide) _ fun st => by simp only [List.contains_cons, List.contains_nil, Bool.or_false, Bool.or_assoc]
    · exact stateCmd_moves s _ _ set _ _ (by decide) _ fun st => by simp only [List.contains_cons, List.contains_nil, Bool.or_false]
    · exact stateCmd_moves s _ _ set _ _ (by decide) _ fun st => by simp only [List.contains_cons, List.contains_nil, Bool.or_false]
    · exact stateCmd_moves s _ _ set _ _ (by decide) _ fun st => by simp only [List.contains_cons, List.contains_nil, Bool.or_false]
  · intro s o q w0 w1 w2 hq h0 h1 h2
    refine ⟨?_, exec_ctxWrite_accepted hq h0 h1 h2, exec_ctxWrite_refused hq h0 h2⟩
    subst hq
    obtain ⟨only, words⟩ := ctxRead_words s (s.get R.QUE_CTXSEL F.QUE_CTXSEL_QUEUE) 8 (Nat.le_refl 8)
    exact ⟨_, rfl, only, words⟩
  · rintro s o q dl _ rfl
    exact ⟨exec_lock_free o dl, fun l => exec_lock_held o dl⟩

end Sys2Proof.Machine
end

section
/-!
PROOFS. Dispatch to Jack (R67, R68), deliveries (R71, R73) and moderated interrupts (R77): a request takes a lane or ends, a delivery reads its
payload and issues its writes, each of which R42 admits or refuses.
-/
namespace Sys2Proof.Machine

/-! ### Dispatch to Jack (R67, R68) -/

theorem State.freeLane_free {s : State} {l : Nat} (h : s.freeLane = some l) : ∀ r ∈ s.que.jack, r.lane ≠ l := by
  have found := List.find?_some h
  simp only [Bool.and_eq_true, Bool.not_eq_true', List.any_eq_false, beq_iff_eq] at found
  exact found.2

/-- The queue path after a lane's request has ended. -/
theorem State.jackEnd_que (s : State) (r : JackReq) : (s.jackEnd r).que =
    { s.que with jack := s.que.jack.filter (fun x => x.lane != r.lane), slotsUsed := s.que.slotsUsed - 1 } := by
  rw [State.jackEnd, State.slotFree_que, State.setLane_que, State.gateDone, (State.tally_counted _ _).que_eq,
    (State.tally_counted _ _).que_eq]

theorem State.pbufRelease_gaf (s : State) (q : Option Nat) (gs : List Nat) : (s.pbufRelease q gs).gaf = s.gaf := by
  cases q with
  | none => rfl
  | some q => exact State.put_gaf _ _ _ _

theorem State.jackEnd_lane (s : State) (r : JackReq) : (s.jackEnd r).lane r.lane = {} := by
  rw [State.jackEnd, State.lane, State.slotFree, State.put_gaf]
  exact State.lane_setLane _ _ _

/-- A request of queue `q` with the packet of its first descriptor stands in its lane; `rest` is left of the queue (R68). -/
def State.sentToJack (s : State) (q : Nat) (rest : List Desc) (r : JackReq) : State :=
  let s := (s.bump R.QUE_REQSTAT F.QUE_REQSTAT_DISPATCHED 1).setDescs q rest
  let s := { s with que := { s.que with jack := s.que.jack ++ [r], wakeJack := if s.que.wakeJack = some q then none else s.que.wakeJack } }
  s.setLane r.lane (jackStart r.pkt (s.get (R.QCTX q 1) F.QCTX_DEF_DQ))

section sentToJack
variable (s : State) (q : Nat) (rest : List Desc) (r : JackReq)

theorem State.sentToJack_que : (s.sentToJack q rest r).que = { s.que with
    descs := SMap.set s.que.descs [] q rest, jack := s.que.jack ++ [r],
    wakeJack := if s.que.wakeJack = some q then none else s.que.wakeJack } := by
  rw [State.sentToJack, State.setLane_que, State.setDescs, State.bump_que]

theorem State.sentToJack_act : (s.sentToJack q rest r).act = s.act := by
  rw [State.sentToJack, State.setLane_act, State.setDescs, State.bump_act]

theorem State.sentToJack_regs : (s.sentToJack q rest r).regs = (s.bump R.QUE_REQSTAT F.QUE_REQSTAT_DISPATCHED 1).regs := by
  rw [State.sentToJack, State.setLane_regs, State.setDescs]

theorem State.sentToJack_ctx (w : Nat) : (s.sentToJack q rest r).rd (R.QCTX q w) = s.rd (R.QCTX q w) := by
  rw [State.rd, State.sentToJack_regs, ← State.rd, State.bump, State.rd_put_other]
  simp only [R.QCTX, R.QUE_REQSTAT]
  omega

theorem State.sentToJack_getAct (x : RegRef) (f : Fld) : (s.sentToJack q rest r).getAct x f = s.getAct x f := by
  rw [State.getAct, State.rdAct, State.sentToJack_act, ← State.rdAct, ← State.getAct]

theorem State.sentToJack_bitAct (x : RegRef) (f : Fld) : (s.sentToJack q rest r).bitAct x f = s.bitAct x f := by
  rw [State.bitAct, State.sentToJack_getAct, State.bitAct]

theorem State.sentToJack_slot : R.JCK_SLOT ((s.sentToJack q rest r).get (R.QCTX q 0) F.QCTX_JPROG) =
    R.JCK_SLOT (s.get (R.QCTX q 0) F.QCTX_JPROG) := by
  rw [State.get, State.sentToJack_ctx, State.get]

theorem State.sentToJack_lane : (s.sentToJack q rest r).lane r.lane = jackStart r.pkt (s.get (R.QCTX q 1) F.QCTX_DEF_DQ) := by
  have word : (s.bump R.QUE_REQSTAT F.QUE_REQSTAT_DISPATCHED 1).get (R.QCTX q 1) F.QCTX_DEF_DQ = s.get (R.QCTX q 1) F.QCTX_DEF_DQ := by
    refine State.get_put_other _ _ _ _ _ _ ?_
    simp only [R.QCTX, R.QUE_REQSTAT]
    omega
  rw [State.sentToJack, State.lane_setLane, ← word]
  rfl

theorem State.sentToJack_dispatched : (s.sentToJack q rest r).get R.QUE_REQSTAT F.QUE_REQSTAT_DISPATCHED =
    satAdd (s.get R.QUE_REQSTAT F.QUE_REQSTAT_DISPATCHED) 1 (2 ^ F.QUE_REQSTAT_DISPATCHED.w - 1) := by
  rw [State.get, State.rd, State.sentToJack_regs, ← State.rd, ← State.get, State.get_bump_same _ _ _ _ (by decide)]

end sentToJack

/-- The packet of a descriptor that is dispatched from queue `q`. -/
def State.pktOf (s : State) (q : Nat) (d : Desc) : QPkt :=
  ⟨d.id, s.globalQ q, d.tag, d.cmpl, d.len, d.mdat, d.fkey, 0, 0, s.qOrigin q 1, d.gobs, none, false, 0, 0⟩

section dispatch
variable {s : State} {q : Fin 65536} {d : Desc} {rest : List Desc}
  (first : s.descs q.val = d :: rest) (whole : d.phase = .whole) (runs : fetches (s.qstate q.val) = true) (goes : s.flt.stopped = false)
include first whole runs goes

theorem exec_dispatch {l : Nat} (free : s.freeLane = some l) : exec (.enqueueRequestDispatch q) s =
    let r : JackReq := ⟨l, s.pktOf q.val d, s.actEpoch⟩
    let t := s.sentToJack q.val rest r
    let slot := R.JCK_SLOT (t.get (R.QCTX q.val 0) F.QCTX_JPROG)
    .next (if t.bitAct slot F.JCK_SLOT_VALID ∧ t.getAct slot F.JCK_SLOT_LEN ≠ 0 then t
      else (t.jackEnd r).dropPkt (s.pktOf q.val d) ST.PROG_DROP 0xFF) := by
  refine congrArg Host.Outcome.next ?_
  rw [State.dispatch, first]
  dsimp only
  rw [if_neg (by simp [whole, runs, goes]), free]
  rfl

theorem exec_dispatch_waits (busy : s.freeLane = none) (alone : s.que.wakeJack = none) : ∃ t, exec (.enqueueRequestDispatch q) s = .next t ∧
    t.que.wakeJack = some q.val ∧ t.que.descs = s.que.descs ∧ t.que.jack = s.que.jack := by
  refine ⟨State.bump { s with que := { s.que with wakeJack := some q.val } } R.QUE_REQSTAT F.QUE_REQSTAT_LANE_WAIT 1,
    congrArg Host.Outcome.next ?_, ?_⟩
  · rw [State.dispatch, first]
    dsimp only
    rw [if_neg (by simp [whole, runs, goes]), busy]
    dsimp only
    rw [alone, if_neg (by decide)]
  · rw [State.bump_que]
    exact ⟨rfl, rfl, rfl⟩

variable {l : Nat} {slot : RegRef} (free : s.freeLane = some l) (hslot : slot = R.JCK_SLOT (s.get (R.QCTX q.val 0) F.QCTX_JPROG))
include free hslot

theorem exec_dispatch_runs {p : QPkt} (hp : p = s.pktOf q.val d) (valid : s.bitAct slot F.JCK_SLOT_VALID = true)
    (len : s.getAct slot F.JCK_SLOT_LEN ≠ 0) :
    ∃ t, exec (.enqueueRequestDispatch q) s = .next t ∧ t.descs q.val = rest ∧ t.que.jack = s.que.jack ++ [⟨l, p, s.actEpoch⟩] ∧
      t.lane l = jackStart p (s.get (R.QCTX q.val 1) F.QCTX_DEF_DQ) ∧
      t.get R.QUE_REQSTAT F.QUE_REQSTAT_DISPATCHED =
        satAdd (s.get R.QUE_REQSTAT F.QUE_REQSTAT_DISPATCHED) 1 (2 ^ F.QUE_REQSTAT_DISPATCHED.w - 1) := by
  subst hp hslot
  refine ⟨_, (exec_dispatch first whole runs goes free).trans (congrArg Host.Outcome.next (if_pos ?_)), ?_⟩
  · rw [State.sentToJack_slot, State.sentToJack_bitAct, State.sentToJack_getAct]
    exact ⟨valid, len⟩
  · rw [State.descs, State.sentToJack_que]
    exact ⟨SMap.get_set_same _ _ _ _, rfl, s.sentToJack_lane q.val rest ⟨l, _, _⟩, s.sentToJack_dispatched _ _ _⟩

theorem exec_dispatch_ends (no_prog : s.bitAct slot F.JCK_SLOT_VALID = false ∨ s.getAct slot F.JCK_SLOT_LEN = 0) :
    ∃ t, exec (.enqueueRequestDispatch q) s = .next t ∧ t.descs q.val = rest ∧ t.que.jack = s.que.jack ∧ t.lane l = {} ∧
      t.que.pbuf = s.que.pbuf.filter (fun g => !d.gobs.contains g) := by
  subst hslot
  let r : JackReq := ⟨l, s.pktOf q.val d, s.actEpoch⟩
  have posted := State.outcome_posted ((((s.sentToJack q.val rest r).jackEnd r).pbufRelease (s.pktOf q.val d).localSrc d.gobs))
    (s.pktOf q.val d) ST.PROG_DROP 0xFF
  have que := (((s.sentToJack q.val rest r).jackEnd r).pbufRelease_que (s.pktOf q.val d).localSrc d.gobs)
  rw [State.jackEnd_que, State.sentToJack_que] at que
  refine ⟨_, (exec_dispatch first whole runs goes free).trans (congrArg Host.Outcome.next (if_neg ?_)), ?_, ?_, ?_, ?_⟩
  · rw [State.sentToJack_slot, State.sentToJack_bitAct, State.sentToJack_getAct]
    exact fun both => no_prog.elim (fun out => absurd both.1 (by simpa using out)) both.2
  · refine (posted.descs_same _).trans ?_
    rw [State.descs, que]
    exact SMap.get_set_same _ _ _ _
  · refine posted.jack_eq.trans ?_
    rw [que]
    have others : s.que.jack.filter (fun x => x.lane != l) = s.que.jack :=
      List.filter_eq_self.mpr fun x hx => by simpa using State.freeLane_free free x hx
    simp [r, others]
  · refine (posted.lane_eq l).trans ?_
    rw [State.lane, State.pbufRelease_gaf]
    exact State.jackEnd_lane _ r
  · refine posted.pbuf_eq.trans ?_
    rw [que]

end dispatch

/-! ### Writes of a delivery (R73) -/

theorem SMap.filterMap_del {β γ : Type} (f : Nat × β → Option γ) (m : SMap β) (k : Nat) (out : ∀ v, f (k, v) = none) :
    (SMap.del m k).filterMap f = m.filterMap f := by
  induction m with
  | nil => rfl
  | cons e m ih =>
    rw [SMap.del]
    split
    · rename_i same
      rw [ih, List.filterMap_cons_none (by rw [← out e.2, ← same])]
    · rw [List.filterMap_cons, List.filterMap_cons, ih]

theorem SMap.filterMap_ins {β γ : Type} (f : Nat × β → Option γ) (m : SMap β) (k : Nat) (v : β) (out : f (k, v) = none) :
    (SMap.ins m k v).filterMap f = m.filterMap f := by
  induction m with
  | nil => rw [SMap.ins, List.filterMap_cons_none out]
  | cons e m ih =>
    rw [SMap.ins]
    split
    · rw [List.filterMap_cons_none out]
    · rw [List.filterMap_cons, List.filterMap_cons, ih]

/-- Setting a key that a selection passes over leaves the selection. -/
theorem SMap.filterMap_set {β γ : Type} [DecidableEq β] (f : Nat × β → Option γ) (m : SMap β) (d : β) (k : Nat) (v : β)
    (out : ∀ v, f (k, v) = none) : (SMap.set m d k v).filterMap f = m.filterMap f := by
  rw [SMap.set]
  split
  · exact SMap.filterMap_del f m k out
  · rw [SMap.filterMap_ins f _ k v (out v), SMap.filterMap_del f m k out]

/-- Posting an entry puts QUE_IRQCFG in force, which gives no port a role. -/
theorem State.upPort_postEntry (s : State) (q pt : Nat) : (s.postEntry q).upPort pt = s.upPort pt := by
  refine congrArg List.head? (SMap.filterMap_set _ _ _ _ _ fun v => if_neg ?_)
  simp only [R.QUE_IRQCFG]
  omega

/-- A packet is numbered and a free value drawn, before it is admitted. -/
def State.numbered (s : State) : State := { s with freeCtr := s.freeCtr + 1, cru := { s.cru with nextPkt := s.cru.nextPkt + 1 } }

theorem State.numbered_posted (s : State) : Posted s s.numbered := ⟨rfl, rfl, fun _ => rfl⟩
theorem State.numbered_admissible (s : State) (Q n : Nat) : s.numbered.admissible Q n = s.admissible Q n := rfl
theorem State.postEntry_admissible (s : State) (q Q n : Nat) : (s.postEntry q).admissible Q n = s.admissible Q n := rfl

theorem bytesOf_length (v n : Nat) : (bytesOf v n).length = n := by
  induction n generalizing v with
  | zero => rfl
  | succ n ih => rw [bytesOf, List.length_cons, ih]

theorem leBytes_length (v n : Nat) : (leBytes v n).length = n := by
  rw [leBytes, List.length_map, bytesOf_length]

theorem rxHeader_length (x : Delivery) : (rxHeader x).length = 16 := by
  rw [rxHeader, List.length_append, leBytes_length, leBytes_length]

/-- The memory write with which a delivery writes bytes to its ring (R73). -/
def State.delTlp (s : State) (x : Delivery) (role : Role) (addr : Nat) (bs : List Byte) : Tlp :=
  ⟨.memWr, addr, s.routingId (s.qOwnerFn x.q) (s.qOwnerPt x.q), 0, 0, ⟨s.qTc x.q % 8, Nat.mod_lt _ (by decide)⟩, hdrMem + bs.length, bs.length,
    .sc, false, false, bs, false, match role with | .payload _ => Config.free s.freeCtr % 2 == 1 | _ => false⟩

/-- The packet of that write. -/
def State.delPkt (s : State) (x : Delivery) (role : Role) (addr : Nat) (bs : List Byte) : Pkt :=
  ⟨s.cru.nextPkt, role, .tlp (s.delTlp x role addr bs), hdrMem + bs.length, s.qOrigin x.q 2, 256, s.qTc x.q, s.qOwnerPt x.q, s.fwdEpoch, 0, [], 0,
    false, 0, 0⟩

section delWrite
variable {s : State} {x : Delivery} {role : Role} {addr : Nat} {bs : List Byte}

theorem State.delWrite_eq : s.delWrite x role addr bs =
    match (s.upPort (s.qOwnerPt x.q)).filter (fun p => !s.portHeld p && s.canMaster (s.qOwnerFn x.q)) with
    | none => none
    | some p => s.numbered.admitPkt (s.delPkt x role addr bs) (coqOfPort p (s.qTc x.q)) := rfl

theorem State.delWrite_posted {t : State} (h : s.delWrite x role addr bs = some t) : Posted s t := by
  rw [State.delWrite_eq] at h
  split at h
  · cases h
  · rename_i p up
    obtain ⟨up, -⟩ := Option.filter_eq_some_iff.mp up
    exact s.numbered_posted.trans (State.admitPkt_posted h (coqOfPort_lt (State.upPort_lt up) (s.qTc_lt x.q)))

variable {p : Nat} (up : s.upPort (s.qOwnerPt x.q) = some p) (lifted : s.portHeld p = false) (master : s.canMaster (s.qOwnerFn x.q) = true)
include up lifted master

theorem State.delWrite_goes : s.delWrite x role addr bs = s.numbered.admitPkt (s.delPkt x role addr bs) (coqOfPort p (s.qTc x.q)) := by
  have goes : (s.upPort (s.qOwnerPt x.q)).filter (fun p => !s.portHeld p && s.canMaster (s.qOwnerFn x.q)) = some p := by
    simp [up, lifted, master]
  rw [State.delWrite_eq, goes]

theorem State.delWrite_admissible (ok : s.admissible (coqOfPort p (s.qTc x.q)) ((hdrMem + bs.length + 255) / 256) = true) :
    ∃ t k, s.delWrite x role addr bs = some t ∧ t.coq (coqOfPort p (s.qTc x.q)) = s.coq (coqOfPort p (s.qTc x.q)) ++ [k] ∧
      k.role = role ∧ k.body = .tlp (s.delTlp x role addr bs) ∧ Posted s t := by
  obtain ⟨t, k, admitted, linked, role, body, posted⟩ := State.admitPkt_admissible (p := s.delPkt x role addr bs) (s := s.numbered)
    ((s.numbered_admissible _ _).trans ok) (coqOfPort_lt (State.upPort_lt up) (s.qTc_lt x.q))
  exact ⟨t, k, (State.delWrite_goes up lifted master).trans admitted, linked, role, body, s.numbered_posted.trans posted⟩

theorem State.delWrite_refused (no : s.admissible (coqOfPort p (s.qTc x.q)) ((hdrMem + bs.length + 255) / 256) = false) :
    s.delWrite x role addr bs = none :=
  (State.delWrite_goes up lifted master).trans (State.admitPkt_refused ((s.numbered_admissible _ _).trans no))

end delWrite

/-! ### Deliveries (R73) -/

/-- A delivery that is set reads back under its number. -/
theorem State.del_setDel {s : State} {d : Nat} {x y : Delivery} (h : s.del d = some x) (id : y.id = d) : (s.setDel y).del d = some y := by
  have here : x.id = d := by simpa using List.find?_some h
  have same : (fun z : Delivery => z.id == d) ∘ (fun z => if z.id = y.id then y else z) = fun z => z.id == d := by
    funext z
    by_cases hz : z.id = d
    · simp [id, hz]
    · simp [id, hz]
  rw [State.del, State.setDel, List.find?_map, same]
  rw [State.del] at h
  rw [h, Option.map_some, if_pos (here.trans id.symm)]

theorem State.del_id {s : State} {d : Nat} {x : Delivery} (h : s.del d = some x) : x.id = d := by simpa using List.find?_some h

theorem Posted.del_eq {s t : State} (h : Posted s t) (d : Nat) : t.del d = s.del d := by
  rw [State.del, h.dels_eq, State.del]

/-- Pushing the writes of a delivery admits some of them, in order, and leaves the payload buffer. -/
theorem State.pushWrites_admits (fuel : Nat) {s : State} {d : Nat} {x : Delivery} (h : s.del d = some x) :
    ∃ k, k ≤ x.toAdmit.length ∧ (s.pushWrites d fuel).que.pbuf = s.que.pbuf ∧
      (s.pushWrites d fuel).del d = some { x with toAdmit := x.toAdmit.drop k, inFlight := x.inFlight + k } := by
  induction fuel generalizing s x with
  | zero => exact ⟨0, Nat.zero_le _, rfl, h⟩
  | succ fuel ih =>
    have id := State.del_id h
    rw [State.pushWrites, h]
    dsimp only
    split
    · exact ⟨0, Nat.zero_le _, rfl, h⟩
    · rename_i a bs ws waiting
      split
      · exact ⟨0, Nat.zero_le _, rfl, h⟩
      · rename_i t written
        have posted := State.delWrite_posted written
        obtain ⟨k, small, pbuf, pushed⟩ := ih (State.del_setDel (y := { x with toAdmit := ws, inFlight := x.inFlight + 1 })
          ((posted.del_eq d).trans h) id)
        refine ⟨k + 1, ?_, pbuf.trans posted.pbuf_eq, pushed.trans ?_⟩
        · rw [waiting]
          exact Nat.succ_le_succ small
        · rw [waiting, List.drop_succ_cons, Nat.add_assoc, Nat.add_comm 1]

/-- The writes of a run of bytes hold these bytes in order (R73). -/
theorem splitWrites_flatten (fuel base ring off : Nat) (bs : List Byte) (size : Nat) (room : 0 < ring) (enough : bs.length < fuel) :
    ((splitWrites fuel base ring off bs size).map (·.2)).flatten = bs := by
  induction fuel generalizing off bs with
  | zero => omega
  | succ fuel ih =>
    rw [splitWrites]
    cases bs with
    | nil => rfl
    | cons b bs =>
      rw [if_neg (by simp)]
      extract_lets o k
      have cut : 1 ≤ k := by
        have := Nat.mod_lt off room
        have := Nat.mod_lt (base + o) (show 0 < 4096 by decide)
        omega
      rw [List.map_cons, List.flatten_cons, ih _ _ (by rw [List.length_drop, List.length_cons] at *; omega)]
      exact List.take_append_drop _ _

/-- No write crosses a 4 KiB boundary (log entry 115). -/
theorem splitWrites_aligned (fuel base ring off : Nat) (bs : List Byte) (size : Nat) :
    ∀ w ∈ splitWrites fuel base ring off bs size, w.1 % 4096 + w.2.length ≤ 4096 := by
  induction fuel generalizing off bs with
  | zero => exact nofun
  | succ fuel ih =>
    rw [splitWrites]
    split
    · exact nofun
    · extract_lets o k
      intro w hw
      rcases List.mem_cons.mp hw with rfl | hw
      · have := List.length_take_le k bs
        have := Nat.mod_lt (base + o) (show 0 < 4096 by decide)
        simp only
        omega
      · exact ih _ _ w hw

/-- The payload of a delivery is cut into writes for its ring, and they are pushed (R73). -/
def State.issuePayload (s : State) (x : Delivery) (bs : List Byte) : State :=
  let ws := splitWrites (bs.length + 1) (s.get (R.QUE_RXCFG x.q) F.QUE_RXCFG_RX_BASE * 2 ^ 12) (s.ringSize x.q * s.slotSize x.q)
    (x.slot * s.slotSize x.q + 16) bs (s.writeSize (s.qOwnerFn x.q) (s.qOwnerPt x.q))
  (s.setDel { x with phase := .writing, toAdmit := ws }).pushWrites x.id ws.length

theorem State.issuePayload_writes {s : State} {x y : Delivery} (bs : List Byte) (here : s.del x.id = some y) :
    (s.issuePayload x bs).que.pbuf = s.que.pbuf ∧ ∃ (ws : List (Nat × List Byte)) (k : Nat), (ws.map (·.2)).flatten = bs ∧
      (∀ w ∈ ws, w.1 % 4096 + w.2.length ≤ 4096) ∧ k ≤ ws.length ∧
      (s.issuePayload x bs).del x.id = some { x with phase := .writing, toAdmit := ws.drop k, inFlight := x.inFlight + k } := by
  have room : 0 < s.ringSize x.q * s.slotSize x.q := Nat.mul_pos (Nat.two_pow_pos _) (Nat.two_pow_pos _)
  rw [State.issuePayload]
  generalize cut : splitWrites _ _ _ _ _ _ = ws
  have whole : (ws.map (·.2)).flatten = bs := cut ▸ splitWrites_flatten _ _ _ _ _ _ room (Nat.lt_succ_self _)
  have aligned : ∀ w ∈ ws, w.1 % 4096 + w.2.length ≤ 4096 := cut ▸ splitWrites_aligned _ _ _ _ _ _
  obtain ⟨k, small, pbuf, pushed⟩ := State.pushWrites_admits ws.length
    (State.del_setDel (y := { x with phase := .writing, toAdmit := ws }) here rfl)
  exact ⟨pbuf, ws, k, whole, aligned, small, pushed⟩

section deliveryRead
variable {s : State} {d : Nat} {x : Delivery} (here : s.del d = some x) (reading : x.phase = .reading)
  (runs : s.flt.stopped = false) (home : s.goesRemote x.pkt = false)
include here reading runs home

/-- A delivery whose payload is read in its turn: the gobs are freed, and its writes are issued or given up. -/
theorem exec_deliveryRead {t u : State} {bs : List Byte} {ok : Bool} (taken : s.gobTurn (s.gobRanges x.pkt.gobs x.pkt.len) = some t)
    (read : t.readChain (t.qOrigin x.q 2) x.pkt.gobs x.pkt.len = (bs, ok, u)) :
    exec (.deliveryRead d []) s = if !ok || !x.pkt.gobs.all (fun g => t.gstMapped (t.gobAddr g))
      then .next ((u.pbufRelease x.pkt.localSrc x.pkt.gobs).abandonDelivery x)
      else .next ((u.pbufRelease x.pkt.localSrc x.pkt.gobs).issuePayload x bs) := by
  change execDeliveryRead d [] s = _
  rw [execDeliveryRead, here]
  dsimp only
  rw [if_neg (by simp [reading, runs, home]), taken]
  dsimp only
  rw [show t.flip [] = t from rfl, read]
  unfold State.issuePayload
  rw [State.del_id here]

theorem exec_deliveryRead_clean (turn : s.gobTurn (s.gobRanges x.pkt.gobs x.pkt.len) ≠ none) (clean : s.err = []) :
    ∃ t, exec (.deliveryRead d []) s = .next t ∧ t.que.pbuf = s.que.pbuf.filter (fun g => !x.pkt.gobs.contains g) ∧
      (x.pkt.gobs.all (fun g => s.gstMapped (s.gobAddr g)) = false →
        t.del d = some { x with err := true, toAdmit := [], phase := .writing }) ∧
      (x.pkt.gobs.all (fun g => s.gstMapped (s.gobAddr g)) = true → ∃ (ws : List (Nat × List Byte)) (k : Nat),
        (ws.map (·.2)).flatten = (s.readChain (s.qOrigin x.q 2) x.pkt.gobs x.pkt.len).1 ∧
        (∀ w ∈ ws, w.1 % 4096 + w.2.length ≤ 4096) ∧ k ≤ ws.length ∧
        t.del d = some { x with phase := .writing, toAdmit := ws.drop k, inFlight := x.inFlight + k }) := by
  obtain ⟨t, taken⟩ := Option.ne_none_iff_exists'.mp turn
  obtain ⟨g, ht⟩ := State.gobTurn_gst taken
  have clean' : t.err = [] := ht ▸ clean
  obtain ⟨whole, counted⟩ := State.readChain_clean x.pkt.gobs clean' (t.qOrigin x.q 2) x.pkt.len
  have data : (t.readChain (t.qOrigin x.q 2) x.pkt.gobs x.pkt.len).1 = (s.readChain (s.qOrigin x.q 2) x.pkt.gobs x.pkt.len).1 :=
    (congrArg (fun o => (t.readChain o _ _).1) (by rw [ht]; rfl)).trans
      (State.readChain_congr _ _ _ clean clean' (by rw [ht]) (by rw [ht]; rfl))
  have places : x.pkt.gobs.all (fun g => t.gstMapped (t.gobAddr g)) = x.pkt.gobs.all (fun g => s.gstMapped (s.gobAddr g)) := by
    rw [ht]
    rfl
  rcases read : t.readChain (t.qOrigin x.q 2) x.pkt.gobs x.pkt.len with ⟨bs, ok, u⟩
  have run := exec_deliveryRead here reading runs home taken read
  rw [read] at whole counted data
  obtain rfl : ok = true := whole
  rw [places] at run
  have que : (u.pbufRelease x.pkt.localSrc x.pkt.gobs).que =
      { s.que with pbuf := s.que.pbuf.filter (fun g => !x.pkt.gobs.contains g) } := by
    rw [State.pbufRelease_que, counted.que_eq, ht]
  generalize u.pbufRelease x.pkt.localSrc x.pkt.gobs = u at run que
  have still : u.del d = some x := by
    rw [State.del, que]
    exact here
  have pbuf := congrArg Que.pbuf que
  cases mapped : x.pkt.gobs.all (fun g => s.gstMapped (s.gobAddr g)) with
  | false =>
    rw [mapped] at run
    have id := State.del_id here
    exact ⟨_, run, pbuf, fun _ => State.del_setDel (y := { x with err := true, toAdmit := [], phase := .writing }) still id, nofun⟩
  | true =>
    rw [mapped] at run
    obtain rfl := State.del_id here
    obtain ⟨kept, writes⟩ := State.issuePayload_writes bs still
    exact ⟨_, run, kept.trans pbuf, nofun, fun _ => data ▸ writes⟩

end deliveryRead

/-- Where the header of a delivery goes: the first bytes of its slot of the receive ring (R73). -/
def State.headerAddr (s : State) (x : Delivery) : Nat := s.get (R.QUE_RXCFG x.q) F.QUE_RXCFG_RX_BASE * 2 ^ 12 + x.slot * s.slotSize x.q

section rxHeaderIssue
variable {s : State} {d : Nat} {x : Delivery} (here : s.del d = some x) (writing : x.phase = .writing) (admitted : x.toAdmit = [])
  (sent : x.inFlight = 0)
  (first : ∀ y ∈ s.que.dels.takeWhile (fun y => y.id != d), y.q = x.q → y.phase = .header ∨ y.phase = .headerSent)
include here writing admitted sent first

/-- A delivery whose writes are gone, and before which no header of its ring is due, tries to issue its header. -/
theorem exec_rxHeaderIssue : exec (.rxHeaderIssue d) s =
    ((s.postEntry x.q).delWrite x (.header d) (s.headerAddr x) (rxHeader x)).elim (.next s)
      (fun t => .next (t.setDel { x with phase := .header })) := by
  have none_older : (s.que.dels.takeWhile (fun y => y.id != d)).any
      (fun y => y.q == x.q && y.phase != .headerSent && y.phase != .header) = false := by
    refine List.any_eq_false.mpr fun y hy => ?_
    by_cases same : y.q = x.q
    · rcases first y hy same with phase | phase <;> simp [phase]
    · simp [same]
  change execRxHeaderIssue d s = _
  rw [execRxHeaderIssue, here]
  dsimp only
  rw [if_neg (by simp [writing, admitted, sent, none_older])]
  unfold State.headerAddr
  cases (s.postEntry x.q).delWrite x (.header d) _ (rxHeader x) with
  | none => rfl
  | some t => rfl

variable {p : Nat} (up : s.upPort (s.qOwnerPt x.q) = some p) (lifted : s.portHeld p = false) (master : s.canMaster (s.qOwnerFn x.q) = true)
include up lifted master

theorem exec_rxHeaderIssue_goes (ok : s.admissible (coqOfPort p (s.qTc x.q)) 1 = true) :
    ∃ t k tl, exec (.rxHeaderIssue d) s = .next t ∧ t.coq (coqOfPort p (s.qTc x.q)) = s.coq (coqOfPort p (s.qTc x.q)) ++ [k] ∧
      k.role = .header d ∧ k.body = .tlp tl ∧ tl.kind = .memWr ∧ tl.data = rxHeader x ∧ tl.addr = s.headerAddr x ∧
      t.del d = some { x with phase := .header } := by
  have one : (hdrMem + (rxHeader x).length + 255) / 256 = 1 := by
    rw [rxHeader_length]
    rfl
  obtain ⟨t, k, goes, linked, role, body, posted⟩ := State.delWrite_admissible (s := s.postEntry x.q) (role := .header d)
    (addr := s.headerAddr x) (bs := rxHeader x) ((State.upPort_postEntry _ _ _).trans up) lifted master
    ((State.postEntry_admissible _ _ _ _).trans (one ▸ ok))
  have id := State.del_id here
  refine ⟨t.setDel { x with phase := .header }, k, _, ?_, linked, role, body, rfl, rfl, rfl,
    State.del_setDel (y := { x with phase := .header }) ((posted.del_eq d).trans here) id⟩
  rw [exec_rxHeaderIssue here writing admitted sent first, goes, Option.elim_some]

theorem exec_rxHeaderIssue_waits (no : s.admissible (coqOfPort p (s.qTc x.q)) 1 = false) : exec (.rxHeaderIssue d) s = .next s := by
  have one : (hdrMem + (rxHeader x).length + 255) / 256 = 1 := by
    rw [rxHeader_length]
    rfl
  rw [exec_rxHeaderIssue here writing admitted sent first, State.delWrite_refused (s := s.postEntry x.q)
    ((State.upPort_postEntry _ _ _).trans up) lifted master ((State.postEntry_admissible _ _ _ _).trans (one ▸ no)), Option.elim_none]

end rxHeaderIssue

/-! ### Messages due (R77, R254) -/

theorem State.setPending_posted (s : State) (f v : Nat) (cls : Option Nat) : Posted s (s.setPending f v cls) := ⟨rfl, rfl, fun _ => rfl⟩

theorem State.pendingBit_setPending (s : State) (f v cls : Nat) : (s.setPending f v (some cls)).pendingBit f v = true := by
  rw [State.pendingBit, State.setPending, SMap.get_set_same]
  rfl

theorem State.msix_posted (s : State) {f v cls : Nat} (hf : f < 8192) (hc : cls < 8) : Posted s (s.msix f v cls) := by
  unfold State.msix
  split
  · refine (Posted.refl s).bump _ _ _ fun q => ?_
    simp only [R.QCTX, R.QEP_FNSTAT]
    omega
  · split
    · exact Posted.refl s
    · split
      · exact s.setPending_posted _ _ _
      · exact State.sendUp_posted _ hc fun _ _ => State.newPkt_posted _ _ _ _ _ _ _ _

/-- A packet that leaves an upstream port which is not held goes through the endpoint port. -/
theorem State.sendUp_goes {s : State} {pt p : Nat} (cls : Nat) (mk : Nat → State → Pkt × State) (up : s.upPort pt = some p)
    (lifted : s.portHeld p = false) :
    (s.sendUp pt cls mk).2 = (mk (coqOfPort p cls) s).2.sendEndpoint (mk (coqOfPort p cls) s).1 (coqOfPort p cls) := by
  rw [State.sendUp, up]
  dsimp only
  rw [if_neg (by simp [lifted])]

/-- A new packet that R42 admits is linked when nothing is held at the endpoint port. -/
theorem State.sendNew_admissible {s : State} (role : Role) (body : Body) (bytes origin port cls pt : Nat) {Q : Nat} (hQ : Q < 2064)
    (none_held : s.cru.epHeld = []) (ok : s.admissible Q ((bytes + 255) / 256) = true) :
    ∃ k, ((s.newPkt role body bytes origin port cls pt).2.sendEndpoint (s.newPkt role body bytes origin port cls pt).1 Q).coq Q =
      s.coq Q ++ [k] ∧ k.role = role := by
  obtain ⟨k, linked, same, -⟩ := State.sendEndpoint_admissible (s := (s.newPkt role body bytes origin port cls pt).2)
    (p := (s.newPkt role body bytes origin port cls pt).1) none_held ok hQ
  exact ⟨k, linked, same⟩

section msix
variable {s : State} {f v cls pt : Nat} (vec : v < msixVectors f) (appears : s.fnPt f = some pt)
include vec appears

theorem State.msix_blocked (blocked : s.msixBlocked f v = true) : s.msix f v cls = s.setPending f v (some cls) := by
  rw [State.msix, if_neg (Nat.not_le.mpr vec), appears]
  exact if_pos blocked

theorem State.msix_goes {p : Nat} (hc : cls < 8) (clear : s.msixBlocked f v = false) (up : s.upPort pt = some p) (lifted : s.portHeld p = false)
    (none_held : s.cru.epHeld = []) (ok : s.admissible (coqOfPort p cls) 1 = true) :
    ∃ k, (s.msix f v cls).coq (coqOfPort p cls) = s.coq (coqOfPort p cls) ++ [k] ∧ k.role = .msix f v := by
  rw [State.msix, if_neg (Nat.not_le.mpr vec), appears]
  dsimp only
  rw [if_neg (by simp [clear]), State.sendUp_goes _ _ up lifted]
  exact State.sendNew_admissible _ _ _ _ _ _ _ (coqOfPort_lt (State.upPort_lt up) hc) none_held ok

end msix

/-- No entry or header of queue `q` is unreported any more (R77). -/
def State.modClear (s : State) (q : Nat) (rx : Bool) : State :=
  if rx then { s with que := { s.que with rxMod := SMap.set s.que.rxMod 0 q 0 } }
  else { s with que := { s.que with cqMod := SMap.set s.que.cqMod 0 q 0 } }

theorem State.modClear_clear (s : State) (q : Nat) (rx : Bool) :
    SMap.get (if rx then (s.modClear q rx).que.rxMod else (s.modClear q rx).que.cqMod) 0 q = 0 := by
  cases rx with
  | true => exact SMap.get_set_same s.que.rxMod 0 q 0
  | false => exact SMap.get_set_same s.que.cqMod 0 q 0

/-- Only the queue path's counts change. -/
theorem State.modClear_que (s : State) (q : Nat) (rx : Bool) : ∃ x : Que, s.modClear q rx = { s with que := x } := by
  cases rx with
  | true => exact ⟨_, rfl⟩
  | false => exact ⟨_, rfl⟩

section modTimeExpiry
variable {s : State} {q : Fin 65536} {rx : Bool} {n f v : Nat} (hn : n = SMap.get (if rx then s.que.rxMod else s.que.cqMod) 0 q.val)
include hn

theorem exec_modTimeExpiry_none (idle : n = 0 ∨ s.getAct (R.QUE_IRQCFG q.val) F.QUE_IRQCFG_MOD_TIME = 0) :
    exec (.modTimeExpiry q rx) s = .next s := by
  subst hn
  exact if_pos idle

variable (hf : f = s.qOwnerFn q.val)
  (hv : v = s.getAct (R.QUE_IRQCFG q.val) (if rx then F.QUE_IRQCFG_RX_VEC else F.QUE_IRQCFG_CQ_VEC))
include hf hv

theorem exec_modTimeExpiry_due (due : n ≠ 0) (timed : s.getAct (R.QUE_IRQCFG q.val) F.QUE_IRQCFG_MOD_TIME ≠ 0) :
    exec (.modTimeExpiry q rx) s = .next ((s.modClear q.val rx).msix f v (s.qTc q.val)) := by
  subst hn hf hv
  refine (if_neg (not_or.mpr ⟨due, timed⟩)).trans ?_
  cases rx with
  | true => rfl
  | false => rfl

theorem exec_modTimeExpiry_sends (due : n ≠ 0) (timed : s.getAct (R.QUE_IRQCFG q.val) F.QUE_IRQCFG_MOD_TIME ≠ 0) :
    ∃ t, exec (.modTimeExpiry q rx) s = .next t ∧ SMap.get (if rx then t.que.rxMod else t.que.cqMod) 0 q.val = 0 ∧
      (∀ pt, v < msixVectors f → s.fnPt f = some pt →
        (s.msixBlocked f v = true → t.pendingBit f v = true) ∧
        (∀ p Q, s.msixBlocked f v = false → s.upPort pt = some p → s.portHeld p = false → Q = coqOfPort p (s.qTc q.val) →
          s.cru.epHeld = [] → s.admissible Q 1 = true → ∃ k, t.coq Q = s.coq Q ++ [k] ∧ k.role = .msix f v)) := by
  refine ⟨_, exec_modTimeExpiry_due hn hf hv due timed, ?_, fun pt vec appears => ?_⟩
  · have small : f < 8192 := hf ▸ Nat.mod_lt _ (by decide)
    have posted := (s.modClear q.val rx).msix_posted (v := v) small (s.qTc_lt q.val)
    rw [posted.rxMod_eq, posted.cqMod_eq]
    exact s.modClear_clear q.val rx
  · obtain ⟨x, cleared⟩ := s.modClear_que q.val rx
    rw [cleared]
    refine ⟨fun blocked => ?_, fun p Q clear up lifted hQ none_held ok => ?_⟩
    · rw [State.msix_blocked (s := { s with que := x }) vec appears blocked]
      exact State.pendingBit_setPending _ _ _ _
    · subst hQ
      exact State.msix_goes (s := { s with que := x }) vec appears (s.qTc_lt q.val) clear up lifted none_held ok

end modTimeExpiry

/-- Settles O54, clause by clause: a dispatch, a read of a delivery, its header and a message due under MOD_TIME. -/
theorem requestsAreDispatchedAndPacketsDelivered : Obligations.RequestsAreDispatchedAndPacketsDelivered := by
  unfold Obligations.RequestsAreDispatchedAndPacketsDelivered
  refine ⟨fun s q d rest first whole runs goes => ⟨fun l free p slot hp hslot => ⟨?_, ?_⟩, ?_⟩,
    fun s d x here reading runs home turn clean => exec_deliveryRead_clean here reading runs home turn clean, ?_,
    fun s q rx n f v hn hf hv => ⟨exec_modTimeExpiry_none hn, exec_modTimeExpiry_sends hn hf hv⟩⟩
  · exact exec_dispatch_runs first whole runs goes free hslot hp
  · exact exec_dispatch_ends first whole runs goes free hslot
  · exact exec_dispatch_waits first whole runs goes
  · intro s d x here writing admitted sent first p up lifted master Q hQ
    subst hQ
    exact ⟨exec_rxHeaderIssue_goes here writing admitted sent first up lifted master,
      exec_rxHeaderIssue_waits here writing admitted sent first up lifted master⟩

end Sys2Proof.Machine
end

section
/-!
PROOFS. Descriptors and payload fetches (R60 to R66): a doorbell is dropped, refused or accepted, a payload takes gobs and is copied from its slot
or fetched, and a failed fetch ends its descriptor.
-/
namespace Sys2Proof.Machine

theorem Only.que_eq {rs : List RegRef} {s t : State} (h : Only rs s t) : t.que = s.que := (congrArg State.que h.1 :)
theorem Only.prt_eq {rs : List RegRef} {s t : State} (h : Only rs s t) : t.prt = s.prt := (congrArg State.prt h.1 :)
theorem Only.reports_eq {rs : List RegRef} {s t : State} (h : Only rs s t) : t.reports = s.reports := (congrArg State.reports h.1 :)
theorem Only.now_eq {rs : List RegRef} {s t : State} (h : Only rs s t) : t.now = s.now := (congrArg State.now h.1 :)

/-! ### Doorbells (R60 to R64) -/

theorem State.badWrite_only (s : State) (fn : Nat) : Only [R.QUE_ERRLOG, R.QEP_FNSTAT fn] s (s.badWrite fn) := by
  unfold State.badWrite
  extract_lets counted
  have global : Only [R.QUE_ERRLOG, R.QEP_FNSTAT fn] s counted := Only.put _ _ _ _ _ (by simp)
  split
  · exact global.trans (Only.put _ _ _ _ _ (by simp))
  · exact global

theorem State.queErrLog_only (s : State) (rs : List RegRef) (q kind fn pt : Nat) (h : R.QUE_ERRLOG ∈ rs) :
    Only rs s (s.queErrLog q kind fn pt) := by
  unfold State.queErrLog
  split
  · exact Only.put _ _ _ _ _ h
  · exact ((((Only.put _ _ _ _ _ h).trans (Only.put _ _ _ _ _ h)).trans (Only.put _ _ _ _ _ h)).trans (Only.put _ _ _ _ _ h)).trans
      (Only.put _ _ _ _ _ h)

/-- The descriptor of a doorbell write (R62). -/
def State.doorbellDesc (s : State) (q : Nat) (data : List Byte) : Desc :=
  ⟨s.que.nextId, q, bitOf (dbWord data 0) 8, bitOf (dbWord data 0) 9, fieldOf (dbWord data 0) 16 14, fieldOf (dbWord data 0) 32 16,
    dbWord data 1, dbWord data 2, dbWord data 3,
    if bitOf (dbWord data 0) 8 then (data.drop 32).take (fieldOf (dbWord data 0) 16 14) else [], .waiting, [], []⟩

/-- A descriptor takes a submission slot (R64). -/
def State.accept (s : State) (q : Nat) (d : Desc) : State :=
  let t := { s with que := { s.que with nextId := s.que.nextId + 1 } }
  ((t.slotTake q).qCount q 4).setDescs q (s.descs q ++ [d])

section accept
variable (s : State) (q : Nat) (d : Desc)

theorem State.accept_que : (s.accept q d).que = { s.que with
    nextId := s.que.nextId + 1, slotsUsed := s.que.slotsUsed + 1, descs := SMap.set s.que.descs [] q (s.descs q ++ [d]) } := by
  rw [State.accept, State.setDescs, State.qCount, State.wr, State.slotTake, State.put_que]

theorem State.accept_mem : (s.accept q d).mem = s.mem := by
  rw [State.accept, State.setDescs, State.qCount, State.wr, State.slotTake, State.put_mem]

theorem State.accept_descs : (s.accept q d).descs q = s.descs q ++ [d] := by
  rw [State.descs, State.accept_que, SMap.get_set_same]

theorem State.accept_descs_other (c : Nat) (h : c ≠ q) : (s.accept q d).descs c = s.descs c := by
  rw [State.descs, State.accept_que, SMap.get_set_other _ _ _ _ _ h, State.descs]

theorem qctx_words_apart {v w : Nat} (h : v ≠ w) : (R.QCTX q v).addr ≠ (R.QCTX q w).addr := by
  simp only [R.QCTX]
  omega

/-- A descriptor that fits its queue counts in SQ_USED. -/
theorem State.accept_used (room : s.get (R.QCTX q 3) F.QCTX_SQ_USED < s.get (R.QCTX q 2) F.QCTX_SQ_MAX) :
    (s.accept q d).get (R.QCTX q 3) F.QCTX_SQ_USED = s.get (R.QCTX q 3) F.QCTX_SQ_USED + 1 := by
  have fits : s.get (R.QCTX q 3) F.QCTX_SQ_USED + 1 < 2 ^ F.QCTX_SQ_USED.w :=
    lt_of_le_of_lt room (Nat.mod_lt _ (Nat.two_pow_pos _))
  refine Eq.trans ?_ (Nat.mod_eq_of_lt fits)
  refine Eq.trans ?_ (State.get_put_same { s with que := { s.que with nextId := s.que.nextId + 1, slotsUsed := s.que.slotsUsed + 1 } }
    (R.QCTX q 3) _ _ (by decide))
  exact congrArg (fieldOf · _ _) (State.rd_wr_other _ _ _ _ (qctx_words_apart q (by decide)))

theorem State.accept_count : (s.accept q d).rd (R.QCTX q 4) = (s.rd (R.QCTX q 4) + 1) % 2 ^ 64 := by
  refine Eq.trans (State.rd_wr _ _ _) (congrArg (fun n => (n + 1) % 2 ^ 64) ?_)
  exact State.rd_put_other _ _ _ _ _ (qctx_words_apart q (by decide))

end accept

section doorbell
variable {s : State} {o : Origin} {q : Fin 65536} {start : Fin 128} {data : List Byte} {full : Bool} {fn : Nat}
  (hfn : fn = oFn o.toNat) (runs : s.flt.stopped = false)
include hfn runs

theorem exec_doorbellWrite_undecoded (off : s.decodes fn = false) :
    exec (.doorbellWrite o q start data full) s = .next (s.fnUnsupported fn) := by
  subst hfn
  exact (if_neg (by simp [runs])).trans (if_pos (by simp [off]))

variable (decodes : s.decodes fn = true)
include decodes

theorem exec_doorbellWrite_disabled (off : s.bit R.QUE_CTL F.QUE_CTL_ENABLE = false) :
    exec (.doorbellWrite o q start data full) s = .next (s.badWrite fn) := by
  subst hfn
  exact (if_neg (by simp [runs])).trans ((if_neg (by simp [decodes])).trans (if_pos (by simp [off])))

variable (on : s.bit R.QUE_CTL F.QUE_CTL_ENABLE = true)
include on

theorem exec_doorbellWrite_foreign (foreign : s.ownsPage fn q.val = false) :
    exec (.doorbellWrite o q start data full) s = .next ((s.badWrite fn).queErrLog q.val 3 fn (oPt o.toNat)) := by
  subst hfn
  exact (if_neg (by simp [runs])).trans ((if_neg (by simp [decodes])).trans ((if_neg (by simp [on])).trans (if_pos (by simp [foreign]))))

variable (owns : s.ownsPage fn q.val = true)
include owns

theorem exec_doorbellWrite_malformed (bad : dbFormatOk start.val data full = false) :
    ∃ t, exec (.doorbellWrite o q start data full) s = .next t ∧ t.que = s.que ∧
      t.reports = s.reports ++ [⟨FC.DB_FORMAT, UK.function, fn, o.toNat, 0, q.val, s.now, false⟩] := by
  subst hfn
  have logged := (s.badWrite_only (oFn o.toNat)).trans
    (State.queErrLog_only _ _ q.val 1 (oFn o.toNat) (oPt o.toNat) (List.mem_cons_self ..))
  refine ⟨_, (if_neg (by simp [runs])).trans ((if_neg (by simp [decodes])).trans ((if_neg (by simp [on])).trans
    ((if_neg (by simp [owns])).trans (if_pos (by simp [bad]))))), logged.que_eq, ?_⟩
  rw [State.report, logged.reports_eq, logged.now_eq]

variable (ok : dbFormatOk start.val data full = true)
include ok

/-- A well-formed doorbell of the owner is judged by the state of its queue. -/
theorem exec_doorbellWrite_judged : exec (.doorbellWrite o q start data full) s =
    if s.qstate q.val = QS.DISABLED then .next (s.badWrite fn)
    else if s.qstate q.val = QS.HELD ∨ s.ownerShut q.val ∨ s.flrActive fn ∨ s.ptShut (oPt o.toNat) then .next (s.badWrite fn)
    else if s.qstate q.val ≠ QS.ACTIVE then
      .next (s.complete q.val (fieldOf (dbWord data 0) 32 16) ST.FROZEN 0 0 (fieldOf (dbWord data 0) 16 14))
    else if badDesc data (s.get (R.QCTX q.val 0) F.QCTX_INLINE_MAX) then
      .next ((s.queErrLog q.val 2 fn (oPt o.toNat)).complete q.val (fieldOf (dbWord data 0) 32 16) ST.BAD_DESC 0 0
        (fieldOf (dbWord data 0) 16 14))
    else if 65536 ≤ s.que.slotsUsed ∨ s.get (R.QCTX q.val 2) F.QCTX_SQ_MAX ≤ s.get (R.QCTX q.val 3) F.QCTX_SQ_USED then
      .next ((s.bump R.QUE_SQSTAT F.QUE_SQSTAT_OVERFLOWS 1).complete q.val (fieldOf (dbWord data 0) 32 16) ST.OVERFLOW 0 0
        (fieldOf (dbWord data 0) 16 14))
    else .next (s.accept q.val (s.doorbellDesc q.val data)) := by
  subst hfn
  exact (if_neg (by simp [runs])).trans ((if_neg (by simp [decodes])).trans ((if_neg (by simp [on])).trans
    ((if_neg (by simp [owns])).trans (if_neg (by simp [ok])))))

theorem exec_doorbellWrite_off (off : s.qstate q.val = QS.DISABLED ∨ s.qstate q.val = QS.HELD) :
    exec (.doorbellWrite o q start data full) s = .next (s.badWrite fn) := by
  rw [exec_doorbellWrite_judged hfn runs decodes on owns ok]
  rcases off with disabled | held
  · exact if_pos disabled
  · rw [if_pos (Or.inl held), ite_self]

variable (unshut : s.ownerShut q.val = false) (calm : s.flrActive fn = false) (up : s.ptShut (oPt o.toNat) = false)
include unshut calm up

theorem exec_doorbellWrite_frozen (frozen : s.qstate q.val = QS.FROZEN ∨ s.qstate q.val = QS.DRAINING ∨ s.qstate q.val = QS.DRAINED) :
    exec (.doorbellWrite o q start data full) s =
      .next (s.complete q.val (fieldOf (dbWord data 0) 32 16) ST.FROZEN 0 0 (fieldOf (dbWord data 0) 16 14)) := by
  rw [exec_doorbellWrite_judged hfn runs decodes on owns ok]
  rcases frozen with st | st | st <;> simp [st, unshut, calm, up, QS.DISABLED, QS.HELD, QS.ACTIVE, QS.FROZEN, QS.DRAINING, QS.DRAINED]

theorem exec_doorbellWrite_accepts (active : s.qstate q.val = QS.ACTIVE)
    (good : badDesc data (s.get (R.QCTX q.val 0) F.QCTX_INLINE_MAX) = false) (slots : s.que.slotsUsed < 65536)
    (room : s.get (R.QCTX q.val 3) F.QCTX_SQ_USED < s.get (R.QCTX q.val 2) F.QCTX_SQ_MAX) :
    exec (.doorbellWrite o q start data full) s = .next (s.accept q.val (s.doorbellDesc q.val data)) := by
  rw [exec_doorbellWrite_judged hfn runs decodes on owns ok, if_neg (by simp [active, QS.ACTIVE, QS.DISABLED]),
    if_neg (by simp [active, unshut, calm, up, QS.ACTIVE, QS.HELD]), if_neg (by simp [active]), if_neg (by simp [good]),
    if_neg (not_or.mpr ⟨Nat.not_le.mpr slots, Nat.not_le.mpr room⟩)]

end doorbell

/-! ### Gobs for a payload (R64, R65) -/

/-- The gobs in use once `n` more are taken. -/
def State.pbufWith (s : State) (n : Nat) : List Nat := (s.pbufTake n).1.foldl insertRising s.que.pbuf

theorem State.pbufTake_only (s : State) (n : Nat) :
    Only [R.QUE_PBUFSTAT] { s with que := { s.que with pbuf := s.pbufWith n } } (s.pbufTake n).2 := by
  unfold State.pbufWith State.pbufTake
  dsimp only
  split
  · exact Only.put _ _ _ _ _ (List.mem_singleton.mpr rfl)
  · exact ⟨rfl, fun _ _ => rfl⟩

/-- Queue `q` stops waiting and takes `n` gobs. -/
def State.allot (s : State) (q n : Nat) : List Nat × State := (s.unwait q).pbufAlloc q n

theorem State.allot_gobs (s : State) (q n : Nat) : (s.allot q n).1 = (s.pbufTake n).1 := rfl

theorem State.allot_only (s : State) (q n : Nat) : Only [R.QUE_PBUFSTAT, R.QCTX q 3]
    { s with que := { s.que with wait := s.que.wait.filter (· != q), pbuf := s.pbufWith n } } (s.allot q n).2 :=
  (((s.unwait q).pbufTake_only n).mono (by simp)).trans (Only.put _ _ _ _ _ (by simp))

theorem State.allot_rd (s : State) (q n : Nat) (r : RegRef) (stat : r.addr ≠ R.QUE_PBUFSTAT.addr) (ctx : r.addr ≠ (R.QCTX q 3).addr) :
    (s.allot q n).2.rd r = s.rd r := by
  refine (s.allot_only q n).2 r fun x hx => ?_
  rcases List.mem_pair.mp hx with rfl | rfl
  · exact stat
  · exact ctx

theorem State.allot_mapped (s : State) (q n g : Nat) :
    (s.allot q n).2.gstMapped ((s.allot q n).2.gobAddr g) = s.gstMapped (s.gobAddr g) := by
  refine State.mapped_congr (s.allot_rd q n _ (by decide) ?_) (s.allot_rd q n _ (by decide) ?_) g
  · simp only [R.QUE_PBUF, R.QCTX]
    omega
  · simp only [R.RST_TRIMSTAT, R.QCTX]
    omega

/-! ### A payload starts (R65, R66) -/

theorem replaceDesc_ids (l : List Desc) (d : Desc) : (replaceDesc l d).map (·.id) = l.map (·.id) := by
  rw [replaceDesc, List.map_map]
  refine List.map_congr_left fun x _ => ?_
  by_cases h : x.id = d.id
  · simp [h]
  · simp [h]

theorem eq_of_mem_replaceDesc {l : List Desc} {d x : Desc} (h : x ∈ replaceDesc l d) (same : x.id = d.id) : x = d := by
  obtain ⟨y, -, rfl⟩ := List.mem_map.mp h
  by_cases hy : y.id = d.id
  · rw [if_pos hy]
  · rw [if_neg hy] at same
    exact absurd same hy

theorem splitReads_unissued (fuel no off len size : Nat) (h : len ≠ 0) :
    (splitReads (fuel + 1) no off len size).any (fun r => !r.issued) = true := by
  rw [splitReads, if_neg h]
  rfl

theorem State.canMaster_setDescs (s : State) (q : Nat) (l : List Desc) (f : Nat) : (s.setDescs q l).canMaster f = s.canMaster f := rfl
theorem State.qOwnerFn_setDescs (s : State) (q : Nat) (l : List Desc) (c : Nat) : (s.setDescs q l).qOwnerFn c = s.qOwnerFn c := rfl

section issueReads
variable {s : State} {q : Nat} {d : Desc} (due : d.reads.any (fun r => !r.issued) = true) (master : s.canMaster (s.qOwnerFn q) = true)
include due master

/-- Without an upstream port the fetch fails. -/
theorem State.issueReads_down (down : s.upPort (s.qOwnerPt q) = none) :
    s.issueReads q d = (s.setDescs q (replaceDesc (s.descs q) d)).fetchErr q d := by
  rw [State.issueReads]
  refine (if_neg (not_or.mpr ⟨by simp [due], ?_⟩)).trans (if_pos (Option.isNone_iff_eq_none.mpr down))
  simp [State.canMaster_setDescs, State.qOwnerFn_setDescs, master]

/-- With an upstream port reads go out. -/
theorem State.issueReads_posted {p : Nat} (up : s.upPort (s.qOwnerPt q) = some p) : ∃ rs, Posted
    ((s.setDescs q (replaceDesc (s.descs q) d)).setDescs q (replaceDesc ((s.setDescs q (replaceDesc (s.descs q) d)).descs q) { d with reads := rs }))
    (s.issueReads q d) := by
  have here : (s.setDescs q (replaceDesc (s.descs q) d)).upPort ((s.setDescs q (replaceDesc (s.descs q) d)).qOwnerPt q) = some p := up
  rw [State.issueReads]
  dsimp only
  rw [if_neg (not_or.mpr ⟨by simp [due], by simp [State.canMaster_setDescs, State.qOwnerFn_setDescs, master]⟩), if_neg (by simp [here])]
  exact ⟨_, Posted.foldl _ _ (Posted.refl _) fun _ _ => State.sendUp_posted _ (by decide) fun _ _ => State.newPkt_posted _ _ _ _ _ _ _ _⟩

/-- Then the queue keeps its descriptors, and that of the fetch its gobs and its phase. -/
theorem State.issueReads_up {p : Nat} (up : s.upPort (s.qOwnerPt q) = some p) : (s.issueReads q d).que.wait = s.que.wait ∧
    ((s.issueReads q d).descs q).map (·.id) = (s.descs q).map (·.id) ∧
    ∀ x ∈ (s.issueReads q d).descs q, x.id = d.id → x.phase = d.phase ∧ x.gobs = d.gobs := by
  obtain ⟨rs, posted⟩ := State.issueReads_posted due master up
  have descs := (posted.descs_same q).trans (State.descs_setDescs _ _ _)
  rw [State.descs_setDescs] at descs
  refine ⟨posted.wait_eq, by rw [descs, replaceDesc_ids, replaceDesc_ids], fun x hx same => ?_⟩
  obtain rfl := eq_of_mem_replaceDesc (d := { d with reads := rs }) (descs ▸ hx) same
  exact ⟨rfl, rfl⟩

end issueReads

section startPayload
variable {s : State} {q : Nat} {d : Desc} {need : Nat} (hneed : need = gobsOf d.len)
include hneed

/-- The payload of an inline descriptor is copied from its slot into its gobs; when one of them lies in no memory its fetch has failed. -/
theorem State.startPayload_inline (inl : d.inl = true) : q ∉ (s.startPayload q d).que.wait ∧
    ((∀ g ∈ (s.pbufTake need).1, s.gstMapped (s.gobAddr g) = true) →
      (s.startPayload q d).descs q = replaceDesc (s.descs q) { d with gobs := (s.pbufTake need).1, phase := .whole } ∧
      (s.startPayload q d).que.pbuf = s.pbufWith need) ∧
    ((∃ g ∈ (s.pbufTake need).1, s.gstMapped (s.gobAddr g) = false) → ∀ x ∈ (s.startPayload q d).descs q, x.id ≠ d.id) := by
  subst hneed
  have que := (s.allot_only q (gobsOf d.len)).que_eq
  have mapped := s.allot_mapped q (gobsOf d.len)
  have start : s.startPayload q d =
      let a := s.allot q (gobsOf d.len)
      let t := a.2.storeChain (a.2.qOrigin q 1) a.1 d.inlData
      if a.1.all (fun g => t.gstMapped (t.gobAddr g)) then t.setDescs q (replaceDesc (t.descs q) { d with gobs := a.1, phase := .whole })
      else t.fetchErr q { d with gobs := a.1, phase := .whole } := by
    rw [State.startPayload]
    exact if_pos inl
  have gobs := s.allot_gobs q (gobsOf d.len)
  generalize s.allot q (gobsOf d.len) = a at start que mapped gobs
  obtain ⟨gs, a⟩ := a
  dsimp only at start que mapped gobs
  have stored := a.storeChain_stored gs (a.qOrigin q 1) d.inlData
  generalize a.storeChain (a.qOrigin q 1) gs d.inlData = t at start stored
  have places : (fun g => t.gstMapped (t.gobAddr g)) = fun g => s.gstMapped (s.gobAddr g) :=
    funext fun g => (stored.mapped_eq g).trans (mapped g)
  replace que := stored.que.trans que
  rw [places] at start
  rw [start, ← gobs]
  have waits : q ∉ t.que.wait := by
    rw [que]
    simp
  have descs : t.descs q = s.descs q := by rw [State.descs, que, State.descs]
  split
  · rename_i all
    refine ⟨waits, fun _ => ⟨by rw [State.descs_setDescs, descs], congrArg Que.pbuf que⟩, fun ⟨g, hg, off⟩ => ?_⟩
    exact absurd (List.all_eq_true.mp all g hg) (by simp [off])
  · rename_i some_off
    refine ⟨?_, fun all => absurd (List.all_eq_true.mpr all) some_off, fun _ => ?_⟩
    · rw [State.fetchErr_eq, State.endDesc_wait]
      exact waits
    · rw [State.fetchErr_eq]
      exact State.endDesc_gone _ _ _ _

/-- The payload of any other descriptor is fetched into its gobs. -/
theorem State.startPayload_fetched (inl : d.inl = false) (len : d.len ≠ 0) (master : s.canMaster (s.qOwnerFn q) = true) :
    q ∉ (s.startPayload q d).que.wait ∧
    (s.upPort (s.qOwnerPt q) = none → ∀ x ∈ (s.startPayload q d).descs q, x.id ≠ d.id) ∧
    ∀ p, s.upPort (s.qOwnerPt q) = some p → ((s.startPayload q d).descs q).map (·.id) = (s.descs q).map (·.id) ∧
      ∀ x ∈ (s.startPayload q d).descs q, x.id = d.id → x.phase = .fetching ∧ x.gobs = (s.pbufTake need).1 := by
  subst hneed
  obtain ⟨size, start⟩ : ∃ size, s.startPayload q d = (s.allot q (gobsOf d.len)).2.issueReads q
      { d with gobs := (s.allot q (gobsOf d.len)).1, phase := .fetching, reads := splitReads 16384 0 0 d.len size } := by
    rw [State.startPayload]
    exact ⟨_, if_neg (by simp [inl])⟩
  have due := splitReads_unissued 16383 0 0 d.len size len
  generalize splitReads 16384 0 0 d.len size = rs at start due
  have only := s.allot_only q (gobsOf d.len)
  rw [s.allot_gobs] at start
  rw [start]
  have ctx : (s.allot q (gobsOf d.len)).2.rd (R.QCTX q 0) = s.rd (R.QCTX q 0) := by
    refine s.allot_rd q _ _ ?_ (qctx_words_apart q (by decide))
    simp only [R.QCTX, R.QUE_PBUFSTAT]
    omega
  generalize (s.allot q (gobsOf d.len)).2 = a at only ctx
  generalize (s.pbufTake (gobsOf d.len)).1 = gs
  have owner : a.qOwnerFn q = s.qOwnerFn q := congrArg (fieldOf · _ _) ctx
  have part : a.qOwnerPt q = s.qOwnerPt q := congrArg (fieldOf · _ _) ctx
  have port (pt : Nat) : a.upPort pt = s.upPort pt := by
    rw [State.upPort, State.portsOf, State.actIndices, only.act_eq, State.upPort, State.portsOf, State.actIndices]
  have waits : q ∉ a.que.wait := by
    rw [only.que_eq]
    simp
  have descs : a.descs q = s.descs q := by rw [State.descs, only.que_eq, State.descs]
  have may : a.canMaster (a.qOwnerFn q) = true := by
    rw [owner, State.canMaster, State.fn, only.prt_eq]
    exact master
  rw [← port, ← part, ← descs]
  cases up : a.upPort (a.qOwnerPt q) with
  | none =>
    rw [State.issueReads_down (d := { d with gobs := gs, phase := .fetching, reads := rs }) due may up, State.fetchErr_eq]
    refine ⟨?_, fun _ => State.endDesc_gone _ _ _ _, nofun⟩
    rw [State.endDesc_wait]
    exact waits
  | some p =>
    obtain ⟨wait, ids, fetching⟩ := State.issueReads_up (d := { d with gobs := gs, phase := .fetching, reads := rs }) due may up
    exact ⟨wait ▸ waits, nofun, fun _ _ => ⟨ids, fetching⟩⟩

end startPayload

/-! ### Fetches go on or start (R65, R66) -/

theorem exec_payloadFetchStart_resumes {s : State} {q : Fin 65536} {d : Desc} (resumes : (s.descs q.val).find? s.fetchResumes = some d)
    (runs : fetches (s.qstate q.val) = true) (goes : s.flt.stopped = false) : exec (.payloadFetchStart q) s = .next (s.issueReads q.val d) := by
  change execPayloadFetchStart q s = _
  rw [execPayloadFetchStart, resumes]
  exact congrArg Host.Outcome.next (if_pos (by simp [runs, goes]))

section payloadFetchStart
variable {s : State} {q : Fin 65536} {d : Desc} {need lim : Nat} (none_resumes : (s.descs q.val).find? s.fetchResumes = none)
  (oldest : (s.descs q.val).find? (fun d => d.phase == .waiting) = some d) (hneed : need = gobsOf d.len)
  (hlim : lim = s.get (R.QCTX q.val 0) F.QCTX_PBUF_MAX) (runs : fetches (s.qstate q.val) = true) (goes : s.flt.stopped = false)
  (within : lim = 0 ∨ s.get (R.QCTX q.val 3) F.QCTX_PBUF_USED + need ≤ lim)
include none_resumes oldest hneed hlim runs goes within

/-- A queue within its PBUF_MAX takes gobs or a place in the order of those that wait (R65). -/
theorem exec_payloadFetchStart_within : exec (.payloadFetchStart q) s =
    if s.pbufFree < need ∨ (s.que.wait ≠ [] ∧ s.que.wait.head? ≠ some q.val) then
      .next (if s.que.wait.contains q.val then s else { s with que := { s.que with wait := s.que.wait ++ [q.val] } })
    else if d.inl then .next (((s.gobTurn (s.gobRanges (s.pbufTake need).1 d.len)).map (fun s => s.startPayload q.val d)).getD s)
    else .next (if s.canMaster (s.qOwnerFn q.val) && decide (s.fetchEngines < 512) then s.startPayload q.val d else s) := by
  subst hneed hlim
  change execPayloadFetchStart q s = _
  rw [execPayloadFetchStart, none_resumes, oldest]
  refine (if_neg (by simp [runs, goes])).trans (if_neg fun beyond => ?_)
  exact within.elim beyond.1 (Nat.not_le.mpr beyond.2)

theorem exec_payloadFetchStart_short (short : s.pbufFree < need) :
    ∃ t, exec (.payloadFetchStart q) s = .next t ∧ q.val ∈ t.que.wait ∧ t.que.descs = s.que.descs := by
  refine ⟨_, (exec_payloadFetchStart_within none_resumes oldest hneed hlim runs goes within).trans (if_pos (Or.inl short)), ?_⟩
  split
  · rename_i waits
    exact ⟨List.contains_iff_mem.mp waits, rfl⟩
  · exact ⟨List.mem_append_right _ (List.mem_singleton.mpr rfl), rfl⟩

variable (enough : need ≤ s.pbufFree) (first : s.que.wait = [] ∨ s.que.wait.head? = some q.val)
include enough first

/-- With gobs enough and no queue before it, the payload starts. -/
theorem exec_payloadFetchStart_starts : exec (.payloadFetchStart q) s =
    if d.inl then .next (((s.gobTurn (s.gobRanges (s.pbufTake need).1 d.len)).map (fun s => s.startPayload q.val d)).getD s)
    else .next (if s.canMaster (s.qOwnerFn q.val) && decide (s.fetchEngines < 512) then s.startPayload q.val d else s) := by
  refine (exec_payloadFetchStart_within none_resumes oldest hneed hlim runs goes within).trans (if_neg fun waits => ?_)
  exact waits.elim (Nat.not_lt.mpr enough) fun behind => first.elim behind.1 behind.2

theorem exec_payloadFetchStart_turnless (inl : d.inl = true) (turnless : s.gobTurn (s.gobRanges (s.pbufTake need).1 d.len) = none) :
    exec (.payloadFetchStart q) s = .next s := by
  rw [exec_payloadFetchStart_starts none_resumes oldest hneed hlim runs goes within enough first, if_pos inl, turnless]
  rfl

theorem exec_payloadFetchStart_copies (inl : d.inl = true) (turn : s.gobTurn (s.gobRanges (s.pbufTake need).1 d.len) ≠ none) :
    ∃ t, exec (.payloadFetchStart q) s = .next t ∧
      q.val ∉ t.que.wait ∧ ((∀ g ∈ (s.pbufTake need).1, s.gstMapped (s.gobAddr g) = true) →
        t.descs q.val = replaceDesc (s.descs q.val) { d with gobs := (s.pbufTake need).1, phase := .whole } ∧
        t.que.pbuf = (s.pbufTake need).2.que.pbuf) ∧
      ((∃ g ∈ (s.pbufTake need).1, s.gstMapped (s.gobAddr g) = false) → ∀ x ∈ t.descs q.val, x.id ≠ d.id) := by
  obtain ⟨u, taken⟩ := Option.ne_none_iff_exists'.mp turn
  have run := exec_payloadFetchStart_starts none_resumes oldest hneed hlim runs goes within enough first
  rw [if_pos inl, taken] at run
  refine ⟨u.startPayload q.val d, run, ?_⟩
  obtain ⟨g, hu⟩ := State.gobTurn_gst taken
  rw [(s.pbufTake_only need).que_eq]
  have started := State.startPayload_inline (s := u) (q := q.val) hneed inl
  have gobs : (u.pbufTake need).1 = (s.pbufTake need).1 := by
    rw [hu]
    rfl
  have pbuf : u.pbufWith need = s.pbufWith need := by
    rw [State.pbufWith, gobs, hu, State.pbufWith]
  have places (g : Nat) : u.gstMapped (u.gobAddr g) = s.gstMapped (s.gobAddr g) := by
    rw [hu]
    rfl
  have descs : u.descs q.val = s.descs q.val := by
    rw [hu]
    rfl
  simpa only [gobs, pbuf, places, descs] using started

theorem exec_payloadFetchStart_fetches (inl : d.inl = false) (len : d.len ≠ 0) (master : s.canMaster (s.qOwnerFn q.val) = true)
    (engines : s.fetchEngines < 512) :
    ∃ t, exec (.payloadFetchStart q) s = .next t ∧ q.val ∉ t.que.wait ∧
      (s.upPort (s.qOwnerPt q.val) = none → ∀ x ∈ t.descs q.val, x.id ≠ d.id) ∧
      (∀ p, s.upPort (s.qOwnerPt q.val) = some p → (t.descs q.val).map (·.id) = (s.descs q.val).map (·.id) ∧
        ∀ x ∈ t.descs q.val, x.id = d.id → x.phase = .fetching ∧ x.gobs = (s.pbufTake need).1) := by
  have run := exec_payloadFetchStart_starts none_resumes oldest hneed hlim runs goes within enough first
  rw [if_neg (by simp [inl]), if_pos (by simp [master, engines])] at run
  exact ⟨_, run, State.startPayload_fetched hneed inl len master⟩

end payloadFetchStart

/-! ### Reads are answered (R66) -/

/-- A completion whose bytes lie in one gob is written there in one piece. -/
theorem State.fetchPieces_one (s : State) (g off : Nat) (bs : List Byte) (fits : off + bs.length ≤ 256) (some_byte : bs ≠ []) :
    s.fetchPieces [g] off bs = [(s.gobAddr g + off, bs)] := by
  have length := List.length_pos_iff.mpr some_byte
  have high : min 256 (off + bs.length) = off + bs.length := Nat.min_eq_right fits
  rw [State.fetchPieces, List.zipIdx_singleton, List.filterMap_cons_some (b := (s.gobAddr g + off, bs)), List.filterMap_nil]
  simp only [Nat.mul_zero, Nat.zero_add, Nat.zero_max, Nat.sub_zero, Nat.sub_self, List.drop_zero, high]
  rw [if_pos (by omega), Nat.add_sub_cancel_left, List.take_length]

section read
variable {s : State} {q : Fin 65536} {d r : Nat}

section known
variable {x : Desc} {y : FetchRead} (here : (s.descs q.val).find? (fun x => x.id == d) = some x)
  (out : x.reads.find? (fun y => y.no == r && y.issued) = some y)
include here

theorem desc_id : x.id = d := by simpa using List.find?_some here

include out

theorem exec_fetchReadCompletion_bad {st : CplStatus} {data : List Byte} {poison : Bool} (bad : st ≠ .sc ∨ poison = true) :
    ∃ t, exec (.fetchReadCompletion q d r st data poison) s = .next t ∧
      t = (s.fetchStatus (s.qOwnerFn q.val) st poison).fetchErr q.val { x with reads := x.reads.filter (fun z => z.no != r) } ∧
      ∀ z ∈ t.descs q.val, z.id ≠ d := by
  refine ⟨_, ?_, rfl, ?_⟩
  · change execFetchReadCompletion q d r st data poison s = _
    rw [execFetchReadCompletion, here]
    dsimp only
    rw [out]
    exact if_pos bad
  · rw [State.fetchErr_eq, ← desc_id here]
    exact State.endDesc_gone _ _ { x with reads := x.reads.filter (fun z => z.no != r) } _

/-- A good completion waits for its turn, then its bytes are written; with the last of them the payload is whole. -/
theorem exec_fetchReadCompletion_good (data : List Byte) : exec (.fetchReadCompletion q d r .sc data false) s =
    (s.gobTurn ((s.fetchPieces x.gobs y.off (data.take y.len)).map (fun e => (e.1, e.2.length)))).elim (.next s) fun u =>
      let t := (s.fetchPieces x.gobs y.off (data.take y.len)).foldl (fun s e => s.gstStore e.1 (s.qOrigin q.val 1) e.2) u
      let x := { x with reads := x.reads.filter (fun z => z.no != r) }
      if x.gobs.any (fun g => !t.gstMapped (t.gobAddr g)) then .next (t.fetchErr q.val x)
      else if x.reads.isEmpty then .next (t.setDescs q.val (replaceDesc (t.descs q.val) { x with phase := .whole }))
      else .next (t.issueReads q.val x) := by
  change execFetchReadCompletion q d r .sc data false s = _
  rw [execFetchReadCompletion, here]
  dsimp only
  rw [out]
  refine (if_neg (by simp)).trans ?_
  cases s.gobTurn ((s.fetchPieces x.gobs y.off (data.take y.len)).map (fun e => (e.1, e.2.length))) with
  | none => rfl
  | some u => rfl

theorem exec_fetchReadCompletion_last {data : List Byte}
    (turn : s.gobTurn ((s.fetchPieces x.gobs y.off (data.take y.len)).map (fun e => (e.1, e.2.length))) ≠ none) (clean : s.err = [])
    (placed : x.gobs.all (fun g => s.gstMapped (s.gobAddr g)) = true) (last : x.reads.filter (fun z => z.no != r) = []) :
    ∃ t, exec (.fetchReadCompletion q d r .sc data false) s = .next t ∧
      t.descs q.val = replaceDesc (s.descs q.val) { x with reads := [], phase := .whole } ∧
      (∀ g, x.gobs = [g] → y.off + (data.take y.len).length ≤ 256 → ∀ (i : Nat) (b : Byte), (data.take y.len)[i]? = some b →
        t.byte (s.gobAddr g + y.off + i) = b) := by
  obtain ⟨u, taken⟩ := Option.ne_none_iff_exists'.mp turn
  have run := exec_fetchReadCompletion_good here out data
  rw [taken, Option.elim_some] at run
  obtain ⟨g, hu⟩ := State.gobTurn_gst taken
  clear taken turn
  generalize pieces_eq : s.fetchPieces x.gobs y.off (data.take y.len) = pieces at run
  have stored : Stored u (pieces.foldl (fun s e => s.gstStore e.1 (s.qOrigin q.val 1) e.2) u) :=
    Stored.foldl _ _ (Stored.refl u) fun t e => t.gstStore_stored _ _ _
  generalize written : pieces.foldl (fun s e => s.gstStore e.1 (s.qOrigin q.val 1) e.2) u = t at run stored
  have places (g : Nat) : t.gstMapped (t.gobAddr g) = s.gstMapped (s.gobAddr g) := by
    rw [stored.mapped_eq, hu]
    rfl
  have descs : t.descs q.val = s.descs q.val := by
    rw [State.descs, stored.que, hu, State.descs]
  have all_placed : x.gobs.any (fun g => !t.gstMapped (t.gobAddr g)) = false := by
    simpa [places] using placed
  simp only [all_placed, last, descs] at run
  refine ⟨_, run, State.descs_setDescs _ _ _, fun h one fits i b there => ?_⟩
  have some_byte : data.take y.len ≠ [] := by
    rintro none_left
    rw [none_left] at there
    cases there
  rw [one, State.fetchPieces_one _ _ _ _ fits some_byte] at pieces_eq
  subst pieces_eq
  change t.byte _ = b
  rw [← written]
  exact State.byte_gstStore (s := u) (hu ▸ clean) _ _ _ there

theorem exec_fetchTimeout_known (on : (s.fnShared (s.qOwnerFn q.val)).ctoDis = false) : ∃ t, exec (.fetchTimeout q d r) s = .next t ∧
    t = (s.fnUncorr (s.qOwnerFn q.val) AB.TIMEOUT).fetchErr q.val { x with reads := x.reads.filter (fun z => z.no != r) } ∧
    ∀ z ∈ t.descs q.val, z.id ≠ d := by
  refine ⟨_, ?_, rfl, ?_⟩
  · have is_out : x.reads.any (fun y => y.no == r && y.issued) = true :=
      List.any_eq_true.mpr ⟨y, List.mem_of_find?_eq_some out, List.find?_some (p := fun y : FetchRead => y.no == r && y.issued) out⟩
    refine (if_neg (by simp [on])).trans ?_
    rw [here]
    exact if_pos is_out
  · rw [State.fetchErr_eq, ← desc_id here]
    exact State.endDesc_gone _ _ { x with reads := x.reads.filter (fun z => z.no != r) } _

end known

theorem exec_fetchTimeout_off (off : (s.fnShared (s.qOwnerFn q.val)).ctoDis = true) : exec (.fetchTimeout q d r) s = .next s :=
  if_pos off

section unknown
variable (unknown : (s.descs q.val).find? (fun x => x.id == d) = none)
include unknown

theorem exec_fetchTimeout_unknown (on : (s.fnShared (s.qOwnerFn q.val)).ctoDis = false) :
    exec (.fetchTimeout q d r) s = .next (s.tagBack (s.qOwnerFn q.val)) := by
  refine (if_neg (by simp [on])).trans ?_
  rw [unknown]

theorem exec_fetchReadCompletion_unknown (st : CplStatus) (data : List Byte) (poison : Bool) :
    exec (.fetchReadCompletion q d r st data poison) s =
      .next (if SMap.get s.prt.abandoned 0 (s.qOwnerFn q.val) = 0 then s.fnUncorr (s.qOwnerFn q.val) AB.UNEXPECTED
        else s.tagBack (s.qOwnerFn q.val)) := by
  change execFetchReadCompletion q d r st data poison s = _
  rw [execFetchReadCompletion, unknown]

end unknown

end read

/-- Settles O53, clause by clause: a doorbell, a fetch that goes on or starts, and the end of a read. -/
theorem descriptorsAreAcceptedAndTheirPayloadsFetched : Obligations.DescriptorsAreAcceptedAndTheirPayloadsFetched := by
  unfold Obligations.DescriptorsAreAcceptedAndTheirPayloadsFetched
  refine ⟨?_, fun s q d => exec_payloadFetchStart_resumes, ?_, ?_, ?_⟩
  · intro s o q start data full fn pt hfn hpt runs
    subst hpt
    refine ⟨exec_doorbellWrite_undecoded hfn runs, exec_doorbellWrite_disabled hfn runs,
      fun decodes on => exec_doorbellWrite_foreign hfn runs decodes on, fun decodes on owns =>
        ⟨exec_doorbellWrite_malformed hfn runs decodes on owns, fun ok unshut calm up =>
          ⟨exec_doorbellWrite_off hfn runs decodes on owns ok, exec_doorbellWrite_frozen hfn runs decodes on owns ok unshut calm up,
            fun active good slots room => ?_⟩⟩⟩
    refine ⟨s.accept q.val (s.doorbellDesc q.val data), s.doorbellDesc q.val data,
      exec_doorbellWrite_accepts hfn runs decodes on owns ok unshut calm up active good slots room,
      s.accept_descs _ _, rfl, rfl, rfl, rfl, rfl, rfl, rfl, rfl, fun inl => if_pos inl, ?_, s.accept_used _ _ room, s.accept_count _ _,
      s.accept_mem _ _, s.accept_descs_other _ _⟩
    rw [State.accept_que]
  · intro s q d need lim none_resumes oldest hneed hlim runs goes within
    refine ⟨exec_payloadFetchStart_short none_resumes oldest hneed hlim runs goes within, fun enough first => ⟨?_, ?_, ?_⟩⟩
    · exact exec_payloadFetchStart_turnless none_resumes oldest hneed hlim runs goes within enough first
    · exact exec_payloadFetchStart_copies none_resumes oldest hneed hlim runs goes within enough first
    · exact exec_payloadFetchStart_fetches none_resumes oldest hneed hlim runs goes within enough first
  · intro s q d r x y st data poison here out
    refine ⟨exec_fetchReadCompletion_bad here out, ?_, ?_, exec_fetchTimeout_off, exec_fetchTimeout_known here out⟩
    · rintro rfl rfl turnless
      rw [exec_fetchReadCompletion_good here out, turnless, Option.elim_none]
    · rintro rfl rfl
      exact exec_fetchReadCompletion_last here out
  · intro s q d r unknown
    refine ⟨exec_fetchTimeout_unknown unknown, fun st data poison => ⟨fun some_out => ?_, fun none_out => ?_⟩⟩
    · rw [exec_fetchReadCompletion_unknown unknown, if_neg some_out]
    · rw [exec_fetchReadCompletion_unknown unknown, if_pos none_out]

end Sys2Proof.Machine
end

section
/-!
PROOFS. A sampled instruction. The instruction of a core is a counted event when it retires (R377); when that event is sampled it also writes
a record, which counts toward the four of its beat (R383, R385). `CountsOnly` leaves that count out of what counting may change, so an
instruction that is sampled does not complete in the sense of `Completes`.
-/
namespace Sys2Proof.Machine

/-! ### Issuing an instruction (R187) -/

/-- An instruction outside a predicated range that completes retires, and its agent moves on. -/
theorem State.issue_next {s t : State} {ag : Agent} {insn : Nat} {f : State → IRes} (live : s.live ag = true)
    (uncovered : (s.agent ag).slots = []) (completed : f (s.begun ag) = .next t) :
    s.issue ag insn f = (t.retireInsn ag insn (s.agent ag).pc).complete1 ag := by
  unfold State.issue
  extract_lets x pc run begun
  have runs : run = true := by simp only [run, x, uncovered]
  have issued : f begun = .next t := completed
  simp [live, runs, issued, pc, x]

/-- While policing is disabled a meter answers red and counts BADREC (R104, R469). -/
theorem exec_tknTakeMeter_disabled {s : State} {ag : Agent} (rd ra rb rc : Fin 32) (pd : Fin 8) (ready : s.ready ag)
    (disabled : (s.begun ag).bit R.POL_CTL F.POL_CTL_ENABLE = false) :
    exec (.tknTakeMeter ⟨ag, 0⟩ rd ra rb rc pd) s = .next ((((s.begun ag).badRec.setColour ag rd.val pd.val 2).retireInsn ag
      (syl 0x19 rd.val ra.val rb.val rc.val + 2 * 2 ^ 26 + 2 ^ 28 + pd.val * 2 ^ 33) (s.agent ag).pc).complete1 ag) := by
  obtain ⟨live, uncovered, -⟩ := ready
  refine congrArg Host.Outcome.next ((if_pos rfl).trans (State.issue_next live uncovered (if_pos ?_)))
  simp [disabled]

/-- Moving on to the next instruction samples nothing. -/
theorem State.complete1_smpBeat (s : State) (c : Fin 32) : (s.complete1 (.core c)).smpBeat = s.smpBeat := rfl

theorem State.past_smpBeat (s : State) (ag : Agent) (f : Core → Core) : (s.past ag f).smpBeat = s.smpBeat := State.setAgent_smpBeat _ _ _

/-! ### The state that refutes the statement -/

/-- The module after reset with core 0 running, and counter 0 set to the instructions that retire, each of them sampled. -/
def samplingRetires : State :=
  (((State.reset.setCore 0 { run := .running }).put (R.TAL_SEL 0) F.TAL_SEL_CLASS 0x01).setBit (R.TAL_SEL 0) F.TAL_SEL_EN).setBit
    R.TAL_SMPCFG F.TAL_SMPCFG_EN

theorem samplingRetires_ready : samplingRetires.ready (.core 0) := by decide +kernel

/-- Core 0 has metered flow record 0 into g1 and p1 while policing is disabled, as it stands right after reset. -/
def meteredRed : State := (samplingRetires.begun (.core 0)).badRec.setColour (.core 0) (1 : Fin 32).val (1 : Fin 8).val 2

/-- That meter has retired. -/
def meterRetired : State :=
  meteredRed.retireInsn (.core 0) (syl 0x19 (1 : Fin 32).val (0 : Fin 32).val (0 : Fin 32).val (0 : Fin 32).val + 2 * 2 ^ 26 + 2 ^ 28 +
    (1 : Fin 8).val * 2 ^ 33) (samplingRetires.agent (.core 0)).pc

theorem exec_samplingRetires : exec (.tknTakeMeter ⟨.core 0, 0⟩ 1 0 0 0 1) samplingRetires = .next (meterRetired.complete1 (.core 0)) :=
  exec_tknTakeMeter_disabled _ _ _ _ _ samplingRetires_ready (by decide +kernel)

/-- Its retirement leaves the first sample record of the beat. -/
theorem meterRetired_smpBeat : meterRetired.smpBeat.2 = 1 := by
  rw [meterRetired, State.retireInsn, State.tally_eq_tallyOne (i := 0) _ (by decide +kernel) (by decide +kernel),
    State.tallyOne_eq_sampleWrite rfl (by decide +kernel) (by decide +kernel) (by decide +kernel) (by decide +kernel),
    State.sampleWrite_smpBeat _ _ (by decide +kernel) (by decide +kernel)]
  decide +kernel

/-- Refutes O16: its clause on a meter while ENABLE is clear says that the instruction changes nothing beside its effect but what
`CountsOnly` lets counting change; with retired instructions sampled, core 0's meter of flow record 0 also writes a sample record and so
moves the record count of the beat. -/
theorem not_tokenBucketsAndMetersFollowTheirRecords : ¬ Obligations.TokenBucketsAndMetersFollowTheirRecords := by
  unfold Obligations.TokenBucketsAndMetersFollowTheirRecords
  rintro ⟨-, meters⟩
  obtain ⟨disabled, -⟩ := meters samplingRetires (.core 0) 1 0 0 0 1 _ samplingRetires_ready rfl
  obtain ⟨t, run, counts⟩ := disabled (.inl (by decide +kernel))
  obtain rfl := Host.Outcome.next.inj (exec_samplingRetires.symm.trans run)
  have sampled : (meterRetired.complete1 (.core 0)).smpBeat = samplingRetires.smpBeat := counts.smpBeat_eq.trans (State.past_smpBeat _ _ _)
  rw [State.complete1_smpBeat] at sampled
  exact absurd (meterRetired_smpBeat.symm.trans (congrArg Prod.snd sampled)) (by decide +kernel)

end Sys2Proof.Machine
end

section
/-!
PROOFS. Tables by register command (R205 to R207): the words that a run of bytes holds, a run of registers that is written word by word, and
what the commands of JCK_TBLCMD do with an indexed entry on the die.
-/
namespace Sys2Proof.Machine

/-! ### Words in byte memory (R10) -/

theorem leValue_lt (bs : List Nat) : leValue bs < 2 ^ (8 * bs.length) := by
  induction bs with
  | nil => decide
  | cons b bs ih =>
    rw [leValue, List.length_cons, Nat.mul_succ, pow_add]
    omega

theorem bytesNat_lt {bs : List Byte} (h : bs.length ≤ 8) : bytesNat bs < 2 ^ 64 :=
  (leValue_lt _).trans_le (Nat.pow_le_pow_right (by decide) (by rw [List.length_map]; omega))

/-- The bytes of a value hold its low bits. -/
theorem leValue_leBytes_mod (v n : Nat) : leValue ((leBytes v n).map (·.toNat)) = v % 2 ^ (8 * n) := by
  induction n generalizing v with
  | zero => rw [Nat.mul_zero, pow_zero, Nat.mod_one]; rfl
  | succ n ih =>
    have byte : (BitVec.ofNat 8 (v % 256)).toNat % 256 = v % 256 := by simp
    change (BitVec.ofNat 8 (v % 256)).toNat % 256 + 256 * leValue ((leBytes (v / 256) n).map (·.toNat)) = _
    rw [byte, ih, Nat.mul_succ, Nat.add_comm (8 * n), pow_add, Nat.mod_mul]
    rfl

theorem bytesNat_leBytes (v : Nat) : bytesNat (leBytes v 8) = v % 2 ^ 64 := leValue_leBytes_mod v 8

/-- What is stored reads back. -/
theorem State.bytes_store (s : State) (a : Nat) (bs : List Byte) : (s.store a bs).bytes a bs.length = bs := by
  induction bs generalizing s a with
  | nil => rfl
  | cons b bs ih =>
    have head : (s.store a (b :: bs)).byte a = b := by
      rw [State.byte_store, dif_pos ⟨Nat.le_refl a, by simp⟩]
      simp
    have tail : s.store a (b :: bs) = (s.store a [b]).store (a + 1) bs := rfl
    rw [List.length_cons, State.bytes, head, tail, ih]

/-! ### Registers written word by word -/

/-- `n` words are written to a run of registers, as the commands of R106 and R207 return a record. -/
def State.wrWords (s : State) (r : Nat → RegRef) (v : Nat → Nat) (n : Nat) : State := (List.range n).foldl (fun s i => s.wr (r i) (v i)) s

/-- The words stand in the registers, and no other register has moved. -/
theorem State.wrWords_spec (s : State) (r : Nat → RegRef) (v : Nat → Nat) (apart : ∀ i j, i ≠ j → (r i).addr ≠ (r j).addr) (n : Nat) :
    Only ((List.range n).map r) s (s.wrWords r v n) ∧ ∀ i, i < n → (s.wrWords r v n).rd (r i) = v i % 2 ^ 64 := by
  induction n with
  | zero => exact ⟨⟨rfl, fun _ _ => rfl⟩, nofun⟩
  | succ n ih =>
    obtain ⟨only, words⟩ := ih
    have next : s.wrWords r v (n + 1) = (s.wrWords r v n).wr (r n) (v n) := by
      rw [State.wrWords, List.range_succ, List.foldl_append]
      rfl
    rw [next, List.range_succ, List.map_append]
    refine ⟨(only.mono fun _ => List.mem_append_left _).trans (Only.wr _ _ _ _ (by simp)), fun i hi => ?_⟩
    by_cases same : i = n
    · rw [same, State.rd_wr]
    · rw [State.rd_wr_other _ _ _ _ (apart _ _ same), words i (by omega)]

/-! ### Indexed entries on the die (R205, R206) -/

theorem recWord_entryWords (bs : List Byte) {k : Nat} (h : k < 4) : recWord (entryWords bs) k = bytesNat ((bs.drop (8 * k)).take 8) := by
  simp [recWord, entryWords, h]

theorem State.recWord_entry_lt (s : State) (d : Tbl) (i : Nat) {k : Nat} (h : k < 4) : recWord (s.entry d i) k < 2 ^ 64 := by
  rw [State.entry, recWord_entryWords _ h]
  exact bytesNat_lt (List.length_take_le _ _)

/-- An entry of an indexed table holds two words. -/
theorem entryWords_pair (v w : Nat) : entryWords (leBytes v 8 ++ leBytes w 8) = [v % 2 ^ 64, w % 2 ^ 64, 0, 0] := by
  have len (x : Nat) := leBytes_length x 8
  have first : (leBytes v 8 ++ leBytes w 8).take 8 = leBytes v 8 := List.take_left' (len v)
  have second : (leBytes v 8 ++ leBytes w 8).drop 8 = leBytes w 8 := List.drop_left' (len v)
  have rest {n : Nat} (h : 16 ≤ n) : (leBytes v 8 ++ leBytes w 8).drop n = [] :=
    List.drop_eq_nil_of_le (by rw [List.length_append, len, len]; exact h)
  change [bytesNat ((leBytes v 8 ++ leBytes w 8).take 8), bytesNat (((leBytes v 8 ++ leBytes w 8).drop 8).take 8),
    bytesNat (((leBytes v 8 ++ leBytes w 8).drop 16).take 8), bytesNat (((leBytes v 8 ++ leBytes w 8).drop 24).take 8)] = _
  rw [first, second, rest (by decide), rest (by decide), List.take_of_length_le (len w).le, bytesNat_leBytes, bytesNat_leBytes]
  rfl

section dieTable
variable {s : State} {d : Tbl} {i : Nat} (named : d = s.tbl false (s.get R.JCK_TBLSEL F.JCK_TBLSEL_TABLE)) (type : d.type = 1) (place : d.place = 0)
  (calm : s.bit (R.GAF_EPSTAT 1) F.GAF_EPSTAT_COMMIT_PEND = false)

include named place calm in
/-- A command on a table on the die needs no turn of the gather store. -/
theorem State.tblCmd_die (o : Nat) (reads : Bool) (f : State → Tbl → State) : s.tblCmd o reads f = (true, f s d) := by
  subst named
  simp [State.tblCmd, calm, place]

include type in
theorem Tbl.entrySize_indexed : d.entrySize = 16 := if_pos type

include type in
theorem State.tblNamed_indexed (index : i = s.get R.JCK_TBLSEL F.JCK_TBLSEL_INDEX) (inside : i < d.size) : s.tblNamed d = some (some i) := by
  subst index
  simp [State.tblNamed, type, inside]

include place in
/-- Outside direct-write mode an entry on the die is stored in the shadow bank alone. -/
theorem State.tblStore_die (o : Nat) (ws : List Nat) (shadow : bitOf (s.get R.GAF_DEBUG F.GAF_DEBUG_DIRECT) 1 = false) :
    s.tblStore d i o ws = (s.store (d.addr i) (ws.flatMap (fun w => leBytes w 8))).tblResult TR.OK := by
  have put : s.tblPut d i o ws = (true, s.store (d.addr i) (ws.flatMap (fun w => leBytes w 8))) := if_pos place
  rw [State.tblStore, put]
  exact if_neg (by rw [Bool.not_eq_true]; exact shadow)

theorem State.tblResult_get (s : State) {r : Nat} (h : r < 4) : (s.tblResult r).get R.JCK_TBLSEL F.JCK_TBLSEL_RESULT = r :=
  (State.get_put_same _ _ _ _ (by decide)).trans (Nat.mod_eq_of_lt h)

include type place in
/-- What a stored entry of an indexed table leaves: its two words, the result, and every other byte. -/
theorem State.tblStore_pair (o v w : Nat) (shadow : bitOf (s.get R.GAF_DEBUG F.GAF_DEBUG_DIRECT) 1 = false) :
    (s.tblStore d i o [v, w]).entry d i = [v % 2 ^ 64, w % 2 ^ 64, 0, 0] ∧
      (s.tblStore d i o [v, w]).get R.JCK_TBLSEL F.JCK_TBLSEL_RESULT = 0 ∧
      ∀ a, a < d.addr i ∨ d.addr i + 16 ≤ a → (s.tblStore d i o [v, w]).byte a = s.byte a := by
  have len : (leBytes v 8 ++ leBytes w 8).length = 16 := by rw [List.length_append, leBytes_length, leBytes_length]
  rw [State.tblStore_die place o _ shadow, show [v, w].flatMap (fun w => leBytes w 8) = leBytes v 8 ++ leBytes w 8 from rfl]
  generalize hu : s.store (d.addr i) (leBytes v 8 ++ leBytes w 8) = u
  refine ⟨?_, State.tblResult_get _ (by decide), fun a outside => ?_⟩
  · have bytes : u.bytes (d.addr i) 16 = leBytes v 8 ++ leBytes w 8 := by rw [← hu, ← len, State.bytes_store]
    rw [State.entry, Tbl.entrySize_indexed type, State.tblResult, State.bytes_congr (State.put_mem _ _ _ _), bytes, entryWords_pair]
  · have byte : u.byte a = s.byte a := by rw [← hu, State.byte_store, dif_neg (by omega)]
    rw [State.byte, State.tblResult, State.put_mem, ← State.byte, byte]

end dieTable

theorem exec_tblRead (o : Origin) (s : State) : exec (.tblRead o) s = .next (s.tblRead o.toNat).2 := rfl
theorem exec_tblWrite (o : Origin) (s : State) : exec (.tblWrite o) s = .next (s.tblWrite o.toNat).2 := rfl
theorem exec_tblDelete (o : Origin) (s : State) : exec (.tblDelete o) s = .next (s.tblDelete o.toNat).2 := rfl

theorem tbldata_apart (i j : Nat) (h : i ≠ j) : (R.JCK_TBLDATA i).addr ≠ (R.JCK_TBLDATA j).addr := by
  simp only [R.JCK_TBLDATA]
  omega
theorem tbldata_apart_sel (i : Nat) : (R.JCK_TBLDATA i).addr ≠ R.JCK_TBLSEL.addr := by
  simp only [R.JCK_TBLDATA, R.JCK_TBLSEL]
  omega

section tblCommands
variable {s : State} {d : Tbl} {i : Nat} (o : Origin) (named : d = s.tbl false (s.get R.JCK_TBLSEL F.JCK_TBLSEL_TABLE)) (type : d.type = 1)
  (place : d.place = 0) (calm : s.bit (R.GAF_EPSTAT 1) F.GAF_EPSTAT_COMMIT_PEND = false) (index : i = s.get R.JCK_TBLSEL F.JCK_TBLSEL_INDEX)
  (inside : i < d.size)
include named type place calm index inside

/-- OP 1 copies the entry of the index into JCK_TBLDATA (R207). -/
theorem exec_tblRead_indexed : ∃ t, exec (.tblRead o) s = .next t ∧ (∀ k, k < 4 → t.rd (R.JCK_TBLDATA k) = recWord (s.entry d i) k) ∧
    t.get R.JCK_TBLSEL F.JCK_TBLSEL_RESULT = 0 ∧ t.mem = s.mem := by
  obtain ⟨only, words⟩ := s.wrWords_spec R.JCK_TBLDATA (recWord (s.entry d i)) tbldata_apart 4
  have read : (s.tblRead o.toNat).2 = (s.wrWords R.JCK_TBLDATA (recWord (s.entry d i)) 4).tblResult TR.OK := by
    rw [State.tblRead, State.tblCmd_die named place calm]
    simp only [State.tblNamed_indexed type index inside, State.wrWords]
  refine ⟨_, (exec_tblRead o s).trans (congrArg _ read), fun k hk => ?_, State.tblResult_get _ (by decide), ?_⟩
  · rw [State.tblResult, State.rd_put_other _ _ _ _ _ (tbldata_apart_sel k), words k hk, Nat.mod_eq_of_lt (s.recWord_entry_lt d i hk)]
  · rw [State.tblResult, State.put_mem, only.mem_eq]

variable (shadow : bitOf (s.get R.GAF_DEBUG F.GAF_DEBUG_DIRECT) 1 = false)
include shadow

/-- OP 2 replaces the entry of the index by JCK_TBLDATA, in which an indexed entry has VALID beside its value (R205, R207). -/
theorem exec_tblWrite_indexed : ∃ t, exec (.tblWrite o) s = .next t ∧
    t.entry d i = [s.rd (R.JCK_TBLDATA 0) % 2 ^ 64, s.rd (R.JCK_TBLDATA 1) % 2, 0, 0] ∧ t.get R.JCK_TBLSEL F.JCK_TBLSEL_RESULT = 0 ∧
    ∀ a, a < d.addr i ∨ d.addr i + 16 ≤ a → t.byte a = s.byte a := by
  have write : (s.tblWrite o.toNat).2 = s.tblStore d i o.toNat [s.rd (R.JCK_TBLDATA 0), s.rd (R.JCK_TBLDATA 1) % 2] := by
    rw [State.tblWrite, State.tblCmd_die named place calm]
    simp only [State.tblNamed_indexed type index inside, State.tblData, type]
  obtain ⟨entry, result, outside⟩ := State.tblStore_pair (i := i) type place o.toNat (s.rd (R.JCK_TBLDATA 0)) (s.rd (R.JCK_TBLDATA 1) % 2) shadow
  exact ⟨_, (exec_tblWrite o s).trans (congrArg _ write), entry.trans (by rw [Nat.mod_eq_of_lt (a := _ % 2) (by omega)]), result, outside⟩

/-- OP 3 clears the entry of the index (R207). -/
theorem exec_tblDelete_indexed : ∃ t, exec (.tblDelete o) s = .next t ∧ t.entry d i = [0, 0, 0, 0] ∧
    t.get R.JCK_TBLSEL F.JCK_TBLSEL_RESULT = 0 ∧ ∀ a, a < d.addr i ∨ d.addr i + 16 ≤ a → t.byte a = s.byte a := by
  have delete : (s.tblDelete o.toNat).2 = s.tblStore d i o.toNat [0, 0] := by
    rw [State.tblDelete, State.tblCmd_die named place calm]
    simp only [State.tblNamed_indexed type index inside, Tbl.entrySize_indexed type]
    rfl
  obtain ⟨entry, result, outside⟩ := State.tblStore_pair (i := i) type place o.toNat 0 0 shadow
  exact ⟨_, (exec_tblDelete o s).trans (congrArg _ delete), entry, result, outside⟩

end tblCommands

end Sys2Proof.Machine
end

section
/-!
PROOFS. The policers' commands (R105, R106): a write to the gather store leaves the policers as they are, what a POL_FLOWCMD does with its
record, and the fill of a record that meters wait for.
-/
namespace Sys2Proof.Machine

/-! ### What a write to the gather store leaves (R111 to R120) -/

/-- `t` is `s` but for what a write to the gather store may change: the bytes and their errors, the registers and reports that tell of errors,
the tracker and the retirements, and counting. -/
structure StoreOnly (s t : State) : Prop where
  frame : { t with regs := s.regs, mem := s.mem, err := s.err, freeCtr := s.freeCtr, reports := s.reports, gst := s.gst, gaf := s.gaf,
                   smpSeen := s.smpSeen, smpBeat := s.smpBeat } = s

namespace StoreOnly

theorem refl (s : State) : StoreOnly s s := ⟨rfl⟩

variable {s t u : State}

theorem trans (h : StoreOnly s t) (k : StoreOnly t u) : StoreOnly s u :=
  ⟨(congrArg (fun x : State => { x with regs := s.regs, mem := s.mem, err := s.err, freeCtr := s.freeCtr, reports := s.reports, gst := s.gst,
                                        gaf := s.gaf, smpSeen := s.smpSeen, smpBeat := s.smpBeat }) k.frame).trans h.frame⟩

theorem counted (h : Counted s t) : StoreOnly s t :=
  ⟨(congrArg (fun x : State => { x with mem := s.mem, err := s.err, reports := s.reports, gst := s.gst }) h.1 :)⟩

theorem wr (h : StoreOnly s t) (r : RegRef) (v : Nat) : StoreOnly s (t.wr r v) := h.trans ⟨rfl⟩
theorem put (h : StoreOnly s t) (r : RegRef) (f : Fld) (v : Nat) : StoreOnly s (t.put r f v) := h.wr r _
theorem bump (h : StoreOnly s t) (r : RegRef) (f : Fld) (n : Nat) : StoreOnly s (t.bump r f n) := h.wr r _
theorem gst (h : StoreOnly s t) (g : Gst) : StoreOnly s { t with gst := g } := h.trans ⟨rfl⟩
theorem report (h : StoreOnly s t) (c k i o d a : Nat) : StoreOnly s (t.report c k i o d a) := h.trans ⟨rfl⟩
theorem event (h : StoreOnly s t) (b : Nat) : StoreOnly s (t.event b) :=
  h.trans ⟨(congrArg (fun x : State => { x with regs := t.regs, mem := t.mem, err := t.err, freeCtr := t.freeCtr, reports := t.reports,
                                                gst := t.gst, smpSeen := t.smpSeen, smpBeat := t.smpBeat }) (t.event_frame b) :)⟩
theorem store (h : StoreOnly s t) (a : Nat) (bs : List Byte) : StoreOnly s (t.store a bs) := h.trans ⟨rfl⟩
theorem setErr (h : StoreOnly s t) (w bits : Nat) (poison : Bool) : StoreOnly s (t.setErr w bits poison) := h.trans ⟨rfl⟩

theorem ite {p : Prop} [Decidable p] (h : StoreOnly s t) (k : StoreOnly s u) : StoreOnly s (if p then t else u) := by
  split
  · exact h
  · exact k

theorem pol_eq (h : StoreOnly s t) : t.pol = s.pol := (congrArg State.pol h.frame :)

end StoreOnly

theorem State.retireBlock_storeOnly (s : State) (b : Nat) : StoreOnly s (s.retireBlock b) := by
  unfold State.retireBlock
  split
  · exact StoreOnly.refl s
  · dsimp only
    split
    · exact (StoreOnly.refl s).gst _
    · exact (((StoreOnly.refl s).bump _ _ _).report _ _ _ _ _ _).event _

theorem State.eccEvent_storeOnly (s : State) (d : Decoded) (a origin : Nat) (scrub : Bool) : StoreOnly s (s.eccEvent d a origin scrub) := by
  unfold State.eccEvent
  extract_lets log b
  have logged (t : State) (w : Nat) (poison : Bool) : StoreOnly t (log t w poison) :=
    StoreOnly.ite ((StoreOnly.refl t).put _ _ _) (((StoreOnly.refl t).wr _ _).put _ _ _)
  have stat (f : Fld) (w : Nat) (poison : Bool) : StoreOnly s (log (s.bump R.GST_ECCSTAT f 1) w poison) :=
    ((StoreOnly.refl s).bump _ _ _).trans (logged _ _ _)
  clear_value log
  have retire {t : State} {p : Prop} [Decidable p] (h : StoreOnly s t) : StoreOnly s (if p then t.retireBlock b else t) :=
    .ite (h.trans (t.retireBlock_storeOnly b)) h
  cases d with
  | clean => exact StoreOnly.refl s
  | corr1 => exact retire ((stat F.GST_ECCSTAT_CE1 1 false).gst _)
  | corr2 => exact retire ((stat F.GST_ECCSTAT_CE2 2 false).gst _)
  | ue => exact retire ((stat F.GST_ECCSTAT_UE 3 false).report _ _ _ _ _ _)
  | poison => exact stat _ _ _

theorem State.passed_storeOnly (s : State) (e : Nat × Nat × Bool) (d : Decoded) : StoreOnly s (s.passed e d) :=
  StoreOnly.ite ⟨rfl⟩ (StoreOnly.refl s)

theorem State.gstStore_storeOnly (s : State) (a origin : Nat) (bs : List Byte) : StoreOnly s (s.gstStore a origin bs) := by
  unfold State.gstStore State.gstStore'
  extract_lets n
  split
  · exact StoreOnly.refl s
  · split
    rename_i ok u folded
    have merged : StoreOnly s (ok, u).2 := by
      rw [← folded]
      refine List.foldlRecOn (motive := fun acc : Bool × State => StoreOnly s acc.2) _ _ (.counted (s.gstBurst_counted _ _ _))
        fun acc hacc e _ => ?_
      dsimp only
      split
      · exact hacc.setErr _ _ _
      · have decoded := (hacc.trans (acc.2.eccEvent_storeOnly (acc.2.decoded e) (8 * e.1) origin false)).trans
          (State.passed_storeOnly _ e (acc.2.decoded e))
        exact (StoreOnly.ite (decoded.report _ _ _ _ _ _) decoded).setErr _ _ _
    exact StoreOnly.ite ((merged.store a bs).gst _) (merged.store a bs)

theorem State.flowWriteBack_storeOnly (s : State) (l : FlowLine) (origin : Nat) : StoreOnly s (s.flowWriteBack l origin) :=
  StoreOnly.ite (s.gstStore_storeOnly _ _ _) ((StoreOnly.refl s).report _ _ _ _ _ _)

/-! ### The turn of the policers (R120) -/

/-- The turn of the policers moves the record of turns only. -/
theorem State.flowTurn_gst {s t : State} {rs : List (Nat × Nat)} (h : s.flowTurn rs = some t) : ∃ g, t = { s with gst := g } := by
  unfold State.flowTurn at h
  split at h
  · exact ⟨s.gst, (Option.some.inj h).symm⟩
  · split at h
    · exact State.gstTurn_gst h
    · cases h

theorem State.flowTurn_pol {s t : State} {rs : List (Nat × Nat)} (h : s.flowTurn rs = some t) : t.pol = s.pol := by
  obtain ⟨g, rfl⟩ := State.flowTurn_gst h
  rfl

theorem State.flowTurn_nil (s : State) : s.flowTurn [] = some s := rfl

/-! ### POL_FLOWCMD (R106) -/

theorem exec_flowRead (o : Origin) (s : State) : exec (.flowRead o) s = .next (s.flowCommand 1 o.toNat) := rfl
theorem exec_flowWrite (o : Origin) (s : State) : exec (.flowWrite o) s = .next (s.flowCommand 2 o.toNat) := rfl
theorem exec_flowWriteback (o : Origin) (s : State) : exec (.flowWriteback o) s = .next (s.flowCommand 3 o.toNat) := rfl

/-- The words in POL_FLOWDATA. -/
def State.flowData (s : State) : List Nat := (List.range 8).map (fun i => s.rd (R.POL_FLOWDATA i))

/-- While a command is being applied another is refused. -/
theorem State.flowCommand_busy {s : State} (op o : Nat) (busy : s.pol.cmd ≠ none) :
    s.flowCommand op o = s.setBit R.POL_STATUS F.POL_STATUS_CFG_REFUSED := if_pos (Option.isSome_iff_ne_none.mpr busy)

section flow
variable {s : State} (idle : s.pol.cmd = none)
include idle

/-- A command that no meter is before, and that the gather store can carry out, is applied at once. -/
theorem State.flowCommand_applied {op o : Nat} {t : State}
    (first : op = 3 ∨ ∀ w ∈ s.pol.filling, w.idx ≠ s.get R.POL_FLOWSEL F.POL_FLOWSEL_RECORD)
    (applied : s.flowApply ⟨op, s.get R.POL_FLOWSEL F.POL_FLOWSEL_RECORD, o, 0, s.flowData⟩ = some t) : s.flowCommand op o = t := by
  have ahead : (if op = 3 then 0 else (s.pol.filling.filter (fun w => w.idx == s.get R.POL_FLOWSEL F.POL_FLOWSEL_RECORD)).length) = 0 := by
    split
    · rfl
    · rename_i other
      rw [List.length_eq_zero_iff, List.filter_eq_nil_iff]
      intro w hw
      simpa using first.resolve_left other w hw
  unfold State.flowData at applied
  simp [State.flowCommand, idle, ahead, applied]

/-- A command on a record that meters wait for waits behind them. -/
theorem State.flowCommand_waits {op o : Nat} (record : op ≠ 3)
    (waited : ∃ w ∈ s.pol.filling, w.idx = s.get R.POL_FLOWSEL F.POL_FLOWSEL_RECORD) :
    ∃ c : FlowCmd, s.flowCommand op o = { s with pol := { s.pol with cmd := some c } }.setBit R.POL_STATUS F.POL_STATUS_CMD_BUSY ∧
      c.words = s.flowData := by
  obtain ⟨w, hw, same⟩ := waited
  have ahead : (s.pol.filling.filter (fun w => w.idx == s.get R.POL_FLOWSEL F.POL_FLOWSEL_RECORD)).length ≠ 0 := by
    rw [Ne, List.length_eq_zero_iff, List.filter_eq_nil_iff]
    exact fun none => none w hw (by simp [same])
  refine ⟨_, (if_neg (by simp [idle])).trans (if_neg ?_), rfl⟩
  rwa [if_neg record]

end flow

section record
variable {s : State} {c : FlowCmd} (mapped : s.gstMapped (s.flowAddr c.idx) = true)
include mapped

/-- OP 1 of a cached record takes no turn. -/
theorem State.flowApply_read_cached {l : FlowLine} (op : c.op = 1) (cached : s.flowFind c.idx = some l) (room : s.flowVictim c.idx = none) :
    s.flowApply c = some (s.putFlow l.words) := by
  have ranges : s.flowRanges c.idx true = [] := by simp [State.flowRanges, cached, room]
  simp [State.flowApply, op, mapped, ranges, State.flowTurn_nil, cached]

/-- OP 2 puts its words into the cache in its turn. -/
theorem State.flowApply_write (op : c.op = 2) : s.flowApply c =
    (s.flowTurn (s.flowRanges c.idx false)).map (fun u => u.flowPut ⟨c.idx, c.words, true⟩ c.origin) := by
  simp [State.flowApply, op, mapped]

end record

/-- Nothing leaves an empty cache. -/
theorem State.flowPut_empty {s : State} (empty : s.pol.cache = []) (l : FlowLine) (o : Nat) :
    s.flowPut l o = { s with pol := { s.pol with cache := [l] } } ∧ s.flowRanges l.idx false = [] := by
  have room : s.flowVictim l.idx = none := by simp [State.flowVictim, empty]
  exact ⟨by simp [State.flowPut, room, empty], by simp [State.flowRanges, room]⟩

/-- OP 3 cleans every record and keeps it cached. -/
theorem State.flowFlush_cache (s : State) (origin : Nat) :
    (s.flowFlush origin).pol.cache = s.pol.cache.map (fun l => { l with dirty := false }) := by
  have written : StoreOnly s ((s.pol.cache.filter (·.dirty)).foldl (fun s l => s.flowWriteBack l origin) s) :=
    List.foldlRecOn (motive := StoreOnly s) _ _ (.refl s) fun t ht l _ => ht.trans (t.flowWriteBack_storeOnly l origin)
  rw [State.flowFlush]
  simp only [written.pol_eq]

theorem flowdata_apart (i j : Nat) (h : i ≠ j) : (R.POL_FLOWDATA i).addr ≠ (R.POL_FLOWDATA j).addr := by
  simp only [R.POL_FLOWDATA]
  omega

theorem State.putFlow_eq (s : State) (ws : List Nat) : s.putFlow ws = s.wrWords R.POL_FLOWDATA (recWord ws) 8 := rfl

theorem Only.pol_eq {rs : List RegRef} {s t : State} (h : Only rs s t) : t.pol = s.pol := (congrArg State.pol h.1 :)

section commands
variable {s : State} (o : Origin) {f : Nat} (record : f = s.get R.POL_FLOWSEL F.POL_FLOWSEL_RECORD) (idle : s.pol.cmd = none)

section mapped
variable (mapped : s.gstMapped (s.flowAddr f) = true)
include record idle

section first
variable (first : ∀ w ∈ s.pol.filling, w.idx ≠ f)
include mapped first

theorem exec_flowRead_cached {l : FlowLine} (cached : s.flowFind f = some l) (room : s.flowVictim f = none)
    (words : ∀ i, i < 8 → recWord l.words i < 2 ^ 64) : ∃ t, exec (.flowRead o) s = .next t ∧
      (∀ i, i < 8 → t.rd (R.POL_FLOWDATA i) = recWord l.words i) ∧ t.pol = s.pol ∧ t.mem = s.mem := by
  subst record
  obtain ⟨only, read⟩ := s.wrWords_spec R.POL_FLOWDATA (recWord l.words) flowdata_apart 8
  have applied := State.flowApply_read_cached (c := ⟨1, _, o.toNat, 0, s.flowData⟩) mapped rfl cached room
  refine ⟨_, (exec_flowRead o s).trans (congrArg _ (State.flowCommand_applied idle (.inr first) applied)), fun i hi => ?_, ?_, ?_⟩
  · rw [State.putFlow_eq, read i hi, Nat.mod_eq_of_lt (words i hi)]
  · rw [State.putFlow_eq, only.pol_eq]
  · rw [State.putFlow_eq, only.mem_eq]

theorem exec_flowWrite_turn {u : State} (turn : s.flowTurn (s.flowRanges f false) = some u) :
    exec (.flowWrite o) s = .next (u.flowPut ⟨f, s.flowData, true⟩ o.toNat) := by
  subst record
  refine (exec_flowWrite o s).trans (congrArg _ (State.flowCommand_applied idle (.inr first) ?_))
  rw [State.flowApply_write mapped rfl, turn]
  rfl

theorem exec_flowWrite_empty (empty : s.pol.cache = []) : ∃ t, exec (.flowWrite o) s = .next t ∧
    t.flowFind f = some ⟨f, s.flowData, true⟩ ∧ t.regs = s.regs ∧ t.mem = s.mem := by
  obtain ⟨put, ranges⟩ := State.flowPut_empty empty ⟨f, s.flowData, true⟩ o.toNat
  have turn : s.flowTurn (s.flowRanges f false) = some s := by rw [ranges, State.flowTurn_nil]
  refine ⟨_, (exec_flowWrite_turn o record idle mapped first turn).trans (congrArg _ put), ?_, rfl, rfl⟩
  simp [State.flowFind]

end first

theorem exec_flowWrite_waits (waited : ∃ w ∈ s.pol.filling, w.idx = f) : ∃ t c, exec (.flowWrite o) s = .next t ∧
    t.pol = { s.pol with cmd := some c } ∧ c.words = s.flowData ∧ Only [R.POL_STATUS] { s with pol := t.pol } t ∧
    t.bit R.POL_STATUS F.POL_STATUS_CMD_BUSY = true := by
  subst record
  obtain ⟨c, later, words⟩ := State.flowCommand_waits (op := 2) (o := o.toNat) idle (by decide) waited
  exact ⟨_, c, (exec_flowWrite o s).trans (congrArg _ later), rfl, words, Only.put _ _ _ _ _ (List.mem_singleton_self _),
    State.bit_setBit _ _ _ (by decide) rfl⟩

end mapped

include idle in
theorem exec_flowWriteback_turn {u : State} (turn : s.flowTurn s.dirtyRanges = some u) : ∃ t, exec (.flowWriteback o) s = .next t ∧
    (∀ l ∈ t.pol.cache, l.dirty = false) ∧ t.pol.cache.map (fun l => (l.idx, l.words)) = s.pol.cache.map (fun l => (l.idx, l.words)) := by
  have applied : s.flowApply ⟨3, s.get R.POL_FLOWSEL F.POL_FLOWSEL_RECORD, o.toNat, 0, s.flowData⟩ = some (u.flowFlush o.toNat) :=
    (if_pos rfl).trans (by rw [turn]; rfl)
  refine ⟨_, (exec_flowWriteback o s).trans (congrArg _ (State.flowCommand_applied idle (.inl rfl) applied)), ?_, ?_⟩
  · rw [State.flowFlush_cache]
    intro l hl
    obtain ⟨x, -, rfl⟩ := List.mem_map.mp hl
    rfl
  · rw [State.flowFlush_cache, List.map_map, State.flowTurn_pol turn]
    rfl

end commands

/-! ### FLOW_CACHE_FILL (R105) -/

section fill
variable {s u v : State} {f : Nat} {w : MeterWait} {r : Option (List Nat) × State}

/-- A record that is not cached is read for the one meter that waits for it, which gets its colour, or red if the record cannot be read. -/
theorem State.fillMeters_one (turn : s.flowTurn (s.flowRanges f true) = some u) (only : s.pol.filling = [w]) (uncached : s.flowFind f = none)
    (hv : v = { u with pol := { u.pol with filling := [] } }) (hr : r = v.flowFill f (v.agentOrigin (agentOfNo w.lane))) :
    s.fillMeters f [w] = some (r.1.elim (r.2.meterDone w 2) fun _ => r.2.meterWaited w) := by
  have pol := State.flowTurn_pol turn
  have left : u.pol.filling.filter (fun x => !([w] : List MeterWait).contains x) = [] := by simp [pol, only]
  have missing : (v.flowFind f).isSome = false := by
    have same : v.flowFind f = s.flowFind f := by rw [State.flowFind, hv, pol, State.flowFind]
    rw [same, uncached, Option.isSome_none]
  rw [State.fillMeters, turn, Option.map_some, left, ← hv]
  refine congrArg some ((if_neg (by simp [missing])).trans ?_)
  rw [← hr]
  obtain ⟨_ | ws, t⟩ := r
  · rfl
  · rfl

theorem exec_flowCacheFill_one {f : BitVec 20} (idle : s.pol.cmd = none) (only : s.pol.filling = [w]) (record : w.idx = f.toNat)
    {t : State} (filled : s.fillMeters f.toNat [w] = some t) : exec (.flowCacheFill f []) s = .next t := by
  have waiting : s.pol.filling.filter (fun w => w.idx == f.toNat) = [w] := by simp [only, record]
  change execFlowCacheFill f [] s = _
  simp [execFlowCacheFill, idle, waiting, State.flip, filled]

end fill

/-! ### The obligation -/

/-- Settles O40, command by command: an indexed entry on the die is read, written and cleared in its place, a POL_FLOWCMD is refused, waits or is
applied in its turn, and the fill of a record serves the meter that waits for it. -/
theorem tableAndFlowCommandsReadAndWrite : Obligations.TableAndFlowCommandsReadAndWrite := by
  unfold Obligations.TableAndFlowCommandsReadAndWrite
  refine ⟨?_, ?_, ?_, fun s u o idle => exec_flowWriteback_turn o idle, ?_⟩
  · intro s o d i named type place calm index inside shadow
    exact ⟨exec_tblRead_indexed o named type place calm index inside, exec_tblWrite_indexed o named type place calm index inside shadow,
      exec_tblDelete_indexed o named type place calm index inside shadow⟩
  · rintro s o f _ record idle rfl mapped
    exact ⟨fun first => ⟨fun l => exec_flowRead_cached o record idle mapped first, fun u => exec_flowWrite_turn o record idle mapped first,
      exec_flowWrite_empty o record idle mapped first⟩, exec_flowWrite_waits o record idle⟩
  · intro s o busy i hi
    simp only [List.mem_cons, List.not_mem_nil, or_false] at hi
    rcases hi with rfl | rfl | rfl
    · exact congrArg _ (State.flowCommand_busy 1 o.toNat busy)
    · exact congrArg _ (State.flowCommand_busy 2 o.toNat busy)
    · exact congrArg _ (State.flowCommand_busy 3 o.toNat busy)
  · intro s u v f w r idle only record uncached turn hv hr
    have filled := State.fillMeters_one turn only uncached hv hr
    refine ⟨fun ws good => ?_, fun bad => ?_⟩
    · exact (exec_flowCacheFill_one idle only record filled).trans (by rw [good]; rfl)
    · exact (exec_flowCacheFill_one idle only record filled).trans (by rw [bad]; rfl)

end Sys2Proof.Machine
end

section
/-!
PROOFS. The scheduler (R88 to R97): two's complement of buckets and credits, what selecting and charging leave as they were, the decision of a
pipeline, and the refill tick.
-/
namespace Sys2Proof.Machine

/-! ### Two's complement -/

theorem signedOf_bounds (v w : Nat) : -2 ^ w ≤ signedOf v (w + 1) ∧ signedOf v (w + 1) < 2 ^ w := by
  have small := Nat.mod_lt v (Nat.two_pow_pos (w + 1))
  unfold signedOf
  dsimp only
  generalize v % 2 ^ (w + 1) = u at small
  rw [pow_succ] at *
  generalize hN : 2 ^ w = N at *
  have hZ : (2 : Int) ^ w = N := by rw [← hN, Nat.cast_pow]; rfl
  rw [hZ]
  split <;> omega

/-- An integer that fits reads back from its pattern. -/
theorem signedOf_patternOf {x : Int} {w : Nat} (low : -2 ^ w ≤ x) (high : x < 2 ^ w) : signedOf (patternOf x (w + 1)) (w + 1) = x := by
  unfold signedOf patternOf
  dsimp only
  rw [pow_succ]
  generalize hN : 2 ^ w = N at *
  have hZ : (2 : Int) ^ w = N := by rw [← hN, Nat.cast_pow]; rfl
  rw [hZ] at low high
  have pattern : (x % ((N * 2 : Nat) : Int)).toNat = if 0 ≤ x then x.toNat else (x + (N * 2 : Nat)).toNat := by
    split
    · rw [Int.emod_eq_of_lt (by omega) (by omega)]
    · rw [← Int.add_emod_right, Int.emod_eq_of_lt (by omega) (by omega)]
  have small : (x % ((N * 2 : Nat) : Int)).toNat < N * 2 := by
    rw [pattern]
    split <;> omega
  rw [Nat.mod_eq_of_lt small, pattern]
  split <;> split <;> omega

/-! ### Buckets and port credits (R94, R96) -/

theorem bucket_apart {n m : Nat} (h : n ≠ m) : (R.SCH_BUCKET n).addr ≠ (R.SCH_BUCKET m).addr := by
  simp only [R.SCH_BUCKET]
  omega
theorem shape_apart_bucket {n : Nat} (hn : n < nodeCount) (m : Nat) : (R.SCH_SHAPE n).addr ≠ (R.SCH_BUCKET m).addr := by
  simp only [R.SCH_SHAPE, R.SCH_BUCKET, nodeCount] at *
  omega
theorem portcr_apart_bucket {n : Nat} (hn : n < nodeCount) (p : Nat) : (R.SCH_PORTCR p).addr ≠ (R.SCH_BUCKET n).addr := by
  simp only [R.SCH_PORTCR, R.SCH_BUCKET, nodeCount] at *
  omega

theorem State.bucket_bounds (s : State) (n : Nat) : -2 ^ 39 ≤ s.bucket n ∧ s.bucket n < 2 ^ 39 := signedOf_bounds _ 39
theorem State.portCredit_bounds (s : State) (p : Nat) : -2 ^ 17 ≤ s.portCredit p ∧ s.portCredit p < 2 ^ 17 := signedOf_bounds _ 17

theorem State.bucket_setBucket (s : State) (n : Nat) {b : Int} (low : -2 ^ 39 ≤ b) (high : b < 2 ^ 39) : (s.setBucket n b).bucket n = b := by
  rw [State.bucket, State.setBucket, State.get_put_same _ _ _ _ (by decide)]
  have small : patternOf b 40 % 2 ^ 40 = patternOf b 40 := by
    refine Nat.mod_eq_of_lt ?_
    unfold patternOf
    omega
  rw [show F.SCH_BUCKET_B.w = 40 from rfl, small]
  exact signedOf_patternOf low high

theorem State.portCredit_setPortCredit (s : State) (p : Nat) {c : Int} (low : -2 ^ 17 ≤ c) (high : c < 2 ^ 17) :
    (s.setPortCredit p c).portCredit p = c := by
  rw [State.portCredit, State.setPortCredit, State.get_put_same _ _ _ _ (by decide)]
  have small : patternOf c 18 % 2 ^ 18 = patternOf c 18 := by
    refine Nat.mod_eq_of_lt ?_
    unfold patternOf
    omega
  rw [show F.SCH_PORTCR_CR.w = 18 from rfl, small]
  exact signedOf_patternOf low high

theorem State.bucket_congr {s t : State} {n : Nat} (same : t.rd (R.SCH_BUCKET n) = s.rd (R.SCH_BUCKET n)) : t.bucket n = s.bucket n := by
  rw [State.bucket, State.get, same, State.bucket, State.get]

theorem State.portCredit_congr {s t : State} {p : Nat} (same : t.rd (R.SCH_PORTCR p) = s.rd (R.SCH_PORTCR p)) :
    t.portCredit p = s.portCredit p := by
  rw [State.portCredit, State.get, same, State.portCredit, State.get]

/-! ### The refill tick (R96, R97) -/

theorem State.rdAct_intoForce (s : State) (lo hi : Nat) {r : RegRef} (inside : lo ≤ r.addr ∧ r.addr < hi) :
    (s.intoForce lo hi).rdAct r = s.rd r := by
  obtain ⟨low, high⟩ := inside
  have act : (s.intoForce lo hi).act = overlay (fun a => decide (lo ≤ a) && decide (a < hi)) s.regs s.act := rfl
  rw [State.rdAct, act, get_overlay, if_pos (by simp [low, high]), State.rd]

/-- The level of a bucket after a refill: RATE is added, up to BURST. -/
def State.refilledBucket (s : State) (n : Nat) : Int :=
  min (s.bucket n + (s.getAct (R.SCH_SHAPE n) F.SCH_SHAPE_RATE : Nat)) (s.getAct (R.SCH_SHAPE n) F.SCH_SHAPE_BURST : Nat)

theorem State.refilledBucket_bounds (s : State) (n : Nat) : -2 ^ 39 ≤ s.refilledBucket n ∧ s.refilledBucket n < 2 ^ 39 := by
  have bucket := s.bucket_bounds n
  have burst : s.getAct (R.SCH_SHAPE n) F.SCH_SHAPE_BURST < 2 ^ 32 := Nat.mod_lt _ (by decide)
  unfold State.refilledBucket
  omega

theorem State.refilledBucket_congr {s t : State} {n : Nat} (act : t.act = s.act) (same : t.rd (R.SCH_BUCKET n) = s.rd (R.SCH_BUCKET n)) :
    t.refilledBucket n = s.refilledBucket n := by
  rw [State.refilledBucket, State.getAct, State.getAct, State.rdAct, act, State.bucket_congr same]
  rfl

/-- The buckets of a list of nodes are refilled. -/
def State.refillNodes (s : State) (l : List Nat) : State := l.foldl (fun s n => s.setBucket n (s.refilledBucket n)) s

/-- Each bucket of the list is refilled once, and no other register moves. -/
theorem State.refillNodes_spec (s : State) (l : List Nat) (once : l.Nodup) :
    Only (l.map R.SCH_BUCKET) s (s.refillNodes l) ∧ ∀ n ∈ l, (s.refillNodes l).bucket n = s.refilledBucket n := by
  induction l using List.reverseRecOn with
  | nil => exact ⟨⟨rfl, fun _ _ => rfl⟩, nofun⟩
  | append_singleton l m ih =>
    obtain ⟨before, -, fresh⟩ := List.nodup_append.mp once
    obtain ⟨only, each⟩ := ih before
    have last : s.refillNodes (l ++ [m]) = (s.refillNodes l).setBucket m ((s.refillNodes l).refilledBucket m) := by
      rw [State.refillNodes, List.foldl_append]
      rfl
    rw [last]
    generalize s.refillNodes l = t at only each
    refine ⟨?_, fun n hn => ?_⟩
    · rw [List.map_append]
      exact (only.mono fun _ => List.mem_append_left _).trans (Only.put _ _ _ _ _ (by simp))
    · obtain ⟨low, high⟩ := t.refilledBucket_bounds m
      by_cases same : n = m
      · subst same
        rw [State.bucket_setBucket _ _ low high]
        refine State.refilledBucket_congr only.act_eq (only.2 _ fun x hx => ?_)
        obtain ⟨k, hk, rfl⟩ := List.mem_map.mp hx
        exact bucket_apart fun e => fresh k hk n (by simp) e.symm
      · have old : n ∈ l := by simpa [same] using hn
        rw [← each n old]
        exact State.bucket_congr (State.rd_put_other _ _ _ _ _ (bucket_apart same))

/-- SCH_SHAPE has taken effect. -/
def State.shapesInForce (s : State) : State := s.intoForce 0x1840000 (0x1840000 + 8 * nodeCount)

theorem exec_refillTick (s : State) : exec .refillTick s = .next (s.shapesInForce.refillNodes s.shapesInForce.shapedNodes) := rfl

theorem State.rdAct_shapesInForce (s : State) {n : Nat} (hn : n < nodeCount) : s.shapesInForce.rdAct (R.SCH_SHAPE n) = s.rd (R.SCH_SHAPE n) :=
  s.rdAct_intoForce _ _ (by simp only [R.SCH_SHAPE]; omega)

theorem State.shapedNodes_nodup (s : State) : s.shapedNodes.Nodup := List.nodup_range.filter _

/-- A node that the tick leaves out has its shape and its bucket at reset, where a refill changes nothing. -/
theorem State.refilledBucket_unshaped {s : State} {n : Nat} (hn : n < nodeCount) (out : n ∉ s.shapedNodes) : s.refilledBucket n = s.bucket n := by
  have rest : s.rdAct (R.SCH_SHAPE n) = 0 ∧ s.rd (R.SCH_BUCKET n) = 0 := by
    simpa [State.shapedNodes, hn] using out
  obtain ⟨shape, bucket⟩ := rest
  rw [State.refilledBucket, State.getAct, State.getAct, State.bucket, State.get, shape, bucket]
  rfl

/-- A refill tick, as it shows at each node. -/
theorem exec_refillTick_nodes (s : State) : ∃ t, exec .refillTick s = .next t ∧ t.que = s.que ∧ t.mem = s.mem ∧ ∀ n, n < nodeCount →
    t.rdAct (R.SCH_SHAPE n) = s.rd (R.SCH_SHAPE n) ∧ t.rd (R.SCH_SHAPE n) = s.rd (R.SCH_SHAPE n) ∧
    t.bucket n = min (s.bucket n + (s.get (R.SCH_SHAPE n) F.SCH_SHAPE_RATE : Nat)) (s.get (R.SCH_SHAPE n) F.SCH_SHAPE_BURST : Nat) := by
  obtain ⟨only, each⟩ := s.shapesInForce.refillNodes_spec _ s.shapesInForce.shapedNodes_nodup
  refine ⟨_, exec_refillTick s, only.que_eq, only.mem_eq, fun n hn => ⟨?_, ?_, ?_⟩⟩
  · rw [State.rdAct, only.act_eq]
    exact s.rdAct_shapesInForce hn
  · refine only.2 _ fun x hx => ?_
    obtain ⟨m, -, rfl⟩ := List.mem_map.mp hx
    exact shape_apart_bucket hn m
  · have goal : s.shapesInForce.refilledBucket n =
        min (s.bucket n + (s.get (R.SCH_SHAPE n) F.SCH_SHAPE_RATE : Nat)) (s.get (R.SCH_SHAPE n) F.SCH_SHAPE_BURST : Nat) := by
      rw [State.refilledBucket, State.getAct, State.getAct, s.rdAct_shapesInForce hn]
      rfl
    rw [← goal]
    by_cases shaped : n ∈ s.shapesInForce.shapedNodes
    · exact each n shaped
    · rw [State.refilledBucket_unshaped hn shaped]
      refine State.bucket_congr (only.2 _ fun x hx => ?_)
      obtain ⟨m, hm, rfl⟩ := List.mem_map.mp hx
      exact bucket_apart fun e => shaped (e ▸ hm)

/-! ### Selection (R91, R92) -/

theorem State.roundRefill_schOnly (s : State) (g : List Nat) : SchOnly s (s.roundRefill g) :=
  SchOnly.foldl _ (fun s c => s.setDeficit_schOnly c _) g s

theorem State.refillRounds_schOnly (s : State) (g : List Nat) (ok : Nat → Bool) (fuel : Nat) : SchOnly s (s.refillRounds g ok fuel) := by
  induction fuel generalizing s with
  | zero => exact SchOnly.refl s
  | succ fuel ih =>
    rw [State.refillRounds]
    split
    · exact SchOnly.refl s
    · exact (s.roundRefill_schOnly g).trans (ih _)

/-- A selection moves deficits and the next start of a group. -/
theorem State.selectChild_schOnly (s : State) (n : Nat) (ok : Nat → Bool) : SchOnly s (s.selectChild n ok).2 := by
  unfold State.selectChild
  split
  · exact SchOnly.refl s
  · dsimp only
    have refilled (g : List Nat) := s.refillRounds_schOnly g ok 70
    split
    · exact refilled _
    · exact (refilled _).trans (State.setGroupPtr_schOnly _ _ _ _)

/-! ### Charges (R94, R95) -/

/-- Registers of buckets and port credits. -/
def RegRef.charged (r : RegRef) : Prop := 0x1870000 ≤ r.addr ∧ r.addr < 0x18A1000

/-- `t` is `s` but for what the scheduler charges: deficits, buckets and port credits. -/
structure Charged (s t : State) : Prop where
  frame : { t with regs := s.regs, sch := s.sch } = s
  regs : ∀ r : RegRef, ¬ r.charged → t.rd r = s.rd r

namespace Charged

variable {s t u : State}

theorem of_schOnly (h : SchOnly s t) : Charged s t :=
  ⟨(congrArg (fun x : State => { x with regs := s.regs }) h :), fun r _ => h.rd_eq r⟩

theorem trans (h : Charged s t) (k : Charged t u) : Charged s u :=
  ⟨(congrArg (fun x : State => { x with regs := s.regs, sch := s.sch }) k.frame).trans h.frame, fun r out => (k.regs r out).trans (h.regs r out)⟩

theorem put (r : RegRef) (f : Fld) (v : Nat) (charged : r.charged) : Charged s (s.put r f v) :=
  ⟨rfl, fun _ out => State.rd_put_other _ _ _ _ _ fun e => out (by rwa [RegRef.charged, e])⟩

variable (h : Charged s t)
include h

theorem que_eq : t.que = s.que := (congrArg State.que h.frame :)
theorem mem_eq : t.mem = s.mem := (congrArg State.mem h.frame :)
theorem reports_eq : t.reports = s.reports := (congrArg State.reports h.frame :)

end Charged

theorem bucket_charged {n : Nat} (hn : n < nodeCount) : (R.SCH_BUCKET n).charged := by
  simp only [RegRef.charged, R.SCH_BUCKET, nodeCount] at *
  omega
theorem portcr_charged {p : Nat} (hp : p < 512) : (R.SCH_PORTCR p).charged := by
  simp only [RegRef.charged, R.SCH_PORTCR]
  omega

/-- Charging the buckets of a list of nodes moves their registers only. -/
theorem State.setBuckets_only (s : State) (l : List (Nat × Nat)) (level : State → Nat × Nat → Int) :
    Only (l.map fun e => R.SCH_BUCKET e.1) s (l.foldl (fun s e => s.setBucket e.1 (level s e)) s) :=
  List.foldlRecOn (motive := Only _ s) l _ ⟨rfl, fun _ _ => rfl⟩ fun _ ht _ he =>
    ht.trans (Only.put _ _ _ _ _ (List.mem_map_of_mem (f := fun e : Nat × Nat => R.SCH_BUCKET e.1) he))

theorem State.setBuckets_charged (s : State) {l : List (Nat × Nat)} (level : State → Nat × Nat → Int) (nodes : ∀ e ∈ l, e.1 < nodeCount) :
    Charged s (l.foldl (fun s e => s.setBucket e.1 (level s e)) s) := by
  have only := s.setBuckets_only l level
  refine ⟨(congrArg (fun x : State => { x with sch := s.sch }) only.1 :), fun r out => only.2 r fun x hx => ?_⟩
  obtain ⟨e, he, rfl⟩ := List.mem_map.mp hx
  exact fun same => out (by rw [RegRef.charged, same]; exact bucket_charged (nodes e he))

/-- The deficits of a decision's queue, subscriber and service node take new values. -/
def State.setDeficits (s : State) (d : Decision) (level : State → Nat → Int) : State :=
  [d.queue, nodeKey d.sub, nodeKey d.svc].foldl (fun s c => s.setDeficit c (level s c)) s

theorem State.setDeficits_schOnly (s : State) (d : Decision) (level : State → Nat → Int) : SchOnly s (s.setDeficits d level) :=
  SchOnly.foldl _ (fun s c => s.setDeficit_schOnly c _) _ s

/-- Undoing a decision moves what was charged. -/
theorem State.undoDecision_charged (s : State) {d : Decision} (port : d.pnode < 512) (nodes : ∀ e ∈ d.charged, e.1 < nodeCount) :
    Charged s (s.undoDecision d) :=
  ((Charged.of_schOnly (s.setDeficits_schOnly d fun s c =>
    min (s.deficit c + (d.len : Nat)) (if s.inGroup c then 256 * (s.childWeight c : Nat) else 0))).trans
    (State.setBuckets_charged _ (fun s e =>
      max (s.bucket e.1) (min (s.bucket e.1 + (e.2 : Nat)) (s.getAct (R.SCH_SHAPE e.1) F.SCH_SHAPE_BURST : Nat))) nodes)).trans
    (Charged.put _ _ _ (portcr_charged port))

/-- The deficits and the buckets of a decision are charged. -/
def State.chargeNodes (s : State) (d : Decision) : State :=
  d.charged.foldl (fun s e => s.setBucket e.1 (s.bucket e.1 - (e.2 : Nat))) (s.setDeficits d fun s c => s.deficit c - (d.len : Nat))

theorem State.chargeDecision_eq (s : State) (d : Decision) : s.chargeDecision d =
    (s.chargeNodes d).setPortCredit d.pnode ((s.chargeNodes d).portCredit d.pnode - (gobsOf d.len : Nat)) := rfl

theorem State.deficit_setDeficit_same (s : State) (c : Nat) (x : Int) : (s.setDeficit c x).deficit c = x := SMap.get_set_same _ _ _ _
theorem State.deficit_setDeficit_other (s : State) {c e : Nat} (x : Int) (h : e ≠ c) : (s.setDeficit c x).deficit e = s.deficit e :=
  SMap.get_set_other _ _ _ _ _ h

theorem Only.sch_eq {rs : List RegRef} {s t : State} (h : Only rs s t) : t.sch = s.sch := (congrArg State.sch h.1 :)

theorem State.deficit_congr {s t : State} (sch : t.sch = s.sch) (c : Nat) : t.deficit c = s.deficit c := by
  rw [State.deficit, sch, State.deficit]

/-- Three children that differ each get their own new deficit. -/
theorem State.setDeficits_each (s : State) {d : Decision} (sub : d.queue ≠ nodeKey d.sub) (svc : d.queue ≠ nodeKey d.svc)
    (nodes : nodeKey d.sub ≠ nodeKey d.svc) (x : Int) :
    ∀ c ∈ [d.queue, nodeKey d.sub, nodeKey d.svc], (s.setDeficits d fun s c => s.deficit c - x).deficit c = s.deficit c - x := by
  intro c hc
  simp only [List.mem_cons, List.not_mem_nil, or_false] at hc
  unfold State.setDeficits
  simp only [List.foldl_cons, List.foldl_nil]
  rcases hc with rfl | rfl | rfl
  · rw [State.deficit_setDeficit_other _ _ svc, State.deficit_setDeficit_other _ _ sub, State.deficit_setDeficit_same]
  · rw [State.deficit_setDeficit_other _ _ nodes, State.deficit_setDeficit_same, State.deficit_setDeficit_other _ _ sub.symm]
  · rw [State.deficit_setDeficit_same, State.deficit_setDeficit_other _ _ nodes.symm, State.deficit_setDeficit_other _ _ svc.symm]

section charge
variable (s : State) {d : Decision}

/-- Charging takes the packet's bytes from each of the three deficits. -/
theorem State.chargeDecision_deficit (sub : d.queue ≠ nodeKey d.sub) (svc : d.queue ≠ nodeKey d.svc) (nodes : nodeKey d.sub ≠ nodeKey d.svc) :
    ∀ c ∈ [d.queue, nodeKey d.sub, nodeKey d.svc], (s.chargeDecision d).deficit c = s.deficit c - (d.len : Nat) := by
  intro c hc
  have charged : (s.chargeNodes d).sch = (s.setDeficits d fun s c => s.deficit c - (d.len : Nat)).sch := (State.setBuckets_only _ _ _).sch_eq
  rw [← s.setDeficits_each sub svc nodes _ c hc, State.chargeDecision_eq]
  refine State.deficit_congr ?_ c
  rw [State.setPortCredit, State.put_sch, charged]

/-- Charging takes the packet's gobs from the port credit, as far as it holds them. -/
theorem State.chargeDecision_portCredit (nodes : ∀ e ∈ d.charged, e.1 < nodeCount)
    (fits : -131072 ≤ s.portCredit d.pnode - (gobsOf d.len : Nat)) :
    (s.chargeDecision d).portCredit d.pnode = s.portCredit d.pnode - (gobsOf d.len : Nat) := by
  have kept : (s.chargeNodes d).portCredit d.pnode = s.portCredit d.pnode := by
    refine State.portCredit_congr (((State.setBuckets_only _ d.charged _).2 _ fun x hx => ?_).trans ((s.setDeficits_schOnly d _).rd_eq _))
    obtain ⟨e, he, rfl⟩ := List.mem_map.mp hx
    exact portcr_apart_bucket (nodes e he) _
  have high := (s.portCredit_bounds d.pnode).2
  rw [State.chargeDecision_eq, kept, State.portCredit_setPortCredit _ _ (by omega) (by omega)]

theorem State.chargeDecision_charged (port : d.pnode < 512) (nodes : ∀ e ∈ d.charged, e.1 < nodeCount) : Charged s (s.chargeDecision d) :=
  ((Charged.of_schOnly (s.setDeficits_schOnly d _)).trans (State.setBuckets_charged _ _ nodes)).trans (Charged.put _ _ _ (portcr_charged port))

end charge

/-! ### Decisions (R90 to R94) -/

/-- The decision of a pipeline for a packet, with the path that was selected for it. -/
def State.decision (s : State) (pl p v u q : Nat) (pk : QPkt) : Decision :=
  ⟨pl, p, v - 65536, u - 65536, q, pk.id, pk.len, ([u - 65536, v - 65536, portNode p].filter s.shaped).map (fun n => (n, s.shapeUnits n pk.len)),
    s.schEpoch⟩

/-- A decision is charged and waits to name its packet. -/
def State.addDecision (s : State) (d : Decision) : State :=
  { s.chargeDecision d with que := { (s.chargeDecision d).que with decs := (s.chargeDecision d).que.decs ++ [d] } }

theorem exec_dequeueDecision_none {s : State} {pl : Fin 32}
    (no : s.bit R.SCH_CTL F.SCH_CTL_ENABLE = false ∨ s.flt.stopped = true ∨ s.nextPortNode pl.val = none) :
    exec (.dequeueDecision pl) s = .next s := by
  change execDequeueDecision pl s = _
  unfold execDequeueDecision
  split
  · rfl
  · rename_i runs
    have none : s.nextPortNode pl.val = none := by
      rcases no with off | stopped | none
      · simp [off] at runs
      · simp [stopped] at runs
      · exact none
    rw [none]

section decision
variable {s s0 s1 s2 s3 : State} {pl : Fin 32} {p v u q : Nat} {pk : QPkt} (on : s.bit R.SCH_CTL F.SCH_CTL_ENABLE = true)
  (runs : s.flt.stopped = false) (next : s.nextPortNode pl.val = some p)
  (hs0 : s0 = { s with sch := { s.sch with served := SMap.set s.sch.served 0 pl.val (p + 1) } })
  (svc : s0.selectChild (portNode p) (fun c => s0.svcEligible (c - 65536)) = (some v, s1))
  (sub : s1.selectChild (v - 65536) (fun c => s1.subEligible (c - 65536)) = (some u, s2))
  (queue : s2.selectChild (u - 65536) s2.queueEligible = (some q, s3)) (packet : s3.nextOf q = some pk)
include hs0 svc sub queue

include on runs next packet in
/-- A decision that finds a path and a packet is charged and listed. -/
theorem exec_dequeueDecision_some : exec (.dequeueDecision pl) s = .next (s3.addDecision (s3.decision pl.val p v u q pk)) := by
  change execDequeueDecision pl s = _
  unfold execDequeueDecision
  rw [if_neg (by simp [on, runs]), next]
  dsimp only
  rw [← hs0, svc]
  dsimp only
  rw [sub]
  dsimp only
  rw [queue]
  dsimp only
  rw [packet]
  rfl

/-- The selections of a decision move scheduling records only. -/
theorem decision_schOnly : SchOnly s s3 := by
  have first : SchOnly s0 s1 := (congrArg (SchOnly s0) (congrArg Prod.snd svc)).mp (s0.selectChild_schOnly _ _)
  have second : SchOnly s1 s2 := (congrArg (SchOnly s1) (congrArg Prod.snd sub)).mp (s1.selectChild_schOnly _ _)
  have third : SchOnly s2 s3 := (congrArg (SchOnly s2) (congrArg Prod.snd queue)).mp (s2.selectChild_schOnly _ _)
  have served : SchOnly s s0 := by
    rw [hs0]
    rfl
  exact ((served.trans first).trans second).trans third

end decision

/-- What a decision shows reads alike while only scheduling records have moved. -/
theorem State.decision_congr {s t : State} (h : SchOnly s t) (pl p v u q : Nat) (pk : QPkt) :
    t.decision pl p v u q pk = s.decision pl p v u q pk := (congrArg (State.decision · pl p v u q pk) h :)

theorem State.addDecision_spec (s : State) {d : Decision} (port : d.pnode < 512) (nodes : ∀ e ∈ d.charged, e.1 < nodeCount) :
    (s.addDecision d).que = { s.que with decs := s.que.decs ++ [d] } ∧ (s.addDecision d).mem = s.mem := by
  have charged := s.chargeDecision_charged port nodes
  refine ⟨?_, charged.mem_eq⟩
  unfold State.addDecision
  rw [charged.que_eq]

section decided
variable {s s0 s1 s2 s3 : State} {pl : Fin 32} {p v u q : Nat} {pk : QPkt}

theorem decision_nodes (s : State) (pl q : Nat) (pk : QPkt) (nodes : u < v) (service : v < 65536 + nodeCount) (port : p < 512) :
    ∀ e ∈ (s.decision pl p v u q pk).charged, e.1 < nodeCount := by
  intro e he
  obtain ⟨n, hn, rfl⟩ := List.mem_map.mp he
  have path := (List.mem_filter.mp hn).1
  simp only [List.mem_cons, List.not_mem_nil, or_false] at path
  simp only [nodeCount, portNode] at *
  omega

/-- What a decision that is charged and listed shows, seen from a state of which only scheduling records have moved. -/
theorem State.addDecision_decision (h : SchOnly s s3) (queue : q < 65536) (sub : 65536 ≤ u) (nodes : u < v) (service : v < 65536 + nodeCount)
    (port : p < 512) : ∀ d, d = s3.decision pl p v u q pk → ∀ t, t = s3.addDecision d → t.que.decs = s.que.decs ++ [d] ∧
      d.epoch = s.schEpoch ∧
      d.charged = ([u - 65536, v - 65536, portNode p].filter s.shaped).map (fun n => (n, s.shapeUnits n pk.len)) ∧
      (∀ c ∈ [q, u, v], t.deficit c = s3.deficit c - (pk.len : Nat)) ∧
      (-131072 ≤ s.portCredit p - (gobsOf pk.len : Nat) → t.portCredit p = s.portCredit p - (gobsOf pk.len : Nat)) ∧
      t.mem = s.mem ∧ t.que.linked = s.que.linked := by
  rintro d hd t rfl
  have charged : ∀ e ∈ d.charged, e.1 < nodeCount := hd ▸ decision_nodes s3 pl q pk nodes service port
  have seen : d = s.decision pl p v u q pk := hd.trans (State.decision_congr h _ _ _ _ _ _)
  have pnode : d.pnode = p := by rw [seen, State.decision]
  have len : d.len = pk.len := by rw [seen, State.decision]
  have queues : d.queue = q ∧ nodeKey d.sub = u ∧ nodeKey d.svc = v := by
    rw [seen, State.decision, nodeKey, nodeKey]
    exact ⟨rfl, by dsimp only; omega, by dsimp only; omega⟩
  obtain ⟨hq, hu, hv⟩ := queues
  obtain ⟨que, mem⟩ := s3.addDecision_spec (pnode.symm ▸ port) charged
  refine ⟨by rw [que, h.que_eq], by rw [seen, State.decision], by rw [seen, State.decision], fun c hc => ?_, fun fits => ?_,
    mem.trans h.mem_eq, by rw [que, h.que_eq]⟩
  · rw [← len]
    exact s3.chargeDecision_deficit (by omega) (by omega) (by omega) c (by rwa [hq, hu, hv])
  · have credit : s3.portCredit p = s.portCredit p := State.portCredit_congr (h.rd_eq _)
    have taken := s3.chargeDecision_portCredit charged (by rw [pnode, len, credit]; exact fits)
    rw [pnode, len, credit] at taken
    exact taken

end decided

end Sys2Proof.Machine
end

section
/-!
PROOFS. What sending packets and posting completions leave beside the queue path (R42, R45, R74 to R77): the registers of the scheduler, and
the faults reported.
-/
namespace Sys2Proof.Machine

/-- Registers of SCH. -/
def RegRef.sched (r : RegRef) : Prop := 0x1800000 ≤ r.addr ∧ r.addr < 0x1A00000

/-- `t` reports the faults of `s` and reads SCH as `s` does. -/
structure Sent (s t : State) : Prop where
  reports : t.reports = s.reports
  regs : ∀ r : RegRef, r.sched → t.rd r = s.rd r

namespace Sent

theorem refl (s : State) : Sent s s := ⟨rfl, fun _ _ => rfl⟩

theorem of_regs {s t : State} (reports : t.reports = s.reports) (regs : t.regs = s.regs) : Sent s t :=
  ⟨reports, fun r _ => by rw [State.rd, regs, State.rd]⟩

variable {s t u : State}

theorem trans (h : Sent s t) (k : Sent t u) : Sent s u :=
  ⟨k.reports.trans h.reports, fun r inside => (k.regs r inside).trans (h.regs r inside)⟩

theorem wr (h : Sent s t) (r : RegRef) (v : Nat) (out : ¬ r.sched) : Sent s (t.wr r v) :=
  h.trans ⟨rfl, fun _ inside => State.rd_wr_other _ _ _ _ fun e => out (by rwa [RegRef.sched, ← e])⟩

theorem put (h : Sent s t) (r : RegRef) (f : Fld) (v : Nat) (out : ¬ r.sched) : Sent s (t.put r f v) := h.wr r _ out
theorem bump (h : Sent s t) (r : RegRef) (f : Fld) (n : Nat) (out : ¬ r.sched) : Sent s (t.bump r f n) := h.wr r _ out

theorem cru (h : Sent s t) (c : Cru) : Sent s { t with cru := c } := h.trans (of_regs rfl rfl)
theorem que (h : Sent s t) (q : Que) : Sent s { t with que := q } := h.trans (of_regs rfl rfl)
theorem free (h : Sent s t) : Sent s t.free.2 := h.trans (of_regs rfl rfl)

theorem ite {p : Prop} [Decidable p] (h : Sent s t) (k : Sent s u) : Sent s (if p then t else u) := by
  split
  · exact h
  · exact k

theorem counted (h : Counted s t) : Sent s t :=
  ⟨h.reports_eq, fun r inside => h.2 r (by simp only [RegRef.sched, RegRef.counts] at *; omega)⟩

theorem tally (h : Sent s t) (e : Ev) : Sent s (t.tally e) := h.trans (counted (t.tally_counted e))

end Sent

theorem coqstat_not_sched {Q : Nat} (hQ : Q < 2064) : ¬ (R.CRU_COQSTAT Q).sched := by
  simp only [RegRef.sched, R.CRU_COQSTAT]
  omega
theorem coqdrop_not_sched {Q : Nat} (hQ : Q < 2064) : ¬ (R.CRU_COQDROP Q).sched := by
  simp only [RegRef.sched, R.CRU_COQDROP]
  omega
theorem qctx_not_sched (q w : Nat) : ¬ (R.QCTX q w).sched := by
  simp only [RegRef.sched, R.QCTX]
  omega
theorem qinfo_not_sched (q : Nat) : ¬ (R.QUE_QINFO q).sched := by
  simp only [RegRef.sched, R.QUE_QINFO]
  omega
theorem talport_not_sched (p k : Nat) : ¬ (R.TAL_PORT p k).sched := by
  simp only [RegRef.sched, R.TAL_PORT]
  omega

theorem State.charge_sent (s : State) {Q : Nat} (n origin : Nat) (hQ : Q < 2064) : Sent s (s.charge Q n origin) := by
  refine Sent.tally (Sent.cru (Sent.free ?_) _) _
  unfold State.setOcc
  exact Sent.ite (((Sent.refl s).cru _).put _ _ _ (coqstat_not_sched hQ)) ((Sent.refl s).cru _)

theorem State.placeGob_reports {s t : State} {b : Nat} {prev : Option Nat} {c quad b' : Nat}
    (h : s.placeGob b prev = some (c, quad, b', t)) : t.reports = s.reports := by
  unfold State.placeGob State.free at h
  split at h
  · cases h
  · dsimp only at h
    split at h
    · cases h
    · obtain ⟨-, -, -, rfl⟩ := h
      rfl

theorem State.placeGobs_sent (n : Nat) (s : State) (b : Nat) (prev : Option Nat) (data : List Byte) : Sent s (s.placeGobs b prev data n).2 := by
  refine .of_regs ?_ (s.placeGobs_placed n b prev data).regs
  induction n generalizing s b prev data with
  | zero => rfl
  | succ n ih =>
    rw [State.placeGobs_succ]
    split
    · rfl
    · rename_i c quad b' t one
      exact (ih _ _ _ _).trans ((State.store_reports _ _ _).trans (State.placeGob_reports one))

theorem State.admitPkt_sent {s t : State} {p : Pkt} {Q : Nat} (h : s.admitPkt p Q = some t) (hQ : Q < 2064) : Sent s t := by
  unfold State.admitPkt at h
  split at h
  · obtain rfl := Option.some.inj h
    exact ((s.charge_sent p.gobs p.origin hQ).trans (State.placeGobs_sent _ _ _ _ _)).trans (.of_regs rfl rfl)
  · cases h

theorem State.sendEndpoint_sent (s : State) (p : Pkt) {Q : Nat} (hQ : Q < 2064) : Sent s (s.sendEndpoint p Q) := by
  unfold State.sendEndpoint
  extract_lets waits
  split
  · rename_i t sent
    split at sent
    · cases sent
    · exact State.admitPkt_sent sent hQ
  · have counted : Sent s (s.countRefusal p.origin) := (Sent.refl s).tally _
    exact (Sent.ite counted (counted.bump _ _ _ (coqdrop_not_sched hQ))).trans (.of_regs rfl rfl)

theorem State.countDrop_sent (s : State) {Q : Nat} (port : Nat) (hQ : Q < 2064) : Sent s (s.countDrop Q port) := by
  unfold State.countDrop State.portCount
  have dropped := (Sent.refl s).bump _ F.CRU_COQDROP_DROP_PKTS 1 (coqdrop_not_sched hQ)
  exact Sent.ite dropped (dropped.wr _ _ (talport_not_sched _ _))

theorem State.sendUp_sent {s : State} {pt cls : Nat} (mk : Nat → State → Pkt × State) (hc : cls < 8) (made : ∀ q s, Sent s (mk q s).2) :
    Sent s (s.sendUp pt cls mk).2 := by
  unfold State.sendUp
  split
  · exact Sent.refl s
  · rename_i p up
    have hQ := coqOfPort_lt (State.upPort_lt up) hc
    dsimp only
    split
    · exact s.countDrop_sent _ hQ
    · exact (made _ s).trans (State.sendEndpoint_sent _ _ hQ)

theorem State.complete_sent (s : State) (q tag status reason dq len : Nat) : Sent s (s.complete q tag status reason dq len) := by
  unfold State.complete
  extract_lets counted
  have hcounted : Sent s counted := Sent.ite ((Sent.refl s).wr _ _ (qctx_not_sched q 7)) (Sent.refl s)
  split
  · exact hcounted
  split
  · exact (Sent.ite (hcounted.wr _ _ (qctx_not_sched q 7)) hcounted).put _ _ _ (qinfo_not_sched q)
  · refine (hcounted.trans ?_).trans (State.sendUp_sent _ (State.qTc_lt _ _) fun _ s => (Sent.refl s).cru _)
    exact .of_regs rfl rfl

/-- The outcome of a packet is told without a report, and away from the scheduler. -/
theorem State.outcome_sent (s : State) (p : QPkt) (status reason : Nat) : Sent s (s.outcome p status reason) := by
  unfold State.outcome
  split
  · exact Sent.ite (Sent.refl s) ((Sent.refl s).wr _ _ (qctx_not_sched _ 7))
  · exact Sent.ite (Sent.refl s) (s.complete_sent _ _ _ _ _ _)

theorem State.pbufRelease_sent (s : State) (q : Option Nat) (gs : List Nat) : Sent s (s.pbufRelease q gs) := by
  cases q with
  | none => exact (Sent.refl s).que _
  | some q => exact ((Sent.refl s).que _).put _ _ _ (qctx_not_sched q 3)

theorem State.dropPkt_sent (s : State) (p : QPkt) (status reason : Nat) : Sent s (s.dropPkt p status reason) :=
  (s.pbufRelease_sent _ _).trans (State.outcome_sent _ _ _ _)

/-- A dropped packet's gobs are free; beside them a drop leaves the decisions, the deliveries and what is linked. -/
theorem State.dropPkt_que (s : State) (p : QPkt) (status reason : Nat) : (s.dropPkt p status reason).que.decs = s.que.decs ∧
    (s.dropPkt p status reason).que.dels = s.que.dels ∧ (s.dropPkt p status reason).que.linked = s.que.linked ∧
    (s.dropPkt p status reason).que.pbuf = s.que.pbuf.filter (fun g => !p.gobs.contains g) := by
  have posted := State.outcome_posted (s.pbufRelease p.localSrc p.gobs) p status reason
  have que := s.pbufRelease_que p.localSrc p.gobs
  have decs : (s.dropPkt p status reason).que.decs = (s.pbufRelease p.localSrc p.gobs).que.decs := (congrArg Que.decs posted.rings :)
  exact ⟨decs.trans (by rw [que]), posted.dels_eq.trans (by rw [que]), posted.linked_eq.trans (by rw [que]), posted.pbuf_eq.trans (by rw [que])⟩

end Sys2Proof.Machine
end

section
/-!
PROOFS. Naming a packet (R88, R95, R470): a decision whose packet is gone, held back or cannot be delivered is undone, a packet that a cause of
R470 applies to is dropped at dequeue, and any other goes to a delivery engine.
-/
namespace Sys2Proof.Machine

/-! ### The packet leaves its queue -/

/-- The packet is no longer linked. -/
def State.unlink (s : State) (q : Nat) (p : QPkt) : State := s.setLinked q ((s.linked q).filter (fun x => x.id != p.id))

theorem State.unlink_que (s : State) (q : Nat) (p : QPkt) : (s.unlink q p).que =
    { s.que with linked := SMap.set s.que.linked [] q ((s.linked q).filter (fun x => x.id != p.id)) } := s.setLinked_que _ _

theorem State.unlink_reports (s : State) (q : Nat) (p : QPkt) : (s.unlink q p).reports = s.reports := by
  have sch := s.setLinked_schOnly q ((s.linked q).filter (fun x => x.id != p.id))
  have moved : (s.unlink q p).reports = (s.relist q ((s.linked q).filter (fun x => x.id != p.id))).reports := (congrArg State.reports sch :)
  rw [moved, State.relist, State.put_reports]

theorem State.rd_unlink (s : State) (q : Nat) (p : QPkt) {r : RegRef} (h : r.addr ≠ (R.QCTX q 3).addr) : (s.unlink q p).rd r = s.rd r := by
  rw [State.unlink, (s.setLinked_schOnly _ _).rd_eq, State.relist, State.rd_put_other _ _ _ _ _ h]
  rfl

/-! ### A path that ends elsewhere (R88) -/

/-- SCH_ERRLOG takes the queue and the port node of a path that ends elsewhere. -/
def State.logPath (s : State) (q pnode : Nat) : State :=
  let s := s.bump R.SCH_ERRLOG F.SCH_ERRLOG_COUNT 1
  if s.bit R.SCH_ERRLOG F.SCH_ERRLOG_VALID then s.setBit R.SCH_ERRLOG F.SCH_ERRLOG_OVF
  else ((s.put R.SCH_ERRLOG F.SCH_ERRLOG_QUEUE q).put R.SCH_ERRLOG F.SCH_ERRLOG_PNODE pnode).setBit R.SCH_ERRLOG F.SCH_ERRLOG_VALID

theorem State.logPath_only (s : State) (q pnode : Nat) : Only [R.SCH_ERRLOG] s (s.logPath q pnode) := by
  have put {s t : State} (h : Only [R.SCH_ERRLOG] s t) (f : Fld) (v : Nat) : Only [R.SCH_ERRLOG] s (t.put R.SCH_ERRLOG f v) :=
    h.trans (Only.put _ _ _ _ _ (List.mem_singleton_self _))
  have counted : Only [R.SCH_ERRLOG] s (s.bump R.SCH_ERRLOG F.SCH_ERRLOG_COUNT 1) := put ⟨rfl, fun _ _ => rfl⟩ _ _
  unfold State.logPath
  dsimp only
  split
  · exact put counted _ _
  · exact put (put (put counted _ _) _ _) _ _

theorem State.schPath_eq (s : State) (q pnode : Nat) : s.schPath q pnode =
    (s.logPath q pnode).report FC.SCH_PATH UK.queue q ((s.logPath q pnode).qOrigin q 2) pnode q := rfl

/-! ### Naming (R470) -/

/-- A packet leaves its queue, and a path that ends elsewhere is reported. -/
def State.leavePath (s : State) (d : Decision) (p : QPkt) (path : Bool) : State :=
  if path then s.unlink d.queue p else (s.unlink d.queue p).schPath d.queue d.pnode

/-- The packet is dropped at dequeue, and the charges of its decision are undone. -/
def State.dropAtDequeue (s : State) (d : Decision) (p : QPkt) (path : Bool) (st : Nat) : State :=
  (((s.leavePath d p path).undoDecision d).bump R.SCH_DECSTAT F.SCH_DECSTAT_DEQDROPS 1).dropPkt p st 0

/-- The packet is named and counted. -/
def State.nameCounted (s : State) (d : Decision) (p : QPkt) : State :=
  ((s.unlink d.queue p).bump R.SCH_DECSTAT F.SCH_DECSTAT_DECISIONS 1).tally (ev 0x0C (gobsOf p.len) (some p.origin) none 0)

/-- The named packet goes to a delivery engine. -/
def State.beginNamed (s : State) (d : Decision) (p : QPkt) : State :=
  if s.goesRemote p then s.beginFabric d.queue d.pnode (gobsOf p.len) p else s.beginDelivery d.queue d.pnode (gobsOf p.len) p

section naming
variable {s s0 : State} {pl : Fin 32} {d : Decision} {p : QPkt} (found : s.que.decs.find? (fun d => d.pipe == pl.val) = some d)
  (hs0 : s0 = { s with que := { s.que with decs := s.que.decs.filter (fun e => !(e.queue == d.queue && e.pktId == d.pktId)) } })
include found hs0

/-- What becomes of the oldest decision of a pipeline; its causes are those of the state before. -/
theorem exec_dequeueName_eq : exec (.dequeueName pl) s = match (s.linked d.queue).find? (fun p => p.id == d.pktId) with
    | none => .next (s0.undoDecision d)
    | some p =>
      if s.qstate d.queue = QS.HELD then .next (s0.undoDecision d)
      else if s.dequeueDrop d p = none ∧ s.cannotDeliver d p = true then .next (s0.undoDecision d)
      else match s.dequeueDrop d p with
        | some st => .next (s0.dropAtDequeue d p (s.pathOk d p) st)
        | none => .next ((s0.nameCounted d p).beginNamed d p) := by
  have linked : s0.linked d.queue = s.linked d.queue := by rw [State.linked, hs0, State.linked]
  have held : s0.qstate d.queue = s.qstate d.queue := by rw [hs0]; rfl
  have causes (p : QPkt) : s0.dequeueDrop d p = s.dequeueDrop d p ∧ s0.cannotDeliver d p = s.cannotDeliver d p ∧
      s0.pathOk d p = s.pathOk d p := by
    rw [hs0]
    exact ⟨rfl, rfl, rfl⟩
  change execDequeueName pl s = _
  rw [execDequeueName, found]
  dsimp only
  rw [← hs0, linked]
  cases (s.linked d.queue).find? (fun p => p.id == d.pktId) with
  | none => rfl
  | some p =>
    obtain ⟨drop, cannot, path⟩ := causes p
    have gone : s0.setLinked d.queue ((s.linked d.queue).filter (fun x => x.id != p.id)) = s0.unlink d.queue p := by rw [State.unlink, linked]
    dsimp only
    rw [held, drop, cannot, path, gone]
    cases s.dequeueDrop d p with
    | none => rfl
    | some st => rfl

end naming

/-! ### Dropped at dequeue -/

theorem decstat_apart_qctx (q w : Nat) : R.SCH_DECSTAT.addr ≠ (R.QCTX q w).addr := by
  simp only [R.SCH_DECSTAT, R.QCTX]
  omega

theorem decstat_not_counts : ¬ R.SCH_DECSTAT.counts := by
  simp only [RegRef.counts, R.SCH_DECSTAT]
  omega
theorem decstat_not_charged : ¬ R.SCH_DECSTAT.charged := by
  simp only [RegRef.charged, R.SCH_DECSTAT]
  omega
theorem decstat_sched : R.SCH_DECSTAT.sched := by
  simp only [RegRef.sched, R.SCH_DECSTAT]
  omega

/-- `t` has one fault more than `s`: the path of queue `q` ends elsewhere than at the port node its packet needs (R88). -/
def PathReported (s t : State) (q pnode : Nat) : Prop :=
  ∃ r, t.reports = s.reports ++ [r] ∧ r.code = FC.SCH_PATH ∧ r.kind = UK.queue ∧ r.index = q ∧ r.detail = pnode

theorem State.report_pathReported (s : State) (q o pnode a : Nat) : PathReported s (s.report FC.SCH_PATH UK.queue q o pnode a) q pnode :=
  ⟨_, rfl, rfl, rfl, rfl, rfl⟩

theorem PathReported.congr {s s' t t' : State} {q pnode : Nat} (h : PathReported s t q pnode) (before : s.reports = s'.reports)
    (after : t'.reports = t.reports) : PathReported s' t' q pnode := by
  obtain ⟨r, reports, fields⟩ := h
  exact ⟨r, by rw [after, reports, before], fields⟩

theorem State.schPath_spec (s : State) (q pnode : Nat) : (s.schPath q pnode).que = s.que ∧
    (s.schPath q pnode).rd R.SCH_DECSTAT = s.rd R.SCH_DECSTAT ∧ PathReported s (s.schPath q pnode) q pnode := by
  have only := s.logPath_only q pnode
  rw [State.schPath_eq]
  generalize s.logPath q pnode = t at only
  refine ⟨by rw [State.report_que, only.que_eq], ?_, (t.report_pathReported _ _ _ _).congr only.reports_eq rfl⟩
  rw [State.rd_report]
  refine only.2 _ fun x hx => ?_
  obtain rfl := List.mem_singleton.mp hx
  decide

/-- What a packet leaves behind that goes its way, or whose path ends elsewhere. -/
theorem State.leavePath_spec (s : State) (d : Decision) (p : QPkt) (path : Bool) : (s.leavePath d p path).que = (s.unlink d.queue p).que ∧
    (s.leavePath d p path).rd R.SCH_DECSTAT = s.rd R.SCH_DECSTAT ∧
    (path = false → PathReported s (s.leavePath d p path) d.queue d.pnode) := by
  have read : (s.unlink d.queue p).rd R.SCH_DECSTAT = s.rd R.SCH_DECSTAT := s.rd_unlink _ _ (decstat_apart_qctx _ _)
  obtain ⟨que, stat, reported⟩ := (s.unlink d.queue p).schPath_spec d.queue d.pnode
  unfold State.leavePath
  split
  · rename_i ends
    exact ⟨rfl, read, fun no => absurd (ends.symm.trans no) (by decide)⟩
  · exact ⟨que, stat.trans read, fun _ => reported.congr (s.unlink_reports _ _) rfl⟩

theorem State.get_congr {s t : State} {r : RegRef} (same : t.rd r = s.rd r) (f : Fld) : t.get r f = s.get r f := by
  rw [State.get, same, State.get]

/-- A packet dropped at dequeue. -/
theorem State.dropAtDequeue_spec (s : State) {d : Decision} (p : QPkt) (path : Bool) (st : Nat) (port : d.pnode < 512)
    (nodes : ∀ e ∈ d.charged, e.1 < nodeCount) : ∀ t, t = s.dropAtDequeue d p path st → t.que.decs = s.que.decs ∧
    t.linked d.queue = (s.linked d.queue).filter (fun x => x.id != p.id) ∧ t.que.dels = s.que.dels ∧
    t.que.pbuf = s.que.pbuf.filter (fun g => !p.gobs.contains g) ∧
    t.get R.SCH_DECSTAT F.SCH_DECSTAT_DEQDROPS =
      satAdd (s.get R.SCH_DECSTAT F.SCH_DECSTAT_DEQDROPS) 1 (2 ^ F.SCH_DECSTAT_DEQDROPS.w - 1) ∧
    (path = false → PathReported s t d.queue d.pnode) := by
  rintro t rfl
  obtain ⟨left, stat, report⟩ := s.leavePath_spec d p path
  unfold State.dropAtDequeue
  generalize s.leavePath d p path = u at *
  have undone := u.undoDecision_charged port nodes
  generalize u.undoDecision d = v at *
  have sent := (v.bump R.SCH_DECSTAT F.SCH_DECSTAT_DEQDROPS 1).dropPkt_sent p st 0
  obtain ⟨decs, dels, linked, pbuf⟩ := (v.bump R.SCH_DECSTAT F.SCH_DECSTAT_DEQDROPS 1).dropPkt_que p st 0
  generalize (v.bump R.SCH_DECSTAT F.SCH_DECSTAT_DEQDROPS 1).dropPkt p st 0 = t at *
  have que : v.que = { s.que with linked := SMap.set s.que.linked [] d.queue ((s.linked d.queue).filter (fun x => x.id != p.id)) } := by
    rw [undone.que_eq, left, State.unlink_que]
  rw [State.bump_que, que] at decs dels linked pbuf
  refine ⟨decs, by rw [State.linked, linked, SMap.get_set_same], dels, pbuf, ?_, fun ends => ?_⟩
  · have kept : v.rd R.SCH_DECSTAT = s.rd R.SCH_DECSTAT := (undone.regs _ decstat_not_charged).trans stat
    rw [State.get_congr (sent.regs _ decstat_sched), State.get_bump_same _ _ _ _ (by decide), State.get_congr kept]
  · exact (report ends).congr rfl (by rw [sent.reports, State.bump_reports, undone.reports_eq])

/-! ### Delivered -/

/-- A packet that is named leaves its queue and is counted. -/
theorem State.nameCounted_spec (s : State) (d : Decision) (p : QPkt) : (s.nameCounted d p).que = (s.unlink d.queue p).que ∧
    (s.nameCounted d p).get R.SCH_DECSTAT F.SCH_DECSTAT_DECISIONS =
      satAdd (s.get R.SCH_DECSTAT F.SCH_DECSTAT_DECISIONS) 1 (2 ^ F.SCH_DECSTAT_DECISIONS.w - 1) ∧
    ∀ r : RegRef, ¬ r.counts → r.addr ≠ R.SCH_DECSTAT.addr → r.addr ≠ (R.QCTX d.queue 3).addr → (s.nameCounted d p).rd r = s.rd r := by
  have counted := ((s.unlink d.queue p).bump R.SCH_DECSTAT F.SCH_DECSTAT_DECISIONS 1).tally_counted
    (ev 0x0C (gobsOf p.len) (some p.origin) none 0)
  unfold State.nameCounted
  refine ⟨by rw [counted.que_eq, State.bump_que], ?_, fun r out stat ctx => ?_⟩
  · rw [State.get_congr (counted.2 _ decstat_not_counts), State.get_bump_same _ _ _ _ (by decide),
      State.get_congr (s.rd_unlink _ _ (decstat_apart_qctx _ _))]
  · rw [counted.2 _ out, State.bump, State.rd_put_other _ _ _ _ _ stat, s.rd_unlink _ _ ctx]

theorem State.goesRemote_congr {s t : State} (same : t.rd R.FTX_CTL = s.rd R.FTX_CTL) (p : QPkt) : t.goesRemote p = s.goesRemote p := by
  rw [State.goesRemote, State.fid, State.get_congr same]
  rfl

theorem State.ring_congr {s t : State} {q : Nat} (same : t.rd (R.QUE_RXCFG q) = s.rd (R.QUE_RXCFG q)) (len : Nat) :
    t.ringSize q = s.ringSize q ∧ t.slotsFor q len = s.slotsFor q len := by
  rw [State.ringSize, State.slotsFor, State.slotSize, State.get_congr same, State.get_congr same]
  exact ⟨rfl, rfl⟩

/-- The delivery of a named packet. -/
theorem State.beginNamed_spec (s : State) (d : Decision) (p : QPkt) : ∃ x : Delivery,
    (s.beginNamed d p).que.dels = s.que.dels ++ [x] ∧ x.q = d.queue ∧ x.pkt = p ∧ x.phase = .reading ∧
    (s.beginNamed d p).que.decs = s.que.decs ∧ (s.beginNamed d p).que.linked = s.que.linked ∧ (s.beginNamed d p).regs = s.regs ∧
    (s.goesRemote p = false → x.slot = s.claim d.queue ∧ x.slots = s.slotsFor d.queue p.len ∧
      (s.beginNamed d p).claim d.queue = (s.claim d.queue + s.slotsFor d.queue p.len) % s.ringSize d.queue) := by
  unfold State.beginNamed
  split
  · rename_i remote
    exact ⟨_, rfl, rfl, rfl, rfl, rfl, rfl, rfl, fun here => by simp [here] at remote⟩
  · exact ⟨_, rfl, rfl, rfl, rfl, rfl, rfl, rfl, fun _ => ⟨rfl, rfl, SMap.get_set_same _ _ _ _⟩⟩

/-- A packet that no cause drops takes a path that ends where it must. -/
theorem State.pathOk_of_dequeueDrop {s : State} {d : Decision} {p : QPkt} (no : s.dequeueDrop d p = none) : s.pathOk d p = true := by
  unfold State.dequeueDrop at no
  by_contra ends
  rw [if_pos (by simpa using ends)] at no
  cases no

/-- A packet that goes to a delivery engine. -/
theorem State.deliver_spec (s : State) (d : Decision) (p : QPkt) (queue : d.queue < 65536) : ∀ t, t = (s.nameCounted d p).beginNamed d p →
    t.que.decs = s.que.decs ∧ t.linked d.queue = (s.linked d.queue).filter (fun x => x.id != p.id) ∧
    t.get R.SCH_DECSTAT F.SCH_DECSTAT_DECISIONS =
      satAdd (s.get R.SCH_DECSTAT F.SCH_DECSTAT_DECISIONS) 1 (2 ^ F.SCH_DECSTAT_DECISIONS.w - 1) ∧
    ∃ x : Delivery, t.que.dels = s.que.dels ++ [x] ∧ x.q = d.queue ∧ x.pkt = p ∧ x.phase = .reading ∧
      (s.goesRemote p = false → x.slot = s.claim d.queue ∧ x.slots = s.slotsFor d.queue p.len ∧
        t.claim d.queue = (s.claim d.queue + s.slotsFor d.queue p.len) % s.ringSize d.queue) := by
  rintro t rfl
  obtain ⟨que, stat, read⟩ := s.nameCounted_spec d p
  have remote : (s.nameCounted d p).goesRemote p = s.goesRemote p := by
    refine State.goesRemote_congr (read _ ?_ (by decide) ?_) p
    · simp only [RegRef.counts, R.FTX_CTL]
      omega
    · simp only [R.FTX_CTL, R.QCTX]
      omega
  obtain ⟨size, slots⟩ : (s.nameCounted d p).ringSize d.queue = s.ringSize d.queue ∧
      (s.nameCounted d p).slotsFor d.queue p.len = s.slotsFor d.queue p.len := by
    refine State.ring_congr (read _ ?_ ?_ ?_) p.len
    · simp only [RegRef.counts, R.QUE_RXCFG]
      omega
    · simp only [R.QUE_RXCFG, R.SCH_DECSTAT]
      omega
    · simp only [R.QUE_RXCFG, R.QCTX]
      omega
  have claim : (s.nameCounted d p).claim d.queue = s.claim d.queue := by rw [State.claim, que, State.unlink_que, State.claim]
  obtain ⟨x, dels, queueOf, packet, phase, decs, linked, regs, here⟩ := (s.nameCounted d p).beginNamed_spec d p
  rw [remote, size, slots, claim] at here
  rw [que, State.unlink_que] at dels decs linked
  exact ⟨decs, by rw [State.linked, linked, SMap.get_set_same], (State.get_congr (by rw [State.rd, regs, State.rd]) _).trans stat,
    x, dels, queueOf, packet, phase, here⟩

section naming
variable {s s0 : State} {pl : Fin 32} {d : Decision} (found : s.que.decs.find? (fun d => d.pipe == pl.val) = some d)
  (hs0 : s0 = { s with que := { s.que with decs := s.que.decs.filter (fun e => !(e.queue == d.queue && e.pktId == d.pktId)) } })
include found hs0

/-- A decision whose packet is gone, or whose queue is held, is undone. -/
theorem exec_dequeueName_gone (gone : (s.linked d.queue).find? (fun p => p.id == d.pktId) = none ∨ s.qstate d.queue = QS.HELD) :
    exec (.dequeueName pl) s = .next (s0.undoDecision d) := by
  rw [exec_dequeueName_eq found hs0]
  split
  · rfl
  · rename_i p here
    rw [if_pos (gone.resolve_left (by simp [here]))]

variable {p : QPkt} (here : (s.linked d.queue).find? (fun p => p.id == d.pktId) = some p)
include here

/-- A decision whose packet waits for slots or for an engine is undone. -/
theorem exec_dequeueName_cannot (drop : s.dequeueDrop d p = none) (cannot : s.cannotDeliver d p = true) :
    exec (.dequeueName pl) s = .next (s0.undoDecision d) := by
  rw [exec_dequeueName_eq found hs0, here]
  dsimp only
  rw [if_pos (And.intro drop cannot), ite_self]

theorem exec_dequeueName_drop (free : s.qstate d.queue ≠ QS.HELD) {st : Nat} (drop : s.dequeueDrop d p = some st) :
    exec (.dequeueName pl) s = .next (s0.dropAtDequeue d p (s.pathOk d p) st) := by
  rw [exec_dequeueName_eq found hs0, here]
  dsimp only
  rw [if_neg free, drop, if_neg (by simp)]

theorem exec_dequeueName_deliver (free : s.qstate d.queue ≠ QS.HELD) (drop : s.dequeueDrop d p = none) (can : s.cannotDeliver d p = false) :
    exec (.dequeueName pl) s = .next ((s0.nameCounted d p).beginNamed d p) := by
  rw [exec_dequeueName_eq found hs0, here]
  dsimp only
  rw [if_neg free, drop, if_neg (by simp [can])]

/-- A packet that is named: dropped for the first cause that applies, or delivered. -/
theorem exec_dequeueName_named (queue : d.queue < 65536) (port : d.pnode < 512) (nodes : ∀ e ∈ d.charged, e.1 < nodeCount)
    (free : s.qstate d.queue ≠ QS.HELD) (named : s.dequeueDrop d p ≠ none ∨ s.cannotDeliver d p = false) :
    ∃ t, exec (.dequeueName pl) s = .next t ∧ t.que.decs = s0.que.decs ∧
      t.linked d.queue = (s.linked d.queue).filter (fun x => x.id != p.id) ∧
      (s.dequeueDrop d p = none → t.get R.SCH_DECSTAT F.SCH_DECSTAT_DECISIONS =
          satAdd (s.get R.SCH_DECSTAT F.SCH_DECSTAT_DECISIONS) 1 (2 ^ F.SCH_DECSTAT_DECISIONS.w - 1) ∧
        ∃ x : Delivery, t.que.dels = s.que.dels ++ [x] ∧ x.q = d.queue ∧ x.pkt = p ∧ x.phase = .reading ∧
          (s.goesRemote p = false → x.slot = s.claim d.queue ∧ x.slots = s.slotsFor d.queue p.len ∧
            t.claim d.queue = (s.claim d.queue + s.slotsFor d.queue p.len) % s.ringSize d.queue)) ∧
      (∀ st, s.dequeueDrop d p = some st → t.que.dels = s.que.dels ∧
        t.que.pbuf = s.que.pbuf.filter (fun g => !p.gobs.contains g) ∧
        t.get R.SCH_DECSTAT F.SCH_DECSTAT_DEQDROPS =
          satAdd (s.get R.SCH_DECSTAT F.SCH_DECSTAT_DEQDROPS) 1 (2 ^ F.SCH_DECSTAT_DEQDROPS.w - 1)) ∧
      (s.pathOk d p = false → PathReported s t d.queue d.pnode) := by
  have linked : s0.linked d.queue = s.linked d.queue := by rw [State.linked, hs0, State.linked]
  cases drop : s.dequeueDrop d p with
  | none =>
    have can : s.cannotDeliver d p = false := named.resolve_left (by simp [drop])
    obtain ⟨decs, left, stat, delivery⟩ := s0.deliver_spec d p queue _ rfl
    refine ⟨_, exec_dequeueName_deliver found hs0 here free drop can, decs, linked ▸ left, fun _ => ?_, nofun, fun ends => ?_⟩
    · subst hs0
      exact ⟨stat, delivery⟩
    · rw [State.pathOk_of_dequeueDrop drop] at ends
      cases ends
  | some st =>
    obtain ⟨decs, left, dels, pbuf, stat, report⟩ := s0.dropAtDequeue_spec p (s.pathOk d p) st port nodes _ rfl
    refine ⟨_, exec_dequeueName_drop found hs0 here free drop, decs, linked ▸ left, nofun, fun _ _ => ?_, fun ends => ?_⟩
    · subst hs0
      exact ⟨dels, pbuf, stat⟩
    · refine (report ends).congr ?_ rfl
      rw [hs0]

end naming

/-- Settles O56: a decision charges the path it selects, a decision's packet is undone, dropped or delivered by the first test of naming that
applies, and a refill tick is a pass over the buckets that are not at reset. -/
theorem theSchedulerDecidesNamesAndRefills : Obligations.TheSchedulerDecidesNamesAndRefills := by
  unfold Obligations.TheSchedulerDecidesNamesAndRefills
  refine ⟨fun s pl => ⟨exec_dequeueDecision_none, ?_⟩, ?_, exec_refillTick_nodes⟩
  · intro p v u q s0 s1 s2 s3 pk on runs next hs0 svc sub queue packet hq hu huv hv hp
    obtain ⟨decs, epoch, charged, deficits, credit, mem, linked⟩ :=
      State.addDecision_decision (pl := pl) (pk := pk) (decision_schOnly hs0 svc sub queue) hq hu huv hv hp _ rfl _ rfl
    exact ⟨_, _, exec_dequeueDecision_some on runs next hs0 svc sub queue packet, decs, rfl, rfl, rfl, rfl, rfl, epoch, charged, deficits,
      credit, mem, linked⟩
  · intro s pl d s0 found queue port nodes hs0
    exact ⟨exec_dequeueName_gone found hs0, fun p here drop cannot => exec_dequeueName_cannot found hs0 here drop cannot,
      fun p here free named => exec_dequeueName_named found hs0 here queue port nodes free named⟩

end Sys2Proof.Machine
end

section
/-!
PROOFS. A read of the gather store whose bursts are sampled. Every burst of 64 bytes is a counted event (class 0x07 of R377); when that
event is sampled it also writes a record, which counts toward the four of its beat (R383, R385). `CountsOnly` leaves that count out of what
counting may change, so an access whose burst is sampled is not served in the sense of `Accesses`.
-/
namespace Sys2Proof.Machine

/-! ### A read that nothing holds back (R111, R120, R153) -/

/-- A gate does not check an access of an engine whose masters it does not know (R149). -/
theorem State.gateArrive_unchecked (s : State) (g a len kind origin who : Nat) (unchecked : gateChecks origin = false) :
    s.gateArrive g a len kind origin who = (true, s) := by
  simp [State.gateArrive, State.gateCheck, unchecked]

/-- A read past its gate, in its turn, is performed; region locks do not stand against reads (R127). -/
theorem State.gstAccess_read {s v u : State} {origin who a n : Nat} (mapped : s.gstMapped a = true) (serves : s.gstServes = true)
    (arrives : s.gateArrive (s.gateOfGst a) a n AK.read origin who = (true, v)) (idle : v.gstBusy a n who = false)
    (turn : v.gstTurn (gstClass origin) who [(a, n)] = some u) :
    s.gstAccess origin who a (.read n) = (u.gateFree (s.gateOfGst a) a n AK.read origin who).gstPerform origin a (.read n) := by
  simp [State.gstAccess, accLen, accKind, mapped, serves, arrives, idle, turn]

/-- With no error listed, a read gives the bytes that stand there, and only counts its bursts. -/
theorem State.gstPerform_read_clean {s : State} (clean : s.err = []) (origin a n : Nat) :
    s.gstPerform origin a (.read n) = (.data (s.bytes a n) true, s.gstBurst a n origin) := by
  rw [State.gstPerform, State.gstRead_clean clean]

/-- The counted event of a burst at the first byte of an access (class 0x07 of R377). -/
def State.burstEvent (s : State) (a origin : Nat) : Ev := ev 0x07 1 (some origin) (some (1, a)) (s.cgOf a)

/-- An access within one burst is one event. -/
theorem State.gstBurst_one {s : State} {a n : Nat} (origin : Nat) (runs : s.bit R.TAL_CTL F.TAL_CTL_FREEZE = false)
    (counts : s.tallyOn ≠ []) (one : burstsOf a n = 1) : s.gstBurst a n origin = s.tally (s.burstEvent a origin) := by
  simp [State.gstBurst, State.burstEvent, runs, counts, one]

/-- An access that ends with usable data answers with it. -/
theorem exec_gstAccess_data {s t : State} {o : Origin} {a : BitVec 37} {acc : GstAcc} {bs : List Byte}
    (served : s.gstAccess o.toNat 0 a.toNat acc = (.data bs true, t)) :
    exec (.gstAccess o a acc [] none) s = .next (t.emit (.readData (leValue (bs.map (·.toNat))))) := by
  change execGstAccess o a acc [] none s = _
  simp only [execGstAccess, State.flip, List.foldl_nil, served]

/-- Service leaves the number of records sampled in the beat. -/
theorem Served.smpBeat_eq {u t : State} (h : Served u t) : t.smpBeat = u.smpBeat := by
  obtain ⟨-, counts⟩ := h
  exact counts.smpBeat_eq

/-! ### The state that refutes the statement -/

/-- The module after reset with the gather store in service, and counter 0 set to its bursts, each of them sampled. -/
def samplingBursts : State :=
  (((((State.reset.setBit R.GST_CTL F.GST_CTL_ENABLE).setBit R.GST_STATUS F.GST_STATUS_INIT_DONE).put (R.TAL_SEL 0) F.TAL_SEL_CLASS 0x07).setBit
    (R.TAL_SEL 0) F.TAL_SEL_EN).setBit R.TAL_SMPCFG F.TAL_SMPCFG_EN)

/-- The tag of a delivery engine (R23). -/
def deliveryOrigin : Origin := 2 * 2 ^ 23

theorem samplingBursts_serves : samplingBursts.gstMapped 0 = true ∧ samplingBursts.gstServes = true ∧
    samplingBursts.gstBusy 0 8 0 = false ∧ samplingBursts.errsIn 0 8 = [] := by decide +kernel

theorem samplingBursts_gateArrive (g kind : Nat) :
    samplingBursts.gateArrive g 0 8 kind deliveryOrigin.toNat 0 = (true, samplingBursts) :=
  State.gateArrive_unchecked _ _ _ _ _ _ _ (by decide +kernel)

/-- No class asks for bursts. -/
theorem samplingBursts_undisputed : samplingBursts.undisputed deliveryOrigin.toNat := by
  intro g x hx _
  match x, hx with
  | 0, _ => rfl
  | 1, _ => rfl
  | 2, _ => rfl
  | 3, _ => rfl

/-- The read of a delivery engine at the first word of the gather store is in its turn, and passes. -/
def burstGranted : State :=
  ((samplingBursts.gstTurn (gstClass deliveryOrigin.toNat) 0 [(0, 8)]).getD samplingBursts).gateFree (samplingBursts.gateOfGst 0) 0 8 AK.read
    deliveryOrigin.toNat 0

theorem samplingBursts_gstAccess : samplingBursts.gstAccess deliveryOrigin.toNat 0 0 (.read 8) =
    burstGranted.gstPerform deliveryOrigin.toNat 0 (.read 8) := by
  obtain ⟨mapped, serves, idle, -⟩ := samplingBursts_serves
  have granted : (samplingBursts.gstTurn (gstClass deliveryOrigin.toNat) 0 [(0, 8)]).isSome = true := by decide +kernel
  obtain ⟨u, turn⟩ := Option.isSome_iff_exists.mp granted
  rw [State.gstAccess_read mapped serves (samplingBursts_gateArrive _ _) idle turn, burstGranted, turn, Option.getD_some]

/-- Its burst leaves the first sample record of the beat. -/
theorem burstGranted_smpBeat : (burstGranted.gstBurst 0 8 deliveryOrigin.toNat).smpBeat.2 = 1 := by
  rw [State.gstBurst_one _ (by decide +kernel) (by decide +kernel) (by decide +kernel),
    State.tally_eq_tallyOne (i := 0) _ (by decide +kernel) (by decide +kernel),
    State.tallyOne_eq_sampleWrite rfl (by decide +kernel) (by decide +kernel) (by decide +kernel) (by decide +kernel),
    State.sampleWrite_smpBeat _ _ (by decide +kernel) (by decide +kernel)]
  decide +kernel

theorem exec_samplingBursts : exec (.gstAccess deliveryOrigin 0 (.read 8) [] none) samplingBursts =
    .next ((burstGranted.gstBurst 0 8 deliveryOrigin.toNat).emit (.readData (burstGranted.word 0 8))) :=
  exec_gstAccess_data (samplingBursts_gstAccess.trans (State.gstPerform_read_clean (by decide +kernel) _ _ _))

/-- Refutes O43: its clause on a read says that the read, once served, changes nothing beside its effect but what `CountsOnly` lets counting
change; with bursts sampled, a delivery engine's read of the first word of the gather store also writes a sample record and so moves the
record count of the beat. -/
theorem not_gatherStoreServesScrubsAndRetires : ¬ Obligations.GatherStoreServesScrubsAndRetires := by
  unfold Obligations.GatherStoreServesScrubsAndRetires
  rintro ⟨accesses, -⟩
  obtain ⟨mapped, serves, idle, clean⟩ := samplingBursts_serves
  obtain ⟨past, -⟩ := accesses samplingBursts deliveryOrigin 0 0 rfl mapped serves
  obtain ⟨t, run, served⟩ := past (.read 8) (by decide) (congrArg Prod.fst (samplingBursts_gateArrive _ _)) idle samplingBursts_undisputed
    clean nofun
  obtain rfl := Host.Outcome.next.inj (exec_samplingBursts.symm.trans run)
  have sampled := served.smpBeat_eq
  rw [State.emit_smpBeat, State.emit_smpBeat] at sampled
  exact absurd (burstGranted_smpBeat.symm.trans (congrArg Prod.snd sampled)) (by decide +kernel)

end Sys2Proof.Machine
end

section
/-!
PROOFS. Region locks (R126 to R128). The two registers of an entry say whether it is held, over which bytes and by whom. A command either
grants one entry a range that meets no held one, or leaves every held entry held as it was or free, so that held ranges stay apart.
-/
namespace Sys2Proof.Machine

/-! ### The registers of the lock table -/

theorem locka_addr_inj {i j : Nat} (h : (R.GST_LOCKA i).addr = (R.GST_LOCKA j).addr) : i = j := by
  simp only [R.GST_LOCKA] at h
  omega

theorem locka_ne_locka {i j : Nat} (h : j ≠ i) : (R.GST_LOCKA j).addr ≠ (R.GST_LOCKA i).addr := fun e => h (locka_addr_inj e)

theorem locka_ne_lockb (i j : Nat) : (R.GST_LOCKA i).addr ≠ (R.GST_LOCKB j).addr := by
  simp only [R.GST_LOCKA, R.GST_LOCKB]
  omega

theorem locka_ne_lockstat (i : Nat) : (R.GST_LOCKA i).addr ≠ R.GST_LOCKSTAT.addr := by
  simp only [R.GST_LOCKA, R.GST_LOCKSTAT]
  omega

/-- The range of an entry follows from its register. -/
theorem State.lockRange_congr {s t : State} {i : Nat} (h : t.rd (R.GST_LOCKA i) = s.rd (R.GST_LOCKA i)) : t.lockRange i = s.lockRange i := by
  rw [State.lockRange, State.get, State.get, h, State.lockRange, State.get, State.get]

/-- Whether an entry is held follows from its register. -/
theorem State.lockValid_congr {s t : State} {i : Nat} (h : t.rd (R.GST_LOCKA i) = s.rd (R.GST_LOCKA i)) :
    t.bit (R.GST_LOCKA i) F.GST_LOCKA_VALID = s.bit (R.GST_LOCKA i) F.GST_LOCKA_VALID := by
  rw [State.bit, State.get, h, State.bit, State.get]

theorem SMap.mem_of_get_ne {β : Type} {m : SMap β} {d : β} {k : Nat} (h : SMap.get m d k ≠ d) : (k, SMap.get m d k) ∈ m := by
  induction m with
  | nil => exact absurd rfl h
  | cons e t ih =>
    rw [SMap.get] at h ⊢
    by_cases hk : e.1 = k
    · rw [if_pos hk, ← hk]
      exact List.mem_cons_self
    · rw [if_neg hk] at h ⊢
      exact List.mem_cons_of_mem _ (ih h)

/-- An entry that reads as held is among the entries held. -/
theorem State.mem_locksHeld {s : State} {i : Nat} (hi : i < 256) (valid : s.bit (R.GST_LOCKA i) F.GST_LOCKA_VALID = true) :
    i ∈ s.locksHeld := by
  have held : fieldOf (s.rd (R.GST_LOCKA i)) 4 1 = 1 := eq_of_beq valid
  have word : s.rd (R.GST_LOCKA i) = SMap.get s.regs 0 (R.GST_LOCKA i).addr := Nat.xor_zero _
  have listed : SMap.get s.regs 0 (R.GST_LOCKA i).addr ≠ 0 := by
    intro zero
    rw [word, zero] at held
    exact absurd held (by decide)
  refine List.mem_filterMap.mpr ⟨_, SMap.mem_of_get_ne listed, ?_⟩
  have place : (R.GST_LOCKA i).addr = 0x2001000 + 16 * i := rfl
  have index : ((R.GST_LOCKA i).addr - 0x2001000) / 16 = i := by omega
  rw [if_pos (by omega)]
  dsimp only
  rw [index, if_pos]
  exact beq_iff_eq.mpr held

/-! ### Held ranges stay apart -/

/-- Entries that are held as they were, or free, stay apart. -/
theorem locksDisjoint_of_kept {s t : State} (h : LocksDisjoint s) (kept : ∀ i, i < 256 → t.bit (R.GST_LOCKA i) F.GST_LOCKA_VALID = true →
    s.bit (R.GST_LOCKA i) F.GST_LOCKA_VALID = true ∧ t.lockRange i = s.lockRange i) : LocksDisjoint t := by
  intro i j hi hj apart vi vj
  obtain ⟨vi, ri⟩ := kept i hi vi
  obtain ⟨vj, rj⟩ := kept j hj vj
  rw [ri, rj]
  exact h i j hi hj apart vi vj

/-- Entries that read as they did, or are free, stay apart. -/
theorem locksDisjoint_of_same_or_free {s t : State} (h : LocksDisjoint s)
    (kept : ∀ i, t.rd (R.GST_LOCKA i) = s.rd (R.GST_LOCKA i) ∨ t.bit (R.GST_LOCKA i) F.GST_LOCKA_VALID = false) : LocksDisjoint t := by
  refine locksDisjoint_of_kept h fun i _ valid => ?_
  rcases kept i with same | free
  · exact ⟨State.lockValid_congr same ▸ valid, State.lockRange_congr same⟩
  · rw [free] at valid
    cases valid

/-- The bytes from `b` up, `n` of them, meet no held entry. -/
def State.lockApart (s : State) (b n : Nat) : Prop :=
  ∀ j ∈ s.locksHeld, b + n ≤ (s.lockRange j).1 ∨ (s.lockRange j).1 + (s.lockRange j).2 ≤ b

/-- One entry more, over bytes that meet no held one, leaves held entries apart. -/
theorem locksDisjoint_of_granted {s t : State} {i b n : Nat} (h : LocksDisjoint s) (apart : s.lockApart b n) (range : t.lockRange i = (b, n))
    (others : ∀ j, j ≠ i → t.rd (R.GST_LOCKA j) = s.rd (R.GST_LOCKA j)) : LocksDisjoint t := by
  have meets {j : Nat} (hj : j < 256) (hji : j ≠ i) (vj : t.bit (R.GST_LOCKA j) F.GST_LOCKA_VALID = true) :
      b + n ≤ (t.lockRange j).1 ∨ (t.lockRange j).1 + (t.lockRange j).2 ≤ b := by
    rw [State.lockRange_congr (others j hji)]
    exact apart j (State.mem_locksHeld hj (State.lockValid_congr (others j hji) ▸ vj))
  intro j k hj hk hjk vj vk
  by_cases ji : j = i
  · subst ji
    rw [range]
    exact meets hk (Ne.symm hjk) vk
  by_cases ki : k = i
  · subst ki
    rw [range]
    exact (meets hj hjk vj).symm
  · rw [State.lockRange_congr (others j ji), State.lockRange_congr (others k ki)]
    exact h j k hj hk hjk (State.lockValid_congr (others j ji) ▸ vj) (State.lockValid_congr (others k ki) ▸ vk)

/-- A command without effect is only counted. -/
theorem locksDisjoint_badLock {s : State} (h : LocksDisjoint s) : LocksDisjoint s.badLock :=
  locksDisjoint_of_same_or_free h fun i => .inl (State.rd_put_other _ _ _ _ _ (locka_ne_lockstat i))

/-! ### ACQUIRE (R126) -/

/-- What GST_LOCKA holds of an entry granted over the 2^(6 + z) bytes from 64 b up until `d`. -/
def lockWord (z b d : Nat) : Nat := z + 2 ^ 4 + b * 2 ^ 6 + d * 2 ^ 37

theorem lockWord_lt {z b d : Nat} (hz : z < 16) (hb : b < 2 ^ 31) (hd : d < 2 ^ 16) : lockWord z b d < 2 ^ 64 := by
  unfold lockWord
  omega

/-- Its fields SIZE_LOG2, VALID, EXPIRED, BASE and DEADLINE. -/
theorem lockWord_fields {z b d : Nat} (hz : z < 16) (hb : b < 2 ^ 31) (hd : d < 2 ^ 16) :
    fieldOf (lockWord z b d) 0 4 = z ∧ fieldOf (lockWord z b d) 4 1 = 1 ∧ fieldOf (lockWord z b d) 5 1 = 0 ∧
      fieldOf (lockWord z b d) 6 31 = b ∧ fieldOf (lockWord z b d) 37 16 = d := by
  unfold fieldOf lockWord
  omega

/-- The entry belongs to the tag `o`. -/
def State.lockGranted (s : State) (i o z b d : Nat) : State :=
  (s.wr (R.GST_LOCKA i) (lockWord z b d)).put (R.GST_LOCKB i) F.GST_LOCKB_HOLDER o

theorem State.lockGranted_rd (s : State) (i o z b d : Nat) : (s.lockGranted i o z b d).rd (R.GST_LOCKA i) = lockWord z b d % 2 ^ 64 := by
  rw [State.lockGranted, State.rd_put_other _ _ _ _ _ (locka_ne_lockb i i), State.rd_wr]

theorem State.lockGranted_rd_other (s : State) {i j : Nat} (o z b d : Nat) (h : j ≠ i) :
    (s.lockGranted i o z b d).rd (R.GST_LOCKA j) = s.rd (R.GST_LOCKA j) := by
  rw [State.lockGranted, State.rd_put_other _ _ _ _ _ (locka_ne_lockb j i), State.rd_wr_other _ _ _ _ (locka_ne_locka h)]

theorem State.lockGranted_only (s : State) (i o z b d : Nat) : Only [R.GST_LOCKA i, R.GST_LOCKB i] s (s.lockGranted i o z b d) :=
  (Only.wr _ _ _ _ (by simp)).trans (Only.put _ _ _ _ _ (by simp))

/-- The entry is free, and its range is aligned, lies within a page and meets no held one (R126). -/
def State.lockFits (s : State) (i b n : Nat) : Prop :=
  s.bit (R.GST_LOCKA i) F.GST_LOCKA_VALID = false ∧ b % n = 0 ∧ b / 2 ^ 21 = (b + n - 1) / 2 ^ 21 ∧ s.lockApart b n

/-- The range meets no held one when none of them clashes with it. -/
theorem State.lockApart_iff (s : State) (b n : Nat) : (s.locksHeld.any (fun j => decide (b < (s.lockRange j).1 + (s.lockRange j).2) &&
    decide ((s.lockRange j).1 < b + n))) = false ↔ s.lockApart b n := by
  simp only [List.any_eq_false, Bool.and_eq_true, decide_eq_true_eq, State.lockApart]
  refine forall₂_congr fun j _ => ?_
  omega

section granted
variable (s : State) (o : Origin) (i : Fin 256) (b : BitVec 31) (z : Fin 16) (d : BitVec 16)

/-- A granted entry shows the holder, the range and the deadline of its command. -/
theorem State.lockGranted_shows {t : State} (ht : t = s.lockGranted i.val o.toNat z.val b.toNat d.toNat) :
    t.holdsLock i.val o.toNat = true ∧ t.lockRange i.val = (b.toNat * 64, 2 ^ (6 + z.val)) ∧
      t.get (R.GST_LOCKA i.val) F.GST_LOCKA_DEADLINE = d.toNat ∧ t.bit (R.GST_LOCKA i.val) F.GST_LOCKA_EXPIRED = false := by
  have word : t.rd (R.GST_LOCKA i.val) = lockWord z.val b.toNat d.toNat := by
    rw [ht, State.lockGranted_rd, Nat.mod_eq_of_lt (lockWord_lt z.isLt b.isLt d.isLt)]
  have holder : t.get (R.GST_LOCKB i.val) F.GST_LOCKB_HOLDER = o.toNat := by
    rw [ht, State.lockGranted, State.get_put_same _ _ _ _ (by decide)]
    exact Nat.mod_eq_of_lt o.isLt
  obtain ⟨size, valid, expired, base, deadline⟩ := lockWord_fields z.isLt b.isLt d.isLt
  refine ⟨?_, ?_, ?_, ?_⟩
  · rw [State.holdsLock, holder, beq_self_eq_true, Bool.and_true, State.bit, State.get, word]
    exact beq_iff_eq.mpr valid
  · rw [State.lockRange, State.get, State.get, word]
    exact congrArg₂ (fun x y => (x * 64, 2 ^ (6 + y))) base size
  · rw [State.get, word]
    exact deadline
  · rw [State.bit, State.get, word]
    exact beq_eq_false_iff_ne.mpr (ne_of_eq_of_ne expired Nat.zero_ne_one)

theorem exec_regionLockAcquire_fits (fits : s.lockFits i.val (b.toNat * 64) (2 ^ (6 + z.val))) :
    exec (.regionLockAcquire o i b z d) s = .next (s.lockGranted i.val o.toNat z.val b.toNat d.toNat) := by
  obtain ⟨free, aligned, page, apart⟩ := fits
  refine if_pos ?_
  rw [free, (s.lockApart_iff _ _).mpr apart, aligned, ← page]
  simp only [beq_self_eq_true, Bool.not_false, Bool.and_self]

theorem exec_regionLockAcquire_refused (fits : ¬ s.lockFits i.val (b.toNat * 64) (2 ^ (6 + z.val))) :
    exec (.regionLockAcquire o i b z d) s = .next s.badLock := by
  refine if_neg fun granted => fits ?_
  simp only [Bool.and_eq_true, Bool.not_eq_true', beq_iff_eq] at granted
  obtain ⟨⟨⟨free, aligned⟩, page⟩, apart⟩ := granted
  exact ⟨free, aligned, page, (s.lockApart_iff _ _).mp apart⟩

theorem locksDisjoint_acquire {s t : State} (h : LocksDisjoint s) (run : exec (.regionLockAcquire o i b z d) s = .next t) :
    LocksDisjoint t := by
  by_cases fits : s.lockFits i.val (b.toNat * 64) (2 ^ (6 + z.val))
  · obtain rfl := Host.Outcome.next.inj ((exec_regionLockAcquire_fits s o i b z d fits).symm.trans run)
    obtain ⟨-, range, -⟩ := s.lockGranted_shows o i b z d rfl
    obtain ⟨-, -, -, apart⟩ := fits
    exact locksDisjoint_of_granted h apart range fun j hj => s.lockGranted_rd_other _ _ _ _ hj
  · obtain rfl := Host.Outcome.next.inj ((exec_regionLockAcquire_refused s o i b z d fits).symm.trans run)
    exact locksDisjoint_badLock h

end granted

/-! ### RENEW and RELEASE (R127) -/

/-- The deadline of an entry is reloaded. -/
def State.lockRenewed (s : State) (i d : Nat) : State :=
  (s.put (R.GST_LOCKA i) F.GST_LOCKA_DEADLINE d).put (R.GST_LOCKA i) F.GST_LOCKA_EXPIRED 0

section holder
variable (s : State) (i : Nat)

theorem State.lockRenewed_only (d : Nat) : Only [R.GST_LOCKA i] s (s.lockRenewed i d) :=
  (Only.put _ _ _ _ _ (by simp)).trans (Only.put _ _ _ _ _ (by simp))

theorem State.freeLock_only : Only [R.GST_LOCKA i] s (s.freeLock i) :=
  (Only.put _ _ _ _ _ (by simp)).trans (Only.put _ _ _ _ _ (by simp))

/-- What changes one entry's register leaves the others. -/
theorem Only.locka_other {s t : State} {i j : Nat} (h : Only [R.GST_LOCKA i] s t) (hj : j ≠ i) :
    t.rd (R.GST_LOCKA j) = s.rd (R.GST_LOCKA j) :=
  h.2 _ fun _ hx => List.mem_singleton.mp hx ▸ locka_ne_locka hj

/-- A renewed entry keeps its range and stays held as it was. -/
theorem State.lockRenewed_keeps (d : Nat) : (s.lockRenewed i d).lockRange i = s.lockRange i ∧
    (s.lockRenewed i d).bit (R.GST_LOCKA i) F.GST_LOCKA_VALID = s.bit (R.GST_LOCKA i) F.GST_LOCKA_VALID := by
  simp (disch := decide) only [State.lockRange, State.lockRenewed, State.get_put_field, State.bit_put_field, and_self]

theorem State.lockRenewed_deadline (d : Nat) : (s.lockRenewed i d).get (R.GST_LOCKA i) F.GST_LOCKA_DEADLINE = d % 2 ^ 16 ∧
    (s.lockRenewed i d).bit (R.GST_LOCKA i) F.GST_LOCKA_EXPIRED = false := by
  simp (disch := decide) only [State.lockRenewed, State.get_put_field, State.get_put_same, State.bit_put_same]
  exact ⟨rfl, rfl⟩

theorem State.lockRenewed_holdsLock (d o : Nat) : (s.lockRenewed i d).holdsLock i o = s.holdsLock i o := by
  obtain ⟨-, valid⟩ := s.lockRenewed_keeps i d
  rw [State.holdsLock, valid, State.lockRenewed, State.get_put_other _ _ _ _ _ _ (locka_ne_lockb i i).symm,
    State.get_put_other _ _ _ _ _ _ (locka_ne_lockb i i).symm, State.holdsLock]

theorem State.freeLock_free : (s.freeLock i).bit (R.GST_LOCKA i) F.GST_LOCKA_VALID = false := by
  simp (disch := decide) only [State.freeLock, State.bit_put_field, State.bit_put_same]
  rfl

/-- Freeing an entry leaves the others. -/
theorem State.freeLock_same_or_free (j : Nat) : (s.freeLock i).rd (R.GST_LOCKA j) = s.rd (R.GST_LOCKA j) ∨
    (s.freeLock i).bit (R.GST_LOCKA j) F.GST_LOCKA_VALID = false := by
  by_cases hj : j = i
  · exact .inr (hj ▸ s.freeLock_free i)
  · exact .inl ((s.freeLock_only i).locka_other hj)

variable {s}

theorem locksDisjoint_lockRenewed (h : LocksDisjoint s) (d : Nat) : LocksDisjoint (s.lockRenewed i d) := by
  refine locksDisjoint_of_kept h fun j _ valid => ?_
  by_cases hj : j = i
  · subst hj
    obtain ⟨range, kept⟩ := s.lockRenewed_keeps j d
    exact ⟨kept ▸ valid, range⟩
  · have same := (s.lockRenewed_only i d).locka_other hj
    exact ⟨State.lockValid_congr same ▸ valid, State.lockRange_congr same⟩

theorem locksDisjoint_freeLock (h : LocksDisjoint s) : LocksDisjoint (s.freeLock i) :=
  locksDisjoint_of_same_or_free h (s.freeLock_same_or_free i)

end holder

section command
variable {s : State} (o : Origin) (i : Fin 256) (d : BitVec 16)

theorem exec_regionLockRenew_holder (holds : s.holdsLock i.val o.toNat = true) :
    exec (.regionLockRenew o i d) s = .next (s.lockRenewed i.val d.toNat) := congrArg Host.Outcome.next (if_pos holds)

theorem exec_regionLockRelease_holder (holds : s.holdsLock i.val o.toNat = true) :
    exec (.regionLockRelease o i) s = .next (s.freeLock i.val) := congrArg Host.Outcome.next (if_pos holds)

theorem exec_regionLockRenew_other (other : s.holdsLock i.val o.toNat = false) :
    exec (.regionLockRenew o i d) s = .next s.badLock := congrArg Host.Outcome.next (if_neg (Bool.eq_false_iff.mp other))

theorem exec_regionLockRelease_other (other : s.holdsLock i.val o.toNat = false) :
    exec (.regionLockRelease o i) s = .next s.badLock := congrArg Host.Outcome.next (if_neg (Bool.eq_false_iff.mp other))

theorem locksDisjoint_renew {t : State} (h : LocksDisjoint s) (run : exec (.regionLockRenew o i d) s = .next t) : LocksDisjoint t := by
  cases holds : s.holdsLock i.val o.toNat with
  | true =>
    obtain rfl := Host.Outcome.next.inj ((exec_regionLockRenew_holder o i d holds).symm.trans run)
    exact locksDisjoint_lockRenewed i.val h d.toNat
  | false =>
    obtain rfl := Host.Outcome.next.inj ((exec_regionLockRenew_other o i d holds).symm.trans run)
    exact locksDisjoint_badLock h

theorem locksDisjoint_release {t : State} (h : LocksDisjoint s) (run : exec (.regionLockRelease o i) s = .next t) : LocksDisjoint t := by
  cases holds : s.holdsLock i.val o.toNat with
  | true =>
    obtain rfl := Host.Outcome.next.inj ((exec_regionLockRelease_holder o i holds).symm.trans run)
    exact locksDisjoint_freeLock i.val h
  | false =>
    obtain rfl := Host.Outcome.next.inj ((exec_regionLockRelease_other o i holds).symm.trans run)
    exact locksDisjoint_badLock h

end command

/-! ### GST_FORCE (R128) -/

/-- The tag equals ORIGIN under MASK. -/
def tagHit (origin mask h : Nat) : Bool := Nat.land h mask == Nat.land origin mask

/-- A force meets one entry of the lock table. -/
def State.forceOne (origin mask : Nat) (s : State) (i : Nat) : State :=
  if tagHit origin mask (s.get (R.GST_LOCKB i) F.GST_LOCKB_HOLDER) then s.freeLock i else s

theorem State.forceGst_eq (s : State) (origin mask : Nat) : s.forceGst origin mask =
    { s.locksHeld.foldl (State.forceOne origin mask) s with
      gst := { (s.locksHeld.foldl (State.forceOne origin mask) s).gst with
        seqs := (s.locksHeld.foldl (State.forceOne origin mask) s).gst.seqs.filter (fun e => !tagHit origin mask e.2.2.holder) } } := rfl

/-- `t` is `s` but for entries of the lock table that were freed, none of them with a holder that the force does not name. -/
structure Forced (origin mask : Nat) (s t : State) : Prop where
  frame : { t with regs := s.regs } = s
  holder : ∀ i, t.rd (R.GST_LOCKB i) = s.rd (R.GST_LOCKB i)
  spared : ∀ i, tagHit origin mask (s.get (R.GST_LOCKB i) F.GST_LOCKB_HOLDER) = false → t.rd (R.GST_LOCKA i) = s.rd (R.GST_LOCKA i)
  freed : ∀ i, t.rd (R.GST_LOCKA i) = s.rd (R.GST_LOCKA i) ∨ t.bit (R.GST_LOCKA i) F.GST_LOCKA_VALID = false

namespace Forced
variable {origin mask : Nat} {s t u : State}

theorem refl (origin mask : Nat) (s : State) : Forced origin mask s s := ⟨rfl, fun _ => rfl, fun _ _ => rfl, fun _ => .inl rfl⟩

theorem tagHit_eq (h : Forced origin mask s t) (i : Nat) : tagHit origin mask (t.get (R.GST_LOCKB i) F.GST_LOCKB_HOLDER) =
    tagHit origin mask (s.get (R.GST_LOCKB i) F.GST_LOCKB_HOLDER) := by
  rw [State.get, h.holder, State.get]

/-- What is free stays free. -/
theorem free_of_free (h : Forced origin mask s t) {i : Nat} (free : s.bit (R.GST_LOCKA i) F.GST_LOCKA_VALID = false) :
    t.bit (R.GST_LOCKA i) F.GST_LOCKA_VALID = false :=
  (h.freed i).elim (fun same => (State.lockValid_congr same).trans free) id

theorem trans (h : Forced origin mask s t) (k : Forced origin mask t u) : Forced origin mask s u where
  frame := (congrArg (fun x : State => { x with regs := s.regs }) k.frame).trans h.frame
  holder i := (k.holder i).trans (h.holder i)
  spared i other := (k.spared i ((h.tagHit_eq i).trans other)).trans (h.spared i other)
  freed i := (h.freed i).elim (fun same => (k.freed i).imp_left (·.trans same)) fun free => .inr (k.free_of_free free)

theorem forceOne (origin mask : Nat) (s : State) (i : Nat) : Forced origin mask s (State.forceOne origin mask s i) := by
  unfold State.forceOne
  split
  case isFalse => exact .refl origin mask s
  case isTrue hit =>
    have only := s.freeLock_only i
    refine ⟨only.1, fun j => only.2 _ fun _ hx => List.mem_singleton.mp hx ▸ (locka_ne_lockb i j).symm, fun j other => ?_,
      s.freeLock_same_or_free i⟩
    refine only.locka_other fun hj => ?_
    rw [hj, hit] at other
    cases other

theorem foldl (origin mask : Nat) (l : List Nat) (s : State) : Forced origin mask s (l.foldl (State.forceOne origin mask) s) :=
  List.foldlRecOn (motive := Forced origin mask s) l _ (.refl origin mask s) fun _ ht i _ => ht.trans (.forceOne origin mask _ i)

/-- An entry of the list is freed when the force names its holder. -/
theorem foldl_free {l : List Nat} {i : Nat} (hi : i ∈ l) (hit : tagHit origin mask (s.get (R.GST_LOCKB i) F.GST_LOCKB_HOLDER) = true) :
    (l.foldl (State.forceOne origin mask) s).bit (R.GST_LOCKA i) F.GST_LOCKA_VALID = false := by
  induction l generalizing s with
  | nil => cases hi
  | cons j l ih =>
    rw [List.foldl_cons]
    have one := Forced.forceOne origin mask s j
    rcases List.mem_cons.mp hi with rfl | later
    · refine (Forced.foldl origin mask l _).free_of_free ?_
      rw [State.forceOne, if_pos hit]
      exact s.freeLock_free i
    · exact ih later ((one.tagHit_eq i).trans hit)

end Forced

section force
variable (s : State) (origin mask : Nat)

/-- The lock table after a force. -/
theorem State.forceGst_locka (i : Nat) :
    (s.forceGst origin mask).rd (R.GST_LOCKA i) = (s.locksHeld.foldl (State.forceOne origin mask) s).rd (R.GST_LOCKA i) := rfl

theorem State.forceGst_free {i : Nat} (hi : i < 256) (valid : s.bit (R.GST_LOCKA i) F.GST_LOCKA_VALID = true)
    (hit : tagHit origin mask (s.get (R.GST_LOCKB i) F.GST_LOCKB_HOLDER) = true) :
    (s.forceGst origin mask).bit (R.GST_LOCKA i) F.GST_LOCKA_VALID = false :=
  (State.lockValid_congr (s.forceGst_locka origin mask i)).trans (Forced.foldl_free (State.mem_locksHeld hi valid) hit)

theorem State.forceGst_spared {i : Nat} (other : tagHit origin mask (s.get (R.GST_LOCKB i) F.GST_LOCKB_HOLDER) = false) :
    (s.forceGst origin mask).rd (R.GST_LOCKA i) = s.rd (R.GST_LOCKA i) := (Forced.foldl origin mask s.locksHeld s).spared i other

theorem State.forceGst_seqs : (s.forceGst origin mask).gst.seqs = s.gst.seqs.filter (fun e => !tagHit origin mask e.2.2.holder) := by
  have gst := (congrArg State.gst (Forced.foldl origin mask s.locksHeld s).frame :)
  rw [State.forceGst_eq, gst]

theorem State.forceGst_mem : (s.forceGst origin mask).mem = s.mem :=
  (congrArg State.mem (Forced.foldl origin mask s.locksHeld s).frame :)

theorem exec_gstForce (o m : BitVec 32) : exec (.gstForce o m) s = .next (s.forceGst o.toNat m.toNat) := rfl

variable {s} in
theorem locksDisjoint_forceGst (h : LocksDisjoint s) : LocksDisjoint (s.forceGst origin mask) :=
  locksDisjoint_of_same_or_free h fun i => (Forced.foldl origin mask s.locksHeld s).freed i

end force

/-! ### The statement -/

/-- Settles O44: an entry is granted only over bytes that meet no held one, and every other lock command leaves each held entry as it was
or frees it, so held ranges stay apart. -/
theorem regionLocksAreHeldByOneMasterAndNeverOverlap : Obligations.RegionLocksAreHeldByOneMasterAndNeverOverlap := by
  unfold Obligations.RegionLocksAreHeldByOneMasterAndNeverOverlap
  refine ⟨?_, ?_, ?_⟩
  · rintro s o i b z d _ rfl
    refine ⟨fun free aligned page apart => ?_, fun clash => exec_regionLockAcquire_refused s o i b z d ?_, fun holds => ⟨?_, ?_⟩,
      fun other => ⟨exec_regionLockRenew_other o i d other, exec_regionLockRelease_other o i other⟩, fun h t run => ?_⟩
    · obtain ⟨holds, range, deadline, fresh⟩ := s.lockGranted_shows o i b z d rfl
      exact ⟨_, exec_regionLockAcquire_fits s o i b z d ⟨free, aligned, page, apart⟩, holds, range, deadline, fresh,
        s.lockGranted_only _ _ _ _ _⟩
    · rintro ⟨free, aligned, -, apart⟩
      rcases clash with held | askew | ⟨j, hj, valid, above, below⟩
      · exact Bool.false_ne_true (free.symm.trans held)
      · exact askew aligned
      · have := apart j (State.mem_locksHeld hj valid)
        omega
    · obtain ⟨deadline, fresh⟩ := s.lockRenewed_deadline i.val d.toNat
      obtain ⟨range, -⟩ := s.lockRenewed_keeps i.val d.toNat
      exact ⟨_, exec_regionLockRenew_holder o i d holds, deadline.trans (Nat.mod_eq_of_lt d.isLt), fresh,
        (s.lockRenewed_holdsLock _ _ _).trans holds, range, s.lockRenewed_only _ _⟩
    · exact ⟨_, exec_regionLockRelease_holder o i holds, s.freeLock_free _, s.freeLock_only _⟩
    · rcases run with run | run | run
      · exact locksDisjoint_acquire o i b z d h run
      · exact locksDisjoint_renew o i d h run
      · exact locksDisjoint_release o i h run
  · intro s o m
    refine ⟨_, exec_gstForce s o m, fun i hi valid => ⟨fun hit => ?_, fun other => ?_⟩, fun e he => ?_, s.forceGst_mem _ _⟩
    · exact s.forceGst_free _ _ hi valid (beq_iff_eq.mpr hit)
    · exact s.forceGst_spared _ _ (beq_eq_false_iff_ne.mpr other)
    · rw [State.forceGst_seqs, List.mem_filter] at he
      obtain ⟨was, other⟩ := he
      rw [Bool.not_eq_true'] at other
      exact ⟨was, beq_eq_false_iff_ne.mp other⟩
  · intro s t o m h run
    obtain rfl := Host.Outcome.next.inj ((exec_gstForce s o m).symm.trans run)
    exact locksDisjoint_forceGst _ _ h

end Sys2Proof.Machine
end

section
/-!
PROOFS. The performance of a buffered store (R137, R172, R190): what an access of memory, and the record of one that fails, leave of the byte
memories. Gates, turns and counting change none of them, so only the stored bytes differ.
-/
namespace Sys2Proof.Machine

/-! ### Bytes that stay -/

/-- `t` has the byte memories of `s` and the word errors of its gather store. -/
structure SameMemory (s t : State) : Prop where
  mem : t.mem = s.mem
  err : t.err = s.err

namespace SameMemory

theorem refl (s : State) : SameMemory s s := ⟨rfl, rfl⟩

variable {s t u : State}

theorem trans (h : SameMemory s t) (k : SameMemory t u) : SameMemory s u := ⟨k.mem.trans h.mem, k.err.trans h.err⟩

theorem counted (h : Counted s t) : SameMemory s t := ⟨h.mem_eq, h.err_eq⟩

theorem wr (h : SameMemory s t) (r : RegRef) (v : Nat) : SameMemory s (t.wr r v) := h.trans ⟨rfl, rfl⟩
theorem put (h : SameMemory s t) (r : RegRef) (f : Fld) (v : Nat) : SameMemory s (t.put r f v) := h.wr r _
theorem setCore (h : SameMemory s t) (c : Nat) (x : Core) : SameMemory s (t.setCore c x) := h.trans ⟨rfl, rfl⟩
theorem gst (h : SameMemory s t) (g : Gst) : SameMemory s { t with gst := g } := h.trans ⟨rfl, rfl⟩
theorem reports (h : SameMemory s t) (l : List Report) : SameMemory s { t with reports := l } := h.trans ⟨rfl, rfl⟩

theorem ite {p : Prop} [Decidable p] (h : SameMemory s t) (k : SameMemory s u) : SameMemory s (if p then t else u) := by
  split
  · exact h
  · exact k

theorem errsIn_eq (h : SameMemory s t) (a n : Nat) : t.errsIn a n = s.errsIn a n := by
  rw [State.errsIn, h.err, State.errsIn]

end SameMemory

/-- Bytes outside the `n` from `a` up read in `t` as they do in `s`. -/
def SameOutside (a n : Nat) (s t : State) : Prop := ∀ x, x < a ∨ a + n ≤ x → t.byte x = s.byte x

namespace SameOutside

variable {a n : Nat} {s t u : State}

theorem trans (h : SameOutside a n s t) (k : SameOutside a n t u) : SameOutside a n s u := fun x out => (k x out).trans (h x out)

theorem of_same_mem (h : t.mem = s.mem) : SameOutside a n s t := fun x _ => by rw [State.byte, h, State.byte]

theorem store (s : State) (a : Nat) (bs : List Byte) : SameOutside a bs.length s (s.store a bs) :=
  fun _ out => get_memStore_outside _ _ _ _ out

theorem storeWord (s : State) (a v n : Nat) : SameOutside a n s (s.storeWord a v n) := by
  have stored := store s a (leBytes v n)
  rwa [leBytes_length] at stored

end SameOutside

/-! ### Gates and turns (R120, R153, R156) -/

theorem State.gateViolation_same (s : State) (g a len kind origin : Nat) (rgn : Option Region) :
    SameMemory s (s.gateViolation g a len kind origin rgn) := by
  have counted : SameMemory s (s.bump (R.GAT_GSTAT g) F.GAT_GSTAT_VIOLATIONS 1) := (SameMemory.refl s).put _ _ _
  unfold State.gateViolation
  dsimp only
  refine ((SameMemory.ite ?_ ?_).trans (.counted (State.tally_counted _ _))).reports _
  · exact counted.put _ _ _
  · exact (counted.wr _ _).wr _ _

theorem State.gateCheck_same (s : State) (g a len kind origin : Nat) : SameMemory s (s.gateCheck g a len kind origin).2 := by
  have granted : SameMemory s (s.tally (ev 0x08 1 (some origin) (some (gateSpace g, a)) g)) := .counted (s.tally_counted _)
  have violated := s.gateViolation_same g a len kind origin
  unfold State.gateCheck
  dsimp only
  generalize firstDenied (s.gateRegions true g) (s.masterSets g origin) kind (a + len) 600 a = denied
  split
  · exact .refl s
  split
  · split
    · exact granted
    · exact violated none
  · cases denied with
    | none => exact granted
    | some b => exact violated _

theorem State.gateArrive_same (s : State) (g a len kind origin who : Nat) : SameMemory s (s.gateArrive g a len kind origin who).2 := by
  unfold State.gateArrive
  split
  · exact .refl s
  · exact s.gateCheck_same _ _ _ _ _

theorem State.gstTurn_same {s t : State} {c : Option Nat} {who : Nat} {ps : List (Nat × Nat)} (h : s.gstTurn c who ps = some t) :
    SameMemory s t := by
  obtain ⟨g, rfl⟩ := State.gstTurn_gst h
  exact ⟨rfl, rfl⟩

/-! ### The gather store (R111, R113) -/

/-- With no error listed in its words, a read only counts. -/
theorem State.gstRead_of_errsIn {s : State} {a n : Nat} (clean : s.errsIn a n = []) (origin : Nat) :
    s.gstRead a n origin = (s.bytes a n, true, s.gstBurst a n origin) := by
  have burst := s.gstBurst_counted a n origin
  rw [State.gstRead, State.gstDecode, (SameMemory.counted burst).errsIn_eq, clean, List.foldl_nil]
  simp only [State.bytes_congr burst.mem_eq]

/-- With no error listed in its words, a write stores its bytes and no others. -/
theorem State.gstStore'_of_errsIn {s : State} {a : Nat} {bs : List Byte} (clean : s.errsIn a bs.length = []) (origin : Nat) :
    SameOutside a bs.length s (s.gstStore' a origin bs).2 := by
  have burst := SameMemory.counted (s.gstBurst_counted a bs.length origin)
  have stored : SameOutside a bs.length s ((s.gstBurst a bs.length origin).store a bs) :=
    (SameOutside.of_same_mem burst.mem).trans (SameOutside.store _ _ _)
  unfold State.gstStore'
  dsimp only
  split
  · exact .of_same_mem rfl
  · simp only [burst.errsIn_eq, clean, List.foldl_nil]
    split
    · exact stored.trans (.of_same_mem rfl)
    · exact stored

/-- An atomic is one of a 64-bit word (R173). -/
def accOfWord : GstAcc → Prop
  | .atomic _ n _ _ => n = 8
  | _ => True

theorem State.gstPerform_outside {s : State} {a : Nat} {acc : GstAcc} (word : accOfWord acc) (clean : s.errsIn a (accLen acc) = [])
    (origin : Nat) : SameOutside a (accLen acc) s (s.gstPerform origin a acc).2 := by
  cases acc with
  | read n =>
    rw [State.gstPerform, State.gstRead_of_errsIn (n := n) clean]
    exact .of_same_mem (s.gstBurst_counted a n origin).mem_eq
  | write bs => exact State.gstStore'_of_errsIn clean origin
  | atomic op n x c =>
    obtain rfl : n = 8 := word
    rw [State.gstPerform, State.gstRead_of_errsIn (n := 8) clean]
    dsimp only
    rw [if_pos rfl]
    have counted := (s.gstBurst_counted a 8 origin).trans ((s.gstBurst a 8 origin).tally_counted
      (ev 0x04 1 (some origin) (some (1, a)) ((s.gstBurst a 8 origin).cgOf a)))
    have same := SameMemory.counted counted
    have stored := State.gstStore'_of_errsIn (bs := leBytes (atomResult op (leValue ((s.bytes a 8).map (·.toNat))) x.toNat c.toNat) 8)
      (by rw [leBytes_length]; exact (same.errsIn_eq a 8).trans clean) origin
    rw [leBytes_length] at stored
    exact (SameOutside.of_same_mem same.mem).trans stored

/-- An access to the gather store changes no byte outside its own while its words are free of errors. -/
theorem State.gstAccess_outside {s : State} {a : Nat} {acc : GstAcc} (word : accOfWord acc) (clean : s.errsIn a (accLen acc) = [])
    (origin who : Nat) : SameOutside a (accLen acc) s (s.gstAccess origin who a acc).2 := by
  unfold State.gstAccess
  extract_lets n k g
  split
  · exact .of_same_mem rfl
  have arrived := s.gateArrive_same g a n k origin who
  split
  rename_i granted u arrives
  rw [arrives] at arrived
  split
  · exact .of_same_mem arrived.mem
  split
  · exact .of_same_mem ((State.gateBind_mem _ _ _ _ _ _ _).trans arrived.mem)
  split
  · exact .of_same_mem arrived.mem
  split
  · exact .of_same_mem ((State.gateBind_mem _ _ _ _ _ _ _).trans arrived.mem)
  · rename_i t turn
    have same : SameMemory s (t.gateFree g a n k origin who) := (arrived.trans (State.gstTurn_same turn)).trans ⟨rfl, rfl⟩
    exact (SameOutside.of_same_mem same.mem).trans (State.gstPerform_outside word ((same.errsIn_eq _ _).trans clean) origin)

/-! ### Accesses of an agent (R171 to R174) -/

theorem State.countAccess_counted (s : State) (ag : Agent) (origin a : Nat) (acc : GstAcc) : Counted s (s.countAccess ag origin a acc) :=
  Counted.ite (Counted.ite (Counted.refl s) (s.tally_counted _)) (s.tally_counted _)

/-- What performing an access at `place` makes of a state. -/
def State.performAt (s : State) (place : Nat) : GstAcc → State
  | .read _ => s
  | .write bs => s.store place bs
  | .atomic op _ x c => s.storeWord place (atomResult op (s.word place 8) x.toNat c.toNat) 8

theorem State.performAt_outside {acc : GstAcc} (word : accOfWord acc) (s : State) (place : Nat) :
    SameOutside place (accLen acc) s (s.performAt place acc) := by
  cases acc with
  | read n => exact .of_same_mem rfl
  | write bs => exact .store _ _ _
  | atomic op n x c =>
    obtain rfl : n = 8 := word
    exact .storeWord _ _ _ _

/-- An access to local memory is performed or denied by its gate (R148, R197). -/
theorem State.localAccess_core (s : State) (c : Fin 32) (origin off : Nat) (acc : GstAcc) :
    ∃ u, SameMemory s u ∧ ((s.localAccess (.core c) origin off acc).2 = u ∨
      (s.localAccess (.core c) origin off acc).2 = u.performAt (MB.localMem + off) acc) := by
  refine ⟨_, s.gateCheck_same gateLocal off (accLen acc) (accKind acc) origin, ?_⟩
  unfold State.localAccess
  generalize s.gateCheck gateLocal off (accLen acc) (accKind acc) origin = r
  obtain ⟨granted, u⟩ := r
  cases granted with
  | false => exact .inl rfl
  | true => cases acc <;> exact .inr rfl

/-- An access of a core to memory changes no byte outside its own, while the words it touches in the gather store are free of errors. -/
theorem State.memAccess_outside {s : State} {a : Nat} {acc : GstAcc} (word : accOfWord acc)
    (clean : spaceOf a = 1 → s.errsIn (offOf a) (accLen acc) = []) (c : Fin 32) (who origin : Nat) :
    SameOutside (State.home (.core c) a) (accLen acc) s (s.memAccess (.core c) who origin a acc).2 := by
  have counts (u : State) : (u.countAccess (.core c) origin a acc).mem = u.mem := (u.countAccess_counted _ _ _ _).mem_eq
  unfold State.memAccess
  split
  · exact .of_same_mem rfl
  rename_i normal
  split
  · rename_i inner
    have home : State.home (.core c) a = MB.localMem + offOf a := by simp [State.home, inner]
    rw [home]
    obtain ⟨u, same, ends⟩ := s.localAccess_core c origin (offOf a) acc
    have accessed : SameOutside (MB.localMem + offOf a) (accLen acc) s (s.localAccess (.core c) origin (offOf a) acc).2 := by
      rcases ends with ends | ends
      · exact ends ▸ .of_same_mem same.mem
      · exact ends ▸ (SameOutside.of_same_mem same.mem).trans (u.performAt_outside word _)
    split
    · rename_i bs v run
      rw [run] at accessed
      exact accessed.trans (.of_same_mem (counts v))
    · exact accessed
  · rename_i notLocal
    have gst : spaceOf a = 1 := by
      by_contra other
      simp [normalAddr, notLocal, other] at normal
    have home : State.home (.core c) a = offOf a := by simp [State.home, gst, MB.gst]
    have accessed := State.gstAccess_outside word (clean gst) origin who
    rw [home]
    generalize s.gstAccess origin who (offOf a) acc = r at accessed ⊢
    obtain ⟨ends, u⟩ := r
    cases ends with
    | wait | refused | denied | locked => exact accessed
    | done => exact accessed.trans (.of_same_mem (counts u))
    | data bs ok =>
      cases ok with
      | false => exact accessed
      | true => exact accessed.trans (.of_same_mem (counts u))

/-- The marks of an atomic change no byte (R174). -/
theorem State.seqAtomic_outside {s : State} {a : Nat} {acc : GstAcc} (word : accOfWord acc)
    (clean : spaceOf a = 1 → s.errsIn (offOf a) (accLen acc) = []) (c : Fin 32) (who origin : Nat) (opn cls : Bool) :
    SameOutside (State.home (.core c) a) (accLen acc) s (s.seqAtomic c.val who origin a acc opn cls).2 := by
  have accessed := State.memAccess_outside word clean (⟨c.val % 32, Nat.mod_lt _ (by decide)⟩ : Fin 32) who origin
  unfold State.seqAtomic
  dsimp only
  split
  · exact .of_same_mem rfl
  generalize s.memAccess (.core ⟨c.val % 32, Nat.mod_lt _ (by decide)⟩) who origin a acc = r at accessed ⊢
  obtain ⟨ends, u⟩ := r
  have marked (p : Prop) [Decidable p] (line : Nat) : SameMemory u (if cls then (if p then u.openSeq line c.val origin else u).closeSeq line c.val
      else if p then u.openSeq line c.val origin else u) :=
    have opened := SameMemory.ite (p := p) ((SameMemory.refl u).gst _) (SameMemory.refl u)
    SameMemory.ite (opened.gst _) opened
  cases ends with
  | wait => exact accessed
  | fail k => exact accessed.trans (.of_same_mem (marked _ _).mem)
  | ok bs => exact accessed.trans (.of_same_mem (marked _ _).mem)

/-! ### A store that fails, and what a core does once its buffer is empty (R188, R190, R214) -/

theorem State.switchCore_same (s : State) (c : Nat) : SameMemory s (s.switchCore c) := by
  have switched (u : State) : SameMemory u u.finishSwap := SameMemory.ite (((SameMemory.refl u).put _ _ _).put _ _ _) (.refl u)
  exact SameMemory.ite ((((SameMemory.refl s).put _ _ _).put _ _ _).trans (switched _)) (.refl s)

theorem State.takeover_same (s : State) (c : Nat) (discard : Bool) : SameMemory s (s.takeover c discard) := by
  unfold State.takeover
  extract_lets ph marked x x' done spares
  have forgotten : SameMemory s done := by
    have mark : SameMemory s marked := (SameMemory.refl s).put _ _ _
    exact SameMemory.ite ((mark.gst _).gst _) (mark.gst _)
  clear_value done
  split
  · exact (((forgotten.setCore _ _).put _ _ _).trans (State.switchCore_same _ _)).reports _
  · exact ((forgotten.setCore _ _).put _ _ _).put _ _ _

theorem State.coreExc_same (s : State) (c code addr : Nat) : SameMemory s (s.coreExc c code addr) := by
  unfold State.coreExc
  extract_lets x reported
  have report : SameMemory s reported := (SameMemory.refl s).reports _
  clear_value reported
  split
  · split
    · exact report.trans (reported.takeover_same _ _)
    · exact (report.setCore _ _).trans (State.switchCore_same _ _)
  · exact ((SameMemory.refl s).gst _).setCore _ _

theorem State.settleFault_same (s : State) (c : Nat) : SameMemory s (s.settleFault c) := by
  unfold State.settleFault
  split
  · exact SameMemory.ite (((SameMemory.refl s).setCore _ _).trans (State.coreExc_same _ _ _ _)) (.refl s)
  · exact .refl s

/-! ### The statement -/

/-- The access of a buffered entry, at its target, changes no byte outside the entry's own. -/
theorem State.entryAccess_outside {s : State} {e : StoreEnt} (clean : spaceOf e.addr = 1 → s.errsIn (offOf e.addr) e.len = []) (c : Fin 32) :
    SameOutside (State.home (.core c) e.addr) e.len s (s.entryAccess c.val e).2 := by
  unfold State.entryAccess
  cases kind : e.atom with
  | none =>
    have len : e.len = e.data.length := by simp [StoreEnt.len, kind]
    rw [len] at clean ⊢
    exact State.memAccess_outside (acc := .write e.data) trivial clean ⟨c.val % 32, Nat.mod_lt _ (by decide)⟩ _ _
  | some op =>
    have len : e.len = 8 := by simp [StoreEnt.len, kind]
    rw [len] at clean ⊢
    exact State.seqAtomic_outside (acc := .atomic op 8 (.ofNat 64 e.operand) 0) rfl clean c _ _ _ _

/-- Performing a buffered store changes no byte outside its entry, whether it succeeds, fails or must wait. -/
theorem State.performStore_outside {s : State} {c : Fin 32} {i : Nat} {e : StoreEnt} (entry : (s.core c.val).sb[i]? = some e)
    (clean : spaceOf e.addr = 1 → s.errsIn (offOf e.addr) e.len = []) :
    SameOutside (State.home (.core c) e.addr) e.len s (s.performStore c.val i).2 := by
  have accessed := State.entryAccess_outside clean c
  unfold State.performStore
  simp only [entry]
  generalize s.entryAccess c.val e = r at accessed ⊢
  obtain ⟨ends, u⟩ := r
  have dropped : SameMemory u (u.dropStore c.val i) := (SameMemory.refl u).setCore _ _
  cases ends with
  | wait => exact accessed
  | fail k =>
    have recorded : SameMemory u ((u.dropStore c.val i).storeErr c.val e.addr k) := dropped.setCore _ _
    exact accessed.trans (.of_same_mem (recorded.trans (State.settleFault_same _ _)).mem)
  | ok bs => exact accessed.trans (.of_same_mem (dropped.trans (State.settleFault_same _ _)).mem)

theorem exec_storePerformed (s : State) (c : Fin 32) (i : Fin 16) : exec (.storePerformed c i) s =
    .next (if (s.core c.val).mayPerform i.val && s.entrySucceeds c.val i.val != some false then (s.performStore c.val i.val).2 else s) := rfl

/-- Settles O12: the access of the entry changes only its bytes, at whatever target, and leaving the buffer, recording a failure and
settling a waiting fault change none. -/
theorem performedStoreChangesOnlyItsBytes : Obligations.PerformedStoreChangesOnlyItsBytes := by
  unfold Obligations.PerformedStoreChangesOnlyItsBytes
  intro s t c i e entry clean run
  obtain rfl := Host.Outcome.next.inj ((exec_storePerformed s c i).symm.trans run)
  split
  · exact State.performStore_outside entry clean
  · exact fun x _ => rfl

end Sys2Proof.Machine
end

section
/-!
PROOFS. Sampled retirements (R383, R385) against `Completes`, for a store of a core and for a fence. Both instructions do what their rules
say; `Completes` leaves the record count of the beat out of what counting may change, so a retirement that is sampled contradicts it.
-/
namespace Sys2Proof.Machine

/-! ### Instructions that complete at once (R139, R172) -/

/-- FENCE.N with no normal store buffered completes and changes nothing else. -/
theorem exec_fenceN_clear {s : State} {ag : Agent} (ready : s.ready ag) (clear : ((s.begun ag).agent ag).sbNormal = false) :
    exec (.fenceN ⟨ag, 0⟩) s = .next (((s.begun ag).retireInsn ag (0x13 + 1 * 2 ^ 6) (s.agent ag).pc).complete1 ag) := by
  obtain ⟨live, uncovered, -⟩ := ready
  refine congrArg Host.Outcome.next ((if_pos rfl).trans (State.issue_next live uncovered (if_neg ?_)))
  exact Bool.eq_false_iff.mp clear

/-- Core `c` with a store of the low `2 ^ sz` bytes of gD behind the others in its buffer. -/
def State.stBuffered (s : State) (c rd ra : Fin 32) (sz : Fin 4) (ta : Bool) (disp : BitVec 20) : State :=
  let x := s.core c.val
  let a := effAddr (x.rg ra.val) disp.toNat
  s.setCore c.val { x with sb := x.sb ++
    [⟨a, leBytes (x.rg rd.val) (2 ^ sz.val), !normalAddr a || ta, none, 0, false, false, s.agentOrigin (.core c), false, 0⟩] }

/-- ST of a core that raises nothing enters the store buffer and completes. -/
theorem exec_st_buffered {s u : State} {c rd ra : Fin 32} {sz : Fin 4} {ta : Bool} {disp : BitVec 20} (begun : u = s.begun (.core c))
    (ready : s.ready (.core c))
    (legal : accessExc (.core c) (u.core c.val) (effAddr ((u.core c.val).rg ra.val) disp.toNat) (2 ^ sz.val) = none)
    (room : (u.core c.val).sb.length < sbSize) :
    exec (.st ⟨.core c, 0⟩ rd ra sz ta disp) s = .next (((u.stBuffered c rd ra sz ta disp).retireInsn (.core c)
      (syl 0x11 rd.val ra.val 0 0 + sz.val * 2 ^ 16 + bit01 ta * 2 ^ 19 + disp.toNat * 2 ^ 20) (s.agent (.core c)).pc).complete1 (.core c)) := by
  obtain ⟨live, uncovered, -⟩ := ready
  refine congrArg Host.Outcome.next ((if_pos rfl).trans (State.issue_next live uncovered ?_))
  subst begun
  have legal' : accessExc (.core c) ((s.begun (.core c)).agent (.core c))
      (effAddr (((s.begun (.core c)).agent (.core c)).rg ra.val) disp.toNat) (2 ^ sz.val) = none := legal
  simp only [legal']
  exact if_neg (Nat.not_le.mpr room)

/-! ### A retirement that is sampled (R383, R385) -/

/-- An event that the sampled counter takes in its turn leaves the first record of a beat. -/
theorem State.tally_smpBeat_first {s t : State} {e : Ev} {i : Nat} (runs : s.bit R.TAL_CTL F.TAL_CTL_FREEZE = false) (on : s.tallyOn = [i])
    (ht : t = s.tallyAdd i e.weight) (passes : s.tallyPasses i e = true)
    (enabled : t.bit R.TAL_SMPCFG F.TAL_SMPCFG_EN = true ∧ t.get R.TAL_SMPCFG F.TAL_SMPCFG_CNT = i) (cls : sampledClass e.cls = true)
    (turn : t.smpSeen % 2 ^ t.get R.TAL_SMPCFG F.TAL_SMPCFG_PERIOD_LOG2 = 0) (first : t.smpBeat.2 = 0) (room : t.smpCount ≠ 4096) :
    (s.tally e).smpBeat.2 = 1 := by
  have few : t.smpBeat.2 < 4 := by omega
  rw [State.tally_eq_tallyOne e runs on, State.tallyOne_eq_sampleWrite ht passes enabled cls turn,
    State.sampleWrite_smpBeat { t with smpSeen := t.smpSeen + 1 } e few room, first, ite_self]

/-- `samplingRetires` with other cores and lanes. -/
def samplingWith (g : Gaf) : State := { samplingRetires with gaf := g }

/-- The first event that counter 0 counts. -/
theorem samplingWith_tallyAdd (g : Gaf) : (samplingWith g).tallyAdd 0 1 = (samplingWith g).wr (R.TAL_CNT 0) 1 := by
  have zero : (samplingWith g).rd (R.TAL_CNT 0) = 0 := by
    change samplingRetires.rd (R.TAL_CNT 0) = 0
    decide +kernel
  rw [State.tallyAdd, zero]
  exact if_neg (by decide)

/-- `samplingRetires` once counter 0 has counted an event. -/
def samplingCounted : State := samplingRetires.wr (R.TAL_CNT 0) 1

/-- Whatever the cores hold, an event that counter 0 takes leaves the first record of the beat. -/
theorem samplingWith_tally_smpBeat (g : Gaf) (e : Ev) (weight : e.weight = 1) (cls : sampledClass e.cls = true)
    (passes : (samplingWith g).tallyPasses 0 e = true) : ((samplingWith g).tally e).smpBeat.2 = 1 := by
  have on : samplingRetires.tallyOn = [0] := by decide +kernel
  have runs : samplingRetires.bit R.TAL_CTL F.TAL_CTL_FREEZE = false := by decide +kernel
  have enabled : samplingCounted.bit R.TAL_SMPCFG F.TAL_SMPCFG_EN = true ∧
      samplingCounted.get R.TAL_SMPCFG F.TAL_SMPCFG_CNT = 0 := by decide +kernel
  have turn : samplingCounted.smpSeen % 2 ^ samplingCounted.get R.TAL_SMPCFG F.TAL_SMPCFG_PERIOD_LOG2 = 0 := by decide +kernel
  have first : samplingCounted.smpBeat.2 = 0 := by decide +kernel
  have room : samplingCounted.smpCount ≠ 4096 := by decide +kernel
  exact State.tally_smpBeat_first (t := (samplingWith g).wr (R.TAL_CNT 0) 1) runs on (by rw [weight, samplingWith_tallyAdd]) passes enabled cls
    turn first room

/-- `Completes` fails of an instruction of core 0 that retires in `samplingRetires`: its sample record moves the record count of the beat. -/
theorem not_completes_of_sampled {i : Instr} {u v : State} {insn pc : Nat}
    (run : exec i samplingRetires = .next ((v.retireInsn (.core 0) insn pc).complete1 (.core 0))) (coresOnly : v = samplingWith v.gaf)
    (passes : v.tallyPasses 0 (ev 0x01 1 (some (v.agentOrigin (.core 0))) none 0) = true)
    (same : u.smpBeat = samplingRetires.smpBeat) : ¬ Completes samplingRetires i u := by
  rintro ⟨t, run', counts⟩
  obtain rfl := Host.Outcome.next.inj (run.symm.trans run')
  have sampled : (v.retireInsn (.core 0) insn pc).smpBeat.2 = 1 := by
    rw [coresOnly] at passes ⊢
    exact samplingWith_tally_smpBeat _ _ rfl rfl passes
  have kept : (v.retireInsn (.core 0) insn pc).smpBeat = samplingRetires.smpBeat :=
    (State.complete1_smpBeat _ _).symm.trans (counts.smpBeat_eq.trans same)
  rw [kept] at sampled
  exact absurd sampled (by decide +kernel)

/-! ### The statements -/

/-- Refutes O10: its clause for ST of a core says that the store changes nothing beside the buffer and the core's own step but what
`CountsOnly` lets counting change; with retired instructions sampled, core 0's store of a byte at address 0 also writes a sample record. -/
theorem not_loadsReadAndStoresEnterTheStoreBuffer : ¬ Obligations.LoadsReadAndStoresEnterTheStoreBuffer := by
  unfold Obligations.LoadsReadAndStoresEnterTheStoreBuffer
  rintro ⟨-, stores, -⟩
  exact not_completes_of_sampled (exec_st_buffered rfl samplingRetires_ready (by decide +kernel) (by decide +kernel)) rfl (by decide +kernel)
    (State.past_smpBeat _ _ _) (stores samplingRetires 0 0 0 0 false 0 0 samplingRetires_ready (by decide +kernel) (by decide)
      (.inl (by decide)) (by decide) (by decide +kernel))

/-- Refutes O11: its clause for FENCE.N says that the fence of an agent with no store buffered changes nothing beside the agent's own step but
what `CountsOnly` lets counting change; with retired instructions sampled, core 0's fence also writes a sample record. -/
theorem not_bufferedStoresArePerformedAndFencesWait : ¬ Obligations.BufferedStoresArePerformedAndFencesWait := by
  unfold Obligations.BufferedStoresArePerformedAndFencesWait
  rintro ⟨-, fences⟩
  obtain ⟨fenceN, -⟩ := fences samplingRetires (.core 0) samplingRetires_ready
  exact not_completes_of_sampled (exec_fenceN_clear samplingRetires_ready (by decide +kernel)) rfl (by decide +kernel)
    (State.past_smpBeat _ _ _) (fenceN (by decide +kernel))

end Sys2Proof.Machine
end

section
/-!
PROOFS. The check of an access at a gate (R149 to R153, R155, R160). The walk over the bytes of an access passes from one granting region to the
first byte behind it, so it uses no region twice and stops, within its 600 steps, at the first byte that nothing grants.
-/
namespace Sys2Proof.Machine

/-! ### What regions and master sets grant (R151, R152) -/

theorem Region.covers_iff (r : Region) (x : Nat) : r.covers x = true ↔ r.base ≤ x ∧ x < r.base + 2 ^ r.log2 := by
  rw [Region.covers, Region.size, Bool.and_eq_true, decide_eq_true_iff, decide_eq_true_iff]

theorem State.mem_masterSets (s : State) (g o k : Nat) : k ∈ s.masterSets g o ↔ k < 16 ∧
    Nat.land o (fieldOf (s.rdAct (R.GAT_MSET g k)) 32 32) =
      Nat.land (fieldOf (s.rdAct (R.GAT_MSET g k)) 0 32) (fieldOf (s.rdAct (R.GAT_MSET g k)) 32 32) := by
  rw [State.masterSets, List.mem_filter, List.mem_range, beq_iff_eq]

theorem Region.grants_masterSets (r : Region) (s : State) (g o kind : Nat) : r.grants (s.masterSets g o) kind = true ↔
    ∃ k, k < 16 ∧ bitOf r.perm (3 * k + kind) = true ∧
      Nat.land o (fieldOf (s.rdAct (R.GAT_MSET g k)) 32 32) =
        Nat.land (fieldOf (s.rdAct (R.GAT_MSET g k)) 0 32) (fieldOf (s.rdAct (R.GAT_MSET g k)) 32 32) := by
  simp only [Region.grants, List.any_eq_true, State.mem_masterSets]
  exact exists_congr fun k => and_right_comm.trans and_assoc

/-- A gate holds 64 records, and as many of each of the 8 extensions (R150). -/
theorem State.gateRegions_length (s : State) (active : Bool) (g : Nat) : (s.gateRegions active g).length ≤ 576 := by
  have own (g : Nat) : (s.regionsOf active g).length ≤ 64 := List.length_filterMap_le _ _
  have exts : ((List.range 8).filter (s.attached active g)).length ≤ 8 := List.length_filter_le _ _
  have attached := List.sum_le_card_nsmul (((List.range 8).filter (s.attached active g)).map fun j => (s.regionsOf active (24 + j)).length) 64
    fun x hx => by
      obtain ⟨j, -, rfl⟩ := List.mem_map.mp hx
      exact own _
  rw [List.length_map, smul_eq_mul] at attached
  rw [State.gateRegions, List.length_append, List.length_flatMap]
  have := own g
  omega

/-! ### The walk over the bytes of an access (R153) -/

/-- How many of the regions end beyond byte `a`. -/
def regionsBeyond (rs : List Region) (a : Nat) : Nat := rs.countP (fun r => decide (a < r.base + r.size))

/-- Behind a region that covers byte `a` fewer regions end than beyond `a`. -/
theorem regionsBeyond_lt {rs : List Region} {r : Region} {a : Nat} (mem : r ∈ rs) (covers : r.covers a = true) :
    regionsBeyond rs (r.base + r.size) < regionsBeyond rs a := by
  obtain ⟨above, below⟩ := (r.covers_iff a).mp covers
  have here : a < r.base + r.size := below
  have ends (t : Region) : decide (r.base + r.size < t.base + t.size) = true → decide (a < t.base + t.size) = true := by
    simp only [decide_eq_true_iff]
    omega
  obtain ⟨before, after, rfl⟩ := List.append_of_mem mem
  have left : regionsBeyond before (r.base + r.size) ≤ regionsBeyond before a := List.countP_mono_left fun t _ => ends t
  have right : regionsBeyond after (r.base + r.size) ≤ regionsBeyond after a := List.countP_mono_left fun t _ => ends t
  simp only [regionsBeyond, List.countP_append, List.countP_cons, decide_eq_true here, lt_irrefl, decide_false, if_true,
    Bool.false_eq_true, if_false] at left right ⊢
  omega

/-- With a step for every region that ends beyond `a`, the walk meets no denied byte exactly when each byte is in a granting region. -/
theorem firstDenied_eq_none_iff {rs : List Region} {sets : List Nat} {kind b fuel a : Nat} (enough : regionsBeyond rs a < fuel) :
    firstDenied rs sets kind b fuel a = none ↔ ∀ x, a ≤ x → x < b → ∃ r ∈ rs, r.covers x = true ∧ r.grants sets kind = true := by
  induction fuel generalizing a with
  | zero => exact absurd enough (Nat.not_lt_zero _)
  | succ fuel ih =>
    rw [firstDenied]
    split
    · rename_i past
      exact iff_of_true rfl fun x low high => absurd high (by omega)
    rename_i inside
    split
    · rename_i uncovered
      refine iff_of_false nofun fun granted => ?_
      obtain ⟨r, mem, good⟩ := granted a le_rfl (by omega)
      exact List.find?_eq_none.mp uncovered r mem (Bool.and_eq_true_iff.mpr good)
    · rename_i r found
      have mem : r ∈ rs := List.mem_of_find?_eq_some found
      obtain ⟨covers, grants⟩ : r.covers a = true ∧ r.grants sets kind = true := by simpa using List.find?_some found
      rw [ih (by have := regionsBeyond_lt mem covers; omega)]
      obtain ⟨base, -⟩ := (r.covers_iff a).mp covers
      constructor
      · intro behind x low high
        by_cases beyond : r.base + r.size ≤ x
        · exact behind x beyond high
        · exact ⟨r, mem, (r.covers_iff x).mpr ⟨base.trans low, Nat.lt_of_not_le beyond⟩, grants⟩
      · exact fun all x low high => all x (((r.covers_iff a).mp covers).2.le.trans low) high

/-! ### The check (R149, R153, R155, R160) -/

section gateCheck
variable (s : State) (g a n kind o : Nat)

theorem State.gateCheck_boot (checked : gateChecks o = true) (boot : s.bit (R.GAT_GSTAT g) F.GAT_GSTAT_BOOT = true) :
    (s.gateCheck g a n kind o).1 = s.bootGrants o := by
  simp only [State.gateCheck, checked, boot, Bool.not_true, Bool.false_eq_true, if_false, if_true]
  cases s.bootGrants o <;> rfl

theorem State.gateCheck_banks (checked : gateChecks o = true) (boot : s.bit (R.GAT_GSTAT g) F.GAT_GSTAT_BOOT = false) :
    (s.gateCheck g a n kind o).1 = true ↔ firstDenied (s.gateRegions true g) (s.masterSets g o) kind (a + n) 600 a = none := by
  simp only [State.gateCheck, checked, boot, Bool.not_true, Bool.false_eq_true, if_false]
  cases firstDenied (s.gateRegions true g) (s.masterSets g o) kind (a + n) 600 a <;> simp

/-- After the first commit the granted accesses are those of which every byte is in a region that grants the kind to a set of the master. -/
theorem State.gateCheck_iff (checked : gateChecks o = true) (boot : s.bit (R.GAT_GSTAT g) F.GAT_GSTAT_BOOT = false) :
    (s.gateCheck g a n kind o).1 = true ↔ ∀ x, a ≤ x → x < a + n →
      ∃ r ∈ s.gateRegions true g, r.covers x = true ∧ r.grants (s.masterSets g o) kind = true := by
  have few : regionsBeyond (s.gateRegions true g) a < 600 :=
    calc regionsBeyond (s.gateRegions true g) a ≤ (s.gateRegions true g).length := List.countP_le_length
      _ ≤ 576 := s.gateRegions_length true g
      _ < 600 := by decide
  rw [s.gateCheck_banks g a n kind o checked boot, firstDenied_eq_none_iff few]

/-- An access that is not granted ends in a violation. -/
theorem State.gateCheck_cases : (s.gateCheck g a n kind o).1 = true ∨
    ∃ rgn, s.gateCheck g a n kind o = (false, s.gateViolation g a n kind o rgn) := by
  unfold State.gateCheck
  dsimp only
  generalize firstDenied (s.gateRegions true g) (s.masterSets g o) kind (a + n) 600 a = walk
  split
  · exact .inl rfl
  split
  · split
    · exact .inl rfl
    · exact .inr ⟨none, rfl⟩
  · cases walk with
    | none => exact .inl rfl
    | some b => exact .inr ⟨_, rfl⟩

/-- A violation is reported with the master's tag, the gate and the address. -/
theorem State.gateViolation_report (rgn : Option Region) : ∃ r, (s.gateViolation g a n kind o rgn).reports = s.reports ++ [r] ∧
    r.code = FC.GAT_VIOLATION ∧ r.origin = o ∧ r.detail = g ∧ r.addr = a := by
  unfold State.gateViolation
  dsimp only
  refine ⟨_, congrArg (· ++ [_]) ((State.tally_counted _ _).reports_eq.trans ?_), rfl, rfl, rfl, rfl⟩
  split
  · rw [State.setBit_reports, State.bump_reports]
  · rw [State.wr_reports, State.wr_reports, State.bump_reports]

end gateCheck

/-- Settles O45: the walk of the check decides every byte, since a gate has fewer regions than the walk has steps. -/
theorem gatesGrantWhatEveryByteIsGranted : Obligations.GatesGrantWhatEveryByteIsGranted := by
  unfold Obligations.GatesGrantWhatEveryByteIsGranted
  intro s g a n kind o
  have same := s.gateCheck_same g a n kind o
  refine ⟨fun unchecked => ?_, fun checked boot => ?_, fun checked boot => ?_, same.mem, same.err, fun denied => ?_⟩
  · simp only [State.gateCheck, unchecked, Bool.not_false, if_true]
  · rw [s.gateCheck_boot g a n kind o checked boot]
  · rw [s.gateCheck_iff g a n kind o checked boot]
    simp only [Region.covers_iff, Region.grants_masterSets, and_assoc]
  · rcases s.gateCheck_cases g a n kind o with granted | ⟨rgn, violated⟩
    · exact absurd (granted.symm.trans denied) (by decide)
    rw [violated]
    exact s.gateViolation_report g a n kind o rgn

end Sys2Proof.Machine
end

section
/-!
PROOFS. Direct-write mode (R159, R211, R212). The highest word of a record writes the whole record into both banks, or keeps the old record and
says so; the lower word that waited is spent either way.
-/
namespace Sys2Proof.Machine

/-! ### Both banks (R211) -/

section wrBoth
variable (s : State) (r : RegRef) (v : Nat)

theorem State.rd_wrBoth : (s.wrBoth r v).rd r = v % 2 ^ 64 := s.rd_wr r v
theorem State.rdAct_wrBoth : (s.wrBoth r v).rdAct r = v % 2 ^ 64 := State.rdAct_wrAct _ r v
theorem State.rd_wrBoth_other (q : RegRef) (h : q.addr ≠ r.addr) : (s.wrBoth r v).rd q = s.rd q := s.rd_wr_other r q v h
theorem State.rdAct_wrBoth_other (q : RegRef) (h : q.addr ≠ r.addr) : (s.wrBoth r v).rdAct q = s.rdAct q :=
  State.rdAct_wrAct_other _ r q v h

theorem State.wrBoth_only : Only [r] { s with act := (s.wrBoth r v).act } (s.wrBoth r v) :=
  ⟨rfl, fun q apart => s.rd_wrBoth_other r v q (apart r (List.mem_singleton_self r))⟩

end wrBoth

/-- The two words of a record stand in both banks. -/
theorem State.wrBoth_pair (s : State) {a b : RegRef} {lo hi : Nat} (apart : a.addr ≠ b.addr) (hlo : lo < 2 ^ 64) (hhi : hi < 2 ^ 64) :
    ((s.wrBoth a lo).wrBoth b hi).rd a = lo ∧ ((s.wrBoth a lo).wrBoth b hi).rdAct a = lo ∧
      ((s.wrBoth a lo).wrBoth b hi).rd b = hi ∧ ((s.wrBoth a lo).wrBoth b hi).rdAct b = hi := by
  rw [State.rd_wrBoth_other _ _ _ _ apart, State.rdAct_wrBoth_other _ _ _ _ apart, State.rd_wrBoth, State.rdAct_wrBoth, State.rd_wrBoth,
    State.rdAct_wrBoth, Nat.mod_eq_of_lt hlo, Nat.mod_eq_of_lt hhi]
  exact ⟨rfl, rfl, rfl, rfl⟩

theorem masked_lt (v : BitVec 64) (mask : Nat) : Nat.land v.toNat mask < 2 ^ 64 := Nat.and_le_left.trans_lt v.isLt

/-! ### Entering and leaving the mode (R211) -/

/-- `t` is `s` but for the lower words that wait. -/
def HoldingOnly (s t : State) : Prop := t = { s with gaf := { s.gaf with holding := t.gaf.holding } }

theorem HoldingOnly.refl (s : State) : HoldingOnly s s := rfl

theorem HoldingOnly.trans {s t u : State} (h : HoldingOnly s t) (k : HoldingOnly t u) : HoldingOnly s u :=
  Eq.trans k (congrArg (fun x : State => { x with gaf := { x.gaf with holding := u.gaf.holding } }) h)

theorem HoldingOnly.rd_eq {s t : State} (h : HoldingOnly s t) (r : RegRef) : t.rd r = s.rd r := (congrArg (State.rd · r) h :)

theorem State.dropHolding_holdingOnly (s : State) (p : Nat → Bool) : HoldingOnly s (s.dropHolding p) := rfl

section directMode
variable (s : State) (d : BitVec 3) (g : Bool)

/-- A domain or a gate that would enter the mode has a commit that is not finished. -/
def State.entersBusy : Bool :=
  [0, 1, 2].any (fun i => bitOf d.toNat i && !bitOf (s.get R.GAF_DEBUG F.GAF_DEBUG_DIRECT) i &&
    s.bit (R.GAF_EPSTAT i) F.GAF_EPSTAT_COMMIT_PEND) ||
  g && !s.bit R.GAF_DEBUG F.GAF_DEBUG_GDIR && (List.range 32).any (fun i => s.bit (R.GAT_GSTAT i) F.GAT_GSTAT_COMMIT_PEND)

/-- The mode is set, and the lower words of the domains and gates that leave it are dropped. -/
def State.directSet : State :=
  let t := (s.put R.GAF_DEBUG F.GAF_DEBUG_DIRECT d.toNat).put R.GAF_DEBUG F.GAF_DEBUG_GDIR (bit01 g)
  let t := [0, 1, 2].foldl (fun t i =>
    if bitOf (s.get R.GAF_DEBUG F.GAF_DEBUG_DIRECT) i && !bitOf d.toNat i then t.dropHolding (inDomain i) else t) t
  if s.bit R.GAF_DEBUG F.GAF_DEBUG_GDIR && !g then t.dropHolding inGates else t

theorem exec_directModeWrite_wrongKey {key : BitVec 16} (wrong : key ≠ 0x5120#16) : exec (.directModeWrite d g key) s = .next s :=
  if_pos fun right => wrong (BitVec.eq_of_toNat_eq right)

theorem exec_directModeWrite_keyed {key : BitVec 16} (right : key = 0x5120#16) : exec (.directModeWrite d g key) s =
    if s.entersBusy d g then .next (s.setBit R.GAF_STATUS F.GAF_STATUS_CFG_REFUSED) else .next (s.directSet d g) :=
  if_neg fun wrong => wrong (congrArg BitVec.toNat right)

theorem State.entersBusy_of_pending {i : Nat} (hi : i < 3) (pending : s.bit (R.GAF_EPSTAT i) F.GAF_EPSTAT_COMMIT_PEND = true)
    (off : s.direct i = false) (on : bitOf d.toNat i = true) : s.entersBusy d g = true := by
  refine Bool.or_eq_true_iff.mpr (.inl (List.any_eq_true.mpr ⟨i, ?_, ?_⟩))
  · exact (List.mem_range.mpr hi : i ∈ List.range 3)
  · rw [State.direct] at off
    rw [on, off, pending]
    rfl

theorem State.entersBusy_eq_false (domains : ∀ i, i < 3 → s.bit (R.GAF_EPSTAT i) F.GAF_EPSTAT_COMMIT_PEND = false)
    (gates : ∀ i, i < 32 → s.bit (R.GAT_GSTAT i) F.GAT_GSTAT_COMMIT_PEND = false) : s.entersBusy d g = false := by
  have noGate : (List.range 32).any (fun i => s.bit (R.GAT_GSTAT i) F.GAT_GSTAT_COMMIT_PEND) = false :=
    List.any_eq_false.mpr fun i hi => by rw [gates i (List.mem_range.mp hi)]; decide
  simp only [State.entersBusy, noGate, List.any_cons, List.any_nil, domains 0 (by decide), domains 1 (by decide), domains 2 (by decide),
    Bool.and_false, Bool.or_false]

theorem State.directSet_holdingOnly :
    HoldingOnly ((s.put R.GAF_DEBUG F.GAF_DEBUG_DIRECT d.toNat).put R.GAF_DEBUG F.GAF_DEBUG_GDIR (bit01 g)) (s.directSet d g) := by
  unfold State.directSet
  generalize (s.put R.GAF_DEBUG F.GAF_DEBUG_DIRECT d.toNat).put R.GAF_DEBUG F.GAF_DEBUG_GDIR (bit01 g) = u
  extract_lets _ t
  have dropped : HoldingOnly u t := by
    refine List.foldlRecOn (motive := HoldingOnly u) _ _ (HoldingOnly.refl u) fun w hw i _ => ?_
    split
    · exact hw.trans (w.dropHolding_holdingOnly _)
    · exact hw
  split
  · exact dropped.trans (t.dropHolding_holdingOnly _)
  · exact dropped

theorem State.directSet_spec : (s.directSet d g).get R.GAF_DEBUG F.GAF_DEBUG_DIRECT = d.toNat ∧
    (s.directSet d g).bit R.GAF_DEBUG F.GAF_DEBUG_GDIR = g ∧
    Only [R.GAF_DEBUG] { s with gaf := { s.gaf with holding := (s.directSet d g).gaf.holding } } (s.directSet d g) := by
  have held := s.directSet_holdingOnly d g
  generalize s.directSet d g = t at held ⊢
  refine ⟨?_, ?_, ?_⟩
  · rw [State.get_congr (held.rd_eq _), State.get_put_field _ _ _ _ _ (by decide) (by decide), State.get_put_same _ _ _ _ (by decide)]
    exact Nat.mod_eq_of_lt d.isLt
  · rw [State.bit, State.get_congr (held.rd_eq _), State.get_put_same _ _ _ _ (by decide)]
    cases g <;> rfl
  · refine ⟨(congrArg (fun x : State => { x with regs := s.regs }) held :), fun r apart => ?_⟩
    have other := apart _ (List.mem_singleton_self _)
    rw [held.rd_eq, State.rd_put_other _ _ _ _ _ other, State.rd_put_other _ _ _ _ _ other]
    rfl

end directMode

/-! ### Records (R212) -/

theorem exec_directRecordWrite_off (s : State) (item : DirectRec) (v : BitVec 64) (off : s.direct (recordRef item).1 = false) :
    exec (.directRecordWrite item v) s = .next s :=
  congrArg Host.Outcome.next (if_neg (Bool.not_eq_true _ ▸ off))

/-- The lower word that waits at an address is spent. -/
def State.spent (s : State) (low : Nat) : State := { s with gaf := { s.gaf with holding := SMap.set s.gaf.holding none low none } }

@[simp] theorem State.spent_act (s : State) (low : Nat) : (s.spent low).act = s.act := rfl
@[simp] theorem State.rd_spent (s : State) (low : Nat) (r : RegRef) : (s.spent low).rd r = s.rd r := rfl
@[simp] theorem State.rdAct_spent (s : State) (low : Nat) (r : RegRef) : (s.spent low).rdAct r = s.rdAct r := rfl
@[simp] theorem State.get_spent (s : State) (low : Nat) (r : RegRef) (f : Fld) : (s.spent low).get r f = s.get r f := rfl
@[simp] theorem State.bit_spent (s : State) (low : Nat) (r : RegRef) (f : Fld) : (s.spent low).bit r f = s.bit r f := rfl

theorem Only.spent {rs : List RegRef} {s t : State} (h : Only rs s t) (low : Nat) :
    Only rs { s with gaf := (t.spent low).gaf } (t.spent low) :=
  ⟨congrArg (fun u : State => { u with gaf := (t.spent low).gaf }) h.1, h.2⟩

/-- A one-word record that no check involves. -/
theorem State.directWrite_single (s : State) {d : Nat} {r : RegRef} (v : Nat) (single : recordLow r.addr = none)
    (passes : ∀ u : State, ∀ old, (u.recordFails r.addr old).2 = false) : s.directWrite d r 0 v = (s.wrBoth r v).afterChange d s.act := by
  simp only [State.directWrite, single, passes, Bool.false_eq_true, if_false]

/-- Mirror ports are records of one word. -/
theorem recordLow_mirrorPort {a : Nat} (low : 0x1001000 ≤ a) (high : a < 0x1001800) : recordLow a = none := by
  rw [recordLow, if_neg (by omega), if_neg (by omega), if_neg (by omega), if_neg (by omega)]

/-- No check of a commit involves a mirror port. -/
theorem State.recordFails_mirrorPort (u : State) {a : Nat} (old : Nat) (low : 0x1001000 ≤ a) (high : a < 0x1001800) :
    u.recordFails a old = (0, false) := by
  rw [State.recordFails, if_neg (by omega), if_neg (by omega), if_neg (by omega), if_neg (by omega), if_neg (by omega),
    if_neg (by omega), if_neg (by omega), if_neg (by omega)]

theorem mirport_range (p : Fin 256) : 0x1001000 ≤ (R.CRU_MIRPORT p.val).addr ∧ (R.CRU_MIRPORT p.val).addr < 0x1001800 := by
  have := p.isLt
  simp only [R.CRU_MIRPORT]
  omega

theorem exec_directRecordWrite_mirrorPort (s : State) (p : Fin 256) (v : BitVec 64) (on : s.direct 0 = true) :
    exec (.directRecordWrite (.mirrorPort p) v) s = .next (s.wrBoth (R.CRU_MIRPORT p.val) (Nat.land v.toNat (cardMask Card.CRU_MIRPORT))) :=
  have ⟨low, high⟩ := mirport_range p
  congrArg Host.Outcome.next ((if_pos on).trans
    (s.directWrite_single _ (recordLow_mirrorPort low high) fun u old => congrArg Prod.snd (u.recordFails_mirrorPort old low high)))

section pair
variable {s u : State} {a b : RegRef} {d lo v : Nat}

/-- The highest word of a record whose lower word waits, when the record passes. -/
theorem State.directWrite_passes (low : recordLow b.addr = some a.addr) (apart : b.addr ≠ a.addr)
    (held : SMap.get s.gaf.holding none a.addr = some lo) (hu : u = (s.wrBoth a lo).wrBoth b v)
    (passes : (u.recordFails b.addr 0).2 = false) : s.directWrite d b a.rst v = (u.afterChange d s.act).spent a.addr := by
  simp only [State.directWrite, low, apart, held, ← hu, passes, Bool.false_eq_true, if_false]
  rfl

/-- The same when the record fails: its number stands in BAD_ITEM. -/
theorem State.directWrite_fails (low : recordLow b.addr = some a.addr) (apart : b.addr ≠ a.addr)
    (held : SMap.get s.gaf.holding none a.addr = some lo) (hu : u = (s.wrBoth a lo).wrBoth b v)
    (fails : (u.recordFails b.addr 0).2 = true) : s.directWrite d b a.rst v =
      ((s.put (R.GAF_EPSTAT d) F.GAF_EPSTAT_CFG_PAIRERR 1).put (R.GAF_EPSTAT d) F.GAF_EPSTAT_BAD_ITEM
        (u.recordFails b.addr 0).1).spent a.addr := by
  simp only [State.directWrite, low, apart, held, ← hu, fails, if_true, if_false]
  rfl

end pair

/-! ### Profiles (R102, R212) -/

section profile
variable {s u : State} {i : Fin 4096} {lo : Nat} {v : BitVec 64}

theorem profile_apart (i : Nat) : (R.POL_PROFA i).addr ≠ (R.POL_PROFB i).addr := by
  simp only [R.POL_PROFA, R.POL_PROFB]
  omega

theorem recordLow_profiles {a : Nat} (low : 0x1C10000 ≤ a) (high : a < 0x1C20000) : recordLow a = some (a / 16 * 16) := by
  rw [recordLow, if_neg (by omega), if_pos ⟨low, high⟩]

theorem State.recordFails_profiles (u : State) {a : Nat} (old : Nat) (low : 0x1C10000 ≤ a) (high : a < 0x1C20000) :
    u.recordFails a old = ((a - 0x1C10000) / 16, u.badProfile ((a - 0x1C10000) / 16)) := by
  rw [State.recordFails, if_neg (by omega), if_neg (by omega), if_neg (by omega), if_neg (by omega), if_pos ⟨low, high⟩]

theorem profB_range (i : Fin 4096) : 0x1C10000 ≤ (R.POL_PROFB i.val).addr ∧ (R.POL_PROFB i.val).addr < 0x1C20000 := by
  have := i.isLt
  simp only [R.POL_PROFB]
  omega

theorem recordLow_profile (i : Fin 4096) : recordLow (R.POL_PROFB i.val).addr = some (R.POL_PROFA i.val).addr := by
  obtain ⟨low, high⟩ := profB_range i
  have first : (R.POL_PROFB i.val).addr / 16 * 16 = (R.POL_PROFA i.val).addr := by
    simp only [R.POL_PROFB, R.POL_PROFA]
    omega
  rw [recordLow_profiles low high, first]

theorem State.recordFails_profile (u : State) (i : Fin 4096) (old : Nat) :
    u.recordFails (R.POL_PROFB i.val).addr old = (i.val, u.badProfile i.val) := by
  obtain ⟨low, high⟩ := profB_range i
  have number : ((R.POL_PROFB i.val).addr - 0x1C10000) / 16 = i.val := by
    simp only [R.POL_PROFB]
    omega
  rw [u.recordFails_profiles old low high, number]

theorem exec_directRecordWrite_profile (on : s.direct 1 = true) : exec (.directRecordWrite (.profile i) v) s =
    .next (s.directWrite 1 (R.POL_PROFB i.val) (R.POL_PROFA i.val).rst (Nat.land v.toNat (cardMask Card.POL_PROFB))) :=
  congrArg Host.Outcome.next (if_pos on)

variable (on : s.direct 1 = true) (held : SMap.get s.gaf.holding none (R.POL_PROFA i.val).addr = some lo)
  (hu : u = (s.wrBoth (R.POL_PROFA i.val) lo).wrBoth (R.POL_PROFB i.val) (Nat.land v.toNat (cardMask Card.POL_PROFB)))
include on held hu

/-- A profile that passes stands in both banks. -/
theorem exec_directRecordWrite_goodProfile (fits : lo < 2 ^ 64) (good : u.badProfile i.val = false) :
    ∃ t, exec (.directRecordWrite (.profile i) v) s = .next t ∧
      t.rd (R.POL_PROFA i.val) = lo ∧ t.rdAct (R.POL_PROFA i.val) = lo ∧
      t.rd (R.POL_PROFB i.val) = Nat.land v.toNat (cardMask Card.POL_PROFB) ∧
      t.rdAct (R.POL_PROFB i.val) = Nat.land v.toNat (cardMask Card.POL_PROFB) := by
  have passes : (u.recordFails (R.POL_PROFB i.val).addr 0).2 = false := by rw [u.recordFails_profile]; exact good
  refine ⟨_, (exec_directRecordWrite_profile on).trans (congrArg Host.Outcome.next
    (State.directWrite_passes (recordLow_profile i) (profile_apart _).symm held hu passes)), ?_⟩
  have frame : { u.afterChange 1 s.act with cru := u.cru } = u := u.mirrorRestart_frame s.act
  have reads (r : RegRef) : (u.afterChange 1 s.act).rd r = u.rd r := (congrArg (State.rd · r) frame :)
  have inForce (r : RegRef) : (u.afterChange 1 s.act).rdAct r = u.rdAct r := (congrArg (State.rdAct · r) frame :)
  simp only [State.rd_spent, State.rdAct_spent, reads, inForce]
  rw [hu]
  exact s.wrBoth_pair (profile_apart _) fits (masked_lt _ _)

/-- A profile that fails is kept out, and its number is told. -/
theorem exec_directRecordWrite_badProfile (bad : u.badProfile i.val = true) :
    ∃ t, exec (.directRecordWrite (.profile i) v) s = .next t ∧ t.act = s.act ∧
      t.bit (R.GAF_EPSTAT 1) F.GAF_EPSTAT_CFG_PAIRERR = true ∧ t.get (R.GAF_EPSTAT 1) F.GAF_EPSTAT_BAD_ITEM = i.val ∧
      Only [R.GAF_EPSTAT 1] { s with gaf := t.gaf } t := by
  have fails : (u.recordFails (R.POL_PROFB i.val).addr 0).2 = true := by rw [u.recordFails_profile]; exact bad
  have run := State.directWrite_fails (d := 1) (recordLow_profile i) (profile_apart _).symm held hu fails
  rw [u.recordFails_profile] at run
  have only : Only [R.GAF_EPSTAT 1] s ((s.put (R.GAF_EPSTAT 1) F.GAF_EPSTAT_CFG_PAIRERR 1).put (R.GAF_EPSTAT 1) F.GAF_EPSTAT_BAD_ITEM i.val) :=
    (Only.put _ _ _ _ _ (List.mem_singleton_self _)).trans (Only.put _ _ _ _ _ (List.mem_singleton_self _))
  refine ⟨_, (exec_directRecordWrite_profile on).trans (congrArg Host.Outcome.next run), ?_, ?_, ?_, only.spent _⟩
  · rw [State.spent_act, only.act_eq]
  · rw [State.bit_spent, State.bit_put_field _ _ _ _ _ (by decide) (by decide), State.bit_put_same _ _ _ _ (by decide)]
    rfl
  · rw [State.get_spent, State.get_put_same _ _ _ _ (by decide)]
    exact Nat.mod_eq_of_lt (i.isLt.trans (by decide))

end profile

/-! ### Regions of the gates (R159) -/

section region
variable {s u : State} {g : Fin 32} {i : Fin 64} {lo : Nat} {v : BitVec 64}

theorem region_apart (g i : Nat) : (R.GAT_RGNA g i).addr ≠ (R.GAT_RGNB g i).addr := by
  simp only [R.GAT_RGNA, R.GAT_RGNB]
  omega

theorem exec_gateRegionDirectWrite_off (off : s.bit R.GAF_DEBUG F.GAF_DEBUG_GDIR = false) :
    exec (.gateRegionDirectWrite g i v) s = .next s :=
  if_pos (by rw [off]; rfl)

variable (on : s.bit R.GAF_DEBUG F.GAF_DEBUG_GDIR = true)
  (held : SMap.get s.gaf.holding none (R.GAT_RGNA g.val i.val).addr = some lo)
  (hu : u = (s.wrBoth (R.GAT_RGNA g.val i.val) lo).wrBoth (R.GAT_RGNB g.val i.val) (Nat.land v.toNat (cardMask Card.GAT_RGNB)))
include on held hu

theorem exec_gateRegionDirectWrite_eq : exec (.gateRegionDirectWrite g i v) s =
    .next ((if u.regionFails g.val i.val then s.setBit R.GAT_STATUS F.GAT_STATUS_CFG_PAIRERR else u).spent
      (R.GAT_RGNA g.val i.val).addr) := by
  show execGateRegionDirectWrite g i v s = _
  simp only [execGateRegionDirectWrite, on, held, ← hu, Bool.not_true, Bool.false_eq_true, if_false]
  rfl

/-- A region that passes stands in both banks. -/
theorem exec_gateRegionDirectWrite_good (fits : lo < 2 ^ 64) (good : u.regionFails g.val i.val = false) :
    ∃ t, exec (.gateRegionDirectWrite g i v) s = .next t ∧
      t.rd (R.GAT_RGNA g.val i.val) = lo ∧ t.rdAct (R.GAT_RGNA g.val i.val) = lo ∧
      t.rd (R.GAT_RGNB g.val i.val) = Nat.land v.toNat (cardMask Card.GAT_RGNB) ∧
      t.rdAct (R.GAT_RGNB g.val i.val) = Nat.land v.toNat (cardMask Card.GAT_RGNB) := by
  refine ⟨_, exec_gateRegionDirectWrite_eq on held hu, ?_⟩
  simp only [State.rd_spent, State.rdAct_spent, good, Bool.false_eq_true, if_false]
  rw [hu]
  exact s.wrBoth_pair (region_apart _ _) fits (masked_lt _ _)

/-- A region that fails is kept out, and CFG_PAIRERR tells of it. -/
theorem exec_gateRegionDirectWrite_bad (bad : u.regionFails g.val i.val = true) :
    ∃ t, exec (.gateRegionDirectWrite g i v) s = .next t ∧ t.act = s.act ∧
      t.bit R.GAT_STATUS F.GAT_STATUS_CFG_PAIRERR = true ∧ Only [R.GAT_STATUS] { s with gaf := t.gaf } t := by
  refine ⟨_, exec_gateRegionDirectWrite_eq on held hu, ?_⟩
  rw [if_pos bad]
  have only : Only [R.GAT_STATUS] s (s.setBit R.GAT_STATUS F.GAT_STATUS_CFG_PAIRERR) := Only.put _ _ _ _ _ (List.mem_singleton_self _)
  rw [State.spent_act, State.bit_spent]
  exact ⟨only.act_eq, s.bit_setBit _ _ (by decide) rfl, only.spent _⟩

end region

end Sys2Proof.Machine
end

section
/-!
PROOFS. Firmware swaps and takeovers (R213 to R215). The step of a swap at one core touches that core and its register only, so the cores begin
the swap independently; the swap ends when no core has still to switch. A takeover marks the failed physical core and gives its number to a
spare, or leaves the number without a core.
-/
namespace Sys2Proof.Machine

/-! ### Fields of one bit -/

theorem one_sub_bit01 (b : Bool) : 1 - bit01 b = bit01 !b := by cases b <;> rfl

theorem State.get_eq_bit01 (s : State) (r : RegRef) (f : Fld) (one : f.w = 1) : s.get r f = bit01 (s.bit r f) := by
  have small : s.get r f < 2 ^ f.w := Nat.mod_lt _ (Nat.two_pow_pos _)
  rw [one] at small
  obtain zero | set : s.get r f = 0 ∨ s.get r f = 1 := by omega
  · simp [State.bit, zero, bit01]
  · simp [State.bit, set, bit01]

theorem State.bit_put_bit01 (s : State) (r : RegRef) (f : Fld) (b : Bool) (h : f.lo + f.w ≤ 64) (one : f.w = 1) :
    (s.put r f (bit01 b)).bit r f = b := by
  rw [State.bit_put_same _ _ _ _ h, one]
  cases b <;> rfl

theorem State.bit_put_one (s : State) (r : RegRef) (f : Fld) (h : f.lo + f.w ≤ 64) (one : f.w = 1) : (s.put r f 1).bit r f = true :=
  s.bit_put_bit01 r f true h one

theorem State.bit_put_zero (s : State) (r : RegRef) (f : Fld) (h : f.lo + f.w ≤ 64) (one : f.w = 1) : (s.put r f 0).bit r f = false :=
  s.bit_put_bit01 r f false h one

theorem State.bit_put_flip (s : State) (r : RegRef) (f : Fld) (h : f.lo + f.w ≤ 64) (one : f.w = 1) :
    (s.put r f (1 - s.get r f)).bit r f = !s.bit r f := by
  rw [State.get_eq_bit01 _ _ _ one, one_sub_bit01, State.bit_put_bit01 _ _ _ _ h one]

theorem State.bit_congr {s t : State} {r : RegRef} (same : t.rd r = s.rd r) (f : Fld) : t.bit r f = s.bit r f := by
  rw [State.bit, State.get_congr same, State.bit]

/-! ### Registers of the logical cores -/

theorem gafCore_ne_status (c : Nat) : (R.GAF_CORE c).addr ≠ R.GAF_STATUS.addr := by
  simp only [R.GAF_CORE, R.GAF_STATUS]
  omega

theorem gafCore_ne {c d : Nat} (h : d ≠ c) : (R.GAF_CORE d).addr ≠ (R.GAF_CORE c).addr := by
  simp only [R.GAF_CORE]
  omega

theorem Only.gaf_eq {rs : List RegRef} {s t : State} (h : Only rs s t) : t.gaf = s.gaf := (congrArg State.gaf h.1 :)

theorem Only.core_eq {rs : List RegRef} {s t : State} (h : Only rs s t) (c : Nat) : t.core c = s.core c := by
  rw [State.core, h.gaf_eq, State.core]

@[simp] theorem State.core_put (s : State) (r : RegRef) (f : Fld) (v c : Nat) : (s.put r f v).core c = s.core c := rfl
@[simp] theorem State.rd_setCore (s : State) (c : Nat) (x : Core) (r : RegRef) : (s.setCore c x).rd r = s.rd r := rfl
@[simp] theorem State.bit_setCore (s : State) (c : Nat) (x : Core) (r : RegRef) (f : Fld) : (s.setCore c x).bit r f = s.bit r f := rfl

/-- `t` is `s` but for what Gaffer holds and registers of the list. -/
def GafOnly (rs : List RegRef) (s t : State) : Prop := Only rs { s with gaf := t.gaf } t

theorem GafOnly.of_only {rs : List RegRef} {s t : State} (h : Only rs s t) : GafOnly rs s t :=
  ⟨(congrArg (fun x : State => { x with gaf := t.gaf }) h.1 :), h.2⟩

theorem GafOnly.trans {rs : List RegRef} {s t u : State} (h : GafOnly rs s t) (k : GafOnly rs t u) : GafOnly rs s u :=
  ⟨(congrArg (fun x : State => { x with regs := s.regs }) k.1).trans (congrArg (fun x : State => { x with gaf := u.gaf }) h.1 :),
    fun r apart => (k.2 r apart).trans (h.2 r apart)⟩

theorem GafOnly.rd_eq {rs : List RegRef} {s t : State} (h : GafOnly rs s t) {r : RegRef} (apart : ∀ x ∈ rs, r.addr ≠ x.addr) :
    t.rd r = s.rd r := h.2 r apart

theorem GafOnly.mono {rs rs' : List RegRef} {s t : State} (h : GafOnly rs s t) (sub : ∀ r ∈ rs, r ∈ rs') : GafOnly rs' s t := Only.mono h sub

theorem GafOnly.setCore (s : State) (rs : List RegRef) (c : Nat) (x : Core) : GafOnly rs s (s.setCore c x) := ⟨rfl, fun _ _ => rfl⟩

/-! ### Switching and the end of a swap (R213) -/

theorem State.finishSwap_only (s : State) : Only [R.GAF_STATUS] s s.finishSwap := by
  unfold State.finishSwap
  split
  · exact (Only.put _ _ _ _ _ (List.mem_singleton_self _)).trans (Only.put _ _ _ _ _ (List.mem_singleton_self _))
  · exact ⟨rfl, fun _ _ => rfl⟩

theorem State.rd_finishSwap_core (s : State) (c : Nat) : s.finishSwap.rd (R.GAF_CORE c) = s.rd (R.GAF_CORE c) :=
  s.finishSwap_only.2 _ fun _ h => List.mem_singleton.mp h ▸ gafCore_ne_status c

/-- While a core has still to switch, the swap goes on. -/
theorem State.finishSwap_pending {s : State} {c : Nat} (hc : c < 32) (pending : s.bit (R.GAF_CORE c) F.GAF_CORE_SWAP_PEND = true) :
    s.finishSwap = s := by
  have some : (List.range 32).any (fun c => s.bit (R.GAF_CORE c) F.GAF_CORE_SWAP_PEND) = true :=
    List.any_eq_true.mpr ⟨c, List.mem_range.mpr hc, pending⟩
  rw [State.finishSwap, some, Bool.not_true, Bool.and_false]
  rfl

/-- When no core has still to switch, the other bank is the active one. -/
theorem State.finishSwap_done {s : State} (busy : s.bit R.GAF_STATUS F.GAF_STATUS_SWAP_BUSY = true)
    (none : ∀ c, c < 32 → s.bit (R.GAF_CORE c) F.GAF_CORE_SWAP_PEND = false) :
    s.finishSwap.bit R.GAF_STATUS F.GAF_STATUS_SWAP_BUSY = false ∧
      s.finishSwap.bit R.GAF_STATUS F.GAF_STATUS_ACTIVE_BANK = !s.bit R.GAF_STATUS F.GAF_STATUS_ACTIVE_BANK := by
  have quiet : (List.range 32).any (fun c => s.bit (R.GAF_CORE c) F.GAF_CORE_SWAP_PEND) = false :=
    List.any_eq_false.mpr fun c hc => by simp [none c (List.mem_range.mp hc)]
  rw [State.finishSwap, quiet, busy, Bool.not_false, Bool.and_true, if_pos rfl]
  refine ⟨State.bit_put_zero _ _ _ (by decide) rfl, ?_⟩
  rw [State.bit_put_field _ _ _ _ _ (by decide) (by decide), State.bit_put_flip _ _ _ (by decide) rfl]

section switchCore
variable (s : State) (c : Nat)

theorem State.switchCore_only : Only [R.GAF_STATUS, R.GAF_CORE c] s (s.switchCore c) := by
  unfold State.switchCore
  split
  · exact ((Only.put _ _ _ _ _ (by simp)).trans (Only.put _ _ _ _ _ (by simp))).trans ((State.finishSwap_only _).mono (by simp))
  · exact ⟨rfl, fun _ _ => rfl⟩

/-- A core that has switched has not to switch again; its physical core stays. -/
theorem State.switchCore_word : (s.switchCore c).bit (R.GAF_CORE c) F.GAF_CORE_SWAP_PEND = false ∧ (s.switchCore c).phys c = s.phys c := by
  unfold State.switchCore
  split
  · rw [State.bit_congr (State.rd_finishSwap_core _ c), State.phys, State.get_congr (State.rd_finishSwap_core _ c)]
    refine ⟨State.bit_put_zero _ _ _ (by decide) rfl, ?_⟩
    rw [State.get_put_field _ _ _ _ _ (by decide) (by decide), State.get_put_field _ _ _ _ _ (by decide) (by decide), State.phys]
  · rename_i switched
    exact ⟨Bool.not_eq_true _ ▸ switched, rfl⟩

theorem State.switchCore_bank (pending : s.bit (R.GAF_CORE c) F.GAF_CORE_SWAP_PEND = true) :
    (s.switchCore c).bit (R.GAF_CORE c) F.GAF_CORE_BANK = !s.bit (R.GAF_CORE c) F.GAF_CORE_BANK := by
  rw [State.switchCore, if_pos pending, State.bit_congr (State.rd_finishSwap_core _ c), State.bit_put_field _ _ _ _ _ (by decide) (by decide),
    State.bit_put_flip _ _ _ (by decide) rfl]

end switchCore

/-! ### A swap begins (R213) -/

/-- What a swap sees of logical core `c`: the core, its bank, and whether it has still to switch. -/
def State.swapView (s : State) (c : Nat) : Core × Bool × Bool :=
  (s.core c, s.bit (R.GAF_CORE c) F.GAF_CORE_BANK, s.bit (R.GAF_CORE c) F.GAF_CORE_SWAP_PEND)

/-- The same once the swap to `bank` has begun: a stopped core has switched, any other has event bit 36. -/
def swapBegun (bank : Bool) (v : Core × Bool × Bool) : Core × Bool × Bool :=
  if v.1.isStopped then ({ v.1 with switched := true }, bank, v.2.2) else (v.1.setEvent 36, v.2.1, true)

/-- The step of a swap at logical core `c`. -/
def State.swapCore (bank : Bool) (s : State) (c : Nat) : State :=
  if (s.core c).isStopped then (s.setCore c { s.core c with switched := true }).put (R.GAF_CORE c) F.GAF_CORE_BANK (bit01 bank)
  else (s.setCore c ((s.core c).setEvent 36)).setBit (R.GAF_CORE c) F.GAF_CORE_SWAP_PEND

theorem State.swapCore_view (bank : Bool) (s : State) (c : Nat) : (s.swapCore bank c).swapView c = swapBegun bank (s.swapView c) := by
  unfold State.swapCore swapBegun State.swapView
  dsimp only
  split
  · rw [State.core_put, State.core_setCore, State.bit_put_bit01 _ _ _ _ (by decide) rfl,
      State.bit_put_field _ _ _ _ _ (by decide) (by decide), State.bit_setCore]
  · rw [State.setBit, State.core_put, State.core_setCore, State.bit_put_one _ _ _ (by decide) rfl,
      State.bit_put_field _ _ _ _ _ (by decide) (by decide), State.bit_setCore]

theorem State.swapCore_view_other (bank : Bool) (s : State) {c d : Nat} (h : d ≠ c) : (s.swapCore bank d).swapView c = s.swapView c := by
  have apart := gafCore_ne (Ne.symm h)
  unfold State.swapCore State.swapView
  split
  · rw [State.core_put, State.core_setCore_other _ _ _ _ (Ne.symm h), State.bit_put_other _ _ _ _ _ _ apart,
      State.bit_put_other _ _ _ _ _ _ apart, State.bit_setCore, State.bit_setCore]
  · rw [State.setBit, State.core_put, State.core_setCore_other _ _ _ _ (Ne.symm h), State.bit_put_other _ _ _ _ _ _ apart,
      State.bit_put_other _ _ _ _ _ _ apart, State.bit_setCore, State.bit_setCore]

theorem State.swapCore_gafOnly (bank : Bool) (s : State) (c : Nat) : GafOnly [R.GAF_CORE c] s (s.swapCore bank c) := by
  unfold State.swapCore
  split
  · exact (GafOnly.setCore s _ c _).trans (.of_only (Only.put _ _ _ _ _ (List.mem_singleton_self _)))
  · exact (GafOnly.setCore s _ c _).trans (.of_only (Only.put _ _ _ _ _ (List.mem_singleton_self _)))

/-- A view that one step of a run without repetition changes and the others leave shows that one step. -/
theorem foldl_view_once {α β : Type} (f : α → Nat → α) (view : α → β) (change : β → β) (c : Nat)
    (own : ∀ s, view (f s c) = change (view s)) (others : ∀ s d, d ≠ c → view (f s d) = view s) (l : List Nat) (once : l.Nodup) (s : α) :
    view (l.foldl f s) = if c ∈ l then change (view s) else view s := by
  induction l generalizing s with
  | nil => rfl
  | cons d l ih =>
    obtain ⟨fresh, rest⟩ := List.nodup_cons.mp once
    rw [List.foldl_cons, ih rest]
    by_cases h : d = c
    · subst h
      rw [if_neg fresh, own, if_pos List.mem_cons_self]
    · simp only [others s d h, List.mem_cons, Ne.symm h, false_or]

section swap
variable (s : State) (b : Bool)

/-- The cores have begun a swap. -/
def State.swapStarted : State := (List.range 32).foldl (State.swapCore b) (s.setBit R.GAF_STATUS F.GAF_STATUS_SWAP_BUSY)

theorem State.swapStarted_view {c : Nat} (hc : c < 32) : (s.swapStarted b).swapView c = swapBegun b (s.swapView c) := by
  have same : (s.setBit R.GAF_STATUS F.GAF_STATUS_SWAP_BUSY).swapView c = s.swapView c := by
    rw [State.swapView, State.setBit, State.core_put, State.bit_put_other _ _ _ _ _ _ (gafCore_ne_status c),
      State.bit_put_other _ _ _ _ _ _ (gafCore_ne_status c), State.swapView]
  rw [State.swapStarted, foldl_view_once _ (State.swapView · c) (swapBegun b) c (fun u => u.swapCore_view b c)
    (fun u d h => u.swapCore_view_other b h) _ List.nodup_range, if_pos (List.mem_range.mpr hc), same]

/-- A stopped core has switched to the new bank. -/
theorem State.swapStarted_stopped {c : Nat} (hc : c < 32) (stopped : (s.core c).isStopped = true) :
    (s.swapStarted b).core c = { s.core c with switched := true } ∧ (s.swapStarted b).bit (R.GAF_CORE c) F.GAF_CORE_BANK = b ∧
      (s.swapStarted b).bit (R.GAF_CORE c) F.GAF_CORE_SWAP_PEND = s.bit (R.GAF_CORE c) F.GAF_CORE_SWAP_PEND := by
  have view := (s.swapStarted_view b hc).trans (if_pos stopped)
  simpa only [State.swapView, Prod.mk.injEq] using view

/-- Any other core has event bit 36 and has still to switch. -/
theorem State.swapStarted_running {c : Nat} (hc : c < 32) (running : (s.core c).isStopped = false) :
    (s.swapStarted b).core c = (s.core c).setEvent 36 ∧
      (s.swapStarted b).bit (R.GAF_CORE c) F.GAF_CORE_BANK = s.bit (R.GAF_CORE c) F.GAF_CORE_BANK ∧
      (s.swapStarted b).bit (R.GAF_CORE c) F.GAF_CORE_SWAP_PEND = true := by
  have view := (s.swapStarted_view b hc).trans (if_neg (ne_true_of_eq_false running))
  simpa only [State.swapView, Prod.mk.injEq] using view

theorem State.swapStarted_cores : GafOnly ((List.range 32).map R.GAF_CORE) (s.setBit R.GAF_STATUS F.GAF_STATUS_SWAP_BUSY) (s.swapStarted b) :=
  List.foldlRecOn (motive := GafOnly _ _) _ _ ⟨rfl, fun _ _ => rfl⟩ fun u hu c hc =>
    hu.trans ((u.swapCore_gafOnly b c).mono fun _ h => List.mem_singleton.mp h ▸ List.mem_map_of_mem hc)

theorem State.swapStarted_status : (s.swapStarted b).bit R.GAF_STATUS F.GAF_STATUS_SWAP_BUSY = true ∧
    (s.swapStarted b).bit R.GAF_STATUS F.GAF_STATUS_ACTIVE_BANK = s.bit R.GAF_STATUS F.GAF_STATUS_ACTIVE_BANK := by
  have kept : (s.swapStarted b).rd R.GAF_STATUS = (s.setBit R.GAF_STATUS F.GAF_STATUS_SWAP_BUSY).rd R.GAF_STATUS :=
    (s.swapStarted_cores b).rd_eq fun r hr => by
      obtain ⟨c, -, rfl⟩ := List.mem_map.mp hr
      exact (gafCore_ne_status c).symm
  rw [State.bit_congr kept, State.bit_congr kept]
  exact ⟨s.bit_setBit _ _ (by decide) rfl, s.bit_put_field _ _ _ _ (by decide) (by decide)⟩

theorem exec_firmwareSwap_refused
    (refused : s.bit R.GAF_STATUS F.GAF_STATUS_SWAP_BUSY = true ∨ s.bit R.GAF_STATUS F.GAF_STATUS_ACTIVE_BANK = b) :
    exec (.firmwareSwap b) s = .next (s.setBit R.GAF_STATUS F.GAF_STATUS_CFG_REFUSED) := by
  refine congrArg Host.Outcome.next (if_pos ?_)
  rw [State.get_eq_bit01 _ _ _ rfl, Bool.or_eq_true_iff, beq_iff_eq]
  exact refused.imp_right (congrArg bit01)

theorem exec_firmwareSwap_begins (free : s.bit R.GAF_STATUS F.GAF_STATUS_SWAP_BUSY = false)
    (other : s.bit R.GAF_STATUS F.GAF_STATUS_ACTIVE_BANK = !b) : exec (.firmwareSwap b) s = .next (s.swapStarted b).finishSwap := by
  refine congrArg Host.Outcome.next (if_neg ?_)
  rw [State.get_eq_bit01 _ _ _ rfl, free, other]
  cases b <;> decide

/-- A swap reaches every core, and ends at once when none has to switch. -/
theorem exec_firmwareSwap_spec (free : s.bit R.GAF_STATUS F.GAF_STATUS_SWAP_BUSY = false)
    (other : s.bit R.GAF_STATUS F.GAF_STATUS_ACTIVE_BANK = !b) : ∃ t, exec (.firmwareSwap b) s = .next t ∧
    (∀ c, c < 32 → (s.core c).isStopped = true → t.core c = { s.core c with switched := true } ∧
      t.bit (R.GAF_CORE c) F.GAF_CORE_BANK = b) ∧
    (∀ c, c < 32 → (s.core c).isStopped = false → t.core c = (s.core c).setEvent 36 ∧
      t.bit (R.GAF_CORE c) F.GAF_CORE_SWAP_PEND = true ∧ t.bit R.GAF_STATUS F.GAF_STATUS_SWAP_BUSY = true ∧
      t.bit R.GAF_STATUS F.GAF_STATUS_ACTIVE_BANK = !b) ∧
    ((∀ c, c < 32 → (s.core c).isStopped = true ∧ s.bit (R.GAF_CORE c) F.GAF_CORE_SWAP_PEND = false) →
      t.bit R.GAF_STATUS F.GAF_STATUS_SWAP_BUSY = false ∧ t.bit R.GAF_STATUS F.GAF_STATUS_ACTIVE_BANK = b) ∧
    Only (R.GAF_STATUS :: (List.range 32).map R.GAF_CORE) { s with gaf := t.gaf } t := by
  refine ⟨_, exec_firmwareSwap_begins s b free other, fun c hc stopped => ?_, fun c hc running => ?_, fun all => ?_, ?_⟩
  · obtain ⟨core, bank, -⟩ := s.swapStarted_stopped b hc stopped
    rw [(State.finishSwap_only _).core_eq, State.bit_congr (State.rd_finishSwap_core _ c)]
    exact ⟨core, bank⟩
  · obtain ⟨core, -, pending⟩ := s.swapStarted_running b hc running
    obtain ⟨busy, active⟩ := s.swapStarted_status b
    rw [State.finishSwap_pending hc pending]
    exact ⟨core, pending, busy, active.trans other⟩
  · obtain ⟨busy, active⟩ := s.swapStarted_status b
    have quiet (c : Nat) (hc : c < 32) : (s.swapStarted b).bit (R.GAF_CORE c) F.GAF_CORE_SWAP_PEND = false := by
      obtain ⟨stopped, switched⟩ := all c hc
      obtain ⟨-, -, same⟩ := s.swapStarted_stopped b hc stopped
      exact same.trans switched
    obtain ⟨ended, moved⟩ := State.finishSwap_done busy quiet
    exact ⟨ended, by rw [moved, active, other, Bool.not_not]⟩
  · have begun : GafOnly (R.GAF_STATUS :: (List.range 32).map R.GAF_CORE) s (s.setBit R.GAF_STATUS F.GAF_STATUS_SWAP_BUSY) :=
      .of_only (Only.put _ _ _ _ _ List.mem_cons_self)
    exact (begun.trans ((s.swapStarted_cores b).mono fun _ h => List.mem_cons_of_mem _ h)).trans
      (.of_only ((State.finishSwap_only _).mono fun _ h => List.mem_singleton.mp h ▸ List.mem_cons_self))

end swap

/-! ### A core restarts (R213, R214) -/

/-- A logical core as it starts at syllable `pc`, with the events `pend` and all other registers zero. -/
def Core.startAt (pc pend : Nat) : Core := { csr := SMap.set [] 0 CSR.EVPEND pend, pc := pc, run := .running, ran := true }

section restart
variable (s : State) (c : Nat) (x : Core)

/-- Only the restarted core changes, and it has switched. -/
theorem State.restart_spec : ((s.setCore c x).switchCore c).core c = x ∧ (∀ d, d ≠ c → ((s.setCore c x).switchCore c).core d = s.core d) ∧
    ((s.setCore c x).switchCore c).bit (R.GAF_CORE c) F.GAF_CORE_SWAP_PEND = false ∧
    ((s.setCore c x).switchCore c).reports = s.reports ∧ ((s.setCore c x).switchCore c).mem = s.mem := by
  have only := (s.setCore c x).switchCore_only c
  refine ⟨?_, fun d hd => ?_, ((s.setCore c x).switchCore_word c).1, only.reports_eq, only.mem_eq⟩
  · rw [only.core_eq, State.core_setCore]
  · rw [only.core_eq, State.core_setCore_other _ _ _ _ hd]

end restart

section forced
variable {s : State} {c : Fin 32}

theorem exec_gafSwapForced_eq (pending : s.bit (R.GAF_CORE c.val) F.GAF_CORE_SWAP_PEND = true) (drained : (s.core c.val).sb = [])
    (present : (s.core c.val).run ≠ .taking) : exec (.gafSwapForced c) s =
      .next (((s.report FC.GAF_SWAP_FORCED UK.core c.val 0 (s.phys c.val) (s.core c.val).pc).setCore c.val
        (.startAt 1 ((s.core c.val).rcsr CSR.EVPEND))).switchCore c.val) := by
  refine if_neg ?_
  rw [pending, drained]
  simpa using present

theorem exec_spareStart_starts (taking : (s.core c.val).run = .taking) (drained : (s.core c.val).sb = []) : exec (.spareStart c) s =
    .next ((s.setCore c.val (.startAt 2 (Nat.lor ((s.core c.val).rcsr CSR.EVPEND) (2 ^ 37)))).switchCore c.val) := by
  refine congrArg Host.Outcome.next (if_neg ?_)
  rw [taking, drained]
  decide

theorem exec_spareStart_waits (waits : (s.core c.val).run ≠ .taking ∨ (s.core c.val).sb ≠ []) : exec (.spareStart c) s = .next s := by
  refine congrArg Host.Outcome.next (if_pos ?_)
  simpa using waits

end forced

/-! ### Takeover (R214, R215) -/

section takeover
variable (s : State) (c : Nat) (discard : Bool)

/-- The failed physical core is marked, and the accesses of its logical core are forgotten. -/
def State.forsaken : State :=
  let s := s.put R.GAF_STATUS F.GAF_STATUS_FAILED_MASK (Nat.lor (s.get R.GAF_STATUS F.GAF_STATUS_FAILED_MASK) (2 ^ s.phys c))
  if discard then (s.gateDone (c + 1)).gateDone (1001 + c) else s.gateDone (c + 1)

/-- The failed core, with its store buffer discarded or not. -/
def State.failedCore : Core := if discard then { s.core c with sb := [] } else s.core c

theorem State.forsaken_reports : (s.forsaken c discard).reports = s.reports := by cases discard <;> rfl
theorem State.forsaken_now : (s.forsaken c discard).now = s.now := by cases discard <;> rfl

theorem State.rd_forsaken (r : RegRef) : (s.forsaken c discard).rd r =
    (s.put R.GAF_STATUS F.GAF_STATUS_FAILED_MASK (Nat.lor (s.get R.GAF_STATUS F.GAF_STATUS_FAILED_MASK) (2 ^ s.phys c))).rd r := by
  cases discard <;> rfl

theorem State.forsaken_spares : (s.forsaken c discard).get R.GAF_STATUS F.GAF_STATUS_SPARES = s.get R.GAF_STATUS F.GAF_STATUS_SPARES := by
  rw [State.get_congr (s.rd_forsaken c discard _), State.get_put_field _ _ _ _ _ (by decide) (by decide)]

/-- A spare of `n` takes the number of the core. -/
def State.spareTaken (n : Nat) : State :=
  (((s.forsaken c discard).setCore c { s.failedCore c discard with run := .taking }).put (R.GAF_CORE c) F.GAF_CORE_PHYS (34 - n)).put
    R.GAF_STATUS F.GAF_STATUS_SPARES (n - 1)

/-- The number is left without a core. -/
def State.coreLost : State :=
  (((s.forsaken c discard).setCore c { s.failedCore c discard with run := .failed }).put (R.GAF_CORE c) F.GAF_CORE_PHYS 0x3F).switchCore c

theorem State.spareTaken_only (n : Nat) : Only [R.GAF_STATUS, R.GAF_CORE c]
    { s with gaf := (s.spareTaken c false n).gaf, gst := { s.gst with bound := (s.spareTaken c false n).gst.bound } } (s.spareTaken c false n) := by
  refine ⟨rfl, fun r apart => ?_⟩
  have status := apart R.GAF_STATUS (by simp)
  have core := apart (R.GAF_CORE c) (by simp)
  rw [State.spareTaken, State.rd_put_other _ _ _ _ _ status, State.rd_put_other _ _ _ _ _ core, State.rd_setCore, State.rd_forsaken,
    State.rd_put_other _ _ _ _ _ status]
  rfl

theorem State.coreLost_spec : (s.coreLost c discard).core c = { s.failedCore c discard with run := .failed } ∧
    (s.coreLost c discard).phys c = 0x3F ∧ (s.coreLost c discard).reports = s.reports ∧
    (s.coreLost c discard).now = s.now := by
  have only := (((s.forsaken c discard).setCore c { s.failedCore c discard with run := .failed }).put (R.GAF_CORE c)
    F.GAF_CORE_PHYS 0x3F).switchCore_only c
  refine ⟨?_, ?_, only.reports_eq.trans (s.forsaken_reports c discard), only.now_eq.trans (s.forsaken_now c discard)⟩
  · rw [State.coreLost, only.core_eq, State.core_put, State.core_setCore]
  · rw [State.coreLost, (State.switchCore_word _ c).2, State.phys, State.get_put_same _ _ _ _ (by decide)]
    rfl

variable {n : Nat} (hn : n = s.get R.GAF_STATUS F.GAF_STATUS_SPARES)
include hn

theorem State.takeover_spare (left : n ≠ 0) : s.takeover c discard = s.spareTaken c discard n := by
  have spares : (s.forsaken c discard).get R.GAF_STATUS F.GAF_STATUS_SPARES = n := (s.forsaken_spares c discard).trans hn.symm
  refine (if_neg (ne_of_eq_of_ne spares left)).trans ?_
  rw [State.spareTaken, ← spares]
  cases discard <;> rfl

theorem State.takeover_none (none : n = 0) :
    s.takeover c discard = (s.coreLost c discard).report FC.GAF_NOSPARE UK.core c 0 (s.phys c) 0 := by
  have spares : (s.forsaken c discard).get R.GAF_STATUS F.GAF_STATUS_SPARES = 0 := (s.forsaken_spares c discard).trans (hn.symm.trans none)
  refine (if_pos spares).trans ?_
  cases discard <;> rfl

theorem State.spareTaken_spec : (s.spareTaken c discard n).core c = { s.failedCore c discard with run := .taking } ∧
    (s.spareTaken c discard n).phys c = 34 - n ∧ (s.spareTaken c discard n).reports = s.reports := by
  have few : n < 2 ^ 2 := hn ▸ Nat.mod_lt _ (by decide)
  refine ⟨?_, ?_, s.forsaken_reports c discard⟩
  · rw [State.spareTaken, State.core_put, State.core_put, State.core_setCore]
  · rw [State.phys, State.spareTaken, State.get_put_other _ _ _ _ _ _ (gafCore_ne_status c), State.get_put_same _ _ _ _ (by decide)]
    exact Nat.mod_eq_of_lt (show 34 - n < 2 ^ 6 by omega)

/-- One spare fewer is left, and the failed physical core is marked. -/
theorem State.spareTaken_status : (s.spareTaken c discard n).get R.GAF_STATUS F.GAF_STATUS_SPARES = n - 1 ∧
    (s.spareTaken c discard n).get R.GAF_STATUS F.GAF_STATUS_FAILED_MASK =
      Nat.lor (s.get R.GAF_STATUS F.GAF_STATUS_FAILED_MASK) (2 ^ s.phys c) % 2 ^ 34 := by
  have few : n < 2 ^ 2 := hn ▸ Nat.mod_lt _ (by decide)
  constructor
  · rw [State.spareTaken, State.get_put_same _ _ _ _ (by decide)]
    exact Nat.mod_eq_of_lt (show n - 1 < 2 ^ 2 by omega)
  · rw [State.spareTaken, State.get_put_field _ _ _ _ _ (by decide) (by decide), State.get_put_other _ _ _ _ _ _ (gafCore_ne_status c).symm]
    refine (State.get_congr (s.rd_forsaken c discard R.GAF_STATUS) F.GAF_STATUS_FAILED_MASK).trans ?_
    exact State.get_put_same _ _ _ _ (by decide)

end takeover

section commands
variable (s : State) (c : Fin 32)

theorem exec_coreTakeover_has (has : s.hasCore c.val = true) : exec (.coreTakeover c) s = .next (s.takeover c.val false) :=
  congrArg Host.Outcome.next (if_pos has)

/-- Without a physical core, the commands about a failed one change nothing. -/
theorem exec_takeovers_without_core (lacks : s.hasCore c.val = false) :
    exec (.coreTakeover c) s = .next s ∧ exec (.gafStall c) s = .next s ∧ exec (.gafCoreUe c) s = .next s := by
  refine ⟨congrArg Host.Outcome.next (if_neg ?_), if_neg ?_, if_pos ?_⟩
  · rw [lacks]
    decide
  · rw [lacks, Bool.false_and, Bool.false_and]
    decide
  · rw [lacks]
    rfl

theorem exec_gafStall_running (has : s.hasCore c.val = true) (auto : s.bit R.GAF_CTL F.GAF_CTL_AUTO_TK = true)
    (running : (s.core c.val).run = .running) : exec (.gafStall c) s =
      .next ((s.report FC.GAF_STALL UK.core c.val 0 (s.phys c.val) (s.core c.val).pc).takeover c.val false) := by
  refine if_pos ?_
  rw [has, auto, running]
  rfl

theorem exec_gafStall_manual (manual : s.bit R.GAF_CTL F.GAF_CTL_AUTO_TK = false) : exec (.gafStall c) s = .next s := by
  refine if_neg ?_
  rw [manual, Bool.and_false]
  decide

theorem exec_gafCoreUe_has (has : s.hasCore c.val = true) : exec (.gafCoreUe c) s =
    .next (if s.bit R.GAF_CTL F.GAF_CTL_AUTO_TK then
      (s.report FC.GAF_CORE_UE UK.core c.val 0 (s.phys c.val + bit01 (s.bit R.GAF_CTL F.GAF_CTL_AUTO_TK) * 2 ^ 15) 0).takeover c.val true
    else s.report FC.GAF_CORE_UE UK.core c.val 0 (s.phys c.val + bit01 (s.bit R.GAF_CTL F.GAF_CTL_AUTO_TK) * 2 ^ 15) 0) := by
  refine if_neg ?_
  rw [has]
  decide

/-- A core past SWAP_TO restarts at syllable 1 of the new bank. -/
theorem exec_gafSwapForced_spec (pending : s.bit (R.GAF_CORE c.val) F.GAF_CORE_SWAP_PEND = true) (drained : (s.core c.val).sb = [])
    (present : (s.core c.val).run ≠ .taking) : ∃ t, exec (.gafSwapForced c) s = .next t ∧
    t.core c.val = .startAt 1 ((s.core c.val).rcsr CSR.EVPEND) ∧ (∀ d, d ≠ c.val → t.core d = s.core d) ∧
    t.bit (R.GAF_CORE c.val) F.GAF_CORE_SWAP_PEND = false ∧
    t.bit (R.GAF_CORE c.val) F.GAF_CORE_BANK = !s.bit (R.GAF_CORE c.val) F.GAF_CORE_BANK ∧
    t.reports = s.reports ++ [⟨FC.GAF_SWAP_FORCED, UK.core, c.val, 0, s.phys c.val, (s.core c.val).pc, s.now, false⟩] ∧ t.mem = s.mem := by
  obtain ⟨core, others, switched, reports, mem⟩ := State.restart_spec
    (s.report FC.GAF_SWAP_FORCED UK.core c.val 0 (s.phys c.val) (s.core c.val).pc) c.val (.startAt 1 ((s.core c.val).rcsr CSR.EVPEND))
  exact ⟨_, exec_gafSwapForced_eq pending drained present, core, others, switched, State.switchCore_bank _ _ pending, reports, mem⟩

section spares
variable {n : Nat} (hn : n = s.get R.GAF_STATUS F.GAF_STATUS_SPARES) (has : s.hasCore c.val = true)
include hn has

theorem exec_coreTakeover_spare (left : n ≠ 0) : ∃ t, exec (.coreTakeover c) s = .next t ∧
    t.core c.val = { s.core c.val with run := .taking } ∧ t.phys c.val = 34 - n ∧
    t.get R.GAF_STATUS F.GAF_STATUS_SPARES = n - 1 ∧ t.get R.GAF_STATUS F.GAF_STATUS_FAILED_MASK =
      Nat.lor (s.get R.GAF_STATUS F.GAF_STATUS_FAILED_MASK) (2 ^ s.phys c.val) % 2 ^ 34 ∧
    Only [R.GAF_STATUS, R.GAF_CORE c.val] { s with gaf := t.gaf, gst := { s.gst with bound := t.gst.bound } } t ∧
    t.gst.bound = s.gst.bound.filter (fun b => b.who != c.val + 1) := by
  obtain ⟨core, phys, -⟩ := s.spareTaken_spec c.val false hn
  obtain ⟨spares, mask⟩ := s.spareTaken_status c.val false hn
  exact ⟨_, (exec_coreTakeover_has s c has).trans (congrArg Host.Outcome.next (s.takeover_spare c.val false hn left)), core, phys, spares, mask,
    s.spareTaken_only c.val n, rfl⟩

theorem exec_gafStall_spare (left : n ≠ 0) (auto : s.bit R.GAF_CTL F.GAF_CTL_AUTO_TK = true) (running : (s.core c.val).run = .running) :
    ∃ t, exec (.gafStall c) s = .next t ∧ t.core c.val = { s.core c.val with run := .taking } ∧ t.phys c.val = 34 - n ∧
      t.reports = s.reports ++ [⟨FC.GAF_STALL, UK.core, c.val, 0, s.phys c.val, (s.core c.val).pc, s.now, false⟩] := by
  obtain ⟨core, phys, reports⟩ := (s.report FC.GAF_STALL UK.core c.val 0 (s.phys c.val) (s.core c.val).pc).spareTaken_spec c.val false hn
  exact ⟨_, (exec_gafStall_running s c has auto running).trans (congrArg Host.Outcome.next (State.takeover_spare _ c.val false hn left)),
    core, phys, reports⟩

/-- After an uncorrectable error the store buffer is discarded too. -/
theorem exec_gafCoreUe_spare (left : n ≠ 0) (auto : s.bit R.GAF_CTL F.GAF_CTL_AUTO_TK = true) :
    ∃ t, exec (.gafCoreUe c) s = .next t ∧ t.core c.val = { s.core c.val with sb := [], run := .taking } ∧ t.phys c.val = 34 - n ∧
      t.reports = s.reports ++ [⟨FC.GAF_CORE_UE, UK.core, c.val, 0, s.phys c.val + 2 ^ 15, 0, s.now, false⟩] := by
  obtain ⟨core, phys, reports⟩ := (s.report FC.GAF_CORE_UE UK.core c.val 0 (s.phys c.val + 2 ^ 15) 0).spareTaken_spec c.val true hn
  refine ⟨_, ?_, core, phys, reports⟩
  rw [exec_gafCoreUe_has s c has, auto, if_pos rfl]
  exact congrArg Host.Outcome.next (State.takeover_spare _ c.val true hn left)

theorem exec_coreTakeover_none (none : n = 0) : ∃ t, exec (.coreTakeover c) s = .next t ∧
    t.core c.val = { s.core c.val with run := .failed } ∧ t.phys c.val = 0x3F ∧
    t.reports = s.reports ++ [⟨FC.GAF_NOSPARE, UK.core, c.val, 0, s.phys c.val, 0, s.now, false⟩] := by
  obtain ⟨core, phys, reports, now⟩ := s.coreLost_spec c.val false
  refine ⟨_, (exec_coreTakeover_has s c has).trans (congrArg Host.Outcome.next (s.takeover_none c.val false hn none)), core, phys, ?_⟩
  rw [State.report, reports, now]

end spares

theorem exec_gafCoreUe_manual (manual : s.bit R.GAF_CTL F.GAF_CTL_AUTO_TK = false) (has : s.hasCore c.val = true) :
    exec (.gafCoreUe c) s = .next (s.report FC.GAF_CORE_UE UK.core c.val 0 (s.phys c.val) 0) := by
  rw [exec_gafCoreUe_has s c has, manual, if_neg (by decide)]
  rfl

/-- The spare starts at syllable 2 with the events of the failed core and bit 37. -/
theorem exec_spareStart_spec (taking : (s.core c.val).run = .taking) (drained : (s.core c.val).sb = []) :
    ∃ t, exec (.spareStart c) s = .next t ∧ t.core c.val = .startAt 2 (Nat.lor ((s.core c.val).rcsr CSR.EVPEND) (2 ^ 37)) ∧
      t.bit (R.GAF_CORE c.val) F.GAF_CORE_SWAP_PEND = false ∧ (∀ d, d ≠ c.val → t.core d = s.core d) ∧ t.mem = s.mem := by
  obtain ⟨core, others, switched, -, mem⟩ := s.restart_spec c.val (.startAt 2 (Nat.lor ((s.core c.val).rcsr CSR.EVPEND) (2 ^ 37)))
  exact ⟨_, exec_spareStart_starts taking drained, core, switched, others, mem⟩

end commands

/-! ### The statement -/

/-- Settles O42, clause by clause: the direct-write mode, its records, the gates' regions, the swap, and the takeover. -/
theorem directWritesSwapsAndTakeovers : Obligations.DirectWritesSwapsAndTakeovers := by
  unfold Obligations.DirectWritesSwapsAndTakeovers
  refine ⟨fun s d g key => ⟨exec_directModeWrite_wrongKey s d g, fun domains gates => ?_, fun i hi pending off on => ?_⟩,
    exec_directRecordWrite_off, fun s p v on => ?_, fun s u i lo v on fits held hu => ?_, fun s u g i lo v fits held hu => ?_,
    fun s b => ⟨exec_firmwareSwap_refused s b, exec_firmwareSwap_spec s b⟩, exec_gafSwapForced_spec, fun s c n hn => ?_⟩
  · obtain ⟨mode, gdir, only⟩ := s.directSet_spec d g
    refine ⟨_, ?_, mode, gdir, only⟩
    rw [exec_directModeWrite_keyed s d g rfl, s.entersBusy_eq_false d g domains gates, if_neg (by decide)]
  · rw [exec_directModeWrite_keyed s d g rfl, s.entersBusy_of_pending d g hi pending off on, if_pos rfl]
  · have word := Nat.mod_eq_of_lt (masked_lt v (cardMask Card.CRU_MIRPORT))
    exact ⟨_, exec_directRecordWrite_mirrorPort s p v on, (s.rd_wrBoth _ _).trans word, (s.rdAct_wrBoth _ _).trans word, s.wrBoth_only _ _⟩
  · exact ⟨exec_directRecordWrite_goodProfile on held hu fits, exec_directRecordWrite_badProfile on held hu⟩
  · exact ⟨exec_gateRegionDirectWrite_off, fun on => exec_gateRegionDirectWrite_good on held hu fits,
      fun on => exec_gateRegionDirectWrite_bad on held hu⟩
  · exact ⟨exec_takeovers_without_core s c,
      fun has left => ⟨exec_coreTakeover_spare s c hn has left, exec_gafStall_spare s c hn has left, exec_gafCoreUe_spare s c hn has left⟩,
      exec_coreTakeover_none s c hn, fun manual => ⟨exec_gafStall_manual s c manual, exec_gafCoreUe_manual s c manual⟩,
      exec_spareStart_spec s c, exec_spareStart_waits⟩

end Sys2Proof.Machine
end

section
/-!
PROOFS. How an agent issues an instruction (R187): one that a false predicate covers is passed over, one that retires does so once, and one that
raises an exception, waits or ends its request leaves what that makes of the state.
-/
namespace Sys2Proof.Machine

/-! ### Outcomes -/

/-- The state an instruction has reached as it retires: none for one that raises an exception, waits, or ends a request. -/
def IRes.retiring : IRes → Option State
  | .next t | .jump t _ | .pred t _ => some t
  | .exc .. | .wait | .waits _ | .hold _ | .ended _ => none

/-- What an instruction that does not retire makes of state `s`; none for one that does, or that a gate keeps waiting. -/
def State.unretired (s : State) (ag : Agent) : IRes → Option State
  | .exc t code addr => some (s.raise t ag code addr)
  | .wait => some s
  | .hold t | .ended t => some t
  | .next _ | .jump .. | .pred .. | .waits _ => none

section outcomes
variable {s v : State} {insn : Nat} {f : State → IRes}

theorem State.issue_unretired {ag : Agent} (ready : s.ready ag) (left : s.unretired ag (f (s.begun ag)) = some v) :
    s.issue ag insn f = v := by
  obtain ⟨live, uncovered, -⟩ := ready
  unfold State.issue
  extract_lets x pc run begun
  have runs : run = true := by simp only [run, x, uncovered]
  change s.unretired ag (f begun) = some v at left
  simp only [live, runs, Bool.not_true, Bool.false_eq_true, if_false]
  cases ends : f begun with
  | exc | wait | hold | ended =>
    rw [ends] at left
    exact Option.some.inj left
  | next | jump | pred | waits =>
    rw [ends] at left
    cases left

/-- An uncovered instruction of a core that completes samples what its retirement does, and nothing behind it. -/
theorem State.issue_smpBeat {c : Fin 32} (ready : s.ready (.core c)) (completed : (f (s.begun (.core c))).retiring = some v) :
    (s.issue (.core c) insn f).smpBeat = (v.retireInsn (.core c) insn (s.core c.val).pc).smpBeat := by
  obtain ⟨live, uncovered, -⟩ := ready
  unfold State.issue
  extract_lets x pc run begun
  have runs : run = true := by simp only [run, x, uncovered]
  change (f begun).retiring = some v at completed
  simp only [live, runs, Bool.not_true, Bool.false_eq_true, if_false]
  cases ends : f begun with
  | next | jump | pred =>
    rw [ends] at completed
    obtain rfl := Option.some.inj completed
    exact State.setCore_smpBeat _ _ _
  | exc | wait | waits | hold | ended =>
    rw [ends] at completed
    cases completed

/-- A covered instruction whose predicate is false is passed over. -/
theorem State.issue_skipped {ag : Agent} {slot : Nat} {rest : List Nat} (live : s.live ag = true) (covered : (s.agent ag).slots = slot :: rest)
    (off : (s.agent ag).slotTrue slot = false) : s.issue ag insn f = s.complete1 ag := by
  simp [State.issue, live, covered, off]

end outcomes

end Sys2Proof.Machine
end

section
/-!
PROOFS. The entry of an exception on a core (R188), and which instructions raise ILLEGAL for the bits of their syllable (R165, R187).
-/
namespace Sys2Proof.Machine

/-! ### Control registers of a core -/

@[simp] theorem Core.rcsr_wcsr_same (x : Core) (n v : Nat) : (x.wcsr n v).rcsr n = v % 2 ^ 64 := SMap.get_set_same _ _ _ _

theorem Core.rcsr_wcsr_other (x : Core) {n m : Nat} (v : Nat) (other : m ≠ n) : (x.wcsr n v).rcsr m = x.rcsr m :=
  SMap.get_set_other _ _ _ _ _ other

section enter
variable (x : Core) (code addr : Nat)

theorem Core.rcsr_enter (n : Nat) : (x.enter code addr).rcsr n =
    (((((x.wcsr CSR.ESTATUS (x.rcsr CSR.STATUS)).wcsr CSR.EPC (if !x.slots.isEmpty then x.predPc else x.pc)).wcsr CSR.ECAUSE
      (code + if !x.slots.isEmpty then x.predDone * 2 ^ 8 + 2 ^ 10 else 0)).wcsr CSR.EADDR addr).wcsr CSR.STATUS 8).rcsr n := rfl

/-- An exception writes no control register but those of R188. -/
theorem Core.rcsr_enter_other {n : Nat} (status : n ≠ CSR.STATUS) (estatus : n ≠ CSR.ESTATUS) (epc : n ≠ CSR.EPC) (ecause : n ≠ CSR.ECAUSE)
    (eaddr : n ≠ CSR.EADDR) : (x.enter code addr).rcsr n = x.rcsr n := by
  rw [Core.rcsr_enter, Core.rcsr_wcsr_other _ _ status, Core.rcsr_wcsr_other _ _ eaddr, Core.rcsr_wcsr_other _ _ ecause,
    Core.rcsr_wcsr_other _ _ epc, Core.rcsr_wcsr_other _ _ estatus]

theorem Core.rcsr_enter_written : (x.enter code addr).rcsr CSR.STATUS = 8 ∧
    (x.enter code addr).rcsr CSR.ESTATUS = x.rcsr CSR.STATUS % 2 ^ 64 ∧
    (x.enter code addr).rcsr CSR.EPC = (if !x.slots.isEmpty then x.predPc else x.pc) % 2 ^ 64 ∧
    (x.enter code addr).rcsr CSR.ECAUSE = (code + if !x.slots.isEmpty then x.predDone * 2 ^ 8 + 2 ^ 10 else 0) % 2 ^ 64 ∧
    (x.enter code addr).rcsr CSR.EADDR = addr % 2 ^ 64 := by
  refine ⟨(x.rcsr_enter code addr _).trans (Core.rcsr_wcsr_same _ _ _), ?_, ?_, ?_, ?_⟩
  all_goals simp (disch := decide) only [Core.rcsr_enter, Core.rcsr_wcsr_same, Core.rcsr_wcsr_other]

theorem Core.pc_enter : (x.enter code addr).pc = x.rcsr CSR.EVEC % 2 ^ 32 :=
  congrArg (· % 2 ^ 32) (x.rcsr_enter_other code addr (by decide) (by decide) (by decide) (by decide) (by decide))

theorem Core.rg_enter (r : Nat) : (x.enter code addr).rg r = x.rg r := by simp only [Core.enter, Core.wcsr, Core.rg]
theorem Core.rk_enter (k : Nat) : (x.enter code addr).rk k = x.rk k := by simp only [Core.enter, Core.wcsr, Core.rk]
theorem Core.rp_enter (p : Nat) : (x.enter code addr).rp p = x.rp p := by simp only [Core.enter, Core.wcsr, Core.rp]
theorem Core.sb_enter : (x.enter code addr).sb = x.sb := by simp only [Core.enter, Core.wcsr]

end enter

/-- Settles O6, register by register. -/
theorem exceptionEntrySavesAndGoesToTheHandler : Obligations.ExceptionEntrySavesAndGoesToTheHandler := by
  unfold Obligations.ExceptionEntrySavesAndGoesToTheHandler
  intro x code addr small done y
  obtain ⟨status, estatus, epc, ecause, eaddr⟩ := x.rcsr_enter_written code addr
  refine ⟨estatus, ?_, ?_, eaddr, ?_, ?_, ?_, x.pc_enter code addr, x.rg_enter code addr, x.rk_enter code addr,
    x.rp_enter code addr, x.sb_enter code addr, fun n => x.rcsr_enter_other code addr⟩
  · rw [epc]
    cases x.slots <;> simp
  · rw [ecause]
    cases x.slots <;> simp <;> omega
  · rw [Core.priv, status]
  · rw [Core.exl, status]
    rfl
  · rw [Core.ie, status]
    rfl

/-! ### An instruction that raises an exception -/

/-- With EXL clear, an exception on a core with an empty store buffer is entered. -/
theorem State.coreExc_entered {s : State} {c : Nat} (code addr : Nat) (clear : (s.core c).exl = false) :
    s.coreExc c code addr = (s.gateDone (c + 1)).setCore c ((s.core c).enter code addr) := by
  refine if_neg ?_
  rw [clear]
  decide

theorem State.core_begun (s : State) (c : Fin 32) : (s.begun (.core c)).core c.val = { s.core c.val with skip := 0 } := State.core_setCore _ _ _

theorem enters_of_issue {s : State} {i : Instr} {c : Fin 32} {insn code addr : Nat} {f : State → IRes} (trap : s.mayTrap c)
    (run : exec i s = .next (s.issue (.core c) insn f)) (raises : f (s.begun (.core c)) = .exc (s.begun (.core c)) code addr) :
    Enters s i c code addr := by
  obtain ⟨ready, drained, clear⟩ := trap
  have begunClear : ((s.begun (.core c)).core c.val).exl = false := by
    rw [State.core_begun]
    exact clear
  have raised : s.raise (s.begun (.core c)) (.core c) code addr = (s.begun (.core c)).coreExc c.val code addr := by
    rw [State.raise, drained]
    rfl
  have issued := State.issue_unretired (insn := insn) (f := f) ready (congrArg (s.unretired (.core c)) raises)
  rw [raised, State.coreExc_entered code addr begunClear, State.core_begun] at issued
  rw [issued] at run
  refine ⟨_, run, State.core_setCore _ _ _, fun d other => ?_, ?_, ?_, ?_⟩
  · rw [State.core_setCore_other _ _ _ _ other]
    exact State.core_setCore_other _ _ _ _ other
  all_goals simp only [State.begun, State.setAgent, State.setCore, State.gateDone]

theorem endsRequest_of_issue {s : State} {i : Instr} {l : Fin 256} {insn code addr : Nat} {f : State → IRes} (ready : s.ready (.lane l))
    (run : exec i s = .next (s.issue (.lane l) insn f)) (raises : f (s.begun (.lane l)) = .exc (s.begun (.lane l)) code addr) :
    EndsRequest s i l code addr :=
  run.trans (congrArg Host.Outcome.next (State.issue_unretired ready (congrArg (s.unretired (.lane l)) raises)))

/-! ### The instructions -/

/-- Every instruction is issued by its agent if its syllable decodes. -/
theorem exec_issued {i : Instr} {ag : Agent} {r : BitVec 40} (s : State) (issued : Claims.issued i = some (ag, r)) :
    ∃ insn f, exec i s = .next (s.ifDecodes ag r (s.issue ag insn f)) := by
  cases i
  case atomFadd | atomSwap | atomCas | atomAnd | atomOr | atomXor | atomUmin | atomUmax =>
    cases issued
    exact ⟨_, _, congrArg Host.Outcome.next (by unfold atomic; rfl)⟩
  all_goals cases issued
  all_goals exact ⟨_, _, rfl⟩

theorem exec_undecoded {i : Instr} {ag : Agent} {r : BitVec 40} (s : State) (reserved : r ≠ 0) (issued : Claims.issued i = some (ag, r)) :
    exec i s = .next (s.issue ag 0 (fun s => .exc s EX.ILLEGAL 0)) := by
  obtain ⟨insn, f, run⟩ := exec_issued s issued
  exact run.trans (congrArg Host.Outcome.next (if_neg reserved))

theorem exec_skipped {s : State} {i : Instr} {ag : Agent} {r : BitVec 40} {slot : Nat} {rest : List Nat} (live : s.live ag = true)
    (covered : (s.agent ag).slots = slot :: rest) (off : (s.agent ag).slotTrue slot = false) (issued : Claims.issued i = some (ag, r)) :
    exec i s = .next (s.complete1 ag) := by
  obtain ⟨insn, f, run⟩ := exec_issued s issued
  rw [run, State.ifDecodes, State.issue_skipped live covered off, State.issue_skipped live covered off, ite_self]

/-- Settles O7: what every instruction has in common is that its agent issues it. -/
theorem falsePredicateLeavesOnlyThePcMoved : Obligations.FalsePredicateLeavesOnlyThePcMoved := by
  unfold Obligations.FalsePredicateLeavesOnlyThePcMoved
  refine ⟨fun s c slot rest i r live covered off issued => ?_, fun s i r reserved =>
    ⟨fun c trap issued => enters_of_issue trap (exec_undecoded s reserved issued) rfl,
      fun l ready issued => endsRequest_of_issue ready (exec_undecoded s reserved issued) rfl⟩⟩
  rw [exec_skipped live covered off issued, State.complete1, State.agent, Core.advance, covered]
  rfl

end Sys2Proof.Machine
end

section
/-!
PROOFS. Packets of a Jack program (R180). ENQ and DROP end the request; a MARK changes the lane alone, and no instruction of a lane is a counted
event (R377).
-/
namespace Sys2Proof.Machine

/-! ### Writing a place of a table twice -/

section twice
variable {β : Type}

theorem SMap.del_del (m : SMap β) (k : Nat) : SMap.del (SMap.del m k) k = SMap.del m k := by
  induction m with
  | nil => rfl
  | cons e t ih =>
    by_cases same : e.1 = k
    · simp only [SMap.del, if_pos same, ih]
    · simp only [SMap.del, if_neg same, ih]

theorem SMap.del_ins (m : SMap β) (k : Nat) (v : β) : SMap.del (SMap.ins m k v) k = SMap.del m k := by
  induction m with
  | nil => exact if_pos rfl
  | cons e t ih =>
    by_cases before : k < e.1
    · simp only [SMap.ins, if_pos before, SMap.del, if_true]
    · simp only [SMap.ins, if_neg before, SMap.del, ih]

/-- The second of two writes to one place overwrites the first. -/
theorem SMap.set_set [DecidableEq β] (m : SMap β) (d : β) (k : Nat) (v w : β) : SMap.set (SMap.set m d k v) d k w = SMap.set m d k w := by
  have cleared : SMap.del (SMap.set m d k v) k = SMap.del m k := by
    unfold SMap.set
    split
    · exact SMap.del_del m k
    · rw [SMap.del_ins, SMap.del_del]
  rw [SMap.set, cleared, SMap.set]

end twice

theorem State.setLane_setLane (s : State) (l : Nat) (x y : Core) : (s.setLane l x).setLane l y = s.setLane l y := by
  simp only [State.setLane, SMap.set_set]

/-! ### A lane goes on (R69) -/

section lane
variable {s : State} {l : Fin 256}

theorem State.agent_begun_lane (s : State) (l : Fin 256) : (s.begun (.lane l)).agent (.lane l) = { s.lane l.val with skip := 0 } :=
  State.lane_setLane _ _ _

/-- A lane that goes on does not end its request as it moves on, whatever its instruction made of the lane but for where it stands. -/
theorem State.laneEnd_of_goesOn {x : Core} (goes : s.goesOn (.lane l) = true) (pc : x.pc = ((s.lane l.val).pc + 1) % 2 ^ 32) :
    (s.setLane l.val x).laneEnd (.lane l) = s.setLane l.val x := by
  have same : (s.setLane l.val x).laneReq l.val = s.laneReq l.val := rfl
  cases req : s.laneReq l.val with
  | none =>
    simp only [State.laneEnd, same, req]
  | some r =>
    simp only [State.goesOn, req, decide_eq_true_iff] at goes
    have len : (s.setLane l.val x).laneLen r = s.laneLen r := rfl
    have inside : ¬ s.laneLen r ≤ ((s.lane l.val).pc + 1) % 2 ^ 32 := by
      have := Nat.mod_le ((s.lane l.val).pc + 1) (2 ^ 32)
      omega
    simp only [State.laneEnd, same, req, State.lane_setLane, pc, len, if_neg inside]

theorem CountsOnly.refl (s : State) : CountsOnly s s := ⟨rfl, rfl, fun _ _ => rfl, fun _ _ => ⟨rfl, .inl rfl⟩⟩

/-- An instruction of a lane that makes `x` of it, uncovered and where it stands, completes with the lane moved on. -/
theorem State.lane_completes {x : Core} (goes : s.goesOn (.lane l) = true) (uncovered : x.slots = []) (pc : x.pc = (s.lane l.val).pc) :
    ((s.begun (.lane l)).setAgent (.lane l) x).complete1 (.lane l) = s.setLane l.val x.advance := by
  have moved : x.advance.pc = ((s.lane l.val).pc + 1) % 2 ^ 32 := by
    rw [← pc, Core.advance, uncovered]
  rw [State.complete1, State.agent_setAgent]
  simp only [State.begun, State.setAgent, State.setLane_setLane]
  exact State.laneEnd_of_goesOn goes moved

/-- A MARK of a lane writes `f` of the lane's registers and moves on. -/
theorem mark_lane (fn : Nat) {f : Core → Nat → Core} (g : QPkt → Nat → QPkt) (ra : Nat) (ready : s.ready (.lane l))
    (stays : ∀ x v, (f x v).slots = x.slots ∧ (f x v).pc = x.pc) :
    mark fn f g (.lane l) ra 0 s = s.past (.lane l) (fun x => f x (x.rg ra)) := by
  obtain ⟨live, uncovered, goes⟩ := ready
  obtain ⟨slots, pc⟩ := stays { s.lane l.val with skip := 0 } (({ s.lane l.val with skip := 0 } : Core).rg ra)
  refine (State.issue_next live uncovered (if_neg (by decide))).trans ?_
  rw [State.gr, State.agent_begun_lane]
  exact State.lane_completes goes (slots.trans uncovered) pc

/-! ### The end of the request -/

section request
variable {r : JackReq} (ready : s.ready (.lane l)) (req : s.laneReq l.val = some r)
include ready req

theorem exec_enq_first (ra rb : Fin 32) (first : s.earlierRequest l.val r = false) :
    exec (.enq ⟨l, 0⟩ ra rb) s = .next (((s.begun (.lane l)).jackEnd r).enqueue
      { r.pkt with mdat := (s.lane l.val).rg rb.val, colour := (s.lane l.val).colour, mirror := (s.lane l.val).mirror }
      ((s.lane l.val).rg ra.val % 2 ^ 20)).2 := by
  have here : (s.begun (.lane l)).laneReq l.val = some r := req
  have turn : (s.begun (.lane l)).earlierRequest l.val r = false := first
  refine congrArg Host.Outcome.next ((if_pos rfl).trans (State.issue_unretired ready ?_))
  simp only [here, turn, Bool.false_eq_true, if_false, State.agent_begun_lane]
  rfl

theorem exec_enq_waits (ra rb : Fin 32) (earlier : s.earlierRequest l.val r = true) : exec (.enq ⟨l, 0⟩ ra rb) s = .next s := by
  have here : (s.begun (.lane l)).laneReq l.val = some r := req
  have turn : (s.begun (.lane l)).earlierRequest l.val r = true := earlier
  refine congrArg Host.Outcome.next ((if_pos rfl).trans (State.issue_unretired ready ?_))
  simp only [here, turn, if_true]
  rfl

theorem exec_drop_lane (reason : BitVec 8) :
    exec (.drop ⟨l, 0⟩ reason) s = .next (((s.begun (.lane l)).jackEnd r).dropPkt r.pkt ST.PROG_DROP reason.toNat) := by
  have here : (s.begun (.lane l)).laneReq l.val = some r := req
  refine congrArg Host.Outcome.next ((if_pos rfl).trans (State.issue_unretired ready ?_))
  simp only [here]
  rfl

end request

end lane

/-! ### The statement -/

/-- Settles O18, instruction by instruction. -/
theorem jackProgramsEnqueueDropAndMark : Obligations.JackProgramsEnqueueDropAndMark := by
  unfold Obligations.JackProgramsEnqueueDropAndMark
  intro s l ra rb reason r ready req
  refine ⟨exec_enq_first ready req ra rb, exec_enq_waits ready req ra rb, exec_drop_lane ready req reason,
    ⟨_, congrArg Host.Outcome.next ((if_pos rfl).trans (mark_lane _ _ _ ready fun _ _ => ⟨rfl, rfl⟩)), .refl _⟩,
    ⟨_, congrArg Host.Outcome.next ((if_pos rfl).trans (mark_lane _ _ _ ready fun _ _ => ⟨rfl, rfl⟩)), .refl _⟩⟩

end Sys2Proof.Machine
end

section
/-!
PROOFS. What each form of lookup finds (R176): an index names its entry, a key is searched in its two buckets, and the search of a table of
LPM keeps the longest match it has met.
-/
namespace Sys2Proof.Machine

/-! ### The search of each form -/

section forms
variable (s : State) {d : Tbl} (a b : Nat)

theorem State.lookup_index (type : d.type = 1) : s.lookup d 0 a b = if a < d.size ∧ d.valid (s.entry d a) then some a else none := by
  simp [State.lookup, type]

theorem State.lookup_exact (type : d.type = 2) : s.lookup d 1 a b = s.emFind d (d.key a b) := by
  simp [State.lookup, type]

theorem State.lookup_longest (type : d.type = 3) : s.lookup d 2 a b = s.lpmFind d (topBits a d.width) d.size := by
  simp [State.lookup, type]

/-- A form that is not the table's finds nothing. -/
theorem State.lookup_other {form : Nat} (other : form + 1 ≠ d.type) : s.lookup d form a b = none := if_pos (.inr other)

theorem State.lookup_index_eq_some_iff (type : d.type = 1) (i : Nat) :
    s.lookup d 0 a b = some i ↔ i = a ∧ a < 2 ^ d.cap ∧ d.valid (s.entry d a) = true := by
  rw [s.lookup_index a b type, Option.ite_none_right_eq_some, Option.some.injEq, and_comm, eq_comm (a := a)]
  exact Iff.rfl

end forms

/-! ### Exact match -/

section buckets
variable {s : State} {d : Tbl} {key : Nat}

theorem State.emFind_some {i : Nat} (found : s.emFind d key = some i) : i ∈ d.buckets key ∧ d.valid (s.entry d i) = true ∧
    recWord (s.entry d i) 0 + recWord (s.entry d i) 1 * 2 ^ 64 = key := by
  have holds := List.find?_some found
  rw [Bool.and_eq_true, beq_iff_eq] at holds
  exact ⟨List.mem_of_find?_eq_some found, holds⟩

theorem State.emFind_none (missed : s.emFind d key = none) {i : Nat} (place : i ∈ d.buckets key) (valid : d.valid (s.entry d i) = true) :
    recWord (s.entry d i) 0 + recWord (s.entry d i) 1 * 2 ^ 64 ≠ key := fun holds =>
  List.find?_eq_none.mp missed i place (Bool.and_eq_true_iff.mpr ⟨valid, beq_iff_eq.mpr holds⟩)

end buckets

/-! ### Longest match -/

/-- Entry `i` is valid and matches the top bits of the key. -/
def State.lpmFits (s : State) (d : Tbl) (key i : Nat) : Prop :=
  d.valid (s.entry d i) = true ∧ plenOf (s.entry d i) ≤ min d.width 64 ∧ topBits key (plenOf (s.entry d i)) = recWord (s.entry d i) 0

section longest
variable {s : State} {d : Tbl} {key n : Nat}

theorem State.lpmFits_iff (i : Nat) : s.lpmFits d key i ↔ (d.valid (s.entry d i) && decide (plenOf (s.entry d i) ≤ min d.width 64) &&
    topBits key (plenOf (s.entry d i)) == recWord (s.entry d i) 0) = true := by
  rw [Bool.and_eq_true, Bool.and_eq_true, decide_eq_true_iff, beq_iff_eq, and_assoc]
  exact Iff.rfl

theorem State.lpmFind_succ_misfit (misfit : ¬ s.lpmFits d key n) : s.lpmFind d key (n + 1) = s.lpmFind d key n := by
  rw [State.lpmFits_iff, Bool.not_eq_true] at misfit
  rw [State.lpmFind]
  simp only [misfit]
  cases s.lpmFind d key n <;> rfl

theorem State.lpmFind_succ_first (fits : s.lpmFits d key n) (missed : s.lpmFind d key n = none) : s.lpmFind d key (n + 1) = some n := by
  rw [State.lpmFits_iff] at fits
  rw [State.lpmFind]
  simp only [fits, missed, if_true]

theorem State.lpmFind_succ_fits (fits : s.lpmFits d key n) {j : Nat} (found : s.lpmFind d key n = some j) :
    s.lpmFind d key (n + 1) = if plenOf (s.entry d j) < plenOf (s.entry d n) then some n else some j := by
  rw [State.lpmFits_iff] at fits
  rw [State.lpmFind]
  simp only [fits, found, Bool.true_and, decide_eq_true_iff]

/-- Among the first `n` entries the search misses only what does not fit, and finds one that no fitting one is longer than. -/
theorem State.lpmFind_spec (s : State) (d : Tbl) (key n : Nat) :
    (s.lpmFind d key n = none → ∀ j, j < n → ¬ s.lpmFits d key j) ∧
    (∀ i, s.lpmFind d key n = some i → i < n ∧ s.lpmFits d key i ∧
      ∀ j, j < n → s.lpmFits d key j → plenOf (s.entry d j) ≤ plenOf (s.entry d i)) := by
  induction n with
  | zero => exact ⟨fun _ _ => nofun, nofun⟩
  | succ n ih =>
    obtain ⟨misses, finds⟩ := ih
    by_cases fits : s.lpmFits d key n
    · cases before : s.lpmFind d key n with
      | none =>
        rw [State.lpmFind_succ_first fits before]
        refine ⟨nofun, fun i found => ?_⟩
        obtain rfl := Option.some.inj found
        exact ⟨n.lt_succ_self, fits, Nat.forall_lt_succ_right.mpr ⟨fun j hj fitsJ => absurd fitsJ (misses before j hj), fun _ => le_rfl⟩⟩
      | some k =>
        obtain ⟨hk, fitsK, longest⟩ := finds k before
        rw [State.lpmFind_succ_fits fits before]
        split
        · rename_i longer
          refine ⟨nofun, fun i found => ?_⟩
          obtain rfl := Option.some.inj found
          exact ⟨n.lt_succ_self, fits, Nat.forall_lt_succ_right.mpr ⟨fun j hj fitsJ => (longest j hj fitsJ).trans longer.le, fun _ => le_rfl⟩⟩
        · rename_i shorter
          refine ⟨nofun, fun i found => ?_⟩
          obtain rfl := Option.some.inj found
          exact ⟨hk.trans n.lt_succ_self, fitsK, Nat.forall_lt_succ_right.mpr ⟨longest, fun _ => Nat.le_of_not_lt shorter⟩⟩
    · rw [State.lpmFind_succ_misfit fits]
      refine ⟨fun missed => Nat.forall_lt_succ_right.mpr ⟨misses missed, fits⟩, fun i found => ?_⟩
      obtain ⟨hi, fitsI, longest⟩ := finds i found
      exact ⟨hi.trans n.lt_succ_self, fitsI, Nat.forall_lt_succ_right.mpr ⟨longest, fun fitsN => absurd fitsN fits⟩⟩

end longest

/-! ### The statement -/

/-- Settles O15, form by form; the longest match by induction on the entries the search has met. -/
theorem lookupFindsTheEntryOfItsForm : Obligations.LookupFindsTheEntryOfItsForm := by
  unfold Obligations.LookupFindsTheEntryOfItsForm
  intro s d a b
  refine ⟨s.lookup_index_eq_some_iff a b, fun type i found => ?_, fun type missed i place valid => ?_, fun type fits hfits => ?_,
    fun form other => s.lookup_other a b other⟩
  · rw [s.lookup_exact a b type] at found
    exact State.emFind_some found
  · rw [s.lookup_exact a b type] at missed
    exact State.emFind_none missed place valid
  · rw [s.lookup_longest a b type]
    obtain ⟨misses, finds⟩ := s.lpmFind_spec d (topBits a d.width) d.size
    refine ⟨fun i found => ?_, fun missed j hj => ?_⟩
    · obtain ⟨hi, fitsI, longest⟩ := finds i found
      refine ⟨(hfits i).mpr ⟨hi, fitsI⟩, fun j fitsJ => ?_⟩
      obtain ⟨hj, fitting⟩ := (hfits j).mp fitsJ
      exact longest j hj fitting
    · obtain ⟨inside, fitting⟩ := (hfits j).mp hj
      exact misses missed j inside fitting

end Sys2Proof.Machine
end

section
/-!
PROOFS. Sampled retirements (R383, R385) against `Completes` and `Accesses`, for the instructions of a core. Each instruction does what its
rule says; both terms leave the record count of the beat out of what counting may change, so a retirement that is sampled contradicts them.
-/
namespace Sys2Proof.Machine

/-! ### A retirement that is sampled -/

theorem Completes.accesses {s u : State} {i : Instr} (h : Completes s i u) : Accesses s i u := by
  obtain ⟨t, run, counts⟩ := h
  have same : t.gst = u.gst := (congrArg State.gst counts.1 :)
  refine ⟨t, run, fun b hb => same ▸ hb, ?_⟩
  rw [same]
  exact counts

/-- The instruction completes in `samplingRetires` but for cores and lanes, and its retirement is an event for counter 0. -/
def IRes.sampled (r : IRes) : Bool :=
  r.retiring.any fun v => v == samplingWith v.gaf && v.tallyPasses 0 (ev 0x01 1 (some (v.agentOrigin (.core 0))) none 0)

section sampled
variable {s : State} {insn : Nat} {f : State → IRes}

/-- A sampled instruction of core 0 leaves the first record of its beat. -/
theorem State.issue_sampled (ready : s.ready (.core 0)) (sampled : (f (s.begun (.core 0))).sampled = true) :
    (s.issue (.core 0) insn f).smpBeat.2 = 1 := by
  obtain ⟨v, completed, counted⟩ := (Option.any_eq_true _ _).mp sampled
  rw [Bool.and_eq_true, beq_iff_eq] at counted
  obtain ⟨coresOnly, passes⟩ := counted
  rw [State.issue_smpBeat ready completed]
  rw [coresOnly] at passes ⊢
  exact samplingWith_tally_smpBeat _ _ rfl rfl passes

/-- A sampled instruction does not end in a state in which no record of the beat is counted. -/
theorem not_accesses_of_sampled {i : Instr} {u : State} (ready : s.ready (.core 0))
    (run : exec i s = .next (s.ifDecodes (.core 0) 0 (s.issue (.core 0) insn f))) (sampled : (f (s.begun (.core 0))).sampled = true)
    (same : u.smpBeat = samplingRetires.smpBeat) : ¬ Accesses s i u := by
  rintro ⟨t, ends, served⟩
  obtain rfl := Host.Outcome.next.inj (run.symm.trans ends)
  have one := State.issue_sampled (insn := insn) ready sampled
  rw [State.ifDecodes, if_pos rfl] at served
  rw [served.smpBeat_eq, same] at one
  exact absurd one (by decide +kernel)

end sampled

/-- `samplingRetires` with 63 in register g1 of core 0, the number of no logical core. -/
def samplingBeyond : State := samplingRetires.setG (.core 0) 1 63

theorem samplingBeyond_ready : samplingBeyond.ready (.core 0) := by decide +kernel

/-! ### The statements -/

/-- Refutes O3: its clause for MOVI says that it writes its register and changes nothing else but what `CountsOnly` lets counting change; with
retired instructions sampled, a MOVI of core 0 also writes a sample record and so moves the record count of the beat. -/
theorem not_moviAndFieldInstructionsWriteTheirFields : ¬ Obligations.MoviAndFieldInstructionsWriteTheirFields := by
  unfold Obligations.MoviAndFieldInstructionsWriteTheirFields
  rintro ⟨movi, -⟩
  exact absurd (movi samplingRetires (.core 0) 0 0 false 0 samplingRetires_ready).accesses
    (not_accesses_of_sampled samplingRetires_ready rfl (by decide +kernel) (State.past_smpBeat _ _ _))

/-- Refutes O13: its clause for an atomic without result says that a core's enters the store buffer and changes nothing else but what
`CountsOnly` lets counting change; with retired instructions sampled, such a fetch-and-add of core 0 also writes a sample record. -/
theorem not_atomicsReplaceTheWordAndReturnItsOldValue : ¬ Obligations.AtomicsReplaceTheWordAndReturnItsOldValue := by
  unfold Obligations.AtomicsReplaceTheWordAndReturnItsOldValue
  rintro ⟨-, -, buffered, -⟩
  exact absurd (buffered (.atomFadd, .fadd, fun old b _ => old + b) (by simp [Claims.atomicOps]) samplingRetires 0 0 0 0 false false 0
      samplingRetires_ready (by decide) (by decide +kernel) (by decide) (by decide) nofun (by decide +kernel)).accesses
    (not_accesses_of_sampled samplingRetires_ready (congrArg Host.Outcome.next (by unfold atomic; rfl)) (by decide +kernel)
      (State.past_smpBeat _ _ _))

/-- Refutes O17: its clause for POP of an empty list says that it changes the registers of its agent and else nothing but what `Served` lets an
access change; with retired instructions sampled, core 0's POP of the list at address 0 also writes a sample record. -/
theorem not_listsPushAndPop : ¬ Obligations.ListsPushAndPop := by
  unfold Obligations.ListsPushAndPop
  intro lists
  have reached : samplingRetires.mayAccess (.core 0) 0 32 AK.atomic := ⟨by rfl, nofun⟩
  obtain ⟨-, empty, -⟩ := lists samplingRetires (.core 0) 0 0 0 0 0 0 0 0 _ _ samplingRetires_ready (by decide +kernel) (by decide +kernel)
    (by decide +kernel) (by decide +kernel) rfl (fun _ _ _ => rfl) (by decide +kernel) (by decide) nofun reached
  exact absurd (empty rfl) (not_accesses_of_sampled samplingRetires_ready rfl (by decide +kernel) (State.past_smpBeat _ _ _))

/-- Refutes O2: its clause for the register forms says that each writes gD and changes nothing else but what `CountsOnly` lets counting change;
with retired instructions sampled, an ADD of core 0 also writes a sample record and so moves the record count of the beat. -/
theorem not_aluInstructionsWriteTheirFunction : ¬ Obligations.AluInstructionsWriteTheirFunction := by
  unfold Obligations.AluInstructionsWriteTheirFunction
  rintro ⟨registers, -⟩
  exact absurd (registers (.iAdd, fun a b => a + b) (by simp [Claims.aluOps]) samplingRetires (.core 0) 0 0 0 samplingRetires_ready).accesses
    (not_accesses_of_sampled samplingRetires_ready rfl (by decide +kernel) (State.past_smpBeat _ _ _))

/-- Refutes O4: its clause for GMOV says that it writes gD and changes nothing else but what `CountsOnly` lets counting change; with retired
instructions sampled, a GMOV of core 0 also writes a sample record and so moves the record count of the beat. -/
theorem not_predicatesAndGobCountersAreWritten : ¬ Obligations.PredicatesAndGobCountersAreWritten := by
  unfold Obligations.PredicatesAndGobCountersAreWritten
  rintro ⟨-, -, gmov, -⟩
  exact absurd (gmov samplingRetires (.core 0) 0 0 samplingRetires_ready).accesses
    (not_accesses_of_sampled samplingRetires_ready rfl (by decide +kernel) (State.past_smpBeat _ _ _))

/-- Refutes O5: its clause for BR says that it links, goes to its target and changes nothing else but what `CountsOnly` lets counting change; with
retired instructions sampled, core 0's BR to itself also writes a sample record and so moves the record count of the beat. -/
theorem not_branchesAndSystemInstructionsOfACore : ¬ Obligations.BranchesAndSystemInstructionsOfACore := by
  unfold Obligations.BranchesAndSystemInstructionsOfACore
  rintro ⟨br, -⟩
  exact absurd (br samplingRetires 0 0 0 samplingRetires_ready (by decide +kernel)).accesses
    (not_accesses_of_sampled samplingRetires_ready rfl (by decide +kernel) (State.setCore_smpBeat _ _ _))

/-- Refutes O8: its clause for CRR says that it writes gD and changes nothing else but what `CountsOnly` lets counting change; with retired
instructions sampled, core 0's CRR of STATUS also writes a sample record and so moves the record count of the beat. -/
theorem not_controlRegistersAreReadAndWritten : ¬ Obligations.ControlRegistersAreReadAndWritten := by
  unfold Obligations.ControlRegistersAreReadAndWritten
  rintro ⟨crr, -⟩
  exact absurd (crr (0, 1) (by simp [Claims.csrReaders]) samplingRetires 0 0 samplingRetires_ready (by decide +kernel)).accesses
    (not_accesses_of_sampled samplingRetires_ready rfl (by decide +kernel) (State.past_smpBeat _ _ _))

/-- Refutes O9: its clause for SIGNAL to a number of no core says that it changes nothing but the agent's step and what `CountsOnly` lets counting
change; with retired instructions sampled, core 0's SIGNAL to number 63 also writes a sample record. -/
theorem not_eventsSignalWaitAndWake : ¬ Obligations.EventsSignalWaitAndWake := by
  unfold Obligations.EventsSignalWaitAndWake
  rintro ⟨signal, -⟩
  obtain ⟨-, beyond⟩ := signal samplingBeyond (.core 0) 1 1 samplingBeyond_ready (by decide +kernel)
  exact absurd (beyond (.inl (by decide +kernel))).accesses
    (not_accesses_of_sampled samplingBeyond_ready rfl (by decide +kernel) (State.past_smpBeat _ _ _))

/-- Refutes O14: its clause for a lookup by index says that it changes gD and pD and else nothing but what `Served` lets an access change; with
retired instructions sampled, core 0's lookup in table 0, which misses, also writes a sample record. -/
theorem not_lookupsReturnTheEntryOrTheDefault : ¬ Obligations.LookupsReturnTheEntryOrTheDefault := by
  unfold Obligations.LookupsReturnTheEntryOrTheDefault
  intro lookups
  obtain ⟨index, -⟩ := lookups samplingRetires (.core 0) 0 0 0 0 0 _ samplingRetires_ready rfl (.inl (by decide +kernel))
  exact absurd index (not_accesses_of_sampled samplingRetires_ready rfl (by decide +kernel) (State.past_smpBeat _ _ _))

/-- Refutes O19: its clause for DEQ of an empty queue says that it writes 0 to gD and changes nothing else but what `CountsOnly` lets counting
change; with retired instructions sampled, core 0's DEQ of queue 0 also writes a sample record. -/
theorem not_firmwareActsOnHeldPackets : ¬ Obligations.FirmwareActsOnHeldPackets := by
  unfold Obligations.FirmwareActsOnHeldPackets
  rintro ⟨deq, -⟩
  obtain ⟨empty, -⟩ := deq samplingRetires 0 0 0 0 0 samplingRetires_ready (by decide +kernel) (by decide +kernel)
  exact absurd (empty (.inr (by decide +kernel))).accesses
    (not_accesses_of_sampled samplingRetires_ready rfl (by decide +kernel) (State.past_smpBeat _ _ _))

end Sys2Proof.Machine
end

section
/-!
PROOFS. Partitions (R223, R233 to R237): what a reset of a partition at rest leaves, and its release; the hold of a port by DPC; the fields
that a host writes in its bridges, and the completions of such writes.
-/
namespace Sys2Proof.Machine

/-! ### Sources of Partition reach (R399, R401) -/

theorem State.widened_cause (s : State) (b : Nat) : (s.cause b).widened = s.widened := by
  have rd (r : RegRef) (h : r.addr ≠ R.RST_CAUSE.addr) : (s.cause b).rd r = s.rd r := State.rd_wr_other _ _ _ _ h
  simp only [State.widened, State.bit, State.get, rd R.RST_CTL (by decide), rd R.RST_STATUS (by decide)]

section source
variable {s : State} (b r : Nat) (k : State → State)

theorem State.narrowSource_quench (h : s.rst.quench ≠ 0) : s.narrowSource b r k = s.cause b := if_pos h

theorem State.narrowSource_widened (calm : s.rst.quench = 0) (wide : s.widened = true) :
    s.narrowSource b r k = ((s.cause b).cause RC.AS_COLD).coldAssert :=
  (if_neg (not_not_intro calm)).trans (if_pos ((s.widened_cause b).trans wide))

theorem State.narrowSource_narrow (calm : s.rst.quench = 0) (narrow : s.widened = false) :
    s.narrowSource b r k = k ((s.cause b).reached r) :=
  (if_neg (not_not_intro calm)).trans (if_neg (by rw [s.widened_cause b, narrow]; exact Bool.false_ne_true))

end source

theorem State.cause_reached_only (s : State) (b r : Nat) : Only [R.RST_CAUSE] s ((s.cause b).reached r) :=
  (Only.wr _ _ _ _ List.mem_cons_self).trans (Only.put _ _ _ _ _ List.mem_cons_self)

/-- The cause bits lie below LAST_REACH. -/
theorem State.bitOf_cause_reached (s : State) {b : Nat} (r : Nat) (hb : b < 11) :
    bitOf (((s.cause b).reached r).rd R.RST_CAUSE) b = true := by
  have below : ¬ (F.RST_CAUSE_LAST_REACH.lo ≤ b ∧ b < F.RST_CAUSE_LAST_REACH.lo + F.RST_CAUSE_LAST_REACH.w) :=
    fun inside => absurd (show 11 ≤ b from inside.1) (by omega)
  rw [bitOf_eq_testBit, State.reached, State.put, State.rd_wr, Nat.testBit_mod_two_pow, testBit_putField, if_neg below, State.cause,
    State.rd_wr, Nat.testBit_mod_two_pow, testBit_putField, if_pos ⟨Nat.le_refl b, Nat.lt_succ_self b⟩, Nat.sub_self]
  simp [show b < 64 by omega]

/-! ### A partition at rest -/

/-- Registers in which a partition reset and its source show: RST_CAUSE and PTN_STATE. -/
def RegRef.showsReset (r : RegRef) : Prop := r.addr = 0x101010 ∨ (0xC01400 ≤ r.addr ∧ r.addr < 0xC01600)

theorem rstCause_showsReset : R.RST_CAUSE.showsReset := .inl rfl

theorem rstCause_ne_ptnState (pt : Nat) : R.RST_CAUSE.addr ≠ (R.PTN_STATE pt).addr := by
  simp only [R.RST_CAUSE, R.PTN_STATE]
  omega

theorem ptnState_showsReset {pt : Nat} (h : pt < 64) : (R.PTN_STATE pt).showsReset := by
  simp only [RegRef.showsReset, R.PTN_STATE]
  omega

theorem shows_ptnState {pt : Nat} (h : pt < 64) : ∀ r ∈ [R.PTN_STATE pt], r.showsReset := by
  simpa using ptnState_showsReset h

/-- No reset of a function runs. -/
def State.noFlr (s : State) : Prop := ∀ f, f < 4097 → s.flrActive f = false

/-- The partition has no ports and no functions; no traffic, no lease and no function reset is under way. -/
structure State.PtnAtRest (s : State) (pt : Nat) : Prop where
  traffic : s.noTraffic
  leases : s.noLeases
  up : s.upPort pt = none
  down : s.downPorts pt = []
  fns : s.fnsOf pt = []
  flr : s.noFlr

theorem State.noFlr.only {s t : State} {rs : List RegRef} (h : s.noFlr) (only : Only rs s t) (shows : ∀ r ∈ rs, r.showsReset) : t.noFlr := by
  intro f hf
  rw [← h f hf, State.flrActive, State.bit, State.get, only.2 _ fun r hr => ?_, State.flrActive, State.bit, State.get]
  have place := shows r hr
  simp only [RegRef.showsReset, R.QEP_FNSTAT] at *
  omega

section shows
variable {s : State} {r : RegRef} (v : Nat) (hr : r.showsReset)
include hr

theorem State.locksHeld_wr_showsReset : (s.wr r v).locksHeld = s.locksHeld := by
  refine SMap.filterMap_set _ _ _ _ _ fun w => if_neg ?_
  simp only [RegRef.showsReset] at hr
  omega

theorem State.fnsOf_wr_showsReset (pt : Nat) : (s.wr r v).fnsOf pt = s.fnsOf pt := by
  have mgmt : (s.wr r v).rd R.PTN_MGMT = s.rd R.PTN_MGMT := State.rd_wr_other _ _ _ _ (by
    simp only [RegRef.showsReset, R.PTN_MGMT] at *
    omega)
  have map (f : Nat) : (s.wr r v).rd (R.QEP_VFMAP f) = s.rd (R.QEP_VFMAP f) := State.rd_wr_other _ _ _ _ (by
    simp only [RegRef.showsReset, R.QEP_VFMAP] at *
    omega)
  have home (f : Nat) : (s.wr r v).fnPt f = s.fnPt f := by
    simp only [State.fnPt, State.mgmtPt, State.bit, State.get, mgmt, map]
    rfl
  simp only [State.fnsOf, home]

theorem State.PtnAtRest.wr {pt : Nat} (h : s.PtnAtRest pt) : (s.wr r v).PtnAtRest pt where
  traffic := h.traffic
  leases := ⟨(State.locksHeld_wr_showsReset v hr).trans h.leases.1, h.leases.2⟩
  up := h.up
  down := h.down
  fns := (State.fnsOf_wr_showsReset v hr pt).trans h.fns
  flr := h.flr.only (Only.wr s [r] r v List.mem_cons_self) (by simpa using hr)

end shows

/-- The FUND_ASSERTs outstanding and the PERST_N pins that are low. -/
def State.setPins (s : State) (cmd perst : SMap Nat) : State := { s with prt := { s.prt with fundCmd := cmd, perst := perst } }

section atRest
variable {s : State} {pt : Nat} (h : s.PtnAtRest pt)
include h

theorem State.PtnAtRest.setPins (cmd perst : SMap Nat) : (s.setPins cmd perst).PtnAtRest pt where
  traffic := h.traffic
  leases := h.leases
  up := h.up
  down := h.down
  fns := h.fns
  flr := h.flr

theorem State.PtnAtRest.cause_reached (b r : Nat) : ((s.cause b).reached r).PtnAtRest pt :=
  (h.wr _ rstCause_showsReset).wr _ rstCause_showsReset

end atRest

/-! ### What a reset leaves of a partition at rest (R233 to R235) -/

section quiet
variable {s : State} (quiet : s.noTraffic)
include quiet

/-- Out of an empty COQ nothing is taken, whatever is asked for. -/
theorem State.takeCoq_quiet (q p : Nat) (f : Pkt → Bool) : s.takeCoq q p f = (s, []) := by
  rw [← State.flushCoq_quiet quiet q p]
  obtain ⟨coqs, staged, -⟩ := quiet
  have hcoq : s.coq q = [] := by rw [State.coq, coqs, SMap.get]
  have hstaged : s.staged (q / 8) (q % 8) = [] := by rw [State.staged, staged, SMap.get]
  rw [State.flushCoq, State.takeCoq, State.takeCoq, hcoq, hstaged]
  rfl

theorem State.abortLinked_quiet (pt : Nat) : s.abortLinked pt = s := by
  rw [State.abortLinked]
  exact List.foldl_fixed' (fun p => List.foldl_fixed' (fun c => congrArg Prod.fst (State.takeCoq_quiet quiet (coqOfPort p c) p _)) _) _

theorem State.shutPartition_quiet (pt : Nat) (all : Bool) : s.shutPartition pt all = s := by
  rw [State.shutPartition, State.resolveHolds_quiet quiet, State.abortLinked_quiet quiet, State.answerPend_quiet quiet,
    State.nullifyCutting_quiet quiet]

end quiet

section leases
variable {s : State} (free : s.noLeases) (tag mask : Nat)
include free

theorem State.forceGst_noLeases : s.forceGst tag mask = s := by
  obtain ⟨locks, seqs, -⟩ := free
  rw [State.forceGst, locks, List.foldl_nil, seqs, List.filter_nil, ← seqs]

theorem State.forceCmd_noLeases : s.forceCmd tag mask = s := by
  obtain ⟨-, -, -, leases, -⟩ := free
  rw [State.forceCmd, leases, List.filterMap_nil, List.foldl_nil]

theorem State.forceQueueLocks_noLeases : s.forceQueueLocks tag mask = s := by
  obtain ⟨-, -, locks, -⟩ := free
  rw [State.forceQueueLocks, locks, List.filter_nil, ← locks]

end leases

/-- The bridges of a partition take their reset values. -/
def State.dropBridges (s : State) (pt : Nat) : State :=
  { s with prt := { s.prt with bridges := SMap.keep s.prt.bridges (fun k => k / 1024 != pt) } }

theorem State.bridge_dropBridges (s : State) (pt k : Nat) : (s.dropBridges pt).bridge k = if k / 1024 = pt then {} else s.bridge k := by
  rw [State.bridge, State.dropBridges, SMap.get_keep, State.bridge]
  by_cases own : k / 1024 = pt <;> simp [own]

theorem State.ptnResetEffects_atRest {s : State} {pt : Nat} (h : s.PtnAtRest pt) (up : Bool) : s.ptnResetEffects pt up = s.dropBridges pt := by
  have noUp : (s.dropBridges pt).upPort pt = none := h.up
  have noDown : (s.dropBridges pt).downPorts pt = [] := h.down
  have noFns : (s.dropBridges pt).fnsOf pt = [] := h.fns
  rw [State.ptnResetEffects]
  dsimp only
  rw [State.shutPartition_quiet h.traffic, State.forceGst_noLeases h.leases, State.forceCmd_noLeases h.leases,
    State.forceQueueLocks_noLeases h.leases, ← State.dropBridges, noUp]
  dsimp only
  rw [noDown, List.foldl_nil, noFns, List.foldl_nil]

/-- PTN_STATE shows the sources `n`, and whether there is one. -/
def State.markReset (s : State) (pt n : Nat) : State :=
  (s.put (R.PTN_STATE pt) F.PTN_STATE_RST_SRC n).put (R.PTN_STATE pt) F.PTN_STATE_IN_RESET (bit01 (n != 0))

theorem State.markReset_only (s : State) (pt n : Nat) : Only [R.PTN_STATE pt] s (s.markReset pt n) :=
  (Only.put _ _ _ _ _ List.mem_cons_self).trans (Only.put _ _ _ _ _ List.mem_cons_self)

theorem State.markReset_src (s : State) (pt n : Nat) : (s.markReset pt n).get (R.PTN_STATE pt) F.PTN_STATE_RST_SRC = n % 8 := by
  rw [State.markReset, State.get_put_field _ _ _ _ _ (by decide) (by decide), State.get_put_same _ _ _ _ (by decide)]
  rfl

theorem State.markReset_inReset (s : State) (pt n : Nat) : (s.markReset pt n).ptInReset pt = (n != 0) := by
  rw [State.ptInReset, State.markReset, State.bit_put_same _ _ _ _ (by decide)]
  cases n != 0 <;> rfl

/-- With no function in its reset, a partition stays in reset for PERST_N and FUND_ASSERT alone. -/
theorem State.ptnSettle_noFlr {s : State} (h : s.noFlr) (pt : Nat) :
    s.ptnSettle pt = s.markReset pt (s.get (R.PTN_STATE pt) F.PTN_STATE_RST_SRC % 4) := by
  have idle : (List.range 4097).any (fun f => s.flrActive f && s.fnHome f == pt) = false := by
    refine List.any_eq_false.mpr fun f hf => ?_
    rw [h f (List.mem_range.mp hf), Bool.false_and]
    exact Bool.false_ne_true
  rw [State.ptnSettle, idle, if_neg Bool.false_ne_true, ← State.markReset]

/-- `t` is `s` after a reset of partition `pt` that leaves the sources `n` asserted. -/
structure WasReset (pt n : Nat) (s t : State) : Prop where
  src : t.get (R.PTN_STATE pt) F.PTN_STATE_RST_SRC = n
  inReset : t.ptInReset pt = (n != 0)
  prt : t.prt = (s.dropBridges pt).prt
  only : Only [R.PTN_STATE pt] { s with prt := t.prt } t

theorem Only.withPrt {rs : List RegRef} {s t : State} (h : Only rs s t) (p : Prt) : Only rs { s with prt := p } { t with prt := p } :=
  ⟨(congrArg (fun x : State => { x with prt := p }) h.1 :), h.2⟩

section reset
variable {s : State} {pt now : Nat} (h : s.PtnAtRest pt) (hpt : pt < 64) (hnow : now = s.get (R.PTN_STATE pt) F.PTN_STATE_RST_SRC)
include h hpt hnow

/-- A source that is not asserted yet, and a hot reset only out of reset, resets the partition. -/
theorem State.ptnReset_atRest {src : Nat} (up : Bool) (new : bitOf now src = false) (hot : src = RS.HOT → now = 0) :
    WasReset pt ((now + 2 ^ src) % 4) s (s.ptnReset pt src up) := by
  have counts : ¬ ((bitOf now src || (src == RS.HOT && now != 0)) = true) := by
    rw [new, Bool.false_or, Bool.and_eq_true, beq_iff_eq, bne_iff_ne]
    exact fun ⟨isHot, running⟩ => running (hot isHot)
  have acts : now = 0 ∨ src ≠ RS.HOT := by
    by_cases isHot : src = RS.HOT
    · exact .inl (hot isHot)
    · exact .inr isHot
  have some_src : (now + 2 ^ src != 0) = true := bne_iff_ne.mpr (by have := Nat.two_pow_pos src; omega)
  have marked : (s.markReset pt (now + 2 ^ src)).PtnAtRest pt := (h.wr _ (ptnState_showsReset hpt)).wr _ (ptnState_showsReset hpt)
  have sources : ((s.markReset pt (now + 2 ^ src)).dropBridges pt).get (R.PTN_STATE pt) F.PTN_STATE_RST_SRC % 4 = (now + 2 ^ src) % 4 := by
    change (s.markReset pt (now + 2 ^ src)).get _ _ % 4 = _
    rw [State.markReset_src, Nat.mod_mod_of_dvd _ (by decide : 4 ∣ 8)]
  have done : s.ptnReset pt src up = ((s.markReset pt (now + 2 ^ src)).dropBridges pt).markReset pt ((now + 2 ^ src) % 4) := by
    have first : (s.put (R.PTN_STATE pt) F.PTN_STATE_RST_SRC (now + 2 ^ src)).put (R.PTN_STATE pt) F.PTN_STATE_IN_RESET 1 =
        s.markReset pt (now + 2 ^ src) := by
      rw [State.markReset, some_src]
      rfl
    have settled : ((s.markReset pt (now + 2 ^ src)).dropBridges pt).noFlr := marked.flr
    rw [State.ptnReset]
    dsimp only
    rw [← hnow, if_neg counts, if_pos acts, first, State.ptnResetEffects_atRest marked, State.ptnSettle_noFlr settled, sources]
  rw [done]
  refine ⟨?_, State.markReset_inReset _ _ _, rfl, ?_⟩
  · rw [State.markReset_src]
    exact Nat.mod_eq_of_lt ((Nat.mod_lt _ (by decide)).trans (by decide))
  · exact ((s.markReset_only pt _).withPrt _).trans (State.markReset_only _ _ _)

end reset

/-! ### A source is released (R233) -/

theorem State.ptnSettle_only (s : State) (pt : Nat) : Only [R.PTN_STATE pt] s (s.ptnSettle pt) :=
  (Only.put _ _ _ _ _ List.mem_cons_self).trans (Only.put _ _ _ _ _ List.mem_cons_self)

theorem State.ptnRelease_only (s : State) (pt src : Nat) : Only [R.PTN_STATE pt] s (s.ptnRelease pt src) := by
  rw [State.ptnRelease]
  split
  · exact (Only.put _ _ _ _ _ List.mem_cons_self).trans (State.ptnSettle_only _ _)
  · exact ⟨rfl, fun _ _ => rfl⟩

/-- The only source is released. -/
theorem State.ptnRelease_last {s : State} {pt src : Nat} (flr : s.noFlr) (hpt : pt < 64) (asserted : bitOf (2 ^ src) src = true)
    (only : s.get (R.PTN_STATE pt) F.PTN_STATE_RST_SRC = 2 ^ src) :
    (s.ptnRelease pt src).get (R.PTN_STATE pt) F.PTN_STATE_RST_SRC = 0 ∧ (s.ptnRelease pt src).ptInReset pt = false := by
  have released : s.ptnRelease pt src = (s.put (R.PTN_STATE pt) F.PTN_STATE_RST_SRC 0).markReset pt 0 := by
    have idle := flr.only (Only.put s _ (R.PTN_STATE pt) F.PTN_STATE_RST_SRC 0 List.mem_cons_self) (shows_ptnState hpt)
    rw [State.ptnRelease, only, if_pos asserted, Nat.sub_self, State.ptnSettle_noFlr idle, State.get_put_same _ _ _ _ (by decide),
      Nat.zero_mod, Nat.zero_mod]
  rw [released]
  exact ⟨State.markReset_src _ _ _, State.markReset_inReset _ _ _⟩

theorem ptnState_addr_ne {pt q : Nat} (h : pt ≠ q) : (R.PTN_STATE pt).addr ≠ (R.PTN_STATE q).addr := by
  simp only [R.PTN_STATE]
  omega

/-- What a pin that is high does to a partition: released if its PERST_SEL names the pin. -/
def State.perstOut (i : Nat) (s : State) (pt : Nat) : State :=
  if s.get (R.PTN_CFG pt) F.PTN_CFG_PERST_SEL = i then s.ptnRelease pt RS.PERST else s

section perst
variable {i pt : Nat} (l : List Nat) (s : State)

theorem State.perstOut_only (pt : Nat) : Only [R.PTN_STATE pt] s (s.perstOut i pt) := by
  unfold State.perstOut
  split
  · exact s.ptnRelease_only pt _
  · exact ⟨rfl, fun _ _ => rfl⟩

theorem State.foldl_perstOut_only : Only (l.map R.PTN_STATE) s (l.foldl (State.perstOut i) s) := by
  induction l generalizing s with
  | nil => exact ⟨rfl, fun _ _ => rfl⟩
  | cons q l ih =>
    refine ((s.perstOut_only q).mono ?_).trans ((ih _).mono fun r hr => List.mem_cons_of_mem _ hr)
    simp

/-- The others of a list leave PTN_STATE of a partition alone. -/
theorem State.foldl_perstOut_other (h : pt ∉ l) : (l.foldl (State.perstOut i) s).rd (R.PTN_STATE pt) = s.rd (R.PTN_STATE pt) := by
  refine (s.foldl_perstOut_only l).2 _ fun r hr => ?_
  obtain ⟨q, hq, rfl⟩ := List.mem_map.mp hr
  exact ptnState_addr_ne fun same => h (same ▸ hq)

/-- Over all partitions, each meets its own step, in a state that reads its two registers as before. -/
theorem State.foldl_perstOut_at (hpt : pt < 64) (flr : s.noFlr) : ∃ u : State, u.noFlr ∧ u.rd (R.PTN_STATE pt) = s.rd (R.PTN_STATE pt) ∧
    u.rd (R.PTN_CFG pt) = s.rd (R.PTN_CFG pt) ∧
    ((List.range 64).foldl (State.perstOut i) s).rd (R.PTN_STATE pt) = (u.perstOut i pt).rd (R.PTN_STATE pt) := by
  obtain ⟨a, b, whole⟩ := List.append_of_mem (List.mem_range.mpr hpt)
  have distinct : (a ++ pt :: b).Nodup := whole ▸ List.nodup_range
  have before : pt ∉ a := fun mem => (List.nodup_append.mp distinct).2.2 pt mem pt List.mem_cons_self rfl
  have behind : pt ∉ b := (List.nodup_cons.mp (List.nodup_append.mp distinct).2.1).1
  have shows : ∀ r ∈ a.map R.PTN_STATE, r.showsReset := by
    intro r hr
    obtain ⟨q, hq, rfl⟩ := List.mem_map.mp hr
    exact ptnState_showsReset (List.mem_range.mp (whole ▸ List.mem_append_left _ hq))
  have only := s.foldl_perstOut_only (i := i) a
  refine ⟨a.foldl (State.perstOut i) s, flr.only only shows, State.foldl_perstOut_other _ _ before, only.2 _ fun r hr => ?_, ?_⟩
  · have place := shows r hr
    simp only [RegRef.showsReset, R.PTN_CFG] at *
    omega
  · rw [whole, List.foldl_append, List.foldl_cons, State.foldl_perstOut_other _ _ behind]

theorem State.foldl_perstOut_released (hpt : pt < 64) (flr : s.noFlr) (sel : s.get (R.PTN_CFG pt) F.PTN_CFG_PERST_SEL = i)
    (src : s.get (R.PTN_STATE pt) F.PTN_STATE_RST_SRC = 1) :
    ((List.range 64).foldl (State.perstOut i) s).get (R.PTN_STATE pt) F.PTN_STATE_RST_SRC = 0 ∧
      ((List.range 64).foldl (State.perstOut i) s).ptInReset pt = false := by
  obtain ⟨u, idle, state, cfg, final⟩ := s.foldl_perstOut_at (i := i) hpt flr
  have released : u.perstOut i pt = u.ptnRelease pt RS.PERST := if_pos (by rw [State.get, cfg]; exact sel)
  have last := State.ptnRelease_last (src := RS.PERST) idle hpt (by decide) (by rw [State.get, state]; exact src)
  rw [State.ptInReset, State.bit, State.get, State.get, final, released]
  exact last

theorem State.foldl_perstOut_kept (hpt : pt < 64) (flr : s.noFlr) (sel : s.get (R.PTN_CFG pt) F.PTN_CFG_PERST_SEL ≠ i) :
    ((List.range 64).foldl (State.perstOut i) s).rd (R.PTN_STATE pt) = s.rd (R.PTN_STATE pt) := by
  obtain ⟨u, -, state, cfg, final⟩ := s.foldl_perstOut_at (i := i) hpt flr
  rw [final, State.perstOut, if_neg (by rw [State.get, cfg]; exact sel), state]

end perst

/-! ### Resets and releases as commands (R233, R234) -/

theorem exec_ptnFundAssert (s : State) (pt : Fin 64) : exec (.ptnFundAssert pt) s = .next (s.narrowSource RC.PTN_FUND 2 fun s =>
    (s.setPins (SMap.set s.prt.fundCmd 0 pt.val 1) s.prt.perst).ptnReset pt.val RS.FUND true) := rfl

theorem exec_ptnHot (s : State) (pt : Fin 64) :
    exec (.ptnHot pt) s = .next (s.narrowSource RC.PTN_HOT 2 (·.ptnReset pt.val RS.HOT false)) := rfl

theorem exec_ptnFundRelease (s : State) (pt : Fin 64) : exec (.ptnFundRelease pt) s =
    if SMap.get s.prt.fundCmd 0 pt.val = 0 then .next (s.setBit R.PTN_STATUS F.PTN_STATUS_BADCMD)
    else .next ((s.setPins (SMap.set s.prt.fundCmd 0 pt.val 0) s.prt.perst).ptnRelease pt.val RS.FUND) := rfl

theorem exec_perstAssert_low {s : State} {i : Fin 16} (high : SMap.get s.prt.perst 0 i.val ≠ 1) : exec (.perstAssert i) s =
    .next ((s.setPins s.prt.fundCmd (SMap.set s.prt.perst 0 i.val 1)).perstReset i.val (s.perstParts i.val)) := if_neg high

theorem exec_perstRelease_high {s : State} {i : Fin 16} (low : SMap.get s.prt.perst 0 i.val ≠ 0) : exec (.perstRelease i) s =
    .next ((List.range 64).foldl (State.perstOut i.val)
      ((s.setPins s.prt.fundCmd (SMap.set s.prt.perst 0 i.val 0)).freeSource (16 + i.val))) := if_neg low

section perstReset
variable {s : State} (i : Nat) {pts : List Nat} (named : pts ≠ []) (calm : s.rst.quench = 0)
include named calm

theorem State.perstReset_narrow (narrow : s.widened = false) :
    s.perstReset i pts = pts.foldl (fun t pt => t.ptnReset pt RS.PERST true) ((s.cause RC.PERST).reached 2) := by
  rw [State.perstReset, if_neg (by simpa using named)]
  dsimp only
  rw [narrow, if_neg Bool.false_ne_true, State.narrowSource_narrow _ _ _ calm narrow]

theorem State.perstReset_widened (wide : s.widened = true) :
    s.perstReset i pts = (((s.cause RC.PERST).cause RC.AS_COLD).coldAssert).holdSource (16 + i) true := by
  rw [State.perstReset, if_neg (by simpa using named)]
  dsimp only
  rw [wide, if_pos rfl, State.narrowSource_widened _ _ _ calm wide]

end perstReset

/-! ### The hold of a port by DPC (R236) -/

theorem State.dpcTrigger_noInt (s : State) (p reason : Nat) (int : bitOf (SMap.get (s.bridge (s.portBridge p)).raw 0 0x154) 19 = false) :
    s.dpcTrigger p reason = s.setBridge (s.portBridge p) { s.bridge (s.portBridge p) with dpcTrig := true, dpcReason := reason } := by
  rw [State.dpcTrigger]
  dsimp only
  rw [int, if_neg Bool.false_ne_true, if_neg Bool.false_ne_true]

theorem exec_portDpc_idle {s : State} {p : Fin 256} {r : Fin 3} (h : s.role p.val ≠ ROLE.DOWNSTREAM) :
    exec (.portDpc p r) s = .next s := if_pos (.inl h)

section dpc
variable {s : State} {p : Fin 256} (r : Fin 3) (down : s.role p.val = ROLE.DOWNSTREAM) (enabled : (s.bridge (s.portBridge p.val)).dpcEn = true)
include down enabled

theorem exec_portDpc : exec (.portDpc p r) s = .next ((s.holdPort p.val 1 r.val).report FC.PORT_DPC UK.port p.val 0 0 0) := by
  refine if_neg ?_
  rintro (other | off)
  · exact other down
  · rw [enabled] at off
    cases off

/-- At rest the trigger only marks the port and its bridge, directs the link and reports. -/
theorem exec_portDpc_quiet (lifted : s.portHeld p.val = false) (pcie : s.caneMode p.val = false) (quiet : s.noTraffic)
    (int : bitOf (SMap.get (s.bridge (s.portBridge p.val)).raw 0 0x154) 19 = false) :
    exec (.portDpc p r) s = .next ((((s.markHeld p.val 1).emit (.link p.val LK.DISABLED)).setBridge (s.portBridge p.val)
      { s.bridge (s.portBridge p.val) with dpcTrig := true, dpcReason := r.val }).report FC.PORT_DPC UK.port p.val 0 0 0) := by
  have role : ((s.markHeld p.val 1).emit (.link p.val LK.DISABLED)).role p.val = ROLE.DOWNSTREAM := down
  rw [exec_portDpc r down enabled, State.holdPort_quiet _ _ p.isLt lifted pcie quiet]
  dsimp only
  rw [if_pos role, State.dpcTrigger_noInt ((s.markHeld p.val 1).emit (.link p.val LK.DISABLED)) _ _ int]
  rfl

end dpc

/-! ### Completions leave the bridges (R22, R42, R45) -/

theorem Counted.prt_eq {s t : State} (h : Counted s t) : t.prt = s.prt := (congrArg State.prt h.1 :)

theorem State.setOcc_prt (s : State) (q n : Nat) : (s.setOcc q n).prt = s.prt := by
  unfold State.setOcc
  dsimp only
  split
  · rw [State.put_prt]
  · rfl

theorem State.charge_prt (s : State) (q n origin : Nat) : (s.charge q n origin).prt = s.prt := by
  rw [State.charge, (State.tally_counted _ _).prt_eq, State.takeRecord]
  exact s.setOcc_prt q _

theorem State.placeGob_prt {s t : State} {b : Nat} {prev : Option Nat} {c quad b' : Nat}
    (h : s.placeGob b prev = some (c, quad, b', t)) : t.prt = s.prt := by
  unfold State.placeGob State.free at h
  split at h
  · cases h
  · dsimp only at h
    split at h
    · cases h
    · obtain ⟨-, -, -, rfl⟩ := h
      rfl

theorem State.placeGobs_prt (n : Nat) (s : State) (b : Nat) (prev : Option Nat) (data : List Byte) :
    (s.placeGobs b prev data n).2.prt = s.prt := by
  induction n generalizing s b prev data with
  | zero => rfl
  | succ n ih =>
    rw [State.placeGobs_succ]
    split
    · rfl
    · rename_i c quad b' t one
      exact (ih _ _ _ _).trans ((State.store_prt _ _ _).trans (State.placeGob_prt one))

theorem State.admitPkt_prt {s t : State} {p : Pkt} {q : Nat} (h : s.admitPkt p q = some t) : t.prt = s.prt := by
  unfold State.admitPkt at h
  split at h
  · obtain rfl := Option.some.inj h
    exact (State.placeGobs_prt _ _ _ _ _).trans (s.charge_prt _ _ _)
  · cases h

theorem State.prt_ite_bump (c : Prop) [Decidable c] (s : State) (r : RegRef) (f : Fld) (n : Nat) :
    (if c then s else s.bump r f n).prt = s.prt := by
  split <;> rfl

theorem State.sendEndpoint_prt (s : State) (p : Pkt) (q : Nat) : (s.sendEndpoint p q).prt = s.prt := by
  have counted : (s.countRefusal p.origin).prt = s.prt := (s.tally_counted _).prt_eq
  unfold State.sendEndpoint
  extract_lets waits
  split
  · rename_i t sent
    split at sent
    · cases sent
    · exact State.admitPkt_prt sent
  · exact (State.prt_ite_bump _ _ _ _ _).trans counted

theorem State.peerRestore_bridges (s : State) (pt rid tag : Nat) (st : CplStatus) (n : Nat) :
    (s.peerRestore pt rid tag st n).2.2.2.prt.bridges = s.prt.bridges := by
  unfold State.peerRestore
  split <;> rfl

theorem State.answer_bridges (s : State) (pt rid tag : Nat) (cls : Fin 8) (st : CplStatus) (data : List Byte) (origin : Nat) (role : Role) :
    (s.answer pt rid tag cls st data origin role).prt.bridges = s.prt.bridges := by
  have restored := s.peerRestore_bridges pt rid tag st data.length
  unfold State.answer State.answerEp
  generalize s.peerRestore pt rid tag st data.length = back at restored ⊢
  obtain ⟨pt', rid', tag', u⟩ := back
  dsimp only at restored ⊢
  split
  · split
    · exact restored
    · exact (congrArg Prt.bridges (State.sendEndpoint_prt _ _ _)).trans restored
  · exact (congrArg Prt.bridges (State.sendEndpoint_prt _ _ _)).trans restored
  · exact restored

/-! ### Bridge fields that a host writes (R223, R235, R237) -/

/-- A link control directs the link and changes no bridge. -/
theorem State.bridgeEffect_linkCtl_prt (s : State) (pt : Nat) (b : BridgeRef) (v : BitVec 16) (before : Bridge) :
    (s.bridgeEffect pt b (.linkCtl v) before).prt = s.prt := by
  cases b with
  | up => rfl
  | ep => rfl
  | down p =>
    rw [State.bridgeEffect]
    split_ifs <;> rfl

/-- A field that directs no link, no slot and no secondary reset changes nothing beside itself. -/
theorem State.bridgeEffect_plain (s : State) (pt : Nat) (b : BridgeRef) (f : BridgeField) (before : Bridge) (sbr : f ≠ .sbr true)
    (power : ∀ o, f ≠ .power o) (link : ∀ v, f ≠ .linkCtl v) : s.bridgeEffect pt b f before = s := by
  unfold State.bridgeEffect
  split
  · exact absurd rfl sbr
  · exact absurd rfl sbr
  · exact absurd rfl (link _)
  · exact absurd rfl (power _)
  · rfl

theorem State.bridgeField_plain (s : State) (pt : Nat) (b : BridgeRef) {f : BridgeField} (sbr : f ≠ .sbr true) (power : ∀ o, f ≠ .power o)
    (link : ∀ v, f ≠ .linkCtl v) : s.bridgeField pt b f = s.setBridge (refKey pt b) ((s.bridge (refKey pt b)).write f) := by
  rw [State.bridgeField]
  exact State.bridgeEffect_plain _ _ _ _ _ sbr power link

section bridgeWrite
variable {s : State} {pt : Fin 64} {rid : BitVec 16} {tag : BitVec 10} {b : BridgeRef} {f : BridgeField}

theorem exec_bridgeConfigWrite_absent (absent : s.bridgeExists pt.val b = false) :
    exec (.bridgeConfigWrite pt rid tag b f) s = .next (s.cfgReply pt.val rid.toNat tag.toNat .ur []) :=
  if_pos (by rw [absent]; rfl)

variable (there : s.bridgeExists pt.val b = true)
include there

theorem exec_bridgeConfigWrite_retry (wait : s.cfgNotReady pt.val = true) :
    exec (.bridgeConfigWrite pt rid tag b f) s = .next (s.cfgReply pt.val rid.toNat tag.toNat .crs []) :=
  (if_neg (by rw [there]; decide)).trans (if_pos wait)

variable (ready : s.cfgNotReady pt.val = false)
include ready

theorem exec_bridgeConfigWrite : exec (.bridgeConfigWrite pt rid tag b f) s =
    .next ((s.bridgeField pt.val b f).bridgeDone pt.val rid.toNat tag.toNat (bridgeRoutes f)) :=
  (if_neg (by rw [there]; decide)).trans (if_neg (by rw [ready]; decide))

/-- A field that no route depends on is answered at once. -/
theorem exec_bridgeConfigWrite_local (stays : bridgeRoutes f = false) : exec (.bridgeConfigWrite pt rid tag b f) s =
    .next ((s.bridgeField pt.val b f).cfgReply pt.val rid.toNat tag.toNat .sc []) := by
  rw [exec_bridgeConfigWrite there ready, stays]
  rfl

end bridgeWrite

/-! ### Commands and pins on a partition at rest (R233, R234) -/

/-- The cause of a reset of Partition reach stands beside what the reset leaves. -/
theorem WasReset.with_cause {s t : State} {pt n b : Nat} {cmd perst : SMap Nat} (hb : b < 11)
    (h : WasReset pt n (((s.cause b).reached 2).setPins cmd perst) t) :
    bitOf (t.rd R.RST_CAUSE) b = true ∧ Only [R.RST_CAUSE, R.PTN_STATE pt] { s with prt := t.prt } t := by
  have kept : t.rd R.RST_CAUSE = ((s.cause b).reached 2).rd R.RST_CAUSE :=
    h.only.2 _ (List.forall_mem_singleton.mpr (rstCause_ne_ptnState pt))
  refine ⟨kept ▸ s.bitOf_cause_reached 2 hb, Only.trans (((s.cause_reached_only b 2).withPrt t.prt).mono ?_) (h.only.mono ?_)⟩
  · simp
  · simp

theorem WasReset.bridge {s t : State} {pt n : Nat} (h : WasReset pt n s t) (k : Nat) :
    t.bridge k = if k / 1024 = pt then {} else s.bridge k := by
  rw [← s.bridge_dropBridges pt k, State.bridge, h.prt, State.bridge]

section resets
variable {s : State} {pt : Fin 64} {now : Nat} (rest : s.PtnAtRest pt.val) (hnow : now = s.get (R.PTN_STATE pt.val) F.PTN_STATE_RST_SRC)
include rest hnow

/-- A source resets partition `pt` at rest, once its cause is set and the pins stand as in `cmd` and `perst`. -/
theorem State.ptnReset_source (b src : Nat) (up : Bool) (cmd perst : SMap Nat) (new : bitOf now src = false) (hot : src = RS.HOT → now = 0) :
    WasReset pt.val ((now + 2 ^ src) % 4) (((s.cause b).reached 2).setPins cmd perst)
      ((((s.cause b).reached 2).setPins cmd perst).ptnReset pt.val src up) := by
  refine State.ptnReset_atRest ((rest.cause_reached b 2).setPins cmd perst) pt.isLt (hnow.trans ?_) up new hot
  have kept := (s.cause_reached_only b 2).2 (R.PTN_STATE pt.val) (List.forall_mem_singleton.mpr (rstCause_ne_ptnState pt.val).symm)
  rw [State.get, ← kept]
  rfl

variable (calm : s.rst.quench = 0) (narrow : s.widened = false)
include calm narrow

theorem exec_ptnFundAssert_atRest (new : bitOf now RS.FUND = false) : ∃ t, exec (.ptnFundAssert pt) s = .next t ∧
    bitOf (t.get (R.PTN_STATE pt.val) F.PTN_STATE_RST_SRC) RS.FUND = true ∧ t.ptInReset pt.val = true ∧
    bitOf (t.rd R.RST_CAUSE) RC.PTN_FUND = true ∧ SMap.get t.prt.fundCmd 0 pt.val = 1 ∧ (∀ k, k / 1024 = pt.val → t.bridge k = {}) ∧
    Only [R.RST_CAUSE, R.PTN_STATE pt.val] { s with prt := t.prt } t := by
  have reset := State.ptnReset_source rest hnow RC.PTN_FUND RS.FUND true (SMap.set s.prt.fundCmd 0 pt.val 1) s.prt.perst new nofun
  obtain ⟨caused, only⟩ := reset.with_cause (by decide)
  have bit : (now + 2 ^ RS.FUND) % 4 / 2 % 2 = 1 := by
    simp only [bitOf, RS.FUND, beq_eq_false_iff_ne] at new ⊢
    omega
  refine ⟨_, (exec_ptnFundAssert s pt).trans (congrArg _ (State.narrowSource_narrow _ _ _ calm narrow)), ?_, ?_, caused, ?_, ?_, only⟩
  · exact beq_iff_eq.mpr ((congrArg (· / 2 % 2) reset.src).trans bit)
  · exact reset.inReset.trans (bne_iff_ne.mpr fun zero => by rw [zero] at bit; cases bit)
  · exact (congrArg (fun p : Prt => SMap.get p.fundCmd 0 pt.val) reset.prt).trans (SMap.get_set_same s.prt.fundCmd 0 pt.val 1)
  · exact fun k own => (reset.bridge k).trans (if_pos own)

theorem exec_ptnHot_atRest (out : now = 0) : ∃ t, exec (.ptnHot pt) s = .next t ∧ t.ptInReset pt.val = false ∧
    bitOf (t.rd R.RST_CAUSE) RC.PTN_HOT = true ∧ (∀ k, k / 1024 = pt.val → t.bridge k = {}) ∧
    (∀ k, k / 1024 ≠ pt.val → t.bridge k = s.bridge k) ∧ Only [R.RST_CAUSE, R.PTN_STATE pt.val] { s with prt := t.prt } t := by
  have reset := State.ptnReset_source rest hnow RC.PTN_HOT RS.HOT false s.prt.fundCmd s.prt.perst (by rw [out]; rfl) fun _ => out
  obtain ⟨caused, only⟩ := reset.with_cause (by decide)
  exact ⟨_, (exec_ptnHot s pt).trans (congrArg _ (State.narrowSource_narrow _ _ _ calm narrow)), reset.inReset.trans (by rw [out]; rfl),
    caused, fun k own => (reset.bridge k).trans (if_pos own), fun k other => (reset.bridge k).trans (if_neg other), only⟩

theorem exec_perstAssert_atRest (i : Fin 16) (high : SMap.get s.prt.perst 0 i.val ≠ 1) (one : s.perstParts i.val = [pt.val])
    (new : bitOf now RS.PERST = false) : ∃ t, exec (.perstAssert i) s = .next t ∧
      bitOf (t.get (R.PTN_STATE pt.val) F.PTN_STATE_RST_SRC) RS.PERST = true ∧ t.ptInReset pt.val = true ∧
      SMap.get t.prt.perst 0 i.val = 1 ∧ bitOf (t.rd R.RST_CAUSE) RC.PERST = true := by
  have reset := State.ptnReset_source rest hnow RC.PERST RS.PERST true s.prt.fundCmd (SMap.set s.prt.perst 0 i.val 1) new nofun
  obtain ⟨caused, -⟩ := reset.with_cause (by decide)
  have bit : (now + 2 ^ RS.PERST) % 4 / 1 % 2 = 1 := by
    simp only [bitOf, RS.PERST, beq_eq_false_iff_ne] at new ⊢
    omega
  refine ⟨_, (exec_perstAssert_low high).trans (congrArg _ ?_), ?_, ?_, ?_, caused⟩
  · rw [one]
    exact State.perstReset_narrow _ (List.cons_ne_nil _ _) calm narrow
  · exact beq_iff_eq.mpr ((congrArg (· / 1 % 2) reset.src).trans bit)
  · exact reset.inReset.trans (bne_iff_ne.mpr fun zero => by rw [zero] at bit; cases bit)
  · exact (congrArg (fun p : Prt => SMap.get p.perst 0 i.val) reset.prt).trans (SMap.get_set_same s.prt.perst 0 i.val 1)

end resets

theorem exec_ptnFundRelease_last {s : State} {pt : Fin 64} (asserted : SMap.get s.prt.fundCmd 0 pt.val ≠ 0)
    (src : s.get (R.PTN_STATE pt.val) F.PTN_STATE_RST_SRC = 2) (flr : s.noFlr) : ∃ t, exec (.ptnFundRelease pt) s = .next t ∧
      t.get (R.PTN_STATE pt.val) F.PTN_STATE_RST_SRC = 0 ∧ t.ptInReset pt.val = false ∧ SMap.get t.prt.fundCmd 0 pt.val = 0 ∧
      Only [R.PTN_STATE pt.val] { s with prt := t.prt } t := by
  obtain ⟨u, hu⟩ : ∃ u, u = s.setPins (SMap.set s.prt.fundCmd 0 pt.val 0) s.prt.perst := ⟨_, rfl⟩
  have only := u.ptnRelease_only pt.val RS.FUND
  obtain ⟨none_left, out⟩ := State.ptnRelease_last (s := u) (src := RS.FUND) (hu ▸ flr) pt.isLt (by decide) (hu ▸ src)
  refine ⟨_, (exec_ptnFundRelease s pt).trans ((if_neg asserted).trans (congrArg _ (by rw [hu]))), none_left, out, ?_, ?_⟩
  · rw [only.prt_eq, hu]
    exact SMap.get_set_same s.prt.fundCmd 0 pt.val 0
  · rw [only.prt_eq]
    subst hu
    exact only

theorem exec_perstRelease_out {s : State} {i : Fin 16} (low : SMap.get s.prt.perst 0 i.val ≠ 0) (flr : s.noFlr) :
    ∃ t, exec (.perstRelease i) s = .next t ∧ SMap.get t.prt.perst 0 i.val = 0 ∧ (∀ pt, pt < 64 →
      (s.get (R.PTN_CFG pt) F.PTN_CFG_PERST_SEL = i.val → s.get (R.PTN_STATE pt) F.PTN_STATE_RST_SRC = 1 →
        t.get (R.PTN_STATE pt) F.PTN_STATE_RST_SRC = 0 ∧ t.ptInReset pt = false) ∧
      (s.get (R.PTN_CFG pt) F.PTN_CFG_PERST_SEL ≠ i.val → t.rd (R.PTN_STATE pt) = s.rd (R.PTN_STATE pt))) ∧ t.mem = s.mem := by
  obtain ⟨u, hu⟩ : ∃ u, u = (s.setPins s.prt.fundCmd (SMap.set s.prt.perst 0 i.val 0)).freeSource (16 + i.val) := ⟨_, rfl⟩
  have only := u.foldl_perstOut_only (i := i.val) (List.range 64)
  have idle : u.noFlr := hu ▸ flr
  have same (r : RegRef) : u.rd r = s.rd r := by rw [hu]; rfl
  refine ⟨_, (exec_perstRelease_high low).trans (congrArg _ (by rw [← hu])), ?_, fun pt hpt => ⟨fun sel src => ?_, fun sel => ?_⟩, ?_⟩
  · rw [only.prt_eq, hu]
    exact SMap.get_set_same s.prt.perst 0 i.val 0
  · exact u.foldl_perstOut_released hpt idle (by rw [State.get, same]; exact sel) (by rw [State.get, same]; exact src)
  · exact (u.foldl_perstOut_kept hpt idle (by rw [State.get, same]; exact sel)).trans (same _)
  · rw [only.mem_eq, hu]
    rfl

/-! ### Containment as commands (R236) -/

theorem exec_portDpc_marks {s : State} {p : Fin 256} (r : Fin 3) (down : s.role p.val = ROLE.DOWNSTREAM)
    (enabled : (s.bridge (s.portBridge p.val)).dpcEn = true) (lifted : s.portHeld p.val = false) (pcie : s.caneMode p.val = false)
    (quiet : s.noTraffic) (int : bitOf (SMap.get (s.bridge (s.portBridge p.val)).raw 0 0x154) 19 = false) :
    ∃ t, exec (.portDpc p r) s = .next t ∧ t.portHeld p.val = true ∧ t.get (R.PRT_STATUS p.val) F.PRT_STATUS_HOLD_SRC = 1 ∧
      (t.bridge (s.portBridge p.val)).dpcTrig = true ∧ (t.bridge (s.portBridge p.val)).dpcReason = r.val ∧
      t.reports = s.reports ++ [⟨FC.PORT_DPC, UK.port, p.val, 0, 0, 0, s.now, false⟩] ∧
      Only [R.PRT_STATUS p.val] { s with cru := t.cru, prt := t.prt, out := t.out, reports := t.reports } t := by
  refine ⟨_, exec_portDpc_quiet r down enabled lifted pcie quiet int, ?_, ?_, ?_, ?_, rfl, rfl, fun q apart => ?_⟩
  · change (s.markHeld p.val 1).bit _ _ = true
    rw [State.markHeld, State.bit_put_field _ _ _ _ _ (by decide) (by decide)]
    exact State.bit_setBit _ _ _ (by decide) rfl
  · change (s.markHeld p.val 1).get _ _ = 1
    rw [State.markHeld, State.get_put_same _ _ _ _ (by decide)]
    rfl
  · exact congrArg Bridge.dpcTrig (SMap.get_set_same _ _ _ _)
  · exact congrArg Bridge.dpcReason (SMap.get_set_same _ _ _ _)
  · exact s.markHeld_rd_other _ _ q (apart _ List.mem_cons_self)

/-- The loss of an upstream link holds the partition, reports it and resets it hot. -/
theorem exec_ptnUplink {s : State} {p : Fin 256} (up : s.role p.val = ROLE.UPSTREAM)
    (link : s.bit (R.PRT_STATUS p.val) F.PRT_STATUS_LINK_UP = true) : exec (.ptnUplink p) s =
      .next (State.ptnHot (State.report (State.holdPartition ((s.linkLost p.val).put (R.PTN_STATE (s.portPt p.val)) F.PTN_STATE_UPLINK 0)
        (s.portPt p.val)) FC.PTN_UPLINK UK.partition (s.portPt p.val) 0 p.val 0) (s.portPt p.val) true) := by
  refine if_neg ?_
  rintro (other | lost)
  · exact other up
  · rw [link] at lost
    cases lost

/-! ### The obligation -/

/-- With a link control, whether the completion waits or is sent, the bridge keeps the field. -/
theorem exec_bridgeConfigWrite_linkCtl {s : State} {pt : Fin 64} {rid : BitVec 16} {tag : BitVec 10} {b : BridgeRef} {v : BitVec 16}
    (there : s.bridgeExists pt.val b = true) (ready : s.cfgNotReady pt.val = false) :
    ∃ t, exec (.bridgeConfigWrite pt rid tag b (.linkCtl v)) s = .next t ∧
      t.bridge (refKey pt.val b) = (s.bridge (refKey pt.val b)).write (.linkCtl v) := by
  refine ⟨_, exec_bridgeConfigWrite there ready, ?_⟩
  have written : (s.bridgeField pt.val b (.linkCtl v)).prt.bridges =
      (s.setBridge (refKey pt.val b) ((s.bridge (refKey pt.val b)).write (.linkCtl v))).prt.bridges :=
    congrArg Prt.bridges (State.bridgeEffect_linkCtl_prt _ _ _ _ _)
  have done : ((s.bridgeField pt.val b (.linkCtl v)).bridgeDone pt.val rid.toNat tag.toNat (bridgeRoutes (.linkCtl v))).prt.bridges =
      (s.bridgeField pt.val b (.linkCtl v)).prt.bridges := by
    unfold State.bridgeDone
    split
    · rfl
    · exact State.answer_bridges _ _ _ _ _ _ _ _ _
  rw [State.bridge, done, written]
  exact State.bridge_setBridge _ _ _

/-- Settles O51, clause by clause: what a reset leaves of a partition at rest and what a release leaves, the sources as commands and pins,
the containment of ports and partitions, and the writes of bridge fields. -/
theorem partitionsAreResetReleasedAndContained : Obligations.PartitionsAreResetReleasedAndContained := by
  unfold Obligations.PartitionsAreResetReleasedAndContained
  refine ⟨?atRest, ?commands, ?pins, ?ports, ?bridges⟩
  case atRest =>
    intro s pt now traffic leases calm narrow up down fns flr hnow
    have rest : s.PtnAtRest pt.val := ⟨traffic, leases, up, down, fns, flr⟩
    exact ⟨exec_ptnFundAssert_atRest rest hnow calm narrow, exec_ptnHot_atRest rest hnow calm narrow,
      exec_perstAssert_atRest rest hnow calm narrow⟩
  case commands =>
    intro s pt
    have fund := exec_ptnFundAssert s pt
    have hot := exec_ptnHot s pt
    refine ⟨fun quench => ⟨?_, ?_⟩, fun calm wide => ⟨?_, ?_⟩, fun u calm narrow hu => ?_, fun calm narrow => ?_, fun asserted u hu => ?_,
      fun absent => if_pos absent, exec_ptnFundRelease_last⟩
    · rw [fund, State.narrowSource_quench _ _ _ quench]
    · rw [hot, State.narrowSource_quench _ _ _ quench]
    · rw [fund, State.narrowSource_widened _ _ _ calm wide]
    · rw [hot, State.narrowSource_widened _ _ _ calm wide]
    · rw [fund, State.narrowSource_narrow _ _ _ calm narrow, hu]
      rfl
    · rw [hot, State.narrowSource_narrow _ _ _ calm narrow]
    · rw [exec_ptnFundRelease, if_neg asserted, hu]
      rfl
  case pins =>
    intro s i
    refine ⟨fun low => if_pos low, fun high unnamed => ?_, fun high named calm u hu => ⟨fun narrow => ?_, fun wide => ?_⟩,
      fun high => if_pos high, exec_perstRelease_out⟩
    · rw [exec_perstAssert_low high, unnamed]
      rfl
    · rw [exec_perstAssert_low high, hu]
      exact congrArg _ (State.perstReset_narrow _ named calm narrow)
    · rw [exec_perstAssert_low high, hu]
      exact congrArg _ (State.perstReset_widened _ named calm wide)
  case ports =>
    intro s p
    exact ⟨fun up => congrArg _ (if_pos up), fun other => ⟨congrArg _ (if_neg other), if_pos (.inl other)⟩,
      fun other r => exec_portDpc_idle other, fun down enabled r => exec_portDpc r down enabled,
      fun down enabled lifted pcie quiet int r => exec_portDpc_marks r down enabled lifted pcie quiet int, exec_ptnUplink⟩
  case bridges =>
    intro s pt rid tag b f k ans hk hans
    subst hk hans
    refine ⟨exec_bridgeConfigWrite_absent, exec_bridgeConfigWrite_retry, exec_bridgeConfigWrite_local,
      fun there ready sbr power link => ?plain, ?link, fun there ready atUp sbr was => ?secondary⟩
    case plain =>
      have run := exec_bridgeConfigWrite (rid := rid) (tag := tag) (f := f) there ready
      rw [s.bridgeField_plain pt.val b sbr power link] at run
      refine ⟨fun now => run.trans (congrArg _ (if_neg ?_)), fun pending routes => ?_⟩
      · intro both
        obtain ⟨routes, pending⟩ := Bool.and_eq_true_iff.mp both
        exact now.elim (fun off => Bool.false_ne_true (off.symm.trans pending)) fun off => Bool.false_ne_true (off.symm.trans routes)
      · exact ⟨_, run.trans (congrArg _ (if_pos (Bool.and_eq_true_iff.mpr ⟨routes, pending⟩))), State.bridge_setBridge _ _ _, rfl, rfl, rfl⟩
    case link =>
      rintro there ready ⟨v, rfl⟩
      exact exec_bridgeConfigWrite_linkCtl there ready
    case secondary =>
      subst atUp sbr
      have effect : s.bridgeField pt.val .up (.sbr true) =
          State.ptnHot (s.setBridge (refKey pt.val .up) ((s.bridge (refKey pt.val .up)).write (.sbr true))) pt.val false :=
        if_neg (by rw [was]; exact Bool.false_ne_true)
      rw [exec_bridgeConfigWrite_local there ready rfl, effect]
      rfl

end Sys2Proof.Machine
end

section
/-!
PROOFS. Function-level resets (R255, R256): what begins with one, and what its end leaves of the functions, of MSI-X and of memory.
-/
namespace Sys2Proof.Machine

/-! ### A function-level reset begins (R255) -/

theorem State.flrSource_narrow {s : State} (calm : s.rst.quench = 0) (narrow : s.widened = false) (fs : List Nat) :
    s.flrSource fs = fs.foldl State.flrBegin ((s.cause RC.FLR).reached 3) := State.narrowSource_narrow _ _ _ calm narrow

theorem exec_flrInitiate {s : State} {f : Fin 4097} (idle : s.flrActive f.val = false) :
    exec (.flrInitiate f) s = .next (s.flrSource (f.val :: (if f.val = 0 then s.vfs else []))) :=
  congrArg _ (if_neg (by rw [idle]; exact Bool.false_ne_true))

/-- Without a job no MOVE has started. -/
theorem State.moveFail_noJobs {s : State} (idle : s.cmd.jobs = []) (status : Nat) (p : State → Nat → Bool) : s.moveFail status p = s := by
  refine List.foldl_fixed' (fun k => if_neg ?_) _
  have none : s.job k = none := by rw [State.job, idle, SMap.get]
  simp [none]

/-- The queues of a function are named by their contexts, PTN_MGMT and its QEP_VFMAP. -/
theorem Only.ownQueues_eq {rs : List RegRef} {s t : State} (h : Only rs s t) (f : Nat)
    (apart : ∀ x ∈ rs, (∀ q, (R.QCTX q 0).addr ≠ x.addr) ∧ R.PTN_MGMT.addr ≠ x.addr ∧ (R.QEP_VFMAP f).addr ≠ x.addr) :
    t.ownQueues f = s.ownQueues f := by
  have ctx (q : Nat) : t.rd (R.QCTX q 0) = s.rd (R.QCTX q 0) := h.2 _ fun x hx => (apart x hx).1 q
  have mgmt : t.rd R.PTN_MGMT = s.rd R.PTN_MGMT := h.2 _ fun x hx => (apart x hx).2.1
  have map : t.rd (R.QEP_VFMAP f) = s.rd (R.QEP_VFMAP f) := h.2 _ fun x hx => (apart x hx).2.2
  simp only [State.ownQueues, State.queuesWhere, State.qOwnerFn, State.qOwnerPt, State.fnHome, State.mgmtPt, State.get, ctx, mgmt, map]

/-- RST_CAUSE and the status of a function name no queue. -/
theorem flrRegs_apart {f : Nat} (hf : f < 4097) : ∀ x ∈ [R.RST_CAUSE, R.QEP_FNSTAT f],
    (∀ q, (R.QCTX q 0).addr ≠ x.addr) ∧ R.PTN_MGMT.addr ≠ x.addr ∧ (R.QEP_VFMAP f).addr ≠ x.addr := by
  simp only [List.forall_mem_cons, List.not_mem_nil, R.RST_CAUSE, R.QEP_FNSTAT, R.QCTX, R.PTN_MGMT, R.QEP_VFMAP]
  refine ⟨⟨fun q => ?_, ?_, ?_⟩, ⟨fun q => ?_, ?_, ?_⟩, fun _ hx => hx.elim⟩ <;> omega

/-- The reset of a VF without queues begins by its status alone, while no command runs. -/
theorem State.flrBegin_noQueues {s : State} {f : Nat} (hf : f < 4097) (vf : f ≠ 0) (idle : s.flrActive f = false) (none : s.ownQueues f = [])
    (jobs : s.cmd.jobs = []) : s.flrBegin f = s.setBit (R.QEP_FNSTAT f) F.QEP_FNSTAT_FLR_ACTIVE := by
  have marked : Only [R.RST_CAUSE, R.QEP_FNSTAT f] s (s.setBit (R.QEP_FNSTAT f) F.QEP_FNSTAT_FLR_ACTIVE) :=
    Only.put _ _ _ _ _ (List.mem_cons_of_mem _ List.mem_cons_self)
  have own := (marked.ownQueues_eq f (flrRegs_apart hf)).trans none
  rw [State.flrBegin, idle, if_neg Bool.false_ne_true]
  dsimp only
  rw [if_neg vf, State.moveFail_noJobs (show (s.setBit (R.QEP_FNSTAT f) F.QEP_FNSTAT_FLR_ACTIVE).cmd.jobs = [] from jobs), own]
  simp

theorem exec_flrInitiate_noQueues {s : State} {f : Fin 4097} (idle : s.flrActive f.val = false) (calm : s.rst.quench = 0)
    (narrow : s.widened = false) (vf : f.val ≠ 0) (none : s.ownQueues f.val = []) (jobs : s.cmd.jobs = []) :
    ∃ t, exec (.flrInitiate f) s = .next t ∧ t.flrActive f.val = true ∧ bitOf (t.rd R.RST_CAUSE) RC.FLR = true ∧
      Only [R.RST_CAUSE, R.QEP_FNSTAT f.val] s t := by
  have caused : Only [R.RST_CAUSE, R.QEP_FNSTAT f.val] s ((s.cause RC.FLR).reached 3) :=
    (s.cause_reached_only RC.FLR 3).mono (List.forall_mem_singleton.mpr List.mem_cons_self)
  have own := (caused.ownQueues_eq f.val (flrRegs_apart f.isLt)).trans none
  have apart : R.RST_CAUSE.addr ≠ (R.QEP_FNSTAT f.val).addr := by
    simp only [R.RST_CAUSE, R.QEP_FNSTAT]
    omega
  have waits : ((s.cause RC.FLR).reached 3).flrActive f.val = false := by
    rw [State.flrActive, State.bit, State.get, (s.cause_reached_only RC.FLR 3).2 _ (List.forall_mem_singleton.mpr apart.symm)]
    exact idle
  have begun := State.flrBegin_noQueues f.isLt vf waits own jobs
  refine ⟨_, (exec_flrInitiate idle).trans (congrArg _ ?_), State.bit_setBit _ (R.QEP_FNSTAT f.val) F.QEP_FNSTAT_FLR_ACTIVE (by decide) rfl,
    ?_, caused.trans (Only.put _ _ _ _ _ (List.mem_cons_of_mem _ List.mem_cons_self))⟩
  · rw [if_neg vf, State.flrSource_narrow calm narrow]
    exact begun
  · rw [State.setBit, State.rd_put_other _ _ _ _ _ apart]
    exact s.bitOf_cause_reached 3 (by decide)

/-! ### What the end of a reset leaves of the functions (R255) -/

/-- `t` is `s` as far as ports and functions go, but for pending bits of MSI-X. -/
structure FnsKept (s t : State) : Prop where
  prt : { t.prt with pba := s.prt.pba } = s.prt

namespace FnsKept

theorem of_prt_eq {s t : State} (h : t.prt = s.prt) : FnsKept s t := ⟨by rw [h]⟩

theorem refl (s : State) : FnsKept s s := ⟨rfl⟩

variable {s t u : State}

theorem trans (h : FnsKept s t) (k : FnsKept t u) : FnsKept s u :=
  ⟨(congrArg (fun x : Prt => { x with pba := s.prt.pba }) k.prt).trans h.prt⟩

/-- What follows and stays away from ports and functions. -/
theorem next (h : FnsKept s t) (k : u.prt = t.prt) : FnsKept s u := h.trans (of_prt_eq k)

theorem put (h : FnsKept s t) (r : RegRef) (f : Fld) (v : Nat) : FnsKept s (t.put r f v) := h.next (State.put_prt _ _ _ _)
theorem cmd (h : FnsKept s t) (c : Cmd) : FnsKept s { t with cmd := c } := h.next rfl

theorem fn_eq (h : FnsKept s t) (f : Nat) : t.fn f = s.fn f := by
  have fns : t.prt.fns = s.prt.fns := (congrArg Prt.fns h.prt :)
  rw [State.fn, fns, State.fn]

theorem detach_eq (h : FnsKept s t) : t.prt.detach = s.prt.detach := (congrArg Prt.detach h.prt :)

theorem foldl {α : Type} (g : State → α → State) (l : List α) (h : FnsKept s t) (step : ∀ u a, FnsKept u (g u a)) :
    FnsKept s (l.foldl g t) :=
  List.foldlRecOn (motive := FnsKept s) l g h fun u hu a _ => hu.trans (step u a)

end FnsKept

theorem State.event_fnsKept (s : State) (b : Nat) : FnsKept s (s.event b) := .of_prt_eq (congrArg State.prt (s.event_frame b) :)

theorem State.countDrop_prt (s : State) (q port : Nat) : (s.countDrop q port).prt = s.prt := by
  unfold State.countDrop State.portCount
  split
  · exact State.put_prt _ _ _ _
  · exact (State.wr_prt _ _ _).trans (State.put_prt _ _ _ _)

theorem State.sendUp_prt (s : State) (pt cls : Nat) (mk : Nat → State → Pkt × State) (same : ∀ q u, (mk q u).2.prt = u.prt) :
    (s.sendUp pt cls mk).2.prt = s.prt := by
  unfold State.sendUp
  split
  · rfl
  · dsimp only
    split
    · exact s.countDrop_prt _ _
    · exact (State.sendEndpoint_prt _ _ _).trans (same _ _)

theorem State.msix_fnsKept (s : State) (f v cls : Nat) : FnsKept s (s.msix f v cls) := by
  unfold State.msix
  split
  · exact .of_prt_eq (State.put_prt _ _ _ _)
  split
  · exact .refl s
  split
  · exact ⟨rfl⟩
  · exact .of_prt_eq (State.sendUp_prt _ _ _ _ fun _ _ => rfl)

theorem State.slotNotify_fnsKept (s : State) (k : Nat) : FnsKept s (s.slotNotify k) := by
  have event := s.event_fnsKept 33
  unfold State.slotNotify
  dsimp only
  split
  · split
    · exact event.trans (State.msix_fnsKept _ _ _ _)
    · exact event
  · exact event

theorem State.slotRevoke_fnsKept (s : State) (k : Nat) : FnsKept s (s.slotRevoke k) := by
  have lease : FnsKept s (s.setSlotLease k none) := (((FnsKept.refl s).cmd _).put _ _ _).put _ _ _
  have freed : FnsKept s ((s.setSlotLease k none).setSlot k CS.FREE) := (lease.put _ _ _).trans (State.slotNotify_fnsKept _ k)
  unfold State.slotRevoke
  split
  · exact ((freed.put _ _ _).cmd _).put _ _ _
  · exact lease.put _ _ _

theorem State.mbxNotify_fnsKept (s : State) (x : Nat) : FnsKept s (s.mbxNotify x) := by
  unfold State.mbxNotify
  split
  · exact s.msix_fnsKept _ _ _
  · exact s.event_fnsKept 32

theorem State.mbxEmpty_same (s : State) (x : Nat) : (s.mbxEmpty x).prt = s.prt ∧ (s.mbxEmpty x).mem = s.mem := by
  unfold State.mbxEmpty State.mbxClearFrame State.setClaim
  dsimp only
  split <;> simp

theorem State.mbxAcknowledge_fnsKept (s : State) (x rcode : Nat) : FnsKept s (s.mbxAcknowledge x rcode) :=
  ((((((FnsKept.refl s).put _ _ _).put _ _ _).put _ _ _).put _ _ _).put _ _ _).trans (State.mbxNotify_fnsKept _ _)

theorem State.mbxResetEnd_fnsKept (s : State) (x : Nat) : FnsKept s (s.mbxResetEnd x) := by
  unfold State.mbxResetEnd
  dsimp only
  refine FnsKept.next ?_ (State.mbxEmpty_same _ _).1
  split
  · exact (s.mbxAcknowledge_fnsKept x 0xFFFF).put _ _ _
  · exact .refl s

theorem State.fnLeases_fnsKept (s : State) (f : Nat) : FnsKept s (s.fnLeases f) := by
  unfold State.fnLeases State.forceAll
  refine .foldl _ _ ?hosts fun u m => u.mbxResetEnd_fnsKept (512 + m)
  refine FnsKept.next (t := State.forceCmd _ _ _) ?commands rfl
  refine .foldl _ _ ?mailboxes State.slotRevoke_fnsKept
  refine .foldl _ _ ?regions State.mbxResetEnd_fnsKept
  exact .of_prt_eq (congrArg State.prt (Forced.foldl _ _ s.locksHeld s).frame :)

/-! ### The leases of a function that has none (R86, R128, R341, R348) -/

/-- Firmware learns of the end of a message by an event, and nothing is written to memory. -/
theorem State.mbxAcknowledge_sameMemory (s : State) {x : Nat} (rcode : Nat) (firmware : mbxHost (mbxOther x) = false) :
    SameMemory s (s.mbxAcknowledge x rcode) := by
  have event (u : State) : SameMemory u (u.event 32) := .counted ((Counted.refl u).event 32)
  have notified (u : State) : SameMemory u (u.mbxNotify (mbxOther x)) := by
    rw [State.mbxNotify, firmware, if_neg Bool.false_ne_true]
    exact event u
  exact ((((((SameMemory.refl s).put _ _ _).put _ _ _).put _ _ _).put _ _ _).put _ _ _).trans (notified _)

/-- A host end that is reset tells firmware, not a function. -/
theorem State.mbxResetEnd_host_mem (s : State) {m : Nat} (hm : m < 512) : (s.mbxResetEnd (512 + m)).mem = s.mem := by
  have firmware : mbxHost (mbxOther (512 + m)) = false := by
    rw [mbxOther, if_neg (by omega), mbxHost, decide_eq_false_iff_not]
    omega
  unfold State.mbxResetEnd
  dsimp only
  rw [(State.mbxEmpty_same _ _).2]
  split
  · exact ((s.mbxAcknowledge_sameMemory 0xFFFF firmware).put _ _ _).mem
  · rfl

theorem State.mbxResetHosts_mem (s : State) (p : Nat → Nat → Bool) : (s.mbxResetHosts p).mem = s.mem := by
  unfold State.mbxResetHosts
  dsimp only
  refine List.foldlRecOn (motive := fun t : State => t.mem = s.mem) _ _ rfl fun t ht m hm => (t.mbxResetEnd_host_mem ?_).trans ht
  obtain ⟨e, -, he⟩ := List.mem_filterMap.mp (List.mem_filter.mp hm).1
  split at he
  · rename_i place
    extract_lets j at he
    split at he
    · have same : j = m := Option.some.inj he
      omega
    · cases he
  · cases he

theorem State.fnLeases_mem {s : State} (free : s.noLeases) (f : Nat) : (s.fnLeases f).mem = s.mem := by
  have mailboxes (tag mask : Nat) : s.forceMbx tag mask = s := by
    obtain ⟨-, -, -, -, claims⟩ := free
    rw [State.forceMbx, claims, List.filterMap_nil, List.foldl_nil]
  rw [State.fnLeases, State.mbxResetHosts_mem, State.forceAll, State.forceGst_noLeases free, mailboxes, State.forceCmd_noLeases free,
    State.forceQueueLocks_noLeases free]

/-- A selection that takes nothing from a table takes nothing from what is kept of it. -/
theorem SMap.filterMap_keep_nil {β γ : Type} {f : Nat × β → Option γ} {m : SMap β} (none : m.filterMap f = []) (p : Nat → Bool) :
    (SMap.keep m p).filterMap f = [] :=
  List.filterMap_eq_nil_iff.mpr fun e he => List.filterMap_eq_nil_iff.mp none e (List.mem_filter.mp he).1

/-- A queue is cleared: registers and packets alone. -/
theorem State.clearBlock_same (s : State) (q : Nat) : (s.clearBlock q).prt = s.prt ∧ (s.clearBlock q).mem = s.mem := ⟨rfl, rfl⟩

theorem State.resetQueue_same (s : State) (b : Bool) (q : Nat) : (s.resetQueue b q).prt = s.prt ∧ (s.resetQueue b q).mem = s.mem := by
  unfold State.resetQueue
  dsimp only
  rw [(State.clearBlock_same _ _).1, (State.clearBlock_same _ _).2]
  split
  · exact ⟨rfl, rfl⟩
  · exact ⟨State.put_prt _ _ _ _, State.put_mem _ _ _ _⟩

theorem State.clearBlock_regs (s : State) (q : Nat) : (s.clearBlock q).regs =
    SMap.keep s.regs (fun a => !(decide (0x100000000 + 0x80 * q ≤ a) && decide (a < 0x100000080 + 0x80 * q))) := rfl

theorem State.noLeases_clearBlock {s : State} (free : s.noLeases) (q : Nat) : (s.clearBlock q).noLeases := by
  obtain ⟨locks, rest⟩ := free
  rw [State.locksHeld, State.regIndices] at locks
  refine ⟨?_, rest⟩
  rw [State.locksHeld, State.regIndices, State.clearBlock_regs]
  exact SMap.filterMap_keep_nil locks _

theorem State.noLeases_setQstate {s : State} (free : s.noLeases) (q v : Nat) : (s.setQstate q v).noLeases := by
  obtain ⟨locks, rest⟩ := free
  refine ⟨Eq.trans (SMap.filterMap_set _ _ _ _ _ fun w => if_neg ?_) locks, ?_⟩
  · simp only [R.QCTX]
    omega
  · rw [State.setQstate, State.put_gst, State.put_que, State.put_cmd, State.put_mbx]
    exact rest

theorem State.noLeases_prev {s : State} (free : s.noLeases) (m : SMap Nat) : { s with que := { s.que with prev := m } }.noLeases := free

theorem State.noLeases_resetQueue {s : State} (free : s.noLeases) (b : Bool) (q : Nat) : (s.resetQueue b q).noLeases := by
  unfold State.resetQueue
  dsimp only
  refine State.noLeases_clearBlock ?_ q
  split
  · exact State.noLeases_prev free _
  · exact State.noLeases_setQstate (State.noLeases_prev free _) q _

/-- The queues of a function are reset. -/
def State.resetQueues (s : State) (b : Bool) (qs : List Nat) : State := qs.foldl (State.resetQueue · b) s

theorem State.resetQueues_fnsKept (s : State) (b : Bool) (qs : List Nat) : FnsKept s (s.resetQueues b qs) :=
  .foldl _ _ (.refl s) fun u q => .of_prt_eq (u.resetQueue_same b q).1

theorem State.resetQueues_noLeases {s : State} (free : s.noLeases) (b : Bool) (qs : List Nat) :
    (s.resetQueues b qs).noLeases ∧ (s.resetQueues b qs).mem = s.mem :=
  List.foldlRecOn (motive := fun t : State => t.noLeases ∧ t.mem = s.mem) qs _ ⟨free, rfl⟩ fun t ht q _ =>
    ⟨State.noLeases_resetQueue ht.1 b q, (t.resetQueue_same b q).2.trans ht.2⟩

/-! ### The end of a reset (R243, R255) -/

theorem State.fn_setFn (s : State) (f : Nat) (c : FnCfg) : (s.setFn f c).fn f = c := SMap.get_set_same _ _ _ _

/-- The MSI-X entries of a function. -/
def msixOf (f a : Nat) : Bool := decide (0x400000000 + 0x10000 * f ≤ a) && decide (a < 0x400010000 + 0x10000 * f)

theorem State.rd_msixReset (s : State) (f : Nat) (r : RegRef) :
    (s.msixReset f).rd r = if msixOf f r.addr then r.rst else s.rd r := by
  have kept : (s.msixReset f).regs = SMap.keep s.regs (fun a => !msixOf f a) := rfl
  rw [State.rd, kept, SMap.get_keep]
  cases msixOf f r.addr with
  | true => exact Nat.zero_xor _
  | false => rfl

theorem State.msixReset_masked (s : State) {f v : Nat} (hv : v < 2048) : (s.msixReset f).rd (R.MSIX f v 1) = 2 ^ 32 := by
  have own : msixOf f (R.MSIX f v 1).addr = true := by
    simp only [msixOf, R.MSIX, Bool.and_eq_true, decide_eq_true_eq]
    omega
  rw [State.rd_msixReset, own]
  rfl

theorem State.msixReset_pendingBit (s : State) {f v : Nat} (hv : v < 2048) : (s.msixReset f).pendingBit f v = false := by
  have kept : (s.msixReset f).prt.pba = SMap.keep s.prt.pba (fun k => k / 2048 != f) := rfl
  have own : (2048 * f + v) / 2048 = f := by omega
  rw [State.pendingBit, kept, SMap.get_keep, own]
  simp

theorem State.msixReset_fn (s : State) (f g : Nat) : (s.msixReset f).fn g = s.fn g := rfl

/-- What a reset of function `f` leaves in its configuration space. -/
structure FnCleared (c c' : FnCfg) : Prop where
  bme : c'.bme = false
  mse : c'.mse = false
  msixEn : c'.msixEn = false
  aerUnc : c'.aerUnc = c.aerUnc

theorem State.fnReset_cleared (s : State) (f : Nat) : FnCleared (s.fn f) ((s.fnReset f).fn f) := by
  unfold State.fnReset
  dsimp only
  rw [State.fn_setFn]
  by_cases pf : f = 0
  · subst pf
    exact ⟨rfl, rfl, rfl, rfl⟩
  · have plain : fnDefault f = {} := if_neg pf
    rw [plain]
    exact ⟨rfl, rfl, rfl, rfl⟩

theorem State.fnReset_same (s : State) (f : Nat) : (s.fnReset f).prt.detach = s.prt.detach ∧ (s.fnReset f).mem = s.mem := by
  unfold State.fnReset
  dsimp only
  split <;> exact ⟨rfl, rfl⟩

/-- A DETACH that waited for the reset of function `f` is applied. -/
def State.flrDetach (s : State) (f : Nat) : State :=
  if s.prt.detach.contains f then
    let s := { s with prt := { s.prt with detach := s.prt.detach.filter (· != f) } }
    let s := s.wr (R.QEP_VFMAP f) 0
    if s.prt.detach.isEmpty then s.put R.QEP_STATUS F.QEP_STATUS_CMD_BUSY 0 else s
  else s

/-- The function's reset ends: its queues, leases, configuration and MSI-X, as one state. -/
def State.flrCleared (s : State) (f : Nat) : State :=
  (((s.resetQueues (s.ptInReset (s.fnHome f) && s.ptHeld (s.fnHome f)) (s.ownQueues f)).fnLeases f).fnReset f).msixReset f

/-- The status of a function whose reset has ended: it counts one more. -/
def State.flrCounted (s : State) (f : Nat) : State :=
  (s.put (R.QEP_FNSTAT f) F.QEP_FNSTAT_FLR_ACTIVE 0).bump (R.QEP_FNSTAT f) F.QEP_FNSTAT_FLRS 1

theorem State.flrEnd_eq {s : State} {f : Nat} (active : s.flrActive f = true) : s.flrEnd f =
    (((s.flrCleared f).flrCounted f).flrDetach f).ptnSettle (((s.flrCleared f).flrCounted f).fnHome f) :=
  if_neg (by rw [active]; decide)

theorem State.fnHome_lt (s : State) (f : Nat) : s.fnHome f < 64 := by
  unfold State.fnHome State.mgmtPt
  split <;> exact Nat.mod_lt _ (by decide)

/-- No DETACH waits for function `f` any more. -/
def State.dropDetach (s : State) (f : Nat) : State := { s with prt := { s.prt with detach := s.prt.detach.filter (· != f) } }

theorem State.rd_dropDetach (s : State) (f : Nat) (r : RegRef) : (s.dropDetach f).rd r = s.rd r := rfl

theorem State.flrDetach_only (s : State) (f : Nat) : Only [R.QEP_VFMAP f, R.QEP_STATUS] (s.dropDetach f) (s.flrDetach f) := by
  have freed : Only [R.QEP_VFMAP f, R.QEP_STATUS] (s.dropDetach f) ((s.dropDetach f).wr (R.QEP_VFMAP f) 0) := .wr _ _ _ _ List.mem_cons_self
  unfold State.flrDetach
  split
  case isTrue =>
    dsimp only
    split
    · exact freed.trans (.put _ _ _ _ _ (List.mem_cons_of_mem _ List.mem_cons_self))
    · exact freed
  case isFalse absent =>
    have all : s.prt.detach.filter (· != f) = s.prt.detach := List.filter_eq_self.mpr fun g hg => by
      refine bne_iff_ne.mpr fun same => absent ?_
      exact List.contains_iff_mem.mpr (same ▸ hg)
    have same : s.dropDetach f = s := by rw [State.dropDetach, all]
    rw [same]
    exact ⟨rfl, fun _ _ => rfl⟩

theorem vfmap_ne_status {f : Nat} : (R.QEP_VFMAP f).addr ≠ R.QEP_STATUS.addr := by
  simp only [R.QEP_VFMAP, R.QEP_STATUS]
  omega

theorem State.flrDetach_vfmap {s : State} {f : Nat} (waits : s.prt.detach.contains f = true) : (s.flrDetach f).rd (R.QEP_VFMAP f) = 0 := by
  have freed : ((s.dropDetach f).wr (R.QEP_VFMAP f) 0).rd (R.QEP_VFMAP f) = 0 := State.rd_wr _ _ _
  rw [State.flrDetach, if_pos waits]
  dsimp only
  split
  · exact (State.rd_put_other _ _ _ _ _ vfmap_ne_status).trans freed
  · exact freed

theorem State.flrCounted_only (s : State) (f : Nat) : Only [R.QEP_FNSTAT f] s (s.flrCounted f) :=
  (Only.put _ _ _ _ _ List.mem_cons_self).trans (Only.put _ _ _ _ _ List.mem_cons_self)

theorem State.flrCounted_idle (s : State) (f : Nat) : (s.flrCounted f).flrActive f = false := by
  rw [State.flrActive, State.flrCounted, State.bump, State.bit_put_field _ _ _ _ _ (by decide) (by decide),
    State.bit_put_same _ _ _ _ (by decide)]
  rfl

/-- Registers that the end of a reset of function `f` in partition `pt` writes after its queues, leases and MSI-X entries. -/
def flrEndRegs (f pt : Nat) : List RegRef := [R.QEP_FNSTAT f, R.QEP_VFMAP f, R.QEP_STATUS, R.PTN_STATE pt]

theorem Only.dropDetach {rs : List RegRef} {s t : State} (h : Only rs s t) (f : Nat) : Only rs (s.dropDetach f) (t.dropDetach f) :=
  ⟨(congrArg (fun x : State => x.dropDetach f) h.1 :), h.2⟩

/-- Before configuration space and MSI-X are reset, the functions stand as they did. -/
theorem State.flrLeases_fnsKept (s : State) (f : Nat) : FnsKept s
    ((s.resetQueues (s.ptInReset (s.fnHome f) && s.ptHeld (s.fnHome f)) (s.ownQueues f)).fnLeases f) :=
  (s.resetQueues_fnsKept _ _).trans (State.fnLeases_fnsKept _ f)

section flrEnd
variable {s : State} {f : Nat} (active : s.flrActive f = true)
include active

theorem State.flrEnd_only : ∃ pt, pt < 64 ∧ Only (flrEndRegs f pt) ((s.flrCleared f).dropDetach f) (s.flrEnd f) ∧
    Only [R.PTN_STATE pt] (((s.flrCleared f).flrCounted f).flrDetach f) (s.flrEnd f) := by
  refine ⟨((s.flrCleared f).flrCounted f).fnHome f, State.fnHome_lt _ _, ?_⟩
  rw [State.flrEnd_eq active]
  generalize ((s.flrCleared f).flrCounted f).fnHome f = pt
  have settled := State.ptnSettle_only (((s.flrCleared f).flrCounted f).flrDetach f) pt
  refine ⟨?_, settled⟩
  have counted := ((s.flrCleared f).flrCounted_only f).dropDetach f
  have detached := ((s.flrCleared f).flrCounted f).flrDetach_only f
  exact ((counted.mono (by simp [flrEndRegs])).trans (detached.mono (by simp [flrEndRegs]))).trans (settled.mono (by simp [flrEndRegs]))

theorem State.flrEnd_idle (hf : f < 4097) : (s.flrEnd f).flrActive f = false := by
  obtain ⟨pt, hpt, -, settled⟩ := State.flrEnd_only active
  have state : (R.QEP_FNSTAT f).addr ≠ (R.PTN_STATE pt).addr := by
    simp only [R.QEP_FNSTAT, R.PTN_STATE]
    omega
  have detached : ∀ x ∈ [R.QEP_VFMAP f, R.QEP_STATUS], (R.QEP_FNSTAT f).addr ≠ x.addr := by
    simp only [List.forall_mem_cons, List.not_mem_nil, R.QEP_FNSTAT, R.QEP_VFMAP, R.QEP_STATUS]
    exact ⟨by omega, by omega, fun _ hx => hx.elim⟩
  have idle := (s.flrCleared f).flrCounted_idle f
  rw [State.flrActive, State.bit, State.get] at idle ⊢
  rw [settled.2 _ (List.forall_mem_singleton.mpr state), (State.flrDetach_only _ f).2 _ detached, State.rd_dropDetach, idle]

theorem State.flrEnd_prt : (s.flrEnd f).prt = ((s.flrCleared f).dropDetach f).prt := by
  obtain ⟨_, -, only, -⟩ := State.flrEnd_only active
  exact only.prt_eq

theorem State.flrEnd_cleared : FnCleared (s.fn f) ((s.flrEnd f).fn f) := by
  have same : (s.flrEnd f).fn f = (s.flrCleared f).fn f := by
    rw [State.fn, State.flrEnd_prt active]
    rfl
  rw [same, ← (s.flrLeases_fnsKept f).fn_eq f]
  exact State.fnReset_cleared _ f

theorem State.flrEnd_detach : (s.flrEnd f).prt.detach.contains f = false := by
  have dropped : (s.flrEnd f).prt.detach = (s.flrCleared f).prt.detach.filter (· != f) := (congrArg Prt.detach (State.flrEnd_prt active) :)
  rw [dropped]
  simp

theorem State.flrEnd_pendingBit {v : Nat} (hv : v < 2048) : (s.flrEnd f).pendingBit f v = false := by
  rw [State.pendingBit, State.flrEnd_prt active]
  exact State.msixReset_pendingBit _ hv

theorem State.flrEnd_masked (hf : f < 4097) {v : Nat} (hv : v < 2048) : (s.flrEnd f).rd (R.MSIX f v 1) = 2 ^ 32 := by
  obtain ⟨pt, hpt, only, -⟩ := State.flrEnd_only active
  have apart : ∀ x ∈ flrEndRegs f pt, (R.MSIX f v 1).addr ≠ x.addr := by
    have below : ∀ x ∈ flrEndRegs f pt, x.addr < 0x400000000 := by
      simp only [flrEndRegs, List.forall_mem_cons, List.not_mem_nil, R.QEP_FNSTAT, R.QEP_VFMAP, R.QEP_STATUS, R.PTN_STATE]
      exact ⟨by omega, by omega, by omega, by omega, fun _ hx => hx.elim⟩
    have above : 0x400000000 ≤ (R.MSIX f v 1).addr := by
      simp only [R.MSIX]
      omega
    exact fun x hx => (Nat.lt_of_lt_of_le (below x hx) above).ne'
  have masked : (s.flrCleared f).rd (R.MSIX f v 1) = 2 ^ 32 := State.msixReset_masked _ hv
  rw [only.2 _ apart, State.rd_dropDetach, masked]

theorem State.flrEnd_vfmap (waits : s.prt.detach.contains f = true) : (s.flrEnd f).rd (R.QEP_VFMAP f) = 0 := by
  obtain ⟨pt, hpt, -, settled⟩ := State.flrEnd_only active
  have apart : (R.QEP_VFMAP f).addr ≠ (R.PTN_STATE pt).addr := by
    simp only [R.QEP_VFMAP, R.PTN_STATE]
    omega
  have kept : ((s.flrCleared f).flrCounted f).prt.detach = s.prt.detach :=
    calc ((s.flrCleared f).flrCounted f).prt.detach = (s.flrCleared f).prt.detach :=
          congrArg Prt.detach (State.flrCounted_only _ f).prt_eq
      _ = _ := (State.fnReset_same _ f).1
      _ = s.prt.detach := (s.flrLeases_fnsKept f).detach_eq
  rw [settled.2 _ (List.forall_mem_singleton.mpr apart)]
  exact State.flrDetach_vfmap (kept ▸ waits)

theorem State.flrEnd_mem (free : s.noLeases) : (s.flrEnd f).mem = s.mem := by
  obtain ⟨pt, hpt, only, -⟩ := State.flrEnd_only active
  obtain ⟨still, queues⟩ := State.resetQueues_noLeases free (s.ptInReset (s.fnHome f) && s.ptHeld (s.fnHome f)) (s.ownQueues f)
  calc (s.flrEnd f).mem = (s.flrCleared f).mem := only.mem_eq
    _ = _ := (State.fnReset_same _ f).2
    _ = _ := State.fnLeases_mem still f
    _ = s.mem := queues

end flrEnd

theorem exec_flrEnd {s : State} {f : Fin 4097} (active : s.flrActive f.val = true) : ∃ t, exec (.flrEnd f) s = .next t ∧
    t.flrActive f.val = false ∧ (t.fn f.val).bme = false ∧ (t.fn f.val).mse = false ∧ (t.fn f.val).msixEn = false ∧
    (t.fn f.val).aerUnc = (s.fn f.val).aerUnc ∧ (∀ v, v < 2048 → t.pendingBit f.val v = false ∧ t.rd (R.MSIX f.val v 1) = 2 ^ 32) ∧
    t.prt.detach.contains f.val = false ∧ (s.prt.detach.contains f.val = true → t.rd (R.QEP_VFMAP f.val) = 0) ∧
    (s.noLeases → t.mem = s.mem) := by
  obtain ⟨bme, mse, msixEn, aerUnc⟩ := State.flrEnd_cleared active
  exact ⟨_, rfl, State.flrEnd_idle active f.isLt, bme, mse, msixEn, aerUnc,
    fun v hv => ⟨State.flrEnd_pendingBit active hv, State.flrEnd_masked active f.isLt hv⟩, State.flrEnd_detach active,
    State.flrEnd_vfmap active, State.flrEnd_mem active⟩

end Sys2Proof.Machine
end

section
/-!
PROOFS. Functions of the queue endpoint (R243, R251, R257, R258): attachment, VF Enable and node ownership.
-/
namespace Sys2Proof.Machine

/-! ### Attachment (R243) -/

/-- The reset values that an attached function takes leave its QEP_VFMAP as ATTACH wrote it. -/
theorem State.rd_attach (s : State) {v : Nat} (hv : v < 4097) (vf : v ≠ 0) (x : Nat) :
    ((((s.wr (R.QEP_VFMAP v) x).fnReset v).msixReset v)).rd (R.QEP_VFMAP v) = x % 2 ^ 64 := by
  have outside : msixOf v (R.QEP_VFMAP v).addr = false := by
    have below : ¬ 0x400000000 + 0x10000 * v ≤ (R.QEP_VFMAP v).addr := by
      simp only [R.QEP_VFMAP]
      omega
    rw [msixOf, decide_eq_false below, Bool.false_and]
  have regs : ((s.wr (R.QEP_VFMAP v) x).fnReset v).rd (R.QEP_VFMAP v) = (s.wr (R.QEP_VFMAP v) x).rd (R.QEP_VFMAP v) := by
    rw [State.fnReset]
    dsimp only
    rw [if_neg vf, State.rd, State.setFn_regs, State.rd]
  rw [State.rd_msixReset, outside, if_neg Bool.false_ne_true, regs, State.rd_wr]

theorem State.fnReset_bar2 (s : State) {v : Nat} (vf : v ≠ 0) :
    ((s.fnReset v).fn v).bar2Log2 = clampLog2 (s.get (R.QEP_VFMAP v) F.QEP_VFMAP_BAR2_LOG2) := by
  rw [State.fnReset]
  dsimp only
  rw [State.fn_setFn, if_neg vf]

/-- Place and BAR2 size as an ATTACH writes them, above ATTACHED and PT. -/
def attachPlace (b : BitVec 4) (n : BitVec 8) (z : BitVec 6) : Nat := b.toNat * 2 ^ 8 + n.toNat * 2 ^ 12 + z.toNat * 2 ^ 20

theorem attach_owner (pt : Fin 64) (w : Nat) (above : w % 2 ^ 8 = 0) :
    fieldOf ((1 + pt.val * 2 ^ 2 + w) % 2 ^ 64) 0 1 = 1 ∧ fieldOf ((1 + pt.val * 2 ^ 2 + w) % 2 ^ 64) 2 6 = pt.val := by
  rw [fieldOf_mod _ _ _ (by decide), fieldOf_mod _ _ _ (by decide), fieldOf, fieldOf]
  constructor <;> omega

/-- What an ATTACH writes above ATTACHED and PT: nothing when the VF comes to the management partition, where SR-IOV places it. -/
def State.attachWord (s : State) (pt : Fin 64) (b : BitVec 4) (n : BitVec 8) (z : BitVec 6) : Nat :=
  if pt.val ≠ s.mgmtPt then attachPlace b n z else 0

theorem State.attachWord_above (s : State) (pt : Fin 64) (b : BitVec 4) (n : BitVec 8) (z : BitVec 6) : s.attachWord pt b n z % 2 ^ 8 = 0 := by
  rw [State.attachWord, attachPlace]
  split <;> omega

theorem attach_place (pt : Fin 64) (b : BitVec 4) (n : BitVec 8) (z : BitVec 6) :
    let x := (1 + pt.val * 2 ^ 2 + attachPlace b n z) % 2 ^ 64
    fieldOf x 8 4 = b.toNat ∧ fieldOf x 12 8 = n.toNat ∧ fieldOf x 20 6 = z.toNat := by
  have hb := b.isLt
  have hn := n.isLt
  have hz := z.isLt
  dsimp only
  rw [fieldOf_mod _ _ _ (by decide), fieldOf_mod _ _ _ (by decide), fieldOf_mod _ _ _ (by decide), fieldOf, fieldOf, fieldOf, attachPlace]
  refine ⟨?_, ?_, ?_⟩ <;> omega

theorem exec_vfAttach_accepted {s : State} {v : Fin 4097} {pt : Fin 64} {b : BitVec 4} {n : BitVec 8} {z : BitVec 6} (vf : v.val ≠ 0)
    (free : s.bit (R.QEP_VFMAP v.val) F.QEP_VFMAP_ATTACHED = false) (on : s.bitAct (R.PTN_CFG pt.val) F.PTN_CFG_EN = true)
    (fits : pt.val = s.mgmtPt ∨ ((s.vfsIn pt.val).map s.vfPlace).contains (b.toNat, n.toNat) = false ∧
      ((b.toNat, n.toNat) = (0, 0) ∨ ((s.vfsIn pt.val).map s.vfPlace).contains (0, 0) = true)) :
    ∃ t, exec (.vfAttach v pt b n z) s = .next t ∧ t.bit (R.QEP_VFMAP v.val) F.QEP_VFMAP_ATTACHED = true ∧
      t.get (R.QEP_VFMAP v.val) F.QEP_VFMAP_PT = pt.val ∧
      (pt.val ≠ s.mgmtPt → t.vfPlace v.val = (b.toNat, n.toNat) ∧ (t.fn v.val).bar2Log2 = clampLog2 z.toNat) ∧
      (t.fn v.val).bme = false ∧ t.mem = s.mem := by
  have accepted : ¬ (v.val = 0 ∨ s.bit (R.QEP_VFMAP v.val) F.QEP_VFMAP_ATTACHED = true ∨
      (!s.bitAct (R.PTN_CFG pt.val) F.PTN_CFG_EN) = true ∨ (pt.val ≠ s.mgmtPt ∧
        (((s.vfsIn pt.val).map s.vfPlace).contains (b.toNat, n.toNat) = true ∨
          ((b.toNat, n.toNat) ≠ (0, 0) ∧ (!((s.vfsIn pt.val).map s.vfPlace).contains (0, 0)) = true)))) := by
    rw [free, on]
    rintro (zero | attached | off | ⟨away, taken | ⟨later, noFirst⟩⟩)
    · exact vf zero
    · cases attached
    · cases off
    · obtain home | ⟨unused, -⟩ := fits
      · exact away home
      · rw [unused] at taken
        cases taken
    · obtain home | ⟨-, first | first⟩ := fits
      · exact away home
      · exact later first
      · rw [first] at noFirst
        cases noFirst
  have run : exec (.vfAttach v pt b n z) s = .next (((s.wr (R.QEP_VFMAP v.val)
      (1 + pt.val * 2 ^ 2 + s.attachWord pt b n z)).fnReset v.val).msixReset v.val) := if_neg accepted
  have word := s.rd_attach v.isLt vf (1 + pt.val * 2 ^ 2 + s.attachWord pt b n z)
  obtain ⟨attached, owner⟩ := attach_owner pt _ (s.attachWord_above pt b n z)
  refine ⟨_, run, ?_, ?_, fun away => ?_, (State.fnReset_cleared _ _).bme, (State.fnReset_same _ _).2⟩
  · rw [State.bit, State.get, word]
    exact beq_iff_eq.mpr attached
  · rw [State.get, word]
    exact owner
  · have placed : s.attachWord pt b n z = attachPlace b n z := if_pos away
    obtain ⟨bus, number, size⟩ := attach_place pt b n z
    rw [placed] at word ⊢
    constructor
    · rw [State.vfPlace, State.get, State.get, word]
      exact Prod.ext bus number
    · rw [State.msixReset_fn, State.fnReset_bar2 _ vf, State.get, State.rd_wr]
      exact congrArg clampLog2 size

theorem exec_vfAttach_bad {s : State} {v : Fin 4097} {pt : Fin 64} (b : BitVec 4) (n : BitVec 8) (z : BitVec 6)
    (bad : v.val = 0 ∨ s.bit (R.QEP_VFMAP v.val) F.QEP_VFMAP_ATTACHED = true ∨ s.bitAct (R.PTN_CFG pt.val) F.PTN_CFG_EN = false) :
    exec (.vfAttach v pt b n z) s = .next (s.setBit R.QEP_STATUS F.QEP_STATUS_BADCMD) := by
  refine if_pos ?_
  obtain zero | attached | off := bad
  · exact .inl zero
  · exact .inr (.inl attached)
  · exact .inr (.inr (.inl (by rw [off]; rfl)))

theorem exec_vfDetach_bad {s : State} {v : Fin 4097}
    (bad : v.val = 0 ∨ s.bit (R.QEP_VFMAP v.val) F.QEP_VFMAP_ATTACHED = false ∨ s.flrActive v.val = true) :
    exec (.vfDetach v) s = .next (s.setBit R.QEP_STATUS F.QEP_STATUS_BADCMD) := by
  refine if_pos ?_
  obtain zero | free | active := bad
  · exact .inl zero
  · exact .inr (.inl (by rw [free]; rfl))
  · exact .inr (.inr (.inr (.inl active)))

theorem exec_vfDetach_accepted {s : State} {v : Fin 4097} (vf : v.val ≠ 0) (attached : s.bit (R.QEP_VFMAP v.val) F.QEP_VFMAP_ATTACHED = true)
    (idle : s.flrActive v.val = false) (unowned : ∀ k, k < 4096 → s.qOwnerFn (16 * k) ≠ v.val)
    (last : s.get (R.QEP_VFMAP v.val) F.QEP_VFMAP_PT = s.mgmtPt ∨ s.vfPlace v.val ≠ (0, 0) ∨
      (s.vfsIn (s.get (R.QEP_VFMAP v.val) F.QEP_VFMAP_PT)).any (fun x => x != v.val) = false) :
    exec (.vfDetach v) s = .next (State.flrSource { s.setBit R.QEP_STATUS F.QEP_STATUS_CMD_BUSY with
      prt := { s.prt with detach := v.val :: s.prt.detach } } [v.val]) := by
  refine if_neg ?_
  rintro (zero | free | owns | active | ⟨away, first, others⟩)
  · exact vf zero
  · rw [attached] at free
    cases free
  · obtain ⟨k, hk, owner⟩ := List.any_eq_true.mp owns
    exact unowned k (List.mem_range.mp hk) (beq_iff_eq.mp owner)
  · rw [idle] at active
    cases active
  · obtain home | later | alone := last
    · exact away home
    · exact later first
    · rw [alone] at others
      cases others

/-! ### VF Enable (R251) and node ownership (R257, R258) -/

theorem exec_vfEnableSet_off {s : State} (off : (s.fn 0).vfEn = false) : ∃ t, exec .vfEnableSet s = .next t ∧
    t.fn 0 = { s.fn 0 with vfEn := true } ∧ ((s.fn 0).ari = true → t.regs = s.regs) ∧
    ((s.fn 0).ari = false → t.bit R.QEP_STATUS F.QEP_STATUS_ARI_ERR = true) := by
  have enabled := s.fn_setFn 0 { s.fn 0 with vfEn := true }
  have run : s.vfEnableSet = if (s.fn 0).ari = true then s.setFn 0 { s.fn 0 with vfEn := true }
      else (s.setFn 0 { s.fn 0 with vfEn := true }).setBit R.QEP_STATUS F.QEP_STATUS_ARI_ERR :=
    if_neg (by rw [off]; exact Bool.false_ne_true)
  refine ⟨_, rfl, ?_⟩
  rw [run]
  cases ari : (s.fn 0).ari with
  | true => exact ⟨enabled, fun _ => rfl, fun h => nomatch h⟩
  | false => exact ⟨enabled, (fun h => nomatch h), fun _ => State.bit_setBit _ R.QEP_STATUS F.QEP_STATUS_ARI_ERR (by decide) rfl⟩

theorem exec_vfEnableClear (s : State) : ∃ t, exec .vfEnableClear s = .next t ∧ (t.fn 0).vfEn = false :=
  ⟨_, rfl, congrArg FnCfg.vfEn (State.fn_setFn _ 0 _)⟩

theorem exec_nodeownWrite_ready {s : State} {n : Fin 18432} (f : BitVec 13) (ready : s.nodeReady n.val = true) :
    ∃ t, exec (.nodeownWrite n f) s = .next t ∧ t.get (R.QEP_NODEOWN n.val) F.QEP_NODEOWN_OWNER_FN = f.toNat ∧
      Only [R.QEP_NODEOWN n.val] s t :=
  have run : exec (.nodeownWrite n f) s = .next (s.put (R.QEP_NODEOWN n.val) F.QEP_NODEOWN_OWNER_FN f.toNat) :=
    congrArg Host.Outcome.next (if_pos ready)
  ⟨_, run, (State.get_put_same _ (R.QEP_NODEOWN n.val) F.QEP_NODEOWN_OWNER_FN _ (by decide)).trans (Nat.mod_eq_of_lt f.isLt),
    Only.put _ _ _ _ _ List.mem_cons_self⟩

end Sys2Proof.Machine
end

section
/-!
PROOFS. Configuration requests (R222, R235, R237, R241, R245, R255): what a completion leaves as it reads, and who answers a request.
-/
namespace Sys2Proof.Machine

/-! ### A completion leaves the configuration space as it reads (R22, R42) -/

/-- Registers of ports, partitions and functions: those below the crucible's. -/
def cfgSide (a : Nat) : Bool := decide (a < 0x1000000)

theorem cfgSide_of_lt {a : Nat} (h : a < 0x1000000) : cfgSide a = true := decide_eq_true h
theorem not_cfgSide {a : Nat} (h : 0x1000000 ≤ a) : cfgSide a = false := decide_eq_false (Nat.not_lt.mpr h)

/-- Registers of the crucible and above, none of them read by a configuration request. -/
abbrev RegRef.beyond (r : RegRef) : Prop := 0x1000000 ≤ r.addr

/-- Setting a key that is not kept leaves what is kept. -/
theorem SMap.keep_set {β : Type} [DecidableEq β] (m : SMap β) (d : β) {k : Nat} (v : β) {p : Nat → Bool} (out : p k = false) :
    SMap.keep (SMap.set m d k v) p = SMap.keep m p := by
  rw [SMap.keep, SMap.keep, ← List.filterMap_eq_filter]
  exact SMap.filterMap_set _ m d k v fun _ => by simp [Option.guard, out]

/-- A selection that passes over what is not kept is made of what is kept. -/
theorem SMap.filterMap_keep {β γ : Type} {f : Nat × β → Option γ} {p : Nat → Bool} (out : ∀ e, p e.1 = false → f e = none) (m : SMap β) :
    (SMap.keep m p).filterMap f = m.filterMap f := by
  rw [SMap.keep, List.filterMap_filter]
  refine List.filterMap_congr fun e _ => ?_
  cases kept : p e.1 with
  | true => rfl
  | false => exact (out e kept).symm

/-- `t` is `s` as far as a configuration request reads: registers of ports, partitions and functions, those in force, and the functions. -/
structure CfgKept (s t : State) : Prop where
  regs : SMap.keep t.regs cfgSide = SMap.keep s.regs cfgSide
  act : t.act = s.act
  fns : t.prt.fns = s.prt.fns

namespace CfgKept

theorem refl (s : State) : CfgKept s s := ⟨rfl, rfl, rfl⟩

variable {s t u : State}

theorem trans (h : CfgKept s t) (k : CfgKept t u) : CfgKept s u := ⟨k.regs.trans h.regs, k.act.trans h.act, k.fns.trans h.fns⟩

theorem wr (h : CfgKept s t) (r : RegRef) (v : Nat) (out : r.beyond) : CfgKept s (t.wr r v) :=
  h.trans ⟨SMap.keep_set _ _ _ (not_cfgSide out), rfl, rfl⟩

theorem put (h : CfgKept s t) (r : RegRef) (f : Fld) (v : Nat) (out : r.beyond) : CfgKept s (t.put r f v) := h.wr r _ out
theorem bump (h : CfgKept s t) (r : RegRef) (f : Fld) (n : Nat) (out : r.beyond) : CfgKept s (t.bump r f n) := h.wr r _ out

theorem event (h : CfgKept s t) (b : Nat) : CfgKept s (t.event b) :=
  have frame := t.event_frame b
  h.trans ⟨congrArg (SMap.keep · cfgSide) (congrArg State.regs frame :), (congrArg State.act frame :), (congrArg (fun x => x.prt.fns) frame :)⟩

theorem free (h : CfgKept s t) : CfgKept s t.free.2 := h.trans ⟨rfl, rfl, rfl⟩
theorem seen (h : CfgKept s t) (n : Nat) : CfgKept s { t with smpSeen := n } := h.trans ⟨rfl, rfl, rfl⟩
theorem sampled (h : CfgKept s t) (b : Nat × Nat) : CfgKept s { t with smpBeat := b } := h.trans ⟨rfl, rfl, rfl⟩
theorem cru (h : CfgKept s t) (c : Cru) : CfgKept s { t with cru := c } := h.trans ⟨rfl, rfl, rfl⟩

theorem ite {p : Prop} [Decidable p] (h : CfgKept s t) (k : CfgKept s u) : CfgKept s (if p then t else u) := by
  split
  · exact h
  · exact k

theorem foldl {α : Type} (g : State → α → State) (l : List α) (h : CfgKept s t) (step : ∀ u a, CfgKept u (g u a)) :
    CfgKept s (l.foldl g t) :=
  List.foldlRecOn (motive := CfgKept s) l g h fun u hu a _ => hu.trans (step u a)

end CfgKept

/-! Counting writes TAL and its sample buffer. -/

theorem State.sampleWrite_cfgKept (s : State) (e : Ev) : CfgKept s (s.sampleWrite e) := by
  have slot (r w : Nat) : (R.SMPBUF r w).beyond := Nat.le_add_right_of_le (Nat.le_add_right_of_le (by decide))
  unfold State.sampleWrite
  extract_lets here made before wr r
  split
  · exact (CfgKept.refl s).bump _ _ _ (by decide)
  have hmade : CfgKept s made := .ite (((CfgKept.refl s).put _ _ _ (by decide)).bump _ _ _ (by decide)) (.refl s)
  have hfree := hmade.free
  clear_value made before r
  split
  rename_i lat drawn drew
  rw [drew] at hfree
  extract_lets w0 w1 w2 w3 moved w th
  have record : CfgKept s w3 := (((hfree.wr _ _ (slot r 0)).wr _ _ (slot r 1)).wr _ _ (slot r 2)).wr _ _ (slot r 3)
  have hw : CfgKept s w := (record.put _ _ _ (by decide)).sampled (w3.now, here + 1)
  clear_value w
  exact .ite (hw.event 40) hw

theorem State.sample_cfgKept (s : State) (e : Ev) : CfgKept s (s.sample e) := by
  unfold State.sample
  split
  · extract_lets n
    have seen := (CfgKept.refl s).seen (n + 1)
    exact .ite (seen.trans (State.sampleWrite_cfgKept _ e)) seen
  · exact (CfgKept.refl s).put _ _ _ (by decide)

theorem State.tallyOne_cfgKept (s : State) (e : Ev) (i : Nat) : CfgKept s (State.tallyOne e s i) := by
  have counter : (R.TAL_CNT i).beyond := Nat.le_add_right_of_le (by decide)
  have wrap : (R.TAL_WRAP (i / 64)).beyond := Nat.le_add_right_of_le (by decide)
  have added : CfgKept s (s.tallyAdd i e.weight) := .ite (((CfgKept.refl s).wr _ _ counter).wr _ _ wrap) ((CfgKept.refl s).wr _ _ counter)
  unfold State.tallyOne
  exact .ite (.ite (added.trans (State.sample_cfgKept _ e)) added) (.refl s)

theorem State.tally_cfgKept (s : State) (e : Ev) : CfgKept s (s.tally e) :=
  .ite (.refl s) (.foldl _ _ (.refl s) fun t i => t.tallyOne_cfgKept e i)

/-! Admission writes the COQ's registers and cells. -/

theorem State.charge_cfgKept (s : State) (q n origin : Nat) : CfgKept s (s.charge q n origin) := by
  have coqstat : (R.CRU_COQSTAT q).beyond := Nat.le_add_right_of_le (by decide)
  have occupied : CfgKept s (s.setOcc q (s.occ q + n)) := .ite (((CfgKept.refl s).cru _).put _ _ _ coqstat) ((CfgKept.refl s).cru _)
  exact (occupied.free.cru _).trans (State.tally_cfgKept _ _)

theorem State.placeGobs_cfgKept (n : Nat) (s : State) (b : Nat) (prev : Option Nat) (data : List Byte) :
    CfgKept s (s.placeGobs b prev data n).2 := by
  have one {s t : State} {b : Nat} {prev : Option Nat} {c quad b' : Nat} (h : s.placeGob b prev = some (c, quad, b', t)) : t.act = s.act := by
    unfold State.placeGob State.free at h
    split at h
    · cases h
    · dsimp only at h
      split at h
      · cases h
      · obtain ⟨-, -, -, rfl⟩ := h
        rfl
  have act : (s.placeGobs b prev data n).2.act = s.act := by
    induction n generalizing s b prev data with
    | zero => rfl
    | succ n ih =>
      rw [State.placeGobs_succ]
      split
      · rfl
      · rename_i c quad b' t placed
        exact (ih _ _ _ _).trans ((State.store_act _ _ _).trans (one placed))
  exact ⟨congrArg (SMap.keep · cfgSide) (s.placeGobs_placed n b prev data).regs, act, congrArg Prt.fns (s.placeGobs_prt n b prev data)⟩

theorem State.admitPkt_cfgKept {s t : State} {p : Pkt} {q : Nat} (h : s.admitPkt p q = some t) : CfgKept s t := by
  unfold State.admitPkt at h
  split at h
  · obtain rfl := Option.some.inj h
    exact ((s.charge_cfgKept q p.gobs p.origin).trans (State.placeGobs_cfgKept _ _ _ _ _)).cru _
  · cases h

theorem State.sendEndpoint_cfgKept (s : State) (p : Pkt) (q : Nat) : CfgKept s (s.sendEndpoint p q) := by
  have coqdrop : (R.CRU_COQDROP q).beyond := Nat.le_add_right_of_le (by decide)
  have refused : CfgKept s (s.countRefusal p.origin) := s.tally_cfgKept _
  unfold State.sendEndpoint
  extract_lets waits
  split
  · rename_i t sent
    split at sent
    · cases sent
    · exact State.admitPkt_cfgKept sent
  · exact (CfgKept.ite refused (refused.bump _ _ _ coqdrop)).cru _

theorem State.peerRestore_cfgKept (s : State) (pt rid tag : Nat) (st : CplStatus) (n : Nat) :
    CfgKept s (s.peerRestore pt rid tag st n).2.2.2 := by
  unfold State.peerRestore
  split
  · exact .refl s
  · exact ⟨rfl, rfl, rfl⟩

theorem State.answer_cfgKept (s : State) (pt rid tag : Nat) (cls : Fin 8) (st : CplStatus) (data : List Byte) (origin : Nat) (role : Role) :
    CfgKept s (s.answer pt rid tag cls st data origin role) := by
  have restored := s.peerRestore_cfgKept pt rid tag st data.length
  unfold State.answer State.answerEp
  generalize s.peerRestore pt rid tag st data.length = back at restored ⊢
  obtain ⟨pt', rid', tag', u⟩ := back
  dsimp only at restored ⊢
  split
  · split
    · exact restored
    · exact (restored.cru _).trans (State.sendEndpoint_cfgKept _ _ _)
  · exact (restored.cru _).trans (State.sendEndpoint_cfgKept _ _ _)
  · exact restored

/-! What a configuration request reads is the same where `CfgKept` holds. -/

theorem vfmap_side {f : Nat} (hf : f < 4097) : (R.QEP_VFMAP f).addr < 0x1000000 := by
  simp only [R.QEP_VFMAP]
  omega

theorem port_side {p : Nat} (hp : p < 256) : (R.PRT_LINKCFG p).addr < 0x1000000 ∧ (R.PRT_LINKSTAT p).addr < 0x1000000 ∧
    (R.PRT_STATUS p).addr < 0x1000000 := by
  simp only [R.PRT_LINKCFG, R.PRT_LINKSTAT, R.PRT_STATUS]
  omega

theorem State.vfsIn_lt {s : State} {pt v : Nat} (hv : v ∈ s.vfsIn pt) : v < 4097 := by
  obtain ⟨e, -, he⟩ := List.mem_filterMap.mp hv
  split at he
  · rename_i place
    extract_lets i at he
    split at he
    · have same : i = v := Option.some.inj he
      omega
    · cases he
  · cases he

namespace CfgKept
variable {s t : State} (h : CfgKept s t)
include h

theorem rd_eq {r : RegRef} (side : r.addr < 0x1000000) : t.rd r = s.rd r := by
  have kept (u : State) : SMap.get u.regs 0 r.addr = SMap.get (SMap.keep u.regs cfgSide) 0 r.addr := by
    rw [SMap.get_keep, cfgSide_of_lt side, if_pos rfl]
  rw [State.rd, kept t, h.regs, ← kept s, State.rd]

theorem get_eq {r : RegRef} (side : r.addr < 0x1000000) (f : Fld) : t.get r f = s.get r f := by
  rw [State.get, h.rd_eq side, State.get]

theorem bit_eq {r : RegRef} (side : r.addr < 0x1000000) (f : Fld) : t.bit r f = s.bit r f := by
  rw [State.bit, h.get_eq side, State.bit]

theorem fn_eq (f : Nat) : t.fn f = s.fn f := by
  rw [State.fn, h.fns, State.fn]

theorem vfPlace_eq {f : Nat} (hf : f < 4097) : t.vfPlace f = s.vfPlace f := by
  rw [State.vfPlace, h.get_eq (vfmap_side hf), h.get_eq (vfmap_side hf), State.vfPlace]

theorem vfExists_eq (f : Nat) : t.vfExists f = s.vfExists f := by
  rw [State.vfExists, h.fn_eq, State.vfExists]

theorem isSriov_eq {f : Nat} (hf : f < 4097) : t.isSriov f = s.isSriov f := by
  have mgmt : t.mgmtPt = s.mgmtPt := h.get_eq (by decide) _
  rw [State.isSriov, State.fnPt, mgmt, h.vfExists_eq, h.bit_eq (vfmap_side hf), h.get_eq (vfmap_side hf), State.isSriov, State.fnPt]

theorem vfsIn_eq (pt : Nat) : t.vfsIn pt = s.vfsIn pt := by
  have low (e : Nat × Nat) (out : cfgSide e.1 = false) : (if 0xD10000 ≤ e.1 ∧ e.1 < 0xD10000 + 8 * 4097 ∧ (e.1 - 0xD10000) % 8 = 0 then
      let i := (e.1 - 0xD10000) / 8
      if (decide (0 < i) && fieldOf (Nat.xor e.2 0) 0 1 == 1 && fieldOf (Nat.xor e.2 0) 2 6 == pt) = true then some i else none
      else none) = none := by
    refine if_neg ?_
    have high : 0x1000000 ≤ e.1 := Nat.not_lt.mp (of_decide_eq_false out)
    omega
  rw [State.vfsIn, State.regIndices, ← SMap.filterMap_keep low, h.regs, SMap.filterMap_keep low, State.vfsIn, State.regIndices]

theorem upPort_eq (pt : Nat) : t.upPort pt = s.upPort pt := by
  simp only [State.upPort, State.portsOf, State.actIndices, h.act]

theorem nextFn_eq (pt : Nat) {f : Nat} (hf : f < 4097) : t.nextFn pt f = s.nextFn pt f := by
  unfold State.nextFn
  rw [h.vfPlace_eq hf, h.vfsIn_eq, funext h.vfExists_eq]
  dsimp only
  congr 1
  refine List.filterMap_congr fun v hv => ?_
  rw [h.vfPlace_eq (State.vfsIn_lt (List.mem_filter.mp hv).1)]

theorem split_eq {n : Nat} (hn : n < 64) : t.split n = s.split n := h.get_eq (by
  simp only [R.PRT_OCTCFG]
  omega) _

theorem confWidth_eq {p : Nat} (hp : p < 256) : t.confWidth p = s.confWidth p := by
  have octet : octetOf p < 64 := by
    rw [octetOf]
    omega
  have before : octetOf p - 1 < 64 := by omega
  rw [State.confWidth, State.octetTaken, h.split_eq octet, h.split_eq before, State.confWidth, State.octetTaken]

theorem linkCaps_eq {p : Nat} (hp : p < 256) (down : Bool) : t.linkCaps p down = s.linkCaps p down := by
  obtain ⟨linkcfg, -, -⟩ := port_side hp
  rw [State.linkCaps, State.maxSpeed, h.bit_eq linkcfg, h.get_eq linkcfg, h.confWidth_eq hp, State.linkCaps, State.maxSpeed]

theorem linkStat_eq {p : Nat} (hp : p < 256) (down : Bool) : t.linkStat p down = s.linkStat p down := by
  obtain ⟨-, linkstat, status⟩ := port_side hp
  rw [State.linkStat, h.get_eq linkstat, h.get_eq linkstat, h.bit_eq status, State.linkStat]

theorem cfgRead_eq (pt : Nat) {f : Nat} (hf : f < 4097) (off : Nat) : t.cfgRead pt f off = s.cfgRead pt f off := by
  have id (x : Fld) : t.get R.QEP_ID x = s.get R.QEP_ID x := h.get_eq (by decide) x
  have rom : t.bit R.QEP_ID F.QEP_ID_ROM_PRESENT = s.bit R.QEP_ID F.QEP_ID_ROM_PRESENT := h.bit_eq (by decide) _
  have serial : t.rd R.QEP_DSN = s.rd R.QEP_DSN := h.rd_eq (by decide)
  unfold State.cfgRead
  rw [h.fn_eq, h.isSriov_eq hf, h.vfPlace_eq hf, h.vfsIn_eq, h.nextFn_eq pt hf, h.upPort_eq, rom, serial]
  simp only [h.vfExists_eq, id]
  cases up : s.upPort pt with
  | none => rfl
  | some p =>
    have hp := State.upPort_lt up
    simp only [h.linkCaps_eq hp, h.linkStat_eq hp]

end CfgKept

theorem State.cfgRead_answer (s : State) (pt rid tag : Nat) (st : CplStatus) (data : List Byte) {f : Nat} (hf : f < 4097) (off : Nat) :
    (s.cfgReply pt rid tag st data).cfgRead pt f off = s.cfgRead pt f off := (s.answer_cfgKept _ _ _ _ _ _ _ _).cfgRead_eq pt hf off

/-! ### Writes with byte enables -/

/-- One byte of a write with byte enables. -/
theorem testBit_putByte (x v j i : Nat) (on : Bool) : (if on then putField x (8 * j) 8 (fieldOf v (8 * j) 8) else x).testBit i =
    if i / 8 = j ∧ on = true then v.testBit i else x.testBit i := by
  cases on with
  | false => simp
  | true =>
    rw [if_pos rfl, testBit_putField, testBit_fieldOf]
    by_cases inside : i / 8 = j
    · have place : 8 * j ≤ i ∧ i < 8 * j + 8 := by omega
      rw [if_pos place, if_pos ⟨inside, rfl⟩, decide_eq_true (by omega), Bool.true_and, Nat.add_sub_cancel' place.1]
    · rw [if_neg (by omega), if_neg (by simp [inside])]

/-- The bytes that are enabled come from the write, the others from the dword. -/
theorem testBit_mergeBytes (old v be n i : Nat) :
    ((List.range n).foldl (fun x j => if bitOf be j then putField x (8 * j) 8 (fieldOf v (8 * j) 8) else x) old).testBit i =
      if i / 8 < n ∧ bitOf be (i / 8) = true then v.testBit i else old.testBit i := by
  induction n with
  | zero => simp
  | succ n ih =>
    rw [List.range_succ, List.foldl_append, List.foldl_cons, List.foldl_nil, testBit_putByte, ih]
    by_cases last : i / 8 = n
    · subst last
      simp
    · have earlier : i / 8 < n + 1 ↔ i / 8 < n := by omega
      simp [last, earlier]

theorem bitOf_allBytes {j : Nat} (hj : j < 4) : bitOf 15 j = true := by
  have all : ∀ j : Fin 4, bitOf 15 j.val = true := by decide
  exact all ⟨j, hj⟩

/-- A write of all four bytes replaces the dword. -/
theorem merge32_whole {old v : Nat} (ho : old < 2 ^ 32) (hv : v < 2 ^ 32) : merge32 old v 15 = v := by
  refine Nat.eq_of_testBit_eq fun i => ?_
  rw [merge32, testBit_mergeBytes]
  by_cases low : i / 8 < 4
  · rw [if_pos ⟨low, bitOf_allBytes low⟩]
  · have high : 2 ^ 32 ≤ 2 ^ i := Nat.pow_le_pow_right (by decide) (by omega)
    rw [if_neg (fun both => low both.1), Nat.testBit_lt_two_pow (ho.trans_le high), Nat.testBit_lt_two_pow (hv.trans_le high)]

/-! ### Configuration requests (R222, R235, R237, R241, R245, R255) -/

section config
variable {s : State} {pt : Fin 64} {rid dest : BitVec 16} {tag : BitVec 10} {dw : Fin 1024} {w : Option (BitVec 32 × BitVec 4)}

theorem exec_configRequest_absentBridge {b : BridgeRef} (absent : s.bridgeExists pt.val b = false) :
    exec (.configRequest pt rid tag (.bridge b) dw w) s = .next (s.cfgReply pt.val rid.toNat tag.toNat .ur []) :=
  if_pos (by rw [absent]; rfl)

theorem exec_configRequest_bridgeRetry {b : BridgeRef} (there : s.bridgeExists pt.val b = true) (wait : s.cfgNotReady pt.val = true) :
    exec (.configRequest pt rid tag (.bridge b) dw w) s = .next (s.cfgReply pt.val rid.toNat tag.toNat .crs []) :=
  (if_neg (by rw [there]; decide)).trans (if_pos wait)

theorem exec_configRequest_bridge {b : BridgeRef} (there : s.bridgeExists pt.val b = true) (ready : s.cfgNotReady pt.val = false) :
    exec (.configRequest pt rid tag (.bridge b) dw w) s = .next (s.bridgeRequest pt.val rid.toNat tag.toNat b (4 * dw.val) w) :=
  (if_neg (by rw [there]; decide)).trans (if_neg (by rw [ready]; decide))

/-- A request whose ID names a bridge is a request to it. -/
theorem exec_configRequest_atBridge {b : BridgeRef} (named : s.bridgeAt pt.val dest.toNat = some b) :
    exec (.configRequest pt rid tag (.id dest) dw w) s = exec (.configRequest pt rid tag (.bridge b) dw w) s := by
  change execConfigRequest pt rid tag (.id dest) dw w s = execConfigRequest pt rid tag (.bridge b) dw w s
  unfold execConfigRequest
  dsimp only
  rw [named]

/-- What a function answers, and what a write does to it. -/
def State.fnRequest (s : State) (pt rid tag f off : Nat) : Option (BitVec 32 × BitVec 4) → State
  | none =>
    let e := s.openBits (s.cfgRead pt f off) (s.cfgOpen pt off)
    e.2.cfgReply pt rid tag .sc (leBytes e.1 4)
  | some (v, be) =>
    let u := s.cfgReply pt rid tag .sc []
    u.cfgWrite f off (merge32 (u.cfgRead pt f off) v.toNat be.toNat) (merge32 0 v.toNat be.toNat)

/-- A completion leaves the dword that a write changes as it was. -/
theorem State.fnRequest_write (s : State) (pt rid tag : Nat) {f : Nat} (hf : f < 4097) (off : Nat) (v : BitVec 32) (be : BitVec 4) :
    s.fnRequest pt rid tag f off (some (v, be)) = (s.cfgReply pt rid tag .sc []).cfgWrite f off
      (merge32 (s.cfgRead pt f off) v.toNat be.toNat) (merge32 0 v.toNat be.toNat) := by
  rw [State.fnRequest, s.cfgRead_answer pt rid tag .sc [] hf]

section function
variable (unnamed : s.bridgeAt pt.val dest.toNat = none)
include unnamed

/-- A request whose ID names no bridge goes to the function at that ID. -/
theorem exec_configRequest_unnamed : exec (.configRequest pt rid tag (.id dest) dw w) s =
    if s.cfgNotReady pt.val = true then .next (s.cfgReply pt.val rid.toNat tag.toNat .crs [])
    else (s.fnAt pt.val dest.toNat).elim (.next (s.cfgReply pt.val rid.toNat tag.toNat .ur [])) fun f =>
      if s.flrActive f = true then .next (s.cfgReply pt.val rid.toNat tag.toNat .crs [])
      else .next (s.fnRequest pt.val rid.toNat tag.toNat f (4 * dw.val) w) := by
  change execConfigRequest pt rid tag (.id dest) dw w s = _
  unfold execConfigRequest
  dsimp only
  rw [unnamed]
  dsimp only
  cases s.fnAt pt.val dest.toNat with
  | none => rfl
  | some f => cases w <;> rfl

theorem exec_configRequest_retry (wait : s.cfgNotReady pt.val = true) :
    exec (.configRequest pt rid tag (.id dest) dw w) s = .next (s.cfgReply pt.val rid.toNat tag.toNat .crs []) := by
  rw [exec_configRequest_unnamed unnamed, if_pos wait]

variable (ready : s.cfgNotReady pt.val = false)
include ready

theorem exec_configRequest_nobody (nobody : s.fnAt pt.val dest.toNat = none) :
    exec (.configRequest pt rid tag (.id dest) dw w) s = .next (s.cfgReply pt.val rid.toNat tag.toNat .ur []) := by
  rw [exec_configRequest_unnamed unnamed, ready, if_neg Bool.false_ne_true, nobody]
  rfl

variable {f : Nat} (named : s.fnAt pt.val dest.toNat = some f)
include named

theorem exec_configRequest_inFlr (active : s.flrActive f = true) :
    exec (.configRequest pt rid tag (.id dest) dw w) s = .next (s.cfgReply pt.val rid.toNat tag.toNat .crs []) := by
  rw [exec_configRequest_unnamed unnamed, ready, if_neg Bool.false_ne_true, named]
  exact if_pos active

variable (idle : s.flrActive f = false)
include idle

theorem exec_configRequest_function : exec (.configRequest pt rid tag (.id dest) dw w) s =
    .next (s.fnRequest pt.val rid.toNat tag.toNat f (4 * dw.val) w) := by
  rw [exec_configRequest_unnamed unnamed, ready, if_neg Bool.false_ne_true, named]
  exact if_neg (by rw [idle]; exact Bool.false_ne_true)

theorem exec_configRequest_write (v : BitVec 32) (be : BitVec 4) :
    exec (.configRequest pt rid tag (.id dest) dw (some (v, be))) s = .next ((s.cfgReply pt.val rid.toNat tag.toNat .sc []).cfgWrite f
      (4 * dw.val) (merge32 (s.cfgRead pt.val f (4 * dw.val)) v.toNat be.toNat) (merge32 0 v.toNat be.toNat)) := by
  have hf : f < 4097 := List.mem_range.mp (List.mem_filter.mp (List.mem_of_find?_eq_some named)).1
  rw [exec_configRequest_function unnamed ready named idle, State.fnRequest_write _ _ _ _ hf]

/-- A read answers with the dword; the bits that the manual leaves open are free values. -/
theorem exec_configRequest_read (e : Nat × State) (he : e = s.openBits (s.cfgRead pt.val f (4 * dw.val)) (s.cfgOpen pt.val (4 * dw.val))) :
    exec (.configRequest pt rid tag (.id dest) dw none) s = .next (e.2.cfgReply pt.val rid.toNat tag.toNat .sc (leBytes e.1 4)) := by
  rw [exec_configRequest_function unnamed ready named idle, he, State.fnRequest]

end function

end config

/-! ### Identification of bridges and functions (R222, R241) -/

theorem State.bridgeRead_id (s : State) (pt : Nat) (b : BridgeRef) : (s.bridgeRead pt b 0).1 = 0xF3C5 + bridgeId b * 2 ^ 16 := by
  have kept : Nat.land (s.bridgeRaw pt b 0) (bridgeRw b 0) = 0 := Nat.and_zero _
  have read : (s.bridgeRead pt b 0).1 = 0xF3C5 + bridgeId b * 2 ^ 16 + Nat.land (s.bridgeRaw pt b 0) (bridgeRw b 0) := rfl
  rw [read, kept, Nat.add_zero]

theorem State.cfgRead_pfId (s : State) (pt : Nat) : s.cfgRead pt 0 0 = 0x5120F3C5 := rfl

/-! ### The obligation -/

/-- Settles O50, clause by clause: how a function-level reset begins and what its end leaves, ATTACH and DETACH, VF Enable, node ownership,
and the answers of bridges and functions to configuration requests. -/
theorem functionsAreResetAttachedAndConfigured : Obligations.FunctionsAreResetAttachedAndConfigured := by
  unfold Obligations.FunctionsAreResetAttachedAndConfigured
  refine ⟨?resets, ?attachment, ?enable, ?ownership, ?requests⟩
  case resets =>
    intro s f
    refine ⟨fun active => congrArg Host.Outcome.next (if_pos active), fun idle quench => ?_, fun idle calm wide => ?_,
      fun idle calm narrow => ?_, exec_flrInitiate_noQueues, fun idle => congrArg Host.Outcome.next (if_pos (by rw [idle]; rfl)), exec_flrEnd⟩
    · rw [exec_flrInitiate idle, State.flrSource, State.narrowSource_quench _ _ _ quench]
    · rw [exec_flrInitiate idle, State.flrSource, State.narrowSource_widened _ _ _ calm wide]
    · rw [exec_flrInitiate idle, State.flrSource_narrow calm narrow]
  case attachment =>
    exact fun s v pt b n z => ⟨exec_vfAttach_bad b n z, exec_vfAttach_accepted, exec_vfDetach_bad, exec_vfDetach_accepted⟩
  case enable =>
    exact fun s => ⟨fun on => congrArg Host.Outcome.next (if_pos on), exec_vfEnableSet_off, exec_vfEnableClear s⟩
  case ownership =>
    intro s n f
    refine ⟨exec_nodeownWrite_ready f, fun busy => congrArg Host.Outcome.next (if_neg ?_)⟩
    rw [busy]
    exact Bool.false_ne_true
  case requests =>
    intro s pt rid dest tag dw ans hans
    subst hans
    refine ⟨fun unnamed => ⟨fun wait w => exec_configRequest_retry unnamed wait, fun ready =>
        ⟨fun nobody w => exec_configRequest_nobody unnamed ready nobody, fun f named =>
          ⟨fun active w => exec_configRequest_inFlr unnamed ready named active, fun idle => ?function⟩⟩⟩,
      fun b named w => exec_configRequest_atBridge named, fun b w => ⟨exec_configRequest_absentBridge, exec_configRequest_bridgeRetry⟩,
      fun b there ready => exec_configRequest_bridge there ready,
      s.bridgeRead_id pt.val .up, s.bridgeRead_id pt.val .ep, s.cfgRead_pfId pt.val⟩
    case function =>
      refine ⟨fun fixed => exec_configRequest_read unnamed ready named idle (s.cfgRead pt.val f (4 * dw.val), s) ?_,
        exec_configRequest_read unnamed ready named idle, fun fits v => ?_, exec_configRequest_write unnamed ready named idle⟩
      · rw [State.openBits, if_pos fixed]
      · have whole := exec_configRequest_write unnamed ready named idle (rid := rid) (tag := tag) (dw := dw) v 15#4
        rwa [show (15#4).toNat = 15 from rfl, merge32_whole fits v.isLt, merge32_whole (by decide) v.isLt] at whole

end Sys2Proof.Machine
end

section
/-!
PROOFS. Power of lanes (R270 to R272). What a request and the end of an exit do to a direction of a lane, and that they touch only the lane's
LNE_STAT and what the lanes hold beside their registers; so who owns a lane, and whether it can only be OFF, stays as it was.
-/
namespace Sys2Proof.Machine

/-! ### Only lanes -/

/-- `t` is `s` but for registers of the list and what the lanes hold beside their registers. -/
abbrev LaneOnly (rs : List RegRef) (s t : State) : Prop := Only rs { s with lnk := t.lnk } t

theorem LaneOnly.refl (rs : List RegRef) (s : State) : LaneOnly rs s s := ⟨rfl, fun _ _ => rfl⟩

theorem Only.lane {rs : List RegRef} {s t : State} (h : Only rs s t) : LaneOnly rs s t := by
  have lnk : t.lnk = s.lnk := (congrArg State.lnk h.1 :)
  rw [LaneOnly, lnk]
  exact h

theorem LaneOnly.trans {rs : List RegRef} {s t u : State} (h : LaneOnly rs s t) (k : LaneOnly rs t u) : LaneOnly rs s u :=
  ⟨(congrArg (fun x : State => { x with regs := s.regs }) k.1).trans (congrArg (fun x : State => { x with lnk := u.lnk }) h.1),
    fun r apart => (k.2 r apart).trans (h.2 r apart)⟩

/-- One change after another touches the registers of both. -/
theorem LaneOnly.append {rs rs' : List RegRef} {s t u : State} (h : LaneOnly rs s t) (k : LaneOnly rs' t u) : LaneOnly (rs ++ rs') s u :=
  LaneOnly.trans (h.mono fun _ => List.mem_append_left _) (k.mono fun _ => List.mem_append_right _)

theorem LaneOnly.put (s : State) {rs : List RegRef} {r : RegRef} (f : Fld) (v : Nat) (h : r ∈ rs) : LaneOnly rs s (s.put r f v) :=
  (Only.put s rs r f v h).lane

theorem LaneOnly.wr (s : State) {rs : List RegRef} {r : RegRef} (v : Nat) (h : r ∈ rs) : LaneOnly rs s (s.wr r v) :=
  (Only.wr s rs r v h).lane

theorem LaneOnly.rd_eq {rs : List RegRef} {s t : State} (h : LaneOnly rs s t) {r : RegRef} (apart : ∀ x ∈ rs, r.addr ≠ x.addr) :
    t.rd r = s.rd r := h.2 r apart

theorem LaneOnly.reported {rs : List RegRef} {s t : State} (h : LaneOnly rs s t) (c k i o d a : Nat) :
    Only rs { s with lnk := t.lnk, reports := (t.report c k i o d a).reports } (t.report c k i o d a) :=
  ⟨(congrArg (fun x : State => { x with reports := (t.report c k i o d a).reports }) h.1 :), h.2⟩

theorem State.setExit_laneOnly (rs : List RegRef) (s : State) (l : Nat) (tx : Bool) (v : Nat) : LaneOnly rs s (s.setExit l tx v) :=
  ⟨rfl, fun _ _ => rfl⟩
theorem State.setAdapted_laneOnly (rs : List RegRef) (s : State) (l : Nat) (b : Bool) : LaneOnly rs s (s.setAdapted l b) :=
  ⟨rfl, fun _ _ => rfl⟩
theorem State.setSlicer_laneOnly (rs : List RegRef) (s : State) (l v : Nat) : LaneOnly rs s (s.setSlicer l v) :=
  ⟨rfl, fun _ _ => rfl⟩

/-! ### Registers of lanes -/

/-- A register of the octets and their lanes that chooses no lane: any but LNE_OCTCTL, which names the port of the spare. -/
def RegRef.ofLanes (r : RegRef) : Prop := 0x400000 ≤ r.addr ∧ r.addr < 0x510000 ∧ r.addr % 16384 ≠ 0

theorem laneReg_eq (r : Nat → Nat → RegRef) (n : Nat) {i : Nat} (hi : i < 9) : laneReg r (9 * n + i) = r n i := by
  rw [laneReg, Nat.mul_add_div (by decide), Nat.div_eq_of_lt hi, Nat.add_zero, Nat.mul_add_mod, Nat.mod_eq_of_lt hi]

theorem laneStat_ofLanes {l : Nat} (h : l < 585) : (laneReg R.LNE_STAT l).ofLanes := by
  simp only [RegRef.ofLanes, laneReg, R.LNE_STAT]
  omega

/-- Two lanes have two LNE_STAT. -/
theorem laneStat_ne {l k : Nat} (h : l ≠ k) : (laneReg R.LNE_STAT l).addr ≠ (laneReg R.LNE_STAT k).addr := by
  simp only [laneReg, R.LNE_STAT]
  omega

/-- `t` is `s` but for registers of lanes and what the lanes hold beside them. -/
structure LanesOnly (s t : State) : Prop where
  frame : { t with regs := s.regs, lnk := s.lnk } = s
  rd_eq : ∀ {r : RegRef}, ¬ r.ofLanes → t.rd r = s.rd r

theorem LaneOnly.lanes {rs : List RegRef} {s t : State} (h : LaneOnly rs s t) (lanes : ∀ r ∈ rs, r.ofLanes) : LanesOnly s t where
  frame := (congrArg (fun x : State => { x with lnk := s.lnk }) h.1 :)
  rd_eq := fun {_} out => h.rd_eq fun x hx same => out (by
    have place := lanes x hx
    rwa [RegRef.ofLanes, ← same] at place)

namespace LanesOnly

theorem trans {s t u : State} (h : LanesOnly s t) (k : LanesOnly t u) : LanesOnly s u where
  frame := (congrArg (fun x : State => { x with regs := s.regs, lnk := s.lnk }) k.frame :).trans h.frame
  rd_eq := fun out => (k.rd_eq out).trans (h.rd_eq out)

variable {s t : State} (h : LanesOnly s t)
include h

theorem rd_octcfg (n : Nat) : t.rd (R.PRT_OCTCFG n) = s.rd (R.PRT_OCTCFG n) := h.rd_eq (by
  simp only [RegRef.ofLanes, R.PRT_OCTCFG]
  omega)

theorem rd_octctl (n : Nat) : t.rd (R.LNE_OCTCTL n) = s.rd (R.LNE_OCTCTL n) := h.rd_eq (by
  simp only [RegRef.ofLanes, R.LNE_OCTCTL]
  omega)

theorem rd_portCtl (p : Nat) : t.rd (R.PRT_CTL p) = s.rd (R.PRT_CTL p) := h.rd_eq (by
  simp only [RegRef.ofLanes, R.PRT_CTL]
  omega)

theorem rd_linkstat (p : Nat) : t.rd (R.PRT_LINKSTAT p) = s.rd (R.PRT_LINKSTAT p) := h.rd_eq (by
  simp only [RegRef.ofLanes, R.PRT_LINKSTAT]
  omega)

theorem split_eq (n : Nat) : t.split n = s.split n := State.get_congr (h.rd_octcfg n) _

theorem octetTaken_eq (n : Nat) : t.octetTaken n = s.octetTaken n := by
  rw [State.octetTaken, h.split_eq, State.octetTaken]

theorem portUsed_eq (p : Nat) : t.portUsed p = s.portUsed p := by
  rw [State.portUsed, h.octetTaken_eq, h.split_eq, State.portUsed]

theorem confWidth_eq (p : Nat) : t.confWidth p = s.confWidth p := by
  rw [State.confWidth, h.octetTaken_eq, h.split_eq, State.confWidth]

theorem portLanes_eq (p : Nat) : t.portLanes p = s.portLanes p := by
  rw [State.portLanes, h.confWidth_eq, State.portLanes]

theorem laneOwner_eq (l : Nat) : t.laneOwner l = s.laneOwner l := by
  have port (n : Nat) := State.get_congr (h.rd_octctl n) F.LNE_OCTCTL_SPARE_PORT
  have lanes : (fun p => (t.portLanes p).contains l) = fun p => (s.portLanes p).contains l := funext fun p => by rw [h.portLanes_eq]
  rw [State.laneOwner, State.laneOwner, h.octetTaken_eq]
  dsimp only
  rw [h.split_eq, port, h.portUsed_eq, lanes]

theorem caneMode_eq (p : Nat) : t.caneMode p = s.caneMode p := by
  rw [State.caneMode, State.bit, State.get, h.rd_octcfg]
  rfl

theorem linkState_eq (p : Nat) : t.linkState p = s.linkState p := by
  rw [State.linkState, State.get_congr (h.rd_linkstat p), h.caneMode_eq, State.linkState]

theorem pam4_eq (p : Nat) : t.pam4 p = s.pam4 p := by
  rw [State.pam4, State.get_congr (h.rd_linkstat p), h.caneMode_eq, State.pam4]

theorem logicalOf_eq (p n m : Nat) : t.logicalOf p n m = s.logicalOf p n m := by
  rw [State.logicalOf, h.confWidth_eq, State.logicalOf]

theorem unusedLane_eq (l : Nat) : t.unusedLane l = s.unusedLane l := by
  simp only [State.unusedLane, State.bit, State.get, h.laneOwner_eq, h.caneMode_eq, h.rd_portCtl]

theorem laneOff_eq (l : Nat) : t.laneOff l = s.laneOff l := by
  have rst : t.rst = s.rst := (congrArg State.rst h.frame :)
  have domain : t.rd R.RST_DOMAIN = s.rd R.RST_DOMAIN := h.rd_eq (by simp [RegRef.ofLanes, R.RST_DOMAIN])
  have shed : t.rd R.PWR_SHEDSTAT = s.rd R.PWR_SHEDSTAT := h.rd_eq (by simp [RegRef.ofLanes, R.PWR_SHEDSTAT])
  simp only [State.laneOff, State.blockReset, State.get, h.unusedLane_eq, rst, domain, shed]

end LanesOnly

/-! ### A direction enters a power state -/

@[simp] theorem State.rd_setSlicer (s : State) (l v : Nat) (r : RegRef) : (s.setSlicer l v).rd r = s.rd r := rfl
@[simp] theorem State.bit_setSlicer (s : State) (l v : Nat) (r : RegRef) (f : Fld) : (s.setSlicer l v).bit r f = s.bit r f := rfl

@[simp] theorem State.exitOf_setExit (s : State) (l : Nat) (tx : Bool) (v : Nat) : (s.setExit l tx v).exitOf l tx = v :=
  SMap.get_set_same _ _ _ _

theorem State.exitOf_setExit_other (s : State) {l k : Nat} (tx ux : Bool) (v : Nat) (h : k ≠ l) :
    (s.setExit l tx v).exitOf k ux = s.exitOf k ux := SMap.get_set_other _ _ _ _ _ (by
  have small (b : Bool) : bit01 b < 2 := by cases b <;> decide
  have := small tx
  have := small ux
  omega)

@[simp] theorem State.adapted_setAdapted (s : State) (l : Nat) (b : Bool) : (s.setAdapted l b).adapted l = b := by
  rw [State.adapted, State.setAdapted, SMap.get_set_same]
  cases b <;> rfl

/-- The field of LNE_STAT that shows the power state of a direction. -/
def pwrField (tx : Bool) : Fld := if tx then F.LNE_STAT_TX_PWR else F.LNE_STAT_RX_PWR

theorem pwrField_fits (tx : Bool) : (pwrField tx).lo + (pwrField tx).w ≤ 64 ∧ (pwrField tx).w = 2 ∧
    F.LNE_STAT_LOCK.lo + F.LNE_STAT_LOCK.w ≤ 64 ∧ (pwrField tx).lo + (pwrField tx).w ≤ F.LNE_STAT_LOCK.lo := by
  cases tx <;> decide

theorem State.pwr_eq (s : State) (l : Nat) (tx : Bool) : s.pwr l tx = s.get (laneReg R.LNE_STAT l) (pwrField tx) := rfl

section setPwr
variable (s : State) (l : Nat) (tx : Bool) (v : Nat)

/-- A receiver below STANDBY loses its lock, and below SLEEP its equaliser state. -/
theorem State.setPwr_low (low : PWR.SLEEP ≤ v) (stays : s.laneOff l = false ∨ v = PWR.OFF) : s.setPwr l false v =
    let u := (s.put (laneReg R.LNE_STAT l) (pwrField false) v).put (laneReg R.LNE_STAT l) F.LNE_STAT_LOCK 0
    if v = PWR.OFF then u.setAdapted l false else u := by
  have same : (if s.laneOff l = true then PWR.OFF else v) = v := by
    obtain on | rfl := stays
    · rw [on]
      rfl
    · exact ite_self _
  have long : ¬ ((false || decide (v < PWR.SLEEP)) = true) := by simpa using low
  rw [State.setPwr]
  dsimp only
  rw [same, if_neg long]
  rfl

theorem State.setPwr_laneOnly : LaneOnly [laneReg R.LNE_STAT l] s (s.setPwr l tx v) := by
  rw [State.setPwr]
  generalize (if s.laneOff l = true then PWR.OFF else v) = w
  have power (f : Fld) := LaneOnly.put s (rs := [laneReg R.LNE_STAT l]) f w List.mem_cons_self
  have lock := (power (if tx = true then F.LNE_STAT_TX_PWR else F.LNE_STAT_RX_PWR)).trans
    (LaneOnly.put _ (r := laneReg R.LNE_STAT l) F.LNE_STAT_LOCK 0 List.mem_cons_self)
  dsimp only
  split
  · exact power _
  · split
    · exact lock.trans (State.setAdapted_laneOnly _ _ _ _)
    · exact lock

@[simp] theorem State.exitOf_setPwr (k : Nat) (ux : Bool) : (s.setPwr l tx v).exitOf k ux = s.exitOf k ux := by
  rw [State.setPwr]
  generalize (if s.laneOff l = true then PWR.OFF else v) = w
  dsimp only
  split
  · rfl
  · split <;> rfl

/-- The direction shows the state it has entered, or OFF where the lane can only be OFF. -/
theorem State.pwr_setPwr : (s.setPwr l tx v).pwr l tx = (if s.laneOff l = true then PWR.OFF else v) % 4 := by
  obtain ⟨fits, two, lockFits, below⟩ := pwrField_fits tx
  have power (w : Nat) : (s.put (laneReg R.LNE_STAT l) (pwrField tx) w).get (laneReg R.LNE_STAT l) (pwrField tx) = w % 4 := by
    rw [State.get_put_same _ _ _ _ fits, two]
    rfl
  rw [State.setPwr]
  generalize (if s.laneOff l = true then PWR.OFF else v) = w
  dsimp only
  rw [← pwrField]
  have lock : (((s.put (laneReg R.LNE_STAT l) (pwrField tx) w).put (laneReg R.LNE_STAT l) F.LNE_STAT_LOCK 0)).pwr l tx = w % 4 := by
    rw [State.pwr_eq, State.get_put_field _ _ _ _ _ fits (.inr below), power]
  split
  · exact power w
  · split
    · exact lock
    · exact lock

variable {s l tx v}

theorem State.pwr_setPwr_on (on : s.laneOff l = false) (small : v < 4) : (s.setPwr l tx v).pwr l tx = v := by
  rw [State.pwr_setPwr, on, if_neg Bool.false_ne_true, Nat.mod_eq_of_lt small]

theorem State.pwr_setPwr_of_off (off : s.laneOff l = true) : (s.setPwr l tx v).pwr l tx = PWR.OFF := by
  rw [State.pwr_setPwr, off, if_pos rfl]
  rfl

theorem State.setPwr_unlocks (on : s.laneOff l = false) (rx : tx = false) (low : PWR.SLEEP ≤ v) :
    (s.setPwr l tx v).bit (laneReg R.LNE_STAT l) F.LNE_STAT_LOCK = false := by
  rw [rx, State.setPwr_low _ _ _ low (.inl on)]
  dsimp only
  split
  · exact State.bit_put_zero _ _ _ (by decide) rfl
  · exact State.bit_put_zero _ _ _ (by decide) rfl

theorem State.setPwr_forgets (rx : tx = false) (off : v = PWR.OFF) : (s.setPwr l tx v).adapted l = false := by
  rw [rx, State.setPwr_low _ _ _ (by rw [off]; decide) (.inr off)]
  dsimp only
  rw [if_pos off, State.adapted_setAdapted]

end setPwr

/-! ### Requests and the end of an exit -/

section askPwr
variable {s : State} {l : Nat} {tx : Bool} {v : Nat}

theorem State.askPwr_off (off : s.laneOff l = true) : s.askPwr l tx v = (s.setExit l tx 0).setPwr l tx PWR.OFF := if_pos off

section on
variable (on : s.laneOff l = false)
include on

theorem State.askPwr_leave (asleep : s.pwr l tx ≠ PWR.ACTIVE) : s.askPwr l tx PWR.ACTIVE = s.setExit l tx 1 := by
  rw [State.askPwr, on, if_neg Bool.false_ne_true, if_pos rfl, if_neg asleep]

theorem State.askPwr_awake (awake : s.pwr l tx = PWR.ACTIVE) : s.askPwr l tx PWR.ACTIVE = s := by
  rw [State.askPwr, on, if_neg Bool.false_ne_true, if_pos rfl, if_pos awake]

theorem State.askPwr_waits (enter : v ≠ PWR.ACTIVE) (wait : s.exitOf l tx ≠ 0 ∨ (s.pwr l tx = PWR.OFF ∧ v ≠ PWR.OFF)) :
    s.askPwr l tx v = s.setExit l tx (v + 2) := by
  rw [State.askPwr, on, if_neg Bool.false_ne_true, if_neg enter, if_pos wait]

theorem State.askPwr_enter (enter : v ≠ PWR.ACTIVE) (idle : s.exitOf l tx = 0) (free : s.pwr l tx ≠ PWR.OFF ∨ v = PWR.OFF) :
    s.askPwr l tx v = s.setPwr l tx v := by
  have go : ¬ (s.exitOf l tx ≠ 0 ∨ (s.pwr l tx = PWR.OFF ∧ v ≠ PWR.OFF)) := by tauto
  rw [State.askPwr, on, if_neg Bool.false_ne_true, if_neg enter, if_neg go]

end on

theorem State.exitDone_leaves (leave : s.exitOf l tx = 1) : s.exitDone l tx = (s.setExit l tx 0).setPwr l tx PWR.ACTIVE := by
  rw [State.exitDone, leave, if_neg (by decide)]
  exact if_neg (by decide)

theorem State.exitDone_enters (wait : s.exitOf l tx = v + 2) :
    s.exitDone l tx = ((s.setExit l tx 0).setPwr l tx PWR.ACTIVE).setPwr l tx v := by
  rw [State.exitDone, wait, if_neg (by omega)]
  exact if_pos (by omega)

theorem State.exitDone_idle (idle : s.exitOf l tx = 0) : s.exitDone l tx = s := if_pos idle

variable (s l tx v)

theorem State.askPwr_laneOnly : LaneOnly [laneReg R.LNE_STAT l] s (s.askPwr l tx v) := by
  rw [State.askPwr]
  split
  · exact (State.setExit_laneOnly _ _ _ _ _).trans (State.setPwr_laneOnly _ _ _ _)
  · split
    · split
      · exact LaneOnly.refl _ _
      · exact State.setExit_laneOnly _ _ _ _ _
    · split
      · exact State.setExit_laneOnly _ _ _ _ _
      · exact State.setPwr_laneOnly _ _ _ _

theorem State.exitDone_laneOnly : LaneOnly [laneReg R.LNE_STAT l] s (s.exitDone l tx) := by
  rw [State.exitDone]
  dsimp only
  have active := (State.setExit_laneOnly [laneReg R.LNE_STAT l] s l tx 0).trans (State.setPwr_laneOnly _ l tx PWR.ACTIVE)
  split
  · exact LaneOnly.refl _ _
  · split
    · exact active.trans (State.setPwr_laneOnly _ _ _ _)
    · exact active

/-- A request to another lane leaves the exits of this one. -/
theorem State.exitOf_askPwr_other {k : Nat} (h : k ≠ l) (ux : Bool) : (s.askPwr l tx v).exitOf k ux = s.exitOf k ux := by
  rw [State.askPwr]
  split
  · rw [State.exitOf_setPwr, State.exitOf_setExit_other _ _ _ _ h]
  · split
    · split
      · rfl
      · exact State.exitOf_setExit_other _ _ _ _ h
    · split
      · exact State.exitOf_setExit_other _ _ _ _ h
      · exact State.exitOf_setPwr _ _ _ _ _ _

end askPwr

/-! ### LANE_POWER_REQUEST and LANE_POWER_EXIT_DONE -/

section power
variable (s : State) (n : Fin 64) (i : Fin 9) (tx : Bool)

theorem exec_lanePowerRequest_leave (e : Option (Fin 4)) :
    exec (.lanePowerRequest n i tx true e) s = .next (s.askPwr (9 * n.val + i.val) tx PWR.ACTIVE) := rfl

theorem exec_lanePowerRequest_enter (v : Fin 4) :
    exec (.lanePowerRequest n i tx false (some v)) s = .next (s.askPwr (9 * n.val + i.val) tx v.val) := rfl

theorem exec_lanePowerExitDone : exec (.lanePowerExitDone n i tx) s = .next (s.exitDone (9 * n.val + i.val) tx) := rfl

variable {s n i tx} {l : Nat} (hl : l = 9 * n.val + i.val)
include hl

theorem laneStat_eq : R.LNE_STAT n.val i.val = laneReg R.LNE_STAT l := by
  rw [hl, laneReg_eq _ _ i.isLt]

theorem laneStat_lanes : ∀ r ∈ [laneReg R.LNE_STAT l], r.ofLanes := by
  have := n.isLt
  have := i.isLt
  simpa using laneStat_ofLanes (show l < 585 by omega)

theorem lanePower_enters (on : s.laneOff l = false) (idle : s.exitOf l tx = 0) {v : Fin 4} (enter : v.val ≠ PWR.ACTIVE)
    (free : s.pwr l tx ≠ PWR.OFF ∨ v.val = PWR.OFF) : ∃ t, exec (.lanePowerRequest n i tx false (some v)) s = .next t ∧
      t.pwr l tx = v.val ∧ (tx = false → 2 ≤ v.val → t.bit (R.LNE_STAT n.val i.val) F.LNE_STAT_LOCK = false) ∧
      (tx = false → v.val = 3 → t.adapted l = false) ∧ LaneOnly [R.LNE_STAT n.val i.val] s t := by
  rw [exec_lanePowerRequest_enter, laneStat_eq hl, ← hl, State.askPwr_enter on enter idle free]
  exact ⟨_, rfl, State.pwr_setPwr_on on v.isLt, State.setPwr_unlocks on, State.setPwr_forgets, State.setPwr_laneOnly _ _ _ _⟩

theorem lanePower_exits (on : s.laneOff l = false) (leave : s.exitOf l tx = 1) : ∃ t, exec (.lanePowerExitDone n i tx) s = .next t ∧
    t.pwr l tx = PWR.ACTIVE ∧ t.exitOf l tx = 0 ∧ LaneOnly [R.LNE_STAT n.val i.val] s t := by
  rw [exec_lanePowerExitDone, laneStat_eq hl, ← hl]
  refine ⟨_, rfl, ?_, ?_, State.exitDone_laneOnly _ _ _⟩
  · rw [State.exitDone_leaves leave]
    exact State.pwr_setPwr_on on (by decide)
  · rw [State.exitDone_leaves leave, State.exitOf_setPwr, State.exitOf_setExit]

theorem lanePower_exits_to (on : s.laneOff l = false) {v : Nat} (small : v < 4) (wait : s.exitOf l tx = v + 2) :
    ∃ t, exec (.lanePowerExitDone n i tx) s = .next t ∧ t.pwr l tx = v ∧ t.exitOf l tx = 0 ∧
      LaneOnly [R.LNE_STAT n.val i.val] s t := by
  have active := (State.setPwr_laneOnly (s.setExit l tx 0) l tx PWR.ACTIVE).lanes (laneStat_lanes hl)
  rw [exec_lanePowerExitDone, laneStat_eq hl, ← hl]
  refine ⟨_, rfl, ?_, ?_, State.exitDone_laneOnly _ _ _⟩
  · rw [State.exitDone_enters wait]
    exact State.pwr_setPwr_on ((active.laneOff_eq l).trans on) small
  · rw [State.exitDone_enters wait, State.exitOf_setPwr, State.exitOf_setPwr, State.exitOf_setExit]

theorem lanePower_stays_off (off : s.laneOff l = true) (leave : Bool) (e : Option (Fin 4)) (asked : leave = true ∨ e ≠ none) :
    ∃ t, exec (.lanePowerRequest n i tx leave e) s = .next t ∧ t.pwr l tx = PWR.OFF ∧ t.exitOf l tx = 0 ∧
      LaneOnly [R.LNE_STAT n.val i.val] s t := by
  have request : exec (.lanePowerRequest n i tx leave e) s = .next ((s.setExit l tx 0).setPwr l tx PWR.OFF) := by
    match leave, e, asked with
    | true, e, _ => rw [exec_lanePowerRequest_leave, ← hl, State.askPwr_off off]
    | false, some v, _ => rw [exec_lanePowerRequest_enter, ← hl, State.askPwr_off off]
  rw [request, laneStat_eq hl]
  refine ⟨_, rfl, State.pwr_setPwr_of_off off, ?_, (State.setExit_laneOnly _ _ _ _ _).trans (State.setPwr_laneOnly _ _ _ _)⟩
  rw [State.exitOf_setPwr, State.exitOf_setExit]

end power

end Sys2Proof.Machine
end

section
/-!
PROOFS. Adaptation, lock and failures of lanes (R260, R264, R273): the step kept has the largest eye height, DFE taps follow PAM4 and
DFE_FREEZE, and a lane that loses its lock, or has too many bad symbols, fails.
-/
namespace Sys2Proof.Machine

/-! ### The step with the largest eye height (R264) -/

/-- The higher of two eyes, each a height with its step; the first of equals. -/
def higherEye (b e : Nat × Nat) : Nat × Nat := if b.1 < e.1 then e else b

theorem bestStep_eq (hs : List Nat) : bestStep hs = (hs.zipIdx.foldl higherEye (hs.headD 0, 0)).2 := rfl

theorem le_foldl_higherEye (es : List (Nat × Nat)) (b : Nat × Nat) :
    b.1 ≤ (es.foldl higherEye b).1 ∧ ∀ e ∈ es, e.1 ≤ (es.foldl higherEye b).1 := by
  induction es generalizing b with
  | nil => exact ⟨Nat.le_refl _, nofun⟩
  | cons e es ih =>
    obtain ⟨first, rest⟩ := ih (higherEye b e)
    have both : b.1 ≤ (higherEye b e).1 ∧ e.1 ≤ (higherEye b e).1 := by
      unfold higherEye
      split <;> omega
    refine ⟨both.1.trans first, fun x hx => ?_⟩
    obtain rfl | hx := List.mem_cons.mp hx
    · exact both.2.trans first
    · exact rest x hx

theorem foldl_higherEye_mem (es : List (Nat × Nat)) (b : Nat × Nat) : es.foldl higherEye b = b ∨ es.foldl higherEye b ∈ es := by
  induction es generalizing b with
  | nil => exact .inl rfl
  | cons e es ih =>
    rw [List.foldl_cons]
    obtain same | inside := ih (higherEye b e)
    · rw [same, higherEye]
      split
      · exact .inr List.mem_cons_self
      · exact .inl rfl
    · exact .inr (List.mem_cons_of_mem _ inside)

/-- The step kept is one of those tried, and none has a larger eye height. -/
theorem bestStep_spec {hs : List Nat} (some_step : hs ≠ []) :
    bestStep hs < hs.length ∧ ∀ j, j < hs.length → hs.getD j 0 ≤ hs.getD (bestStep hs) 0 := by
  obtain ⟨h, rest, rfl⟩ := List.exists_cons_of_ne_nil some_step
  rw [bestStep_eq]
  generalize hbest : (h :: rest).zipIdx.foldl higherEye ((h :: rest).headD 0, 0) = best
  have inside : best ∈ (h :: rest).zipIdx := by
    obtain first | other := foldl_higherEye_mem (h :: rest).zipIdx ((h :: rest).headD 0, 0)
    · rw [← hbest, first]
      exact List.mem_cons_self
    · rwa [hbest] at other
  obtain ⟨small, height⟩ := List.getElem?_eq_some_iff.mp (List.mem_zipIdx_iff_getElem?.mp inside)
  refine ⟨small, fun j hj => ?_⟩
  have largest := (le_foldl_higherEye (h :: rest).zipIdx ((h :: rest).headD 0, 0)).2 _
    (List.mem_zipIdx_iff_getElem?.mpr (List.getElem?_eq_getElem hj) : ((h :: rest)[j], j) ∈ (h :: rest).zipIdx)
  rw [hbest] at largest
  rw [List.getD_eq_getElem _ _ hj, List.getD_eq_getElem _ _ small, height]
  exact largest

/-! ### An adaptation ends (R264) -/

theorem laneStat_ne_laneDfe (l : Nat) : (laneReg R.LNE_STAT l).addr ≠ (laneReg R.LNE_DFE l).addr := by
  simp only [laneReg, R.LNE_STAT, R.LNE_DFE]
  omega

section adaptDfe
variable (s : State) (l taps : Nat)

theorem State.adaptDfe_laneOnly : LaneOnly [laneReg R.LNE_DFE l] s (s.adaptDfe l taps) := by
  unfold State.adaptDfe
  extract_lets pam
  split
  · exact LaneOnly.wr _ _ List.mem_cons_self
  · split
    · exact LaneOnly.refl _ _
    · exact LaneOnly.wr _ _ List.mem_cons_self

variable {s l taps} {p : Nat} (owner : s.laneOwner l = some p)
include owner

theorem State.adaptDfe_pam4 (pam : s.pam4 p = true) : s.adaptDfe l taps =
    if s.bit (laneReg R.LNE_CTL l) F.LNE_CTL_DFE_FREEZE = true then s else s.wr (laneReg R.LNE_DFE l) taps := by
  simp only [State.adaptDfe, owner, pam, Bool.not_true, Bool.false_eq_true, if_false]

theorem State.adaptDfe_nrz (nrz : s.pam4 p = false) : s.adaptDfe l taps = s.wr (laneReg R.LNE_DFE l) 0 := by
  simp only [State.adaptDfe, owner, nrz, Bool.not_false, if_true]

end adaptDfe

/-- The equaliser step that an adaptation keeps. -/
def State.ctleStep (s : State) (l : Nat) (hs : List Nat) : Nat :=
  if s.bitAct (laneReg R.LNE_CTL l) F.LNE_CTL_CTLE_OVR then s.getAct (laneReg R.LNE_CTL l) F.LNE_CTL_CTLE_STEP else bestStep hs

theorem State.ctleStep_lt (s : State) (l : Nat) {hs : List Nat} (all : hs.length = 16) : s.ctleStep l hs < 16 := by
  have best := (bestStep_spec (hs := hs) (List.ne_nil_of_length_eq_add_one all)).1
  rw [all] at best
  unfold State.ctleStep
  split
  · exact Nat.mod_lt _ (by decide)
  · exact best

section adapt
variable {s u : State} {l taps : Nat} {hs : List Nat} (hu : u = (s.adapt l hs taps).2)
include hu

theorem State.adapt_eq :
    u = ((s.put (laneReg R.LNE_STAT l) F.LNE_STAT_CTLE_USED (s.ctleStep l hs)).adaptDfe l taps).setAdapted l true := hu

theorem State.adapt_adapted : u.adapted l = true := by
  rw [State.adapt_eq hu, State.adapted_setAdapted]

theorem State.adapt_laneOnly : LaneOnly [laneReg R.LNE_STAT l, laneReg R.LNE_DFE l] s u := by
  rw [State.adapt_eq hu]
  have dfe : ∀ r ∈ [laneReg R.LNE_DFE l], r ∈ [laneReg R.LNE_STAT l, laneReg R.LNE_DFE l] := by simp
  exact ((LaneOnly.put s _ _ List.mem_cons_self).trans ((State.adaptDfe_laneOnly _ l taps).mono dfe)).trans
    (State.setAdapted_laneOnly _ _ _ _)

theorem State.adapt_ctle (all : hs.length = 16) : u.get (laneReg R.LNE_STAT l) F.LNE_STAT_CTLE_USED = s.ctleStep l hs := by
  have kept := (State.adaptDfe_laneOnly (s.put (laneReg R.LNE_STAT l) F.LNE_STAT_CTLE_USED (s.ctleStep l hs)) l taps).rd_eq
    (r := laneReg R.LNE_STAT l) (by simpa using laneStat_ne_laneDfe l)
  rw [State.adapt_eq hu]
  refine (State.get_congr kept _).trans ?_
  rw [State.get_put_same _ _ _ _ (by decide)]
  exact Nat.mod_eq_of_lt (s.ctleStep_lt l all)

section owned
variable {p : Nat} (small : l < 585) (owner : s.laneOwner l = some p)
include small owner

theorem State.adapt_dfe_pam4 (fits : taps < 2 ^ 64) (pam : s.pam4 p = true) : u.rd (laneReg R.LNE_DFE l) =
    if s.bit (laneReg R.LNE_CTL l) F.LNE_CTL_DFE_FREEZE = true then s.rd (laneReg R.LNE_DFE l) else taps := by
  have lanes := (LaneOnly.put s (rs := [laneReg R.LNE_STAT l]) F.LNE_STAT_CTLE_USED (s.ctleStep l hs) List.mem_cons_self).lanes
    (by simpa using laneStat_ofLanes small)
  have freeze : (s.put (laneReg R.LNE_STAT l) F.LNE_STAT_CTLE_USED (s.ctleStep l hs)).bit (laneReg R.LNE_CTL l) F.LNE_CTL_DFE_FREEZE =
      s.bit (laneReg R.LNE_CTL l) F.LNE_CTL_DFE_FREEZE := State.bit_put_other _ _ _ _ _ _ (by
    simp only [laneReg, R.LNE_CTL, R.LNE_STAT]
    omega)
  rw [State.adapt_eq hu, State.adaptDfe_pam4 ((lanes.laneOwner_eq l).trans owner) ((lanes.pam4_eq p).trans pam), freeze]
  split
  · exact State.rd_put_other _ _ _ _ _ (laneStat_ne_laneDfe l).symm
  · exact (State.rd_wr _ _ _).trans (Nat.mod_eq_of_lt fits)

theorem State.adapt_dfe_nrz (nrz : s.pam4 p = false) : u.rd (laneReg R.LNE_DFE l) = 0 := by
  have lanes := (LaneOnly.put s (rs := [laneReg R.LNE_STAT l]) F.LNE_STAT_CTLE_USED (s.ctleStep l hs) List.mem_cons_self).lanes
    (by simpa using laneStat_ofLanes small)
  rw [State.adapt_eq hu, State.adaptDfe_nrz ((lanes.laneOwner_eq l).trans owner) ((lanes.pam4_eq p).trans nrz)]
  exact State.rd_wr _ _ _

end owned

end adapt

/-! ### ADAPTATION_DONE, SPARE_READAPT and CLOCK_RECOVERY_LOCK -/

section adaptation
variable {s u : State} {n : Fin 64} {i : Fin 9} {hs : List Nat} {taps : BitVec 64} {l : Nat} (hl : l = 9 * n.val + i.val)
include hl

theorem locked_laneOwner : (s.put (laneReg R.LNE_STAT l) F.LNE_STAT_LOCK 1).laneOwner l = s.laneOwner l :=
  ((LaneOnly.put s (rs := [laneReg R.LNE_STAT l]) _ _ List.mem_cons_self).lanes (laneStat_lanes hl)).laneOwner_eq l

theorem adapt_lanes (hu : u = (s.adapt l hs taps.toNat).2) : LanesOnly s u := by
  have := n.isLt
  have := i.isLt
  refine (State.adapt_laneOnly hu).lanes fun r hr => ?_
  have place : r = laneReg R.LNE_STAT l ∨ r = laneReg R.LNE_DFE l := by simpa using hr
  obtain rfl | rfl := place
  · exact laneStat_ofLanes (by omega)
  · simp only [RegRef.ofLanes, laneReg, R.LNE_DFE]
    omega

theorem exec_adaptationDone_asleep (asleep : s.pwr l false ≠ PWR.ACTIVE) : exec (.adaptationDone n i hs taps) s = .next s := by
  subst hl
  exact if_pos asleep

theorem exec_clockRecoveryLock_asleep (asleep : s.pwr l false ≠ PWR.ACTIVE) : exec (.clockRecoveryLock n i) s = .next s := by
  subst hl
  exact if_pos (.inl asleep)

variable (awake : s.pwr l false = PWR.ACTIVE)
include awake

theorem exec_adaptationDone_background (bg : s.background l = true) :
    exec (.adaptationDone n i hs taps) s = .next (s.adaptDfe l taps.toNat) := by
  subst hl
  exact (if_neg (not_not_intro awake)).trans (if_pos bg)

section clock
variable (clock : s.bit R.EMB_STATUS F.EMB_STATUS_REFCLK_OK = true)
include clock

theorem exec_clockRecoveryLock : exec (.clockRecoveryLock n i) s =
    .next (match (s.put (laneReg R.LNE_STAT l) F.LNE_STAT_LOCK 1).laneOwner l with
      | some p => (s.put (laneReg R.LNE_STAT l) F.LNE_STAT_LOCK 1).settleCane p
      | none => s.put (laneReg R.LNE_STAT l) F.LNE_STAT_LOCK 1) := by
  subst hl
  refine if_neg ?_
  rintro (asleep | stopped)
  · exact asleep awake
  · rw [clock] at stopped
    cases stopped

theorem exec_clockRecoveryLock_unowned (unowned : s.laneOwner l = none) :
    exec (.clockRecoveryLock n i) s = .next (s.put (R.LNE_STAT n.val i.val) F.LNE_STAT_LOCK 1) := by
  rw [exec_clockRecoveryLock hl awake clock, locked_laneOwner hl, unowned, laneStat_eq hl]

theorem exec_clockRecoveryLock_owned {p : Nat} (owner : s.laneOwner l = some p) :
    exec (.clockRecoveryLock n i) s = .next ((s.put (R.LNE_STAT n.val i.val) F.LNE_STAT_LOCK 1).settleCane p) := by
  rw [exec_clockRecoveryLock hl awake clock, locked_laneOwner hl, owner, laneStat_eq hl]

end clock

variable (hu : u = (s.adapt l hs taps.toNat).2)
include hu

/-- Outside the equalisation of a cane port, a lane that is adapted anew may move its port on. -/
theorem exec_adaptationDone_unowned (unowned : s.laneOwner l = none) : exec (.adaptationDone n i hs taps) s = .next u := by
  have fresh : ¬ (s.background l = true) := by
    rw [State.background, unowned]
    exact Bool.false_ne_true
  have same : u.laneOwner l = none := ((adapt_lanes hl hu).laneOwner_eq l).trans unowned
  change execAdaptationDone n i hs taps s = _
  rw [execAdaptationDone]
  dsimp only
  rw [← hl, if_neg (not_not_intro awake), if_neg fresh]
  generalize s.adapt l hs taps.toNat = r at *
  obtain ⟨h, v⟩ := r
  subst hu
  dsimp only at *
  rw [same]

theorem exec_adaptationDone_owned {p : Nat} (owner : s.laneOwner l = some p) (fresh : s.background l = false)
    (eq : s.linkState p ≠ CN.EQ) (retrain : s.linkState p ≠ CN.RETRAIN) :
    exec (.adaptationDone n i hs taps) s = .next (u.settleCane p) := by
  have lanes := adapt_lanes hl hu
  have same : u.laneOwner l = some p := (lanes.laneOwner_eq l).trans owner
  have steady : (u.linkState p == CN.EQ || (u.linkState p == CN.RETRAIN && (u.cane p).step == 3)) = false := by
    rw [lanes.linkState_eq, beq_false_of_ne eq, beq_false_of_ne retrain, Bool.false_and, Bool.false_or]
  change execAdaptationDone n i hs taps s = _
  rw [execAdaptationDone]
  dsimp only
  rw [← hl, if_neg (not_not_intro awake), fresh, if_neg Bool.false_ne_true]
  generalize s.adapt l hs taps.toNat = r at *
  obtain ⟨h, v⟩ := r
  subst hu
  dsimp only at *
  rw [same]
  dsimp only
  rw [steady]

end adaptation

theorem exec_spareReadapt {s : State} {n : Fin 64} (hs : List Nat) (taps : BitVec 64) (cane : s.octetCane n.val = true)
    (warm : s.bit (R.LNE_OCTCTL n.val) F.LNE_OCTCTL_SPARE_WARM = true) (free : s.rxSub n.val = 15)
    (rests : s.pwr (9 * n.val + 8) false = PWR.STANDBY) :
    exec (.spareReadapt n hs taps) s = .next (s.adapt (9 * n.val + 8) hs taps.toNat).2 := by
  refine if_pos ?_
  rw [cane, warm, free, rests]
  rfl

/-! ### Failures (R273) -/

@[simp] theorem State.caneMode_report (s : State) (c k i o d a p : Nat) : (s.report c k i o d a).caneMode p = s.caneMode p := rfl
@[simp] theorem State.linkState_report (s : State) (c k i o d a p : Nat) : (s.report c k i o d a).linkState p = s.linkState p := rfl
@[simp] theorem State.linkState_emit (s : State) (o : Out) (p : Nat) : (s.emit o).linkState p = s.linkState p := rfl
@[simp] theorem State.bit_emit (s : State) (o : Out) (r : RegRef) (f : Fld) : (s.emit o).bit r f = s.bit r f := rfl

/-- The state of a PCI Express link is the one its port shows. -/
theorem State.linkState_pcie {s : State} {p : Nat} (pcie : s.caneMode p = false) :
    s.linkState p = s.get (R.PRT_LINKSTAT p) F.PRT_LINKSTAT_STATE := by
  rw [State.linkState, pcie, Bool.false_and, if_neg Bool.false_ne_true]

/-- A lane loses its lock, and the loss is counted. -/
def State.lockLost (s : State) (l : Nat) : State :=
  (s.put (laneReg R.LNE_STAT l) F.LNE_STAT_LOCK 0).bump (laneReg R.LNE_ERRCNT l) F.LNE_ERRCNT_LOCKLOSS 1

theorem laneErrcnt_ne_laneStat (l : Nat) : (laneReg R.LNE_ERRCNT l).addr ≠ (laneReg R.LNE_STAT l).addr := by
  simp only [laneReg, R.LNE_ERRCNT, R.LNE_STAT]
  omega

theorem octcfg_ne_linkstat {p : Nat} (hp : p < 256) : (R.PRT_OCTCFG (octetOf p)).addr ≠ (R.PRT_LINKSTAT p).addr := by
  simp only [R.PRT_OCTCFG, R.PRT_LINKSTAT]
  omega

/-- The failure of a lane is counted. -/
abbrev State.failCounted (s : State) (l : Nat) : State := s.bump (laneReg R.LNE_ERRCNT l) F.LNE_ERRCNT_FAILS 1

section lockLost
variable (s : State) (l : Nat)

theorem State.lockLost_counted_only :
    Only [laneReg R.LNE_STAT l, laneReg R.LNE_ERRCNT l] s ((s.lockLost l).failCounted l) := by
  have err : laneReg R.LNE_ERRCNT l ∈ [laneReg R.LNE_STAT l, laneReg R.LNE_ERRCNT l] := by simp
  exact ((Only.put s _ _ _ _ List.mem_cons_self).trans (Only.put _ _ _ _ _ err)).trans (Only.put _ _ _ _ _ err)

theorem State.lockLost_counted_lanes (small : l < 585) : LanesOnly s ((s.lockLost l).failCounted l) := by
  refine (s.lockLost_counted_only l).lane.lanes fun r hr => ?_
  have place : r = laneReg R.LNE_STAT l ∨ r = laneReg R.LNE_ERRCNT l := by simpa using hr
  obtain rfl | rfl := place
  · exact laneStat_ofLanes small
  · simp only [RegRef.ofLanes, laneReg, R.LNE_ERRCNT]
    omega

theorem State.lockLost_counted_lock : ((s.lockLost l).failCounted l).bit (laneReg R.LNE_STAT l) F.LNE_STAT_LOCK = false := by
  rw [State.failCounted, State.bump, State.bit_put_other _ _ _ _ _ _ (laneErrcnt_ne_laneStat l).symm, State.lockLost, State.bump,
    State.bit_put_other _ _ _ _ _ _ (laneErrcnt_ne_laneStat l).symm, State.bit_put_zero _ _ _ (by decide) rfl]

theorem State.lockLost_counted_lockloss : ((s.lockLost l).failCounted l).get (laneReg R.LNE_ERRCNT l) F.LNE_ERRCNT_LOCKLOSS =
    satAdd (s.get (laneReg R.LNE_ERRCNT l) F.LNE_ERRCNT_LOCKLOSS) 1 (2 ^ 16 - 1) := by
  rw [State.failCounted, State.bump, State.get_put_field _ _ _ _ _ (by decide) (by decide), State.lockLost,
    State.get_bump_same _ _ _ _ (by decide), State.get_put_other _ _ _ _ _ _ (laneErrcnt_ne_laneStat l), F.LNE_ERRCNT_LOCKLOSS]

theorem State.lockLost_counted_fails : ((s.lockLost l).failCounted l).get (laneReg R.LNE_ERRCNT l) F.LNE_ERRCNT_FAILS =
    satAdd (s.get (laneReg R.LNE_ERRCNT l) F.LNE_ERRCNT_FAILS) 1 (2 ^ 16 - 1) := by
  rw [State.failCounted, State.get_bump_same _ _ _ _ (by decide), State.lockLost, State.bump,
    State.get_put_field _ _ _ _ _ (by decide) (by decide), State.get_put_other _ _ _ _ _ _ (laneErrcnt_ne_laneStat l), F.LNE_ERRCNT_FAILS]

end lockLost

section laneFails
variable {s : State} {l : Nat} (byLock : Bool)

theorem State.laneFails_unowned (unowned : (s.failCounted l).laneOwner l = none) : s.laneFails l byLock = s.failCounted l := by
  rw [State.laneFails, ← State.failCounted]
  dsimp only
  rw [unowned]

/-- A lane of a running PCI Express port fails: reported, and the link retrains. -/
theorem State.laneFails_pcie {p : Nat} (owner : (s.failCounted l).laneOwner l = some p) (pcie : (s.failCounted l).caneMode p = false)
    (runs : (s.failCounted l).linkState p = LS.L0) : s.laneFails l byLock =
      (((s.failCounted l).report FC.LANE_FAIL UK.port p 0 (l / 9 + l % 9 * 64) 0).setLinkState p LS.RECOVERY).emit (.link p LK.RETRAIN) := by
  rw [State.laneFails, ← State.failCounted]
  generalize s.failCounted l = u at *
  dsimp only
  rw [owner]
  dsimp only
  rw [State.caneMode_report, State.linkState_report, pcie, runs, if_pos Bool.not_false, if_pos rfl]

end laneFails

section lockLoss
variable {s : State} {n : Fin 64} {i : Fin 9} {l : Nat} (hl : l = 9 * n.val + i.val)
include hl

theorem exec_lockLoss_unlocked (unlocked : s.bit (R.LNE_STAT n.val i.val) F.LNE_STAT_LOCK = false) :
    exec (.lockLoss n i) s = .next s := by
  rw [laneStat_eq hl] at unlocked
  subst hl
  exact congrArg Host.Outcome.next (if_pos (by rw [unlocked]; rfl))

theorem laneErrcnt_eq : R.LNE_ERRCNT n.val i.val = laneReg R.LNE_ERRCNT l := by
  rw [hl, laneReg_eq _ _ i.isLt]

variable (locked : s.bit (R.LNE_STAT n.val i.val) F.LNE_STAT_LOCK = true)
include locked

theorem exec_lockLoss_fails (stays : ∀ p, s.laneOwner l = some p → s.caneMode p = false ∨ (s.cane p).peerStby = false) :
    exec (.lockLoss n i) s = .next ((s.lockLost l).laneFails l true) := by
  rw [laneStat_eq hl] at locked
  have no : (match s.laneOwner l with | some p => s.caneMode p && (s.cane p).peerStby | none => false) = false := by
    cases owner : s.laneOwner l with
    | none => rfl
    | some p =>
      dsimp only
      obtain pcie | wakes := stays p owner
      · rw [pcie, Bool.false_and]
      · rw [wakes, Bool.and_false]
  subst hl
  refine congrArg Host.Outcome.next ((if_neg (by rw [locked]; exact Bool.false_ne_true)).trans (if_neg ?_))
  rw [Bool.not_eq_true]
  exact no

theorem exec_lockLoss_follows {p : Nat} (owner : s.laneOwner l = some p) (cane : s.caneMode p = true)
    (standby : (s.cane p).peerStby = true) : exec (.lockLoss n i) s = .next (s.askPwr l false PWR.STANDBY) := by
  rw [laneStat_eq hl] at locked
  have yes : (match s.laneOwner l with | some p => s.caneMode p && (s.cane p).peerStby | none => false) = true := by
    rw [owner]
    dsimp only
    rw [cane, standby, Bool.and_self]
  subst hl
  exact congrArg Host.Outcome.next ((if_neg (by rw [locked]; exact Bool.false_ne_true)).trans (if_pos yes))

theorem lockLoss_unowned (unowned : s.laneOwner l = none) : ∃ t, exec (.lockLoss n i) s = .next t ∧
    t.bit (R.LNE_STAT n.val i.val) F.LNE_STAT_LOCK = false ∧
    t.get (R.LNE_ERRCNT n.val i.val) F.LNE_ERRCNT_LOCKLOSS = satAdd (s.get (R.LNE_ERRCNT n.val i.val) F.LNE_ERRCNT_LOCKLOSS) 1 (2 ^ 16 - 1) ∧
    t.get (R.LNE_ERRCNT n.val i.val) F.LNE_ERRCNT_FAILS = satAdd (s.get (R.LNE_ERRCNT n.val i.val) F.LNE_ERRCNT_FAILS) 1 (2 ^ 16 - 1) ∧
    Only [R.LNE_STAT n.val i.val, R.LNE_ERRCNT n.val i.val] s t := by
  have lanes := s.lockLost_counted_lanes l (by have := n.isLt; have := i.isLt; omega)
  rw [exec_lockLoss_fails hl locked (by simp [unowned]), State.laneFails_unowned _ ((lanes.laneOwner_eq l).trans unowned), laneStat_eq hl,
    laneErrcnt_eq hl]
  exact ⟨_, rfl, s.lockLost_counted_lock l, s.lockLost_counted_lockloss l, s.lockLost_counted_fails l, s.lockLost_counted_only l⟩

theorem lockLoss_pcie {p : Nat} (owner : s.laneOwner l = some p) (pcie : s.caneMode p = false) (runs : s.linkState p = LS.L0)
    (hp : p < 256) : ∃ t, exec (.lockLoss n i) s = .next t ∧ t.bit (R.LNE_STAT n.val i.val) F.LNE_STAT_LOCK = false ∧
      t.linkState p = LS.RECOVERY ∧ t.out = .link p LK.RETRAIN :: s.out ∧
      t.reports = s.reports ++ [⟨FC.LANE_FAIL, UK.port, p, 0, n.val + i.val * 64, 0, s.now, false⟩] := by
  have hn := n.isLt
  have hi := i.isLt
  have lanes := s.lockLost_counted_lanes l (by omega)
  have fails := State.laneFails_pcie (s := s.lockLost l) true ((lanes.laneOwner_eq l).trans owner) ((lanes.caneMode_eq p).trans pcie)
    ((lanes.linkState_eq p).trans runs)
  have place : l / 9 + l % 9 * 64 = n.val + i.val * 64 := by omega
  have out : ((s.lockLost l).failCounted l).out = s.out := (congrArg State.out lanes.frame :)
  have reports : ((s.lockLost l).failCounted l).reports = s.reports := (congrArg State.reports lanes.frame :)
  have now : ((s.lockLost l).failCounted l).now = s.now := (congrArg State.now lanes.frame :)
  have unlocked := s.lockLost_counted_lock l
  have mode := (lanes.caneMode_eq p).trans pcie
  rw [exec_lockLoss_fails hl locked (fun q hq => .inl (by rwa [show q = p by simpa [owner] using hq.symm])), fails, place, laneStat_eq hl]
  generalize (s.lockLost l).failCounted l = u at *
  generalize hv : u.report FC.LANE_FAIL UK.port p 0 (n.val + i.val * 64) 0 = v
  have cfg : (v.setLinkState p LS.RECOVERY).caneMode p = false := by
    rw [State.caneMode, State.setLinkState, State.bit_put_other _ _ _ _ _ _ (octcfg_ne_linkstat hp), ← State.caneMode, ← hv,
      State.caneMode_report, mode]
  have apart : (laneReg R.LNE_STAT l).addr ≠ (R.PRT_LINKSTAT p).addr := by
    simp only [laneReg, R.LNE_STAT, R.PRT_LINKSTAT]
    omega
  refine ⟨_, rfl, ?_, ?_, ?_, ?_⟩
  · rw [State.bit_emit, State.setLinkState, State.bit_put_other _ _ _ _ _ _ apart, ← hv, State.bit_report, unlocked]
  · rw [State.linkState_emit, State.linkState_pcie cfg, State.setLinkState, State.get_put_same _ _ _ _ (by decide)]
    rfl
  · rw [State.emit, State.setLinkState, State.put_out, ← hv, State.report_out, out]
  · rw [State.emit_reports, State.setLinkState, State.put_reports, ← hv, State.report, reports, now]

end lockLoss

/-! ### FAIL_WINDOW_END -/

/-- A window ends with `c` bad symbols, which are counted. -/
def State.windowCounted (s : State) (l c : Nat) : State :=
  ({ s with lnk := { s.lnk with winCnt := SMap.set s.lnk.winCnt 0 l 0 } } : State).bump (laneReg R.LNE_ERRCNT l) F.LNE_ERRCNT_LOWMARGIN c

section window
variable {s : State} {n : Fin 64} {i : Fin 9} {l : Nat} (hl : l = 9 * n.val + i.val) (c : Nat)

theorem State.windowCounted_laneOnly : LaneOnly [laneReg R.LNE_ERRCNT l] s (s.windowCounted l c) := ⟨rfl, fun _ apart =>
  State.rd_put_other _ _ _ _ _ (apart _ List.mem_cons_self)⟩

theorem State.windowCounted_lowmargin : (s.windowCounted l c).get (laneReg R.LNE_ERRCNT l) F.LNE_ERRCNT_LOWMARGIN =
    satAdd (s.get (laneReg R.LNE_ERRCNT l) F.LNE_ERRCNT_LOWMARGIN) c (2 ^ 32 - 1) := State.get_bump_same _ _ _ _ (by decide)

include hl in
theorem exec_failWindowEnd (free : s.slicer l = 0) (start : SMap.get s.lnk.winCnt 0 l = 0) : exec (.failWindowEnd n i c) s =
    .next (if s.get (R.LNE_FAILCFG n.val) F.LNE_FAILCFG_FAIL_THRESH < c then (s.windowCounted l c).laneFails l false
      else s.windowCounted l c) := by
  have cfg : (s.windowCounted l c).rd (R.LNE_FAILCFG n.val) = s.rd (R.LNE_FAILCFG n.val) := by
    refine (State.windowCounted_laneOnly c).rd_eq ?_
    simp only [laneReg, R.LNE_FAILCFG, R.LNE_ERRCNT, List.mem_singleton, forall_eq]
    omega
  have thresh := State.get_congr cfg F.LNE_FAILCFG_FAIL_THRESH
  rw [← thresh]
  subst hl
  change execFailWindowEnd n i c s = _
  rw [execFailWindowEnd]
  dsimp only
  rw [if_pos free, start, Nat.add_zero, ← State.windowCounted]

end window

end Sys2Proof.Machine
end

section
/-!
PROOFS. Re-trim runs and margining (R272, R276 to R280): a run moves through its stages, each of which touches only the registers of its octet
and the lanes it brings to ACTIVE; a margin run, a check and a standard command hold the error slicer in turn.
-/
namespace Sys2Proof.Machine

/-! ### The error slicer (R279) -/

@[simp] theorem State.slicer_setSlicer (s : State) (l v : Nat) : (s.setSlicer l v).slicer l = v := SMap.get_set_same _ _ _ _

@[simp] theorem State.slicer_setExit (s : State) (l k : Nat) (tx : Bool) (v : Nat) : (s.setExit l tx v).slicer k = s.slicer k := rfl

@[simp] theorem State.slicer_setPwr (s : State) (l k : Nat) (tx : Bool) (v : Nat) : (s.setPwr l tx v).slicer k = s.slicer k := by
  rw [State.setPwr]
  generalize (if s.laneOff l = true then PWR.OFF else v) = w
  dsimp only
  split
  · rfl
  · split <;> rfl

@[simp] theorem State.slicer_askPwr (s : State) (l k : Nat) (tx : Bool) (v : Nat) : (s.askPwr l tx v).slicer k = s.slicer k := by
  rw [State.askPwr]
  split
  · rw [State.slicer_setPwr, State.slicer_setExit]
  · split
    · split
      · rfl
      · rfl
    · split
      · rfl
      · exact State.slicer_setPwr _ _ _ _ _

/-! ### Margin runs (R272, R280) -/

theorem laneMargres_ne_laneStat (l : Nat) : (laneReg R.LNE_MARGRES l).addr ≠ (laneReg R.LNE_STAT l).addr := by
  simp only [laneReg, R.LNE_MARGRES, R.LNE_STAT]
  omega

theorem laneMargres_ofLanes {l : Nat} (h : l < 585) : (laneReg R.LNE_MARGRES l).ofLanes := by
  simp only [RegRef.ofLanes, laneReg, R.LNE_MARGRES]
  omega

/-- A margin run holds the slicer, and its result shows it active. -/
abbrev State.marginHeld (s : State) (l : Nat) : State := (s.wr (laneReg R.LNE_MARGRES l) (2 ^ 43)).setSlicer l 1

theorem State.marginHeld_laneOnly (s : State) (l : Nat) : LaneOnly [laneReg R.LNE_MARGRES l] s (s.marginHeld l) :=
  (LaneOnly.wr s _ List.mem_cons_self).trans (State.setSlicer_laneOnly _ _ _ _)

section marginEnd
variable (s : State) (l : Nat)

theorem State.marginEnd_laneOnly : LaneOnly [laneReg R.LNE_MARGRES l] s (s.marginEnd l) :=
  ((LaneOnly.put s _ _ List.mem_cons_self).trans (LaneOnly.put _ _ _ List.mem_cons_self)).trans (State.setSlicer_laneOnly _ _ _ _)

theorem State.marginEnd_active : (s.marginEnd l).bit (laneReg R.LNE_MARGRES l) F.LNE_MARGRES_ACTIVE = false := by
  rw [State.marginEnd, State.bit_setSlicer, State.setBit, State.bit_put_field _ _ _ _ _ (by decide) (by decide),
    State.bit_put_zero _ _ _ (by decide) rfl]

theorem State.marginEnd_aborted : (s.marginEnd l).bit (laneReg R.LNE_MARGRES l) F.LNE_MARGRES_ABORTED = true := by
  rw [State.marginEnd, State.bit_setSlicer, State.bit_setBit _ _ _ (by decide) rfl]

end marginEnd

section margin
variable {s : State} {n : Fin 64} {i : Fin 9} {l : Nat} (hl : l = 9 * n.val + i.val)
include hl

theorem laneMargres_eq : R.LNE_MARGRES n.val i.val = laneReg R.LNE_MARGRES l := by
  rw [hl, laneReg_eq _ _ i.isLt]

theorem exec_marginRun_busy (held : s.slicer l ≠ 0) :
    exec (.marginRun n i) s = .next (s.setBit (R.LNE_MARGRES n.val i.val) F.LNE_MARGRES_BUSY) := by
  rw [laneMargres_eq hl]
  subst hl
  exact if_pos held

theorem exec_marginRun (free : s.slicer l = 0) : exec (.marginRun n i) s = .next ((s.marginHeld l).askPwr l false PWR.ACTIVE) := by
  subst hl
  exact if_neg (not_not_intro free)

theorem marginRun_holds (free : s.slicer l = 0) : ∃ t, exec (.marginRun n i) s = .next t ∧ t.slicer l = 1 ∧
    t.rd (R.LNE_MARGRES n.val i.val) = 2 ^ 43 ∧ (s.laneOff l = false → s.pwr l false ≠ PWR.ACTIVE → t.exitOf l false = 1) ∧
    LaneOnly [R.LNE_MARGRES n.val i.val, R.LNE_STAT n.val i.val] s t := by
  have hn := n.isLt
  have hi := i.isLt
  have held := s.marginHeld_laneOnly l
  have lanes := held.lanes (by simpa using laneMargres_ofLanes (show l < 585 by omega))
  have asked := (s.marginHeld l).askPwr_laneOnly l false PWR.ACTIVE
  rw [exec_marginRun hl free, laneMargres_eq hl, laneStat_eq hl]
  refine ⟨_, rfl, ?_, ?_, fun on asleep => ?_, ?_⟩
  · rw [State.slicer_askPwr, State.slicer_setSlicer]
  · rw [asked.rd_eq (by simpa using laneMargres_ne_laneStat l)]
    rw [State.rd_setSlicer, State.rd_wr]
    rfl
  · have power : (s.marginHeld l).pwr l false = s.pwr l false :=
      State.get_congr (held.rd_eq (by simpa using (laneMargres_ne_laneStat l).symm)) _
    rw [State.askPwr_leave ((lanes.laneOff_eq l).trans on) (power ▸ asleep), State.exitOf_setExit]
  · exact held.append asked

theorem exec_marginAbort (held : s.slicer l = 1) : exec (.marginAbort n i) s = .next (s.marginEnd l) := by
  subst hl
  exact congrArg Host.Outcome.next (if_pos held)

theorem marginAbort_ends (held : s.slicer l = 1) : ∃ t, exec (.marginAbort n i) s = .next t ∧ t.slicer l = 0 ∧
    t.bit (R.LNE_MARGRES n.val i.val) F.LNE_MARGRES_ACTIVE = false ∧ t.bit (R.LNE_MARGRES n.val i.val) F.LNE_MARGRES_ABORTED = true ∧
    LaneOnly [R.LNE_MARGRES n.val i.val] s t := by
  rw [exec_marginAbort hl held, laneMargres_eq hl]
  exact ⟨_, rfl, State.slicer_setSlicer _ _ _, s.marginEnd_active l, s.marginEnd_aborted l, s.marginEnd_laneOnly l⟩

theorem marginRunDone_counts (e : BitVec 40) (held : s.slicer l = 1) (awake : s.exitOf l false = 0) :
    ∃ t, exec (.marginRunDone n i e) s = .next t ∧ t.slicer l = 0 ∧ t.rd (R.LNE_MARGRES n.val i.val) = e.toNat + 2 ^ 40 ∧
      LaneOnly [R.LNE_MARGRES n.val i.val] s t := by
  have small := e.isLt
  have run : exec (.marginRunDone n i e) s = .next ((s.wr (laneReg R.LNE_MARGRES l) (e.toNat + 2 ^ 40)).setSlicer l 0) := by
    subst hl
    exact congrArg Host.Outcome.next (if_pos ⟨held, awake⟩)
  rw [run, laneMargres_eq hl]
  refine ⟨_, rfl, State.slicer_setSlicer _ _ _, ?_, (LaneOnly.wr s _ List.mem_cons_self).trans (State.setSlicer_laneOnly _ _ _ _)⟩
  rw [State.rd_setSlicer, State.rd_wr, Nat.mod_eq_of_lt (by omega)]

theorem exec_marginRunDone_asleep (e : BitVec 40) (asleep : s.exitOf l false ≠ 0) : exec (.marginRunDone n i e) s = .next s := by
  subst hl
  exact congrArg Host.Outcome.next (if_neg fun ⟨_, awake⟩ => asleep awake)

section other
variable (other : s.slicer l ≠ 1)
include other

theorem exec_marginAbort_other : exec (.marginAbort n i) s = .next s := by
  subst hl
  exact congrArg Host.Outcome.next (if_neg other)

theorem exec_marginRunDone_other (e : BitVec 40) : exec (.marginRunDone n i e) s = .next s := by
  subst hl
  exact congrArg Host.Outcome.next (if_neg fun ⟨held, _⟩ => other held)

theorem exec_laneMarginCommand_free : exec (.laneMarginCommand n i false) s =
    .next (((s.setSlicer l 2).askPwr l false PWR.ACTIVE).emit (.margin l [1, 1, 1, 0, 32, 50, 64, 25, 15])) := by
  have run : exec (.laneMarginCommand n i false) s =
    .next ((((if s.slicer l = 1 then s.marginEnd l else s).setSlicer l 2).askPwr l false PWR.ACTIVE).emit (.margin l marginReport)) := by
    rw [hl]
    rfl
  rw [run, if_neg other, marginReport]

end other

theorem exec_laneMarginCommand_held (held : s.slicer l = 1) : exec (.laneMarginCommand n i false) s =
    .next ((((s.marginEnd l).setSlicer l 2).askPwr l false PWR.ACTIVE).emit (.margin l [1, 1, 1, 0, 32, 50, 64, 25, 15])) := by
  have run : exec (.laneMarginCommand n i false) s =
    .next ((((if s.slicer l = 1 then s.marginEnd l else s).setSlicer l 2).askPwr l false PWR.ACTIVE).emit (.margin l marginReport)) := by
    rw [hl]
    rfl
  rw [run, if_pos held, marginReport]

theorem exec_laneMarginCommand_release (held : s.slicer l = 2) : exec (.laneMarginCommand n i true) s = .next (s.setSlicer l 0) := by
  subst hl
  exact congrArg Host.Outcome.next (if_pos held)

theorem exec_laneMarginCommand_release_other (other : s.slicer l ≠ 2) : exec (.laneMarginCommand n i true) s = .next s := by
  subst hl
  exact congrArg Host.Outcome.next (if_neg other)

end margin

/-! ### Stages of a re-trim run (R276, R277) -/

/-- A run moves to a state by its register; beside it only a slicer changes hands. -/
theorem State.takeCheck_laneOnly (rs : List RegRef) (s : State) (n : Nat) : LaneOnly rs s (s.takeCheck n) := by
  rw [State.takeCheck]
  split
  · split
    · exact State.setSlicer_laneOnly _ _ _ _
    · exact LaneOnly.refl _ _
  · exact LaneOnly.refl _ _

/-- The check of the stage that ends gives its slicer back. -/
def State.giveCheck (s : State) (n : Nat) : State :=
  match s.checkLane n with
  | some l => if s.slicer l = 3 then s.setSlicer l 0 else s
  | none => s

/-- A state that differs by the holder of a slicer. -/
theorem State.giveCheck_slicer (s : State) (n : Nat) : s.giveCheck n = s ∨ ∃ l v, s.giveCheck n = s.setSlicer l v := by
  rw [State.giveCheck]
  split
  · split
    · exact .inr ⟨_, _, rfl⟩
    · exact .inl rfl
  · exact .inl rfl

theorem State.takeCheck_slicer (s : State) (n : Nat) : s.takeCheck n = s ∨ ∃ l v, s.takeCheck n = s.setSlicer l v := by
  rw [State.takeCheck]
  split
  · split
    · exact .inr ⟨_, _, rfl⟩
    · exact .inl rfl
  · exact .inl rfl

theorem State.giveCheck_laneOnly (rs : List RegRef) (s : State) (n : Nat) : LaneOnly rs s (s.giveCheck n) := by
  obtain same | ⟨l, v, moved⟩ := s.giveCheck_slicer n
  · rw [same]
    exact LaneOnly.refl _ _
  · rw [moved]
    exact State.setSlicer_laneOnly _ _ _ _

section stage
variable (s : State) (n v : Nat)

theorem State.retrimStage_eq : s.retrimStage n v = ((s.giveCheck n).setRetrim n v).takeCheck n := rfl

theorem State.setRetrim_laneOnly : LaneOnly [R.LNE_RETRIMSTAT n] s (s.setRetrim n v) := LaneOnly.put s _ _ List.mem_cons_self

theorem State.retrimStage_laneOnly : LaneOnly [R.LNE_RETRIMSTAT n] s (s.retrimStage n v) :=
  ((s.giveCheck_laneOnly _ n).trans ((s.giveCheck n).setRetrim_laneOnly n v)).trans (State.takeCheck_laneOnly _ _ _)

theorem State.retrim_setRetrim (small : v < 16) : (s.setRetrim n v).retrim n = v := by
  rw [State.retrim, State.setRetrim, State.get_put_same _ _ _ _ (by decide)]
  exact Nat.mod_eq_of_lt small

theorem State.retrim_retrimStage (small : v < 16) : (s.retrimStage n v).retrim n = v :=
  (State.get_congr ((State.takeCheck_laneOnly [] _ n).rd_eq nofun) _).trans (State.retrim_setRetrim _ n v small)

/-- The lane under re-trim stays while the run moves. -/
theorem State.retrimLane_retrimStage :
    (s.retrimStage n v).get (R.LNE_RETRIMSTAT n) F.LNE_RETRIMSTAT_LANE = s.get (R.LNE_RETRIMSTAT n) F.LNE_RETRIMSTAT_LANE := by
  have taken := State.get_congr ((State.takeCheck_laneOnly [] ((s.giveCheck n).setRetrim n v) n).rd_eq (r := R.LNE_RETRIMSTAT n) nofun)
    F.LNE_RETRIMSTAT_LANE
  rw [State.retrimStage_eq, taken, State.setRetrim, State.get_put_field _ _ _ _ _ (by decide) (by decide)]
  exact State.get_congr ((s.giveCheck_laneOnly [] n).rd_eq nofun) _

theorem State.exitOf_retrimStage (k : Nat) (tx : Bool) : (s.retrimStage n v).exitOf k tx = s.exitOf k tx := by
  have given : (s.giveCheck n).exitOf k tx = s.exitOf k tx := by
    obtain same | ⟨_, _, moved⟩ := s.giveCheck_slicer n
    · rw [same]
    · rw [moved]
      rfl
  rw [State.retrimStage_eq]
  obtain same | ⟨_, _, moved⟩ := ((s.giveCheck n).setRetrim n v).takeCheck_slicer n
  · rw [same]
    exact given
  · rw [moved]
    exact given

theorem State.adapted_retrimStage (k : Nat) : (s.retrimStage n v).adapted k = s.adapted k := by
  have given : (s.giveCheck n).adapted k = s.adapted k := by
    obtain same | ⟨_, _, moved⟩ := s.giveCheck_slicer n
    · rw [same]
    · rw [moved]
      rfl
  rw [State.retrimStage_eq]
  obtain same | ⟨_, _, moved⟩ := ((s.giveCheck n).setRetrim n v).takeCheck_slicer n
  · rw [same]
    exact given
  · rw [moved]
    exact given

theorem spareStat_eq : laneReg R.LNE_STAT (9 * n + 8) = R.LNE_STAT n 8 := laneReg_eq _ _ (by decide)

theorem State.restSpare_laneOnly (tx : Bool) : LaneOnly [R.LNE_STAT n 8] s (s.restSpare n tx) := by
  rw [← spareStat_eq]
  exact State.askPwr_laneOnly _ _ _ _

theorem State.restIdle_laneOnly : LaneOnly [R.LNE_STAT n 8] s (s.restIdle n) := by
  have rests (exchange : Bool) : LaneOnly [R.LNE_STAT n 8] s (if s.rxSub n = 0xF ∧ exchange = false then s.restSpare n false else s) := by
    split
    · exact s.restSpare_laneOnly n false
    · exact LaneOnly.refl _ _
  exact rests _

theorem retrimstat_ne_spareStat : (R.LNE_RETRIMSTAT n).addr ≠ (R.LNE_STAT n 8).addr := by
  simp only [R.LNE_RETRIMSTAT, R.LNE_STAT]
  omega

theorem State.endRetrim_laneOnly : LaneOnly [R.LNE_RETRIMSTAT n, R.LNE_STAT n 8] s (s.endRetrim n v) :=
  ((s.giveCheck_laneOnly _ n).trans ((s.giveCheck n).setRetrim_laneOnly n v)).append (State.restIdle_laneOnly _ n)

theorem State.retrim_endRetrim (small : v < 16) : (s.endRetrim n v).retrim n = v :=
  (State.get_congr ((State.restIdle_laneOnly _ n).rd_eq (by simpa using retrimstat_ne_spareStat n)) _).trans
    (State.retrim_setRetrim _ n v small)

end stage

/-! ### RETRIM_START (R272, R276) -/

/-- No data lane is a spare. -/
theorem portLane_mod (p k : Nat) : portLane p k % 9 ≠ 8 := by
  unfold portLane
  omega

theorem State.find?_physLane {s : State} {p m l : Nat} (h : s.physLane p m = some l) : l % 9 ≠ 8 := by
  obtain ⟨k, -, rfl⟩ := List.mem_map.mp (List.mem_of_find?_eq_some h)
  exact portLane_mod p k

/-- What the LNE_STAT of spares says chooses no data lane. -/
theorem LanesOnly.physLane_eq {s t : State} (h : LanesOnly s t) (data : ∀ l, l % 9 ≠ 8 → t.rd (laneReg R.LNE_STAT l) = s.rd (laneReg R.LNE_STAT l))
    (p m : Nat) : t.physLane p m = s.physLane p m := by
  rw [State.physLane, State.physLane, h.portLanes_eq, State.portLanes]
  refine List.find?_congr fun l hl => ?_
  obtain ⟨k, -, rfl⟩ := List.mem_map.mp hl
  rw [State.get_congr (data _ (portLane_mod p k))]

/-- The lane under re-trim, by its number in the octet. -/
def State.retrimLane (s : State) (n m : Nat) : Option Nat :=
  (s.laneOwner (9 * n + 8)).bind (fun p => s.physLane p (s.logicalOf p n m))

/-- The receiver of a lane, if there is one, is asked to leave for ACTIVE. -/
def State.wakeRx (s : State) : Option Nat → State
  | some l => s.askPwr l false PWR.ACTIVE
  | none => s

theorem State.wakeRx_laneOnly (s : State) (o : Option Nat) : LaneOnly (o.toList.map (laneReg R.LNE_STAT)) s (s.wakeRx o) := by
  cases o with
  | none => exact LaneOnly.refl _ _
  | some l => exact s.askPwr_laneOnly l false PWR.ACTIVE

theorem State.exitOf_wakeRx (s : State) {o : Option Nat} {k : Nat} (other : ∀ l, o = some l → k ≠ l) (tx : Bool) :
    (s.wakeRx o).exitOf k tx = s.exitOf k tx := by
  cases o with
  | none => rfl
  | some l => exact s.exitOf_askPwr_other _ _ _ (other l rfl) _

/-- A run begins: its lane is named, and its spare wakes. -/
def State.retrimBegun (s : State) (n m : Nat) : State :=
  (s.put (R.LNE_RETRIMSTAT n) F.LNE_RETRIMSTAT_LANE m).askPwr (9 * n + 8) false PWR.ACTIVE

section start
variable (s : State) {n : Nat} (m : Nat)

theorem retrimstat_ne_laneStat (n l : Nat) : (R.LNE_RETRIMSTAT n).addr ≠ (laneReg R.LNE_STAT l).addr := by
  simp only [laneReg, R.LNE_RETRIMSTAT, R.LNE_STAT]
  omega

theorem retrimstat_ofLanes {n : Nat} (hn : n < 64) : (R.LNE_RETRIMSTAT n).ofLanes := by
  simp only [RegRef.ofLanes, R.LNE_RETRIMSTAT]
  omega

theorem spareStat_ofLanes {n : Nat} (hn : n < 64) : (R.LNE_STAT n 8).ofLanes := by
  simp only [RegRef.ofLanes, R.LNE_STAT]
  omega

theorem State.retrimBegun_laneOnly (n : Nat) : LaneOnly [R.LNE_RETRIMSTAT n, R.LNE_STAT n 8] s (s.retrimBegun n m) := by
  have named := LaneOnly.put s (rs := [R.LNE_RETRIMSTAT n]) F.LNE_RETRIMSTAT_LANE m List.mem_cons_self
  have woken := (s.put (R.LNE_RETRIMSTAT n) F.LNE_RETRIMSTAT_LANE m).askPwr_laneOnly (9 * n + 8) false PWR.ACTIVE
  rw [spareStat_eq] at woken
  exact named.append woken

variable (hn : n < 64)
include hn

theorem State.retrimBegun_lanes : LanesOnly s (s.retrimBegun n m) :=
  (s.retrimBegun_laneOnly m n).lanes (by simpa using ⟨retrimstat_ofLanes hn, spareStat_ofLanes hn⟩)

theorem State.retrimLane_retrimBegun : (s.retrimBegun n m).retrimLane n m = s.retrimLane n m := by
  have lanes := s.retrimBegun_lanes m hn
  have phys := lanes.physLane_eq fun l data => (s.retrimBegun_laneOnly m n).rd_eq (r := laneReg R.LNE_STAT l) (by
    have other := laneStat_ne (show l ≠ 9 * n + 8 by omega)
    rw [spareStat_eq] at other
    simpa using ⟨(retrimstat_ne_laneStat n l).symm, other⟩)
  simp only [State.retrimLane, lanes.laneOwner_eq, lanes.logicalOf_eq, phys]

theorem State.retrimStart_eq : s.retrimStart n m = ((s.retrimBegun n m).wakeRx (s.retrimLane n m)).retrimStage n
    (if (s.pwr (9 * n + 8) false == PWR.STANDBY && s.adapted (9 * n + 8)) = true then RT.SPARE_CHECK else RT.SPARE_UP) := by
  rw [← s.retrimLane_retrimBegun m hn, State.retrimStart]
  rfl

theorem State.retrimStart_laneOnly : LaneOnly (R.LNE_RETRIMSTAT n :: R.LNE_STAT n 8 :: (s.retrimLane n m).toList.map (laneReg R.LNE_STAT)) s
    (s.retrimStart n m) := by
  rw [s.retrimStart_eq m hn]
  refine LaneOnly.trans ((s.retrimBegun_laneOnly m n).append (State.wakeRx_laneOnly _ _)) ?_
  exact (State.retrimStage_laneOnly _ n _).mono (by simp)

theorem State.retrim_retrimStart : (s.retrimStart n m).retrim n =
    if s.pwr (9 * n + 8) false = PWR.STANDBY ∧ s.adapted (9 * n + 8) = true then 3 else 1 := by
  rw [s.retrimStart_eq m hn, State.retrim_retrimStage _ _ _ (by split <;> decide)]
  simp only [Bool.and_eq_true, beq_iff_eq]
  rfl

theorem State.retrimStart_lane : (s.retrimStart n m).get (R.LNE_RETRIMSTAT n) F.LNE_RETRIMSTAT_LANE = m % 8 := by
  have woken := ((s.retrimBegun n m).wakeRx_laneOnly (s.retrimLane n m)).rd_eq (r := R.LNE_RETRIMSTAT n)
    (by simpa using fun l _ => retrimstat_ne_laneStat n l)
  have begun := ((s.put (R.LNE_RETRIMSTAT n) F.LNE_RETRIMSTAT_LANE m).askPwr_laneOnly (9 * n + 8) false PWR.ACTIVE).rd_eq
    (r := R.LNE_RETRIMSTAT n) (by simpa using retrimstat_ne_laneStat n _)
  rw [s.retrimStart_eq m hn, State.retrimLane_retrimStage, State.get_congr woken, State.retrimBegun, State.get_congr begun,
    State.get_put_same _ _ _ _ (by decide)]
  rfl

/-- The spare leaves for ACTIVE, whatever lane wakes with it. -/
theorem State.exitOf_retrimStart (on : s.laneOff (9 * n + 8) = false) (asleep : s.pwr (9 * n + 8) false ≠ PWR.ACTIVE) :
    (s.retrimStart n m).exitOf (9 * n + 8) false = 1 := by
  have data : ∀ l, s.retrimLane n m = some l → 9 * n + 8 ≠ l := by
    intro l hl
    obtain ⟨p, -, phys⟩ := Option.bind_eq_some_iff.mp hl
    have := State.find?_physLane phys
    omega
  have named := LaneOnly.put s (rs := [R.LNE_RETRIMSTAT n]) F.LNE_RETRIMSTAT_LANE m List.mem_cons_self
  have on' := ((named.lanes (by simpa using retrimstat_ofLanes hn)).laneOff_eq (9 * n + 8)).trans on
  have power : (s.put (R.LNE_RETRIMSTAT n) F.LNE_RETRIMSTAT_LANE m).pwr (9 * n + 8) false = s.pwr (9 * n + 8) false :=
    State.get_congr (named.rd_eq (by simpa using (retrimstat_ne_laneStat n _).symm)) _
  rw [s.retrimStart_eq m hn, State.exitOf_retrimStage, State.exitOf_wakeRx _ data, State.retrimBegun,
    State.askPwr_leave on' (power ▸ asleep), State.exitOf_setExit]

end start

section commands
variable {s : State} {n : Fin 64}

theorem exec_retrimStart_refused {m : Fin 8} (refused : s.retrimRefused n.val m.val = true) :
    exec (.retrimStart n m) s = .next (s.setBit (R.LNE_OCTSTAT n.val) F.LNE_OCTSTAT_BADCMD) :=
  congrArg Host.Outcome.next (if_pos refused)

theorem retrimStart_begins {m : Fin 8} (accepted : s.retrimRefused n.val m.val = false) : ∃ t, exec (.retrimStart n m) s = .next t ∧
    t.get (R.LNE_RETRIMSTAT n.val) F.LNE_RETRIMSTAT_LANE = m.val ∧
    t.retrim n.val = (if s.pwr (9 * n.val + 8) false = PWR.STANDBY ∧ s.adapted (9 * n.val + 8) = true then 3 else 1) ∧
    (s.laneOff (9 * n.val + 8) = false → s.pwr (9 * n.val + 8) false ≠ PWR.ACTIVE → t.exitOf (9 * n.val + 8) false = 1) ∧
    ∀ p, s.laneOwner (9 * n.val + 8) = some p → LaneOnly (R.LNE_RETRIMSTAT n.val :: R.LNE_STAT n.val 8 ::
      (s.physLane p (s.logicalOf p n.val m.val)).toList.map (laneReg R.LNE_STAT)) s t := by
  have run : exec (.retrimStart n m) s = .next (s.retrimStart n.val m.val) :=
    congrArg Host.Outcome.next (if_neg (by rw [accepted]; exact Bool.false_ne_true))
  refine ⟨_, run, (s.retrimStart_lane _ n.isLt).trans (Nat.mod_eq_of_lt m.isLt), s.retrim_retrimStart _ n.isLt,
    s.exitOf_retrimStart _ n.isLt, fun p owner => ?_⟩
  have only := s.retrimStart_laneOnly m.val n.isLt
  rwa [State.retrimLane, owner] at only

theorem retrimAbort_ends (runs : s.retrimRuns n.val = true) : ∃ t, exec (.retrimAbort n) s = .next t ∧ t.retrim n.val = 9 ∧
    LaneOnly [R.LNE_RETRIMSTAT n.val, R.LNE_STAT n.val 8] s t :=
  ⟨_, congrArg Host.Outcome.next (if_pos runs), s.retrim_endRetrim _ _ (by decide), s.endRetrim_laneOnly _ _⟩

theorem exec_retrimAbort_idle (idle : s.retrimRuns n.val = false) : exec (.retrimAbort n) s = .next s :=
  congrArg Host.Outcome.next (if_neg (by rw [idle]; exact Bool.false_ne_true))

theorem exec_retrimStageDone_idle (ok : Bool) (idle : s.retrimRuns n.val = false) : exec (.retrimStageDone n ok) s = .next s := by
  change execRetrimStageDone n ok s = _
  rw [execRetrimStageDone]
  dsimp only
  split
  · rfl
  · rw [idle, if_pos Bool.not_false]

/-! ### RETRIM_STAGE_DONE (R276 to R278) -/

/-- The check of the running stage, if there is one, still has its slicer. -/
def State.checkHeld (s : State) (n : Nat) : Bool :=
  match s.checkLane n with
  | some l => s.slicer l == 3
  | none => true

theorem State.checkHeld_of {n : Nat} (h : s.checkLane n = none ∨ ∃ l, s.checkLane n = some l ∧ s.slicer l = 3) : s.checkHeld n = true := by
  obtain none | ⟨l, lane, held⟩ := h
  · rw [State.checkHeld, none]
  · rw [State.checkHeld, lane]
    exact beq_iff_eq.mpr held

theorem State.retrimRuns_of {n v : Nat} (stage : s.retrim n = v) (low : 1 ≤ v) (high : v ≤ 5) : s.retrimRuns n = true := by
  rw [State.retrimRuns, stage, decide_eq_true low, decide_eq_true high, Bool.and_self]

variable {p : Nat} (owner : s.laneOwner (9 * n.val + 8) = some p)
include owner

theorem exec_retrimStageDone (ok : Bool) (runs : s.retrimRuns n.val = true) :
    exec (.retrimStageDone n ok) s = .next (s.retrimNext n.val p (ok && s.checkHeld n.val)) := by
  change execRetrimStageDone n ok s = _
  rw [execRetrimStageDone]
  dsimp only
  rw [owner]
  dsimp only
  rw [runs, if_neg (by decide)]
  rfl

theorem retrimStageDone_spareUp (ok : Bool) (stage : s.retrim n.val = 1) : ∃ t, exec (.retrimStageDone n ok) s = .next t ∧
    t.retrim n.val = 2 ∧ LaneOnly [R.LNE_RETRIMSTAT n.val, R.LNE_STAT n.val 8] s t := by
  have next : s.retrimNext n.val p (ok && s.checkHeld n.val) = (s.exitDone (9 * n.val + 8) false).retrimStage n.val RT.SPARE_ADAPT := by
    rw [State.retrimNext, stage]
    rfl
  have up := s.exitDone_laneOnly (9 * n.val + 8) false
  rw [spareStat_eq] at up
  refine ⟨_, exec_retrimStageDone owner ok (State.retrimRuns_of stage (by decide) (by decide)), ?_, ?_⟩
  · rw [next, State.retrim_retrimStage _ _ _ (by decide)]
    rfl
  · rw [next]
    exact Only.mono (up.append (State.retrimStage_laneOnly _ _ _)) (by simp)

theorem retrimStageDone_spareAdapt (ok : Bool) (stage : s.retrim n.val = 2) : ∃ t, exec (.retrimStageDone n ok) s = .next t ∧
    t.retrim n.val = 3 ∧ t.adapted (9 * n.val + 8) = true ∧ LaneOnly [R.LNE_RETRIMSTAT n.val] s t := by
  have next : s.retrimNext n.val p (ok && s.checkHeld n.val) = (s.setAdapted (9 * n.val + 8) true).retrimStage n.val RT.SPARE_CHECK := by
    rw [State.retrimNext, stage]
    rfl
  refine ⟨_, exec_retrimStageDone owner ok (State.retrimRuns_of stage (by decide) (by decide)), ?_, ?_, ?_⟩
  · rw [next, State.retrim_retrimStage _ _ _ (by decide)]
    rfl
  · rw [next, State.adapted_retrimStage, State.adapted_setAdapted]
  · rw [next]
    exact (s.setAdapted_laneOnly _ _ _).trans (State.retrimStage_laneOnly _ _ _)

end commands

/-! ### The end of a check of the lane (R276, R278) -/

theorem lneFailed_apart (n : Nat) : (R.LNE_FAILED n).addr ≠ (R.LNE_RETRIMSTAT n).addr ∧ (R.LNE_FAILED n).addr ≠ (R.LNE_STAT n 8).addr ∧
    (R.LNE_FAILED n).addr ≠ (R.LNE_OCTSTAT n).addr := by
  simp only [R.LNE_FAILED, R.LNE_RETRIMSTAT, R.LNE_STAT, R.LNE_OCTSTAT]
  omega

theorem octstat_apart (n : Nat) : (R.LNE_OCTSTAT n).addr ≠ (R.LNE_RETRIMSTAT n).addr ∧ (R.LNE_OCTSTAT n).addr ≠ (R.LNE_STAT n 8).addr := by
  simp only [R.LNE_RETRIMSTAT, R.LNE_STAT, R.LNE_OCTSTAT]
  omega

/-- A bit that is set is cleared by taking its value away. -/
theorem bitOf_sub_two_pow {v m : Nat} (set : bitOf v m = true) : bitOf (v - 2 ^ m) m = false := by
  have odd : v / 2 ^ m % 2 = 1 := eq_of_beq set
  have less : (v - 2 ^ m) / 2 ^ m = v / 2 ^ m - 1 := by
    have one := Nat.sub_mul_div v (2 ^ m) 1
    rwa [Nat.mul_one] at one
  rw [bitOf, less]
  exact beq_false_of_ne (by omega)

/-- A run ends in a state, with a new value of LNE_FAILED. -/
def State.retrimEnded (s : State) (n v failed : Nat) : State := (s.endRetrim n v).wr (R.LNE_FAILED n) failed

section ended
variable (s : State) (n : Nat) {v : Nat} (failed : Nat)

theorem State.retrimEnded_laneOnly (v : Nat) :
    LaneOnly [R.LNE_RETRIMSTAT n, R.LNE_FAILED n, R.LNE_STAT n 8] s (s.retrimEnded n v failed) :=
  Only.mono ((s.endRetrim_laneOnly n v).append (LaneOnly.wr (rs := [R.LNE_FAILED n]) _ _ List.mem_cons_self)) (by simp)

theorem State.retrimEnded_retrim (small : v < 16) : (s.retrimEnded n v failed).retrim n = v :=
  (State.get_congr (State.rd_wr_other _ _ _ _ (lneFailed_apart n).1.symm) _).trans (s.retrim_endRetrim n v small)

theorem State.retrimEnded_failed {m : Nat} (hm : m < 64) : bitOf ((s.retrimEnded n v failed).rd (R.LNE_FAILED n)) m = bitOf failed m := by
  rw [State.retrimEnded, State.rd_wr, bitOf_eq_testBit, Nat.testBit_mod_two_pow, decide_eq_true hm, Bool.true_and, bitOf_eq_testBit]

theorem State.retrimEnded_rxSub (v : Nat) : (s.retrimEnded n v failed).rxSub n = s.rxSub n :=
  State.get_congr ((s.retrimEnded_laneOnly n failed v).rd_eq
    (by simpa using ⟨(octstat_apart n).1, (lneFailed_apart n).2.2.symm, (octstat_apart n).2⟩)) _

end ended

section endSub
variable {s : State} (p : Nat) {n : Nat}

theorem State.endSub_idle (idle : s.rxSub n = 15) : s.endSub p n = s := if_pos idle

/-- The spare carries no lane behind the end of a substitution. -/
theorem State.endSub_rxSub : (s.endSub p n).rxSub n = 15 := by
  by_cases idle : s.rxSub n = 15
  · rw [State.endSub_idle p idle, idle]
  · rw [State.endSub, if_neg idle]
    refine (State.get_congr ((State.restSpare_laneOnly _ n false).rd_eq (by simpa using (octstat_apart n).2)) _).trans ?_
    exact State.get_put_same _ _ _ _ (by decide)

theorem State.endSub_rd {r : RegRef} (sub : r.addr ≠ (R.LNE_OCTSTAT n).addr) (spare : r.addr ≠ (R.LNE_STAT n 8).addr) :
    (s.endSub p n).rd r = s.rd r := by
  rw [State.endSub]
  split
  · rfl
  · exact ((State.restSpare_laneOnly _ n false).rd_eq (by simpa using spare)).trans (State.rd_put_other _ _ _ _ _ sub)

end endSub

section laneCheck
variable {s : State} {n : Fin 64} {m : Fin 8} {p : Nat} (owner : s.laneOwner (9 * n.val + 8) = some p) (stage : s.retrim n.val = 5)
  (lane : m.val = s.get (R.LNE_RETRIMSTAT n.val) F.LNE_RETRIMSTAT_LANE)
include owner stage lane

theorem exec_retrimStageDone_laneBad : ∃ d, exec (.retrimStageDone n false) s = .next
    ((s.retrimEnded n.val RT.LANE_FAILED (Nat.lor (s.rd (R.LNE_FAILED n.val)) (2 ^ m.val))).report FC.LANE_FAIL UK.port p 0 d 0) := by
  rw [exec_retrimStageDone owner false (State.retrimRuns_of stage (by decide) (by decide)), State.retrimNext, stage, lane]
  exact ⟨_, rfl⟩

theorem retrimStageDone_laneBad : ∃ t, exec (.retrimStageDone n false) s = .next t ∧ t.retrim n.val = 8 ∧
    bitOf (t.rd (R.LNE_FAILED n.val)) m.val = true ∧ Only [R.LNE_RETRIMSTAT n.val, R.LNE_FAILED n.val, R.LNE_STAT n.val 8]
      { s with lnk := t.lnk, reports := t.reports } t := by
  have hm := m.isLt
  obtain ⟨d, run⟩ := exec_retrimStageDone_laneBad owner stage lane
  refine ⟨_, run, ?_, ?_, ?_⟩
  · exact s.retrimEnded_retrim n.val _ (by decide)
  · rw [State.rd_report, State.retrimEnded_failed _ _ _ (by omega), bitOf_eq_testBit]
    exact (Nat.testBit_or _ _ _).trans (by rw [Nat.testBit_two_pow_self, Bool.or_true])
  · have only := s.retrimEnded_laneOnly n.val (Nat.lor (s.rd (R.LNE_FAILED n.val)) (2 ^ m.val)) RT.LANE_FAILED
    exact only.reported _ _ _ _ _ _

variable (held : s.checkHeld n.val = true)
include held

theorem exec_retrimStageDone_laneGood : exec (.retrimStageDone n true) s = .next ((s.retrimEnded n.val RT.DONE
    (if bitOf (s.rd (R.LNE_FAILED n.val)) m.val = true then s.rd (R.LNE_FAILED n.val) - 2 ^ m.val
      else s.rd (R.LNE_FAILED n.val))).endSub p n.val) := by
  rw [exec_retrimStageDone owner true (State.retrimRuns_of stage (by decide) (by decide)), held, State.retrimNext, stage, lane]
  rfl

theorem retrimStageDone_laneGood : ∃ t, exec (.retrimStageDone n true) s = .next t ∧ t.retrim n.val = 6 ∧ t.rxSub n.val = 15 ∧
    bitOf (t.rd (R.LNE_FAILED n.val)) m.val = false ∧ (s.rxSub n.val = 15 →
      LaneOnly [R.LNE_RETRIMSTAT n.val, R.LNE_FAILED n.val, R.LNE_STAT n.val 8] s t) := by
  have hm := m.isLt
  obtain ⟨ran, checked, sub⟩ := lneFailed_apart n.val
  obtain ⟨subRan, -⟩ := octstat_apart n.val
  refine ⟨_, exec_retrimStageDone_laneGood owner stage lane held, ?_, State.endSub_rxSub p, ?_, fun idle => ?_⟩
  · rw [State.retrim, State.get_congr (State.endSub_rd p subRan.symm (retrimstat_ne_spareStat n.val)), ← State.retrim,
      State.retrimEnded_retrim _ _ _ (by decide)]
    rfl
  · rw [State.endSub_rd p sub checked, State.retrimEnded_failed _ _ _ (by omega)]
    split
    · rename_i set
      exact bitOf_sub_two_pow set
    · rename_i clear
      exact Bool.eq_false_of_not_eq_true clear
  · rw [State.endSub_idle p ((s.retrimEnded_rxSub n.val _ _).trans idle)]
    exact s.retrimEnded_laneOnly _ _ _

end laneCheck

end Sys2Proof.Machine
end

section
/-!
PROOFS. PCI Express ports (R218, R231, R236, R267): a report of training shows in the registers of the port, and beside them only lanes follow it;
a retrain and the loss of the link.
-/
namespace Sys2Proof.Machine

/-! ### Lanes follow the training of their port -/

theorem LanesOnly.refl (s : State) : LanesOnly s s := ⟨rfl, fun _ => rfl⟩

theorem LanesOnly.foldl {α : Type} {f : State → α → State} {l : List α} (h : ∀ a ∈ l, ∀ s, LanesOnly s (f s a)) (s : State) :
    LanesOnly s (l.foldl f s) :=
  List.foldlRecOn (motive := LanesOnly s) l f (LanesOnly.refl s) fun _ ht a ha => ht.trans (h a ha _)

/-- The lanes of a port and of its pair are 585 at most. -/
theorem portLane_lt {s : State} {p l : Nat} (hp : p < 256) (hl : l ∈ s.portLanes p) : l < 585 := by
  obtain ⟨k, hk, rfl⟩ := List.mem_map.mp hl
  have wide : ∀ split : Fin 8, ∀ j : Fin 4, splitWidth split.val j.val ≤ 16 - 2 * j.val := by decide
  have small : s.split (octetOf p) < 8 := Nat.mod_lt _ (by decide)
  have fits : s.confWidth p ≤ 16 - 2 * (p % 4) := by
    rw [State.confWidth]
    split
    · exact Nat.zero_le _
    · exact wide ⟨_, small⟩ ⟨p % 4, Nat.mod_lt _ (by decide)⟩
  have := List.mem_range.mp hk
  have octet : octetOf p ≤ 63 := Nat.le_of_lt_succ (Nat.div_lt_of_lt_mul hp)
  unfold portLane
  omega

section pcieLane
variable (s : State) {l : Nat} (small : l < 585)
include small

theorem State.askPwr_lanes (tx : Bool) (v : Nat) : LanesOnly s (s.askPwr l tx v) :=
  (s.askPwr_laneOnly l tx v).lanes (by simpa using laneStat_ofLanes small)

theorem State.putStat_lanes (f : Fld) (v : Nat) : LanesOnly s (s.put (laneReg R.LNE_STAT l) f v) :=
  (LaneOnly.put s (rs := [laneReg R.LNE_STAT l]) f v List.mem_cons_self).lanes (by simpa using laneStat_ofLanes small)

theorem State.applyEq_lanes (pre main post : Nat) : LanesOnly s (s.applyEq l pre main post) := by
  have txeq : ∀ r ∈ [laneReg R.LNE_TXEQ l], r.ofLanes := by
    simp only [List.mem_singleton, forall_eq, RegRef.ofLanes, laneReg, R.LNE_TXEQ]
    omega
  have put (u : State) (f : Fld) (v : Nat) : LanesOnly u (u.put (laneReg R.LNE_TXEQ l) f v) :=
    (LaneOnly.put u f v List.mem_cons_self).lanes txeq
  exact ((put _ _ _).trans (put _ _ _)).trans (put _ _ _)

theorem State.pcieLane_lanes (conf w use rate : Nat) (t : PcieReport) (k : Nat) : LanesOnly s (s.pcieLane conf w use rate t l k) := by
  unfold State.pcieLane
  extract_lets m asked numbered c inv polar
  have powered : LanesOnly s asked := (s.askPwr_lanes small _ _).trans (State.askPwr_lanes _ small _ _)
  have named : LanesOnly s numbered := powered.trans (State.putStat_lanes _ small _ _)
  have wired : LanesOnly s polar := by
    unfold polar
    split
    · exact named.trans (State.putStat_lanes _ small _ _)
    · exact named
  split
  · split
    · exact wired.trans (State.applyEq_lanes _ small _ _ _)
    · split
      · exact wired.trans (State.applyEq_lanes _ small _ _ _)
      · exact wired
  · exact wired

end pcieLane

/-- Settings that come into force change no memory, and no register as it reads. -/
theorem State.laneShadows_frame (s : State) (p : Nat) : { s.laneShadows p with act := s.act } = s :=
  List.foldlRecOn (motive := fun t : State => { t with act := s.act } = s) _ _ rfl fun _ ht _ _ => ht

/-! ### What the port shows of its training (R231, R267) -/

theorem State.rd_of_regs {s t : State} (regs : t.regs = s.regs) (r : RegRef) : t.rd r = s.rd r := by
  rw [State.rd, regs, State.rd]

theorem State.role_congr {s t : State} (act : t.act = s.act) (p : Nat) : t.role p = s.role p := by
  rw [State.role, State.getAct, State.rdAct, act, State.role, State.getAct, State.rdAct]

theorem State.portPt_congr {s t : State} (act : t.act = s.act) (p : Nat) : t.portPt p = s.portPt p := by
  rw [State.portPt, State.getAct, State.rdAct, act, State.portPt, State.getAct, State.rdAct]

section report
variable (s : State) (p : Nat) (t : PcieReport)

/-- The link of the port is up. -/
def State.pcieUp : Bool :=
  t.state == LS.L0 || (s.bit (R.PRT_STATUS p) F.PRT_STATUS_LINK_UP && (t.state == 0x05 || t.state == 0x06 || t.state == LS.RECOVERY || t.state == 0x08))

/-- PRT_LINKSTAT of the port. -/
def State.pcieLinkstat : Nat :=
  s.pcieRate p t + pcieWidth (s.confWidth p) t.width * 2 ^ 3 + s.pcieL0p p (pcieWidth (s.confWidth p) t.width) t * 2 ^ 8 + bit01 t.flit * 2 ^ 13
    + t.state * 2 ^ 14 + s.get (R.PRT_LINKSTAT p) F.PRT_LINKSTAT_DOWNS * 2 ^ 32

/-- The link of the port is in the reported state, and up or not. -/
def State.pcieLinked : State :=
  (s.wr (R.PRT_LINKSTAT p) (s.pcieLinkstat p t)).put (R.PRT_STATUS p) F.PRT_STATUS_LINK_UP (bit01 (s.pcieUp p t))

/-- A retrain that was asked for has begun, and the partition of an upstream port shows its link. -/
def State.pcieShown : State :=
  let u := if t.state = LS.DETECT then s.pcieLinked p t else (s.pcieLinked p t).put (R.PRT_CTL p) F.PRT_CTL_RETRAIN 0
  if s.role p = ROLE.UPSTREAM then u.put (R.PTN_STATE (s.portPt p)) F.PTN_STATE_UPLINK (bit01 (s.pcieUp p t)) else u

/-- Shadowed lane settings come into force where the training says so. -/
def State.pcieShadowed : State :=
  if t.state = 0x01 ∨ t.state = 0x08 then (s.pcieShown p t).laneShadows p else s.pcieShown p t

theorem State.pcieTrain_eq : s.pcieTrain p t = ((s.pcieShadowed p t).portLanes p).zipIdx.foldl
    (fun u e => u.pcieLane (s.confWidth p) (pcieWidth (s.confWidth p) t.width) (s.pcieL0p p (pcieWidth (s.confWidth p) t.width) t)
      (s.pcieRate p t) t e.1 e.2) (s.pcieShadowed p t) := by
  have begun (c : Prop) [Decidable c] :
      (if c then s.pcieLinked p t else (s.pcieLinked p t).put (R.PRT_CTL p) F.PRT_CTL_RETRAIN 0).act = s.act := by
    rw [apply_ite State.act, State.put_act, State.pcieLinked, State.put_act, State.wr_act, ite_self]
  rw [State.pcieShadowed, State.pcieShown, State.pcieTrain, ← State.pcieUp, ← State.pcieLinkstat, ← State.pcieLinked, State.role_congr (begun _), State.portPt_congr (begun _)]

theorem State.pcieShadowed_eq : (s.pcieShadowed p t).regs = (s.pcieShown p t).regs ∧ (s.pcieShadowed p t).mem = (s.pcieShown p t).mem := by
  have frame := (s.pcieShown p t).laneShadows_frame p
  rw [State.pcieShadowed]
  split
  · exact ⟨(congrArg State.regs frame :), (congrArg State.mem frame :)⟩
  · exact ⟨rfl, rfl⟩

/-- Beside the lanes, the registers read as the port shows them. -/
theorem State.pcieTrain_rd (hp : p < 256) {r : RegRef} (out : ¬ r.ofLanes) : (s.pcieTrain p t).rd r = (s.pcieShown p t).rd r := by
  rw [State.pcieTrain_eq]
  refine ((LanesOnly.foldl (fun e he u => u.pcieLane_lanes ?_ _ _ _ _ _ _) _).rd_eq out).trans
    (State.rd_of_regs (s.pcieShadowed_eq p t).1 r)
  exact portLane_lt hp (List.mem_of_getElem? (List.mem_zipIdx_iff_getElem?.mp he))

theorem State.pcieTrain_mem (hp : p < 256) : (s.pcieTrain p t).mem = s.mem := by
  have shown : (s.pcieShown p t).mem = s.mem := by
    rw [State.pcieShown, apply_ite State.mem, State.put_mem, ite_self, apply_ite State.mem, State.put_mem, ite_self, State.pcieLinked,
      State.put_mem, State.wr_mem]
  rw [State.pcieTrain_eq]
  have lanes := LanesOnly.foldl (l := ((s.pcieShadowed p t).portLanes p).zipIdx) (fun e he u => u.pcieLane_lanes
    (portLane_lt hp (List.mem_of_getElem? (List.mem_zipIdx_iff_getElem?.mp he))) (s.confWidth p) (pcieWidth (s.confWidth p) t.width)
      (s.pcieL0p p (pcieWidth (s.confWidth p) t.width) t) (s.pcieRate p t) t e.2) (s.pcieShadowed p t)
  exact ((congrArg State.mem lanes.frame :).trans (s.pcieShadowed_eq p t).2).trans shown

end report

/-! ### Fields of PRT_LINKSTAT -/

section linkstat
variable {s : State} {p : Nat} {t : PcieReport}

theorem pcieWidth_le (conf w : Nat) : pcieWidth conf w ≤ 16 := by
  rw [pcieWidth]
  cases found : [16, 8, 4, 2, 1].find? (fun v => decide (v ≤ conf) && decide (v ≤ w)) with
  | none => exact Nat.zero_le _
  | some v =>
    have place := List.mem_of_find?_eq_some found
    simp only [List.mem_cons, List.not_mem_nil, or_false] at place
    rw [Option.getD_some]
    omega

theorem State.pcieRate_lt (s : State) (p : Nat) (t : PcieReport) : s.pcieRate p t < 8 := by
  rw [State.pcieRate]
  split
  · decide
  · split
    · split <;> omega
    · exact Nat.mod_lt _ (by decide)

theorem State.pcieL0p_lt (s : State) (p w : Nat) {t : PcieReport} (small : t.l0p ≤ 16) (hw : w ≤ 16) : s.pcieL0p p w t < 32 := by
  rw [State.pcieL0p]
  split <;> omega

/-- The fields of PRT_LINKSTAT stand side by side in its 64 bits. -/
theorem linkstat_fields {rate w use flit st downs v : Nat} (hr : rate < 8) (hw : w < 32) (hu : use < 32) (hf : flit < 2) (hs : st < 64)
    (hd : downs < 2 ^ 32) (hv : v = rate + w * 2 ^ 3 + use * 2 ^ 8 + flit * 2 ^ 13 + st * 2 ^ 14 + downs * 2 ^ 32) :
    v < 2 ^ 64 ∧ fieldOf v 0 3 = rate ∧ fieldOf v 3 5 = w ∧ fieldOf v 13 1 = flit ∧ fieldOf v 14 6 = st := by
  simp only [fieldOf]
  omega

variable (hp : p < 256) (state : t.state < 12) (l0p : t.l0p ≤ 16)
include hp

theorem State.pcieShown_linkstat : (s.pcieShown p t).rd (R.PRT_LINKSTAT p) = s.pcieLinkstat p t % 2 ^ 64 := by
  have status : (R.PRT_LINKSTAT p).addr ≠ (R.PRT_STATUS p).addr := by simp [R.PRT_LINKSTAT, R.PRT_STATUS]
  have ctl : (R.PRT_LINKSTAT p).addr ≠ (R.PRT_CTL p).addr := by simp [R.PRT_LINKSTAT, R.PRT_CTL]
  have state (pt : Nat) : (R.PRT_LINKSTAT p).addr ≠ (R.PTN_STATE pt).addr := by
    simp only [R.PRT_LINKSTAT, R.PTN_STATE]
    omega
  have linked : (s.pcieLinked p t).rd (R.PRT_LINKSTAT p) = s.pcieLinkstat p t % 2 ^ 64 := by
    rw [State.pcieLinked, State.rd_put_other _ _ _ _ _ status, State.rd_wr]
  rw [State.pcieShown]
  split
  · rw [State.rd_put_other _ _ _ _ _ (state _)]
    split
    · exact linked
    · rw [State.rd_put_other _ _ _ _ _ ctl, linked]
  · split
    · exact linked
    · rw [State.rd_put_other _ _ _ _ _ ctl, linked]

include state l0p

theorem State.pcieTrain_linkstat : (s.pcieTrain p t).get (R.PRT_LINKSTAT p) F.PRT_LINKSTAT_STATE = t.state ∧
    (s.pcieTrain p t).get (R.PRT_LINKSTAT p) F.PRT_LINKSTAT_WIDTH = pcieWidth (s.confWidth p) t.width ∧
    (s.pcieTrain p t).bit (R.PRT_LINKSTAT p) F.PRT_LINKSTAT_FLIT = t.flit ∧
    (s.pcieTrain p t).get (R.PRT_LINKSTAT p) F.PRT_LINKSTAT_RATE = s.pcieRate p t := by
  have out : ¬ (R.PRT_LINKSTAT p).ofLanes := by
    simp only [RegRef.ofLanes, R.PRT_LINKSTAT]
    omega
  have width := pcieWidth_le (s.confWidth p) t.width
  have flit : bit01 t.flit < 2 := by cases t.flit <;> decide
  obtain ⟨fits, rateF, widthF, flitF, stateF⟩ := linkstat_fields (s.pcieRate_lt p t) (show _ < 32 by omega) (s.pcieL0p_lt p _ l0p width) flit
    (show t.state < 64 by omega) (Nat.mod_lt _ (by decide) : s.get (R.PRT_LINKSTAT p) F.PRT_LINKSTAT_DOWNS < 2 ^ 32)
    (rfl : s.pcieLinkstat p t = _)
  have read : (s.pcieTrain p t).rd (R.PRT_LINKSTAT p) = s.pcieLinkstat p t := by
    rw [State.pcieTrain_rd _ _ _ hp out, State.pcieShown_linkstat hp, Nat.mod_eq_of_lt fits]
  have field (f : Fld) : (s.pcieTrain p t).get (R.PRT_LINKSTAT p) f = fieldOf (s.pcieLinkstat p t) f.lo f.w := by rw [State.get, read]
  refine ⟨(field _).trans stateF, (field _).trans widthF, ?_, (field _).trans rateF⟩
  rw [State.bit, field]
  refine (congrArg (· == 1) flitF).trans ?_
  cases t.flit <;> rfl

end linkstat

/-! ### LINK_UP, RETRAIN and UPLINK -/

section up
variable {s : State} {p : Nat} {t : PcieReport} (hp : p < 256)
include hp

theorem State.pcieTrain_retrain (moving : t.state ≠ LS.DETECT) : (s.pcieTrain p t).bit (R.PRT_CTL p) F.PRT_CTL_RETRAIN = false := by
  have out : ¬ (R.PRT_CTL p).ofLanes := by
    simp only [RegRef.ofLanes, R.PRT_CTL]
    omega
  have state (pt : Nat) : (R.PRT_CTL p).addr ≠ (R.PTN_STATE pt).addr := by
    simp only [R.PRT_CTL, R.PTN_STATE]
    omega
  rw [State.bit_congr (State.pcieTrain_rd _ _ _ hp out), State.pcieShown, if_neg moving]
  split
  · rw [State.bit_put_other _ _ _ _ _ _ (state _), State.bit_put_zero _ _ _ (by decide) rfl]
  · exact State.bit_put_zero _ _ _ (by decide) rfl

theorem State.pcieTrain_up (active : t.state = LS.L0) : (s.pcieTrain p t).bit (R.PRT_STATUS p) F.PRT_STATUS_LINK_UP = true ∧
    (s.role p = ROLE.UPSTREAM → (s.pcieTrain p t).bit (R.PTN_STATE (s.portPt p)) F.PTN_STATE_UPLINK = true) := by
  have outStatus : ¬ (R.PRT_STATUS p).ofLanes := by
    simp only [RegRef.ofLanes, R.PRT_STATUS]
    omega
  have outState : ¬ (R.PTN_STATE (s.portPt p)).ofLanes := by
    simp only [RegRef.ofLanes, R.PTN_STATE]
    omega
  have ctl : (R.PRT_STATUS p).addr ≠ (R.PRT_CTL p).addr := by simp [R.PRT_STATUS, R.PRT_CTL]
  have state : (R.PRT_STATUS p).addr ≠ (R.PTN_STATE (s.portPt p)).addr := by
    simp only [R.PRT_STATUS, R.PTN_STATE]
    omega
  have up : s.pcieUp p t = true := by rw [State.pcieUp, active, beq_self_eq_true, Bool.true_or]
  have moving : ¬ t.state = LS.DETECT := by rw [active]; decide
  have linked : ((s.pcieLinked p t).put (R.PRT_CTL p) F.PRT_CTL_RETRAIN 0).bit (R.PRT_STATUS p) F.PRT_STATUS_LINK_UP = true := by
    rw [State.bit_put_other _ _ _ _ _ _ ctl, State.pcieLinked, State.bit_put_bit01 _ _ _ _ (by decide) rfl, up]
  rw [State.bit_congr (State.pcieTrain_rd _ _ _ hp outStatus), State.bit_congr (State.pcieTrain_rd _ _ _ hp outState), State.pcieShown,
    if_neg moving]
  constructor
  · split
    · rw [State.bit_put_other _ _ _ _ _ _ state, linked]
    · exact linked
  · intro upstream
    rw [if_pos upstream, State.bit_put_bit01 _ _ _ _ (by decide) rfl, up]

end up

/-! ### PCIE_TRAINING -/

section training
variable {s : State} {p : Fin 256} {st : Fin 12} {r : Fin 6} {w z : Fin 17} {fl rv : Bool} {l : PcieLanes} {x : PcieReport}
  (hx : x = ⟨st.val, r.val, w.val, z.val, fl, rv, l.invert.toNat, l.eq.map (fun e => (e.1.val, e.2.1.val, e.2.2.val)), l.l0sTx, l.l0sRx⟩)
include hx

theorem exec_pcieTraining_refused (h : s.portUsed p.val = false ∨ s.bit (R.PRT_CTL p.val) F.PRT_CTL_ENABLE = false ∨ s.blockReset 7 = true ∨
    s.pcieRefused p.val x = true ∨ s.bit (R.PRT_STATUS p.val) F.PRT_STATUS_TRIM_WAIT = true ∨
    (s.portHeld p.val = true ∧ st.val ≠ LS.DISABLED)) : exec (.pcieTraining p st r w z fl rv l) s = .next s := by
  subst hx
  refine if_pos ?_
  simp only [Bool.or_eq_true, Bool.and_eq_true, Bool.not_eq_true', bne_iff_ne]
  obtain unused | off | reset | refused | trim | held := h
  · exact .inl (.inl (.inl (.inl (.inl (.inl (.inr unused))))))
  · exact .inl (.inl (.inl (.inl (.inl (.inr off)))))
  · exact .inl (.inl (.inl (.inr reset)))
  · exact .inl (.inr refused)
  · exact .inl (.inl (.inr trim))
  · exact .inl (.inl (.inl (.inl (.inr held))))

theorem exec_pcieTraining (pcie : s.caneMode p.val = false) (used : s.portUsed p.val = true) (enabled : s.bit (R.PRT_CTL p.val) F.PRT_CTL_ENABLE = true)
    (free : s.portHeld p.val = false ∨ st.val = LS.DISABLED) (out : s.blockReset 7 = false)
    (trimmed : s.bit (R.PRT_STATUS p.val) F.PRT_STATUS_TRIM_WAIT = false) (allowed : s.pcieRefused p.val x = false)
    (clock : s.bit R.EMB_STATUS F.EMB_STATUS_REFCLK_OK = true) :
    exec (.pcieTraining p st r w z fl rv l) s = .next (s.pcieTrain p.val x) := by
  have lifted : (s.portHeld p.val && st.val != LS.DISABLED) = false := by
    obtain lifted | disabled := free
    · rw [lifted, Bool.false_and]
    · rw [disabled, bne_self_eq_false, Bool.and_false]
  subst hx
  refine if_neg ?_
  rw [pcie, used, enabled, lifted, out, trimmed, allowed, clock]
  exact Bool.false_ne_true

end training

/-! ### The loss of a link -/

theorem Only.emitted {rs : List RegRef} {s t : State} (h : Only rs s t) (o : Out) :
    Only rs { s with out := (t.emit o).out } (t.emit o) :=
  ⟨(congrArg (fun x : State => { x with out := (t.emit o).out }) h.1 :), h.2⟩

section linkLost
variable (s : State) (p : Nat)

theorem State.linkLost_frame : (s.linkLost p).act = s.act ∧ (s.linkLost p).prt = s.prt ∧ (s.linkLost p).cru = s.cru ∧
    (s.linkLost p).can = s.can ∧ (s.linkLost p).reports = s.reports ∧ (s.linkLost p).now = s.now := by
  rw [State.linkLost, State.bump, State.put_act, State.put_act, State.put_prt, State.put_prt, State.put_cru, State.put_cru, State.put_can,
    State.put_can, State.put_reports, State.put_reports, State.put_now, State.put_now]
  exact ⟨rfl, rfl, rfl, rfl, rfl, rfl⟩

theorem status_ne_linkstat : (R.PRT_STATUS p).addr ≠ (R.PRT_LINKSTAT p).addr := by
  simp only [R.PRT_STATUS, R.PRT_LINKSTAT]
  omega

theorem State.linkLost_held : (s.linkLost p).portHeld p = s.portHeld p := by
  rw [State.portHeld, State.linkLost, State.bit_put_field _ _ _ _ _ (by decide) (by decide), State.bump,
    State.bit_put_other _ _ _ _ _ _ (status_ne_linkstat p), State.portHeld]

theorem State.linkLost_caneMode (hp : p < 256) : (s.linkLost p).caneMode p = s.caneMode p := by
  rw [State.caneMode, State.linkLost, State.bit_put_other _ _ _ _ _ _ (octcfg_ne_status hp), State.bump,
    State.bit_put_other _ _ _ _ _ _ (octcfg_ne_linkstat hp), State.caneMode]

theorem State.linkLost_down : (s.linkLost p).bit (R.PRT_STATUS p) F.PRT_STATUS_LINK_UP = false := by
  rw [State.linkLost, State.bit_put_zero _ _ _ (by decide) rfl]

end linkLost

/-! ### PORT_RETRAIN and PORT_DOWN (R236, R297, R303) -/

section port
variable {s : State} {p : Fin 256}

section pcie
variable (pcie : s.caneMode p.val = false)
include pcie

theorem exec_portRetrain_other (other : s.linkState p.val ≠ LS.L0) : exec (.portRetrain p) s = .next s :=
  (if_neg (by rw [pcie]; exact Bool.false_ne_true)).trans (if_neg other)

theorem portRetrain_starts (active : s.linkState p.val = LS.L0) : ∃ t, exec (.portRetrain p) s = .next t ∧ t.linkState p.val = LS.RECOVERY ∧
    t.bit (R.PRT_CTL p.val) F.PRT_CTL_RETRAIN = false ∧ t.out = .link p.val LK.RETRAIN :: s.out ∧
    Only [R.PRT_LINKSTAT p.val, R.PRT_CTL p.val] { s with out := t.out } t := by
  have apart : (R.PRT_LINKSTAT p.val).addr ≠ (R.PRT_CTL p.val).addr := by simp [R.PRT_LINKSTAT, R.PRT_CTL]
  have ctl : (R.PRT_OCTCFG (octetOf p.val)).addr ≠ (R.PRT_CTL p.val).addr := by
    have := p.isLt
    simp only [R.PRT_OCTCFG, R.PRT_CTL]
    omega
  have mode : ((s.setLinkState p.val LS.RECOVERY).put (R.PRT_CTL p.val) F.PRT_CTL_RETRAIN 0).caneMode p.val = false := by
    rw [State.caneMode, State.bit_put_other _ _ _ _ _ _ ctl, State.setLinkState, State.bit_put_other _ _ _ _ _ _ (octcfg_ne_linkstat p.isLt)]
    exact pcie
  have only : Only [R.PRT_LINKSTAT p.val, R.PRT_CTL p.val] s ((s.setLinkState p.val LS.RECOVERY).put (R.PRT_CTL p.val) F.PRT_CTL_RETRAIN 0) :=
    (Only.put _ _ _ _ _ List.mem_cons_self).trans (Only.put _ _ _ _ _ (by simp))
  refine ⟨_, (if_neg (by rw [pcie]; exact Bool.false_ne_true)).trans (if_pos active), ?_, ?_, ?_, only.emitted _⟩
  · rw [State.linkState_emit, State.linkState_pcie mode, State.get_put_other _ _ _ _ _ _ apart, State.setLinkState,
      State.get_put_same _ _ _ _ (by decide)]
    rfl
  · rw [State.bit_emit, State.bit_put_zero _ _ _ (by decide) rfl]
  · rw [State.emit, State.put_out, State.setLinkState, State.put_out]

theorem exec_portDown_other (other : s.role p.val ≠ ROLE.DOWNSTREAM) : exec (.portDown p) s = .next s :=
  (if_neg (by rw [pcie]; exact Bool.false_ne_true)).trans (if_pos (.inl other))

variable (down : s.role p.val = ROLE.DOWNSTREAM) (up : s.bit (R.PRT_STATUS p.val) F.PRT_STATUS_LINK_UP = true)
include down up

theorem exec_portDown : exec (.portDown p) s =
    .next (((s.linkLost p.val).holdPort p.val 2 dpcByHold).report FC.PORT_DOWN UK.port p.val 0 0 0) := by
  refine (if_neg (by rw [pcie]; exact Bool.false_ne_true)).trans (if_neg ?_)
  rintro (other | lost)
  · exact other down
  · rw [up] at lost
    cases lost

/-- At rest the loss of the link only marks the port and its bridge, directs the link and is reported. -/
theorem portDown_quiet (lifted : s.portHeld p.val = false) (quiet : s.noTraffic)
    (int : bitOf (SMap.get (s.bridge (s.portBridge p.val)).raw 0 0x154) 19 = false) : ∃ t, exec (.portDown p) s = .next t ∧
      t.portHeld p.val = true ∧ t.get (R.PRT_STATUS p.val) F.PRT_STATUS_HOLD_SRC = 2 ∧
      t.bit (R.PRT_STATUS p.val) F.PRT_STATUS_LINK_UP = false ∧
      t.reports = s.reports ++ [⟨FC.PORT_DOWN, UK.port, p.val, 0, 0, 0, s.now, false⟩] := by
  have held := (s.linkLost_held p.val).trans lifted
  have mode := (s.linkLost_caneMode p.val p.isLt).trans pcie
  have lost := s.linkLost_down p.val
  obtain ⟨act, prt, cru, can, reports, now⟩ := s.linkLost_frame p.val
  rw [exec_portDown pcie down up]
  generalize s.linkLost p.val = u at *
  have calm : u.noTraffic := by
    rw [State.noTraffic, cru, can, prt]
    exact quiet
  have hold := State.holdPort_quiet (s := u) 2 dpcByHold p.isLt held mode calm
  have acts : ((u.markHeld p.val 2).emit (.link p.val LK.DISABLED)).act = s.act := by
    rw [State.emit_act, State.markHeld, State.put_act, State.setBit, State.put_act, act]
  have prts : ((u.markHeld p.val 2).emit (.link p.val LK.DISABLED)).prt = s.prt := by
    rw [State.emit_prt, State.markHeld, State.put_prt, State.setBit, State.put_prt, prt]
  have down' := (State.role_congr acts p.val).trans down
  have int' : bitOf (SMap.get (((u.markHeld p.val 2).emit (.link p.val LK.DISABLED)).bridge
      (((u.markHeld p.val 2).emit (.link p.val LK.DISABLED)).portBridge p.val)).raw 0 0x154) 19 = false := by
    rwa [State.portBridge, State.portPt_congr acts, State.bridge, prts]
  dsimp only at hold
  rw [hold, if_pos down', State.dpcTrigger_noInt ((u.markHeld p.val 2).emit (.link p.val LK.DISABLED)) _ _ int']
  generalize { ((u.markHeld p.val 2).emit (.link p.val LK.DISABLED)).bridge _ with dpcTrig := true, dpcReason := dpcByHold } = b
  have read (c k i o d a key : Nat) := State.rd_of_regs (s := u.markHeld p.val 2) (t := (((u.markHeld p.val 2).emit
    (.link p.val LK.DISABLED)).setBridge key b).report c k i o d a) (by rw [State.report_regs, State.setBridge_regs, State.emit_regs])
  refine ⟨_, rfl, ?_, ?_, ?_, ?_⟩
  · rw [State.portHeld, State.bit_congr (read _ _ _ _ _ _ _ _), State.markHeld, State.bit_put_field _ _ _ _ _ (by decide) (by decide),
      State.bit_setBit _ _ _ (by decide) rfl]
  · rw [State.get_congr (read _ _ _ _ _ _ _ _), State.markHeld, State.get_put_same _ _ _ _ (by decide)]
    rfl
  · rw [State.bit_congr (read _ _ _ _ _ _ _ _), State.markHeld, State.bit_put_field _ _ _ _ _ (by decide) (by decide), State.setBit,
      State.bit_put_field _ _ _ _ _ (by decide) (by decide), lost]
  · rw [State.report, State.setBridge_reports, State.emit_reports, State.setBridge_now, State.emit_now, State.markHeld, State.put_reports,
      State.put_now, State.setBit, State.put_reports, State.put_now, reports, now]

end pcie

section cane
variable (cane : s.caneMode p.val = true)
include cane

theorem exec_portRetrain_cane (active : s.linkState p.val = CN.ACTIVE) (rests : (s.cane p.val).ownRetrain = none) :
    exec (.portRetrain p) s = .next (s.askRetrain p.val (s.caneWidth p.val) (s.caneRate p.val) false) :=
  (if_pos cane).trans (if_pos ⟨active, by rw [rests]; rfl⟩)

theorem exec_portDown_cane_enabled (enabled : s.bit (R.PRT_CTL p.val) F.PRT_CTL_ENABLE = true) : exec (.portDown p) s = .next s :=
  (if_pos cane).trans (congrArg Host.Outcome.next (if_pos enabled))

theorem exec_portDown_cane (off : s.bit (R.PRT_CTL p.val) F.PRT_CTL_ENABLE = false) : exec (.portDown p) s = .next (s.linkFails p.val 11) :=
  (if_pos cane).trans (congrArg Host.Outcome.next (if_neg (by rw [off]; exact Bool.false_ne_true)))

end cane

end port

end Sys2Proof.Machine
end

section
/-!
PROOFS. O52: the lanes of R264, R270 to R273 and R276 to R280, and the ports that train on them.
-/
namespace Sys2Proof.Machine

/-- Settles O52, clause by clause: power, adaptation and lock, failures, re-trim runs, margining, and the training of ports. -/
theorem lanesChangePowerAdaptFailRetrimAndMargin : Obligations.LanesChangePowerAdaptFailRetrimAndMargin := by
  unfold Obligations.LanesChangePowerAdaptFailRetrimAndMargin
  refine ⟨?power, ?adapt, ?fail, ?retrim, ?margin, ?pcie, ?cane⟩
  case power =>
    intro s n i tx l hl
    refine ⟨fun on => ⟨fun idle => ⟨fun v enter => ⟨lanePower_enters hl on idle enter, fun off low => ?waits⟩, ?idle⟩, fun e asleep => ?leave,
      fun e awake => ?awake, rfl, fun exits v enter => ?queued, lanePower_exits hl on, fun v => lanePower_exits_to hl on⟩,
      lanePower_stays_off hl⟩
    case waits => rw [exec_lanePowerRequest_enter, ← hl, State.askPwr_waits on enter (.inr ⟨off, low⟩)]
    case idle => rw [exec_lanePowerExitDone, ← hl, State.exitDone_idle idle]
    case leave => rw [exec_lanePowerRequest_leave, ← hl, State.askPwr_leave on asleep]
    case awake => rw [exec_lanePowerRequest_leave, ← hl, State.askPwr_awake on awake]
    case queued => rw [exec_lanePowerRequest_enter, ← hl, State.askPwr_waits on enter (.inl exits)]
  case adapt =>
    intro s u n i hs taps l hl all hu
    have small : l < 585 := by
      have := n.isLt
      have := i.isLt
      omega
    have dfe : R.LNE_DFE n.val i.val = laneReg R.LNE_DFE l := by rw [hl, laneReg_eq _ _ i.isLt]
    have ctl : R.LNE_CTL n.val i.val = laneReg R.LNE_CTL l := by rw [hl, laneReg_eq _ _ i.isLt]
    refine ⟨State.adapt_adapted hu, ?only, fun auto => ⟨?best, fun j hj => ?largest⟩, fun override => ?override, fun p owner pam => ?pam4,
      fun p owner nrz => ?nrz, fun asleep => ⟨exec_adaptationDone_asleep hl asleep, exec_clockRecoveryLock_asleep hl asleep⟩,
      exec_adaptationDone_background hl, fun awake => ⟨exec_adaptationDone_unowned hl awake hu, fun p =>
        exec_adaptationDone_owned hl awake hu, fun clock => ⟨exec_clockRecoveryLock_unowned hl awake clock, fun p =>
          exec_clockRecoveryLock_owned hl awake clock⟩⟩, fun spare cane warm free rests => ?spare⟩
    case only =>
      rw [laneStat_eq hl, dfe]
      exact State.adapt_laneOnly hu
    case best =>
      rw [ctl] at auto
      rw [laneStat_eq hl, State.adapt_ctle hu all, State.ctleStep, auto, if_neg Bool.false_ne_true]
    case largest => exact (bestStep_spec (List.ne_nil_of_length_eq_add_one all)).2 j (all ▸ hj)
    case override =>
      rw [ctl] at override ⊢
      rw [laneStat_eq hl, State.adapt_ctle hu all, State.ctleStep, override, if_pos rfl]
    case pam4 =>
      rw [dfe, ctl]
      exact State.adapt_dfe_pam4 hu small owner taps.isLt pam
    case nrz =>
      rw [dfe]
      exact State.adapt_dfe_nrz hu small owner nrz
    case spare =>
      rw [spare] at hl
      rw [hl] at rests hu
      rw [hu, exec_spareReadapt hs taps cane warm free rests]
  case fail =>
    intro s n i l hl
    refine ⟨exec_lockLoss_unlocked hl, fun locked => ⟨lockLoss_unowned hl locked, fun p => exec_lockLoss_follows hl locked, fun p =>
      lockLoss_pcie hl locked⟩, fun c free start => ⟨fun few => ?few, fun many => ?many⟩⟩
    case few =>
      rw [exec_failWindowEnd hl c free start, if_neg (Nat.not_lt.mpr few), laneErrcnt_eq hl]
      exact ⟨_, rfl, State.windowCounted_lowmargin c, State.windowCounted_laneOnly c⟩
    case many =>
      rw [exec_failWindowEnd hl c free start, if_pos many, laneErrcnt_eq hl]
      exact ⟨_, rfl, State.windowCounted_lowmargin c⟩
  case retrim =>
    intro s n m
    refine ⟨exec_retrimStart_refused, retrimStart_begins, retrimAbort_ends, fun idle => ⟨exec_retrimAbort_idle idle, fun ok =>
      exec_retrimStageDone_idle ok idle⟩, fun p owner ok => ⟨retrimStageDone_spareUp owner ok, retrimStageDone_spareAdapt owner ok,
        fun stage held lane => ⟨?bad, ?good⟩⟩⟩
    case bad =>
      rintro rfl
      exact retrimStageDone_laneBad owner stage lane
    case good =>
      rintro rfl
      exact retrimStageDone_laneGood owner stage lane (State.checkHeld_of held)
  case margin =>
    intro s n i l e hl
    exact ⟨marginRun_holds hl, exec_marginRun_busy hl, fun held => ⟨marginAbort_ends hl held, marginRunDone_counts hl e held,
      exec_marginRunDone_asleep hl e⟩, fun other => ⟨exec_marginAbort_other hl other, exec_marginRunDone_other hl other e,
        exec_laneMarginCommand_free hl other⟩, exec_laneMarginCommand_held hl, exec_laneMarginCommand_release hl,
      exec_laneMarginCommand_release_other hl⟩
  case pcie =>
    intro s p pcie
    refine ⟨fun st r w z fl rv l x hx => ⟨exec_pcieTraining_refused hx, fun used enabled free out trimmed allowed clock => ?trains⟩,
      portRetrain_starts pcie, exec_portRetrain_other pcie, exec_portDown_other pcie, exec_portDown pcie, portDown_quiet pcie⟩
    case trains =>
      have run := exec_pcieTraining hx pcie used enabled free out trimmed allowed clock
      have state : x.state = st.val := by rw [hx]
      have width : x.width = w.val := by rw [hx]
      have flit : x.flit = fl := by rw [hx]
      have rate : x.rate = r.val := by rw [hx]
      obtain ⟨stateF, widthF, flitF, rateF⟩ := State.pcieTrain_linkstat (s := s) (t := x) p.isLt (by rw [state]; exact st.isLt)
        (by rw [hx]; exact Nat.le_of_lt_succ z.isLt)
      rw [state] at stateF
      rw [width] at widthF
      rw [flit] at flitF
      refine ⟨_, run, rfl, stateF, widthF, flitF, fun down => ?_, fun up recovery => ?_, fun moving => ?_, fun active => ?_,
        s.pcieTrain_mem p.val x p.isLt⟩
      · rw [rateF, State.pcieRate, down, if_pos Bool.not_false]
      · rw [rateF, State.pcieRate, up, if_neg (by decide), if_pos (.inl (state.trans recovery)), rate, flit]
      · exact State.pcieTrain_retrain p.isLt (state ▸ moving)
      · exact State.pcieTrain_up p.isLt (state.trans active)
  case cane =>
    intro s p cane
    exact ⟨exec_portRetrain_cane cane, exec_portDown_cane_enabled cane, exec_portDown_cane cane⟩

end Sys2Proof.Machine
end

section
/-!
PROOFS. Messages and commands of a cane link (R275, R287, R293 to R296, R303): retrain, substitution and standby of a link whose other exchanges
rest. An accepted message leaves the inbox, and what it then does is one update of the port.
-/
namespace Sys2Proof.Machine

/-! ### The record of a port -/

theorem State.setCane_setCane (s : State) (p : Nat) (c d : Cane) : (s.setCane p c).setCane p d = s.setCane p d := by
  simp only [State.setCane, SMap.set_set]

@[simp] theorem State.rd_setCane (s : State) (p : Nat) (c : Cane) (r : RegRef) : (s.setCane p c).rd r = s.rd r := rfl
@[simp] theorem State.cane_put (s : State) (r : RegRef) (f : Fld) (v p : Nat) : (s.put r f v).cane p = s.cane p := rfl

theorem State.cane_askPwr (s : State) (l : Nat) (tx : Bool) (v p : Nat) : (s.askPwr l tx v).cane p = s.cane p := by
  have can : (s.askPwr l tx v).can = s.can := (congrArg State.can (s.askPwr_laneOnly l tx v).1 :)
  rw [State.cane, can, State.cane]

theorem State.postMsg_eq (s : State) (p m : Nat) : s.postMsg p m = s.setCane p { s.cane p with outbox := (s.cane p).outbox ++ [m] } := rfl

/-- Beside the registers, only records of ports change. -/
theorem Only.setCane {rs : List RegRef} {s t : State} (h : Only rs s t) (p : Nat) (c : Cane) :
    Only rs { s with can := (t.setCane p c).can } (t.setCane p c) :=
  ⟨(congrArg (fun x : State => { x with can := (t.setCane p c).can }) h.1 :), h.2⟩

theorem Only.rd_of_can {rs : List RegRef} {s t : State} {can : Can} (h : Only rs { s with can := can } t) {r : RegRef}
    (apart : ∀ x ∈ rs, r.addr ≠ x.addr) : t.rd r = s.rd r := h.2 r apart

/-- What chooses lanes and spares does not read the record of a port. -/
@[simp] theorem State.spareOctet_setCane (s : State) (p q m : Nat) (c : Cane) : (s.setCane p c).spareOctet q m = s.spareOctet q m := rfl
@[simp] theorem State.octLane_setCane (s : State) (p q m : Nat) (c : Cane) : (s.setCane p c).octLane q m = s.octLane q m := rfl
@[simp] theorem State.spareServes_setCane (s : State) (p q m : Nat) (c : Cane) : (s.setCane p c).spareServes q m = s.spareServes q m := rfl
@[simp] theorem State.spareServing_setCane (s : State) (p q m : Nat) (c : Cane) : (s.setCane p c).spareServing q m = s.spareServing q m := rfl
@[simp] theorem State.txSub_setCane (s : State) (p n : Nat) (c : Cane) : (s.setCane p c).txSub n = s.txSub n := rfl
@[simp] theorem State.rateCode_setCane (s : State) (p r : Nat) (c : Cane) : (s.setCane p c).rateCode r = s.rateCode r := rfl

/-- An accepted message is taken out of the inbox and acted on. -/
theorem State.onMsg_accepts {s : State} {p code m : Nat} {rest : List Nat} (h : Claims.accepts s p code m rest) (f : State → Nat → State) :
    s.onMsg p code f = f (s.setCane p { s.cane p with inbox := rest }) m := by
  obtain ⟨inbox, coded, flows⟩ := h
  have taken : s.takeMsg p code = (some m, s.setCane p { s.cane p with inbox := rest }) := by
    rw [State.takeMsg, inbox]
    exact if_pos coded
  have runs : s.caneRuns p = true := by
    rw [State.caneRuns, Bool.or_eq_true, beq_iff_eq, beq_iff_eq]
    exact flows
  rw [State.onMsg, taken]
  exact if_pos runs

theorem no_ownRetrain {s : State} {p : Nat} (own : (s.cane p).ownRetrain = none) (rest : List Nat) :
    ¬ (((s.setCane p { s.cane p with inbox := rest }).cane p).ownRetrain.isSome = true) := by
  rw [State.cane_setCane]
  simp [own]

/-! ### Messages (R293 to R296, R303) -/

section messages
variable {s : State} {p : Fin 256} {m : Nat} {rest : List Nat} {c : Cane} (hc : c = s.cane p.val)
include hc

theorem exec_retrainReq (h : Claims.accepts s p.val LM.RETRAIN_REQ m rest) (own : c.ownRetrain = none) (rx : c.subRx = []) (tx : c.subTx = []) :
    exec (.retrainReq p) s = .next (s.setCane p.val { c with
      inbox := rest, newWidth := lmWidth m, newRate := s.rateCode (lmRate m), newEq := lmEq m, waitRetrain := none
      outbox := c.outbox ++ [lmWord LM.RETRAIN_ACK 0 0 false 0 0 0] }) := by
  subst hc
  change execRetrainReq p s = _
  rw [execRetrainReq, State.onMsg_accepts h]
  refine congrArg Host.Outcome.next ((if_neg (no_ownRetrain own rest)).trans ?_)
  simp only [State.cane_setCane, rx, tx, Bool.false_eq_true, if_false, List.filter_nil, List.isEmpty_nil, Bool.not_true,
    Bool.false_and, List.foldl_nil, Cane.exchanging, List.any_nil, Bool.or_false, State.answerRetrain, State.postMsg_eq, State.setCane_setCane,
    State.rateCode_setCane]

theorem exec_retrainAck (h : Claims.accepts s p.val LM.RETRAIN_ACK m rest) {m' : Nat} (own : c.ownRetrain = some m') :
    exec (.retrainAck p) s = .next ((s.setCane p.val { c with inbox := rest }).enterRetrain p.val (lmWidth m') (lmRate m') (lmEq m')) := by
  subst hc
  change execRetrainAck p s = _
  rw [execRetrainAck, State.onMsg_accepts h]
  simp only [State.cane_setCane, own]

section subReq
variable (h : Claims.accepts s p.val LM.SUB_REQ m rest) (own : c.ownRetrain = none) (serves : s.spareServing p.val (lmLane m) = true)
include h own serves

theorem exec_subReq {n : Nat} (hn : n = s.spareOctet p.val (lmLane m)) (free : s.txSub n = 0xF) : exec (.subReq p) s =
    .next (((((s.setCane p.val { c with inbox := rest }).askPwr (9 * n + 8) true PWR.ACTIVE).setTxSub n (s.octLane p.val (lmLane m))).setCane
      p.val { c with inbox := rest, subTx := c.subTx ++ [⟨lmLane m, n, false, false⟩] }).emit (.link p.val (LK.WORDS 7))) := by
  subst hc hn
  change execSubReq p s = _
  rw [execSubReq, State.onMsg_accepts h]
  refine congrArg Host.Outcome.next ((if_neg (no_ownRetrain own rest)).trans ?_)
  simp only [State.cane_setCane, Bool.false_eq_true, if_false, State.spareServing_setCane, serves, Bool.not_true,
    Bool.false_or, State.spareOctet_setCane, State.txSub_setCane, free, bne_self_eq_false, State.octLane_setCane, State.setTxSub,
    State.cane_put, State.cane_askPwr]

/-- A spare that carries a lane is not given to another. -/
theorem exec_subReq_refused (carries : s.txSub (s.spareOctet p.val (lmLane m)) ≠ 0xF) :
    exec (.subReq p) s = .next (s.setCane p.val { c with inbox := rest }) := by
  subst hc
  change execSubReq p s = _
  rw [execSubReq, State.onMsg_accepts h]
  refine congrArg Host.Outcome.next ((if_neg (no_ownRetrain own rest)).trans ?_)
  simp only [State.spareServing_setCane, serves, Bool.not_true, Bool.false_or, State.spareOctet_setCane, State.txSub_setCane, bne_iff_ne,
    carries, ne_eq, not_false_eq_true, if_true]

end subReq

theorem exec_subDone (h : Claims.accepts s p.val LM.SUB_DONE m rest) {r : SubRun} (tx : c.subTx = [r]) (lane : r.lane = lmLane m)
    (waits : c.waitRetrain = none) :
    exec (.subDone p) s = .next (s.setCane p.val { c with inbox := rest, subTx := [{ r with done := true }] }) := by
  subst hc
  change execSubDone p s = _
  rw [execSubDone, State.onMsg_accepts h]
  simp only [State.cane_setCane, tx, List.map_cons, List.map_nil, lane, if_true, State.setCane_setCane, State.releaseWaiting, waits]

theorem exec_subEnd (h : Claims.accepts s p.val LM.SUB_END m rest) {r : SubRun} (tx : c.subTx = [r]) (lane : r.lane = lmLane m)
    (serves : s.spareServes p.val (lmLane m) = true) {n : Nat} (hn : n = s.spareOctet p.val (lmLane m))
    (carries : s.txSub n = s.octLane p.val (lmLane m)) : exec (.subEnd p) s =
      .next (((s.setCane p.val { c with inbox := rest, subTx := [] }).setTxSub n 0xF).restSpare n true) := by
  subst hc hn
  change execSubEnd p s = _
  rw [execSubEnd, State.onMsg_accepts h]
  simp only [State.cane_setCane, tx, List.filter_cons, List.filter_nil, lane, bne_self_eq_false, Bool.false_eq_true, if_false,
    State.setCane_setCane, State.spareServes_setCane, serves, State.spareOctet_setCane, State.txSub_setCane, State.octLane_setCane, carries,
    beq_self_eq_true, Bool.and_self, if_true]

theorem exec_standby (h : Claims.accepts s p.val LM.STANDBY m rest) :
    exec (.standby p) s = .next (s.setCane p.val { c with inbox := rest, peerStby := true }) := by
  subst hc
  change execStandby p s = _
  rw [execStandby, State.onMsg_accepts h]
  simp only [State.cane_setCane, State.setCane_setCane]

theorem exec_twCopyPreamble {r : SubRun} {lane : Fin 16} (rx : c.subRx = [r]) (named : r.lane = lane.val) :
    exec (.twCopyPreamble p lane) s = .next (s.setCane p.val { c with subRx := [{ r with heard := true }] }) := by
  subst hc
  change execTwCopyPreamble p lane s = _
  rw [execTwCopyPreamble]
  simp only [rx, List.map_cons, List.map_nil, named, if_true]

/-! ### Commands (R296, R303) -/

theorem exec_standbyEntry (active : s.linkState p.val = CN.ACTIVE) (low : s.bit (R.CAN_CTL p.val) F.CAN_CTL_LP_EN = true)
    (awake : s.bit (R.CAN_STATUS p.val) F.CAN_STATUS_TX_STBY = false) (idle : s.caneWants p.val = false)
    (acked : s.txNext p.val = s.txAcked p.val) : exec (.standbyEntry p) s = .next (s.setCane p.val { c with outbox := c.outbox ++ [6] }) := by
  subst hc
  refine if_neg ?_
  rw [active, low, awake, idle, acked]
  simp

theorem exec_caneRetrain {w : Fin 32} {r : Fin 4} (eq : Bool) (active : s.linkState p.val = CN.ACTIVE)
    (idle : s.bit (R.CAN_STATUS p.val) F.CAN_STATUS_CMD_BUSY = false)
    (width : w.val ∈ [2, 4, 8, 16] ∧ s.minWidth p.val ≤ w.val ∧ w.val ≤ s.confWidth p.val) (rate : r.val ≤ s.caneMaxRate p.val)
    (given : r.val < 3) :
    exec (.caneRetrain p w r eq) s = .next ((s.setBit (R.CAN_STATUS p.val) F.CAN_STATUS_CMD_BUSY).setCane p.val { c with
      outbox := c.outbox ++ [lmWord 1 w.val r.val eq 0 0 0], ownRetrain := some (lmWord 1 w.val r.val eq 0 0 0) }) := by
  subst hc
  obtain ⟨power, min, max⟩ := width
  have some_width : w.val ≠ 0 := by
    rintro zero
    rw [zero] at power
    exact absurd power (by decide)
  have okW : (w.val == 0 || ([2, 4, 8, 16].contains w.val && decide (s.minWidth p.val ≤ w.val) && decide (w.val ≤ s.confWidth p.val)))
      = true := by
    rw [List.contains_iff_mem.mpr power, decide_eq_true min, decide_eq_true max, Bool.and_self, Bool.and_self, Bool.or_true]
  have okR : (r.val == 3 || decide (r.val ≤ s.caneMaxRate p.val)) = true := by
    rw [decide_eq_true rate, Bool.or_true]
  change execCaneRetrain p w r eq s = _
  rw [execCaneRetrain, okW, okR, active, idle, if_neg (by simp), if_neg some_width, if_neg (show ¬ r.val = 3 by omega), State.askRetrain]
  simp only [State.postMsg_eq, State.cane_setCane, State.setCane_setCane, State.setBit, State.cane_put]
  rfl

end messages

theorem exec_caneRetrain_refused {s : State} {p : Fin 256} (w : Fin 32) (r : Fin 4) (eq : Bool)
    (h : s.linkState p.val ≠ CN.ACTIVE ∨ s.bit (R.CAN_STATUS p.val) F.CAN_STATUS_CMD_BUSY = true) :
    exec (.caneRetrain p w r eq) s = .next (s.setBit (R.CAN_STATUS p.val) F.CAN_STATUS_BADCMD) :=
  if_pos (h.imp_right .inl)

/-! ### SUB_SWITCH (R275, R287, R295) -/

/-- The lane is taken from its spare, the port's record is set, and the SUB_DONE that went out is counted. -/
def State.subSwitched (s : State) (p o lane : Nat) (c : Cane) : State :=
  ((s.setRxSub o lane).setCane p c).bump (R.CAN_EVCNT p) F.CAN_EVCNT_SUBS 1

theorem octetOf_lt {p : Nat} (hp : p < 256) : octetOf p < 64 := Nat.div_lt_of_lt_mul hp

theorem State.spareOctet_lt (s : State) {p m : Nat} (hp : p < 256) (hm : m < 16) : s.spareOctet p m < 65 := by
  have octet := octetOf_lt hp
  rw [State.spareOctet]
  split <;> omega

theorem State.octLane_lt (s : State) (p : Nat) {m : Nat} (hm : m < 16) : s.octLane p m < 16 := by
  rw [State.octLane]
  split <;> omega

section switched
variable (s : State) {p o : Nat} (hp : p < 256) (ho : o < 65) (lane : Nat) (c : Cane)

theorem evcnt_apart (p q : Nat) : (R.CAN_STATUS p).addr ≠ (R.CAN_EVCNT q).addr := by
  simp only [R.CAN_STATUS, R.CAN_EVCNT]
  omega

theorem octstat_apart_can (ho : o < 65) (p : Nat) :
    (R.LNE_OCTSTAT o).addr ≠ (R.CAN_EVCNT p).addr ∧ (R.LNE_OCTSTAT o).addr ≠ (R.CAN_STATUS p).addr := by
  simp only [R.LNE_OCTSTAT, R.CAN_EVCNT, R.CAN_STATUS]
  omega

theorem State.subSwitched_only (p o : Nat) : Only [R.LNE_OCTSTAT o, R.CAN_EVCNT p] { s with can := (s.subSwitched p o lane c).can }
    (s.subSwitched p o lane c) := by
  have sub : Only [R.LNE_OCTSTAT o, R.CAN_EVCNT p] s (s.setRxSub o lane) := Only.put _ _ _ _ _ List.mem_cons_self
  have done : Only [R.LNE_OCTSTAT o, R.CAN_EVCNT p] ((s.setRxSub o lane).setCane p c) (s.subSwitched p o lane c) :=
    Only.put _ _ _ _ _ (by simp)
  have can : (s.subSwitched p o lane c).can = ((s.setRxSub o lane).setCane p c).can := (congrArg State.can done.1 :)
  rw [can]
  exact (sub.setCane p c).trans done

theorem State.subSwitched_cane (p o : Nat) : (s.subSwitched p o lane c).cane p = c := by
  rw [State.subSwitched, State.bump, State.cane_put, State.cane_setCane]

include ho in
theorem State.subSwitched_rxSub (p : Nat) : (s.subSwitched p o lane c).rxSub o = lane % 16 := by
  rw [State.subSwitched, State.rxSub, State.bump, State.get_put_other _ _ _ _ _ _ (octstat_apart_can ho p).1,
    State.get_congr (State.rd_setCane _ _ _ _), State.setRxSub, State.get_put_same _ _ _ _ (by decide)]
  rfl

include ho in
theorem State.subSwitched_status (q : Nat) : (s.subSwitched p o lane c).rd (R.CAN_STATUS q) = s.rd (R.CAN_STATUS q) :=
  (s.subSwitched_only lane c p o).rd_of_can (by simpa using And.intro (octstat_apart_can ho q).2.symm (evcnt_apart q p))

section lanes
include hp

/-- The settings and lanes of the port read as before. -/
theorem State.subSwitched_rd {r : RegRef} (low : r.addr < 0x3C00000) (sub : r.addr ≠ (R.LNE_OCTSTAT o).addr) :
    (s.subSwitched p o lane c).rd r = s.rd r :=
  (s.subSwitched_only lane c p o).rd_of_can (by
    have done : r.addr ≠ (R.CAN_EVCNT p).addr := by
      simp only [R.CAN_EVCNT]
      omega
    simpa using And.intro sub done)

theorem State.subSwitched_laneStat {l : Nat} (hl : l < 585) :
    (s.subSwitched p o lane c).rd (laneReg R.LNE_STAT l) = s.rd (laneReg R.LNE_STAT l) :=
  s.subSwitched_rd hp lane c (by simp only [laneReg, R.LNE_STAT]; omega) (by simp only [laneReg, R.LNE_STAT, R.LNE_OCTSTAT]; omega)

theorem State.subSwitched_caneWidth : (s.subSwitched p o lane c).caneWidth p = s.caneWidth p :=
  State.get_congr (s.subSwitched_rd hp lane c (by simp only [R.PRT_LINKSTAT]; omega) (by simp only [R.PRT_LINKSTAT, R.LNE_OCTSTAT]; omega)) _

include ho

theorem State.subSwitched_split {n : Nat} (hn : n < 64) : (s.subSwitched p o lane c).split n = s.split n :=
  State.get_congr (s.subSwitched_rd hp lane c (by simp only [R.PRT_OCTCFG]; omega)
    (by simp only [R.PRT_OCTCFG, R.LNE_OCTSTAT]; omega)) _

theorem State.subSwitched_confWidth : (s.subSwitched p o lane c).confWidth p = s.confWidth p := by
  have octet := octetOf_lt hp
  rw [State.confWidth, State.octetTaken, s.subSwitched_split hp ho lane c octet, s.subSwitched_split hp ho lane c (by omega),
    State.confWidth, State.octetTaken]

theorem State.subSwitched_spareOctet (m : Nat) : (s.subSwitched p o lane c).spareOctet p m = s.spareOctet p m := by
  rw [State.spareOctet, s.subSwitched_confWidth hp ho, State.spareOctet]

theorem State.subSwitched_octLane (m : Nat) : (s.subSwitched p o lane c).octLane p m = s.octLane p m := by
  rw [State.octLane, s.subSwitched_confWidth hp ho, State.octLane]

theorem State.subSwitched_spareServes (m : Nat) : (s.subSwitched p o lane c).spareServes p m = s.spareServes p m := by
  have octet := octetOf_lt hp
  have spare : (s.subSwitched p o lane c).rd (R.LNE_OCTCTL (octetOf p)) = s.rd (R.LNE_OCTCTL (octetOf p)) :=
    s.subSwitched_rd hp lane c (by simp only [R.LNE_OCTCTL]; omega) (by simp only [R.LNE_OCTCTL, R.LNE_OCTSTAT]; omega)
  rw [State.spareServes, State.spareOctets, State.spareOctet, s.subSwitched_confWidth hp ho, State.get_congr spare, State.spareServes,
    State.spareOctets, State.spareOctet]

theorem State.subSwitched_physLane (m : Nat) : (s.subSwitched p o lane c).physLane p m = s.physLane p m := by
  rw [State.physLane, State.physLane, State.portLanes, s.subSwitched_confWidth hp ho, ← State.portLanes]
  refine List.find?_congr fun l hl => ?_
  rw [State.get_congr (s.subSwitched_laneStat hp lane c (portLane_lt hp hl))]

end lanes

end switched

/-- A lane of a port is carried by its spare after the switch, and the others have their locks. -/
theorem State.subSwitched_lockMissing (s : State) {p lane : Nat} (hp : p < 256) (hl : lane < 16) (c : Cane) {o : Nat} (ho : o = s.spareOctet p lane)
    (serves : s.spareServes p lane = true) (locks : ∀ k, k < s.caneWidth p → k ≠ lane →
      ∃ l, s.physLane p k = some l ∧ s.bit (laneReg R.LNE_STAT l) F.LNE_STAT_LOCK = true) :
    (s.subSwitched p o (s.octLane p lane) c).lockMissing p = false := by
  have bound : o < 65 := ho ▸ s.spareOctet_lt hp hl
  rw [State.lockMissing, s.subSwitched_caneWidth hp, List.any_eq_false]
  intro k hk
  by_cases same : k = lane
  · have carried : (s.subSwitched p o (s.octLane p lane) c).subbed p k = true := by
      rw [same, State.subbed, s.subSwitched_spareServes hp bound, serves, s.subSwitched_spareOctet hp bound, ← ho,
        s.subSwitched_rxSub bound, s.subSwitched_octLane hp bound, Nat.mod_eq_of_lt (s.octLane_lt p hl), beq_self_eq_true, Bool.and_self]
    rw [carried, Bool.not_true, Bool.false_and]
    exact Bool.false_ne_true
  · obtain ⟨l, phys, lock⟩ := locks k (List.mem_range.mp hk) same
    have data : (s.subSwitched p o (s.octLane p lane) c).bit (laneReg R.LNE_STAT l) F.LNE_STAT_LOCK = true :=
      (State.bit_congr (s.subSwitched_laneStat hp _ c (portLane_lt hp (List.mem_of_find?_eq_some phys))) _).trans lock
    rw [s.subSwitched_physLane hp bound, phys]
    simp only [data, Bool.not_true, Bool.and_false, Bool.false_eq_true, not_false_eq_true]

/-- The receive hold of a port ends with a NAK, unless a lane without lock waits for a spare. -/
def State.leaveHold (u : State) (p : Nat) : State :=
  if u.bit (R.CAN_STATUS p) F.CAN_STATUS_RX_HOLD && !u.lockMissing p then
    (u.put (R.CAN_STATUS p) F.CAN_STATUS_RX_HOLD 0).put (R.CAN_STATUS p) F.CAN_STATUS_REPLAY_WAIT 1
  else u

section leaveHold
variable (u : State) (p : Nat)

theorem State.leaveHold_only : Only [R.CAN_STATUS p] u (u.leaveHold p) := by
  rw [State.leaveHold]
  split
  · exact (Only.put _ _ _ _ _ List.mem_cons_self).trans (Only.put _ _ _ _ _ List.mem_cons_self)
  · exact ⟨rfl, fun _ _ => rfl⟩

theorem State.leaveHold_hold (locked : u.lockMissing p = false) :
    (u.leaveHold p).bit (R.CAN_STATUS p) F.CAN_STATUS_RX_HOLD = false ∧
      (u.bit (R.CAN_STATUS p) F.CAN_STATUS_RX_HOLD = true → (u.leaveHold p).bit (R.CAN_STATUS p) F.CAN_STATUS_REPLAY_WAIT = true) := by
  rw [State.leaveHold, locked, Bool.not_false, Bool.and_true]
  cases held : u.bit (R.CAN_STATUS p) F.CAN_STATUS_RX_HOLD with
  | false => exact ⟨held, nofun⟩
  | true =>
    rw [if_pos rfl, State.bit_put_field _ _ _ _ _ (by decide) (by decide)]
    exact ⟨State.bit_put_zero _ _ _ (by decide) rfl, fun _ => State.bit_put_one _ _ _ (by decide) rfl⟩

end leaveHold

theorem exec_subSwitch {s : State} {p : Fin 256} {lane : Fin 16} {r : SubRun} {c : Cane} (hc : c = s.cane p.val) (rx : c.subRx = [r])
    (named : r.lane = lane.val) (notDone : r.done = false) (heard : r.heard = true) (adapted : s.adapted (9 * r.octet + 8) = true)
    (power : s.pwr (9 * r.octet + 8) false = PWR.ACTIVE) (lock : s.bit (laneReg R.LNE_STAT (9 * r.octet + 8)) F.LNE_STAT_LOCK = true) :
    exec (.subSwitch ⟨p, lane⟩) s = .next ((s.subSwitched p.val r.octet (s.octLane p.val lane.val) { c with
      subRx := [{ r with done := true }], outbox := c.outbox ++ [lmWord LM.SUB_DONE 0 0 false lane.val 0 c.chk] }).leaveHold p.val) := by
  subst hc
  change execSubSwitch ⟨p, lane⟩ s = _
  rw [execSubSwitch]
  simp only [rx, List.find?_cons, named, beq_self_eq_true, notDone, heard, adapted, power, lock, Bool.not_true, bne_self_eq_false, Bool.or_false,
    Bool.false_eq_true, if_false, List.map_cons, List.map_nil, if_true, State.postMsg_eq, State.cane_setCane, State.setCane_setCane]
  rfl

/-- The end of the hold, after a switch from `s` to `u` that left CAN_STATUS and no lane without lock. -/
theorem State.leaveHold_effect {s u : State} {p o : Nat} (ho : o < 65) (switched : Only [R.LNE_OCTSTAT o, R.CAN_EVCNT p] { s with can := u.can } u)
    (status : u.rd (R.CAN_STATUS p) = s.rd (R.CAN_STATUS p)) (locked : u.lockMissing p = false) :
    (u.leaveHold p).rxSub o = u.rxSub o ∧ (u.leaveHold p).cane p = u.cane p ∧
      (u.leaveHold p).bit (R.CAN_STATUS p) F.CAN_STATUS_RX_HOLD = false ∧
      (s.bit (R.CAN_STATUS p) F.CAN_STATUS_RX_HOLD = true → (u.leaveHold p).bit (R.CAN_STATUS p) F.CAN_STATUS_REPLAY_WAIT = true) ∧
      Only [R.LNE_OCTSTAT o, R.CAN_EVCNT p, R.CAN_STATUS p] { s with can := (u.leaveHold p).can } (u.leaveHold p) := by
  have left := u.leaveHold_only p
  have can : (u.leaveHold p).can = u.can := (congrArg State.can left.1 :)
  obtain ⟨ends, nak⟩ := u.leaveHold_hold p locked
  rw [State.bit_congr status] at nak
  have apart : ∀ x ∈ [R.CAN_STATUS p], (R.LNE_OCTSTAT o).addr ≠ x.addr := by simpa using (octstat_apart_can ho p).2
  refine ⟨State.get_congr (left.2 _ apart) _, by rw [State.cane, can, State.cane], ends, nak, ?_⟩
  rw [can]
  exact (switched.mono (by simp)).trans (left.mono (by simp))

/-- A switch of the last lane without lock takes it from its spare and ends a receive hold with a NAK. -/
theorem State.subSwitched_effect (s : State) {p lane : Nat} (hp : p < 256) (hl : lane < 16) (d : Cane) {o : Nat} (ho : o = s.spareOctet p lane)
    (serves : s.spareServes p lane = true) (locks : ∀ k, k < s.caneWidth p → k ≠ lane →
      ∃ l, s.physLane p k = some l ∧ s.bit (laneReg R.LNE_STAT l) F.LNE_STAT_LOCK = true)
    {t : State} (ht : t = (s.subSwitched p o (s.octLane p lane) d).leaveHold p) :
    t.rxSub o = s.octLane p lane % 16 ∧ (t.cane p).outbox = d.outbox ∧ t.bit (R.CAN_STATUS p) F.CAN_STATUS_RX_HOLD = false ∧
      (s.bit (R.CAN_STATUS p) F.CAN_STATUS_RX_HOLD = true → t.bit (R.CAN_STATUS p) F.CAN_STATUS_REPLAY_WAIT = true) ∧
      Only [R.LNE_OCTSTAT o, R.CAN_EVCNT p, R.CAN_STATUS p] { s with can := t.can } t := by
  have bound : o < 65 := ho ▸ s.spareOctet_lt hp hl
  obtain ⟨sub, record, ends, nak, only⟩ := State.leaveHold_effect bound (s.subSwitched_only _ d p o) (s.subSwitched_status bound _ d p)
    (s.subSwitched_lockMissing hp hl d ho serves locks)
  rw [s.subSwitched_rxSub bound] at sub
  rw [s.subSwitched_cane] at record
  rw [ht]
  exact ⟨sub, congrArg Cane.outbox record, ends, nak, only⟩

/-- Settles O22, message by message and command by command: each is one update of the port that accepted it. -/
theorem linkMessagesHaveTheirEffects : Obligations.LinkMessagesHaveTheirEffects := by
  unfold Obligations.LinkMessagesHaveTheirEffects
  intro s p m rest c hc
  refine ⟨exec_retrainReq hc, fun m' accepted => exec_retrainAck hc accepted, ?_, exec_standby hc, fun r lane => exec_twCopyPreamble hc, ?_,
    exec_standbyEntry hc, fun w r eq => exec_caneRetrain hc eq, fun w r eq => exec_caneRetrain_refused w r eq⟩
  · rintro lane n rfl rfl
    exact ⟨fun accepted own serves => ⟨exec_subReq hc accepted own serves rfl, exec_subReq_refused hc accepted own serves⟩,
      fun r accepted => exec_subDone hc accepted, fun r accepted tx lane serves => exec_subEnd hc accepted tx lane serves rfl⟩
  · intro r lane rx named octet serves notDone heard adapted power lock locks
    exact ⟨_, exec_subSwitch hc rx named notDone heard adapted power lock,
      s.subSwitched_effect p.isLt lane.isLt _ octet serves locks rfl⟩

end Sys2Proof.Machine
end
